-- ==== Sys2Proof/Word.lean ====
section
/-! DEFINITION. Word.lean: the plain word types the whole model shares, and the type of a sparse store.
Everything that computes on a sparse store is in Machine/Maps.lean. -/

namespace Sys2Proof

/-- One byte (R8: multi-byte values are little-endian sequences of these). -/
abbrev Byte := BitVec 8

/-- A 16-bit return code or den fault reason (R17, R19). -/
abbrev Code := BitVec 16

/-- A sparse store: pairs of a key and a value, keys strictly rising, no value equal to what an unlisted key reads as. -/
abbrev KMap (α : Type) := List (Nat × α)

end Sys2Proof
end

