-- ==== Sys2Proof/Syntax.lean ====
section
/-! DEFINITION. Syntax.lean: the commands of spec/opcode_table.json, one constructor a row, with their operands.
An operand is what comes from outside the block: who asks, an address, a value, the bytes host memory holds, a fact
about a check that the spec leaves to cryptography or to analogue hardware, an elapsed time. -/

namespace Sys2Proof

/-- A logical tile (R11), numbered 128 × row + column. -/
abbrev TileIx := Fin 8192
/-- A den slot (R386). -/
abbrev SlotIx := Fin 256
/-- A host queue (R487). -/
abbrev QIx := Fin 4096
/-- A fence slot (R495). -/
abbrev FenIx := Fin 65536
/-- A chip link L0 to L31 (R33). -/
abbrev LinkIx := Fin 32
/-- A well W0 to W15 (R14). -/
abbrev WellIx := Fin 16
/-- A cistern C0 to C31 (R33). -/
abbrev CisIx := Fin 32
/-- A regulated controller: wells 0 to 15, then cisterns 16 to 47 (R371). -/
abbrev CtlIx := Fin 48
/-- An interrupt target (R571). -/
abbrev TgtIx := Fin 2052
/-- A ring page of BAR0: page 0 is the host-admin's, page n + 1 is den slot n's (R452). -/
abbrev PageIx := Fin 257

/-- The halves of the compute die (R11). -/
inductive Half where
  | west | east
  deriving DecidableEq, Repr

/-- The directions of relay (R52, R133). -/
inductive Dir where
  | north | east | south | west
  deriving DecidableEq, Repr

/-- What the check bits of one stored word find when it is read: nothing, a corrected single error, an
uncorrectable error (R678). -/
inductive Upset where
  | none | single | double
  deriving DecidableEq, Repr

/-- What upsets meet the reads of one bundle: its fetch, its scratchpad load, and the codes of its seam slot, of which there are
eight (R678, R207). -/
structure Upsets where
  fetch : Upset := .none
  data : Upset := .none
  seam : List Upset := []
  deriving DecidableEq, Repr

/-- The fields of the M slot (R118) beside MOP. -/
structure MFields where
  fmt : BitVec 4
  td : BitVec 2
  ma : BitVec 7
  mb : BitVec 7
  mc : BitVec 7
  tgt : BitVec 3
  low : BitVec 4 := 0
  deriving DecidableEq, Repr

/-- The fields of the V slot (R125) beside VOP, and the predicate register where the bundle's header sets PEN (R108). -/
structure VFields where
  vd : BitVec 6
  s1 : BitVec 7
  s2 : BitVec 7
  s3 : BitVec 7
  ty : BitVec 3
  rnd : BitVec 2
  pred : Option (BitVec 4) := Option.none
  deriving DecidableEq, Repr

/-- The fields of the A slot (R129) beside AOP, and the predicate register where the bundle's header sets PEN (R108). -/
structure AFields where
  lv : BitVec 6
  la : BitVec 4
  sv : BitVec 6
  sa : BitVec 4
  linc : BitVec 4
  sinc : BitVec 4
  pred : Option (BitVec 4) := Option.none
  deriving DecidableEq, Repr

/-- What a line request does (R230). -/
inductive LineKind where
  | read | write | rmw
  deriving DecidableEq, Repr

/-- A line that the line engine asks for (R232), and how many of the next lines go with it in one transaction of a window (R344). -/
structure LineAsk where
  kind : LineKind
  more : Fin 4 := 0
  deriving DecidableEq, Repr

/-- What an access to one line does (R225, R226, R246): a read, a write of some bytes from an offset in the line, or an RMW of
whole elements: FUNC and the element type of R240, the operands and, for CAS, the compare values; or the RMW of a frame, with a
mask of the line's bytes, 64 operand bytes and 64 compare bytes (R517). -/
inductive Access where
  | read
  | write (off : Nat) (data : List Byte)
  | rmw (func ety off : Nat) (data cmp : List Byte)
  | masked (func ety mask : Nat) (data cmp : List Byte)
  deriving DecidableEq, Repr

/-- Who makes an access on the chip. -/
inductive Agent where
  | pump (t : TileIx)
  | engine (l : LinkIx)
  | hostIf
  | sett
  deriving DecidableEq, Repr

/-- A crossing that trains with failing wires (R209): row, relay or mesh, direction, how many wires fail. -/
structure SeamFail where
  row : Fin 64
  relay : Bool
  eastward : Bool
  wires : Nat
  deriving DecidableEq, Repr

/-- A spare of a well that a fault needs (R272, R274): a data or command TSV of a shaft, a row or a column group of a bank. -/
inductive SpareKind where
  | dataTsv | commandTsv
  | row (bank : Fin 64)
  | column (bank : Fin 64)
  deriving DecidableEq, Repr

/-- A fault that the training of a well finds, and repairs with one spare (R272 to R274). -/
structure WellRepair where
  well : WellIx
  shaft : Fin 512
  kind : SpareKind
  deriving DecidableEq, Repr

/-- What the MAC of a stored item finds (R304): good, wrong once and good on the second read, wrong on both reads. -/
inductive Mac where
  | good | retryGood | bad
  deriving DecidableEq, Repr

/-- What a cistern access meets on the way (R295, R296, R304 to R306, R737): the line's MAC; the tree items, by level (0 the counter
block) and number, that fail on two reads if they are read; how many copies of the cistern's root entry are found uncorrectable;
which cached items and MAC lines the controller evicts; and, where the whole page is read, what the MACs of its lines find. -/
structure CisFacts where
  line : Mac := .good
  nodes : List (Nat × Nat) := []
  roots : Nat := 0
  evict : List (Nat × Nat) := []
  evictMacs : List Nat := []
  page : List (Fin 64 × Mac) := []
  deriving DecidableEq, Repr

/-- What the check code or the protection of one local line finds when a pump operation reaches it: the location word of
the line, the symbols newly bad in a well line, what a cistern line meets, and the upset of a scratchpad word. -/
structure LineMeet where
  loc : BitVec 64
  bad : Nat := 0
  cis : CisFacts := {}
  upset : Upset := .none
  deriving DecidableEq, Repr

/-- What a pump operation meets (R247, R255, R257): the terms whose reads complete first, in that order (the others follow in
element order), the errors of the lines it touches, and how many accesses it makes before others come between; none: all that
are left. -/
structure PumpFacts where
  order : List Nat := []
  meets : List LineMeet := []
  accesses : Option Nat := Option.none
  deriving DecidableEq, Repr

/-- What a host memory read gives (R494): refused, or its bytes. -/
inductive HostRead where
  | refused
  | data (bytes : List Byte)
  deriving DecidableEq, Repr

/-- The real-time masters of a controller (R372, R374): the save and restore engine, for the den it serves, the Sett, the repair
engines. -/
inductive RtMaster where
  | save (slot : SlotIx) | sett | repair
  deriving DecidableEq, Repr

/-- What waits at a controller in one slot (R371 to R374): the slot is taken by a refresh; the shaft port of a well's slot; the dens with
a request waiting there, oldest request first; the real-time masters; the den that the save and restore engine serves; the sweep or a
rebuild; the level of the measured queue, the port's at a well; and the dens and real-time masters with a request at another port. -/
structure SlotUse where
  refresh : Bool := false
  port : Fin 512 := 0
  served : Option SlotIx := Option.none
  dens : List SlotIx := []
  rt : List RtMaster := []
  background : Bool := false
  level : Nat := 0
  elsewhere : List SlotIx := []
  rtElsewhere : List RtMaster := []
  deriving DecidableEq, Repr

/-- What a placement block's droop sensor measures of its core rail (R647): block `b` in block order, the rail in µV. -/
structure RailSample where
  block : Fin 512
  uV : Nat
  deriving DecidableEq, Repr

/-- What keeps a place occupied after a held response (R378): a pump its line slots, a link its inbound places, the host interface its DMA
slots. -/
inductive HeldAt where
  | pump (t : TileIx) | link (l : LinkIx) | host
  deriving DecidableEq, Repr

/-- What a remap copies at a time (R275, R276): how many lines, and which of them it finds that it cannot read. -/
structure RemapPart where
  well : WellIx
  lines : Nat
  unreadable : List (BitVec 22) := []
  deriving DecidableEq, Repr

/-- What a RELOCATE copies at a time (R420): the slot, how many own shafts, and what their lines meet. -/
structure MovePart where
  slot : SlotIx
  shafts : Nat
  meets : List LineMeet := []
  deriving DecidableEq, Repr

/-- The fields of the PCI Express function that a configuration request may read (R339, R479 to R482, R504): Device and Vendor ID, the class code,
Memory Space Enable, the power management status, the device capabilities and control, the error status of AER, the PASID and ATS
capabilities, the Resizable BAR of BAR4 and the link status. -/
inductive CfgReg where
  | ids | classCode | command | power | devCap | devCtl | aerUnc | aerCor | pasidCap | atsCtl | rebar | linkStatus
  deriving DecidableEq, Repr

/-- What a PCI Express configuration request writes and reads (R339, R480, R481): Memory Space Enable, the Enable bit of the ATS capability, Max
Payload Size and Max Read Request Size as PCI Express codes them, the AER status bits to clear, uncorrectable and correctable; a field to
read. -/
structure ConfigBits where
  mse : Option Bool := Option.none
  ats : Option Bool := Option.none
  mps : Option (Fin 3) := Option.none
  mrrs : Option (Fin 6) := Option.none
  aerClear : Option (BitVec 32 × BitVec 32) := Option.none
  read : Option CfgReg := Option.none
  deriving DecidableEq, Repr

/-- What a save or a restore meets (R415 to R417, R683): a tile with an uncorrectable word, if any, and whether every digest of a
save that another chip has written matches. -/
structure SaveFacts where
  unc : Option TileIx := Option.none
  meets : List LineMeet := []
  deriving DecidableEq, Repr

/-- How the scrub of one unit ends (R619): the lines of a shaft, or the pages of a reservoir range, whose zero could not be
written, by line or page number from the start of the unit. -/
structure ScrubFacts where
  fails : List Nat := []
  meets : List LineMeet := []
  deriving DecidableEq, Repr

/-- The MCTP control messages of R458: endpoint ID assignment, version and message-type discovery; the discovery commands of PLDM type 0
beside them; and the dynamic address that the bus gives the I3C target before any of them. -/
inductive MctpCmd where
  | setEid (eid : Byte)
  | getEid
  | getTypes
  | getVersion (type : Byte)
  | dynamicAddress (a : BitVec 7)
  | pldmSetTid (tid : Byte)
  | pldmGetTid
  | pldmTypes
  | pldmVersion (type : Byte)
  | pldmCommands (type : Byte)
  deriving DecidableEq, Repr

/-- A firmware image as PLDM transfers it (R460). -/
structure FwImage where
  svn : Nat
  version : Nat
  sigOk : Bool
  digest : BitVec 256
  deriving DecidableEq, Repr

/-- A frame of a chip link (R514 to R516, R518): its MAC addresses, the PCP and VLAN of its tag, its EtherType, the transport header, the
payload as it stands on the wire, and its 16-byte GCM tag, which a KEYX has not. What the FCS finds is told with its arrival. `contended` is
the mark of a window response (R431), for which R516 has no field (DESIGN CHOICE, log entry 193). -/
structure Frame where
  dmac : BitVec 48
  smac : BitVec 48
  pcp : Nat := 0
  vlan : Nat := 0
  etype : BitVec 16
  hdr : BitVec 384
  payload : List Byte
  tag : List Byte := []
  contended : Bool := false
  deriving DecidableEq, Repr

/-- Under which receive key of the pair the GCM tag of a frame verifies (R518, R520, R545): none, the pair's key, the old key
kept after a probe. -/
inductive TagKey where
  | none | live | old
  deriving DecidableEq, Repr

/-- Who writes a mailbox or an interrupt register (R566, R586). -/
inductive Writer where
  | host
  | sett (core : Fin 4)
  deriving DecidableEq, Repr

/-- The configuration registers of the interrupt controller (R565): IC_SRC_CFG of a source, IC_GRP_CFG of a group, IC_DOM of a
domain. The table has one row for writing them. -/
inductive IcReg where
  | source (n : Fin 2048)
  | group (g : Fin 64)
  | domain (d : Fin 5)
  deriving DecidableEq, Repr

/-- Where an SPDM request arrives (R604). -/
inductive SpdmTransport where
  | mctp | doe
  deriving DecidableEq, Repr

/-- The frames of the Meter link (R629): heartbeats in both directions; change frames and the RESET frame to the Meter. -/
inductive MeterKind where
  | heartbeat | change | reset
  deriving DecidableEq, Repr

/-- A frame of the Meter link that arrives (R627): at which end, of which kind, and what its CMAC finds. -/
structure MeterFrame where
  toMeter : Bool
  kind : MeterKind
  macOk : Bool
  deriving DecidableEq, Repr

/-- What the power manager sees in one microsecond (R652): the events of R473 (array cycles, vector
operations, bank accesses, relay transfers, flit hops, pump lines) of each slot's tiles, whose array cycles the model counts itself, and
of all other tiles. -/
structure PowerFacts where
  slots : List (SlotIx × List Nat)
  other : List Nat
  deriving DecidableEq, Repr

/-- A group of sensors (R662). -/
inductive SensorGroup where
  | die | well | floor | cistern | water
  deriving DecidableEq, Repr

/-- A scratchpad bank (0 to 15) or an array of the instruction store (16 to 23) at a physical position, and the spare rows and column
groups that the faults a march finds there need besides those already assigned (R677). -/
structure SramNeed where
  col : Fin 132
  row : Fin 64
  arr : Fin 24
  rows : Nat
  cols : Nat
  deriving DecidableEq, Repr

/-- The same of a secure SRAM array of a half (R677, R680). -/
structure SettNeed where
  arr : Fin 16
  rows : Nat
  cols : Nat
  deriving DecidableEq, Repr

/-- What a march run finds (R677, R685, R686). -/
structure MarchFacts where
  needs : List SramNeed := []
  sett : List SettNeed := []
  deriving DecidableEq, Repr

/-- What a half reset finds when it brings its half back (R718): wells that fail training, the spares that their training uses,
crossings that train with failing wires, and what the march finds. -/
structure HalfFacts where
  wells : List WellIx := []
  repairs : List WellRepair := []
  seam : List SeamFail := []
  march : MarchFacts := {}
  deriving DecidableEq, Repr

/-- Through which front end a dictionary request comes (R452 to R460): a ring page, the tray's management bus, a fabric
peer of a job, or a secured session of the host. -/
inductive FrontEnd where
  | page (p : PageIx)
  | tray
  | fabric (src : BitVec 24) (job : BitVec 32)
  | secured (id : Nat)
  deriving DecidableEq, Repr

/-- A dictionary request's header (R448): its front end, OP, TAG, INDEX, ELEMENT and LENGTH, and whether its reserved fields
are zero. -/
structure Req where
  fe : FrontEnd
  opc : Byte
  tag : BitVec 16
  index : BitVec 16
  element : Byte
  len : BitVec 16
  clean : Bool := true
  deriving DecidableEq, Repr

/-- Who causes a reset (R688): a dictionary write or the chip itself, for a fault reason. -/
inductive ResetBy where
  | request (q : Req) (v : List Byte)
  | chip (cause : Code)
  deriving DecidableEq, Repr

/-- The commands: one constructor for each row of spec/opcode_table.json. -/
inductive Instr where
  /-- NEXT (R106): A tile issues a bundle whose CTL is NEXT, running its slots and scheduling an idle run of ARG
  empty bundles before the next address. -/
  | next (t : TileIx) (u : Upsets)
  /-- BR (R106): A conditional branch is taken when the named den-uniform predicate matches sense. -/
  | br (t : TileIx) (u : Upsets)
  /-- JMP (R106): An unconditional jump goes to ADDR and closes every loop whose body does not contain the
  target. -/
  | jmp (t : TileIx) (u : Upsets)
  /-- LOOP (R111): A hardware loop opens with the body a+1 to ADDR executed COUNT times. -/
  | loop (t : TileIx) (u : Upsets)
  /-- CALL (R113): The next address is pushed on the call stack and the stream goes to ADDR. -/
  | call (t : TileIx) (u : Upsets)
  /-- RET (R113): The call stack is popped and the stream goes to the popped address. -/
  | ret (t : TileIx) (u : Upsets)
  /-- HALT (R116): The step ends: later-due pump tags are checked at the HALT bundle and drain cycles follow. -/
  | halt (t : TileIx) (u : Upsets)
  /-- EMPTY_BUNDLE (R107): One empty bundle of an idle run is issued, advancing the bundle number and the
  pipelines and being due-checked. -/
  | emptyBundle (t : TileIx) (u : Upsets)
  /-- THROTTLE_BUNDLE (R658): The origin inserts a throttle bundle that travels with the wave and counts as a
  bundle. -/
  | throttleBundle (t : TileIx) (u : Upsets)
  /-- DRAIN_CYCLE (R116): After HALT the tile runs a non-bundle cycle that advances the fixed-latency pipelines
  until the last result has landed. -/
  | drainCycle (t : TileIx)
  /-- FIXED_RESULT_LAND (R103): A fixed-latency result, vote result or held pump register result becomes visible
  in step 2 of its landing bundle. -/
  | fixedResultLand (t : TileIx)
  /-- MNOP (R119): A matrix slot no-operation. -/
  | mnop (t : TileIx) (f : MFields)
  /-- MMA (R119): The matrix unit accumulates A times B onto block TD in the format's mode. -/
  | mma (t : TileIx) (f : MFields)
  /-- MMAZ (R119): The matrix unit writes A times B into block TD, superseding earlier operations in flight. -/
  | mmaz (t : TileIx) (f : MFields)
  /-- MZERO (R119): Block TD is set to zero mode. -/
  | mzero (t : TileIx) (f : MFields)
  /-- MRD (R123): One accumulator row group is read out, converted, into a V register. -/
  | mrd (t : TileIx) (f : MFields)
  /-- VNOP (R127): A vector slot no-operation. -/
  | vnop (t : TileIx) (f : VFields)
  /-- VADD (R178): Element-wise addition. -/
  | vadd (t : TileIx) (f : VFields)
  /-- VSUB (R178): Element-wise subtraction. -/
  | vsub (t : TileIx) (f : VFields)
  /-- VMUL (R178): Element-wise multiplication. -/
  | vmul (t : TileIx) (f : VFields)
  /-- VFMA (R178): Fused multiply-add with a single rounding. -/
  | vfma (t : TileIx) (f : VFields)
  /-- VFMS (R178): Fused multiply-subtract. -/
  | vfms (t : TileIx) (f : VFields)
  /-- VFNMA (R178): Negated fused multiply-add. -/
  | vfnma (t : TileIx) (f : VFields)
  /-- VMIN (R179): Element-wise minimumNumber. -/
  | vmin (t : TileIx) (f : VFields)
  /-- VMAX (R179): Element-wise maximumNumber. -/
  | vmax (t : TileIx) (f : VFields)
  /-- VABS (R179): Element-wise absolute value. -/
  | vabs (t : TileIx) (f : VFields)
  /-- VNEG (R179): Element-wise negation. -/
  | vneg (t : TileIx) (f : VFields)
  /-- VRCP (R181): Reciprocal estimate. -/
  | vrcp (t : TileIx) (f : VFields)
  /-- VRSQ (R181): Reciprocal square root estimate. -/
  | vrsq (t : TileIx) (f : VFields)
  /-- VCMPEQ (R180): Quiet equality comparison written into a predicate. -/
  | vcmpeq (t : TileIx) (f : VFields)
  /-- VCMPLT (R180): Quiet less-than comparison written into a predicate. -/
  | vcmplt (t : TileIx) (f : VFields)
  /-- VCMPLE (R180): Quiet less-or-equal comparison written into a predicate. -/
  | vcmple (t : TileIx) (f : VFields)
  /-- VCVT (R182): Element conversion between types. -/
  | vcvt (t : TileIx) (f : VFields)
  /-- VSEL (R127): Per-element select by predicate. -/
  | vsel (t : TileIx) (f : VFields)
  /-- VCMUL (R184): Complex multiplication occupying the vector unit for two bundles. -/
  | vcmul (t : TileIx) (f : VFields)
  /-- VCFMA (R184): Complex fused multiply-add. -/
  | vcfma (t : TileIx) (f : VFields)
  /-- VCONJ (R127): Complex conjugate. -/
  | vconj (t : TileIx) (f : VFields)
  /-- VIADD (R185): Wrapping integer addition. -/
  | viadd (t : TileIx) (f : VFields)
  /-- VISUB (R185): Wrapping integer subtraction. -/
  | visub (t : TileIx) (f : VFields)
  /-- VIMUL (R185): Integer multiplication keeping the low half. -/
  | vimul (t : TileIx) (f : VFields)
  /-- VAND (R127): Bitwise AND. -/
  | vand (t : TileIx) (f : VFields)
  /-- VOR (R127): Bitwise OR. -/
  | vor (t : TileIx) (f : VFields)
  /-- VXOR (R127): Bitwise XOR. -/
  | vxor (t : TileIx) (f : VFields)
  /-- VSHL (R185): Vector shift left. -/
  | vshl (t : TileIx) (f : VFields)
  /-- VSHR (R185): Vector logical shift right. -/
  | vshr (t : TileIx) (f : VFields)
  /-- VSRA (R185): Vector arithmetic shift right. -/
  | vsra (t : TileIx) (f : VFields)
  /-- VBCAST (R127): One element is broadcast to every element. -/
  | vbcast (t : TileIx) (f : VFields)
  /-- VPERM (R127): Elements are permuted by an index vector taken modulo n. -/
  | vperm (t : TileIx) (f : VFields)
  /-- VREDSUM (R183): Balanced-tree sum of all elements into element 0. -/
  | vredsum (t : TileIx) (f : VFields)
  /-- SADD (R127): Scalar addition. -/
  | sadd (t : TileIx) (f : VFields)
  /-- SSUB (R127): Scalar subtraction. -/
  | ssub (t : TileIx) (f : VFields)
  /-- SMUL (R185): Scalar multiplication, low 64 bits. -/
  | smul (t : TileIx) (f : VFields)
  /-- SAND (R127): Scalar AND. -/
  | sand (t : TileIx) (f : VFields)
  /-- SOR (R127): Scalar OR. -/
  | sor (t : TileIx) (f : VFields)
  /-- SXOR (R127): Scalar XOR. -/
  | sxor (t : TileIx) (f : VFields)
  /-- SSHL (R185): Scalar shift left. -/
  | sshl (t : TileIx) (f : VFields)
  /-- SSHR (R185): Scalar logical shift right. -/
  | sshr (t : TileIx) (f : VFields)
  /-- SADDI (R127): Scalar add of a sign-extended immediate. -/
  | saddi (t : TileIx) (f : VFields)
  /-- SLI (R127): Scalar load of a sign-extended immediate. -/
  | sli (t : TileIx) (f : VFields)
  /-- SLUI (R127): Shift the destination left by 14 and OR in the immediate. -/
  | slui (t : TileIx) (f : VFields)
  /-- SCMPEQ (R127): Scalar equality written into a predicate. -/
  | scmpeq (t : TileIx) (f : VFields)
  /-- SCMPLT (R185): Signed scalar less-than written into a predicate. -/
  | scmplt (t : TileIx) (f : VFields)
  /-- SMOVV (R127): A vector element is moved into a scalar register. -/
  | smovv (t : TileIx) (f : VFields)
  /-- SMOVS (R127): A scalar replaces one element of a vector. -/
  | smovs (t : TileIx) (f : VFields)
  /-- SSTAT (R128): A status item such as the bundle number, skew, span, MSTAT or Z is read. -/
  | sstat (t : TileIx) (f : VFields)
  /-- PSET (R127): A predicate is set to all ones or all zeros. -/
  | pset (t : TileIx) (f : VFields)
  /-- PAND (R127): Predicate AND. -/
  | pand (t : TileIx) (f : VFields)
  /-- POR (R127): Predicate OR. -/
  | por (t : TileIx) (f : VFields)
  /-- PNOT (R127): Predicate NOT. -/
  | pnot (t : TileIx) (f : VFields)
  /-- ANOP (R130): An address slot no-operation. -/
  | anop (t : TileIx) (f : AFields)
  /-- LD (R130): A 64-byte scratchpad load into a V register. -/
  | ld (t : TileIx) (f : AFields) (u : Upset)
  /-- ST (R130): A 64-byte scratchpad store from a V register. -/
  | st (t : TileIx) (f : AFields) (u : Upset)
  /-- LDST (R130): A load and a store in one bundle. -/
  | ldst (t : TileIx) (f : AFields) (u : Upset)
  /-- LDS (R130): An 8-byte scratchpad load into a scalar register. -/
  | lds (t : TileIx) (f : AFields) (u : Upset)
  /-- STS (R130): An 8-byte scratchpad store from a scalar register. -/
  | sts (t : TileIx) (f : AFields) (u : Upset)
  /-- BANKCTL (R60): The stream changes the state of masked banks of its own tile. -/
  | bankctl (t : TileIx) (mask : BitVec 16) (st : BitVec 2)
  /-- XNOP (R133): A relay slot no-operation whose consume mask still acts. -/
  | xnop (t : TileIx) (consume : BitVec 4)
  /-- SEND (R134): A relay value is sent h hops in each masked direction. -/
  | send (t : TileIx) (consume dirs : BitVec 4) (src hops : BitVec 7)
  /-- VOTE (R90): A den-wide AND, OR, UMAX, UMIN or SUM vote whose result lands at t+2K. -/
  | vote (t : TileIx) (consume : BitVec 4) (kind : BitVec 3) (src : BitVec 7) (dst : BitVec 6)
  /-- PSETU (R136): A den-uniform predicate is set. -/
  | psetu (t : TileIx) (consume : BitVec 4) (q : BitVec 2) (value : Bool)
  /-- PNOP (R139): A pump slot no-operation. -/
  | pnop (t : TileIx)
  /-- ISSUE_V (R139): The pump accepts a descriptor taken from a V register on a tag. -/
  | issueV (t : TileIx) (tag : Fin 16) (lat : BitVec 16) (v : BitVec 6)
  /-- ISSUE_A (R139): The pump accepts a descriptor read from the scratchpad on a tag. -/
  | issueA (t : TileIx) (tag : Fin 16) (lat : BitVec 16) (a inc : BitVec 4) (u : Upset)
  /-- PORD (R258): An ordering point notes the operations in flight on the masked tags. -/
  | pord (t : TileIx) (mask : BitVec 16)
  /-- COPY (R240): The pump copies bytes from source to destination. -/
  | copy (t : TileIx) (tag : Fin 16) (f : PumpFacts)
  /-- GATHER (R245): The pump reads strided or indexed elements and packs them. -/
  | gather (t : TileIx) (tag : Fin 16) (f : PumpFacts)
  /-- SCATTER (R245): The pump writes packed elements to strided or indexed places. -/
  | scatter (t : TileIx) (tag : Fin 16) (f : PumpFacts)
  /-- RMW (R246): The pump applies an atomic function to indexed target rows at their controllers. -/
  | rmw (t : TileIx) (tag : Fin 16) (f : PumpFacts)
  /-- SEGRED (R247): The pump performs segmented reductions. -/
  | segred (t : TileIx) (tag : Fin 16) (f : PumpFacts)
  /-- STENCIL (R249): The pump streams planes of a box into a scratchpad ring. -/
  | stencil (t : TileIx) (tag : Fin 16) (f : PumpFacts)
  /-- SPMV (R248): The pump computes a sparse matrix-vector product. -/
  | spmv (t : TileIx) (tag : Fin 16) (f : PumpFacts)
  /-- EMBED (R247): The pump sums, averages or takes the maximum of embedding bags. -/
  | embed (t : TileIx) (tag : Fin 16) (f : PumpFacts)
  /-- HIST (R250): The pump builds a histogram. -/
  | hist (t : TileIx) (tag : Fin 16) (f : PumpFacts)
  /-- COMPRESS (R251): The pump packs non-zero blocks and writes a mask. -/
  | compress (t : TileIx) (tag : Fin 16) (f : PumpFacts)
  /-- EXPAND (R251): The pump expands packed blocks by a mask. -/
  | expand (t : TileIx) (tag : Fin 16) (f : PumpFacts)
  /-- CONVERT (R252): The pump converts elements between formats, including MX formats. -/
  | convert (t : TileIx) (tag : Fin 16) (f : PumpFacts)
  /-- MERGE (R253): The pump merges two sorted runs. -/
  | merge (t : TileIx) (tag : Fin 16) (f : PumpFacts)
  /-- PUMP_LINE_REQUEST (R232): The line engine issues the next line request of an active descriptor in round-
  robin. -/
  | pumpLineRequest (t : TileIx) (loc : BitVec 64) (k : LineAsk)
  /-- FILL_RESPONSE (R327): The directory's fill answer arrives and the waiting descriptor resumes or ends with
  EXT_NONE. -/
  | fillResponse (who : Agent) (tag : Fin 16)
  /-- PUMP_LINE_RESPONSE (R259): A line read, write acknowledgement or error returns to the pump. -/
  | pumpLineResponse (t : TileIx) (tag : Fin 16) (own : Bool) (st : Code) (loc : BitVec 64) (data : List Byte) (delayed : Bool)
  /-- PUMP_COMPLETE (R259): A pump operation completes when every read has returned and every write is
  acknowledged. -/
  | pumpComplete (t : TileIx) (tag : Fin 16)
  /-- HOLD_EXPIRY (R378): A held slot is released after its hold H. -/
  | holdExpiry (at_ : HeldAt) (own : Bool)
  /-- PUMP_OWL_EXPIRY (R687): A pump operation's owl expires and the operation completes with TIMEOUT. -/
  | pumpOwlExpiry (t : TileIx) (tag : Fin 16)
  /-- PUMP_TAG_RESET (R687): A tag still busy 10 µs after a pump timeout resets the pump at level 2. -/
  | pumpTagReset (t : TileIx) (tag : Fin 16)
  /-- RELAY_ARRIVAL (R55): A relay value arrives at a latch and joins its four-entry arrival queue. -/
  | relayArrival (t : TileIx) (d : Dir)
  /-- FREEZE_SIGNAL (R79): A tile receives a freeze signal, withholds its bundle and forwards the signal. -/
  | freezeSignal (t : TileIx) (came : Dir)
  /-- CLEAR_REPORT (R81): A tile receives a clear or error report from a neighbour and, once clear, reports
  onward. -/
  | clearReport (t : TileIx) (came : Dir)
  /-- RESUME_SIGNAL_SEND (R83): The origin becomes clear and sends the resume signal carrying B. -/
  | resumeSignalSend (s : SlotIx) (waited : Nat)
  /-- RESUME_SIGNAL (R84): A frozen tile receives the resume signal and starts its countdown. -/
  | resumeSignal (t : TileIx)
  /-- RESUME_COUNTDOWN_EXPIRY (R84): The countdown ends and the tile issues its held bundle. -/
  | resumeCountdownExpiry (t : TileIx)
  /-- STREAM_OWL_EXPIRY (R89): The den stream owl expires during a slip and the den becomes FAULTED with
  TIMEOUT. -/
  | streamOwlExpiry (s : SlotIx) (frozen : Nat)
  /-- SEAM_FOLLOW_ENGAGE (R211): The seam follow engages when |D| reaches 1 and stretches the leading half. -/
  | seamFollowEngage (p : Rat)
  /-- SEAM_FOLLOW_RELEASE (R211): The follow stretch is released when P returns to zero. -/
  | seamFollowRelease (cycles : Nat)
  /-- SEAM_TRAINING (R209): The seam is trained, replacing failing wires with spares or taking crossings out of
  service. -/
  | seamTraining (fails : List SeamFail)
  /-- WELL_ACCESS (R261): A well controller serves a line access in arrival order with check-code correction. -/
  | wellAccess (a : BitVec 41) (k : Access) (who : Agent) (bad : Nat)
  /-- REFRESH (R228): A well row is refreshed on the 32 ms or 16 ms schedule. -/
  | refresh (w : WellIx) (shaft : Fin 512) (bank : Fin 64)
  /-- PATROL_SCRUB (R227): The patrol reads the next line and rewrites or records it. -/
  | patrolScrub (w : WellIx) (bad : Nat)
  /-- ROW_REPAIR (R273): A row with corrected errors on four lines is copied to a spare row. -/
  | rowRepair (w : WellIx) (shaft : Fin 512) (bank : Fin 64) (row : Fin 2048)
  /-- REMAP_REQ (R279): A host-admin write starts a shaft remap. -/
  | remapReq (q : Req) (v : List Byte)
  /-- REMAP_START (R274): The floor begins copying a shaft to a spare. -/
  | remapStart (w : WellIx) (shaft : Fin 512) (spare : Fin 16)
  /-- REMAP_COPY_END (R275): The shaft copy ends and the spare serves the whole shaft. -/
  | remapCopyEnd (p : RemapPart)
  /-- CISTERN_ACCESS (R309): A cistern controller serves a protected line access with decryption and MAC and
  tree verification. -/
  | cisternAccess (a : BitVec 42) (k : Access) (who : Agent) (f : CisFacts)
  /-- ROLL_REQ (R316): A host-admin write of 1 starts a key epoch roll. -/
  | rollReq (q : Req) (v : List Byte)
  /-- ROLL_KEY_LOAD (R298): A controller receives the new key in its free slot and starts its part of the roll.
  -/
  | rollKeyLoad (c : CisIx)
  /-- SWEEP_STEP (R300): The sweep re-encrypts or relabels the next page within its rate limit. -/
  | sweepStep (c : CisIx) (f : CisFacts)
  /-- ROLL_END (R302): All controllers have swept, the old key is destroyed and EPOCH rises. -/
  | rollEnd
  /-- REBUILD (R307): Once no extent overlaps a fenced range, the controller rebuilds the tree over it. -/
  | rebuild (c : CisIx) (i : Nat)
  /-- REBUILD_END (R307): The rebuild ends and the range returns as zero lines, or retires. -/
  | rebuildEnd (c : CisIx) (ok : Bool)
  /-- REG_SLOT (R374): In each available slot a controller updates balances and grants one request by order. -/
  | regSlot (k : CtlIx) (cls : SlotUse)
  /-- MON_WINDOW_END (R382): A monitor window ends and a guarantee miss may be counted and signalled. -/
  | monWindowEnd (k : CtlIx)
  /-- VC0_EJECT (R370): A VC0 flit is ejected and its stamp updates VC0_PEAK. -/
  | vc0Eject (i : Nat)
  /-- REPORT_MERGE (R368): A router merges two report flits of the same kind and sequence. -/
  | reportMerge (r : Fin 8448) (i j : Nat)
  /-- ROUTE_COMPUTE (R364): Routes are computed from the repair map while they carry no traffic. -/
  | routeCompute
  /-- EXT_GRANT (R324): An extent grant is checked and entered in both directory copies. -/
  | extGrant (q : Req) (v : List Byte)
  /-- EXT_REVOKE (R335): An extent is removed, invalidated in every cache and drained before OK. -/
  | extRevoke (q : Req) (v : List Byte)
  /-- EXT_RESIZE (R335): An extent's length is grown at once or shrunk with invalidation. -/
  | extResize (q : Req) (v : List Byte)
  /-- EXT_INVALIDATE (R335): A tile or engine receives an invalidation, drops the entry and reports after its
  drain. -/
  | extInvalidate (s : SlotIx) (who : Agent)
  /-- INVALIDATION_DONE (R335): The last invalidation report arrives and the shrink or revoke returns OK. -/
  | invalidationDone (s : SlotIx)
  /-- ATS_INVALIDATE (R342): An ATS Invalidate Request stops use of the matching entries, and the completion
  follows the drain. -/
  | atsInvalidate (pasid : BitVec 20) (base : BitVec 64) (len : Nat)
  /-- ATS_TRANSLATION (R340): An ATS translation completion fills the translation cache and releases the waiting
  access. -/
  | atsTranslation (pasid : BitVec 20) (page : BitVec 64) (rd wr : Bool) (xlat : BitVec 64)
  /-- WIN_OPEN (R343): A window entry is opened in every floor's copy of the table. -/
  | winOpen (q : Req) (v : List Byte)
  /-- WIN_CLOSE (R349): A window entry's OPEN and VALID are cleared. -/
  | winClose (q : Req) (v : List Byte)
  /-- BUSY_RESEND (R348): One microsecond after BUSY the sender resends the transaction. -/
  | busyResend (l : LinkIx) (tx : Nat)
  /-- WINDOW_OWL_EXPIRY (R687): A window transaction's owl expires with TIMEOUT and its pair key becomes
  SUSPECT. -/
  | windowOwlExpiry (l : LinkIx) (tx : Nat)
  /-- RESERVE (R395): A FREE slot is given a checked rectangle and becomes RESERVED. -/
  | reserve (s : SlotIx)
  /-- LOAD (R403): An image is read, checked for fit and loaded, and the slot becomes LOADED. -/
  | load (s : SlotIx) (img : HostRead) (digestOk : Bool)
  /-- START (R405): A LOADED den becomes RUNNING. -/
  | start (s : SlotIx)
  /-- FREEZE (R407): A freeze message makes the origin a freeze source. -/
  | freeze (s : SlotIx) (ran : Nat)
  /-- RESUME (R411): The origin sends the resume signal and the den becomes RUNNING. -/
  | resume (s : SlotIx) (waited : Nat)
  /-- SAVE (R416): Every tile writes its save record and the header is written. -/
  | save (s : SlotIx) (f : SaveFacts)
  /-- RESTORE (R417): A save is checked and loaded and the den becomes FROZEN. -/
  | restore (s : SlotIx) (img : HostRead) (digestOk : Bool) (f : SaveFacts)
  /-- RELOCATE (R420): A FROZEN den's tile state and shafts are copied to a new rectangle. -/
  | relocate (p : MovePart)
  /-- RESHAPE (R421): At a reshape point the den is reloaded in a new shape. -/
  | reshape (s : SlotIx) (img : HostRead) (digestOk : Bool)
  /-- RELEASE (R429): The slot is taken through DRAINING, with any command in flight cancelled. -/
  | release (s : SlotIx)
  /-- COPY_OUT (R422): A whole holding is written to an outbound window. -/
  | copyOut (s : SlotIx) (ms : List LineMeet)
  /-- CMD_COMPLETE (R394): A den command completes, writes CMD_RESULT, advances CMD_SEQ, signals its fence and
  raises its source. -/
  | cmdComplete (s : SlotIx)
  /-- DEN_FROZEN (R408): Once every tile is frozen and the pumps, windows and caches have drained, the den
  becomes FROZEN. -/
  | denFrozen (s : SlotIx)
  /-- SETT_FREEZE (R396): The Sett freezes a RUNNING den without a command. -/
  | settFreeze (s : SlotIx) (ran : Nat)
  /-- STEP_START (R405): A step-start message enters at the origin and travels with the wave. -/
  | stepStart (s : SlotIx) (waited : Nat)
  /-- STEP_END (R405): All tiles' stop reports have arrived and the step ends. -/
  | stepEnd (s : SlotIx)
  /-- DRAIN_END (R429): DRAINING completes and the slot becomes SCRUBBING. -/
  | drainEnd (s : SlotIx)
  /-- SCRUB_END (R430): A shaft or holding scrub ends and returns capacity, freeing the slot after the last one.
  -/
  | scrubEnd (s : SlotIx) (i : Nat) (f : ScrubFacts)
  /-- HOLD_ADD (R389): A physical holding is added to a slot. -/
  | holdAdd (q : Req) (v : List Byte)
  /-- HOLD_REMOVE (R391): A holding is removed and sent to the scrub. -/
  | holdRemove (q : Req) (v : List Byte)
  /-- BANK_CTL (R435): The host changes the state of scratchpad banks of a LOADED or FROZEN den. -/
  | bankCtl (q : Req) (v : List Byte)
  /-- SAVE_AREA (R412): A write sets the slot's save area after checks. -/
  | saveArea (q : Req) (v : List Byte)
  /-- LINK_BUDGET (R424): A write replaces the slot's 32 link budgets. -/
  | linkBudget (q : Req) (v : List Byte)
  /-- GUARANTEE (R375): A write raises or lowers a den's guarantee at a controller. -/
  | guarantee (q : Req) (v : List Byte)
  /-- SDI_WINDOW_END (R433): A slow-down window ends and SDI and SDI_MISSES are written. -/
  | sdiWindowEnd (s : SlotIx)
  /-- DICT_READ (R449): A dictionary READ returns an element's value. -/
  | dictRead (q : Req)
  /-- DICT_WRITE (R449): A dictionary WRITE to an element with no row of its own sets the value. -/
  | dictWrite (q : Req) (v : List Byte)
  /-- DICT_DESCRIBE (R449): A DESCRIBE returns type, size, access and persistence. -/
  | dictDescribe (q : Req)
  /-- DICT_NEXT (R450): A NEXT returns the next accessible implemented element. -/
  | dictNext (q : Req)
  /-- DICT_SNAPSHOT (R450): A SNAPSHOT returns every readable element of an object at one instant. -/
  | dictSnapshot (q : Req)
  /-- PERSIST_COMMIT (R446): A persistent write's flash commit ends and its response is sent. -/
  | persistCommit (ok : Bool)
  /-- DICT_OWL_EXPIRY (R465): An unanswered request is answered TIMEOUT by its front end. -/
  | dictOwlExpiry (q : Req)
  /-- HIF_DRQ_TAIL (R454): A host write of the request tail rings the doorbell of a ring page. -/
  | hifDrqTail (p : PageIx) (v : BitVec 32)
  /-- HIF_DRS_HEAD (R452): A host write advances the response head and frees ring room. -/
  | hifDrsHead (p : PageIx) (v : BitVec 32)
  /-- EMPTY (R453): A write of EMPTY discards a disabled page's rings and resets its pointers. -/
  | empty (p : PageIx)
  /-- DICT_SEGMENT (R529): A DICT frame segment arrives and is reassembled by source, job and message number. -/
  | dictSegment (l : LinkIx)
  /-- DICT_REASSEMBLY_TIMEOUT (R529): An incomplete dictionary message is discarded 100 µs after its first
  segment. -/
  | dictReassemblyTimeout (src : BitVec 24) (job : BitVec 32) (msg : BitVec 16)
  /-- MCTP_CONTROL (R458): An MCTP control message is served by the AON island. -/
  | mctpControl (cmd : MctpCmd)
  /-- VENDOR_DICT_MESSAGE (R459): A type 0x7E MCTP message carries one dictionary message with role tray. -/
  | vendorDictMessage (vendorOk : Bool) (bytes : List Byte)
  /-- PLDM_FIRMWARE_UPDATE (R460): PLDM type 5 writes and verifies the inactive firmware bank. -/
  | pldmFirmwareUpdate (f : FwImage)
  /-- DEFAULTS_RESTORE (R469): Every persistent element except the calibration set returns to its default in one
  commit. -/
  | defaultsRestore (q : Req) (v : List Byte)
  /-- CAL_IMPORT (R477): A signed factory calibration container is verified and installed. -/
  | calImport (q : Req) (v : List Byte) (sigOk : Bool)
  /-- CALIBRATION_WRITE (R475): A calibration element is replaced and CAL_ORIGIN and HEALTH bit 9 are set. -/
  | calibrationWrite (q : Req) (v : List Byte)
  /-- SEAM_CTL (R215): A write of FOLLOW turns the seam follow on or off, with 0 to 1 zeroing P. -/
  | seamCtl (q : Req) (v : List Byte)
  /-- SUBMISSION_DOORBELL (R485): A HIF_DB write of KIND 0 sets a queue's submission tail. -/
  | submissionDoorbell (page : SlotIx) (v : BitVec 32)
  /-- COMPLETION_DOORBELL (R485): A HIF_DB write of KIND 1 sets a queue's completion head. -/
  | completionDoorbell (page : SlotIx) (v : BitVec 32)
  /-- STEP (R492): A STEP submission entry is taken, waits on its fence and becomes the slot's next step. -/
  | step (q : QIx) (entry : HostRead) (batch : HostRead)
  /-- FENCE_ENTRY (R492): A FENCE submission entry waits and signals without a step. -/
  | fenceEntry (q : QIx) (entry : HostRead)
  /-- WAIT_OWL_EXPIRY (R492): A queue's wait owl expires and the entry completes with TIMEOUT. -/
  | waitOwlExpiry (q : QIx)
  /-- COMPLETION_RECORD_WRITE (R493): Once the completion ring has room, the record is written, the fence
  signalled and the source raised. -/
  | completionRecordWrite (q : QIx)
  /-- QUEUE_CREATE (R490): A queue is bound to a slot and made ACTIVE. -/
  | queueCreate (q : Req) (v : List Byte)
  /-- QUEUE_STOP (R488): QUEUE_CTL STOP stops an ACTIVE queue. -/
  | queueStop (q : Req) (v : List Byte)
  /-- QUEUE_START (R488): QUEUE_CTL START restarts a STOPPED queue. -/
  | queueStart (q : Req) (v : List Byte)
  /-- QUEUE_DISCARD (R488): QUEUE_CTL DISCARD completes pending entries with DISCARDED. -/
  | queueDiscard (q : Req) (v : List Byte) (entries : List HostRead)
  /-- QUEUE_DESTROY (R488): A STOPPED queue is disabled and its entries dropped. -/
  | queueDestroy (q : Req) (v : List Byte)
  /-- FEN_SIGNAL (R496): A fence signal from any source is applied if it advances the value, otherwise counted
  stale. -/
  | fenSignal (f : FenIx) (v : BitVec 64) (wide : Bool)
  /-- FEN_SIGNAL_ALIAS (R499): A PCI Express write to a fence's alias page signals it when PCI export is set. -/
  | fenSignalAlias (f : FenIx) (v : BitVec 64) (wide : Bool)
  /-- FEN_CREATE (R500): A fence slot is made LIVE with an initial value. -/
  | fenCreate (q : Req) (v : List Byte)
  /-- FEN_REF (R500): A reference is added to a fence. -/
  | fenRef (q : Req) (v : List Byte)
  /-- FEN_UNREF (R500): A reference is dropped, freeing the fence after the last. -/
  | fenUnref (q : Req) (v : List Byte)
  /-- FEN_EXPORT (R500): A fence's PCI and fabric export flags and job are set. -/
  | fenExport (q : Req) (v : List Byte)
  /-- OWNER_TEARDOWN (R501): A dead process's queues, fences, references, aperture entries and slots are torn
  down. -/
  | ownerTeardown (q : Req) (v : List Byte)
  /-- APER_MAP (R502): An aperture entry maps a BAR4 range onto a den's virtual range. -/
  | aperMap (q : Req) (v : List Byte)
  /-- APER_UNMAP (R503): An aperture entry is removed after its translated accesses drain. -/
  | aperUnmap (q : Req) (v : List Byte)
  /-- APERTURE_ACCESS (R503): A BAR4 access is translated and served or refused. -/
  | apertureAccess (off : BitVec 42) (k : Access) (m : LineMeet)
  /-- FUNCTION_LEVEL_RESET (R506): An FLR tears down every owner and resets queues, fences, aperture and rings.
  -/
  | functionLevelReset
  /-- D3HOT_ENTRY (R504): Entry to D3hot stops queue intake, freezes running dens and refuses aperture accesses.
  -/
  | d3hotEntry
  /-- D0_RETURN (R504): On return to D0 ACTIVE queues resume taking entries. -/
  | d0Return
  /-- PERST_ASSERT (R505): Assertion of PERST# or D3cold resets the chip. -/
  | perstAssert (d3cold : Bool)
  /-- SLOT_OWNER (R501): A write sets the owner ID of a slot. -/
  | slotOwner (q : Req) (v : List Byte)
  /-- LINK_UP (R509): A link completes training and comes up. -/
  | linkUp (l : LinkIx) (lanes : BitVec 9)
  /-- LINK_DOWN (R512): A link goes down, losing its frames in transit, and retrains. -/
  | linkDown (l : LinkIx) (lane : Option (Fin 9))
  /-- SPARE_SWAP (R511): A failing lane's data moves onto the spare lane. -/
  | spareSwap (l : LinkIx) (lane : Fin 8)
  /-- FRAME_RECEIVE (R520): The receiving link engine checks an arriving frame and drops, forwards or dispatches
  it. -/
  | frameReceive (l : LinkIx) (f : Frame) (fcsOk : Bool) (key : TagKey)
  /-- REQ_READ (R345): An inbound READ request is checked through the window and performed. -/
  | reqRead (l : LinkIx) (ms : List LineMeet)
  /-- REQ_WRITE (R345): An inbound WRITE request is checked through the window and performed. -/
  | reqWrite (l : LinkIx) (ms : List LineMeet)
  /-- REQ_RMW (R345): An inbound RMW line is checked through the window and performed atomically. -/
  | reqRmw (l : LinkIx) (ms : List LineMeet)
  /-- PUSHW (R517): An inbound push write of whole lines is checked and performed. -/
  | pushw (l : LinkIx) (ms : List LineMeet)
  /-- RSP (R517): A response frame completes an outstanding transaction with its data or status. -/
  | rsp (l : LinkIx)
  /-- FENCE_FRAME (R498): A fence frame from a peer signals an exported fence. -/
  | fenceFrame (l : LinkIx)
  /-- KEYX (R536): A key-agreement frame is verified and answered, deriving pair keys. -/
  | keyx (l : LinkIx) (digest : BitVec 256) (sigOk : Bool)
  /-- KEYX_RESEND (R538): An unanswered KEYX is resent after 1 ms, failing with KEY_AGREE after four sends. -/
  | keyxResend (job : BitVec 32) (peer : BitVec 24)
  /-- KEY_RETAIN_EXPIRY (R545): A responder's old receive key kept after a probe is dropped after 10 ms. -/
  | keyRetainExpiry (job : BitVec 32) (peer : BitVec 24)
  /-- KEYEND (R541): A verified KEYEND revokes one pair's transactions and destroys its keys. -/
  | keyend (l : LinkIx)
  /-- PCOMMIT (R552): A receiver checks a push commit and creates or updates a custody entry. -/
  | pcommit (l : LinkIx)
  /-- PACK (R554): A push acknowledgement passes custody to the receiver and advances DONE. -/
  | pack (l : LinkIx)
  /-- PDONE (R556): A custody release or loss notice removes or marks the sender's log entry. -/
  | pdone (l : LinkIx)
  /-- PUSH_POLL (R550): A running push channel reads its tail word and takes new units. -/
  | pushPoll (ch : Fin 64) (ms : List LineMeet)
  /-- PUSH_RETRY_EXPIRY (R555): With no PACK after PUSH_RETRY the PCOMMIT is resent, or the channel becomes
  HELD. -/
  | pushRetryExpiry (ch : Fin 64) (unit : BitVec 32)
  /-- LINK_OWL_EXPIRY (R687): A link engine that has not sent for its owl time is reset at level 2. -/
  | linkOwlExpiry (l : LinkIx)
  /-- ENDPOINT_ID (R522): A write sets the chip's fabric endpoint ID while no job is live. -/
  | endpointId (q : Req) (v : List Byte)
  /-- ROUTE_SET (R523): A route table entry is written. -/
  | routeSet (q : Req) (v : List Byte)
  /-- ROUTE_CLEAR (R523): A route table entry is cleared. -/
  | routeClear (q : Req) (v : List Byte)
  /-- JOB_CREATE (R532): A job is made live in native or compatibility mode. -/
  | jobCreate (q : Req) (v : List Byte)
  /-- JOB_MEMBER (R532): A member endpoint is added to a live job. -/
  | jobMember (q : Req) (v : List Byte)
  /-- JOB_END (R540): A job's frames stop, KEYENDs are sent, transactions revoked and keys, windows and members
  removed. -/
  | jobEnd (q : Req) (v : List Byte)
  /-- KEY_INSTALL (R539): Compatibility-mode pair keys are installed from a secured session. -/
  | keyInstall (q : Req) (v : List Byte)
  /-- FENCE_SEND (R560): A fence frame is queued to a peer endpoint. -/
  | fenceSend (q : Req) (v : List Byte)
  /-- PUSH_CH_CREATE (R547): A push channel is created and starts RUNNING. -/
  | pushChCreate (q : Req) (v : List Byte)
  /-- PUSH_START (R555): PUSH_CH_CTL START resends the held unit and continues the channel. -/
  | pushStart (q : Req) (v : List Byte)
  /-- RETARGET (R555): PUSH_CH_CTL RETARGET replaces the channel's window. -/
  | retarget (q : Req) (v : List Byte)
  /-- PUSH_STOP (R555): PUSH_CH_CTL STOP makes a running channel take no new unit. -/
  | pushStop (q : Req) (v : List Byte)
  /-- PUSH_DESTROY (R555): PUSH_CH_CTL DESTROY removes a stopped or held channel. -/
  | pushDestroy (q : Req) (v : List Byte)
  /-- LOG_SELECT (R557): A sender's custody log entry is selected for reading. -/
  | logSelect (q : Req) (v : List Byte)
  /-- CUSTODY_SELECT (R557): A receiver's custody entry is selected for reading. -/
  | custodySelect (q : Req) (v : List Byte)
  /-- PUSH_RELEASE (R556): A custody entry is removed and a PDONE sent to its source. -/
  | pushRelease (q : Req) (v : List Byte)
  /-- LOG_CLEAR (R558): A sender's log entry is removed. -/
  | logClear (q : Req) (v : List Byte)
  /-- LINK_ENABLE (R559): A write of a link's ENABLE starts training, or takes the link down. -/
  | linkEnable (q : Req) (v : List Byte)
  /-- SOURCE_OCCURRENCE (R569): An interrupt source is raised or its level condition changes. -/
  | sourceOccurrence (n : Fin 2048) (cond : Bool)
  /-- NOTIFICATION (R577): A target with a due group holding a claimable source is notified by line or MSI-X. -/
  | notification (t : TgtIx)
  /-- MODERATION_TIME_EXPIRY (R579): A group's TIME or HOLDOFF elapses and the group becomes due. -/
  | moderationTimeExpiry (t : TgtIx) (g : Fin 64) (holdoff : Bool)
  /-- IC_CLAIM (R571): A claim read returns the winning source and makes it active, or a spurious code. -/
  | icClaim (t : TgtIx)
  /-- IC_COMPLETE (R575): A complete write ends a claim and pops the level stack. -/
  | icComplete (t : TgtIx) (v : BitVec 32)
  /-- IC_SRC_CFG (R566): A source's priority, group and routing are written unless locked. -/
  | icSrcCfg (r : IcReg) (v : BitVec 64) (who : Writer)
  /-- CLR (R567): A CLR write clears PEND of an event source. -/
  | clr (n : Fin 2048) (v : BitVec 64)
  /-- IC_THRESH (R572): A target's threshold is written. -/
  | icThresh (t : TgtIx) (v : BitVec 32)
  /-- DOMAIN_SLEEP (R582): A target domain sleeps, releasing or retaining its state by MODE. -/
  | domainSleep (d : Fin 5)
  /-- DOMAIN_WAKE (R583): A claimable source or accepted mailbox word wakes a sleeping domain. -/
  | domainWake (d : Fin 5) (pmeEn : Bool)
  /-- MBX_DATA (R587): A mailbox word is offered and accepted or discarded with OVF. -/
  | mbxData (c : Fin 64) (v : BitVec 64) (who : Writer) (wide : Bool)
  /-- MBX_ACK (R588): A mailbox word is acknowledged with a code. -/
  | mbxAck (c : Fin 64) (v : BitVec 32)
  /-- MBX_CFG (R588): A mailbox's receiving domain is written while not FULL. -/
  | mbxCfg (c : Fin 64) (v : BitVec 32)
  /-- LC_DEPLOY (R609): LC_REQUEST TARGET 2 moves the module from Provisioned to Deployed. -/
  | lcDeploy (q : Req) (v : List Byte)
  /-- LC_RETURN (R609): LC_REQUEST TARGET 3 with a return authorisation moves the module to Returned. -/
  | lcReturn (q : Req) (v : List Byte) (sigOk : Bool)
  /-- LC_SCRAP (R609): LC_REQUEST TARGET 4 with CONFIRM scraps the module. -/
  | lcScrap (q : Req) (v : List Byte)
  /-- SVN_COMMIT (R599): Fuses are blown so that SVN_FUSE equals the running SVN. -/
  | svnCommit (q : Req) (v : List Byte)
  /-- TAMPER_EVENT (R612): A tamper event clears keys, wipes SRAM, faults dens and leads to a chip reset. -/
  | tamperEvent (ev : Fin 5) (half : Fin 3) (ms : BitVec 32)
  /-- GET_MEASUREMENTS (R601): The SPDM responder returns signed measurement blocks. -/
  | getMeasurements (tr : SpdmTransport)
  /-- KEY_EXCHANGE (R600): An SPDM key exchange establishes a secured session. -/
  | keyExchange (tr : SpdmTransport)
  /-- END_SESSION (R600): A secured SPDM session ends. -/
  | endSession (id : Nat)
  /-- SPDM_HEARTBEAT_LOSS (R600): A session that misses two heartbeats ends. -/
  | spdmHeartbeatLoss (id : Nat)
  /-- SECURED_DICT_MESSAGE (R602): A vendor-defined message in a secured session executes as host-admin and
  secured. -/
  | securedDictMessage (id : Nat) (vendorOk : Bool) (bytes : List Byte)
  /-- KEY_PROG (R602): IDE_KM programs an IDE key. -/
  | keyProg (id : Nat) (stream : Fin 9) (set : Bool)
  /-- K_SET_STOP (R613): IDE_KM stops and destroys an IDE key set. -/
  | kSetStop (id : Nat) (stream : Fin 9) (set : Bool)
  /-- START_INTERFACE_REQUEST (R603): A TDISP request starts a TDI for a loaded den. -/
  | startInterfaceRequest (id : Nat) (s : SlotIx)
  /-- METER_FRAME (R629): A valid Meter link frame (heartbeat, change or RESET) arrives. -/
  | meterFrame (f : MeterFrame)
  /-- METER_LINK_LOST (R637): No valid frame for 10 ms makes the Meter faulted and stops admissions when
  required. -/
  | meterLinkLost (meterSide : Bool) (ms : BitVec 64)
  /-- METER_PAIRING (R628): The Meter link session key is agreed by ECDH. -/
  | meterPairing (digestOk chainOk : Bool)
  /-- METER_SEAL_OPEN (R626): The seal foil opens and METER_SEAL_N goes high. -/
  | meterSealOpen
  /-- PERIOD_RECEIPT (R633): Every 60 s the Meter issues a signed PERIOD receipt. -/
  | periodReceipt
  /-- UNMETERED_RECEIPT (R639): After resynchronisation the Meter issues an UNMETERED receipt covering the gap.
  -/
  | unmeteredReceipt (gapTicks : Nat) (ms : BitVec 64)
  /-- ENERGY_SAMPLE (R632): The Meter samples voltage and current at 100 kHz and integrates energy. -/
  | energySample (mJ : Nat) (ticks : Nat)
  /-- POWER_EVAL (R657): Every microsecond the power manager estimates power and moves its level. -/
  | powerEval (f : PowerFacts)
  /-- GAIN_CORRECTION (R653): Every 50 µs the estimator gain is corrected from measured input power. -/
  | gainCorrection (rails : List (Rat × Rat))
  /-- DROOP_TRIP (R648): A droop sensor trip stretches its half's tile clock. -/
  | droopTrip (h : Half) (tripped : List RailSample) (deep : Bool)
  /-- STRETCH_DECAY (R648): After 64 and 32 idle cycles the stretch falls by 12.5 %. -/
  | stretchDecay (h : Half) (cycles : Nat)
  /-- STEP_CHANGE_SETTLED (R646): A frequency step change reaches its frequency and settled voltage. -/
  | stepChangeSettled
  /-- PWR_BRAKE (R660): A low PWR_BRAKE_N applies BRAKE_LEVEL to every den. -/
  | pwrBrake (low : Bool)
  /-- BRAKE_END (R660): PWR_BRAKE_N high for 1 µs ends the brake. -/
  | brakeEnd
  /-- SENSOR_SAMPLE (R662): Temperature sensors are read and threshold actions taken. -/
  | sensorSample (g : SensorGroup) (raw : List (BitVec 16))
  /-- THERMAL_LEVEL_TICK (R664): The thermal level Lt rises every 100 µs or falls every 10 ms. -/
  | thermalLevelTick (rise : Bool)
  /-- TRIP_COOLDOWN (R665): Once sensors cool below their limits, a chip reset begins after a trip. -/
  | tripCooldown
  /-- RAIL_FAULT (R666): A regulator fault causes a half or chip reset. -/
  | railFault (rail : Fin 16)
  /-- INPUT_SAG (R729): Input below 46 V for 1 µs latches a brake. -/
  | inputSag
  /-- SAG_END (R729): Input above 47 V for 1 ms ends the sag brake. -/
  | sagEnd
  /-- INPUT_LOSS (R730): Input below 40 V for 20 µs switches every rail off. -/
  | inputLoss
  /-- POWER_ON (R707): At t0 the AON island sequences the regulators and advances INCARNATION. -/
  | powerOn (sel : Half) (off : Nat)
  /-- REGULATOR_TIMEOUT (R708): A regulator not in regulation within 5 ms stops the sequence and retries after 1
  s. -/
  | regulatorTimeout (rail : Fin 15)
  /-- PERST_DEASSERT (R709): PERST# deassertion with all rails good marks tR and starts bring-up. -/
  | perstDeassert
  /-- ROM_BOOT (R710): Sett cores start from ROM, derive keys and verify firmware. -/
  | romBoot (needs : List (Half × SettNeed))
  /-- FIRMWARE_RELEASE (R597): The ROM verifies the active bank or falls back and releases the firmware. -/
  | firmwareRelease (sealedBad : List (BitVec 16 × Byte)) (locks : List (Fin 2048))
  /-- WELL_TRAINING (R710): Wells are trained with TSV repair and zeroed. -/
  | wellTraining (failed : List WellIx) (repairs : List WellRepair)
  /-- CISTERN_TRAINING (R293): Cisterns are trained, a reservoir key generated and counters initialised. -/
  | cisternTraining (failed : List CisIx)
  /-- REPAIR_MAP_BUILD (R674): The repair map is rebuilt and committed, with pending repairs applied. -/
  | repairMapBuild (dead faulty : List (Fin 132 × Fin 64)) (f : MarchFacts)
  /-- LINK_TRAINING_END (R710): Bring-up step 9 ends when links are up or after 1,000 ms. -/
  | linkTrainingEnd (limit : Bool)
  /-- DICT_READY (R715): The dictionary becomes ready and elements take their defaults. -/
  | dictReady (ms aon : BitVec 32)
  /-- FENCE_TILE (R679): Host-admin fences a tile. -/
  | fenceTile (q : Req) (v : List Byte)
  /-- UNFENCE_TILE (R679): Host-admin lifts a host fence while the block's slot is FREE. -/
  | unfenceTile (q : Req) (v : List Byte)
  /-- REPAIR_APPLY (R682): A pending row repair is marched and applied. -/
  | repairApply (q : Req) (v : List Byte) (f : MarchFacts)
  /-- MARCH_DESTRUCTIVE (R685): MCH_RUN mode 0 marches free tile blocks, leaving them zero. -/
  | marchDestructive (q : Req) (v : List Byte)
  /-- MARCH_PRESERVING (R685): MCH_RUN mode 1 marches blocks through a staging buffer, keeping contents. -/
  | marchPreserving (q : Req) (v : List Byte)
  /-- MARCH_END (R686): A march run ends and MCH_RESULT is written. -/
  | marchEnd (h : Half) (f : MarchFacts)
  /-- DEN_RESET (R691): RESET_REQ level 1 forces a den reset. -/
  | denReset (q : Req) (v : List Byte)
  /-- ENGINE_RESET (R688): RESET_REQ level 2, or an owl, resets one engine. -/
  | engineReset (q : Req) (v : List Byte)
  /-- HALF_RESET (R718): A half reset fences, drains and retrains one half. -/
  | halfReset (q : Req) (v : List Byte)
  /-- CHIP_RESET (R716): A chip reset resets all chip logic and reruns bring-up from tR. -/
  | chipReset (by_ : ResetBy)
  /-- MODULE_RESET (R693): Level 5 drives TRAY_CYCLE_REQ_N low for a power cycle. -/
  | moduleReset (q : Req) (v : List Byte)
  /-- DRAIN_LIMIT_EXPIRY (R689): A reset's drain limit expires and outstanding work is answered with the
  domain's code. -/
  | drainLimitExpiry (i : Nat) (ms : BitVec 32) (refused : Option Nat)
  /-- ESCALATION_OWL_EXPIRY (R688): A reset not completed in time escalates to the next level. -/
  | escalationOwlExpiry (i : Option Nat) (ms : BitVec 32)
  /-- RETURN_TO_SERVICE (R689): A reset domain that passed training and march accepts requests again. -/
  | returnToService (i : Nat) (ms : BitVec 32) (f : HalfFacts)
  /-- SETT_HEARTBEAT_EXPIRY (R687): A Sett core's heartbeat owl expires and the core halts. -/
  | settHeartbeatExpiry (core : Fin 4)
  /-- LEASE_RENEWAL (R698): Every 1 ms the primary renews its lease on the seam and AON paths. -/
  | leaseRenewal (seam aon : Bool)
  /-- LEASE_CHECK (R699): Every 1 ms the secondary acts on lapsed lease paths. -/
  | leaseCheck (seamLapsed aonLapsed late : Bool)
  /-- ROUTER_FAULT (R676): A router failing at run time causes a chip reset. -/
  | routerFault (p : Fin 132) (r : Fin 64)
  /-- DUMP_CFG (R694): A write names the dump extent for scratchpad sampling. -/
  | dumpCfg (q : Req) (v : List Byte)
  /-- LOCK_INTERFACE_REQUEST (R483): A TDISP lock request moves TDI s into CONFIG_LOCKED, after which host-admin
  writes on slot s return STATE_CONFLICT. -/
  | lockInterfaceRequest (id : Nat) (s : SlotIx)
  /-- STOP_INTERFACE_REQUEST (R603): A TDISP stop request takes a TDI out of RUN or ERROR. -/
  | stopInterfaceRequest (id : Nat) (s : SlotIx)
  /-- K_SET_GO (R602): IDE_KM K_SET_GO makes a programmed IDE key set active on a stream. -/
  | kSetGo (id : Nat) (stream : Fin 9) (set : Bool)
  /-- KEY_UPDATE (R613): An SPDM KEY_UPDATE replaces the session keys of a secured session. -/
  | keyUpdate (id : Nat)
  /-- CONFIGURATION_REQUEST (R481): A PCI Express configuration request is answered with Request Retry Status
  until the dictionary is ready, and completes afterwards. -/
  | configurationRequest (b : ConfigBits)
  /-- RESIZABLE_BAR (R482): A host write of the Resizable BAR control changes BAR4's size, which is allowed only
  while Memory Space Enable is 0. -/
  | resizableBar (log : BitVec 6)
  /-- HIF_DCTL (R453): A host write of ENABLE or IRQ_EN makes a ring page take requests or raise its dictionary
  source. -/
  | hifDctl (p : PageIx) (v : BitVec 32)
  /-- PARITY_ERROR (R679): A parity error in a tile register file or pipeline latch fences the tile and faults
  its den. -/
  | parityError (t : TileIx)
  /-- PRIORITY_FLOW_CONTROL (R521): An IEEE 802.1Qbb pause frame on the bulk PCP stops or restarts a link's bulk
  transmission. -/
  | priorityFlowControl (l : LinkIx) (pause : Bool)
  /-- MAC_MERGE_VERIFICATION (R528): Clause 99 verification on a link succeeds or fails, which moves PREEMPT
  between 0, 1 and 2 and enables or disables preemption. -/
  | macMergeVerification (l : LinkIx) (ok : Option Bool)
  /-- MSI_X_VECTOR_CONTROL (R577): A host write of an MSI-X vector's mask bit, or of the function mask, holds a
  notification pending in the PBA or sends the pending message. -/
  | msiXVectorControl (v : Option (Fin 2048)) (mask : Bool)
  deriving DecidableEq, Repr

end Sys2Proof
end

