-- ==== Sys2Proof/Machine/Codes.lean ====
section
/-! DEFINITION. Machine/Codes.lean: the shared return codes of R17 and the codes of the chapters that several files use. -/

namespace Sys2Proof.Machine

open Sys2Proof

/-- OK (R17). -/
abbrev kOk : Code := 0x0000
/-- NO_OBJECT (R17). -/
abbrev kNoObject : Code := 0x0001
/-- NO_ELEMENT (R17). -/
abbrev kNoElement : Code := 0x0002
/-- ACCESS (R17). -/
abbrev kAccess : Code := 0x0003
/-- TYPE (R17). -/
abbrev kType : Code := 0x0004
/-- RANGE (R17). -/
abbrev kRange : Code := 0x0005
/-- STATE_CONFLICT (R17). -/
abbrev kConflict : Code := 0x0006
/-- BUSY (R17). -/
abbrev kBusy : Code := 0x0007
/-- SEALED (R17). -/
abbrev kSealed : Code := 0x0008
/-- NO_RESOURCE (R17). -/
abbrev kNoResource : Code := 0x0009
/-- REFUSED_FIT (R17). -/
abbrev kRefusedFit : Code := 0x000A
/-- INTEGRITY (R17). -/
abbrev kIntegrity : Code := 0x000B
/-- TIMEOUT (R17). -/
abbrev kTimeout : Code := 0x000C
/-- ABANDONED (R17). -/
abbrev kAbandoned : Code := 0x000D
/-- CUSTODY_LOST (R17). -/
abbrev kCustodyLost : Code := 0x000E
/-- KEY_REVOKED (R17). -/
abbrev kKeyRevoked : Code := 0x000F

/-- WELL_UNCORR (R281). -/
abbrev kWellUncorr : Code := 0x0603
/-- SHAFT_RANGE (R281). -/
abbrev kShaftRange : Code := 0x0604
/-- SPAD_RANGE (R281). -/
abbrev kSpadRange : Code := 0x0605
/-- INDEX_RANGE (R281). -/
abbrev kIndexRange : Code := 0x0607
/-- SHAFT_LOST (R281). -/
abbrev kShaftLost : Code := 0x0608
/-- WELL_FENCED (R281). -/
abbrev kWellFenced : Code := 0x0609
/-- RES_UNVERIFIABLE (R317). -/
abbrev kResUnverifiable : Code := 0x0701
/-- CISTERN_DOWN (R317). -/
abbrev kCisternDown : Code := 0x0702
/-- MAJOR_END (R317). -/
abbrev kMajorEnd : Code := 0x0703
/-- EXT_NONE (R351). -/
abbrev kExtNone : Code := 0x0801
/-- EXT_RIGHTS (R351). -/
abbrev kExtRights : Code := 0x0802
/-- EXT_OVERLAP (R351). -/
abbrev kExtOverlap : Code := 0x0803
/-- EXT_TARGET (R351). -/
abbrev kExtTarget : Code := 0x0804
/-- WIN_NONE (R351). -/
abbrev kWinNone : Code := 0x0805
/-- WIN_JOB (R351). -/
abbrev kWinJob : Code := 0x0806
/-- WIN_RIGHTS (R351). -/
abbrev kWinRights : Code := 0x0807
/-- WIN_RANGE (R351). -/
abbrev kWinRange : Code := 0x0808
/-- WIN_TARGET (R351). -/
abbrev kWinTarget : Code := 0x0809
/-- WIN_CLOSED (R351). -/
abbrev kWinClosed : Code := 0x080A
/-- HOST_XLATE (R351). -/
abbrev kHostXlate : Code := 0x080B

end Sys2Proof.Machine
end

