-- ==== Sys2Proof/Config.lean ====
section
/-! DEFINITION. Config.lean: what one build of the hardware fixes and the spec does not give, as opaque constants,
and the figures of the spec that many files share. An opaque constant has no body a proof can see: a claim about it
holds whatever its value is. -/

namespace Sys2Proof.Config

/-- R181: the reciprocal estimate of a floating-point encoding of a width. The rule bounds it and fixes it for every
UO-8192, but does not give its bits. -/
opaque rcpEstimate : Nat → Nat → Nat

/-- R181: the reciprocal square root estimate, as `rcpEstimate`. -/
opaque rsqEstimate : Nat → Nat → Nat

/-- R181 states no result where a reciprocal lies beyond the format's range, so whether VOF rises there is open. -/
opaque rcpOverflowFlag : Nat → Nat → Bool

/-- R124 broadcasts the low element width of an S or A register; a complex FP64 element is wider than the register, and
the rule does not say what its upper half reads. -/
opaque broadcastUpper : Nat → Nat

/-- R127's SMOVV takes element 0 to 7 of a vector operand; an S or A register is 64 bits wide, and R124 gives a scalar
operation no element of it but the register itself. -/
opaque scalarElement : Nat → Nat → BitVec 64

/-- R166 rounds an exact sum; where that is zero and not every term is a positive zero, it does not say which zero the cell holds. -/
opaque zeroSumSign : Nat → Bool

/-- R184 rounds an exact sum; where that is zero and its terms are not zeros of one sign, it does not say which zero the part of the
complex element is: for the imaginary part or the real one, and the operands. -/
opaque complexZeroSign : Bool → Nat → Nat → Option Nat → Bool

/-- A byte to which the spec gives no defined value (R256), for each use of the model's counter. -/
opaque freeByte : Nat → BitVec 8

/-- R250 states no bin for a low bound or a bin width that is not a finite number (or a width that is not positive): the
bin for low bound, width and value. -/
opaque histBin : Nat → Nat → Nat → Nat

/-- The unique device secret that provisioning draws from the entropy source (R592). -/
opaque uds : BitVec 256

/-- RSA-3072 key generation of R593: a byte of the modulus of the key that an HMAC-DRBG with a 32-byte seed gives. The rule names the
generator and does not give it. -/
opaque rsaByte : List (BitVec 8) → Nat → BitVec 8

/-- A byte of what identifies the Meter (R634, R636): its serial number (16), its firmware version (4), its certificates. -/
opaque meterByte : Nat → BitVec 8

/-- A byte of the RSA-3072 PSS signature that the module's identity key makes of a message (R536): the rule names the scheme; the key and the
random salt, one for each use of the model's counter, are not given. -/
opaque pssByte : List (BitVec 8) → List (BitVec 8) → Nat → Nat → BitVec 8

/-- R537 states no shared secret for a public key that is no point of the curve: a byte of it, for the private key and the public one. -/
opaque offCurve : Nat → List (BitVec 8) → Nat → BitVec 8

/-- R559: the corrected FEC codewords that a frame brings with it, for each use of the model's counter. -/
opaque fecCorrected : Nat → Nat

/-- R653 divides the measured power by the mean estimate; where that mean is not positive it states no quotient: the gain that follows,
before the clamp. -/
opaque gainByZero : Rat → Rat

/-- R507: what LINK_STATE tells of the PCI Express link once it has trained, for each use of the model's counter: rate and width are the
partner's too, which is outside the module. -/
opaque pcieLink : Nat → Nat

/-- R479: Sambeha's Vendor ID, whose number the spec does not give. -/
opaque vendorId : BitVec 16

/-- R482: a word of the MSI-X table that holds an address or a message, as the host has written it: no row of the table is that write. -/
opaque msixWord : Nat → BitVec 64

/-- R601: the digest of the mask ROM, which the spec does not give. -/
opaque romDigest : Nat

end Sys2Proof.Config
end

