-- ==== Sys2Proof/Machine/Maps.lean ====
section
/-! DEFINITION. Machine/Maps.lean: reading and writing a sparse store in its one canonical form. -/

namespace Sys2Proof.Machine

open Sys2Proof

/-- The value at a key; an unlisted key reads as the default. -/
def kget {α : Type} (d : α) : KMap α → Nat → α
  | [], _ => d
  | (k, v) :: m, i => if k = i then v else kget d m i

/-- Remove a key. -/
def kdel {α : Type} (m : KMap α) (i : Nat) : KMap α := m.filter fun p => p.1 != i

/-- Put a value at a key, keeping the keys rising. -/
def kins {α : Type} (x : α) : KMap α → Nat → KMap α
  | [], i => [(i, x)]
  | (k, v) :: m, i =>
    if k = i then (i, x) :: m else if i < k then (i, x) :: (k, v) :: m else (k, v) :: kins x m i

/-- Write a value at a key; writing the default removes the entry, so that equal stores are equal lists. -/
def kput {α : Type} [DecidableEq α] (d : α) (m : KMap α) (i : Nat) (x : α) : KMap α :=
  if x = d then kdel m i else kins x m i

/-- Change the value at a key by a function. -/
def kmod {α : Type} [DecidableEq α] (d : α) (m : KMap α) (i : Nat) (f : α → α) : KMap α :=
  kput d m i (f (kget d m i))

/-- The canonical form: keys strictly rising and no entry equal to the default. -/
def kcanon {α : Type} [DecidableEq α] (d : α) : KMap α → Bool
  | [] => true
  | (_, v) :: [] => v != d
  | (k, v) :: (k', v') :: m => v != d && k < k' && kcanon d ((k', v') :: m)

/-- The keys a store lists, in rising order. -/
def kkeys {α : Type} (m : KMap α) : List Nat := m.map (·.1)

/-- Bits `lo` to `lo + n - 1` of a number. -/
def bitsOf (v lo n : Nat) : Nat := v / 2 ^ lo % 2 ^ n

/-- The number of little-endian bytes (R8). -/
def leNat : List Byte → Nat
  | [] => 0
  | b :: bs => b.toNat + 256 * leNat bs

/-- The `n` little-endian bytes of a number (R8). -/
def toLE : Nat → Nat → List Byte
  | 0, _ => []
  | n + 1, v => BitVec.ofNat 8 v :: toLE n (v / 256)

/-- The `n` bytes from place `i` of a list, zero where the list ends. -/
def bytesAt (bs : List Byte) (i n : Nat) : List Byte :=
  (List.range n).map fun j => bs.getD (i + j) 0

/-- The little-endian number in the `n` bytes from place `i`. -/
def natAt (bs : List Byte) (i n : Nat) : Nat := leNat (bytesAt bs i n)

/-- A signed reading of the low `n` bits. -/
def sextNat (n v : Nat) : Int :=
  let u := v % 2 ^ n
  if 2 * u < 2 ^ n then (u : Int) else (u : Int) - (2 ^ n : Nat)

/-- The low `n` bits of an integer. -/
def wrapInt (n : Nat) (v : Int) : Nat := (v % ((2 ^ n : Nat) : Int)).toNat

/-- An integer saturated to the signed range of `n` bits, and whether that changed it. -/
def satInt (n : Nat) (v : Int) : Int × Bool :=
  let top : Int := (2 ^ (n - 1) : Nat)
  if v < -top then (-top, true) else if v > top - 1 then (top - 1, true) else (v, false)

/-- Ceiling division. -/
def ceilDiv (a b : Nat) : Nat := (a + b - 1) / b

/-- Replace the first element that meets a test. -/
def updFirst {α : Type} (p : α → Bool) (f : α → α) : List α → List α
  | [] => []
  | x :: xs => if p x then f x :: xs else x :: updFirst p f xs

/-- Remove the first element that meets a test. -/
def dropFirst {α : Type} (p : α → Bool) : List α → List α
  | [] => []
  | x :: xs => if p x then xs else x :: dropFirst p xs

/-- Saturating count: a counter of `n` bits that stays at its largest value. -/
def satAdd (n a b : Nat) : Nat := min (2 ^ n - 1) (a + b)

/-- A counter one higher; it stops at its last value (log entry 12). -/
def bvInc {w : Nat} (b : BitVec w) : BitVec w := if b = BitVec.allOnes w then b else b + 1

end Sys2Proof.Machine
end

