-- ==== Sys2Proof/Machine/Crypto.lean ====
section
/-! DEFINITION. Machine/Crypto.lean: the published functions that the spec names: SHA-256 (R400, R415, R476, R532), HMAC and HKDF over it
(R537), AES-256-GCM (R518), AES-256, GHASH and CMAC (R288, R289, R295), ECDH over P-384 (R536, R537) and the verification of RSA-3072 PSS (R536). Their definitions are those of
FIPS 180-4, RFC 5869, FIPS 197, SP 800-38B and 38D, SP 800-186 with SEC 1, and RFC 8017 (PRESUMED, log entry 128). -/

namespace Sys2Proof.Machine

open Sys2Proof

/-! ### SHA-256 -/

/-- A word of SHA-256 modulo 2^32. -/
def w32 (n : Nat) : Nat := n % 0x100000000

/-- A rotation to the right of a 32-bit word. -/
def rotr32 (n x : Nat) : Nat := w32 (x >>> n ||| x <<< (32 - n))

/-- The number that big-endian bytes give. -/
def beNat (bs : List Byte) : Nat := bs.foldl (fun n b => 256 * n + b.toNat) 0

/-- The `n` big-endian bytes of a number. -/
def toBE (n v : Nat) : List Byte := (toLE n v).reverse

/-- The first half of the round constants. -/
def shaK0 : List Nat :=
  [0x428a2f98, 0x71374491, 0xb5c0fbcf, 0xe9b5dba5, 0x3956c25b, 0x59f111f1, 0x923f82a4, 0xab1c5ed5,
   0xd807aa98, 0x12835b01, 0x243185be, 0x550c7dc3, 0x72be5d74, 0x80deb1fe, 0x9bdc06a7, 0xc19bf174,
   0xe49b69c1, 0xefbe4786, 0x0fc19dc6, 0x240ca1cc, 0x2de92c6f, 0x4a7484aa, 0x5cb0a9dc, 0x76f988da,
   0x983e5152, 0xa831c66d, 0xb00327c8, 0xbf597fc7, 0xc6e00bf3, 0xd5a79147, 0x06ca6351, 0x14292967]

/-- The second half of the round constants. -/
def shaK1 : List Nat :=
  [0x27b70a85, 0x2e1b2138, 0x4d2c6dfc, 0x53380d13, 0x650a7354, 0x766a0abb, 0x81c2c92e, 0x92722c85,
   0xa2bfe8a1, 0xa81a664b, 0xc24b8b70, 0xc76c51a3, 0xd192e819, 0xd6990624, 0xf40e3585, 0x106aa070,
   0x19a4c116, 0x1e376c08, 0x2748774c, 0x34b0bcb5, 0x391c0cb3, 0x4ed8aa4a, 0x5b9cca4f, 0x682e6ff3,
   0x748f82ee, 0x78a5636f, 0x84c87814, 0x8cc70208, 0x90befffa, 0xa4506ceb, 0xbef9a3f7, 0xc67178f2]

/-- The initial hash value. -/
def shaInit : List Nat :=
  [0x6a09e667, 0xbb67ae85, 0x3c6ef372, 0xa54ff53a, 0x510e527f, 0x9b05688c, 0x1f83d9ab, 0x5be0cd19]

/-- The next word of the message schedule, from the sixteen before it, the latest first. -/
def shaWord (w : List Nat) : Nat :=
  let a := w.getD 14 0
  let b := w.getD 1 0
  let s0 := rotr32 7 a ^^^ rotr32 18 a ^^^ (a >>> 3)
  let s1 := rotr32 17 b ^^^ rotr32 19 b ^^^ (b >>> 10)
  w32 (w.getD 15 0 + s0 + w.getD 6 0 + s1)

/-- The message schedule, the latest word first. -/
def shaSchedule : Nat → List Nat → List Nat
  | 0, w => w
  | n + 1, w => shaSchedule n (shaWord w :: w)

/-- One round on the eight working words. -/
def shaRound (h : List Nat) (kw : Nat × Nat) : List Nat :=
  match h with
  | [a, b, c, d, e, f, g, x] =>
    let t1 := x + (rotr32 6 e ^^^ rotr32 11 e ^^^ rotr32 25 e) + ((e &&& f) ^^^ ((0xFFFFFFFF - e) &&& g)) + kw.1 + kw.2
    let t2 := (rotr32 2 a ^^^ rotr32 13 a ^^^ rotr32 22 a) + ((a &&& b) ^^^ (a &&& c) ^^^ (b &&& c))
    [w32 (t1 + t2), a, b, c, w32 (d + t1), e, f, g]
  | h => h

/-- The groups of `n` bytes of a list, at most `fuel` of them. -/
def chunks (n : Nat) : Nat → List Byte → List (List Byte)
  | 0, _ => []
  | fuel + 1, bs => if bs.isEmpty then [] else bs.take n :: chunks n fuel (bs.drop n)

/-- One block of the message. -/
def shaBlock (h : List Nat) (block : List Byte) : List Nat :=
  let w := (shaSchedule 48 ((chunks 4 16 block).map beNat).reverse).reverse
  (h.zip (((shaK0 ++ shaK1).zip w).foldl shaRound h)).map fun p => w32 (p.1 + p.2)

/-- The bytes of the SHA-256 digest of some bytes. -/
def sha (bs : List Byte) : List Byte :=
  let pad := (119 - bs.length % 64) % 64
  let m := bs ++ [0x80] ++ List.replicate pad 0 ++ toBE 8 (8 * bs.length)
  ((chunks 64 (m.length / 64) m).foldl shaBlock shaInit).flatMap (toBE 4)

/-- The number whose bytes (R8) are the digest. -/
def sha256 (bs : List Byte) : Nat := leNat (sha bs)

/-! ### HMAC and HKDF -/

/-- HMAC-SHA-256. -/
def hmac (key msg : List Byte) : List Byte :=
  let k := bytesAt (if 64 < key.length then sha key else key) 0 64
  sha (k.map (· ^^^ 0x5C) ++ sha (k.map (· ^^^ 0x36) ++ msg))

/-- HKDF-SHA-256 with 64 bytes of output. -/
def hkdf64 (secret salt info : List Byte) : List Byte :=
  let prk := hmac salt secret
  let t1 := hmac prk (info ++ [1])
  t1 ++ hmac prk (t1 ++ info ++ [2])

/-- The ASCII bytes of a text. -/
def asciiBytes (t : String) : List Byte := t.toList.map fun c => BitVec.ofNat 8 c.toNat

/-- HKDF-SHA-256 of a secret and an information text, 32 bytes, as RFC 5869 defines it with no salt: R593 names none (PRESUMED, log
entry 186). -/
def hkdf (secret info : List Byte) : List Byte := hmac (hmac (List.replicate 32 0) secret) (info ++ [1])

/-- The seed of the DeviceID key of a device secret (R593). -/
def deviceSeedOf (uds : List Byte) : List Byte := hkdf uds (asciiBytes "OSDIN-DEVID-1")

/-- The modulus of an RSA-3072 key of a seed. -/
def rsaModulus (seed : List Byte) : List Byte := (List.range 384).map (Config.rsaByte seed)

/-! ### AES-256 -/

/-- Multiplication by x in the field of AES. -/
def xtime (a : Nat) : Nat := if a < 128 then 2 * a else (2 * a - 256) ^^^ 0x1B

/-- The values of the S-box, 32 to a number, that of the least input in the least significant byte. -/
def sboxRows : List Nat :=
  [0xc072a49cafa2d4adf04759fa7dc982ca76abd7fe2b670130c56f6bf27b777c63,
   0x75b227ebe28012079a059618c323c7041531d871f1e5a534ccf73f362693fdb7,
   0xcf584c4a39becb6a5bb1fc20ed00d153842fe329b3d63b52a05a6e1b1a2c8309,
   0xd2f3ff1021dab6bcf5389d928f40a351a89f3c507f02f94585334d43fbaaefd0,
   0xdb0b5ede14b8ee4688902a22dc4f816073195d643d7ea7c41744975fec130ccd,
   0x08ae7a65eaf4566ca94ed58d6d37c8e779e4959162acd3c25c2406490a3a32e0,
   0x9e1dc186b95735610ef6034866b53e708a8bbd4b1f74dde8c6b4a61c2e2578ba,
   0x16bb54b00f2d99416842e6bf0d89a18cdf2855cee9871e9b948ed9691198f8e1]

/-- The S-box (FIPS 197). -/
def sbox (a : Nat) : Nat := (sboxRows.getD (a / 32) 0) >>> (8 * (a % 32)) % 256

/-- The words of the AES-256 key schedule, each of four bytes, from the eight of the key. -/
def aesSchedule : Nat → Nat → List (List Nat) → List (List Nat)
  | 0, _, w => w
  | n + 1, i, w =>
    let t := w.getD (i - 1) []
    let t := if i % 8 = 0 then
        let r := (t.drop 1 ++ t.take 1).map sbox
        ((r.headD 0) ^^^ 1 <<< (i / 8 - 1)) :: r.drop 1
      else if i % 8 = 4 then t.map sbox else t
    aesSchedule n (i + 1) (w ++ [(t.zip (w.getD (i - 8) [])).map fun p => p.1 ^^^ p.2])

/-- The fifteen round keys of 16 bytes. -/
def roundKeys (key : List Byte) : List (List Nat) :=
  let w := aesSchedule 52 8 ((chunks 4 8 key).map fun c => c.map (·.toNat))
  (List.range 15).map fun r => ((w.drop (4 * r)).take 4).flatten

/-- The column mixing of four bytes. -/
def mixColumn (c : List Nat) : List Nat :=
  let a (i : Nat) : Nat := c.getD (i % 4) 0
  (List.range 4).map fun i => xtime (a i) ^^^ (xtime (a (i + 1)) ^^^ a (i + 1)) ^^^ a (i + 2) ^^^ a (i + 3)

/-- One round but the key: substitution, row shifts, and the mixing of columns unless it is the last. -/
def aesRound (last : Bool) (s : List Nat) : List Nat :=
  let t := s.map sbox
  let r := (List.range 16).map fun i => t.getD ((i + 4 * (i % 4)) % 16) 0
  if last then r else (List.range 4).flatMap fun c => mixColumn ((r.drop (4 * c)).take 4)

/-- AES-256 on one block. -/
def aesBlock (key block : List Byte) : List Byte :=
  let ks := roundKeys key
  let add (s k : List Nat) : List Nat := (s.zip k).map fun p => p.1 ^^^ p.2
  let s := add (block.map (·.toNat)) (ks.getD 0 [])
  ((List.range 14).foldl (fun s r => add (aesRound (r == 13) s) (ks.getD (r + 1) [])) s).map (BitVec.ofNat 8)

/-! ### GCM -/

/-- Multiplication in the field of GHASH: numbers hold the block's first bit as bit 127. -/
def ghMul (x y : Nat) : Nat :=
  ((List.range 128).foldl (fun (s : Nat × Nat) i =>
    (if x.testBit (127 - i) then s.1 ^^^ s.2 else s.1,
     if s.2.testBit 0 then (s.2 >>> 1) ^^^ 0xE1 <<< 120 else s.2 >>> 1)) (0, y)).1

/-- A string of bytes in blocks of 16, the last padded with zeros. -/
def padded (bs : List Byte) : List (List Byte) :=
  chunks 16 (bs.length / 16 + 1) (bs ++ List.replicate ((16 - bs.length % 16) % 16) 0)

/-- The cipher stream of GCM over some bytes, from its second counter on: it turns plain text into cipher text and back. -/
def gcmStream (key nonce bs : List Byte) : List Byte :=
  let blocks := chunks 16 (bs.length / 16 + 1) bs
  (blocks.zip (List.range blocks.length)).flatMap fun p =>
    (p.1.zip (aesBlock key (nonce ++ toBE 4 (p.2 + 2)))).map fun b => b.1 ^^^ b.2

/-- GHASH over some blocks, with AES-256 of the all-zero block for its key. -/
def ghash (key : List Byte) (blocks : List (List Byte)) : Nat :=
  let h := beNat (aesBlock key (List.replicate 16 0))
  blocks.foldl (fun y b => ghMul (y ^^^ beNat b) h) 0

/-- The tag of AES-256-GCM over additional data and cipher text. -/
def gcmTag (key nonce aad cipher : List Byte) : List Byte :=
  let g := ghash key (padded aad ++ padded cipher ++ [toBE 8 (8 * aad.length) ++ toBE 8 (8 * cipher.length)])
  toBE 16 (g ^^^ beNat (aesBlock key (nonce ++ toBE 4 1)))

/-- AES-256-GCM under a key, with a nonce of 12 bytes and additional data: the ciphertext and the tag. -/
def gcmSeal (key nonce aad plain : List Byte) : List Byte × List Byte :=
  let cipher := gcmStream key nonce plain
  (cipher, gcmTag key nonce aad cipher)

/-- The plain text under a cipher text whose tag verifies. -/
def gcmOpen (key nonce aad cipher tag : List Byte) : Option (List Byte) :=
  if gcmTag key nonce aad cipher = tag then some (gcmStream key nonce cipher) else none

/-! ### CMAC -/

/-- AES-256-CMAC of a message of whole blocks. -/
def cmac (key : List Byte) (blocks : List (List Byte)) : List Byte :=
  let l := beNat (aesBlock key (List.replicate 16 0))
  let k1 := 2 * l % 2 ^ 128 ^^^ (if l.testBit 127 then 0x87 else 0)
  let step (y : List Byte) (b : List Byte) : List Byte := aesBlock key (List.zipWith (· ^^^ ·) y b)
  let blocks := blocks.dropLast ++ (blocks.getLast?.toList.map fun b => List.zipWith (· ^^^ ·) b (toBE 16 k1))
  blocks.foldl step (List.replicate 16 0)

/-! ### ECDH over P-384 -/

/-- A power modulo a number, with an exponent of `n` bits. -/
def powMod (m : Nat) : Nat → Nat → Nat → Nat
  | 0, _, _ => 1 % m
  | n + 1, b, e =>
    let r := powMod m n (b * b % m) (e / 2)
    if e % 2 = 1 then r * b % m else r

/-- The prime of P-384. -/
def p384 : Nat := 2 ^ 384 - 2 ^ 128 - 2 ^ 96 + 2 ^ 32 - 1

/-- The constant of its curve y² = x³ - 3x + b. -/
def p384B : Nat :=
  0xb3312fa7e23ee7e4988e056be3f82d19181d9c6efe8141120314088f5013875ac656398d8a2ed19d2a85c8edd3ec2aef

/-- Its base point. -/
def p384G : Nat × Nat :=
  (0xaa87ca22be8b05378eb1c71ef320ad746e1d3b628ba79b9859f741e082542a385502f25dbf55296c3a545e3872760ab7,
   0x3617de4a96262c6f5d9e98bf9292dc29f8f41dbd289a147ce9da3113b5f0b8c00a60b1ce1d7e819d7a431d7c90ea0e5f)

/-- The order of its base point. -/
def p384N : Nat :=
  0xffffffffffffffffffffffffffffffffffffffffffffffffc7634d81f4372ddf581a0db248b0a77aecec196accc52973

/-- A point in Jacobian coordinates; Z is 0 at the point at infinity. -/
structure JPoint where
  x : Nat
  y : Nat
  z : Nat
  deriving DecidableEq, Repr

/-- A difference modulo the prime. -/
def subP (a b : Nat) : Nat := (a + p384 - b % p384) % p384

/-- Twice a point. -/
def JPoint.double (a : JPoint) : JPoint :=
  let d := a.z * a.z % p384
  let g := a.y * a.y % p384
  let b := a.x * g % p384
  let m := 3 * subP a.x d * (a.x + d) % p384
  let x := subP (m * m) (8 * b)
  { x := x, y := subP (m * subP (4 * b) x) (8 * g * g), z := 2 * a.y * a.z % p384 }

/-- The sum of two points. -/
def JPoint.add (a b : JPoint) : JPoint :=
  if a.z = 0 then b
  else if b.z = 0 then a
  else
    let za := a.z * a.z % p384
    let zb := b.z * b.z % p384
    let u := a.x * zb % p384
    let h := subP (b.x * za) u
    let s := a.y * b.z % p384 * zb % p384
    let r := subP (b.y * a.z % p384 * za) s
    if h = 0 then (if r = 0 then a.double else { x := 1, y := 1, z := 0 })
    else
      let hh := h * h % p384
      let hhh := h * hh % p384
      let v := u * hh % p384
      let x := subP (subP (r * r) hhh) (2 * v)
      { x := x, y := subP (r * subP v x) (s * hhh), z := h * a.z % p384 * b.z % p384 }

/-- A multiple of a point, by the `n` low bits of a factor. -/
def JPoint.times (a : JPoint) : Nat → Nat → JPoint
  | 0, _ => { x := 1, y := 1, z := 0 }
  | n + 1, k =>
    let r := (a.times n (k / 2)).double
    if k % 2 = 1 then r.add a else r

/-- The coordinates of a point that is not at infinity. -/
def JPoint.affine (a : JPoint) : Nat × Nat :=
  let i := powMod p384 384 a.z (p384 - 2)
  let ii := i * i % p384
  (a.x * ii % p384, a.y * ii % p384 * i % p384)

/-- A private key of P-384 from 48 free bytes. -/
def ecPrivate (seed : List Byte) : Nat := beNat seed % (p384N - 1) + 1

/-- The multiple of an affine point. -/
def ecTimes (d : Nat) (g : Nat × Nat) : Nat × Nat := (JPoint.times { x := g.1, y := g.2, z := 1 } 384 d).affine

/-- The uncompressed public key of a private one: 4, then the coordinates. -/
def ecPublic (d : Nat) : List Byte := let q := ecTimes d p384G; [4] ++ toBE 48 q.1 ++ toBE 48 q.2

/-- The point that an uncompressed public key names, where it lies on the curve. -/
def ecPoint (bs : List Byte) : Option (Nat × Nat) :=
  let x := beNat (bytesAt bs 1 48)
  let y := beNat (bytesAt bs 49 48)
  if natAt bs 0 1 = 4 ∧ x < p384 ∧ y < p384 ∧ y * y % p384 = (x * x % p384 * x + p384B + 3 * (p384 - x)) % p384 then some (x, y)
  else none

/-- The shared secret of ECDH: the x coordinate of the multiple of the peer's point. -/
def ecdh (d : Nat) (q : Nat × Nat) : List Byte := toBE 48 (ecTimes d q).1

/-! ### RSA-3072 PSS -/

/-- The mask that MGF1 with SHA-256 makes of a seed, `n` digests long. -/
def mgf1 (seed : List Byte) (n : Nat) : List Byte := (List.range n).flatMap fun i => sha (seed ++ toBE 4 i)

/-- Whether an RSA-3072 PSS signature with SHA-256 and a salt of 32 bytes verifies under a modulus and the exponent 65,537. -/
def pssVerify (modulus msg sig : List Byte) : Bool :=
  let n := beNat modulus
  let s := beNat sig
  let em := toBE 384 (powMod n 17 s 65537)
  let h := (em.drop 351).take 32
  let db := ((em.take 351).zip (mgf1 h 11)).map fun b => b.1 ^^^ b.2
  let db := db.take 1 |>.map (· &&& 0x7F) |>.append (db.drop 1)
  s < n && natAt em 383 1 == 0xBC && natAt em 0 1 < 128 && db.take 319 == List.replicate 318 0 ++ [1] &&
    h == sha (List.replicate 8 0 ++ sha msg ++ db.drop 319)

end Sys2Proof.Machine
end

