-- ==== Sys2Proof/Machine/ChipState.lean ====
section
/-! DEFINITION. Machine/ChipState.lean: supply, bring-up, tile clocks, power and temperature (chapters 17 and 19). -/

namespace Sys2Proof.Machine

open Sys2Proof

/-- Where the module stands between the busbar and a dictionary that answers (R707 to R718): no 54 V; the regulators being sequenced,
with the failures so far (R708); rail 13 alone (R708); the chip held in reset until tR (R709); bring-up with so many steps of R710
ended; recovery (R597, R714); ready (R715). -/
inductive ChipPhase where
  | dark
  | sequencing (fails : Nat)
  | rail13
  | held
  | boot (done : Nat)
  | recovery
  | ready
  deriving DecidableEq, Repr

/-- The chip as a whole. -/
structure Chip where
  phase : ChipPhase := .dark
  /-- PRIMARY_SEL as latched at the AON start (R724): 0 West, 1 East. -/
  primary : Nat := 0
  /-- TRAY_CYCLE_REQ_N is driven low (R693). -/
  trayReq : Bool := false
  /-- A chip reset must begin, for a cause: after a tamper response, a life-cycle change, a fence by the secondary (R609, R612,
  R699). -/
  due : Option Code := none
  /-- AON milliseconds at the last two chip resets that count (R688, R717). -/
  resetTimes : List Nat := []
  /-- A level 4 and a level 5 reset have happened whose sources rise when the dictionary is next ready (R689). -/
  ended4 : Bool := false
  ended5 : Bool := false
  /-- The bank that runs: B (R597). -/
  runsB : Bool := false
  /-- PERST# is asserted (R709). -/
  perst : Bool := false
  /-- Rails must be sequenced again before tR: after a thermal trip or a rail fault (R716). -/
  resequence : Bool := false
  /-- Sources that bring-up raises once the dictionary is ready (R713). -/
  owed : List Nat := []
  deriving DecidableEq, Repr

/-- The droop stretch of a half's tile clock (R648), in steps of 12.5 %: what the sensors call for, what is in force, and whether it
has begun to fall; and the blocks whose sensors stand deep (R647). -/
structure Droop where
  called : Nat := 0
  force : Nat := 0
  falling : Bool := false
  deep : List Nat := []
  deriving DecidableEq, Repr

/-- Power and temperature. Powers are in watts; times in evaluations of 1 µs. Temperatures are in 1/64 °C. -/
structure Power where
  /-- LEVEL_POWER, LEVEL_THERMAL and the effective level (R657). -/
  lp : Nat := 0
  lt : Nat := 0
  level : Nat := 0
  /-- The present step, and the faster step whose voltage is rising (R646). -/
  step : Nat := 0
  rising : Option Nat := none
  /-- The core voltage of rails 0 to 7 in mV (R645, R646). -/
  volts : Nat := 850
  gain : Rat := 11 / 10
  /-- The corrected estimates p, newest first, over 1 s; the last estimates P_est since the last correction (R653, R654). -/
  hist : List Rat := []
  ests : List Rat := []
  clamped : Nat := 0
  sinceRise : Nat := 5
  sinceChange : Nat := 1000
  underFor : Nat := 0
  sust : Bool := false
  peak : Bool := false
  /-- PWR_BRAKE_N is low; it has acted as a brake and has not ended; a sag's brake acts (R660, R729). -/
  pinLow : Bool := false
  brake : Bool := false
  sag : Bool := false
  west : Droop := {}
  east : Droop := {}
  /-- A thermal trip is in progress (R665). -/
  trip : Bool := false
  die : KMap Int := []
  /-- Four sensors a well, well-major (R473). -/
  well : KMap Int := []
  floor : KMap Int := []
  cistern : KMap Int := []
  inlet : Int := 0
  outlet : Int := 0
  /-- Consecutive readings of 110 °C, by die sensor and by 512 + floor sensor (R663). -/
  hotRuns : KMap Nat := []
  /-- Cisterns whose slots are halved for temperature (R663). -/
  halved : List Nat := []
  railV : List Rat := []
  railI : List Rat := []
  /-- Energy of each slot in joules (R668). -/
  energy : KMap Rat := []
  deriving DecidableEq, Repr

end Sys2Proof.Machine
end

