-- ==== Sys2Proof/Machine/Float.lean ====
section
/-! DEFINITION. Machine/Float.lean: the number formats of R147 to R156 and exact arithmetic with one rounding.
A finite value is a dyadic number, so that every sum and product is exact and every rounding happens once. -/

namespace Sys2Proof.Machine

open Sys2Proof

/-- How a format uses its largest exponent (R147, R148): IEEE infinities and NaNs, the one NaN of E4M3, or neither. -/
inductive TopExp where
  | ieee | e4m3 | finite
  deriving DecidableEq, Repr

/-- A floating-point format of R147: exponent and fraction widths and the use of the largest exponent. -/
structure FloatFmt where
  e : Nat
  f : Nat
  top : TopExp
  deriving DecidableEq, Repr

/-- The floating-point formats of R147. -/
def fp64 : FloatFmt := { e := 11, f := 52, top := .ieee }
/-- FP32 of R147. -/
def fp32 : FloatFmt := { e := 8, f := 23, top := .ieee }
/-- BF16 of R147. -/
def bf16 : FloatFmt := { e := 8, f := 7, top := .ieee }
/-- FP16 of R147. -/
def fp16 : FloatFmt := { e := 5, f := 10, top := .ieee }
/-- FP8 E4M3 of R147. -/
def fpE4M3 : FloatFmt := { e := 4, f := 3, top := .e4m3 }
/-- FP8 E5M2 of R147. -/
def fpE5M2 : FloatFmt := { e := 5, f := 2, top := .ieee }
/-- FP6 E3M2 of R147. -/
def fpE3M2 : FloatFmt := { e := 3, f := 2, top := .finite }
/-- FP6 E2M3 of R147. -/
def fpE2M3 : FloatFmt := { e := 2, f := 3, top := .finite }
/-- FP4 E2M1 of R147. -/
def fpE2M1 : FloatFmt := { e := 2, f := 1, top := .finite }

namespace FloatFmt

/-- Width in bits. -/
def width (t : FloatFmt) : Nat := 1 + t.e + t.f
/-- The exponent bias of R147. -/
def bias (t : FloatFmt) : Nat := 2 ^ (t.e - 1) - 1
/-- The exponent of the lowest bit of a subnormal. -/
def qmin (t : FloatFmt) : Int := 1 - (t.bias : Int) - t.f
/-- The code of the largest finite magnitude. -/
def maxCode (t : FloatFmt) : Nat :=
  match t.top with
  | .ieee => (2 ^ t.e - 1) * 2 ^ t.f - 1
  | .e4m3 => 2 ^ (t.e + t.f) - 2
  | .finite => 2 ^ (t.e + t.f) - 1
/-- Whether the format has infinities. -/
def hasInf (t : FloatFmt) : Bool := t.top == .ieee
/-- The code of infinity where there is one. -/
def infCode (t : FloatFmt) : Nat := (2 ^ t.e - 1) * 2 ^ t.f
/-- The canonical quiet NaN of R154; +0 where the format has none (R156). -/
def nanCode (t : FloatFmt) : Nat :=
  match t.top with
  | .ieee => t.infCode + 2 ^ (t.f - 1)
  | .e4m3 => 2 ^ (t.e + t.f) - 1
  | .finite => 0
/-- A magnitude code with its sign. -/
def signed (t : FloatFmt) (neg : Bool) (code : Nat) : Nat := (if neg then 2 ^ (t.e + t.f) else 0) + code

end FloatFmt

/-- What an encoding means: a NaN (signalling or not), an infinity, or the finite value (-1)^neg m 2^x. -/
inductive FVal where
  | nan (sig : Bool)
  | inf (neg : Bool)
  | fin (neg : Bool) (m : Nat) (x : Int)
  deriving DecidableEq, Repr

/-- The flags of R155 and R157 that one operation raises. -/
structure FFlags where
  nv : Bool := false
  dz : Bool := false
  of : Bool := false
  uf : Bool := false
  nx : Bool := false
  sat : Bool := false
  deriving DecidableEq, Repr

/-- The union of two sets of flags. -/
def FFlags.or (a b : FFlags) : FFlags :=
  { nv := a.nv || b.nv, dz := a.dz || b.dz, of := a.of || b.of, uf := a.uf || b.uf, nx := a.nx || b.nx,
    sat := a.sat || b.sat }

/-- Rounding modes of R125. -/
inductive Rnd where
  | near | zero | up | down
  deriving DecidableEq, Repr

/-- The RND field of R125. -/
def Rnd.ofField : Nat → Rnd
  | 0 => .near | 1 => .zero | 2 => .up | _ => .down

/-- The value of an encoding (R147, R148). The low `width` bits of `n` count. -/
def FloatFmt.decode (t : FloatFmt) (n : Nat) : FVal :=
  let frac := n % 2 ^ t.f
  let ex := n / 2 ^ t.f % 2 ^ t.e
  let neg := n / 2 ^ (t.e + t.f) % 2 == 1
  if t.top = .ieee ∧ ex = 2 ^ t.e - 1 then
    if frac = 0 then .inf neg else .nan (frac < 2 ^ (t.f - 1) && t.width > 8)
  else if t.top = .e4m3 ∧ ex = 2 ^ t.e - 1 ∧ frac = 2 ^ t.f - 1 then .nan false
  else if ex = 0 then .fin neg frac t.qmin
  else .fin neg (frac + 2 ^ t.f) (t.qmin + (ex - 1 : Nat))

/-- Whether a rounding that drops `rem` of `2^d` goes to the next magnitude. -/
def roundsUp (r : Rnd) (neg : Bool) (odd : Bool) (rem d : Nat) : Bool :=
  match r with
  | .near => 2 * rem > 2 ^ d || (2 * rem == 2 ^ d && odd)
  | .zero => false
  | .up => !neg && rem != 0
  | .down => neg && rem != 0

/-- `m 2^x` rounded to a multiple of `2^q`: the multiple, and whether anything was dropped. -/
def roundAt (r : Rnd) (neg : Bool) (m : Nat) (x q : Int) : Nat × Bool :=
  if q ≤ x then (m * 2 ^ (x - q).toNat, false)
  else
    let d := (q - x).toNat
    let k := m / 2 ^ d
    let rem := m % 2 ^ d
    (if roundsUp r neg (k % 2 == 1) rem d then k + 1 else k, rem != 0)

/-- The result of going beyond the range (R156). -/
def FloatFmt.overflow (t : FloatFmt) (r : Rnd) (neg : Bool) : Nat :=
  let toInf := match r with
    | .near => true
    | .zero => false
    | .up => !neg
    | .down => neg
  t.signed neg (if t.hasInf && toInf then t.infCode else t.maxCode)

/-- One rounding of the exact value (-1)^neg m 2^x into a format (R152, R153, R156), with its flags. -/
def FloatFmt.round (t : FloatFmt) (r : Rnd) (neg : Bool) (m : Nat) (x : Int) : Nat × FFlags :=
  if m = 0 then (t.signed neg 0, {})
  else
    let ex : Int := (Nat.log2 m : Int) + x
    let q := max (ex - t.f) t.qmin
    let (k, inexact) := roundAt r neg m x q
    let code := (q - t.qmin).toNat * 2 ^ t.f + k
    if code > t.maxCode then (t.overflow r neg, { of := true, nx := true })
    else
      let (k', _) := roundAt r neg m x (ex - t.f)
      let emin := t.qmin + t.f
      let tiny := ex < emin && !(k' == 2 ^ (t.f + 1) && ex + 1 == emin)
      (t.signed neg code, { uf := tiny && inexact, nx := inexact })

/-- The encoding of a value, rounding once (R154, R156). An infinity in a format without one, and a NaN in FP6 and
FP4, behave as R156 gives. -/
def FloatFmt.encode (t : FloatFmt) (r : Rnd) : FVal → Nat × FFlags
  | .nan sig => (t.nanCode, { nv := sig || t.top == .finite })
  | .inf neg => if t.hasInf then (t.signed neg t.infCode, {}) else (t.signed neg t.maxCode, { of := true, nx := true })
  | .fin neg m x => t.round r neg m x

/-- A dyadic number: a signed multiple of a power of two. -/
structure Dy where
  m : Int
  x : Int
  deriving DecidableEq, Repr

/-- The exact sum of two dyadic numbers, on the finer grid. -/
def dyAdd (a b : Dy) : Dy :=
  if a.x ≤ b.x then { m := a.m + b.m * (2 : Int) ^ (b.x - a.x).toNat, x := a.x }
  else { m := a.m * (2 : Int) ^ (a.x - b.x).toNat + b.m, x := b.x }

/-- The exact product of two dyadic numbers. -/
def dyMul (a b : Dy) : Dy := { m := a.m * b.m, x := a.x + b.x }

/-- The signed dyadic number of a sign and a magnitude. -/
def dyOf (neg : Bool) (m : Nat) (x : Int) : Dy := { m := if neg then -(m : Int) else m, x := x }

/-- The finite value of a dyadic number; an exact zero takes the sign given. -/
def dyVal (zneg : Bool) (a : Dy) : FVal :=
  if a.m = 0 then .fin zneg 0 0 else .fin (a.m < 0) a.m.natAbs a.x

/-- Whether a value is a signalling NaN. -/
def FVal.isSig : FVal → Bool
  | .nan s => s
  | _ => false

/-- Whether a value is a NaN. -/
def FVal.isNan : FVal → Bool
  | .nan _ => true
  | _ => false

/-- The sign of a value; a NaN has none. -/
def FVal.isNeg : FVal → Bool
  | .nan _ => false
  | .inf n => n
  | .fin n _ _ => n

/-- The negated value. -/
def FVal.neg : FVal → FVal
  | .nan s => .nan s
  | .inf n => .inf (!n)
  | .fin n m x => .fin (!n) m x

/-- The exact sum (R178): infinities of opposite sign give NaN with the invalid flag (R155); an exact zero of
operands of different sign is +0, or -0 when rounding down. -/
def fAdd (r : Rnd) (a b : FVal) : FVal × FFlags :=
  let sig : FFlags := { nv := a.isSig || b.isSig }
  match a, b with
  | .nan _, _ => (.nan false, sig)
  | _, .nan _ => (.nan false, sig)
  | .inf n, .inf n' => if n = n' then (.inf n, {}) else (.nan false, { nv := true })
  | .inf n, .fin _ _ _ => (.inf n, {})
  | .fin _ _ _, .inf n => (.inf n, {})
  | .fin n m x, .fin n' m' x' =>
    (dyVal (if n = n' then n else r == .down) (dyAdd (dyOf n m x) (dyOf n' m' x')), {})

/-- The exact product (R178): zero times infinity gives NaN with the invalid flag (R155). -/
def fMul (a b : FVal) : FVal × FFlags :=
  let sig : FFlags := { nv := a.isSig || b.isSig }
  match a, b with
  | .nan _, _ => (.nan false, sig)
  | _, .nan _ => (.nan false, sig)
  | .inf n, .inf n' => (.inf (n != n'), {})
  | .inf n, .fin n' m _ => if m = 0 then (.nan false, { nv := true }) else (.inf (n != n'), {})
  | .fin n m _, .inf n' => if m = 0 then (.nan false, { nv := true }) else (.inf (n != n'), {})
  | .fin n m x, .fin n' m' x' => (.fin (n != n') (m * m') (x + x'), {})

/-- A binary operation on encodings with one rounding. -/
def FloatFmt.op2 (t : FloatFmt) (r : Rnd) (f : FVal → FVal → FVal × FFlags) (a b : Nat) : Nat × FFlags :=
  let (v, fl) := f (t.decode a) (t.decode b)
  let (n, fl') := t.encode r v
  (n, fl.or fl')

/-- The fused `±(a × b) ± c` with one rounding (R178). -/
def FloatFmt.fma (t : FloatFmt) (r : Rnd) (negProd negAdd : Bool) (a b c : Nat) : Nat × FFlags :=
  let (p, fl) := fMul (t.decode a) (t.decode b)
  let p := if negProd then p.neg else p
  let vc := if negAdd then (t.decode c).neg else t.decode c
  let (v, fl') := fAdd r p vc
  let (n, fl'') := t.encode r v
  (n, (fl.or fl').or fl'')

/-- The order of two values that are not NaN; -0 orders below +0 where `zeros` asks for it (R179), equal to it
otherwise (R180). -/
def fLess (zeros : Bool) (a b : FVal) : Bool :=
  let key : FVal → Dy
    | .fin n m x => dyOf n m x
    | _ => { m := 0, x := 0 }
  match a, b with
  | .nan _, _ => false
  | _, .nan _ => false
  | .inf n, .inf n' => n && !n'
  | .inf n, .fin _ _ _ => n
  | .fin _ _ _, .inf n' => !n'
  | .fin n m x, .fin n' m' x' =>
    if m = 0 ∧ m' = 0 then zeros && n && !n'
    else (dyAdd (key (.fin n m x)) (key (.fin (!n') m' x'))).m < 0

/-- minimumNumber or maximumNumber of R179, on encodings. -/
def FloatFmt.minMax (t : FloatFmt) (isMax : Bool) (a b : Nat) : Nat × FFlags :=
  let va := t.decode a
  let vb := t.decode b
  let fl : FFlags := { nv := va.isSig || vb.isSig }
  if va.isNan && vb.isNan then (t.nanCode, fl)
  else if va.isNan then (b, fl)
  else if vb.isNan then (a, fl)
  else if isMax then (if fLess true va vb then b else a, fl)
  else (if fLess true vb va then b else a, fl)

/-- The comparisons of R180. -/
inductive FCmp where
  | eq | lt | le
  deriving DecidableEq, Repr

/-- A quiet comparison (R180): a NaN compares false, and a signalling one raises the invalid flag. -/
def FloatFmt.cmp (t : FloatFmt) (k : FCmp) (a b : Nat) : Bool × FFlags :=
  let va := t.decode a
  let vb := t.decode b
  let fl : FFlags := { nv := va.isSig || vb.isSig }
  if va.isNan || vb.isNan then (false, fl)
  else
    let lt := fLess false va vb
    let gt := fLess false vb va
    (match k with
      | .eq => !lt && !gt
      | .lt => lt
      | .le => !gt, fl)

/-- The sign cleared or inverted (R179), a NaN becoming the canonical NaN (R154). No flag is raised. -/
def FloatFmt.absNeg (t : FloatFmt) (isNeg : Bool) (a : Nat) : Nat :=
  match t.decode a with
  | .nan _ => t.nanCode
  | _ =>
    let mag := a % 2 ^ (t.e + t.f)
    let neg := a / 2 ^ (t.e + t.f) % 2 == 1
    if isNeg then t.signed (!neg) mag else mag

/-- A value rounded to an integer (R156, R182): saturation and NaN raise the invalid flag, a dropped part the inexact one. -/
def fToInt (r : Rnd) (bits : Nat) (v : FVal) : Int × FFlags :=
  match v with
  | .nan _ => (0, { nv := true })
  | .inf n => (if n then -((2 ^ (bits - 1) : Nat) : Int) else ((2 ^ (bits - 1) : Nat) : Int) - 1, { nv := true })
  | .fin n m x =>
    let (k, inexact) := roundAt r n m x 0
    let (i, s) := satInt bits (if n then -(k : Int) else k)
    (i, if s then { nv := true } else { nx := inexact })

/-- An integer as a value. -/
def intVal (i : Int) : FVal := .fin (i < 0) i.natAbs 0

/-- The integer square root, by bits from the top. -/
def isqrtGo (n : Nat) : Nat → Nat → Nat
  | 0, r => r
  | k + 1, r => let r' := r + 2 ^ k; isqrtGo n k (if r' * r' ≤ n then r' else r)

/-- The integer square root. -/
def isqrt (n : Nat) : Nat := isqrtGo n (Nat.log2 n / 2 + 1) 0

/-- Whether `m 2^x` lies within a relative 2^-14 of the reciprocal of `a 2^p` (R181). -/
def nearRecip (m : Nat) (x : Int) (a : Nat) (p : Int) : Bool :=
  let d := dyAdd { m := (m * a : Nat), x := x + p } { m := -1, x := 0 }
  let lhs : Dy := { m := d.m.natAbs * 16384, x := d.x }
  (dyAdd lhs { m := -1, x := 0 }).m ≤ 0

/-- Whether `m 2^x` lies within a relative 2^-14 of the reciprocal square root of `a 2^p` (R181): its square times
the operand lies between (1 - 2^-14)^2 and (1 + 2^-14)^2. -/
def nearRsqrt (m : Nat) (x : Int) (a : Nat) (p : Int) : Bool :=
  let s : Dy := { m := (m * m * a * 268435456 : Nat), x := x + x + p }
  (dyAdd s { m := -(16383 * 16383), x := 0 }).m ≥ 0 && (dyAdd s { m := -(16385 * 16385), x := 0 }).m ≤ 0

/-- The underflow mark of R181 for a finite estimate: below the smallest normal magnitude. -/
def FloatFmt.isTiny (t : FloatFmt) (n : Nat) : Bool := n % 2 ^ (t.e + t.f) < 2 ^ t.f

/-- A value within the bound of R181: the machine's own estimate where it keeps the bound (its bits are not given:
`Config.rcpEstimate`), else the rounded quotient, or the largest finite number where that rounds beyond the format's range.
Where no finite number keeps the bound the rule states no result, and the estimate is the free value itself, but for the one NaN
that a unit may produce (R154). -/
def FloatFmt.rcp (t : FloatFmt) (n : Nat) : Nat × FFlags :=
  match t.decode n with
  | .nan s => (t.nanCode, { nv := s })
  | .inf neg => (t.signed neg 0, {})
  | .fin neg m x =>
    if m = 0 then (t.signed neg t.infCode, { dz := true })
    else
      let est := Config.rcpEstimate t.width n % 2 ^ t.width
      let k := 2 ^ (Nat.log2 m + t.f + 3)
      let (code, fl) := t.round .near neg (k / m) (-x - (Nat.log2 m + t.f + 3 : Nat))
      let ok := match t.decode est with
        | .fin neg' m' x' => neg' == neg && nearRecip m' x' m x
        | _ => false
      if fl.of then
        let top := t.signed neg (t.infCode - 1)
        let near := match t.decode top with
          | .fin _ m' x' => nearRecip m' x' m x
          | _ => false
        let free := match t.decode est with
          | .nan _ => t.nanCode
          | _ => est
        let res := if ok then est else if near then top else free
        (res, { of := Config.rcpOverflowFlag t.width n, uf := t.isTiny res })
      else
        let res := if ok then est else code
        (res, { uf := t.isTiny res })

/-- As `FloatFmt.rcp`, for the reciprocal square root (R181). -/
def FloatFmt.rsq (t : FloatFmt) (n : Nat) : Nat × FFlags :=
  match t.decode n with
  | .nan s => (t.nanCode, { nv := s })
  | .inf neg => if neg then (t.nanCode, { nv := true }) else (t.signed false 0, {})
  | .fin neg m x =>
    if m = 0 then (t.signed neg t.infCode, { dz := true })
    else if neg then (t.nanCode, { nv := true })
    else
      let est := Config.rsqEstimate t.width n % 2 ^ t.width
      let (m2, x2) := if x % 2 = 0 then (m, x) else (2 * m, x - 1)
      let sh := 2 * (t.f + 4)
      let root := isqrt (m2 * 2 ^ sh)
      let k := 2 ^ (2 * t.f + 8 + Nat.log2 root)
      let (code, _) := t.round .near false (k / root)
        (-(x2 / 2) + (t.f + 4 : Nat) - (2 * t.f + 8 + Nat.log2 root : Nat))
      let ok := match t.decode est with
        | .fin neg' m' x' => !neg' && nearRsqrt m' x' m x
        | _ => false
      (if ok then est else code, {})

end Sys2Proof.Machine
end

