-- ==== Sys2Proof/Machine/MeshState.lean ====
section
/-! DEFINITION. Machine/MeshState.lean: the state of the mesh (chapter 09): flits, the input buffers of the routers, what waits to be
injected and what has been ejected. Routers are numbered 132 × row + position; ports 0 to 5 are N, E, S, W, E2, W2, port 6 is L, 7
is V, 8 is K (R352). -/

namespace Sys2Proof.Machine

open Sys2Proof

/-- Where a packet enters or leaves the mesh: a router and its port L, V or K (R352). -/
structure MeshEnd where
  router : Nat
  port : Nat
  deriving DecidableEq, Repr

/-- What a packet is (R353, R357, R367). -/
inductive PacketKind where
  | readReq | writeReq | rmwReq | fillReq
  | readData | writeAck | fillAnswer
  | hostDma | save | push | remapCopy
  | stepStart | stepEnd | invalidate | report | fence | interrupt | frame | lease | command
  deriving DecidableEq, Repr

/-- The virtual channel that carries a kind of packet (R357). -/
def PacketKind.vc : PacketKind → Nat
  | .readReq | .writeReq | .rmwReq | .fillReq => 1
  | .readData | .writeAck | .fillAnswer => 2
  | .hostDma | .save | .push | .remapCopy => 3
  | .stepStart | .stepEnd | .invalidate | .report | .fence | .interrupt | .frame | .lease | .command => 0

/-- The flits of a packet for some lines (R354): one for a request without data, an acknowledgement and every VC0 message; one for each
line of a read response; one more than the lines where data go with a request. -/
def PacketKind.flits (k : PacketKind) (lines : Nat) : Nat :=
  match k with
  | .readData => lines
  | .writeReq | .rmwReq | .hostDma | .save | .push | .remapCopy => lines + 1
  | _ => 1

/-- A flit (R353): up to 64 bytes of payload, and the sideband: destination and source, virtual channel, buffer class, packet kind, tag,
den slot, flit count of the packet, and on VC0 the MCLK stamp. `turn` is the turn column of its route (R362), `last` marks the end of
its packet, and `count` how many reports it stands for (R368). -/
structure Flit where
  dst : MeshEnd
  src : MeshEnd
  vc : Nat
  classB : Bool := false
  kind : PacketKind
  tag : Nat := 0
  slot : Nat := 0
  flits : Nat := 1
  count : Nat := 1
  stamp : BitVec 16 := 0
  payload : List Byte := []
  turn : Nat := 0
  last : Bool := true
  deriving DecidableEq, Repr

/-- A flit that waits for injection: the cycle from which it may enter, and the agent whose VC0 limit it counts against (R367). -/
structure Waiting where
  ready : Nat
  agent : Nat
  flit : Flit
  deriving DecidableEq, Repr

/-- The mesh. Input buffers are keyed by ((9 × router + port) × 4 + channel) × 2 + class (R357), outputs by 9 × router + port. -/
structure Mesh where
  /-- MCLK cycles. -/
  clock : Nat := 0
  /-- What waits at each port L, V or K, by (9 × router + port) × 4 + channel. -/
  queues : KMap (List Waiting) := []
  bufs : KMap (List Flit) := []
  /-- Flits on their way between two routers: arrival cycle, the buffer they enter. -/
  flying : List (Nat × Nat × Flit) := []
  /-- By output and channel, the input port and class whose packet is not complete (R358), the port served last, and by that and port
  the class served last. -/
  owner : KMap (Option Nat) := []
  lastIn : KMap Nat := []
  lastClass : KMap Nat := []
  /-- By output, the channel that the deficit round-robin serves and the flits it may still send (R358). -/
  drr : KMap (Nat × Nat) := []
  /-- By output, the cycle before which the seam's crossing is taken (R200, R360). -/
  taken : KMap Nat := []
  /-- By agent, the cycle that its VC0 injections have been paid for up to (R367). -/
  paid : KMap Nat := []
  /-- Flits at their destination, with the cycle of their ejection (R365, R370). -/
  arrived : List (Nat × Flit) := []
  deriving DecidableEq, Repr

end Sys2Proof.Machine
end

