-- ==== Sys2Proof/Machine/TileState.lean ====
section
/-! DEFINITION. Machine/TileState.lean: the state of one tile (chapters 02 to 06): registers, scratchpad, instruction
store, stream state, results in flight, its share of a slip, and its pump. -/

namespace Sys2Proof.Machine

open Sys2Proof

/-- The state of a scratchpad bank (R59). -/
inductive BankMode where
  | off | on | retention
  deriving DecidableEq, Repr

/-- A scratchpad bank (R59, R60): its state, and the tile cycles left before it can be accessed if it is on, or of its passage
through on if it is in retention. -/
structure Bank where
  mode : BankMode := .off
  wake : Nat := 0
  deriving DecidableEq, Repr

/-- A register that a result lands in (R52). -/
inductive Reg where
  | s (i : Nat) | v (i : Nat) | a (i : Nat) | p (i : Nat)
  deriving DecidableEq, Repr

/-- A fixed-latency result in flight (R50, R103): how many more bundles or drain cycles until it lands, where, the
bits it writes (`mask`: predication, R108), its flags (R159), and for a vote the bundle whose result it takes (R90). -/
structure Landing where
  left : Nat
  dest : Reg
  val : BitVec 512
  mask : BitVec 512
  vflags : FFlags := {}
  mflags : FFlags := {}
  vote : Option Nat := none
  deriving DecidableEq, Repr

/-- The accumulator modes of R163. -/
inductive AccMode where
  | zero | integer | float | wide
  deriving DecidableEq, Repr

/-- A wide accumulator cell (R173): I × 2^G, zero with no exponent, or a special state. -/
inductive WideCell where
  | zero
  | val (i : Int) (g : Int)
  | inf (neg : Bool)
  | nan
  deriving DecidableEq, Repr

/-- The 512 cells of an accumulator block in row order (R163). -/
inductive AccCells where
  | zero
  | integer (c : List (BitVec 48))
  | float (c : List (BitVec 32))
  | wide (c : List WideCell)
  deriving DecidableEq, Repr

/-- An accumulator block (R163, R164): the mode as set at issue and the cells as landed. -/
structure AccBlock where
  mode : AccMode := .zero
  cells : AccCells := .zero
  deriving DecidableEq, Repr

/-- The matrix operations that write a block (R119). -/
inductive MatKind where
  | mma | mmaz | mzero
  deriving DecidableEq, Repr

/-- A matrix operation in flight: its operands as read at issue, and whether a later MZERO or MMAZ superseded it (R164). -/
structure MatOp where
  left : Nat
  td : Nat
  kind : MatKind
  fmt : Nat := 0
  tgt : Nat := 0
  a : Nat := 0
  b : Nat := 0
  c : Nat := 0
  superseded : Bool := false
  deriving DecidableEq, Repr

/-- An open hardware loop (R111): its first and last body address and how many iterations remain. -/
structure Loop where
  first : Nat
  last : Nat
  left : Nat
  deriving DecidableEq, Repr

/-- What a tile is doing (R116, R405): stopped between steps, issuing bundles, in the drain cycles after HALT. -/
inductive TilePhase where
  | stopped | running | draining
  deriving DecidableEq, Repr

/-- A tile frozen by a slip or a freeze wave (R78 to R87). -/
structure Frozen where
  /-- The cause code of R95 and the pump tag, where the tile is a slip source. -/
  source : Option (Nat × Nat) := none
  /-- The den cycle at which it stopped. -/
  since : Nat := 0
  /-- The east and south neighbours' clear reports: the cycle at which each was heard. -/
  east : Option Nat := none
  south : Option Nat := none
  /-- It has reported clear, or an error in place of clear (R81, R82). -/
  reported : Bool := false
  /-- The resume signal has been received; the tile counts down to its held bundle (R84, R87). -/
  resumed : Bool := false
  deriving DecidableEq, Repr

/-- A value waiting in a relay latch, marked when its seam slot had an uncorrectable error (R207). -/
structure LatchVal where
  val : BitVec 512
  bad : Bool := false
  deriving DecidableEq, Repr

/-- The location kinds of a pump descriptor (R237). -/
inductive LocKind where
  | shaft | scratch | extent | special
  deriving DecidableEq, Repr

/-- A line of a window or of host memory that an operation writes or combines (R246, R344): den-virtual address, the bytes or
operands, and for an RMW its FUNC and type, its compare values, and where its old values go. -/
structure LineSend where
  va : Nat
  data : List Byte
  rmw : Option (Nat × Nat) := none
  cmp : List Byte := []
  oldTo : Option Nat := none
  deriving DecidableEq, Repr

/-- A pump operation on a tag (R140, R230): its descriptor, its due bundle, and how far it has come. -/
structure TagOp where
  desc : List Byte
  due : Nat
  /-- The line numbers an overlay copy writes in the instruction store, first and end bundle (R142). -/
  overlay : Option (Nat × Nat) := none
  /-- The whole effect has been computed. -/
  done : Bool := false
  /-- The completion status, once landed (R76). -/
  status : Option Code := none
  /-- The location an execution error names (R268). -/
  failLoc : BitVec 64 := 0
  /-- A register result kept until the due bundle (R141). -/
  result : Option (Reg × BitVec 512) := none
  /-- The highest cause code among the targets touched so far (R95). -/
  cause : Nat := 0
  /-- Another den's traffic delayed it (R431). -/
  contended : Bool := false
  /-- Lines of windows and of host memory that have been read, by den-virtual line address (R344, R338). -/
  got : KMap (List Byte) := []
  /-- The line of a window or of host memory that the operation needs next. -/
  want : Option Nat := none
  /-- Lines to be written to windows and host memory, in order. -/
  sends : List LineSend := []
  /-- The first error that a line of it met, and where (R268). -/
  err : Option (Code × Nat) := none
  /-- The operations it waits for behind an ordering point, by tag (R258). -/
  after : BitVec 16 := 0
  /-- The answers to the accesses it has made, in order: what it does next depends on nothing else. -/
  trace : List (List Byte) := []
  /-- The scratchpad bytes it has read or written (R256): address and length. -/
  touched : List (Nat × Nat) := []
  /-- The scratchpad bytes that bundles have stored to since it was issued (R256): address and length. -/
  stored : List (Nat × Nat) := []
  deriving DecidableEq, Repr

/-- Where a line request of a pump went: to a controller of the chip, to the host, onto a link; or it is kept in its slot until
the link has room or the host's translation has come (R340, R347). -/
inductive LineVia where
  | chip | host | link | kept
  deriving DecidableEq, Repr

/-- A line request of a pump (R230, R347): its tag, where and what, how many lines where it is a transaction of a window (R344),
where it went, the mesh end to which it went (R37), for a write or an RMW of a window or of host memory what it carries, the answer of a window's peer that has come
back, and, once the response has landed, the ns for which it holds its slot (R378). -/
structure LineSlot where
  tag : Nat
  loc : BitVec 64
  kind : LineKind
  lines : Nat := 1
  via : LineVia := .chip
  port : Option MeshEnd := none
  send : Option LineSend := none
  ans : Option (Code × List Byte) := none
  /-- The contended mark that a window response has brought (R431). -/
  delayed : Bool := false
  hold : Option Nat := none
  deriving DecidableEq, Repr

/-- An extent of a den (R320, R321): its target base holds a physical address, a host address or a window index. -/
structure Extent where
  vbase : Nat
  len : Nat
  kind : Nat
  rd : Bool
  wr : Bool
  atom : Bool
  win : Nat := 0
  tbase : Nat := 0
  deriving DecidableEq, Repr

/-- A waiting translation (R330): the address and the descriptor that waits. -/
structure MissSlot where
  va : Nat
  tag : Nat
  deriving DecidableEq, Repr

/-- The pump of a tile (R230, R232): its operations by tag, line slots for its own shaft and elsewhere, the place of the
round robin, the ordering notes of PORD, its extent cache and miss slots. -/
structure Pump where
  tags : KMap (Option TagOp) := []
  own : List LineSlot := []
  remote : List LineSlot := []
  /-- The tags in flight in the order of the round robin, the next to be served first (R232). -/
  order : List Nat := []
  /-- The operations noted by PORD and still in flight (R258). -/
  notes : BitVec 16 := 0
  /-- The extent cache (R325), most recently used first. -/
  cache : List Extent := []
  misses : List MissSlot := []
  deriving DecidableEq, Repr

/-- One tile. Unless a field says otherwise, its rule is in chapters 02 and 03. -/
structure Tile where
  s : KMap (BitVec 64) := []
  v : KMap (BitVec 512) := []
  a : KMap (BitVec 64) := []
  p : KMap (BitVec 64) := []
  acc : KMap AccBlock := []
  mstat : BitVec 64 := 0
  latches : KMap (List LatchVal) := []
  spad : KMap Byte := []
  banks : KMap Bank := []
  storeBuf : Option (Nat × List Byte × BitVec 64) := none
  istore : KMap (BitVec 192) := []
  /-- The instruction store blocks of 64 bundles that an overlay copy has written since the load (R415). -/
  overlaid : KMap Bool := []
  phase : TilePhase := .stopped
  addr : Nat := 0
  /-- The address of the last stored bundle it issued (R398). -/
  last : Nat := 0
  /-- The number of the next bundle it issues; what a program sees of it is modulo 2^48 (R69). -/
  bundle : Nat := 0
  /-- Drain cycles run since HALT (R116). -/
  drained : Nat := 0
  idle : Nat := 0
  /-- Steps 1 and 2 of R102 have happened for the bundle it is about to issue. -/
  opened : Bool := false
  loops : List Loop := []
  /-- Return addresses (R113): a CALL at 0xFFF pushes 0x1000, beyond the store. -/
  calls : List Nat := []
  landings : List Landing := []
  mats : List MatOp := []
  matBusy : Nat := 0
  vecBusy : Nat := 0
  frozen : Option Frozen := none
  pump : Pump := {}
  /-- The tile is fenced (R679, R681). -/
  fenced : Bool := false
  /-- Uncorrectable errors since chip reset, by scratchpad bank 0 to 15, 16 the instruction store (R679). -/
  errs : KMap Nat := []
  deriving DecidableEq, Repr

end Sys2Proof.Machine
end

