-- ==== Sys2Proof/Machine/DenState.lean ====
section
/-! DEFINITION. Machine/DenState.lean: the state of one den slot (chapters 02, 05, 08, 09, 10): its holdings, its
image, its wave, slips and votes, its command in flight and its counters; and the state of the seam. -/

namespace Sys2Proof.Machine

open Sys2Proof

/-- The den states of R392. -/
inductive DenPhase where
  | free | reserved | loaded | running | frozen | faulted | draining | scrubbing
  deriving DecidableEq, Repr

/-- A tile rectangle in blocks (R386). -/
structure Rect where
  bc : Nat := 0
  br : Nat := 0
  w : Nat := 0
  h : Nat := 0
  deriving DecidableEq, Repr

/-- A shrink or a revoke under way (R335): the entry as it was, the new length (0: removed), the recipients that have not
reported, how many reporters there are, and the dictionary response that waits for the last of them; none for a change that no
response waits for. -/
structure Inval where
  old : Extent
  newLen : Nat
  left : List Agent
  /-- Its sequence, and the sum of the counts that have arrived (R368). -/
  seq : Nat
  got : Nat := 0
  expect : Nat
  resp : Option Nat
  deriving DecidableEq, Repr

/-- The range that a shrink or a revoke removes (R335), as an extent. -/
def Inval.removed (v : Inval) : Extent :=
  { v.old with vbase := v.old.vbase + v.newLen, tbase := v.old.tbase + v.newLen, len := v.old.len - v.newLen }

/-- A physical range (R389): kind 1 well, kind 2 reservoir. -/
structure PRange where
  kind : Nat
  start : Nat
  len : Nat
  deriving DecidableEq, Repr

/-- A signal of a slip on its way to a tile (R79, R81, R82, R83). -/
inductive WaveSig where
  | freeze
  /-- A clear report and the cycle at which it arrives. -/
  | clear
  /-- An error in place of clear: its code, the tile it arose in and the pump tag (R82). -/
  | error (code : Code) (tile tag : Nat)
  | resume (b : Nat)
  deriving DecidableEq, Repr

/-- A signal in flight: to which tile, from which side it comes, and the den cycle at which it arrives. -/
structure Signal where
  dest : Nat
  came : Dir
  at' : Nat
  sig : WaveSig
  deriving DecidableEq, Repr

/-- A slip source (R78, R95): its tile, cause, tag, held bundle, and the cycle its freeze signal reaches the origin. -/
structure SlipSource where
  tile : Nat
  cause : Nat
  tag : Nat
  bundle : Nat
  reach : Nat
  deriving DecidableEq, Repr

/-- A relay value in transit (R190): the receiver, its latch, the bundle at which it is ready. -/
structure RelayVal where
  dest : Nat
  latch : Dir
  ready : Nat
  val : BitVec 512
  deriving DecidableEq, Repr

/-- A relay output stage that a transit value occupies (R192). -/
structure LaneUse where
  tile : Nat
  dir : Dir
  bundle : Nat
  deriving DecidableEq, Repr

/-- A value on its way into a seam FIFO: it enters in the cycle in which the edge tile issues the bundle (R201). -/
structure Crossing where
  row : Nat
  eastward : Bool
  bundle : Nat
  val : BitVec 512
  deriving DecidableEq, Repr

/-- A vote (R90): its bundle, its kind, what the contributions so far combine to, and how many there are. -/
structure Vote where
  bundle : Nat
  kind : Nat
  acc : BitVec 32
  count : Nat
  deriving DecidableEq, Repr

/-- The wave of a den: everything R67 to R96, R189 to R208 and R405 keep about it. -/
structure Wave where
  /-- Z (R69). -/
  z : Nat := 0
  /-- The first bundle of the present step and the HALT bundle, once a tile has issued it (R202). -/
  first : Nat := 0
  halt : Option Nat := none
  transit : List RelayVal := []
  lanes : List LaneUse := []
  crossing : List Crossing := []
  votes : List Vote := []
  signals : List Signal := []
  /-- A slip is in progress: its sources. -/
  sources : List SlipSource := []
  /-- F of R85. -/
  freezeAt : Option Nat := none
  /-- The earliest cycle at which the origin can be clear (R81), once it is. -/
  clearAt : Option Nat := none
  /-- A resume signal has been sent and not every tile has issued since (R88). -/
  resuming : Bool := false
  /-- The tiles that the resume signal sent last has not reached (R83, R84). -/
  toResume : List Nat := []
  /-- The sources and the length of the slip that the resume signal sent last has ended (R85, R96). -/
  ended : List SlipSource × Nat := ([], 0)
  /-- A freeze wave without an awaited result runs: a den freeze or a fault (R407, R146). -/
  stopping : Bool := false
  /-- The bundle numbers of the present step at which the origin issued throttle bundles (R658). -/
  throttles : List Nat := []
  /-- A resume signal had been sent when the freeze took effect (R88). -/
  resumeSent : Bool := false
  deriving DecidableEq, Repr

/-- The need records an image declares (R401). -/
inductive Need where
  | shape (ix w h seam : Nat)
  | shaftUse (ix units : Nat)
  | extent (ix vbase len kind : Nat) (rd wr atom : Bool)
  | guarantee (ix ctl units : Nat)
  | link (ix link tx : Nat)
  | power (ix cls : Nat)
  | pasid (ix : Nat)
  deriving DecidableEq, Repr

/-- The parts of a loaded image that Osdin keeps (R400, R403). -/
structure Loaded where
  overlays : Bool := false
  seamCol : Nat := 0xFF
  shaftUse : Nat := 0
  reshape : List (Nat × Nat) := []
  deriving DecidableEq, Repr

/-- A den command in flight (R393, R394). -/
structure DenCmd where
  op : Nat
  fen : Bool
  fence : Nat
  fval : Nat
  a1 : Nat
  a2 : Nat
  /-- Its work is done; the result waits for the completion. -/
  result : Option Code := none
  /-- A RELEASE replaced it (R397): its own completion comes first. -/
  cancelled : Bool := false
  /-- Bytes that a COPY_OUT has sent (R422). -/
  sent : Nat := 0
  deriving DecidableEq, Repr

/-- A scrub that has not ended (R430): of an own shaft's tile or of a physical range. -/
inductive ScrubUnit where
  | shaft (tile : Nat)
  | range (r : PRange)
  deriving DecidableEq, Repr

/-- A RELOCATE whose copies run (R419, R420): the new rectangle, and how many tiles, in index order, have had their shafts copied. -/
structure Move where
  dest : Rect
  copied : Nat := 0
  deriving DecidableEq, Repr

/-- One den slot (R385, R434). -/
structure Den where
  phase : DenPhase := .free
  rect : Rect := {}
  cmd : Option DenCmd := none
  release : Option DenCmd := none
  cmdResult : Code := 0
  cmdSeq : BitVec 32 := 0
  shape : Nat := 0
  powerClass : Nat := 0
  pasid : BitVec 32 := 0
  holdings : List PRange := []
  pools : List Nat := []
  saveArea : List Byte := []
  linkBudget : KMap Nat := []
  digest : BitVec 256 := 0
  loadReason : BitVec 32 := 0
  image : Loaded := {}
  extents : List Extent := []
  guarantees : KMap Nat := []
  stepActive : Bool := false
  /-- Step-end reports of the present step that have arrived (R405). -/
  stops : Nat := 0
  stepQueue : Option Nat := none
  stepCount : BitVec 64 := 0
  /-- N of R658: throttle bundles in 16 den cycles. -/
  throttle : Nat := 0
  nextAddr : Nat := 0
  reshapeReady : Bool := false
  faultCode : Code := 0
  faultRec : List Byte := []
  wave : Wave := {}
  /-- Tiles whose stop reports of R405 have arrived are counted by their phase; this marks a freeze by the Sett. -/
  settFreeze : Bool := false
  restored : Bool := false
  /-- A reset has destroyed its tile state (R683). -/
  stateLost : Bool := false
  invals : List Inval := []
  /-- Invalidations begun, which number the sequences of their reports (R368). -/
  invalSeq : Nat := 0
  scrubs : List ScrubUnit := []
  moving : Option Move := none
  slipCyc : BitVec 64 := 0
  slipCnt : BitVec 64 := 0
  slipLast : BitVec 64 := 0
  slipLastB : BitVec 64 := 0
  bundle : BitVec 64 := 0
  causes : KMap (BitVec 64) := []
  stepFlags : BitVec 16 := 0
  fp64Counts : KMap (BitVec 64) := []
  /-- The array cycles that its matrix units have used since the last estimate (R171, R652). -/
  arrayCycles : Nat := 0
  slots : KMap (BitVec 64) := []
  misses : BitVec 64 := 0
  sdi : BitVec 32 := 0
  sdiMisses : BitVec 32 := 0
  sdiThresh : BitVec 32 := 6554
  sdiWin : BitVec 32 := 16777216
  sdiMissEn : Bool := false
  attr : KMap (BitVec 64) := []
  winBundles : Nat := 0
  winAttr : Nat := 0
  winMisses : Nat := 0
  deriving DecidableEq, Repr

/-- A slot of a seam FIFO (R200, R201). -/
structure SeamSlot where
  tag : BitVec 8
  val : Option (BitVec 512)
  bad : Bool := false
  deriving DecidableEq, Repr

/-- The seam (R200 to R216). FIFOs are keyed by 2 × row + direction (0 eastward, 1 westward). -/
structure Seam where
  fifos : KMap (List SeamSlot) := []
  follow : Bool := true
  /-- The exact phase difference P as the tick exchange last gave it (R210): TCLK East cycles less TCLK West cycles. -/
  p : Rat := 0
  dpeak : Nat := 0
  /-- The half under follow stretch. -/
  stretched : Option Half := none
  followCnt : BitVec 64 := 0
  followCyc : BitVec 64 := 0
  slipCnt : BitVec 64 := 0
  corrCnt : BitVec 64 := 0
  discardCnt : BitVec 64 := 0
  /-- In service in both directions, by row; none until the seam is trained (R209, R470). -/
  relayUp : BitVec 64 := 0
  meshUp : BitVec 64 := 0
  sparesUsed : KMap Nat := []
  /-- The crossings out of service (R209), keyed as the spare wires: 4 × row, 2 more for a mesh crossing, 1 more for westward. -/
  off : List Nat := []
  trained : Bool := false
  deriving DecidableEq, Repr

/-- D (R210): P truncated toward zero to a whole number of cycles. -/
def Seam.d (m : Seam) : Int := Int.tdiv m.p.num m.p.den

end Sys2Proof.Machine
end

