-- ==== Sys2Proof/Machine/Catalogue.lean ====
section
/-! DEFINITION. Machine/Catalogue.lean: the catalogue of the object dictionary (R438, R466): every element the spec
lists, with its type, size, access and persistence, and the default of those that are registers of their own. -/

namespace Sys2Proof.Machine

open Sys2Proof

/-- A line of an element table: objects `lo` to `lo + n - 1`, elements `el` to `el + en - 1`, type code (R439), least and
largest size in bytes, access of each role as DESCRIBE packs it (R449), persistence (0 volatile, 1 persistent, 2 sealed), and
the default value. -/
structure ElemRow where
  lo : Nat
  n : Nat
  el : Nat
  en : Nat
  ty : Nat
  lmin : Nat
  lmax : Nat
  acc : Nat
  pers : Nat
  dflt : Nat
  deriving DecidableEq, Repr

/-- Object 0x0000 (R467): VENDOR, PART, SERIAL, STEPPING, FW_VERSION, FW_STAGED, ROM_VERSION, DICT_VERSION,
PRIMARY_HALF, INCARNATION, BRINGUP_MS. -/
def elems0000 : List ElemRow :=
  [ ⟨0x0000, 1, 0x00, 1, 12, 1, 64, 0x11111, 2, 0⟩,
    ⟨0x0000, 1, 0x01, 1, 12, 1, 64, 0x11111, 2, 0⟩,
    ⟨0x0000, 1, 0x02, 1, 12, 1, 16, 0x11111, 2, 0⟩,
    ⟨0x0000, 1, 0x03, 1, 12, 1, 8, 0x11111, 2, 0⟩,
    ⟨0x0000, 1, 0x04, 1, 4, 4, 4, 0x11111, 0, 0⟩,
    ⟨0x0000, 1, 0x05, 1, 4, 4, 4, 0x1001, 1, 0⟩,
    ⟨0x0000, 1, 0x06, 1, 4, 4, 4, 0x1001, 2, 0⟩,
    ⟨0x0000, 1, 0x07, 1, 3, 2, 2, 0x11111, 0, 1⟩,
    ⟨0x0000, 1, 0x08, 1, 2, 1, 1, 0x1001, 0, 0⟩,
    ⟨0x0000, 1, 0x09, 1, 5, 8, 8, 0x11111, 0, 0⟩,
    ⟨0x0000, 1, 0x0A, 1, 4, 4, 4, 0x1001, 0, 0⟩ ]

/-- Object 0x0001 (R467): LIFECYCLE, LC_REQUEST. -/
def elems0001 : List ElemRow :=
  [ ⟨0x0001, 1, 0x00, 1, 2, 1, 1, 0x11111, 2, 0⟩,
    ⟨0x0001, 1, 0x01, 1, 13, 0, 4096, 0x2, 0, 0⟩ ]

/-- Object 0x0100 (R468): HEALTH, HALF_STATE. -/
def elems0100 : List ElemRow :=
  [ ⟨0x0100, 1, 0x00, 1, 4, 4, 4, 0x1011, 0, 0⟩,
    ⟨0x0100, 1, 0x01, 1, 13, 2, 2, 0x1011, 0, 0⟩ ]

/-- Object 0x0101 (R704): RESETS_L1 to RESETS_L5, RESET_LOG. -/
def elems0101 : List ElemRow :=
  [ ⟨0x0101, 1, 0x00, 5, 4, 4, 4, 0x1001, 1, 0⟩,
    ⟨0x0101, 1, 0x05, 1, 13, 2048, 2048, 0x1001, 1, 0⟩ ]

/-- Object 0x0102 (R704): SPARE_POS_MIN, ROWS_NO_SPARE, SRAM_ROWS_MIN, SRAM_COLS_MIN, SETT_RETIRED, WARN. -/
def elems0102 : List ElemRow :=
  [ ⟨0x0102, 1, 0x00, 1, 2, 1, 1, 0x1001, 1, 2⟩,
    ⟨0x0102, 1, 0x01, 1, 3, 2, 2, 0x1001, 1, 0⟩,
    ⟨0x0102, 1, 0x02, 1, 2, 1, 1, 0x1001, 1, 4⟩,
    ⟨0x0102, 1, 0x03, 1, 2, 1, 1, 0x1001, 1, 2⟩,
    ⟨0x0102, 1, 0x04, 1, 2, 1, 1, 0x1001, 1, 0⟩,
    ⟨0x0102, 1, 0x05, 1, 4, 4, 4, 0x1001, 0, 0⟩ ]

/-- Object 0x0110 (R468): REQUESTS, CONFLICTS, TIMEOUTS, DICT_OWL, PERSIST_WRITES, FABRIC_DICT_EN, DEFAULTS_RESTORE,
DROPPED_RESPONSES. -/
def elems0110 : List ElemRow :=
  [ ⟨0x0110, 1, 0x00, 1, 5, 8, 8, 0x1001, 0, 0⟩,
    ⟨0x0110, 1, 0x01, 1, 5, 8, 8, 0x1001, 0, 0⟩,
    ⟨0x0110, 1, 0x02, 1, 5, 8, 8, 0x1001, 0, 0⟩,
    ⟨0x0110, 1, 0x03, 1, 4, 4, 4, 0x1003, 1, 100⟩,
    ⟨0x0110, 1, 0x04, 1, 5, 8, 8, 0x1001, 1, 0⟩,
    ⟨0x0110, 1, 0x05, 1, 1, 1, 1, 0x1003, 1, 1⟩,
    ⟨0x0110, 1, 0x06, 1, 1, 1, 1, 0x2, 0, 0⟩,
    ⟨0x0110, 1, 0x07, 1, 5, 8, 8, 0x1, 0, 0⟩ ]

/-- Object 0x0200 (R670): TCLK_STEP, STEP_MIN, STRETCH_CYC_W, STRETCH_CYC_E, DROOP_DEEP_W, DROOP_DEEP_E. -/
def elems0200 : List ElemRow :=
  [ ⟨0x0200, 1, 0x00, 1, 2, 1, 1, 0x1011, 0, 0⟩,
    ⟨0x0200, 1, 0x01, 1, 2, 1, 1, 0x1003, 1, 0⟩,
    ⟨0x0200, 1, 0x02, 1, 5, 8, 8, 0x1001, 0, 0⟩,
    ⟨0x0200, 1, 0x03, 1, 5, 8, 8, 0x1001, 0, 0⟩,
    ⟨0x0200, 1, 0x04, 1, 5, 8, 8, 0x1001, 0, 0⟩,
    ⟨0x0200, 1, 0x05, 1, 5, 8, 8, 0x1001, 0, 0⟩ ]

/-- Object 0x0210 (R670): SUST_LIM, PEAK_LIM, PEAK_WIN, BRAKE_LEVEL, CLASS_CEIL, P_NOW, P_PEAK_AVG, P_SUST_AVG,
GAIN, LEVEL_POWER, LEVEL_THERMAL, OVERRIDES, PWR_ACT, BRAKES. -/
def elems0210 : List ElemRow :=
  [ ⟨0x0210, 1, 0x00, 1, 3, 2, 2, 0x1003, 1, 3200⟩,
    ⟨0x0210, 1, 0x01, 1, 3, 2, 2, 0x1003, 1, 3900⟩,
    ⟨0x0210, 1, 0x02, 1, 2, 1, 1, 0x1003, 1, 2⟩,
    ⟨0x0210, 1, 0x03, 1, 2, 1, 1, 0x1003, 1, 26⟩,
    ⟨0x0210, 1, 0x04, 1, 13, 8, 8, 0x1003, 1, 0x20406080a0c0e⟩,
    ⟨0x0210, 1, 0x05, 1, 10, 4, 4, 0x1001, 0, 0⟩,
    ⟨0x0210, 1, 0x06, 1, 10, 4, 4, 0x1001, 0, 0⟩,
    ⟨0x0210, 1, 0x07, 1, 10, 4, 4, 0x1001, 0, 0⟩,
    ⟨0x0210, 1, 0x08, 1, 10, 4, 4, 0x1001, 0, 0x3f8ccccd⟩,
    ⟨0x0210, 1, 0x09, 1, 2, 1, 1, 0x1001, 0, 0⟩,
    ⟨0x0210, 1, 0x0A, 1, 2, 1, 1, 0x1001, 0, 0⟩,
    ⟨0x0210, 1, 0x0B, 1, 5, 8, 8, 0x1001, 0, 0⟩,
    ⟨0x0210, 1, 0x0C, 1, 4, 4, 4, 0x1011, 0, 0⟩,
    ⟨0x0210, 1, 0x0D, 1, 5, 8, 8, 0x1001, 0, 0⟩ ]

/-- Object 0x0230 (R670): T_DIE_THR, T_WELL_THR, INLET_MAX, T_DIE_MAX, T_INLET, T_OUTLET, TRIPS. -/
def elems0230 : List ElemRow :=
  [ ⟨0x0230, 1, 0x00, 1, 10, 4, 4, 0x1003, 1, 0x42c40000⟩,
    ⟨0x0230, 1, 0x01, 1, 10, 4, 4, 0x1003, 1, 0x42b40000⟩,
    ⟨0x0230, 1, 0x02, 1, 10, 4, 4, 0x1003, 1, 0x42200000⟩,
    ⟨0x0230, 1, 0x03, 1, 10, 4, 4, 0x1011, 0, 0⟩,
    ⟨0x0230, 1, 0x04, 1, 10, 4, 4, 0x1001, 0, 0⟩,
    ⟨0x0230, 1, 0x05, 1, 10, 4, 4, 0x1001, 0, 0⟩,
    ⟨0x0230, 1, 0x06, 1, 4, 4, 4, 0x1001, 1, 0⟩ ]

/-- Object 0x0240 (R670): TEMPS_DIE, TEMPS_WELL, TEMPS_FLOOR, TEMPS_CISTERN. -/
def elems0240 : List ElemRow :=
  [ ⟨0x0240, 1, 0x00, 1, 13, 1024, 1024, 0x1001, 0, 0⟩,
    ⟨0x0240, 1, 0x01, 1, 13, 128, 128, 0x1001, 0, 0⟩,
    ⟨0x0240, 1, 0x02, 1, 13, 32, 32, 0x1001, 0, 0⟩,
    ⟨0x0240, 1, 0x03, 1, 13, 64, 64, 0x1001, 0, 0⟩ ]

/-- Object 0x0250 (R670): RAIL_V, RAIL_I, RAIL_FAULTS. -/
def elems0250 : List ElemRow :=
  [ ⟨0x0250, 1, 0x00, 1, 13, 64, 64, 0x1001, 0, 0⟩,
    ⟨0x0250, 1, 0x01, 1, 13, 64, 64, 0x1001, 0, 0⟩,
    ⟨0x0250, 1, 0x02, 1, 4, 4, 4, 0x1001, 1, 0⟩ ]

/-- Object 0x0260 (R670): DEN_ENERGY. -/
def elems0260 : List ElemRow :=
  [ ⟨0x0260, 1, 0x00, 256, 5, 8, 8, 0x1001, 0, 0⟩ ]

/-- Object 0x0280 (R472): E_ARRAY, E_VECTOR, E_BANK, E_RELAY, E_FLIT, E_PUMP_LINE, P_LEAK_60, K_LEAK, P_STATIC. -/
def elems0280 : List ElemRow :=
  [ ⟨0x0280, 1, 0x00, 1, 10, 4, 4, 0x1003, 1, 0⟩,
    ⟨0x0280, 1, 0x01, 1, 10, 4, 4, 0x1003, 1, 0⟩,
    ⟨0x0280, 1, 0x02, 1, 10, 4, 4, 0x1003, 1, 0⟩,
    ⟨0x0280, 1, 0x03, 1, 10, 4, 4, 0x1003, 1, 0⟩,
    ⟨0x0280, 1, 0x04, 1, 10, 4, 4, 0x1003, 1, 0⟩,
    ⟨0x0280, 1, 0x05, 1, 10, 4, 4, 0x1003, 1, 0⟩,
    ⟨0x0280, 1, 0x06, 1, 10, 4, 4, 0x1003, 1, 0⟩,
    ⟨0x0280, 1, 0x07, 1, 10, 4, 4, 0x1003, 1, 0⟩,
    ⟨0x0280, 1, 0x08, 1, 10, 4, 4, 0x1003, 1, 0⟩ ]

/-- Object 0x0281 (R472): SENSE_GAIN0 to SENSE_GAIN15, SENSE_OFS0 to SENSE_OFS15. -/
def elems0281 : List ElemRow :=
  [ ⟨0x0281, 1, 0x00, 16, 10, 4, 4, 0x1003, 1, 0⟩,
    ⟨0x0281, 1, 0x10, 16, 10, 4, 4, 0x1003, 1, 0⟩ ]

/-- Object 0x0282 (R472): TOFS_DIE, TOFS_WELL, TOFS_FLOOR, TOFS_CISTERN. -/
def elems0282 : List ElemRow :=
  [ ⟨0x0282, 1, 0x00, 1, 13, 1024, 1024, 0x1003, 1, 0⟩,
    ⟨0x0282, 1, 0x01, 1, 13, 128, 128, 0x1003, 1, 0⟩,
    ⟨0x0282, 1, 0x02, 1, 13, 32, 32, 0x1003, 1, 0⟩,
    ⟨0x0282, 1, 0x03, 1, 13, 64, 64, 0x1003, 1, 0⟩ ]

/-- Object 0x0283 (R472): DROOP_TRIM. -/
def elems0283 : List ElemRow :=
  [ ⟨0x0283, 1, 0x00, 1, 13, 512, 512, 0x1003, 1, 0⟩ ]

/-- Object 0x02BF (R476): CAL_ORIGIN, CAL_SERIAL, CAL_DIGEST, CAL_IMPORT. -/
def elems02BF : List ElemRow :=
  [ ⟨0x02BF, 1, 0x00, 1, 4, 4, 4, 0x1001, 1, 0⟩,
    ⟨0x02BF, 1, 0x01, 1, 12, 1, 16, 0x1001, 1, 0⟩,
    ⟨0x02BF, 1, 0x02, 1, 13, 32, 32, 0x1001, 1, 0⟩,
    ⟨0x02BF, 1, 0x03, 1, 13, 0, 4096, 0x2, 0, 0⟩ ]

/-- Object 0x0300 and the 15 after it (R278): STATE, TEMP_MAX, REFRESH_DOUBLED, CORR_COUNT, UNCORR_COUNT,
LAST_UNCORR, REMAPPED, SPARE_SHAFTS, SPARE_ROWS_MIN, SPARE_TSV_MIN, PATROL_HOURS, PATROL_LINE, REMAP_REQ, REMAP_MAP.
-/
def elems0300 : List ElemRow :=
  [ ⟨0x0300, 16, 0x00, 1, 2, 1, 1, 0x1011, 0, 0⟩,
    ⟨0x0300, 16, 0x01, 1, 10, 4, 4, 0x1011, 0, 0⟩,
    ⟨0x0300, 16, 0x02, 1, 1, 1, 1, 0x1011, 0, 0⟩,
    ⟨0x0300, 16, 0x03, 1, 5, 8, 8, 0x1001, 0, 0⟩,
    ⟨0x0300, 16, 0x04, 1, 5, 8, 8, 0x1001, 0, 0⟩,
    ⟨0x0300, 16, 0x05, 1, 5, 8, 8, 0x1, 0, 0⟩,
    ⟨0x0300, 16, 0x06, 1, 3, 2, 2, 0x1001, 1, 0⟩,
    ⟨0x0300, 16, 0x07, 1, 3, 2, 2, 0x1001, 1, 16⟩,
    ⟨0x0300, 16, 0x08, 1, 3, 2, 2, 0x1001, 1, 32⟩,
    ⟨0x0300, 16, 0x09, 1, 2, 1, 1, 0x1001, 1, 8⟩,
    ⟨0x0300, 16, 0x0A, 1, 3, 2, 2, 0x1003, 1, 24⟩,
    ⟨0x0300, 16, 0x0B, 1, 4, 4, 4, 0x1, 0, 0⟩,
    ⟨0x0300, 16, 0x0C, 1, 3, 2, 2, 0x2, 0, 0⟩,
    ⟨0x0300, 16, 0x0D, 1, 13, 32, 32, 0x1001, 1, 0xffffffffffffffffffffffffffffffffffffffffffffffffffffffffffffffff⟩ ]

/-- Object 0x0320 and the 31 after it (R314): STATE, TEMP_MAX, RETRY_COUNT, INTEGRITY_COUNT, LAST_INTEGRITY,
FENCED_RANGES, FENCE_LIST, ROOT_REPAIRS, REENCRYPTIONS, PAGE_MOVES, SWEEP_REGION, SWEEP_PAGE, RETIRED_BYTES. -/
def elems0320 : List ElemRow :=
  [ ⟨0x0320, 32, 0x00, 1, 2, 1, 1, 0x1011, 0, 0⟩,
    ⟨0x0320, 32, 0x01, 1, 10, 4, 4, 0x1001, 0, 0⟩,
    ⟨0x0320, 32, 0x02, 1, 5, 8, 8, 0x1001, 0, 0⟩,
    ⟨0x0320, 32, 0x03, 1, 5, 8, 8, 0x1001, 0, 0⟩,
    ⟨0x0320, 32, 0x04, 1, 5, 8, 8, 0x1, 0, 0⟩,
    ⟨0x0320, 32, 0x05, 1, 2, 1, 1, 0x1001, 0, 0⟩,
    ⟨0x0320, 32, 0x06, 1, 13, 0, 1024, 0x1, 0, 0⟩,
    ⟨0x0320, 32, 0x07, 1, 4, 4, 4, 0x1001, 0, 0⟩,
    ⟨0x0320, 32, 0x08, 1, 5, 8, 8, 0x1, 0, 0⟩,
    ⟨0x0320, 32, 0x09, 1, 5, 8, 8, 0x1, 0, 0⟩,
    ⟨0x0320, 32, 0x0A, 1, 2, 1, 1, 0x1, 0, 0⟩,
    ⟨0x0320, 32, 0x0B, 1, 4, 4, 4, 0x1, 0, 0⟩,
    ⟨0x0320, 32, 0x0C, 1, 5, 8, 8, 0x1001, 1, 0⟩ ]

/-- Object 0x0340 (R315): PROTECTION, USABLE_BYTES, EPOCH, ROLL_STATE, ROLL_REQ, SWEEP_RATE, EPOCH_MAP, MAJOR_MAX,
KEY_STATE. -/
def elems0340 : List ElemRow :=
  [ ⟨0x0340, 1, 0x00, 1, 1, 1, 1, 0x1011, 0, 1⟩,
    ⟨0x0340, 1, 0x01, 1, 5, 8, 8, 0x1011, 0, 0⟩,
    ⟨0x0340, 1, 0x02, 1, 4, 4, 4, 0x1001, 0, 0⟩,
    ⟨0x0340, 1, 0x03, 1, 2, 1, 1, 0x1001, 0, 0⟩,
    ⟨0x0340, 1, 0x04, 1, 1, 1, 1, 0x2, 0, 0⟩,
    ⟨0x0340, 1, 0x05, 1, 3, 2, 2, 0x1003, 1, 32⟩,
    ⟨0x0340, 1, 0x06, 1, 13, 448, 448, 0x1, 0, 0⟩,
    ⟨0x0340, 1, 0x07, 1, 5, 8, 8, 0x1, 0, 0⟩,
    ⟨0x0340, 1, 0x08, 1, 2, 1, 1, 0x1001, 0, 0⟩ ]

/-- Object 0x0400 (R704): ROW_MAP, BLOCK_AVAIL, DEAD_ROUTERS, VPORT_OFF. -/
def elems0400 : List ElemRow :=
  [ ⟨0x0400, 1, 0x00, 1, 13, 512, 512, 0x1011, 1, 0⟩,
    ⟨0x0400, 1, 0x01, 1, 13, 64, 64, 0x1011, 0, 0⟩,
    ⟨0x0400, 1, 0x02, 1, 13, 0, 512, 0x1001, 1, 0⟩,
    ⟨0x0400, 1, 0x03, 1, 13, 32, 32, 0x1001, 0, 0⟩ ]

/-- Object 0x0401 (R704): FENCE_TILE, UNFENCE_TILE, FENCED, REPAIR_APPLY. -/
def elems0401 : List ElemRow :=
  [ ⟨0x0401, 1, 0x00, 1, 3, 2, 2, 0x2, 1, 0⟩,
    ⟨0x0401, 1, 0x01, 1, 3, 2, 2, 0x2, 1, 0⟩,
    ⟨0x0401, 1, 0x02, 1, 13, 0, 512, 0x1001, 1, 0⟩,
    ⟨0x0401, 1, 0x03, 1, 2, 1, 1, 0x2, 0, 0⟩ ]

/-- Object 0x0402 (R704): SPAD_CORR, SPAD_UNC, ISTORE_CORR, ISTORE_UNC. -/
def elems0402 : List ElemRow :=
  [ ⟨0x0402, 1, 0x00, 4, 5, 8, 8, 0x1001, 0, 0⟩ ]

/-- Object 0x0410 (R470): SEAM_CTL, SEAM_PHASE, SEAM_FOLLOW_CNT, SEAM_FOLLOW_CYC, SEAM_SLIP_CNT, SEAM_CORR_CNT,
SEAM_RELAY_UP, SEAM_MESH_UP, SEAM_DISCARD_CNT. -/
def elems0410 : List ElemRow :=
  [ ⟨0x0410, 1, 0x00, 1, 5, 8, 8, 0x1003, 0, 1⟩,
    ⟨0x0410, 1, 0x01, 1, 5, 8, 8, 0x1001, 0, 0⟩,
    ⟨0x0410, 1, 0x02, 1, 5, 8, 8, 0x1001, 0, 0⟩,
    ⟨0x0410, 1, 0x03, 1, 5, 8, 8, 0x1001, 0, 0⟩,
    ⟨0x0410, 1, 0x04, 1, 5, 8, 8, 0x1001, 0, 0⟩,
    ⟨0x0410, 1, 0x05, 1, 5, 8, 8, 0x1001, 0, 0⟩,
    ⟨0x0410, 1, 0x06, 1, 5, 8, 8, 0x1011, 0, 0⟩,
    ⟨0x0410, 1, 0x07, 1, 5, 8, 8, 0x1011, 0, 0⟩,
    ⟨0x0410, 1, 0x08, 1, 5, 8, 8, 0x1001, 0, 0⟩ ]

/-- Object 0x0420 and the 1 after it (R704): MCH_RUN, MCH_STATE, MCH_RESULT. -/
def elems0420 : List ElemRow :=
  [ ⟨0x0420, 2, 0x00, 1, 13, 8, 8, 0x2, 0, 0⟩,
    ⟨0x0420, 2, 0x01, 1, 2, 1, 1, 0x1001, 0, 0⟩,
    ⟨0x0420, 2, 0x02, 1, 13, 16, 16, 0x1001, 0, 0⟩ ]

/-- Object 0x0800 and the 255 after it (R434): STATE, CMD, CMD_RESULT, CMD_SEQ, RECT, SHAPE, POWER_CLASS, PASID,
HOLDINGS, HOLD_ADD, HOLD_REMOVE, POOLS, SAVE_AREA, LINK_BUDGET, IMAGE_DIGEST, LOAD_REASON, STEP_STATE, STEP_COUNT,
FAULT_CODE, FAULT_REC, RESHAPE_READY, BANK_CTL. -/
def elems0800 : List ElemRow :=
  [ ⟨0x0800, 256, 0x00, 1, 2, 1, 1, 0x1011, 0, 0⟩,
    ⟨0x0800, 256, 0x01, 1, 13, 32, 32, 0x22, 0, 0⟩,
    ⟨0x0800, 256, 0x02, 1, 3, 2, 2, 0x11, 0, 0⟩,
    ⟨0x0800, 256, 0x03, 1, 4, 4, 4, 0x11, 0, 0⟩,
    ⟨0x0800, 256, 0x04, 1, 4, 4, 4, 0x1011, 0, 0⟩,
    ⟨0x0800, 256, 0x05, 1, 2, 1, 1, 0x11, 0, 0⟩,
    ⟨0x0800, 256, 0x06, 1, 2, 1, 1, 0x13, 0, 0⟩,
    ⟨0x0800, 256, 0x07, 1, 4, 4, 4, 0x13, 0, 0⟩,
    ⟨0x0800, 256, 0x08, 1, 13, 0, 1024, 0x11, 0, 0⟩,
    ⟨0x0800, 256, 0x09, 1, 14, 16, 16, 0x2, 0, 0⟩,
    ⟨0x0800, 256, 0x0A, 1, 14, 16, 16, 0x2, 0, 0⟩,
    ⟨0x0800, 256, 0x0B, 1, 13, 0, 4, 0x13, 0, 0⟩,
    ⟨0x0800, 256, 0x0C, 1, 13, 16, 48, 0x13, 0, 0⟩,
    ⟨0x0800, 256, 0x0D, 1, 13, 64, 64, 0x13, 0, 0⟩,
    ⟨0x0800, 256, 0x0E, 1, 13, 32, 32, 0x11, 0, 0⟩,
    ⟨0x0800, 256, 0x0F, 1, 4, 4, 4, 0x11, 0, 0⟩,
    ⟨0x0800, 256, 0x10, 1, 2, 1, 1, 0x11, 0, 0⟩,
    ⟨0x0800, 256, 0x11, 1, 5, 8, 8, 0x11, 0, 0⟩,
    ⟨0x0800, 256, 0x12, 1, 3, 2, 2, 0x11, 0, 0⟩,
    ⟨0x0800, 256, 0x13, 1, 13, 32, 32, 0x11, 0, 0⟩,
    ⟨0x0800, 256, 0x14, 1, 1, 1, 1, 0x11, 0, 0⟩,
    ⟨0x0800, 256, 0x15, 1, 13, 8, 8, 0x2, 0, 0⟩ ]

/-- Object 0x0C00 (R350): EXT_GRANT, EXT_REVOKE, EXT_RESIZE, EXT_FILLS, EXT_SHOOTDOWNS. -/
def elems0C00 : List ElemRow :=
  [ ⟨0x0C00, 1, 0x00, 1, 13, 40, 40, 0x2, 0, 0⟩,
    ⟨0x0C00, 1, 0x01, 1, 13, 16, 16, 0x2, 0, 0⟩,
    ⟨0x0C00, 1, 0x02, 1, 13, 24, 24, 0x2, 0, 0⟩,
    ⟨0x0C00, 1, 0x03, 1, 5, 8, 8, 0x11, 0, 0⟩,
    ⟨0x0C00, 1, 0x04, 1, 5, 8, 8, 0x1, 0, 0⟩ ]

/-- Object 0x0C01 (R350): WIN_OPEN, WIN_CLOSE, WIN_FREE, WIN_REFUSED, WIN_BUSY_RETRIES. -/
def elems0C01 : List ElemRow :=
  [ ⟨0x0C01, 1, 0x00, 1, 13, 40, 40, 0x202, 0, 0⟩,
    ⟨0x0C01, 1, 0x01, 1, 3, 2, 2, 0x202, 0, 0⟩,
    ⟨0x0C01, 1, 0x02, 1, 3, 2, 2, 0x101, 0, 4096⟩,
    ⟨0x0C01, 1, 0x03, 1, 5, 8, 8, 0x1, 0, 0⟩,
    ⟨0x0C01, 1, 0x04, 1, 5, 8, 8, 0x1, 0, 0⟩ ]

/-- Object 0x0C02 (R350): ATC_VALID, ATS_REQUESTS, ATS_INVALIDATIONS, HOST_XLATE_COUNT. -/
def elems0C02 : List ElemRow :=
  [ ⟨0x0C02, 1, 0x00, 1, 3, 2, 2, 0x1, 0, 0⟩,
    ⟨0x0C02, 1, 0x01, 1, 5, 8, 8, 0x1, 0, 0⟩,
    ⟨0x0C02, 1, 0x02, 1, 5, 8, 8, 0x1, 0, 0⟩,
    ⟨0x0C02, 1, 0x03, 1, 5, 8, 8, 0x1, 0, 0⟩ ]

/-- Object 0x1000 and the 31 after it (R559): STATE, ENABLE, MODE, PARTNER, LANES, PREEMPT, PCP, VLAN, BULK_MAX,
FEC_CORR, FEC_UNCORR, AUTH_FAIL, STALE_INC, REPLAY, DROPS, OUT_TX, OUT_RX, DOWN_COUNT, SPARE_SWAPS. -/
def elems1000 : List ElemRow :=
  [ ⟨0x1000, 32, 0x00, 1, 2, 1, 1, 0x1011, 0, 0⟩,
    ⟨0x1000, 32, 0x01, 1, 1, 1, 1, 0x1003, 1, 1⟩,
    ⟨0x1000, 32, 0x02, 1, 2, 1, 1, 0x1003, 1, 0⟩,
    ⟨0x1000, 32, 0x03, 1, 2, 1, 1, 0x1003, 1, 0⟩,
    ⟨0x1000, 32, 0x04, 1, 3, 2, 2, 0x1001, 0, 0⟩,
    ⟨0x1000, 32, 0x05, 1, 2, 1, 1, 0x1001, 0, 0⟩,
    ⟨0x1000, 32, 0x06, 1, 3, 2, 2, 0x1003, 1, 774⟩,
    ⟨0x1000, 32, 0x07, 1, 3, 2, 2, 0x1003, 1, 0⟩,
    ⟨0x1000, 32, 0x08, 1, 3, 2, 2, 0x1003, 1, 4096⟩,
    ⟨0x1000, 32, 0x09, 6, 5, 8, 8, 0x1001, 0, 0⟩,
    ⟨0x1000, 32, 0x0F, 1, 3, 2, 2, 0x1011, 0, 0⟩,
    ⟨0x1000, 32, 0x10, 1, 3, 2, 2, 0x1011, 0, 0⟩,
    ⟨0x1000, 32, 0x11, 1, 4, 4, 4, 0x1001, 0, 0⟩,
    ⟨0x1000, 32, 0x12, 1, 4, 4, 4, 0x1001, 1, 0⟩ ]

/-- Object 0x1100 (R560): ENDPOINT_ID, ETHERTYPE, HOPS_INIT, TRANSIT_WEIGHT, PUSH_RETRY, PUSH_TRIES, FENCE_SEND. -/
def elems1100 : List ElemRow :=
  [ ⟨0x1100, 1, 0x00, 1, 4, 4, 4, 0x1103, 1, 0⟩,
    ⟨0x1100, 1, 0x01, 1, 3, 2, 2, 0x1003, 1, 0x88b5⟩,
    ⟨0x1100, 1, 0x02, 1, 2, 1, 1, 0x3, 1, 8⟩,
    ⟨0x1100, 1, 0x03, 1, 3, 2, 2, 0x3, 1, 64⟩,
    ⟨0x1100, 1, 0x04, 1, 4, 4, 4, 0x3, 1, 20⟩,
    ⟨0x1100, 1, 0x05, 1, 2, 1, 1, 0x3, 1, 8⟩,
    ⟨0x1100, 1, 0x06, 1, 13, 24, 24, 0x2, 0, 0⟩ ]

/-- Object 0x1101 (R560): ROUTE_SET, ROUTE_CLEAR, ROUTES_USED. -/
def elems1101 : List ElemRow :=
  [ ⟨0x1101, 1, 0x00, 1, 13, 20, 20, 0x2, 0, 0⟩,
    ⟨0x1101, 1, 0x01, 1, 3, 2, 2, 0x2, 0, 0⟩,
    ⟨0x1101, 1, 0x02, 1, 3, 2, 2, 0x1001, 0, 0⟩ ]

/-- Object 0x1110 (R560): JOB_CREATE, JOB_MEMBER, JOB_END, KEY_INSTALL, JOBS_LIVE, PAIRS_FREE, KEYS_DESTROYED,
KEYX_FAIL. -/
def elems1110 : List ElemRow :=
  [ ⟨0x1110, 1, 0x00, 1, 13, 8, 8, 0x2, 0, 0⟩,
    ⟨0x1110, 1, 0x01, 1, 13, 40, 40, 0x2, 0, 0⟩,
    ⟨0x1110, 1, 0x02, 1, 4, 4, 4, 0x2, 0, 0⟩,
    ⟨0x1110, 1, 0x03, 1, 13, 72, 72, 0x2, 0, 0⟩,
    ⟨0x1110, 1, 0x04, 1, 3, 2, 2, 0x1001, 0, 0⟩,
    ⟨0x1110, 1, 0x05, 1, 3, 2, 2, 0x1, 0, 8192⟩,
    ⟨0x1110, 1, 0x06, 1, 5, 8, 8, 0x1001, 0, 0⟩,
    ⟨0x1110, 1, 0x07, 1, 5, 8, 8, 0x1001, 0, 0⟩ ]

/-- Object 0x1120 (R560): PUSH_CH_CREATE, PUSH_CH_CTL, LOG_SELECT, LOG_ENTRY, CUSTODY_SELECT, CUSTODY_ENTRY,
PUSH_RELEASE, LOG_CLEAR, LOST_COUNT, LOG_FREE, CUSTODY_FREE, PUSH_CH_STATE. -/
def elems1120 : List ElemRow :=
  [ ⟨0x1120, 1, 0x00, 1, 13, 48, 48, 0x2, 0, 0⟩,
    ⟨0x1120, 1, 0x01, 1, 13, 4, 4, 0x2, 0, 0⟩,
    ⟨0x1120, 1, 0x02, 1, 13, 16, 16, 0x2, 0, 0⟩,
    ⟨0x1120, 1, 0x03, 1, 13, 32, 32, 0x1, 0, 0⟩,
    ⟨0x1120, 1, 0x04, 1, 13, 16, 16, 0x202, 0, 0⟩,
    ⟨0x1120, 1, 0x05, 1, 13, 32, 32, 0x101, 0, 0⟩,
    ⟨0x1120, 1, 0x06, 1, 13, 16, 16, 0x202, 0, 0⟩,
    ⟨0x1120, 1, 0x07, 1, 13, 16, 16, 0x2, 0, 0⟩,
    ⟨0x1120, 1, 0x08, 1, 5, 8, 8, 0x1001, 0, 0⟩,
    ⟨0x1120, 1, 0x09, 1, 3, 2, 2, 0x1, 0, 4096⟩,
    ⟨0x1120, 1, 0x0A, 1, 3, 2, 2, 0x1, 0, 4096⟩,
    ⟨0x1120, 1, 0x0B, 1, 13, 512, 512, 0x1, 0, 0⟩ ]

/-- Object 0x1200 (R507): LINK_STATE, BAR4_SIZE, DB_DROPS, APER_REFUSED, FLR_COUNT. -/
def elems1200 : List ElemRow :=
  [ ⟨0x1200, 1, 0x00, 1, 4, 4, 4, 0x1001, 0, 0⟩,
    ⟨0x1200, 1, 0x01, 1, 5, 8, 8, 0x1001, 0, 0x1000000000⟩,
    ⟨0x1200, 1, 0x02, 1, 5, 8, 8, 0x1, 0, 0⟩,
    ⟨0x1200, 1, 0x03, 1, 5, 8, 8, 0x1, 0, 0⟩,
    ⟨0x1200, 1, 0x04, 1, 4, 4, 4, 0x1001, 0, 0⟩ ]

/-- Object 0x1201 (R507): SLOT_OWNER. -/
def elems1201 : List ElemRow :=
  [ ⟨0x1201, 1, 0x00, 256, 4, 4, 4, 0x3, 0, 0⟩ ]

/-- Object 0x1210 (R507): QUEUE_CREATE, QUEUE_CTL, QUEUE_DESTROY, QUEUES_FREE. -/
def elems1210 : List ElemRow :=
  [ ⟨0x1210, 1, 0x00, 1, 13, 64, 64, 0x2, 0, 0⟩,
    ⟨0x1210, 1, 0x01, 1, 13, 16, 16, 0x2, 0, 0⟩,
    ⟨0x1210, 1, 0x02, 1, 15, 8, 8, 0x2, 0, 0⟩,
    ⟨0x1210, 1, 0x03, 1, 3, 2, 2, 0x1, 0, 4096⟩ ]

/-- Object 0x1220 (R507): FEN_CREATE, FEN_REF, FEN_UNREF, FEN_EXPORT, FENCES_FREE. -/
def elems1220 : List ElemRow :=
  [ ⟨0x1220, 1, 0x00, 1, 13, 24, 24, 0x2, 0, 0⟩,
    ⟨0x1220, 1, 0x01, 1, 13, 16, 16, 0x2, 0, 0⟩,
    ⟨0x1220, 1, 0x02, 1, 13, 16, 16, 0x2, 0, 0⟩,
    ⟨0x1220, 1, 0x03, 1, 13, 16, 16, 0x2, 0, 0⟩,
    ⟨0x1220, 1, 0x04, 1, 4, 4, 4, 0x1, 0, 0x10000⟩ ]

/-- Object 0x1230 (R507): APER_MAP, APER_UNMAP, APER_FREE. -/
def elems1230 : List ElemRow :=
  [ ⟨0x1230, 1, 0x00, 1, 13, 32, 32, 0x2, 0, 0⟩,
    ⟨0x1230, 1, 0x01, 1, 3, 2, 2, 0x2, 0, 0⟩,
    ⟨0x1230, 1, 0x02, 1, 3, 2, 2, 0x1, 0, 1024⟩ ]

/-- Object 0x1240 (R507): OWNER_TEARDOWN. -/
def elems1240 : List ElemRow :=
  [ ⟨0x1240, 1, 0x00, 1, 13, 8, 8, 0x2, 0, 0⟩ ]

/-- Object 0x1400 (R590): DOM_SLEEP, SPURIOUS_LOST, SPURIOUS_WITHDRAWN, BAD_COMPLETE, LOCKED_WRITES, WAKES. -/
def elems1400 : List ElemRow :=
  [ ⟨0x1400, 1, 0x00, 1, 13, 5, 5, 0x1003, 1, 0x101010101⟩,
    ⟨0x1400, 1, 0x01, 1, 5, 8, 8, 0x1001, 0, 0⟩,
    ⟨0x1400, 1, 0x02, 1, 5, 8, 8, 0x1001, 0, 0⟩,
    ⟨0x1400, 1, 0x03, 1, 5, 8, 8, 0x1001, 0, 0⟩,
    ⟨0x1400, 1, 0x04, 1, 5, 8, 8, 0x1001, 0, 0⟩,
    ⟨0x1400, 1, 0x05, 1, 5, 8, 8, 0x1001, 0, 0⟩ ]

/-- Object 0x1500 (R590): MBX_ACCEPTED, MBX_OVERFLOWS, MBX_STRAY_ACKS. -/
def elems1500 : List ElemRow :=
  [ ⟨0x1500, 1, 0x00, 1, 5, 8, 8, 0x1001, 0, 0⟩,
    ⟨0x1500, 1, 0x01, 1, 5, 8, 8, 0x1001, 0, 0⟩,
    ⟨0x1500, 1, 0x02, 1, 5, 8, 8, 0x1001, 0, 0⟩ ]

/-- Object 0x1800 (R621): DEVID_CERT, DEVID_DIGEST, ALIAS_CERT, CA_CERT, ROOT_DIGEST. -/
def elems1800 : List ElemRow :=
  [ ⟨0x1800, 1, 0x00, 1, 13, 0, 2048, 0x1101, 2, 0⟩,
    ⟨0x1800, 1, 0x01, 1, 13, 32, 32, 0x1101, 0, 0⟩,
    ⟨0x1800, 1, 0x02, 1, 13, 0, 2048, 0x1101, 0, 0⟩,
    ⟨0x1800, 1, 0x03, 1, 13, 0, 2048, 0x1101, 2, 0⟩,
    ⟨0x1800, 1, 0x04, 1, 13, 32, 32, 0x1001, 2, 0⟩ ]

/-- Object 0x1801 (R621): FW_BANK, FW_STATUS, FW_FALLBACK, FW_SVN, SVN_FUSE, SVN_COMMIT. -/
def elems1801 : List ElemRow :=
  [ ⟨0x1801, 1, 0x00, 1, 2, 1, 1, 0x1001, 0, 0⟩,
    ⟨0x1801, 1, 0x01, 1, 3, 2, 2, 0x1001, 0, 0⟩,
    ⟨0x1801, 1, 0x02, 1, 1, 1, 1, 0x1001, 0, 0⟩,
    ⟨0x1801, 1, 0x03, 1, 3, 2, 2, 0x11111, 0, 0⟩,
    ⟨0x1801, 1, 0x04, 1, 3, 2, 2, 0x1001, 2, 0⟩,
    ⟨0x1801, 1, 0x05, 1, 1, 1, 1, 0x2, 0, 0⟩ ]

/-- Object 0x1802 (R621): LC_NONCE, LC_RESULT, TAMPER_COUNT, TAMPER_LOG. -/
def elems1802 : List ElemRow :=
  [ ⟨0x1802, 1, 0x00, 1, 13, 32, 32, 0x1, 0, 0⟩,
    ⟨0x1802, 1, 0x01, 1, 3, 2, 2, 0x1001, 0, 0⟩,
    ⟨0x1802, 1, 0x02, 1, 4, 4, 4, 0x1001, 1, 0⟩,
    ⟨0x1802, 1, 0x03, 1, 13, 0, 256, 0x1001, 1, 0⟩ ]

/-- Object 0x1803 (R621): SPDM_SESSIONS. -/
def elems1803 : List ElemRow :=
  [ ⟨0x1803, 1, 0x00, 1, 2, 1, 1, 0x1001, 0, 0⟩ ]

/-- Object 0x1804 (R621): SCRUB_PENDING, SCRUB_DONE, SCRUB_FAILS. -/
def elems1804 : List ElemRow :=
  [ ⟨0x1804, 1, 0x00, 1, 5, 8, 8, 0x1011, 0, 0⟩,
    ⟨0x1804, 1, 0x01, 1, 5, 8, 8, 0x1001, 0, 0⟩,
    ⟨0x1804, 1, 0x02, 1, 4, 4, 4, 0x1001, 0, 0⟩ ]

/-- Object 0x1C00 (R636): STATE, REQUIRED, METER_SERIAL, METER_FW, ENERGY, TICKS, POWER_CYCLES, RECEIPT_LAST,
UNMETERED_COUNT, LINK_ERRORS. -/
def elems1C00 : List ElemRow :=
  [ ⟨0x1C00, 1, 0x00, 1, 2, 1, 1, 0x11111, 0, 0⟩,
    ⟨0x1C00, 1, 0x01, 1, 1, 1, 1, 0x11111, 0, 0⟩,
    ⟨0x1C00, 1, 0x02, 1, 12, 1, 16, 0x11111, 0, 0⟩,
    ⟨0x1C00, 1, 0x03, 1, 4, 4, 4, 0x11111, 0, 0⟩,
    ⟨0x1C00, 1, 0x04, 1, 5, 8, 8, 0x11111, 0, 0⟩,
    ⟨0x1C00, 1, 0x05, 1, 5, 8, 8, 0x11111, 0, 0⟩,
    ⟨0x1C00, 1, 0x06, 1, 4, 4, 4, 0x11111, 0, 0⟩,
    ⟨0x1C00, 1, 0x07, 1, 5, 8, 8, 0x11111, 0, 0⟩,
    ⟨0x1C00, 1, 0x08, 1, 4, 4, 4, 0x11111, 0, 0⟩,
    ⟨0x1C00, 1, 0x09, 1, 5, 8, 8, 0x11111, 0, 0⟩ ]

/-- Object 0x1C01 (R636): METER_CERT, METER_CA_CERT. -/
def elems1C01 : List ElemRow :=
  [ ⟨0x1C01, 1, 0x00, 1, 13, 0, 2048, 0x11111, 0, 0⟩,
    ⟨0x1C01, 1, 0x01, 1, 13, 0, 2048, 0x11111, 0, 0⟩ ]

/-- Object 0x1C80 and the 127 after it (R636): RECEIPT. -/
def elems1C80 : List ElemRow :=
  [ ⟨0x1C80, 128, 0x00, 1, 13, 0, 4096, 0x11111, 0, 0⟩ ]

/-- Object 0x2100 and the 47 after it (R384): QLEVEL, QTH, HOLD_STEP, HOLD_MAX, RT_MIN, GUAR_SUM, BAL_LIM, HOLDS,
MISSES, CLS_DEN, CLS_SAVE, CLS_SETT, CLS_REPAIR, CLS_BACKGROUND, CLS_REFRESH, CLS_IDLE. -/
def elems2100 : List ElemRow :=
  [ ⟨0x2100, 48, 0x00, 1, 3, 2, 2, 0x1001, 0, 0⟩,
    ⟨0x2100, 16, 0x01, 1, 3, 2, 2, 0x1003, 1, 32⟩,
    ⟨0x2100, 16, 0x02, 1, 3, 2, 2, 0x1003, 1, 4⟩,
    ⟨0x2100, 48, 0x03, 1, 3, 2, 2, 0x1003, 1, 1000⟩,
    ⟨0x2100, 48, 0x04, 1, 2, 1, 1, 0x1003, 1, 8⟩,
    ⟨0x2100, 48, 0x05, 1, 3, 2, 2, 0x1011, 0, 0⟩,
    ⟨0x2100, 16, 0x06, 1, 4, 4, 4, 0x1003, 1, 0x4000⟩,
    ⟨0x2100, 48, 0x07, 1, 5, 8, 8, 0x1001, 0, 0⟩,
    ⟨0x2100, 48, 0x08, 1, 5, 8, 8, 0x1001, 0, 0⟩,
    ⟨0x2100, 48, 0x09, 7, 5, 8, 8, 0x1001, 0, 0⟩ ]

/-- Object 0x2110 and the 31 after it (R384): QTH, HOLD_STEP, BAL_LIM. -/
def elems2110 : List ElemRow :=
  [ ⟨0x2110, 32, 0x01, 1, 3, 2, 2, 0x1003, 1, 128⟩,
    ⟨0x2110, 32, 0x02, 1, 3, 2, 2, 0x1003, 1, 8⟩,
    ⟨0x2110, 32, 0x06, 1, 4, 4, 4, 0x1003, 1, 384⟩ ]

/-- Object 0x2200 and the 47 after it (R384): GUARANTEE. -/
def elems2200 : List ElemRow :=
  [ ⟨0x2200, 48, 0x00, 256, 2, 1, 1, 0x13, 0, 0⟩ ]

/-- Object 0x2300 (R384): REG_PHASE, MON_WIN, MISS_THRESH, VC0_PEAK, REPORTS_COMBINED. -/
def elems2300 : List ElemRow :=
  [ ⟨0x2300, 1, 0x00, 1, 2, 1, 1, 0x1003, 0, 1⟩,
    ⟨0x2300, 1, 0x01, 1, 4, 4, 4, 0x3, 1, 100⟩,
    ⟨0x2300, 1, 0x02, 1, 2, 1, 1, 0x3, 1, 4⟩,
    ⟨0x2300, 1, 0x03, 1, 3, 2, 2, 0x1001, 0, 0⟩,
    ⟨0x2300, 1, 0x04, 1, 5, 8, 8, 0x1, 0, 0⟩ ]

/-- Object 0x2400 and the 255 after it (R384, R436): DEN_SLOTS, DEN_MISSES, SDI, SDI_MISSES, SDI_THRESH, SDI_WIN,
SDI_MISS_EN, ATTR_CAUSE0 to ATTR_CAUSE7. -/
def elems2400 : List ElemRow :=
  [ ⟨0x2400, 256, 0x00, 48, 5, 8, 8, 0x11, 0, 0⟩,
    ⟨0x2400, 256, 0x30, 1, 4, 4, 4, 0x11, 0, 0⟩,
    ⟨0x2400, 256, 0x31, 1, 4, 4, 4, 0x11, 0, 0⟩,
    ⟨0x2400, 256, 0x32, 1, 4, 4, 4, 0x11, 0, 0⟩,
    ⟨0x2400, 256, 0x33, 1, 4, 4, 4, 0x13, 0, 6554⟩,
    ⟨0x2400, 256, 0x34, 1, 4, 4, 4, 0x13, 0, 0x1000000⟩,
    ⟨0x2400, 256, 0x35, 1, 1, 1, 1, 0x13, 0, 0⟩,
    ⟨0x2400, 256, 0x38, 8, 5, 8, 8, 0x11, 0, 0⟩ ]

/-- Object 0x2500 and the 255 after it (R471): SLIP_CYC, SLIP_CNT, SLIP_LAST, SLIP_LASTB, BUNDLE, SLIP_CAUSE0 to
SLIP_CAUSE7. -/
def elems2500 : List ElemRow :=
  [ ⟨0x2500, 256, 0x00, 1, 5, 8, 8, 0x11, 0, 0⟩,
    ⟨0x2500, 256, 0x01, 1, 5, 8, 8, 0x11, 0, 0⟩,
    ⟨0x2500, 256, 0x02, 1, 5, 8, 8, 0x11, 0, 0⟩,
    ⟨0x2500, 256, 0x03, 1, 5, 8, 8, 0x11, 0, 0⟩,
    ⟨0x2500, 256, 0x04, 1, 5, 8, 8, 0x11, 0, 0⟩,
    ⟨0x2500, 256, 0x08, 8, 5, 8, 8, 0x11, 0, 0⟩ ]

/-- Object 0x2600 and the 255 after it (R471): STEP_FLAGS, FP64_S2 to FP64_S7. -/
def elems2600 : List ElemRow :=
  [ ⟨0x2600, 256, 0x00, 1, 3, 2, 2, 0x11, 0, 0⟩,
    ⟨0x2600, 256, 0x02, 6, 5, 8, 8, 0x11, 0, 0⟩ ]

/-- Object 0x3000 (R704): OWL_STREAM, OWL_PUMP, OWL_WINDOW, OWL_LINK, OWL_SETT, LEASE_LAPSE, DUMP_CFG, RESET_REQ. -/
def elems3000 : List ElemRow :=
  [ ⟨0x3000, 1, 0x00, 1, 4, 4, 4, 0x1003, 1, 0x2710⟩,
    ⟨0x3000, 1, 0x01, 1, 4, 4, 4, 0x1003, 1, 2000⟩,
    ⟨0x3000, 1, 0x02, 1, 4, 4, 4, 0x1003, 1, 200⟩,
    ⟨0x3000, 1, 0x03, 1, 4, 4, 4, 0x1003, 1, 5⟩,
    ⟨0x3000, 1, 0x04, 1, 4, 4, 4, 0x1003, 1, 5⟩,
    ⟨0x3000, 1, 0x05, 1, 2, 1, 1, 0x1003, 1, 3⟩,
    ⟨0x3000, 1, 0x06, 1, 13, 32, 32, 0x3, 0, 0⟩,
    ⟨0x3000, 1, 0x07, 1, 13, 8, 8, 0x2002, 0, 0⟩ ]

/-- Object 0x3001 (R704): LEASE_STATE. -/
def elems3001 : List ElemRow :=
  [ ⟨0x3001, 1, 0x00, 1, 2, 1, 1, 0x1001, 0, 0⟩ ]

/-- The whole catalogue, in ascending order of objects and elements. -/
def catalogue : List ElemRow :=
  elems0000 ++ elems0001 ++ elems0100 ++ elems0101 ++ elems0102 ++ elems0110 ++ elems0200 ++ elems0210 ++
  elems0230 ++ elems0240 ++ elems0250 ++ elems0260 ++ elems0280 ++ elems0281 ++ elems0282 ++ elems0283 ++
  elems02BF ++ elems0300 ++ elems0320 ++ elems0340 ++ elems0400 ++ elems0401 ++ elems0402 ++ elems0410 ++
  elems0420 ++ elems0800 ++ elems0C00 ++ elems0C01 ++ elems0C02 ++ elems1000 ++ elems1100 ++ elems1101 ++
  elems1110 ++ elems1120 ++ elems1200 ++ elems1201 ++ elems1210 ++ elems1220 ++ elems1230 ++ elems1240 ++
  elems1400 ++ elems1500 ++ elems1800 ++ elems1801 ++ elems1802 ++ elems1803 ++ elems1804 ++ elems1C00 ++
  elems1C01 ++ elems1C80 ++ elems2100 ++ elems2110 ++ elems2200 ++ elems2300 ++ elems2400 ++ elems2500 ++
  elems2600 ++ elems3000 ++ elems3001

/-- Insert a row where its elements belong. -/
def rowInsert (r : ElemRow) : List ElemRow → List ElemRow
  | [] => [r]
  | x :: xs => if r.el ≤ x.el then r :: x :: xs else x :: rowInsert r xs

/-- The rows of an object, in ascending order of elements. -/
def objectRows (ix : Nat) : List ElemRow :=
  (catalogue.filter fun r => r.lo ≤ ix && ix < r.lo + r.n).foldr rowInsert []

/-- The row of an element. -/
def elemRow (ix el : Nat) : Option ElemRow :=
  (objectRows ix).find? fun r => r.el ≤ el && el < r.el + r.en

end Sys2Proof.Machine
end

