-- ==== Sys2Proof/Machine/DictState.lean ====
section
/-! DEFINITION. Machine/DictState.lean: the state of the object dictionary (chapter 11): the registers that are elements of
their own, the ring pages, the request queues and the responses under way. -/

namespace Sys2Proof.Machine

open Sys2Proof

/-- A ring page of BAR0 (R452, R453). `req` and `rsp` are the areas of its rings, by 8-byte word: no row of the table is the host's write of a
request, so a message comes to stand in `req` when it is consumed (DESIGN CHOICE, log entry 198). -/
structure RingPage where
  drqTail : Nat := 0
  drqHead : Nat := 0
  drsTail : Nat := 0
  drsHead : Nat := 0
  enable : Bool := false
  irqEn : Bool := false
  overrun : Bool := false
  req : KMap Nat := []
  rsp : KMap Nat := []
  deriving DecidableEq, Repr

/-- A dictionary message that waits at the management bus, on the fabric queue or in a secured session (R457, R459, R602). -/
structure DictMsg where
  fe : FrontEnd
  bytes : List Byte
  deriving DecidableEq, Repr

/-- An executed request whose response is not out: `answer` is its code and payload, none while the work that must come
first goes on (R446, R335, R503). -/
structure Resp where
  id : Nat
  q : Req
  answer : Option (Code × List Byte)
  deriving DecidableEq, Repr

/-- A flash commit under way (R446): the response that waits for it, if any, and the elements with the bytes they held. -/
structure Commit where
  id : Option Nat
  old : List (Nat × Nat × List Byte)
  deriving DecidableEq, Repr

/-- A dictionary message being put together from DICT segments (R529). -/
structure Reassembly where
  src : BitVec 24
  job : BitVec 32
  msg : BitVec 16
  total : Nat
  segs : KMap (List Byte)
  deriving DecidableEq, Repr

/-- The object dictionary. `regs` holds the fixed-size elements that are registers, keyed by 256 × index + element, an
unlisted one at its default; `blobs` those of variable size; `sealedBad` the sealed elements that failed authentication
(R447). -/
structure Dict where
  ready : Bool := false
  regs : KMap Nat := []
  blobs : KMap (List Byte) := []
  pages : KMap RingPage := []
  queued : List DictMsg := []
  /-- The front end that the rotation of R461 served last: 0 page 0, 1 the management bus, 2 the fabric queue, 3 a
  den-owner page. -/
  turn : Nat := 3
  /-- The den-owner page served last. -/
  lastPage : Nat := 0
  nextId : Nat := 0
  waiting : List Resp := []
  /-- The front end of every fabric request whose key has been destroyed before its response is sent (R457): one for each such request. -/
  cut : List FrontEnd := []
  commits : List Commit := []
  reassembly : List Reassembly := []
  sealedBad : List Nat := []
  deriving DecidableEq, Repr

/-- The key of an element in the register file. -/
def elemKey (ix el : Nat) : Nat := 256 * ix + el

/-- The default of an element (R438). -/
def elemDefault (ix el : Nat) : Nat := match elemRow ix el with | some r => r.dflt | none => 0

/-- A register of the dictionary. -/
def Dict.reg (d : Dict) (ix el : Nat) : Nat := kget (elemDefault ix el) d.regs (elemKey ix el)

/-- Write a register of the dictionary, of the element's size. -/
def Dict.setReg (d : Dict) (ix el v : Nat) : Dict :=
  { d with regs := kput (elemDefault ix el) d.regs (elemKey ix el) v }

/-- A variable-size element held as bytes. -/
def Dict.blob (d : Dict) (ix el : Nat) : List Byte := kget [] d.blobs (elemKey ix el)

/-- Write a variable-size element. -/
def Dict.setBlob (d : Dict) (ix el : Nat) (v : List Byte) : Dict :=
  { d with blobs := kput [] d.blobs (elemKey ix el) v }

/-- Add to a counter, which stops at the largest value of its width (R278 and the like say only that counters count; the
stop is a DESIGN CHOICE, log entry 12). -/
def Dict.bump (d : Dict) (ix el : Nat) (by_ : Nat := 1) : Dict :=
  let w := match elemRow ix el with | some r => 8 * r.lmax | none => 64
  d.setReg ix el (satAdd w (d.reg ix el) by_)

end Sys2Proof.Machine
end

