-- ==== Sys2Proof/Machine/FabState.lean ====
section
/-! DEFINITION. Machine/FabState.lean: the state of the chip links and of compositions (chapter 13): links, routes, jobs,
members, pair keys, transactions, push channels, the custody log and the custody table. -/

namespace Sys2Proof.Machine

open Sys2Proof

/-- A live job (R532). -/
structure Job where
  id : Nat
  compat : Bool
  deriving DecidableEq, Repr

/-- A member of a job, with the digest of its identity key (R532). -/
structure Member where
  job : Nat
  peer : Nat
  digest : BitVec 256
  deriving DecidableEq, Repr

/-- The packet numbers a receive key has taken (R520): the largest, and those seen among the last 8,192. -/
structure Replay where
  top : Nat := 0
  seen : List Nat := []
  deriving DecidableEq, Repr

/-- An old receive key kept after a probe (R545): by its initiator until no transaction sent under it is outstanding, by a
responder for 10 ms. -/
structure OldKey where
  rx : Replay
  timed : Bool
  key : BitVec 256 := 0
  deriving DecidableEq, Repr

/-- A key agreement that this chip has begun (R536 to R538): how often its KEYX has been sent, the KEYX's payload, and the ephemeral private
key, which goes when the keys are derived. -/
structure Agreement where
  tries : Nat := 1
  payload : List Byte := []
  private_ : Nat := 0
  deriving DecidableEq, Repr

/-- A pair (R534): whether its keys exist, the two keys, whether it is SUSPECT (R545), the peer's incarnation, the number of its key
generation, the packet number of the next frame, what its receive key has taken, the old receive key, and the agreement this chip has
begun (R538). -/
structure Pair where
  job : Nat
  peer : Nat
  live : Bool := false
  suspect : Bool := false
  inc : BitVec 64 := 0
  /-- An incarnation is recorded. -/
  known : Bool := false
  gen : Nat := 0
  pn : Nat := 1
  rx : Replay := {}
  old : Option OldKey := none
  txKey : BitVec 256 := 0
  rxKey : BitVec 256 := 0
  agr : Option Agreement := none
  deriving DecidableEq, Repr

/-- A frame's content before the link, the key and the packet number are known. -/
structure Msg where
  kind : Nat
  opc : Nat := 0
  arg : Nat := 0
  tag : Nat := 0
  rwin : Nat := 0
  off : Nat := 0
  payload : List Byte := []
  /-- The contended mark of a response (R431). -/
  contended : Bool := false
  deriving DecidableEq, Repr

/-- For whom a frame is sent (R524, R530). -/
inductive SendBy where
  | den (slot : Nat)
  | engine
  | transit
  deriving DecidableEq, Repr

/-- A frame that waits for its pair's key agreement (R535), and whether a transaction with its tag stands on the link. A response keeps its link
and the MAC address it goes to (R519); any other frame takes the route in force when it is sent (R523, R524). -/
structure Waiter where
  job : Nat
  peer : Nat
  by_ : SendBy
  link : Nat
  msg : Msg
  tx : Bool
  mac : Option (BitVec 48) := none
  deriving DecidableEq, Repr

/-- Who waits for a transaction (R344, R550, R422): a line slot of a pump; a block of `n` bytes of a push
unit, for one of its attempts; a COPY_OUT. -/
inductive TxFor where
  | pump (t tag : Nat) (loc : BitVec 64)
  | push (ch unit attempt n : Nat)
  | copyOut (seq : Nat)
  deriving DecidableEq, Repr

/-- An outstanding transaction of a link as sender (R347); `busy` after a BUSY answer (R348). -/
structure Tx where
  tag : Nat
  slot : Nat
  who : TxFor
  job : Nat
  peer : Nat
  gen : Nat
  msg : Msg
  busy : Bool := false
  deriving DecidableEq, Repr

/-- A waiting translation of an engine (R332): the den, the address, and whether the directory has answered that it has none. -/
structure EngMiss where
  slot : Nat
  va : Nat
  absent : Bool := false
  deriving DecidableEq, Repr

/-- A bulk frame held while the link is paused (R521). -/
structure HeldFrame where
  by_ : SendBy
  frame : Frame
  deriving DecidableEq, Repr

/-- A link. STATE, LANES, PREEMPT and the counters are registers of the dictionary. `rx` holds the frames that have passed
R520 and wait for their work, deciphered; `paused` is the partner's pause of the bulk PCP, `pausing` the link's own (R521). -/
structure Link where
  /-- The spare stands in for a lane, and for which (R511). -/
  spareUsed : Bool := false
  lostLane : Nat := 0
  /-- The repair map holds the link unavailable (R511). -/
  unavailable : Bool := false
  txs : List Tx := []
  nextTag : Nat := 0
  rx : List Frame := []
  paused : Bool := false
  pausing : Bool := false
  held : List HeldFrame := []
  /-- Inbound places kept occupied after held transfers, each with its hold in ns (R378). -/
  places : List Nat := []
  deriving DecidableEq, Repr

/-- A route entry (R523). -/
structure Route where
  plink : Nat
  links : BitVec 32
  value : Nat
  mask : Nat
  via : Nat
  deriving DecidableEq, Repr

/-- The states of a push channel (R549). -/
inductive ChanPhase where
  | stopped | running | held
  deriving DecidableEq, Repr

/-- How far a push unit has come (R550, R554): its data are being sent; they are all acknowledged and the PCOMMIT waits for a
free log entry; the PCOMMIT has been sent some times; its PACK has come. -/
inductive UnitPhase where
  | sending | ready | committed (sends : Nat) | acked
  deriving DecidableEq, Repr

/-- A push unit in flight (R548, R550): with the window that it was taken for, and that window's job and peer (R555); `sent` and `got` count
bytes sent and acknowledged; `failed` is the status it has failed with. -/
structure PushUnit where
  n : Nat
  win : Nat := 0
  job : Nat := 0
  peer : Nat := 0
  id : BitVec 64
  epoch : Nat
  rf : Bool
  src : Nat
  len : Nat
  off : Nat
  fence : Nat
  fval : Nat
  sent : Nat := 0
  got : Nat := 0
  phase : UnitPhase := .sending
  failed : Option Code := none
  attempt : Nat := 0
  deriving DecidableEq, Repr

/-- A push channel (R547, R549). `next` is the next unit to be taken, `done` is DONE; `status` is the failure of an access to the tail or the done
word, `stuck` a unit whose descriptor could not be read or taken, with its status. -/
structure Chan where
  slot : Nat
  win : Nat
  ring : Nat
  ringLog : Nat
  tailw : Nat
  donew : Nat
  poll : Nat
  phase : ChanPhase := .running
  status : Code := 0
  stuck : Option (Nat × Code) := none
  done : Nat := 0
  next : Nat := 0
  units : List PushUnit := []
  /-- The done word must be written at START (R551). -/
  owes : Bool := false
  deriving DecidableEq, Repr

/-- An entry of the sender's custody log (R554, R557). -/
structure LogEntry where
  id : BitVec 64
  peer : Nat
  job : Nat
  epoch : Nat
  inc : BitVec 32
  lost : Bool := false
  deriving DecidableEq, Repr

/-- An entry of the receiver's custody table (R552, R556). -/
structure Custody where
  id : BitVec 64
  src : Nat
  job : Nat
  epoch : Nat
  inc : BitVec 32
  win : Nat
  deriving DecidableEq, Repr

/-- The fabric. The selections of R557 are keyed by the front end of R461, and name the entry by PUSH_ID and endpoint. -/
structure Fabric where
  jobs : List Job := []
  members : List Member := []
  keys : List Pair := []
  nextGen : Nat := 0
  waits : List Waiter := []
  routes : KMap (Option Route) := []
  links : KMap Link := []
  chans : KMap (Option Chan) := []
  logs : List LogEntry := []
  custody : List Custody := []
  logSel : KMap (Option (BitVec 64 × Nat)) := []
  custodySel : KMap (Option (BitVec 64 × Nat)) := []
  dictMsg : Nat := 0
  /-- The extent caches of the engines of R328, most recently used first, and their miss slots (R332): link engines 0 to 31, the host
  interface DMA engine 32, the save and restore engine 33. -/
  caches : KMap (List (Nat × Extent)) := []
  engMisses : KMap (List EngMiss) := []
  deriving DecidableEq, Repr

end Sys2Proof.Machine
end

