-- ==== Sys2Proof/Machine/HostState.lean ====
section
/-! DEFINITION. Machine/HostState.lean: the state of the host attachment (chapter 12): queues, fences, the aperture, and the
host's translations (chapter 08). -/

namespace Sys2Proof.Machine

open Sys2Proof

/-- The states of a queue (R488). -/
inductive QPhase where
  | disabled | active | stopped
  deriving DecidableEq, Repr

/-- A submission entry (R491). -/
structure Entry where
  op : Nat
  wen : Bool
  sen : Bool
  ben : Bool
  arg : Bool
  noirq : Bool
  clean : Bool
  wfen : Nat
  sfen : Nat
  w1 : Nat
  w2 : Nat
  w3 : Nat
  w4 : Nat
  w5 : Nat
  w6 : Nat
  w7 : Nat
  deriving DecidableEq, Repr

/-- How far an entry has come (R492, R493): waiting on its fence; ready to become the slot's step; the slot's next or
present step; done, with what its record carries. -/
inductive CurPhase where
  | waiting
  | ready
  | running
  | done (status : Code) (flags : BitVec 16) (badIx : Nat) (badCode : Code) (steps : BitVec 64)
  deriving DecidableEq, Repr

/-- The entry a queue has taken. -/
structure Cur where
  entry : Entry
  index : Nat
  batch : List Byte
  phase : CurPhase
  /-- Its batch list has been judged good, and its leaves are under way or done (R427). -/
  left : Bool := false
  deriving DecidableEq, Repr

/-- A queue (R487 to R490). `first` is the PHASE bit of the completion ring's present pass. -/
structure Queue where
  phase : QPhase := .disabled
  slot : Nat := 0
  sqHead : Nat := 0
  sqTail : Nat := 0
  cqHead : Nat := 0
  cqTail : Nat := 0
  first : Bool := true
  lastStatus : Code := 0
  gen : BitVec 32 := 0
  source : Nat := 0xFFFF
  owner : Nat := 0
  sqBase : Nat := 0
  sqLog : Nat := 0
  cqBase : Nat := 0
  cqLog : Nat := 0
  pasid : BitVec 32 := 0
  waitOwl : Nat := 0
  cur : Option Cur := none
  /-- Entries that DISCARD has ended, whose records are not written (R488). -/
  discards : List Cur := []
  deriving DecidableEq, Repr

/-- A fence (R495): owners holding references, and the queues whose entries wait on it. -/
structure Fence where
  live : Bool := false
  value : BitVec 40 := 0
  abandoned : Bool := false
  creator : Nat := 0
  refs : List Nat := []
  waiters : List Nat := []
  pci : Bool := false
  fabric : Bool := false
  job : BitVec 32 := 0
  stale : BitVec 64 := 0
  gen : BitVec 32 := 0
  deriving DecidableEq, Repr

/-- An aperture entry (R502). -/
structure Aper where
  slot : Nat
  rd : Bool
  wr : Bool
  owner : Nat
  off : Nat
  len : Nat
  base : Nat
  deriving DecidableEq, Repr

/-- An entry of the address translation cache (R340). -/
structure AtcEntry where
  pasid : Nat
  page : Nat
  rd : Bool
  wr : Bool
  xlat : Nat
  deriving DecidableEq, Repr

/-- A translation request sent to the host (R340): what waits for it. -/
structure AtsWait where
  pasid : Nat
  page : Nat
  who : Agent
  tag : Nat
  deriving DecidableEq, Repr

/-- An ATS Invalidate Request whose completion waits for host requests already sent (R342): the line slots they stand in, by tile, tag
and location. -/
structure AtsHold where
  pasid : Nat
  base : Nat
  slots : List (Nat × Nat × BitVec 64)
  deriving DecidableEq, Repr

/-- The host port: queues, fences, aperture, owners of slots, and the state of the PCI Express function. -/
structure HostPort where
  queues : KMap Queue := []
  fences : KMap Fence := []
  apers : KMap (Option Aper) := []
  owners : KMap Nat := []
  /-- The queue that last gave each slot a step (R492), plus one. -/
  lastQueue : KMap Nat := []
  memEnable : Bool := false
  d3hot : Bool := false
  /-- BAR4's size as a power of two (R482). -/
  bar4Log : Nat := 36
  atsEnable : Bool := false
  atc : List AtcEntry := []
  atsWaits : List AtsWait := []
  atsHolds : List AtsHold := []
  /-- DMA slots kept occupied after held transfers, each with its hold in ns (R378). -/
  places : List Nat := []
  /-- Max Payload Size and Max Read Request Size in force, as PCI Express codes them (R480). -/
  maxPayload : Nat := 0
  maxRead : Nat := 2
  /-- The uncorrectable and the correctable error status of AER (R480). -/
  aerUnc : BitVec 32 := 0
  aerCor : BitVec 32 := 0
  deriving DecidableEq, Repr

end Sys2Proof.Machine
end

