-- ==== Sys2Proof/Machine/IcState.lean ====
section
/-! DEFINITION. Machine/IcState.lean: the state of the interrupt controller and of the mailboxes (chapter 14). -/

namespace Sys2Proof.Machine

open Sys2Proof

/-- An interrupt source (R566, R567): its configuration word and its state; `cond` is a level source's condition. -/
structure Src where
  cfg : BitVec 64 := 0
  pend : Bool := false
  act : Bool := false
  repend : Bool := false
  cond : Bool := false
  owner : Nat := 0
  occ : Nat := 0
  deriving DecidableEq, Repr

/-- What happened to the source of a target's last notification (R573): taken by another target, or withdrawn. -/
inductive NotedEnd where
  | lost | withdrawn
  deriving DecidableEq, Repr

/-- A target (R571, R572): threshold, level stack (source and level, top first), and its notification. -/
structure Tgt where
  thresh : Nat := 0
  stack : List (Nat × Nat) := []
  notified : Bool := false
  noted : Option Nat := none
  notedEnd : Option NotedEnd := none
  deriving DecidableEq, Repr

/-- A time of R579, F or D: not set yet; the time since it has not come to TIME or HOLDOFF; it has. -/
inductive Since where
  | unset | running | passed
  deriving DecidableEq, Repr

/-- Moderation of a group at a target (R579): E, F and D. F stays when E becomes 0. -/
structure Mod where
  e : Nat := 0
  first : Since := .unset
  last : Since := .unset
  deriving DecidableEq, Repr

/-- A target domain (R580, R581): MODE (1 RETAIN), ASLEEP, and a wake event not yet served (R583). -/
structure Dom where
  retain : Bool := true
  asleep : Bool := false
  wake : Bool := false
  deriving DecidableEq, Repr

/-- A mailbox channel (R585, R586). -/
structure Mbx where
  data : BitVec 64 := 0
  full : Bool := false
  ackd : Bool := false
  ovf : Bool := false
  ackCode : BitVec 16 := 0
  seq : BitVec 16 := 0
  wsrc : Nat := 0
  rxdom : Nat := 0
  deriving DecidableEq, Repr

/-- The reset value of IC_GRP_CFG: COUNT 1 (R578). -/
def grpReset : BitVec 64 := 1

/-- The interrupt controller: sources, group configurations, targets, moderation keyed by 64 × target + group, domains,
the MSI-X vectors whose Mask bit is 0 (R577; the bit resets to 1, PRESUMED, log entry 13), the Function Mask and Pending
Bits, the mailboxes and the counters of R590. -/
structure Ic where
  srcs : KMap Src := []
  groups : KMap (BitVec 64) := []
  tgts : KMap Tgt := []
  mods : KMap Mod := []
  doms : KMap Dom := []
  unmasked : KMap Bool := []
  fnMask : Bool := false
  pba : KMap Bool := []
  mbx : KMap Mbx := []
  spuriousLost : BitVec 64 := 0
  spuriousWithdrawn : BitVec 64 := 0
  badComplete : BitVec 64 := 0
  lockedWrites : BitVec 64 := 0
  wakes : BitVec 64 := 0
  mbxAccepted : BitVec 64 := 0
  mbxOverflows : BitVec 64 := 0
  mbxStrayAcks : BitVec 64 := 0
  deriving DecidableEq, Repr

end Sys2Proof.Machine
end

