-- ==== Sys2Proof/Machine/MemState.lean ====
section
/-! DEFINITION. Machine/MemState.lean: the state of the wells (chapter 06), the cisterns (chapter 07), the window table
(chapter 08) and the bandwidth controllers (chapter 09). What is an element of the dictionary and nothing more lives
there: STATE, TEMP_MAX, REFRESH_DOUBLED, the counters, LAST_UNCORR, SPARE_SHAFTS, QTH and the like. -/

namespace Sys2Proof.Machine

open Sys2Proof

/-- A remap under way (R275): the shaft, the spare, and the copy boundary, below which a line is served from the spare. -/
structure Remap where
  shaft : Nat
  spare : Nat
  next : Nat := 0
  deriving DecidableEq, Repr

/-- A well. `data` is keyed by 2^28 × shaft + offset; an unlisted byte is zero (R390). Lines are numbered by that key
divided by 64; rows by 2^17 × shaft + 2^11 × bank + row, banks by 64 × shaft + bank. -/
structure Well where
  data : KMap Byte := []
  /-- How many symbols of a line are bad in the array; unlisted 0 (R224, R225). -/
  bad : KMap Nat := []
  lost : List Nat := []
  copying : Option Remap := none
  /-- The shaft held by each spare; unlisted 0xFFFF (R278). -/
  spares : KMap Nat := []
  /-- Shafts that need a remap, oldest first (R274). -/
  wanted : List Nat := []
  /-- Lines of a row with corrected errors in this patrol period (R273). -/
  corrected : KMap (List Nat) := []
  /-- Lines of a shaft that returned WELL_UNCORR since the last chip reset (R274). -/
  failed : KMap (List Nat) := []
  /-- Spares that held a shaft which needed another one; they hold none any more (log entry 178). -/
  givenUp : List Nat := []
  /-- Spare rows used in a bank, of 32, and spare column groups, of 8 (R272). -/
  rowsUsed : KMap Nat := []
  colsUsed : KMap Nat := []
  /-- Spare data TSVs used in a shaft, of 8, and spare command TSVs, of 2 (R272). -/
  dataTsvUsed : KMap Nat := []
  cmdTsvUsed : KMap Nat := []
  /-- The row of a bank to be refreshed next (R228). -/
  refresh : KMap Nat := []
  deriving DecidableEq, Repr

/-- A reservoir range: start and length (R305, R308). -/
structure CRange where
  start : Nat
  len : Nat
  deriving DecidableEq, Repr

/-- A counter block (level 0) or tree node in a cistern's cache (R296). -/
structure CacheItem where
  level : Nat
  ix : Nat
  dirty : Bool := false
  deriving DecidableEq, Repr

/-- What the tree of a cistern was computed over when it was last written whole (R293): its key and the counter blocks. -/
structure CisTree where
  key : BitVec 256
  major : KMap Nat
  minor : KMap Nat
  moved : KMap Bool
  deriving DecidableEq, Repr

/-- A cistern. `data` is keyed by offset and holds the plaintext of the lines whose minor counter is not 0 (R288, R290);
pages are 4 KiB, lines 64 bytes, regions 1 GiB. -/
structure Cistern where
  data : KMap Byte := []
  major : KMap Nat := []
  minor : KMap Nat := []
  moved : KMap Bool := []
  ebit : KMap Bool := []
  /-- Lines whose stored ciphertext no longer matches its MAC (R304). -/
  corrupt : KMap Bool := []
  /-- Cached, verified counter blocks and tree nodes, newest first (R296). -/
  cache : List CacheItem := []
  /-- Cached MAC lines, of eight MACs, and whether they are dirty, newest first (R296). -/
  macs : List (Nat × Bool) := []
  /-- The tree as it was last written whole, and the digests that parents hold of the items written back since, by `itemKey` (R294 to
  R296). An item that is dirty in the cache has its old digest here. -/
  base : CisTree := { key := 0, major := [], minor := [], moved := [] }
  digests : KMap (Option (BitVec 56)) := []
  /-- The two copies of the cistern's root entry (R295): none where the copy is lost; a digest, or that of the tree as last written
  whole. -/
  rootA : Option (Option (BitVec 56)) := none
  rootB : Option (Option (BitVec 56)) := none
  /-- The two key slots (R297). -/
  key0 : Option (BitVec 256) := none
  key1 : Option (BitVec 256) := none
  /-- NEW of R297, where this controller takes part in a roll. -/
  new : Option Bool := none
  /-- It has swept every region (R302). -/
  swept : Bool := false
  sweepRegion : Nat := 0
  sweepPage : Nat := 0
  fenced : List CRange := []
  retired : List CRange := []
  /-- Fenced ranges being rebuilt (R307). -/
  rebuilding : List CRange := []
  deriving DecidableEq, Repr

/-- An entry of the window table (R343). -/
structure WinEntry where
  inbound : Bool
  opened : Bool
  anySrc : Bool
  slot : Nat
  peer : Nat
  rwin : Nat
  rd : Bool
  wr : Bool
  atom : Bool
  job : Nat
  base : Nat
  len : Nat
  deriving DecidableEq, Repr

/-- The marks that a controller puts on a den's response (R377, R431): its hold in ns, 0 for none, and whether the transfer was contended. -/
structure HoldMark where
  den : Nat
  ns : Nat
  contended : Bool := false
  deriving DecidableEq, Repr

/-- A bandwidth controller (R371 to R383): the balances of the dens and of the real-time account times 256, by shaft port (0 at a
cistern) the place of the round robin of order 3 (256 stands for the real-time masters) and the level of the queue, the marks on
responses under way, and the monitor's counts of the present window. -/
structure Ctl where
  balance : KMap Int := []
  rtBalance : Int := 0
  turn : KMap Nat := []
  levels : KMap Nat := []
  marks : List HoldMark := []
  /-- The dens with a request in the queue while a slot was granted to another account (R431). -/
  passed : List Nat := []
  slots : Nat := 0
  starved : KMap Nat := []
  deriving DecidableEq, Repr

end Sys2Proof.Machine
end

