-- ==== Sys2Proof/Machine/MeterState.lean ====
section
/-! DEFINITION. Machine/MeterState.lean: the Meter, its link and the package's side of it (chapter 16). -/

namespace Sys2Proof.Machine

open Sys2Proof

/-- The resource vector of a slot (R630): tiles, well MiB, reservoir MiB, guarantee units, link transactions. -/
structure MVec where
  tiles : Nat := 0
  well : Nat := 0
  res : Nat := 0
  guar : Nat := 0
  links : Nat := 0
  deriving DecidableEq, Repr

/-- A change frame (R630): the slot, its vector, SLOT_OWNER, PASID and STATE. -/
structure Change where
  slot : Nat
  vec : MVec
  owner : Nat
  pasid : Nat
  state : Nat
  deriving DecidableEq, Repr

/-- An open tenure (R630, R631): the integrals are component × ticks, over the span that the next receipt covers; `since` is the
stamp of the last change or of the span's start. -/
structure Tenure where
  num : Nat
  slot : Nat
  opened : Nat
  since : Nat
  vec : MVec
  ints : MVec := {}
  owner : Nat
  pasid : Nat
  unmetered : Bool := false
  deriving DecidableEq, Repr

/-- The Meter and its link. -/
structure Meter where
  /-- The Meter has its supply (R624). -/
  powered : Bool := false
  ticks : Nat := 0
  energy : Nat := 0
  tenures : List Tenure := []
  nextTenure : Nat := 1
  /-- Receipts issued so far (R633), the last 2^20 of them newest first, and the start of the next PERIOD span. -/
  rnum : Nat := 0
  receipts : List (Nat × List Byte) := []
  periodStart : Nat := 0
  powerCycles : Nat := 0
  sealOpen : Bool := false
  /-- Unmetered time in the present span, in ticks (R634); the tick of the last valid frame that the Meter received, while its side
  has declared the link lost (R629, R639). -/
  unmetered : Nat := 0
  lostSince : Option Nat := none
  lastFrame : Nat := 0
  /-- The link session key, on each side (R628, R641). -/
  keyMeter : Option (BitVec 256) := none
  keyPkg : Option (BitVec 256) := none
  /-- The package has received a valid frame since power-on; its side of the link is in service; a gap record stands open with the
  vector changes in it (R635, R637, R639). -/
  heard : Bool := false
  up : Bool := false
  pairFailed : Bool := false
  gapChanges : Nat := 0
  gapOpen : Bool := false
  gapStart : Nat := 0
  /-- A RESET frame is on its way (R629). -/
  resetDue : Bool := false
  /-- Change frames on their way, oldest first, and the vector last noted of each slot (R629). -/
  frames : List Change := []
  noted : KMap MVec := []
  /-- A resynchronisation is under way: the link is paired again and the UNMETERED receipt has not been issued (R639). -/
  resync : Bool := false
  deriving DecidableEq, Repr

end Sys2Proof.Machine
end

