-- ==== Sys2Proof/Machine/Outcome.lean ====
section
/-! DEFINITION. Machine/Outcome.lean: what a command's event comes to, why an event cannot occur, and what the block sends to the
outside world. -/

namespace Sys2Proof.Machine

open Sys2Proof

/-- Why an event cannot occur in a state. None of these names a behaviour of the hardware: each says that the event
named by the command does not arise there, so that no run of the hardware contains it. -/
inductive Guard where
  /-- A bundle of a tile that is not issuing (stopped, frozen, draining, or in no running den). -/
  | tileNotIssuing
  /-- A tile ahead of its place in the wave (R69), or a freeze signal that has already reached it (R79). -/
  | waveOrder
  /-- The stored bundle carries another CTL, or an empty bundle is due. -/
  | otherBundle
  /-- No idle run is under way. -/
  | noIdleRun
  /-- The throttle does not insert a bundle here (R658). -/
  | noThrottle
  /-- The tile is not in its drain cycles. -/
  | notDraining
  /-- No result lands next. -/
  | nothingLands
  /-- A vote that some tile of the den has not cast (R90). -/
  | voteOpen
  /-- No relay value, signal or report is on its way to that tile from that side. -/
  | nothingArrives
  /-- The tile is not frozen, or not counting down. -/
  | notFrozen
  /-- The origin is not clear (R83), or the time given is shorter than the wave allows. -/
  | notClear
  /-- The tile lies in no den. -/
  | noDen
  /-- The pump has no such operation, line or wait. -/
  | noPumpOp
  /-- The den slot's state does not have that event. -/
  | denPhase
  /-- No such command is in flight. -/
  | noCommand
  /-- No such object: link transaction, queue entry, session, reset, scrub, invalidation. -/
  | noSuch
  /-- The bring-up, power or reset phase does not have that event. -/
  | chipPhase
  /-- The operand contradicts the state (a measurement outside what the state allows). -/
  | badFact
  /-- A request that does not wait at its front end, or whose turn it is not (R461). -/
  | notItsTurn
  /-- A dictionary request of an element whose effect has a row of its own. -/
  | otherRow
  deriving DecidableEq, Repr

/-- What becomes of a command's event: the state after it, or that it does not occur, and why. -/
inductive Out (σ : Type) where
  | next (s : σ)
  | off (g : Guard)
  deriving DecidableEq, Repr

/-- What the block drives towards the outside world. -/
inductive Sent where
  /-- A dictionary response to the request of a front end (R449): code and payload. -/
  | response (q : Req) (code : Code) (value : List Byte)
  /-- A frame on a link (R514). -/
  | frame (l : Nat) (f : Frame)
  /-- Priority flow control on the bulk PCP of a link (R521): a pause begins or ends. -/
  | pfc (l : Nat) (pause : Bool)
  /-- The value a claim read of a target returns (R571, R573). -/
  | claimed (t n : Nat)
  /-- An MSI-X message on a host vector (R577). -/
  | msix (v : Nat)
  /-- A PCI Express PME message (R583). -/
  | pme
  /-- The answer to a line access of an agent (R225, R261). -/
  | line (who : Agent) (code : Code) (data : List Byte)
  /-- A read of host memory (R338): PASID, address, bytes, and whether the address is translated (R340). -/
  | hostRead (pasid : Option Nat) (a n : Nat) (xlat : Bool)
  /-- A write of host memory. -/
  | hostWrite (pasid : Option Nat) (a : Nat) (data : List Byte) (xlat : Bool)
  /-- An ATS Translation Request, an Invalidate Completion (R340, R342). -/
  | atsRequest (pasid page : Nat)
  | atsDone (pasid base : Nat)
  /-- A read of the aperture completes (R503): with data, or with Unsupported Request. -/
  | aperture (data : Option (List Byte))
  /-- An answer of the SPDM responder (R600 to R603): ERROR Busy, ERROR Unspecified, a session established or its keys replaced, one
  ended, IDE_KM and TDISP answers, measurements. -/
  | spdmBusy (tr : SpdmTransport)
  | spdmUnspecified (tr : SpdmTransport)
  | session (id : Nat)
  | sessionEnded (id : Nat)
  | ideKm (id : Nat) (ok : Bool)
  | tdisp (id : Nat) (slot : Nat) (ok : Bool)
  | measurements (tr : SpdmTransport) (blocks : List (List Byte)) (sig : List Byte)
  /-- An MCTP control answer (R458): endpoint, or the list of message types. -/
  | mctp (data : List Byte)
  /-- The outcome of a PLDM update's ApplyComplete (R598). -/
  | applyComplete (ok : Bool)
  /-- The member of a batch list's entry, reported back with what became of the entry (R426): of a refused list the entry that failed, of
  an admitted one every entry. -/
  | member (slot member : Nat) (code : Code)
  /-- A configuration request is answered (R481): completed, with the field it reads, or with Request Retry Status. -/
  | config (done : Bool) (data : Option Nat := none)
  deriving DecidableEq, Repr

end Sys2Proof.Machine
end

