-- ==== Sys2Proof/Machine/RepairState.lean ====
section
/-! DEFINITION. Machine/RepairState.lean: the repair map, the march engines, the resets and the leases (chapter 18). -/

namespace Sys2Proof.Machine

open Sys2Proof

/-- An engine of level 2 (R688, R704). -/
inductive EngineIx where
  | pump (t : Nat) | hostDma | save | link (l : Nat) | sett (core : Nat)
  deriving DecidableEq, Repr

/-- A reset domain (R688). -/
inductive ResetDom where
  | den (slot : Nat) | engine (e : EngineIx) | half (h : Half) | chip | module
  deriving DecidableEq, Repr

/-- A reset under way (R689): in its drain, or reset and not yet back in service. -/
structure Reset where
  dom : ResetDom
  cause : Code
  draining : Bool := true
  /-- It counts for the three chip resets within 60 s (R717). -/
  counted : Bool := true
  deriving DecidableEq, Repr

/-- A march run under way (R685, R686): whether it keeps contents, its blocks (none for the secure SRAM), and whether a RELEASE
has stopped it. -/
structure March where
  preserving : Bool
  blocks : List (Nat × Nat)
  secure : Bool
  stopped : Bool := false
  deriving DecidableEq, Repr

/-- Repair, watch and recovery. Row halves are keyed by 2 × row + half (0 West, 1 East), as ROW_MAP has them. -/
structure Repair where
  /-- The faulty positions of a row half, from the seam outward (R673, R704). -/
  faulty : KMap (List Nat) := []
  /-- Those that the present shift of the row half passes over: a pending repair's are not yet among them (R679, R682). -/
  applied : KMap (List Nat) := []
  /-- Dead routers, by position and row (R676). -/
  dead : List (Nat × Nat) := []
  /-- Routers recorded as unreachable, by position, row and source row (R363), and vertical ports off by floor (R38), as the present
  routes have them. -/
  unreachable : List (Nat × Nat × Nat) := []
  vportOff : KMap Nat := []
  /-- A repair has changed since the routes were computed (R364). -/
  routesStale : Bool := false
  /-- Tiles fenced by host-admin (R679). -/
  hostFenced : List Nat := []
  marchWest : Option March := none
  marchEast : Option March := none
  /-- The Sett of the primary half serves (R465). -/
  settServes : Bool := true
  resets : List Reset := []
  seamLive : Bool := false
  aonLive : Bool := false
  resetting : Bool := false
  fenced : Bool := false
  /-- Sett cores that have halted (R687). -/
  halted : List Nat := []
  /-- Spare rows and column groups assigned (R677): in the arrays of tiles, keyed by 24 × (132 × row + position) + array, and in the
  secure SRAM arrays, by 16 × half + array. -/
  sramUsed : KMap (Nat × Nat) := []
  settUsed : KMap (Nat × Nat) := []
  /-- Retired secure SRAM arrays: 16 × half + array (R680). -/
  settRetired : List Nat := []
  /-- The count of the last lease renewal (R698). -/
  leaseCount : BitVec 32 := 0
  /-- The value that REG_PHASE returns to, while Osdin holds it at 1 (R381). -/
  heldPhase : Option Nat := none
  deriving DecidableEq, Repr

end Sys2Proof.Machine
end

