-- ==== Sys2Proof/Machine/SaveState.lean ====
section
/-! DEFINITION. Machine/SaveState.lean: what the model keeps of a den's save beside the bytes it writes: the spec names what a
record holds but lays out only some of its parts (R415), so that the state behind the other bytes is held here. -/

namespace Sys2Proof.Machine

open Sys2Proof

/-- A save that this chip has written (R413 to R415): the header's 256 bytes, the written parts of the record of each tile by local
index and offset, and what they stand for. -/
structure Saved where
  header : List Byte
  parts : List (Nat × Nat × List Byte)
  tiles : List Tile
  wave : Wave
  nextAddr : Nat
  reshapeReady : Bool
  /-- The seam slots of the den's rows, by local row and direction (R208). -/
  seam : List (Nat × Nat × List SeamSlot)
  deriving DecidableEq, Repr

end Sys2Proof.Machine
end

