-- ==== Sys2Proof/Machine/TrustState.lean ====
section
/-! DEFINITION. Machine/TrustState.lean: identity, keys, sessions, TDISP and the firmware banks (chapter 15). No agent reads a
secret (R614): no dictionary element and no emission shows one. -/

namespace Sys2Proof.Machine

open Sys2Proof

/-- An established SPDM session (R600, R613): its number, its transport, how often its keys have been replaced, and its secret, from which
the key schedule of SPDM draws them. -/
structure Session where
  id : Nat
  tr : SpdmTransport
  updates : Nat := 0
  key : BitVec 256 := 0
  deriving DecidableEq, Repr

/-- The states of a TDI (R483, R603). -/
inductive TdiPhase where
  | unlocked | locked | run | error
  deriving DecidableEq, Repr

/-- An IDE key set of a stream (R602, R613): its key, and whether it is active. -/
structure IdeSet where
  key : Option (BitVec 256) := none
  active : Bool := false
  deriving DecidableEq, Repr

/-- A firmware bank (R597): the image's version and SVN, whether its chain and signature verify. -/
structure FwBank where
  version : Nat := 0
  svn : Nat := 0
  sigOk : Bool := true
  digest : BitVec 256 := 0
  deriving DecidableEq, Repr

/-- The key vault (R593): the seed of the DeviceID key pair, the sealing key, and the CDI until the firmware is released. -/
structure Vault where
  deviceId : List Byte
  sealing : List Byte
  cdi : Option (List Byte) := none
  deriving DecidableEq, Repr

/-- The trust state. -/
structure Trust where
  /-- The key vault; none while it is clear (R593, R612). -/
  vault : Option Vault := none
  /-- The seed of the alias key pair, in the secure SRAM of the primary half (R593, R610). -/
  alias_ : Option (List Byte) := none
  /-- Every UDS fuse is blown to one (R609). -/
  udsGone : Bool := false
  sessions : List Session := []
  nextSession : Nat := 0
  tdis : KMap TdiPhase := []
  /-- IDE key sets, keyed by 2 × stream + set. -/
  ide : KMap IdeSet := []
  /-- The firmware banks A and B. -/
  bankA : FwBank := {}
  bankB : FwBank := {}
  /-- The persistent choice of the bank to boot next: B (R597, R598). -/
  activeB : Bool := false
  /-- SVN fuse increments used, of 32 (R599). -/
  svnUsed : Nat := 0
  /-- A tamper response runs, until its chip reset (R612). -/
  tampered : Bool := false
  /-- A life-cycle change has executed; its chip reset follows (R609). -/
  lcChanged : Bool := false
  /-- The MCTP endpoint of the management bus (R458). -/
  eid : Nat := 0
  /-- The dynamic address on the I3C bus, 0 while it has none, and the terminus ID of PLDM (R458). -/
  dynAddr : BitVec 7 := 0
  tid : Nat := 0
  deriving DecidableEq, Repr

end Sys2Proof.Machine
end

