-- ==== Sys2Proof/Machine/State.lean ====
section
/-! DEFINITION. Machine/State.lean: the whole state of the block, and why a step can stop. -/

namespace Sys2Proof.Machine

open Sys2Proof

/-- Why a step stops: for no reason. The spec stops the module on no command, so that nothing raises a fault and no constructor is
here. -/
inductive Fault
  deriving DecidableEq, Repr

/-- Why a step is refused. -/
inductive Refusal where
  /-- Raised by the arm of a command that has no meaning yet. Safe: nothing is claimed about it. -/
  | notModelled (mnemonic : String)
  deriving DecidableEq, Repr

/-- The module: every piece of state the spec gives it, the queue of commands, and what it has sent outside. -/
structure State where
  /-- The commands that wait, first in, first out. -/
  pending : List Instr := []
  /-- The model's own counter: it numbers the free values taken so far. -/
  fresh : Nat := 0
  /-- What the block has driven outside, newest first. -/
  outbox : List Sent := []
  tiles : KMap Tile := []
  dens : KMap Den := []
  seam : Seam := {}
  ic : Ic := {}
  dict : Dict := {}
  host : HostPort := {}
  repair : Repair := {}
  wells : KMap Well := []
  cisterns : KMap Cistern := []
  wins : KMap (Option WinEntry) := []
  ctls : KMap Ctl := []
  fab : Fabric := {}
  trust : Trust := {}
  meter : Meter := {}
  saves : List Saved := []
  chip : Chip := {}
  power : Power := {}
  mesh : Mesh := {}
  deriving DecidableEq, Repr

/-- The outcome of a command's meaning. -/
abbrev Act := Host.Outcome State Fault Refusal

/-- The module before 54 V reaches it: nothing powered, every element at its default. -/
def State.reset : State := {}

end Sys2Proof.Machine
end

