-- ==== Sys2Proof/Machine/Flags.lean ====
section
/-! DEFINITION. Machine/Flags.lean: the arithmetic status register MSTAT (R157 to R160, R175). -/

namespace Sys2Proof.Machine

open Sys2Proof

/-- One bit of MSTAT. -/
def mbit (i : Nat) (b : Bool) : BitVec 64 := if b then BitVec.ofNat 64 (2 ^ i) else 0

/-- The matrix unit's flags at MSTAT [36:32] (R157). -/
def matrixBits (f : FFlags) : BitVec 64 :=
  mbit 32 f.nv ||| mbit 33 f.of ||| mbit 34 f.uf ||| mbit 35 f.nx ||| mbit 36 f.sat

/-- The vector unit's flags at MSTAT [45:40] (R157). -/
def vectorBits (f : FFlags) : BitVec 64 :=
  mbit 40 f.nv ||| mbit 41 f.dz ||| mbit 42 f.of ||| mbit 43 f.uf ||| mbit 44 f.nx ||| mbit 45 f.sat

/-- The statistics byte of block `n` (R157, R158). -/
def statByte (m : BitVec 64) (n : Nat) : Nat := bitsOf m.toNat (8 * n) 8

/-- Set the statistics byte of block `n`. -/
def setStatByte (m : BitVec 64) (n v : Nat) : BitVec 64 :=
  (m &&& ~~~(BitVec.ofNat 64 (255 * 2 ^ (8 * n)))) ||| BitVec.ofNat 64 (v % 256 * 2 ^ (8 * n))

/-- The statistics byte after an FP64 MMA or MMAZ landed with `s` slices (R175). -/
def newStatByte (old : Nat) (clear : Bool) (s : Nat) (trunc win : Bool) : Nat :=
  let smax := if clear then s else max s (bitsOf old 3 3)
  let t := trunc || (!clear && bitsOf old 6 1 == 1)
  let w := win || (!clear && bitsOf old 7 1 == 1)
  s + 8 * smax + (if t then 64 else 0) + (if w then 128 else 0)

/-- MSTAT [45:32], cleared at a step start (R160). -/
def clearFlags (m : BitVec 64) : BitVec 64 := m &&& ~~~(BitVec.ofNat 64 (0x3FFF * 2 ^ 32))

/-- MSTAT [45:32] as 14 bits, for the step's completion (R160). -/
def flagField (m : BitVec 64) : BitVec 16 := BitVec.ofNat 16 (bitsOf m.toNat 32 14)

end Sys2Proof.Machine
end

