-- ==== Sys2Proof/Machine/IcOps.lean ====
section
/-! DEFINITION. Machine/IcOps.lean: the shared operations of the interrupt controller (R569 to R584): occurrences, claims,
completes, moderation and sleep. -/

namespace Sys2Proof.Machine

open Sys2Proof

/-- PRIO of a source (R566). -/
def Src.prio (x : Src) : Nat := bitsOf x.cfg.toNat 0 4
/-- GROUP of a source (R566). -/
def Src.group (x : Src) : Nat := bitsOf x.cfg.toNat 8 6
/-- LOCK of a source (R566). -/
def Src.locked (x : Src) : Bool := x.cfg.toNat.testBit 32

/-- Whether IC_SRC_CFG names a target (R566): host vector `t`, or Sett core `t - 2048`. -/
def Src.names (x : Src) (t : Nat) : Bool :=
  if t < 2048 then x.cfg.toNat.testBit 27 && bitsOf x.cfg.toNat 16 11 == t
  else x.cfg.toNat.testBit (28 + (t - 2048))

/-- The targets a source names. -/
def Src.targets (x : Src) : List Nat :=
  (if x.cfg.toNat.testBit 27 then [bitsOf x.cfg.toNat 16 11] else []) ++
  (List.range 4).filterMap fun m => if x.cfg.toNat.testBit (28 + m) then some (2048 + m) else none

/-- The level sources (R563, and the tables of chapters 15 to 18). -/
def levelSource (n : Nat) : Bool :=
  (1685 ≤ n && n ≤ 1748) || n == 1817 || n == 1845 || n == 1846 || n == 1849 ||
  (1877 ≤ n && n ≤ 1880) || n == 1883 || n == 1942 || n == 1943 || n == 1950 || n == 1951

/-- The domain of a target (R580). -/
def domainOf (t : Nat) : Nat := if t < 2048 then 0 else t - 2047

/-- A source. -/
def Ic.src (c : Ic) (n : Nat) : Src := kget {} c.srcs n
/-- A target. -/
def Ic.tgt (c : Ic) (t : Nat) : Tgt := kget {} c.tgts t
/-- A domain. -/
def Ic.dom (c : Ic) (d : Nat) : Dom := kget {} c.doms d
/-- The moderation of a group at a target. -/
def Ic.mod (c : Ic) (t g : Nat) : Mod := kget {} c.mods (64 * t + g)
/-- Set a source. -/
def Ic.setSrc (c : Ic) (n : Nat) (x : Src) : Ic := { c with srcs := kput {} c.srcs n x }
/-- Set a target. -/
def Ic.setTgt (c : Ic) (t : Nat) (x : Tgt) : Ic := { c with tgts := kput {} c.tgts t x }
/-- Set a domain. -/
def Ic.setDom (c : Ic) (d : Nat) (x : Dom) : Ic := { c with doms := kput {} c.doms d x }
/-- Set the moderation of a group at a target. -/
def Ic.setMod (c : Ic) (t g : Nat) (x : Mod) : Ic := { c with mods := kput {} c.mods (64 * t + g) x }

/-- COUNT, TIME and HOLDOFF of a group (R578). -/
def Ic.grp (c : Ic) (g : Nat) : Nat × Nat × Nat :=
  let v := (kget grpReset c.groups g).toNat
  (bitsOf v 0 8, bitsOf v 8 16, bitsOf v 24 16)

/-- The running level of a target (R571). -/
def Tgt.level (x : Tgt) : Nat := match x.stack with | (_, l) :: _ => l | [] => 0

/-- Whether a source is claimable by a target (R570). -/
def Ic.claimable (c : Ic) (t n : Nat) : Bool :=
  let x := c.src n
  let y := c.tgt t
  x.pend && x.names t && y.thresh < x.prio && y.level < x.prio

/-- The sources claimable by a target, in ascending order. -/
def Ic.claimables (c : Ic) (t : Nat) : List Nat := (kkeys c.srcs).filter (c.claimable t)

/-- The best of a list of sources (R570): highest PRIO, then lowest number. -/
def Ic.best (c : Ic) : List Nat → Option Nat
  | [] => none
  | n :: ns => match c.best ns with
    | none => some n
    | some m => if (c.src m).prio ≤ (c.src n).prio then some n else some m

/-- One occurrence of a source counts in E at each target it names with PRIO above the threshold (R579). -/
def Ic.countE (c : Ic) (n : Nat) : Ic :=
  let x := c.src n
  x.targets.foldl (fun c t =>
    if (c.tgt t).thresh < x.prio then
      let m := c.mod t x.group
      c.setMod t x.group { m with e := m.e + 1, first := if m.e = 0 then .running else m.first }
    else c) c

/-- E becomes 0 where the group holds no pending source that names the target above its threshold (R579). -/
def Ic.clearE (c : Ic) : Ic :=
  (kkeys c.mods).foldl (fun c k =>
    let t := k / 64
    let g := k % 64
    if (kkeys c.srcs).any fun n =>
        let x := c.src n
        x.pend && x.group == g && x.names t && (c.tgt t).thresh < x.prio
    then c
    else let m := c.mod t g; c.setMod t g { m with e := 0 }) c

/-- What becomes of each target's REC (R573): the first of "claimed by another target" and "no longer claimable". -/
def Ic.trackRec (c : Ic) (claimed : Option (Nat × Nat)) : Ic :=
  (kkeys c.tgts).foldl (fun c t =>
    let y := c.tgt t
    match y.noted, y.notedEnd with
    | some r, none =>
      if claimed.any fun (n, by_) => n == r && by_ != t then c.setTgt t { y with notedEnd := some .lost }
      else if c.claimable t r then c
      else c.setTgt t { y with notedEnd := some .withdrawn }
    | _, _ => c) c

/-- Wake events (R583): a source has become claimable by a target of a sleeping domain. -/
def Ic.wakeScan (before after : Ic) : Ic :=
  (List.range 5).foldl (fun c d =>
    let x := c.dom d
    if x.asleep && !x.wake &&
        ((kkeys c.srcs).any fun n => (c.src n).targets.any fun t =>
          domainOf t == d && c.claimable t n && !before.claimable t n)
    then c.setDom d { x with wake := true } else c) after

/-- After any event: E, REC and wake events follow (R573, R579, R583). -/
def Ic.settle (before after : Ic) (claimed : Option (Nat × Nat) := none) : Ic :=
  Ic.wakeScan before (after.clearE.trackRec claimed)

/-- An occurrence of an event source, or a change of a level source's condition (R563, R569). -/
def Ic.occur (c : Ic) (n : Nat) (cond : Bool) : Ic :=
  if n = 0 ∨ 2004 < n then c
  else
    let x := c.src n
    if levelSource n then
      if cond = x.cond then c
      else if cond then
        if x.act then c.setSrc n { x with cond := true, occ := satAdd 8 x.occ 1 }
        else Ic.settle c ((c.setSrc n { x with cond := true, pend := true, occ := satAdd 8 x.occ 1 }).countE n)
      else Ic.settle c (c.setSrc n { x with cond := false, pend := false })
    else if x.act then c.setSrc n { x with repend := true, occ := satAdd 8 x.occ 1 }
    else Ic.settle c ((c.setSrc n { x with pend := true, occ := satAdd 8 x.occ 1 }).countE n)

/-- The end of a claim (R575): the source becomes pending again with REPEND set or its condition holding. -/
def Ic.endClaim (c : Ic) (n t : Nat) : Ic :=
  let x := c.src n
  let y := c.tgt t
  let again := if levelSource n then x.cond else x.repend
  let c := c.setTgt t { y with stack := dropFirst (fun p => p.1 == n) y.stack }
  let c := c.setSrc n { x with act := false, owner := 0, repend := false, pend := again }
  if again then c.countE n else c

/-- A claim read of a target (R571, R573): the value read and the controller after it. -/
def Ic.claim (c : Ic) (t : Nat) : Nat × Ic :=
  let y := c.tgt t
  match c.best (c.claimables t) with
  | some n =>
    let x := c.src n
    let c' := c.setSrc n { x with pend := false, act := true, owner := t, occ := 0 }
    let c' := c'.setTgt t { y with stack := (n, x.prio) :: y.stack, notified := false, noted := none, notedEnd := none }
    (n, Ic.settle c c' (some (n, t)))
  | none =>
    let c' := c.setTgt t { y with notified := false, noted := none, notedEnd := none }
    match y.noted, y.notedEnd with
    | some _, some .lost => (0x7FF, { c' with spuriousLost := bvInc c'.spuriousLost })
    | some _, some .withdrawn => (0x7FE, { c' with spuriousWithdrawn := bvInc c'.spuriousWithdrawn })
    | _, _ => (0, c')

/-- Whether a group is due at a target (R579). An F that is unset passes at MODERATION_TIME_EXPIRY (log entry 158). -/
def Ic.due (c : Ic) (t g : Nat) : Bool :=
  let m := c.mod t g
  let (count, time, holdoff) := c.grp g
  (count ≤ m.e || time == 0 || m.first == .passed) && (holdoff == 0 || m.last != .running)

/-- The claimable sources of a target whose group is due. -/
def Ic.dueSources (c : Ic) (t : Nat) : List Nat :=
  (c.claimables t).filter fun n => c.due t (c.src n).group

/-- Whether a target is to be notified (R577). -/
def Ic.notifiable (c : Ic) (t : Nat) : Bool :=
  !(c.tgt t).notified && !(c.dom (domainOf t)).asleep && !(c.dueSources t).isEmpty

/-- The notification of a target (R577, R579). Of several sources that would do, REC is the winner of R570 (DEDUCED, log
entry 10). -/
def Ic.notify (c : Ic) (t : Nat) : Ic :=
  let groups := ((c.dueSources t).map fun n => (c.src n).group).eraseDups
  let r := c.best (c.dueSources t)
  let c := c.setTgt t { c.tgt t with notified := true, noted := r, notedEnd := none }
  groups.foldl (fun c g =>
    c.setMod t g { c.mod t g with e := 0, last := .running }) c

/-- Release of a target's state (R582, R584): claims end as under R575, stack empty, threshold 0, E, F and D cleared. -/
def Ic.release (c : Ic) (t : Nat) : Ic :=
  let c := (c.tgt t).stack.foldl (fun c (n, _) => c.endClaim n t) c
  let c := c.setTgt t {}
  { c with mods := c.mods.filter fun (k, _) => k / 64 != t }

/-- The targets the controller keeps state for, within a domain. -/
def Ic.domTargets (c : Ic) (d : Nat) : List Nat :=
  if d = 0 then ((kkeys c.tgts) ++ (kkeys c.mods).map (· / 64)).eraseDups.filter (· < 2048) else [2047 + d]

/-- A domain goes to sleep (R580 to R582). -/
def Ic.sleep (c : Ic) (d : Nat) : Ic :=
  let x := c.dom d
  let c' := c.setDom d { x with asleep := true, wake := false }
  if x.retain then c' else Ic.settle c ((c'.domTargets d).foldl Ic.release c')

/-- A write of one source's configuration (R566, R568, R576): a host write to a locked source is counted and ignored; only
the Sett writes LOCK. -/
def Ic.writeCfg (c : Ic) (n : Nat) (v : BitVec 64) (host : Bool) : Ic :=
  let x := c.src n
  if host && x.locked then { c with lockedWrites := bvInc c.lockedWrites }
  else
    let keep := v &&& 0x00000000FFFF3F0F
    let lock := if host then x.cfg &&& 0x0000000100000000 else v &&& 0x0000000100000000
    Ic.settle c (c.setSrc n { x with cfg := keep ||| lock })

/-- A time that has been set, measured anew against a limit that has changed (R578, R579). -/
def Since.again (x : Since) (changed : Bool) : Since := if changed && x == .passed then .running else x

/-- A write of IC_GRP_CFG (R578): a COUNT of 0 stores 1. F and D are measured against the new TIME and HOLDOFF. -/
def Ic.writeGroup (c : Ic) (g : Nat) (v : BitVec 64) : Ic :=
  let v := v &&& 0x000000FFFFFFFFFF
  let v := if v.toNat % 256 = 0 then v + 1 else v
  let old := c.grp g
  let c := { c with groups := kput grpReset c.groups g v }
  let new := c.grp g
  { c with mods := c.mods.map fun (k, m) =>
      if k % 64 = g then
        (k, { m with first := m.first.again (old.2.1 != new.2.1), last := m.last.again (old.2.2 != new.2.2) })
      else (k, m) }

/-- A write of MODE of a domain (R581, R590). -/
def Ic.writeDom (c : Ic) (d : Nat) (retain : Bool) : Ic := c.setDom d { c.dom d with retain := retain }

/-- CLR (R567): clears PEND of an event source. -/
def Ic.clr (c : Ic) (n : Nat) : Ic :=
  if levelSource n then c else Ic.settle c (c.setSrc n { c.src n with pend := false })

/-- The interrupt part of a Function Level Reset (R584): host targets released, unlocked source configurations at reset; the MSI-X table is
masked, nothing of it pends, and the function's mask is off, as PCI Express has them (PRESUMED, log entry 185). -/
def Ic.flr (c : Ic) : Ic :=
  let c' := (c.domTargets 0).foldl Ic.release c
  let c' := (kkeys c'.srcs).foldl (fun c n =>
    let x := c.src n
    if x.locked then c else c.setSrc n { x with cfg := 0 }) c'
  Ic.settle c { c' with unmasked := [], fnMask := false, pba := [] }

/-- The interrupt part of a half reset (R584): that half's Sett cores. -/
def Ic.halfReset (c : Ic) (h : Half) : Ic :=
  let cores := match h with | .west => [2048, 2049] | .east => [2050, 2051]
  Ic.settle c (cores.foldl Ic.release c)

/-- A wake event of a domain from a mailbox word (R583, R587). -/
def Ic.mbxWake (c : Ic) (d : Nat) : Ic :=
  let x := c.dom d
  if d < 5 && x.asleep then c.setDom d { x with wake := true } else c

end Sys2Proof.Machine
end

