-- ==== Sys2Proof/Machine/Operands.lean ====
section
/-! DEFINITION. Machine/Operands.lean: where tiles lie, what a bundle's slots read (R124, R151, R176), and the operand
forms of the slots. -/

namespace Sys2Proof.Machine

open Sys2Proof

/-- The logical column of a tile (R11). -/
def colOf (t : Nat) : Nat := t % 128
/-- The logical row of a tile (R11). -/
def rowOf (t : Nat) : Nat := t / 128
/-- The tile at a column and a row. -/
def tileAt (c r : Nat) : Nat := 128 * r + c
/-- The half of a tile (R11). -/
def halfOf (t : Nat) : Half := if colOf t < 64 then .west else .east

/-- Whether a tile lies in a rectangle (R386). -/
def Rect.has (q : Rect) (t : Nat) : Bool :=
  4 * q.bc ≤ colOf t && colOf t < 4 * (q.bc + q.w) && 4 * q.br ≤ rowOf t && rowOf t < 4 * (q.br + q.h)

/-- The tiles of a rectangle in local order (R413). -/
def Rect.tiles (q : Rect) : List Nat :=
  (List.range (16 * q.w * q.h)).map fun i => tileAt (4 * q.bc + i % (4 * q.w)) (4 * q.br + i / (4 * q.w))

/-- The origin tile (R67, R386). -/
def Rect.origin (q : Rect) : Nat := tileAt (4 * q.bc) (4 * q.br)

/-- The south-east tile (R68). -/
def Rect.corner (q : Rect) : Nat := tileAt (4 * (q.bc + q.w) - 1) (4 * (q.br + q.h) - 1)

/-- Whether a rectangle holds tiles in both halves (R67). -/
def Rect.astride (q : Rect) : Bool := q.bc < 16 && 16 < q.bc + q.w

/-- The skew of a tile in its den (R67). -/
def Rect.skew (q : Rect) (t : Nat) : Nat :=
  (colOf t - 4 * q.bc) + (rowOf t - 4 * q.br) + (if q.astride && 64 ≤ colOf t then 6 else 0)

/-- The span K of a den (R68). -/
def Rect.span (q : Rect) : Nat := (4 * q.w - 1) + (4 * q.h - 1) + (if q.astride then 6 else 0)

/-- The other end of a direction. -/
def dirOpp : Dir → Dir
  | .north => .south | .south => .north | .east => .west | .west => .east

/-- The four directions in the order of the masks of R132 and R133. -/
def dirs4 : List Dir := [.north, .east, .south, .west]

/-- The number of a direction: N 0, E 1, S 2, W 3. -/
def dirIx : Dir → Nat
  | .north => 0 | .east => 1 | .south => 2 | .west => 3

/-- The tile `h` hops away in a direction, where the die has one. -/
def hop (t : Nat) (d : Dir) (h : Nat) : Option Nat :=
  match d with
  | .north => if h ≤ rowOf t then some (t - 128 * h) else none
  | .south => if rowOf t + h ≤ 63 then some (t + 128 * h) else none
  | .west => if h ≤ colOf t then some (t - h) else none
  | .east => if colOf t + h ≤ 127 then some (t + h) else none

/-- The den neighbour of a tile in a direction. -/
def Rect.next (q : Rect) (t : Nat) (d : Dir) : Option Nat :=
  match hop t d 1 with
  | some n => if q.has n then some n else none
  | none => none

/-- The cycles a signal takes between two neighbours: one, and seven across the seam (R79, R81). -/
def hopTime (t n : Nat) : Nat := if halfOf t = halfOf n then 1 else 7

/-- The path distance between two tiles of a den in cycles (R79). -/
def pathTime (a b : Nat) : Nat :=
  (colOf a - colOf b) + (colOf b - colOf a) + (rowOf a - rowOf b) + (rowOf b - rowOf a) +
    (if halfOf a = halfOf b then 0 else 6)

/-- The state of a tile. -/
def State.tile (s : State) (t : Nat) : Tile := kget {} s.tiles t

/-- The state of a den slot. -/
def State.den (s : State) (n : Nat) : Den := kget {} s.dens n

/-- Set a tile. -/
def State.setTile (s : State) (t : Nat) (x : Tile) : State := { s with tiles := kput {} s.tiles t x }

/-- Set a den slot. -/
def State.setDen (s : State) (n : Nat) (d : Den) : State := { s with dens := kput {} s.dens n d }

/-- Change a tile. -/
def State.modTile (s : State) (t : Nat) (f : Tile → Tile) : State := s.setTile t (f (s.tile t))

/-- Change a den slot. -/
def State.modDen (s : State) (n : Nat) (f : Den → Den) : State := s.setDen n (f (s.den n))

/-- The slot whose den holds a tile (R385); a tile of a slot that is being scrubbed runs nothing. -/
def State.slotOf (s : State) (t : Nat) : Option Nat :=
  (s.dens.find? fun (_, d) => d.phase != .free && d.phase != .scrubbing && d.rect.has t).map (·.1)

/-- What a slot of a bundle sees: the tile after step 2 of R102, its den, its place. -/
structure Snap where
  t : Nat
  slot : Nat
  den : Den
  tile : Tile
  deriving Repr

/-- A relay latch as a bundle reads it: its oldest value, zero when it has none (R55, R194) or faces the den's edge (R73). -/
def Snap.latch (x : Snap) (d : Dir) : LatchVal :=
  match x.den.rect.next x.t d with
  | none => { val := 0 }
  | some _ => (kget [] x.tile.latches (dirIx d)).headD { val := 0 }

/-- Registers of a tile, as numbers. -/
def Tile.sreg (x : Tile) (i : Nat) : Nat := (kget 0 x.s i).toNat
/-- A V register as a number. -/
def Tile.vreg (x : Tile) (i : Nat) : Nat := (kget 0 x.v i).toNat
/-- An A register as a number. -/
def Tile.areg (x : Tile) (i : Nat) : Nat := (kget 0 x.a i).toNat
/-- A predicate register as a number. -/
def Tile.preg (x : Tile) (i : Nat) : Nat := (kget 0 x.p i).toNat

/-- What an operand code of R124 names. -/
inductive OpCode where
  | v (i : Nat) | latch (d : Dir) | s (i : Nat) | a (i : Nat) | reserved
  deriving DecidableEq, Repr

/-- The operand codes of R124. -/
def OpCode.of (c : Nat) : OpCode :=
  if c < 0x40 then .v c
  else if c = 0x40 then .latch .north
  else if c = 0x41 then .latch .east
  else if c = 0x42 then .latch .south
  else if c = 0x43 then .latch .west
  else if c < 0x50 then .reserved
  else if c < 0x70 then .s (c - 0x50)
  else .a (c - 0x70)

/-- A code that names no operand. -/
def badCode (c : Nat) : Bool := OpCode.of c == .reserved

/-- The latch a code names. -/
def latchOf (c : Nat) : List Dir :=
  match OpCode.of c with
  | .latch d => [d]
  | _ => []

/-- A scalar reading of an operand: its low 64 bits (R124). -/
def Snap.scalar (x : Snap) (c : Nat) : Nat :=
  match OpCode.of c with
  | .v i => x.tile.vreg i % 2 ^ 64
  | .latch d => (x.latch d).val.toNat % 2 ^ 64
  | .s i => x.tile.sreg i
  | .a i => x.tile.areg i
  | .reserved => 0

/-- The elements of `w` bits of a bit string of `n` of them (R151). -/
def elemsOf (w n v : Nat) : List Nat := (List.range n).map fun i => bitsOf v (w * i) w

/-- The bit string of elements of `w` bits (R151). -/
def joinElems (w : Nat) : List Nat → Nat
  | [] => 0
  | e :: es => e % 2 ^ w + 2 ^ w * joinElems w es

/-- The low element of a scalar register for a broadcast (R124). -/
def broadcastElem (w v : Nat) : Nat :=
  if w ≤ 64 then v % 2 ^ w else v + 2 ^ 64 * (Config.broadcastUpper v % 2 ^ (w - 64))

/-- A vector reading of an operand: its elements of `w` bits, a scalar register broadcast to each (R124). -/
def Snap.vector (x : Snap) (w c : Nat) : List Nat :=
  let n := 512 / w
  match OpCode.of c with
  | .v i => elemsOf w n (x.tile.vreg i)
  | .latch d => elemsOf w n (x.latch d).val.toNat
  | .s i => List.replicate n (broadcastElem w (x.tile.sreg i))
  | .a i => List.replicate n (broadcastElem w (x.tile.areg i))
  | .reserved => List.replicate n 0

/-- The element types of the TY field (R125). -/
inductive ETy where
  | f64 | f32 | c64 | c32 | i64 | i32 | i16 | i8
  deriving DecidableEq, Repr

/-- The TY field of R125. -/
def ETy.ofField : Nat → ETy
  | 0 => .f64 | 1 => .f32 | 2 => .c64 | 3 => .c32 | 4 => .i64 | 5 => .i32 | 6 => .i16 | _ => .i8

/-- The element width in bits (R176). -/
def ETy.bits : ETy → Nat
  | .f64 => 64 | .f32 => 32 | .c64 => 128 | .c32 => 64 | .i64 => 64 | .i32 => 32 | .i16 => 16 | .i8 => 8

/-- A complex type. -/
def ETy.isComplex : ETy → Bool
  | .c64 => true | .c32 => true | _ => false

/-- The floating-point format of a type's parts, if it has one. -/
def ETy.fmt : ETy → Option FloatFmt
  | .f64 => some fp64 | .c64 => some fp64 | .f32 => some fp32 | .c32 => some fp32 | _ => none

/-- The width of the real numbers a type is made of. -/
def ETy.partBits (y : ETy) : Nat := if y.isComplex then y.bits / 2 else y.bits

/-- The mask of the destination bits that predication lets an operation write: an element of `w` bits is governed by
the predicate bit of its lowest byte (R53). -/
def predMask (w n p : Nat) : List Bool := (List.range n).map fun i => p / 2 ^ (w / 8 * i) % 2 == 1

/-- The bits of the elements that a list of marks lets through. -/
def maskBits (w : Nat) : List Bool → Nat
  | [] => 0
  | b :: bs => (if b then 2 ^ w - 1 else 0) + 2 ^ w * maskBits w bs

end Sys2Proof.Machine
end

