-- ==== Sys2Proof/Machine/Ops.lean ====
section
/-! DEFINITION. Machine/Ops.lean: the operations many commands share: outcomes, registers of the dictionary, interrupt
sources, fences, freeze sources and den faults. -/

namespace Sys2Proof.Machine

open Sys2Proof

/-- What a command does: its event where it occurs; where it cannot occur, nothing (DESIGN CHOICE, log entry 188). -/
def occurs (s : State) : Out State → Act
  | .next t => .next t
  | .off _ => .next s

/-- No event with a guard unless a condition holds. -/
def need (g : Guard) (b : Bool) (k : Out State) : Out State := if b then k else .off g

/-- No event with a guard where a value is absent. -/
def needSome {α : Type} (g : Guard) (o : Option α) (k : α → Out State) : Out State :=
  match o with
  | some a => k a
  | none => .off g

/-- A register of the dictionary. -/
def State.reg (s : State) (ix el : Nat) : Nat := s.dict.reg ix el

/-- Write a register of the dictionary. -/
def State.setReg (s : State) (ix el v : Nat) : State := { s with dict := s.dict.setReg ix el v }

/-- Add to a counter of the dictionary. -/
def State.bump (s : State) (ix el : Nat) (by_ : Nat := 1) : State := { s with dict := s.dict.bump ix el by_ }

/-- Drive something outside. -/
def State.emit (s : State) (x : Sent) : State := { s with outbox := x :: s.outbox }

/-- An occurrence of an event source (R569). -/
def State.raise (s : State) (n : Nat) : State := { s with ic := s.ic.occur n true }

/-- The condition of a level source (R569). -/
def State.level (s : State) (n : Nat) (cond : Bool) : State := { s with ic := s.ic.occur n cond }

/-- A fence slot. -/
def State.fence (s : State) (f : Nat) : Fence := kget {} s.host.fences f
/-- Set a fence slot. -/
def State.setFence (s : State) (f : Nat) (x : Fence) : State :=
  { s with host := { s.host with fences := kput {} s.host.fences f x } }
/-- A queue. -/
def State.queue (s : State) (q : Nat) : Queue := kget {} s.host.queues q
/-- Set a queue. -/
def State.setQueue (s : State) (q : Nat) (x : Queue) : State :=
  { s with host := { s.host with queues := kput {} s.host.queues q x } }

/-- The entry a queue has taken changes its phase. -/
def State.setCur (s : State) (q : Nat) (p : CurPhase) : State :=
  let x := s.queue q
  s.setQueue q { x with cur := x.cur.map fun c => { c with phase := p } }

/-- An entry of a queue ends without a step having run (R493, R494). -/
def State.endEntry (s : State) (q : Nat) (status : Code) (badIx : Nat := 0) (badCode : Code := 0) : State :=
  s.setCur q (.done status 0 badIx badCode (s.den (s.queue q).slot).stepCount)

/-- Whether a wait for `w` on a fence of value `v` is satisfied (R497). -/
def waitMet (v w : Nat) : Bool := (v + 2 ^ 40 - w % 2 ^ 40) % 2 ^ 40 < 2 ^ 39

/-- A fence with no reference left returns to FREE; its generation stays (R500). -/
def Fence.settle (x : Fence) : Fence :=
  if x.live && x.refs.isEmpty && x.waiters.isEmpty then { gen := x.gen } else x

/-- A queue's entry no longer waits on its fence. -/
def State.dropWait (s : State) (q : Nat) : State :=
  match (s.queue q).cur with
  | some c =>
    if c.phase = .waiting then
      let x := s.fence c.entry.wfen
      s.setFence c.entry.wfen ({ x with waiters := x.waiters.erase q }).settle
    else s
  | none => s

/-- A queue that stops has taken no entry but one whose step runs or that has ended (R488): an entry that waits, or is ready, is
pending again (DEDUCED, log entry 77). -/
def State.untake (s : State) (q : Nat) : State :=
  match (s.queue q).cur with
  | some c =>
    if c.phase = .waiting ∨ c.phase = .ready then
      let s := s.dropWait q
      let x := s.queue q
      s.setQueue q { x with cur := none, sqHead := c.index }
    else s
  | none => s

/-- A queue goes to STOPPED (R486, R488, R493). -/
def State.stopQueue (s : State) (q : Nat) (status : Option Code) : State :=
  let s := s.untake q
  let x := s.queue q
  s.setQueue q { x with phase := .stopped, lastStatus := status.getD x.lastStatus }

/-- A queue's wait is satisfied (R492): a FENCE entry completes, a STEP entry is ready for its slot. -/
def State.waitDone (s : State) (q : Nat) : State :=
  match (s.queue q).cur with
  | some c => if c.entry.op = 2 then s.endEntry q 0 else s.setCur q .ready
  | none => s

/-- The waits on a fence that its value satisfies leave it (R497). -/
def State.wakeWaits (s : State) (f : Nat) : State :=
  let x := s.fence f
  let met (q : Nat) : Bool := match (s.queue q).cur with
    | some c => waitMet x.value.toNat c.entry.w1
    | none => true
  let done := x.waiters.filter met
  let s := s.setFence f ({ x with waiters := x.waiters.filter (fun q => !met q) }).settle
  done.foldl State.waitDone s

/-- A signal at a fence (R496): applied if it advances the value, otherwise counted stale. -/
def State.signalFence (s : State) (f v : Nat) (wide : Bool := true) : State :=
  let x := s.fence f
  let d := (v + 2 ^ 40 - x.value.toNat) % 2 ^ 40
  if wide && v < 2 ^ 40 && x.live && !x.abandoned && 1 ≤ d && d < 2 ^ 39 then
    (s.setFence f { x with value := BitVec.ofNat 40 v }).wakeWaits f
  else s.setFence f { x with stale := bvInc x.stale }

/-- The den cycle at which a tile issues its next bundle, runs its next drain cycle, or stands (R69). -/
def Den.cycle (d : Den) (t : Nat) (x : Tile) : Nat := x.bundle + x.drained + d.rect.skew t + d.wave.z

/-- Add wave signals. -/
def State.signal (s : State) (slot : Nat) (l : List Signal) : State :=
  s.modDen slot fun d => { d with wave := { d.wave with signals := d.wave.signals ++ l } }

/-- The freeze signals a tile sends to its den neighbours, but for the one it came from (R78, R79). -/
def freezeSignals (d : Den) (t cyc : Nat) (from_ : Option Dir) : List Signal :=
  dirs4.filterMap fun dir =>
    if from_ = some dir then none
    else match d.rect.next t dir with
      | some n => some { dest := n, came := dirOpp dir, at' := cyc + hopTime t n, sig := .freeze }
      | none => none

/-- A tile freezes at a den cycle and passes the freeze on (R78, R79). -/
def State.freezeTile (s : State) (slot t : Nat) (source : Option (Nat × Nat)) (cyc : Nat) (from_ : Option Dir) : State :=
  let d := s.den slot
  let s := s.modTile t fun x => { x with frozen := some { source := source, since := cyc } }
  let s := if t = d.rect.origin ∧ d.wave.freezeAt = none then
      s.modDen slot fun d => { d with wave := { d.wave with freezeAt := some cyc } }
    else s
  s.signal slot (freezeSignals d t cyc from_)

/-- What a fault record tells about the fault (R398). -/
structure FaultInfo where
  tile : Option Nat := none
  addr : Nat := 0
  tag : Option Nat := none
  op : Nat := 0
  bundle : Nat := 0
  loc : Nat := 0
  kind : Nat := 0

/-- The 32 bytes of FAULT_REC (R398). -/
def FaultInfo.bytes (i : FaultInfo) (code : Code) : List Byte :=
  match i.tile with
  | none => toLE 2 code.toNat ++ List.replicate 14 0xFF ++ List.replicate 8 0 ++ [0xFF] ++ List.replicate 7 0
  | some t =>
    toLE 2 code.toNat ++ toLE 1 (colOf t) ++ toLE 1 (rowOf t) ++ toLE 2 i.addr ++
      toLE 1 (match i.tag with | some k => k | none => 0xFF) ++ toLE 1 i.op ++ toLE 8 (i.bundle % 2 ^ 48) ++
      toLE 8 i.loc ++ toLE 1 i.kind ++ List.replicate 7 0

/-- STEP_FLAGS at a step's end (R160): the OR of the sticky flags of the tiles' MSTAT. -/
def State.mstatOr (s : State) (slot : Nat) : BitVec 16 :=
  ((s.den slot).rect.tiles.foldl (fun v t => v ||| (s.tile t).mstat.extractLsb' 32 14) (0 : BitVec 14)).zeroExtend 16

/-- The end of a step that ends without every tile at its HALT: a fault (R160, R494). Its entry completes with the code. -/
def State.failStep (s : State) (slot : Nat) (code : Code) : State :=
  let d := s.den slot
  if d.stepActive then
    let flags := s.mstatOr slot
    let s := s.setDen slot { d with stepActive := false, stepQueue := none, stepFlags := flags }
    match d.stepQueue with
    | some q => s.setCur q (.done code flags 0 0 d.stepCount)
    | none => s
  else s

/-- Begin a reset (R689), unless one of its domain runs. -/
def State.beginReset (s : State) (d : ResetDom) (c : Code) : State :=
  if s.repair.resets.any (·.dom == d) then s
  else { s with repair := { s.repair with resets := s.repair.resets ++ [{ dom := d, cause := c }] } }

/-- The command in flight of a slot, with that operation and with its work not done. -/
def Den.working (d : Den) (op : Nat) : Option DenCmd :=
  match d.cmd with
  | some c => if c.op = op ∧ c.result = none ∧ c.cancelled = false then some c else none
  | none => none

/-- A command's work ends with a result, which CMD_COMPLETE reports (R394). -/
def State.cmdResult (s : State) (slot : Nat) (c : Code) : State :=
  s.modDen slot fun d => { d with cmd := d.cmd.map fun x => if x.result.isNone then { x with result := some c } else x }

/-- A RELOCATE stops where it stands (R397, R410): its new shafts are scrubbed. -/
def Den.dropMove (d : Den) : Den :=
  match d.moving with
  | some m => { d with moving := none, scrubs := d.scrubs ++ m.dest.tiles.map .shaft }
  | none => d

/-- Entry to FAULTED (R396, R398, R410): from RESERVED, LOADED, RUNNING or FROZEN; the first code stays. A FREEZE in
flight completes with DEN_FAULTED. Whether the resume signal was out is noted for a save (R88, R414). A den fault is a level 1 reset (R691), unless a larger reset brings it. The tiles' freeze is
`freezeTile`, which the caller applies. A RELOCATE in flight stops. A slip that the fault ends counts in no slip register (DESIGN CHOICE, log entry 173). -/
def State.enterFaulted (s : State) (slot : Nat) (code : Code) (i : FaultInfo) (ladder : Bool := true) : State :=
  let d := s.den slot
  match d.phase with
  | .reserved | .loaded | .running | .frozen =>
    let cmd := d.cmd.map fun c => if c.op = 4 && c.result.isNone then { c with result := some 0x0A25 } else c
    let d := d.dropMove
    let d' := { d with phase := .faulted, faultCode := code, faultRec := i.bytes code, cmd := cmd, settFreeze := false,
                       wave := { d.wave with stopping := true, resumeSent := if d.phase = .running then d.wave.resuming else d.wave.resumeSent } }
    let s := ((s.setDen slot d').failStep slot code).raise (770 + slot)
    if ladder then s.beginReset (.den slot) code else s
  | _ => s

/-- A tile faults its den (R77, R146): it withholds its bundle, becomes a freeze source, and the den is FAULTED. -/
def State.tileFault (s : State) (slot t : Nat) (code : Code) (i : FaultInfo) : State :=
  let d := s.den slot
  let s := s.freezeTile slot t none (d.cycle t (s.tile t)) none
  s.enterFaulted slot code { i with tile := some t }

/-- A fault that no tile raised (R305, R396, R398): a RUNNING den's origin becomes the freeze source (DEDUCED, log entry
20). -/
def State.denFault (s : State) (slot : Nat) (code : Code) (ladder : Bool := true) : State :=
  let d := s.den slot
  let o := d.rect.origin
  let s := if d.phase = .running && (s.tile o).frozen.isNone then
      s.freezeTile slot o none (d.cycle o (s.tile o)) none
    else s
  s.enterFaulted slot code { kind := 0xFF } ladder

/-- A den that is not FREE becomes FAULTED, whatever its state (R305, R612, R665). -/
def State.faultAny (s : State) (slot : Nat) (code : Code) (ladder : Bool := false) : State :=
  let d := s.den slot
  match d.phase with
  | .free | .faulted => s
  | .draining | .scrubbing =>
    let s := (s.setDen slot { d with phase := .faulted, faultCode := code, faultRec := ({ kind := 0xFF } : FaultInfo).bytes code,
                                     settFreeze := false }).raise (770 + slot)
    if ladder then s.beginReset (.den slot) code else s
  | _ => s.denFault slot code ladder

end Sys2Proof.Machine
end

