-- ==== Sys2Proof/Machine/Keys.lean ====
section
/-! DEFINITION. Machine/Keys.lean: the derivation of the device's keys (R592 to R595), from SHA-256 and the device secret. -/

namespace Sys2Proof.Machine

open Sys2Proof

/-- The device secret in the fuses (R592); at Scrapped every fuse is blown to one (R609). -/
def Trust.uds (t : Trust) : List Byte := toLE 32 (if t.udsGone then 2 ^ 256 - 1 else Config.uds.toNat)

/-- The seed of the DeviceID key (R593). -/
def Trust.deviceSeed (t : Trust) : List Byte := deviceSeedOf t.uds

/-- The sealing key of a life-cycle state (R593). -/
def Trust.sealingKey (t : Trust) (lifecycle : Nat) : List Byte :=
  hkdf t.uds (asciiBytes "OSDIN-SEAL-1" ++ toLE 1 lifecycle)

/-- The CDI of an image (R593): its digest, SVN, the life-cycle state and ROM_VERSION. -/
def Trust.cdiOf (t : Trust) (b : FwBank) (lifecycle romVersion : Nat) : List Byte :=
  hmac t.uds (toLE 32 b.digest.toNat ++ toLE 2 b.svn ++ toLE 1 lifecycle ++ toLE 4 romVersion)

/-- The seed of the alias key (R593). -/
def aliasSeed (cdi : List Byte) : List Byte := hkdf cdi (asciiBytes "OSDIN-ALIAS-1")

/-- The modulus of the module's identity key (R593, R595). -/
def State.modulus (s : State) : List Byte := rsaModulus s.trust.deviceSeed

/-- The module's DEVID_DIGEST as the Meter recorded it at manufacture (R628, R595): it never changes. -/
def recordedDevid : List Byte := sha (rsaModulus (deviceSeedOf (toLE 32 Config.uds.toNat)))

/-- A fresh key of 256 bits, which are free. -/
def State.freeKey (s : State) : BitVec 256 × State :=
  (BitVec.ofNat 256 (leNat ((List.range 32).map fun i => Config.freeByte (s.fresh + i))), { s with fresh := s.fresh + 32 })

/-- The ROM derives layer 0 (R593): the DeviceID and sealing keys, and the CDI of an image. -/
def State.deriveVault (s : State) (b : FwBank) : Vault :=
  { deviceId := s.trust.deviceSeed, sealing := s.trust.sealingKey (s.reg 0x0001 0),
    cdi := some (s.trust.cdiOf b (s.reg 0x0001 0) (s.reg 0x0000 6)) }

/-- The ROM of the primary half derives the keys for the image that it will boot (R593, R594, R701): the vault, and the alias key in
the secure SRAM. -/
def State.deriveKeys (s : State) (b : FwBank) : State :=
  let v := s.deriveVault b
  { s with trust := { s.trust with vault := some v, alias_ := v.cdi.map aliasSeed } }

/-- The link engines have stopped: after a life-cycle change or a tamper event they send nothing until the chip reset (R609, R612). -/
def Trust.linksStop (t : Trust) : Bool := t.tampered || t.lcChanged

/-- The CDI is cleared before the firmware is released (R594). -/
def State.clearCdi (s : State) : State :=
  { s with trust := { s.trust with vault := s.trust.vault.map fun v => { v with cdi := none } } }

end Sys2Proof.Machine
end

