-- ==== Sys2Proof/Machine/FabOps.lean ====
section
/-! DEFINITION. Machine/FabOps.lean: frames, routes, pair keys and sending (R514 to R546): the operations of the link engines that
every sender shares. -/

namespace Sys2Proof.Machine

open Sys2Proof

/-- ROUTE_NONE (R562). -/
abbrev kRouteNone : Code := 0x0D01
/-- LINK_NONE (R562). -/
abbrev kLinkNone : Code := 0x0D02
/-- KEY_AGREE (R562). -/
abbrev kKeyAgree : Code := 0x0D03
/-- PEER_NOT_MEMBER (R562). -/
abbrev kPeerNotMember : Code := 0x0D04
/-- JOB_NONE (R562). -/
abbrev kJobNone : Code := 0x0D05
/-- COMPAT_OP (R562). -/
abbrev kCompatOp : Code := 0x0D06

/-! ### The state -/

/-- A link. -/
def State.link (s : State) (l : Nat) : Link := kget {} s.fab.links l
/-- Set a link. -/
def State.setLink (s : State) (l : Nat) (x : Link) : State :=
  { s with fab := { s.fab with links := kput {} s.fab.links l x } }
/-- Change a link. -/
def State.modLink (s : State) (l : Nat) (f : Link → Link) : State := s.setLink l (f (s.link l))

/-- The chip's endpoint (R522). -/
def State.endpoint (s : State) : Nat := s.reg 0x1100 0

/-- The chip's incarnation (R543). -/
def State.incarnation (s : State) : Nat := s.reg 0x0000 9

/-- Whether a link is up (R559). -/
def State.linkUp (s : State) (l : Nat) : Bool := s.reg (0x1000 + l) 0 == 2

/-- A live job (R532). -/
def State.job (s : State) (id : Nat) : Option Job := s.fab.jobs.find? (·.id == id)

/-- Whether an endpoint is a member of a job (R533). -/
def State.isMember (s : State) (job peer : Nat) : Bool := s.fab.members.any fun m => m.job == job && m.peer == peer

/-- A pair (R534). -/
def State.pair (s : State) (job peer : Nat) : Option Pair := s.fab.keys.find? fun k => k.job == job && k.peer == peer

/-- Change a pair. -/
def State.modPair (s : State) (job peer : Nat) (f : Pair → Pair) : State :=
  { s with fab := { s.fab with keys := updFirst (fun k => k.job == job && k.peer == peer) f s.fab.keys } }

/-! ### The transport header (R516) -/

/-- Bits of a frame's header. -/
def hdrField (f : Frame) (lo n : Nat) : Nat := bitsOf f.hdr.toNat lo n

/-- KIND. -/
def frameKind (f : Frame) : Nat := hdrField f 4 4
/-- SRC. -/
def frameSrc (f : Frame) : Nat := hdrField f 64 24
/-- DST. -/
def frameDst (f : Frame) : Nat := hdrField f 32 24
/-- JOB. -/
def frameJob (f : Frame) : Nat := hdrField f 96 32
/-- TAG. -/
def frameTag (f : Frame) : Nat := hdrField f 272 16
/-- RWIN. -/
def frameRwin (f : Frame) : Nat := hdrField f 288 12
/-- OPC. -/
def frameOpc (f : Frame) : Nat := hdrField f 300 4
/-- ARG. -/
def frameArg (f : Frame) : Nat := hdrField f 304 16
/-- OFFSET. -/
def frameOff (f : Frame) : Nat := hdrField f 320 56

/-- Bytes of a frame on the wire (R514): the payload, two MAC addresses, tag, EtherType, header and FCS, and the GCM tag of every kind but
KEYX. -/
def frameSize (f : Frame) : Nat := f.payload.length + (if frameKind f = 4 then 70 else 86)

/-- Whether a kind travels on the express channel, for what it answers (R517). -/
def expressKind (kind : Nat) : Bool := kind == 2 || kind == 3 || kind == 5 || kind == 7 || kind == 8

/-- A transport header (R516). -/
def mkHdr (exp : Bool) (hops dst src job sinc dinc pn : Nat) (m : Msg) : BitVec 384 :=
  BitVec.ofNat 384 (1 + 2 ^ 4 * m.kind + (if exp then 2 ^ 8 else 0) + 2 ^ 16 * hops + 2 ^ 32 * dst + 2 ^ 64 * src +
    2 ^ 96 * job + 2 ^ 128 * (sinc % 2 ^ 32) + 2 ^ 160 * (dinc % 2 ^ 32) + 2 ^ 192 * (pn % 2 ^ 64) +
    2 ^ 256 * m.payload.length + 2 ^ 272 * m.tag + 2 ^ 288 * m.rwin + 2 ^ 300 * m.opc + 2 ^ 304 * m.arg + 2 ^ 320 * m.off)

/-- The MAC address of link `n` of endpoint `e` (R515). -/
def macOf (e n : Nat) : BitVec 48 := BitVec.ofNat 48 (2 ^ 40 * 0x02 + 2 ^ 32 * 0x0D + 2 ^ 8 * (e % 2 ^ 24) + n % 2 ^ 8)

/-! ### Routes (R523 to R525) -/

/-- One step of the IEEE 802.3 CRC-32, least significant bit first. -/
def crcBit (c : Nat) : Nat := if c % 2 = 1 then Nat.xor (c / 2) 0xEDB88320 else c / 2

/-- A byte of the CRC-32. -/
def crcByte (c : Nat) (b : Byte) : Nat :=
  let c := Nat.xor c b.toNat
  crcBit (crcBit (crcBit (crcBit (crcBit (crcBit (crcBit (crcBit c)))))))

/-- The IEEE 802.3 CRC-32 of some bytes (R524). -/
def crc32 (bs : List Byte) : Nat := Nat.xor (bs.foldl crcByte 0xFFFFFFFF) 0xFFFFFFFF

/-- The number of bits set. -/
def popCount (n v : Nat) : Nat := ((List.range n).filter fun i => v.testBit i).length

/-- The best of the matching routes: the most mask bits, then the lowest index (R523). -/
def bestRoute : List (Nat × Option Route) → Nat → Option Route
  | [], _ => none
  | (_, none) :: rs, d => bestRoute rs d
  | (_, some r) :: rs, d =>
    if Nat.land d r.mask != r.value then bestRoute rs d
    else match bestRoute rs d with
      | some b => if popCount 24 r.mask < popCount 24 b.mask then some b else some r
      | none => some r

/-- The link and the route a frame takes (R523, R524). -/
def State.pickLink (s : State) (dst job rwin : Nat) (by_ : SendBy) : Except Code (Nat × Route) :=
  match bestRoute s.fab.routes dst with
  | none => .error kRouteNone
  | some r =>
    let up := (List.range 32).filter fun l => r.links.getLsbD l && s.linkUp l
    if up.isEmpty then .error kRouteNone
    else
      let cand := match by_ with
        | .den n => up.filter fun l => 0 < kget 0 (s.den n).linkBudget l
        | _ => up
      let i := crc32 (toLE 3 dst ++ toLE 4 job ++ toLE 2 rwin) % cand.length
      match cand[i]? with
      | some l => .ok (l, r)
      | none => .error kLinkNone

/-! ### Protection of frames (R514, R518) -/

/-- The additional authenticated data: the header, with HOPS counted as zero. -/
def frameAad (hdr : BitVec 384) : List Byte := toLE 48 (hdr.toNat - 2 ^ 16 * bitsOf hdr.toNat 16 8)

/-- The nonce: PN in bits 63 to 0, SRC_INC in bits 95 to 64, in the transport's byte order (R8). -/
def frameNonce (hdr : BitVec 384) : List Byte := toLE 8 (bitsOf hdr.toNat 192 64) ++ toLE 4 (bitsOf hdr.toNat 128 32)

/-- A frame whose payload is encrypted and tagged under a key. -/
def frameSealed (f : Frame) (key : BitVec 256) : Frame :=
  let (c, t) := gcmSeal (toLE 32 key.toNat) (frameNonce f.hdr) (frameAad f.hdr) f.payload
  { f with payload := c, tag := t }

/-- The frame under a sealed one, where its tag verifies under a key. -/
def frameOpened (f : Frame) (key : BitVec 256) : Option Frame :=
  (gcmOpen (toLE 32 key.toNat) (frameNonce f.hdr) (frameAad f.hdr) f.payload f.tag).map fun p => { f with payload := p, tag := [] }

/-- The bytes of a frame on the wire (R8, R514): the Ethernet fields in the order of IEEE 802.3, the transport header little-endian, the
payload, the tag, and the FCS over all of them. -/
def frameBytes (f : Frame) : List Byte :=
  let b := toBE 6 f.dmac.toNat ++ toBE 6 f.smac.toNat ++ [0x81, 0x00] ++ toBE 2 (f.pcp * 2 ^ 13 + f.vlan) ++ toBE 2 f.etype.toNat ++
    toLE 48 f.hdr.toNat ++ f.payload ++ f.tag
  b ++ toLE 4 (crc32 b)

/-! ### Sending -/

/-- A frame leaves on a link, or waits there while the bulk PCP is paused (R521). A link engine that has stopped sends none (R609,
R612). -/
def State.transmit (s : State) (l : Nat) (by_ : SendBy) (f : Frame) : State :=
  let x := s.link l
  if s.trust.linksStop then s
  else if x.paused && hdrField f 8 1 == 0 then s.setLink l { x with held := x.held ++ [{ by_ := by_, frame := f }] }
  else s.emit (.frame l f)

/-- A frame on a link, to the next endpoint of a route (R514, R515). -/
def State.mkFrame (s : State) (l : Nat) (dmac : BitVec 48) (exp : Bool) (dst job sinc dinc pn : Nat) (m : Msg) : Frame :=
  let pcp := s.reg (0x1000 + l) 6
  { dmac := dmac, smac := macOf s.endpoint l, pcp := if exp then bitsOf pcp 0 3 else bitsOf pcp 8 3,
    vlan := s.reg (0x1000 + l) 7 % 4096, etype := BitVec.ofNat 16 (s.reg 0x1100 1),
    hdr := mkHdr exp (s.reg 0x1100 2) dst s.endpoint job sinc dinc pn m, payload := m.payload, contended := m.contended }

/-- The MAC address of the next endpoint of a route (R515, R523). -/
def Route.mac (r : Route) (dst l : Nat) : BitVec 48 :=
  macOf (if r.via = 0 then dst else r.via) (if r.plink = 0xFF then l else r.plink)

/-- A frame under a live pair key (R518): the incarnations, the next packet number, the encryption and the tag. -/
def State.sealFrame (s : State) (l : Nat) (dmac : BitVec 48) (exp : Bool) (job peer : Nat) (m : Msg) : Frame × State :=
  match s.pair job peer with
  | none => (s.mkFrame l dmac exp peer job 0 0 0 m, s)
  | some k =>
    let compat := match s.job job with | some j => j.compat | none => false
    let sinc := if compat then 0 else s.incarnation
    let dinc := if compat then 0 else k.inc.toNat
    (frameSealed (s.mkFrame l dmac exp peer job sinc dinc k.pn m) k.txKey, s.modPair job peer fun k => { k with pn := k.pn + 1 })

/-- Free bytes. -/
def State.freeBytes (s : State) (n : Nat) : List Byte × State :=
  ((List.range n).map fun i => Config.freeByte (s.fresh + i), { s with fresh := s.fresh + n })

/-- What the signature of a KEYX covers (R536): bytes 0 to 535 of its payload, the header fields DST, SRC and JOB, and in an answer the
initiator's nonce; in this order (DEDUCED, log entry 195). -/
def keyxSigned (body : List Byte) (dst src job : Nat) (nonce : List Byte) : List Byte :=
  body.take 536 ++ toLE 3 dst ++ toLE 3 src ++ toLE 4 job ++ nonce

/-- A new KEYX for a peer (R536): its payload and its ephemeral private key. The nonce, that key and the signature's salt are free values.
`asked` is the initiator's nonce in an answer. -/
def State.newKeyx (s : State) (job peer step : Nat) (asked : List Byte) : List Byte × Nat × State :=
  let (nonce, s) := s.freeBytes 32
  let (seed, s) := s.freeBytes 48
  let d := ecPrivate seed
  let body := [BitVec.ofNat 8 step, 0, 0, 0] ++ toLE 8 s.incarnation ++ [0, 0, 0, 0] ++ nonce ++ ecPublic d ++
    List.replicate 7 0 ++ s.modulus
  let text := keyxSigned body peer s.endpoint job asked
  let sig := (List.range 384).map (Config.pssByte s.trust.deviceSeed text s.fresh)
  (body ++ sig, d, { s with fresh := s.fresh + 1 })

/-- A KEYX goes out (R536). One that finds no route is not sent. -/
def State.sendKeyx (s : State) (job peer : Nat) (payload : List Byte) : State :=
  match s.pickLink peer job 0 .engine with
  | .error _ => s
  | .ok (l, r) => s.transmit l .engine (s.mkFrame l (r.mac peer l) false peer job s.incarnation 0 0 { kind := 4, payload := payload })

/-- The nonce of a KEYX payload (R536). -/
def keyxNonce (payload : List Byte) : List Byte := bytesAt payload 16 32

/-- The modulus of a KEYX payload (R536). -/
def keyxModulus (payload : List Byte) : List Byte := (payload.drop 152).take 384

/-- The signature of a KEYX payload (R536). -/
def keyxSignature (payload : List Byte) : List Byte := (payload.drop 536).take 384

/-- The shared secret of an ephemeral private key and the public key of a KEYX (R537); where that is no point of the curve the rule states
none, and it is a free value (DESIGN CHOICE, log entry 195). -/
def sharedSecret (d : Nat) (payload : List Byte) : List Byte :=
  match ecPoint (bytesAt payload 48 97) with
  | some q => ecdh d q
  | none => (List.range 48).map (Config.offCurve d (bytesAt payload 48 97))

/-- The two keys of an agreement (R537), the initiator's direction first: each end gives its endpoint, its incarnation and its nonce. -/
def agreedKeys (secret : List Byte) (job : Nat) (a b : Nat × Nat × List Byte) : BitVec 256 × BitVec 256 :=
  let info := asciiBytes "OSDIN-LINK-1" ++ toLE 4 job ++ toLE 3 a.1 ++ toLE 8 a.2.1 ++ toLE 3 b.1 ++ toLE 8 b.2.1
  let out := hkdf64 secret (a.2.2 ++ b.2.2) info
  (BitVec.ofNat 256 (natAt out 0 32), BitVec.ofNat 256 (natAt out 32 32))

/-- Key agreement begins (R535, R545), unless this chip has begun one for the pair. A pair with no entry takes one of the
8,192 (R534). -/
def State.agree (s : State) (job peer : Nat) : Except Code State :=
  match s.pair job peer with
  | some k =>
    if k.agr.isSome then .ok s
    else
      let (p, d, s) := s.newKeyx job peer 1 []
      .ok ((s.modPair job peer fun k => { k with agr := some { payload := p, private_ := d } }).sendKeyx job peer p)
  | none =>
    if 8192 ≤ s.fab.keys.length then .error kNoResource
    else
      let (p, d, s) := s.newKeyx job peer 1 []
      let k : Pair := { job := job, peer := peer, agr := some { payload := p, private_ := d } }
      .ok (({ s with fab := { s.fab with keys := s.fab.keys ++ [k] } } : State).sendKeyx job peer p)

/-- A frame to the chip's own endpoint is turned around on the floor (R324, R522): it stands with the engine of link 0 as if it
had arrived there (DESIGN CHOICE, log entry 43). -/
def State.turnAround (s : State) (job : Nat) (exp : Bool) (m : Msg) : State :=
  let e := s.endpoint
  let f := s.mkFrame 0 (macOf e 0) exp e job s.incarnation s.incarnation 0 m
  s.modLink 0 fun x => { x with rx := x.rx ++ [f] }

/-- A frame to a peer of a live job on a link already chosen (R518, R535, R539, R542, R545): sent, or it waits for its pair's
key; `fixed` is a response's, which then keeps its link and MAC address (R519). -/
def State.sendOn (s : State) (l : Nat) (dmac : BitVec 48) (job peer : Nat) (by_ : SendBy) (exp tx : Bool) (m : Msg) (fixed : Bool := false) :
    Except Code State :=
  if (s.job job).isNone then .error kJobNone else
  if peer = s.endpoint then .ok (s.turnAround job exp m) else
  let live := match s.pair job peer with | some k => k.live && !k.suspect | none => false
  let compat := match s.job job with | some j => j.compat | none => false
  let old := match s.pair job peer with | some k => k.live | none => false
  if live || (compat && old) then
    let (f, s) := s.sealFrame l dmac exp job peer m
    .ok (s.transmit l by_ f)
  else if compat then .error kKeyAgree
  else do
    let s ← s.agree job peer
    let w : Waiter := { job := job, peer := peer, by_ := by_, link := l, msg := m, tx := tx,
                        mac := if fixed then some dmac else none }
    .ok { s with fab := { s.fab with waits := s.fab.waits ++ [w] } }

/-- A frame that is no transaction, to a peer of a job (R524). -/
def State.sendMsg (s : State) (job peer : Nat) (by_ : SendBy) (m : Msg) : Except Code State :=
  if (s.job job).isNone then .error kJobNone
  else if peer = s.endpoint then .ok (s.turnAround job (expressKind m.kind) m)
  else match s.pickLink peer job m.rwin by_ with
    | .error c => .error c
    | .ok (l, r) => s.sendOn l (r.mac peer l) job peer by_ (expressKind m.kind) false m

/-! ### The order of sending (R530) -/

/-- The weight of a source of bulk frames on a link (R530). -/
def drrWeight (s : State) (l : Nat) : SendBy → Nat
  | .den n => max 1 (kget 0 (s.den n).linkBudget l)
  | .engine => 64
  | .transit => max 1 (s.reg 0x1100 3)

/-- The frames of a list that a credit of bytes covers, and the rest. -/
def takeCredit {α : Type} (size : α → Nat) (credit : Nat) : List α → List α × List α
  | [] => ([], [])
  | h :: hs =>
    if size h ≤ credit then
      let (a, b) := takeCredit size (credit - size h) hs
      (h :: a, b)
    else ([], h :: hs)

/-- The order in which bulk frames leave (R530): in rounds, each source sending in a round the frames its weight allows; a
round gives each source its weight times 64 bytes (DESIGN CHOICE, log entry 46: the quantum is not stated). -/
def drrOrder {α : Type} (source : α → SendBy) (size : α → Nat) (weight : SendBy → Nat) : Nat → List (SendBy × Nat) → List α → List α
  | 0, _, fs => fs
  | n + 1, credit, fs =>
    match fs with
    | [] => []
    | _ =>
      let sources := (fs.map source).eraseDups
      let (out, credit, left) := sources.foldl (fun ((out, credit, left) : List α × List (SendBy × Nat) × List α) b =>
          let have_ := ((credit.find? (·.1 == b)).map (·.2)).getD 0 + 64 * weight b
          let (sent, rest) := takeCredit size have_ (left.filter fun x => source x == b)
          let used := (sent.map size).foldl (· + ·) 0
          let credit := (b, if rest.isEmpty then 0 else have_ - used) :: credit.filter (·.1 != b)
          (out ++ sent, credit, (left.filter fun x => source x != b) ++ rest)) ([], credit, fs)
      out ++ drrOrder source size weight n credit left

/-- The place of a kind in the order of R530: control frames, dictionary segments, bulk. -/
def sendClass (kind : Nat) : Nat := if kind = 3 then 1 else if expressKind kind then 0 else 2

/-- Cut bytes into cutPieces of at most `n`, `k` of them. -/
def cutPieces (n : Nat) : Nat → List Byte → List (List Byte)
  | 0, _ => []
  | k + 1, bs => bs.take n :: cutPieces n k (bs.drop n)

/-- A dictionary message goes out as DICT segments (R517, R529). Its message number is the chip's own count (DESIGN CHOICE, log
entry 40). A segment that finds no route is lost. -/
def State.sendDict (s : State) (peer job : Nat) (bs : List Byte) : State :=
  let n := max 1 (ceilDiv bs.length 256)
  let no := s.fab.dictMsg
  let s := { s with fab := { s.fab with dictMsg := (no + 1) % 2 ^ 16 } }
  (cutPieces 256 n bs).zipIdx.foldl (fun s (p, i) =>
    let m : Msg := { kind := 3, payload := toLE 2 no ++ toLE 1 i ++ toLE 1 n ++ toLE 4 0 ++ p }
    match s.sendMsg job peer .engine m with
    | .ok s => s
    | .error _ => s) s

end Sys2Proof.Machine
end

