-- ==== Sys2Proof/Machine/Descriptor.lean ====
section
/-! DEFINITION. Machine/Descriptor.lean: the pump descriptor (R236 to R244): its fields, its element types, and the checks
made when it is accepted. -/

namespace Sys2Proof.Machine

open Sys2Proof

/-- A descriptor (R236, R237): the fields of W0 and the words W1 to W7. -/
structure Desc where
  op : Nat
  dkind : Nat
  etype : Nat
  dtype : Nat
  rnd : Nat
  func : Nat
  resv : Bool
  count : Nat
  w1 : Nat
  w2 : Nat
  w3 : Nat
  w4 : Nat
  w5 : Nat
  w6 : Nat
  w7 : Nat
  deriving DecidableEq, Repr

/-- The descriptor in 64 bytes. -/
def Desc.of (bs : List Byte) : Desc :=
  let w (i : Nat) := natAt bs (8 * i) 8
  let h := w 0
  { op := bitsOf h 0 8, dkind := bitsOf h 8 2, etype := bitsOf h 12 5, dtype := bitsOf h 17 5, rnd := bitsOf h 22 2,
    func := bitsOf h 24 4, resv := bitsOf h 10 2 != 0 || bitsOf h 28 4 != 0, count := bitsOf h 32 32,
    w1 := w 1, w2 := w 2, w3 := w 3, w4 := w 4, w5 := w 5, w6 := w 6, w7 := w 7 }

/-- Word `i` of a descriptor, 1 to 7. -/
def Desc.word (d : Desc) : Nat → Nat
  | 1 => d.w1 | 2 => d.w2 | 3 => d.w3 | 4 => d.w4 | 5 => d.w5 | 6 => d.w6 | _ => d.w7

/-- ADDR of a location word (R238). -/
def locAddr (w : Nat) : Nat := bitsOf w 0 56
/-- KIND of a location word (R238). -/
def locKind (w : Nat) : Nat := bitsOf w 62 2

/-- Bits of one element of a type (R239); 0 for a reserved code. -/
def typeBits : Nat → Nat
  | 0x00 => 64 | 0x01 => 32 | 0x02 => 16 | 0x03 => 16 | 0x04 => 8 | 0x05 => 8 | 0x06 => 6 | 0x07 => 6 | 0x08 => 4
  | 0x09 => 64 | 0x0A => 32 | 0x0B => 16 | 0x0C => 8 | 0x0D => 4 | 0x0E => 128 | 0x0F => 64
  | 0x10 => 8 | 0x11 => 8 | 0x12 => 6 | 0x13 => 6 | 0x14 => 4 | 0x15 => 8 | 0x16 => 512 | _ => 0

/-- Bytes of an element of a whole-byte type. -/
def typeBytes (c : Nat) : Nat := typeBits c / 8

/-- The classes of R241. -/
inductive TyClass where
  | real | int | complex | line
  deriving DecidableEq, Repr

/-- The class of a type code. -/
def tyClass (c : Nat) : TyClass :=
  if 0x09 ≤ c && c ≤ 0x0D then .int
  else if c = 0x0E ∨ c = 0x0F then .complex
  else if c = 0x16 then .line
  else .real

/-- An MX type (R239). -/
def isMx (c : Nat) : Bool := 0x10 ≤ c && c ≤ 0x15

/-- A sub-byte or MX type, of R243's third rule. -/
def isSub (c : Nat) : Bool := c = 0x06 || c = 0x07 || c = 0x08 || c = 0x0D || isMx c

/-- The alignment of an array of a type (R243). -/
def typeAlign (c : Nat) : Nat := if isSub c then 8 else max 1 (typeBytes c)

/-- The largest FUNC of each operation (R240). -/
def funcMax : Nat → Nat
  | 2 => 2 | 3 => 2 | 4 => 7 | 5 => 2 | 7 => 1 | 8 => 2 | 9 => 1 | 13 => 3 | _ => 0

/-- The location words of an operation: word number, and whether it is optional (R240). -/
def Desc.locs (d : Desc) : List (Nat × Bool) :=
  let dest : List (Nat × Bool) := if d.dkind = 0 then [(2, false)] else []
  match d.op with
  | 2 | 3 => (1, false) :: dest ++ (if d.func = 0 then [] else [(3, false)])
  | 4 => [(1, false), (2, false), (3, false), (5, d.func < 6), (6, d.func < 7)]
  | 5 => (1, false) :: dest ++ [(3, false)]
  | 6 => [(1, false), (2, false)]
  | 7 => (1, false) :: dest ++ [(3, false), (4, false), (5, false)]
  | 8 => (1, false) :: dest ++ [(3, false), (5, false), (6, true)]
  | 9 => (1, false) :: dest
  | 10 => (1, false) :: dest ++ [(3, false), (5, false)]
  | 11 => (1, false) :: dest ++ [(3, false)]
  | 12 => (1, false) :: dest ++ [(3, true)]
  | 13 => (1, false) :: dest ++ (3, false) :: (if d.func < 2 then [] else [(5, false), (6, false), (7, false)])
  | _ => (1, false) :: dest

/-- Whether a location word is ill-formed (R238). -/
def badLoc (w : Nat) (opt : Bool) : Bool :=
  bitsOf w 56 6 != 0 ||
    (match locKind w with
      | 0 => bitsOf w 28 28 != 0
      | 1 => bitsOf w 19 37 != 0
      | 2 => false
      | _ => !opt || locAddr w != 0)

/-- The bits of a plain word that the operation uses (R240); every other bit must be zero. -/
def Desc.plain (d : Desc) (i : Nat) : Nat :=
  match d.op, i with
  | 2, 4 | 3, 4 => if d.func = 0 then 2 ^ 32 - 1 else 0
  | 4, 4 => 0xFFFF0003
  | 6, 4 => 2 ^ 32 - 1
  | 6, 5 => 2 ^ 64 - 1
  | 6, 6 => 0x7FFFF + 2 ^ 32 * 0x7FFFF
  | 8, 4 => 0xFFFF
  | 9, 4 => 0x3F
  | 9, 5 => 2 ^ 32 - 1
  | 9, 6 => 2 ^ 64 - 1
  | 9, 7 => if d.func = 1 then 2 ^ 64 - 1 else 0
  | 10, 4 | 11, 4 => 0xFFFF
  | 13, 4 => 2 ^ 32 - 1
  | _, 2 => match d.dkind with | 1 => 0x3F | 2 => 0xFFF | _ => 0
  | _, _ => 0

/-- ROWLEN of an RMW (R240). -/
def Desc.rowLen (d : Desc) : Nat := if d.op = 4 then bitsOf d.w4 16 16 else bitsOf d.w4 0 16

/-- The padded plane of a STENCIL in bytes (R249). -/
def Desc.plane (d : Desc) : Nat :=
  64 * ceilDiv (ceilDiv (bitsOf d.w4 0 16 * bitsOf d.w4 16 16 * typeBits d.dtype) 8) 64

/-- The values that are out of range (R240, R249, R251). The plane of a type that no element has is PUMP_TYPE's (R239). -/
def Desc.badValue (d : Desc) : Bool :=
  match d.op with
  | 4 => !(bitsOf d.w4 0 2 == 1 || bitsOf d.w4 0 2 == 2) || d.rowLen == 0 || 4096 < d.rowLen
  | 6 =>
    let ring := bitsOf d.w6 0 19
    locKind d.w2 != 1 || bitsOf d.w4 0 16 == 0 || bitsOf d.w4 16 16 == 0 ||
      (ring != 0 && ((d.plane != 0 && ring % d.plane != 0) || ring ≤ bitsOf d.w6 32 19))
  | 8 => d.rowLen == 0 || 4096 < d.rowLen
  | 10 | 11 =>
    let b := bitsOf d.w4 0 16
    b == 0 || b % 64 != 0 || 32768 < b
  | 13 => d.count < bitsOf d.w4 0 32
  | _ => false

/-- Whether a descriptor breaks R10, R237, R238 or R240. -/
def Desc.badRange (d : Desc) : Bool :=
  d.resv || d.dkind == 3 ||
    ([1, 2, 3, 4, 5, 6, 7].any fun i =>
      match d.locs.find? (fun p => p.1 == i) with
      | some (_, opt) => badLoc (d.word i) opt
      | none => d.word i != d.word i &&& d.plain i) || d.badValue

/-- Whether the types are accepted (R239, R241). HIST takes an integer type under FUNC 0 and a float type under FUNC 1. -/
def Desc.badType (d : Desc) : Bool :=
  let e := d.etype
  let t := d.dtype
  let gs (c : Nat) : Bool := c ≤ 0x05 || (0x09 ≤ c && c ≤ 0x0C) || c = 0x0E || c = 0x0F || c = 0x16
  let num (c : Nat) : Bool := c ≤ 0x01 || c = 0x09 || c = 0x0A
  0x16 < e || 0x16 < t ||
    !(match d.op with
      | 2 | 3 => gs e && gs t && tyClass e == tyClass t
      | 6 => gs e && gs t && e != 0x16 && tyClass e == tyClass t
      | 4 => num e && t == e && (!(d.func = 3 || d.func = 4 || d.func = 5) || tyClass e == .int)
      | 5 => (e ≤ 0x03 && t ≤ 0x03) || ((e = 0x09 || e = 0x0A) && (t = 0x09 || t = 0x0A))
      | 7 => e ≤ 0x01 && t == e
      | 8 => 1 ≤ e && e ≤ 5 && 1 ≤ t && t ≤ 3
      | 9 => t == 0 && (if d.func = 0 then 0x09 ≤ e && e ≤ 0x0C else e ≤ 0x01)
      | 12 => e != 0x16 && t != 0x16 && (tyClass e == .complex) == (tyClass t == .complex) && !(isMx e && isMx t)
      | 13 => num e && t == e
      | _ => e == 0 && t == 0)

/-- Whether the destination kind is refused (R242), HIST's bins outside the scratchpad included (R240), for which the rule names no
status: it is DEST_KIND (DESIGN CHOICE, log entry 204). -/
def Desc.badDest (d : Desc) : Bool :=
  match d.dkind with
  | 1 => !(match d.op with
      | 1 => d.count == 64
      | 2 | 5 | 12 => d.count * typeBits d.dtype ≤ 512
      | 8 => d.count * d.rowLen * typeBits d.dtype ≤ 512
      | _ => false)
  | 2 => !(d.op == 1 && d.count % 24 == 0 && d.w2 * 24 + d.count ≤ 0x1000 * 24)
  | _ => d.op == 9 && locKind d.w2 != 1

/-- The arrays a descriptor names: location word, alignment, and the first and end byte relative to the address, as far as
the descriptor alone tells (R243, R244). -/
def Desc.arrays (d : Desc) : List (Nat × Nat × Int × Int) :=
  let eb := typeBytes d.etype
  let db := typeBytes d.dtype
  let ea := typeAlign d.etype
  let da := typeAlign d.dtype
  let n := d.count
  let flat (len : Nat) : Int × Int := (0, len)
  let dst (al len : Nat) : List (Nat × Nat × Int × Int) := if d.dkind = 0 then [(2, al, flat len)] else []
  let strided (i al sz : Nat) : Nat × Nat × Int × Int :=
    let span : Int := sextNat 32 d.w4 * ((n - 1 : Nat) : Int)
    (i, al, min 0 span, max 0 span + sz)
  let ix := if d.func = 1 then 4 else 8
  let index := if d.func = 0 then [] else [(3, ix, flat (n * ix))]
  let row := n * d.rowLen
  match d.op with
  | 1 => [(1, 64, flat n)] ++ dst 64 n
  | 2 => (if d.func = 0 then strided 1 ea eb else (1, ea, flat 0)) :: dst da (n * db) ++ index
  | 3 => (1, ea, flat (n * eb)) :: (if d.func = 0 then strided 2 da db else (2, da, flat 0)) :: index
  | 4 =>
    let iw := if bitsOf d.w4 0 2 = 1 then 4 else 8
    [(1, ea, flat (row * eb)), (2, ea, flat 0), (3, iw, flat (n * iw))] ++
      (if locKind d.w5 = 3 then [] else [(5, ea, flat (row * eb))]) ++
      (if locKind d.w6 = 3 then [] else [(6, ea, flat (row * eb))])
  | 5 => (1, ea, flat 0) :: dst da (n * db) ++ [(3, 4, flat (4 * n + 4))]
  | 6 =>
    let n0 : Int := (bitsOf d.w4 0 16 - 1 : Nat)
    let n1 : Int := (bitsOf d.w4 16 16 - 1 : Nat)
    let a := n1 * sextNat 32 d.w5
    let b := ((n - 1 : Nat) : Int) * sextNat 32 (d.w5 / 2 ^ 32)
    let ring := bitsOf d.w6 0 19
    let first := bitsOf d.w6 32 19
    let total := if ring = 0 then first + n * d.plane else min (first + n * d.plane) (first % max 1 d.plane + ring)
    [(1, ea, min 0 a + min 0 b, n0 * eb + max 0 a + max 0 b + eb), (2, 64, flat total)]
  | 7 => (1, ea, flat 0) :: dst ea (n * eb) ++ [(3, 4, flat (4 * n + 4)), (4, 4, flat 0), (5, ea, flat 0)]
  | 8 => (1, ea, flat 0) :: dst da (row * db) ++ [(3, 8, flat 0), (5, 4, flat (4 * n + 4))] ++
      (if locKind d.w6 = 3 then [] else [(6, 4, flat 0)])
  | 9 => [(1, ea, flat (n * eb)), (2, 4, flat (4 * bitsOf d.w5 0 32 + 8))]
  | 10 => (1, 64, flat (n * bitsOf d.w4 0 16)) :: dst 64 0 ++ [(3, 64, flat (ceilDiv n 8)), (5, 64, flat 4)]
  | 11 => (1, 64, flat 0) :: dst 64 (n * bitsOf d.w4 0 16) ++ [(3, 64, flat (ceilDiv n 8))]
  | 12 => (1, ea, flat (ceilDiv (n * typeBits d.etype) 8)) :: dst da (ceilDiv (n * typeBits d.dtype) 8) ++
      (if locKind d.w3 = 3 || !(isMx d.etype || isMx d.dtype) then [] else [(3, 1, flat (ceilDiv n 32))])
  | 13 =>
    let la := bitsOf d.w4 0 32
    [(1, ea, flat (la * eb)), (3, ea, flat ((n - la) * eb))] ++ dst ea (n * eb) ++
      (if d.func < 2 then [] else [(5, 8, flat (la * 8)), (6, 8, flat ((n - la) * 8)), (7, 8, flat (n * 8))])
  | _ => []

/-- Whether the descriptor breaks R243. -/
def Desc.badAlign (d : Desc) : Bool :=
  (d.arrays.any fun (i, al, _, _) => locAddr (d.word i) % al != 0) ||
    (match d.op with
      | 1 => d.dkind == 0 && d.count % 64 != 0
      | 2 => d.func == 0 && 1 < d.count && sextNat 32 d.w4 % (typeAlign d.etype : Int) != 0
      | 3 => d.func == 0 && 1 < d.count && sextNat 32 d.w4 % (typeAlign d.dtype : Int) != 0
      | 6 =>
        let e : Int := typeAlign d.etype
        sextNat 32 d.w5 % e != 0 || sextNat 32 (d.w5 / 2 ^ 32) % e != 0 || bitsOf d.w6 32 19 % 64 != 0
      | 12 => (isSub d.etype || isSub d.dtype) && d.count % 32 != 0
      | _ => false)

/-- The location word of the first array of a kind that leaves a store of `size` bytes (R244). -/
def Desc.leaver (d : Desc) (kind size : Nat) : Option Nat :=
  (d.arrays.find? fun (i, _, lo, hi) =>
    let a : Int := locAddr (d.word i)
    locKind (d.word i) == kind && (a + lo < 0 || (size : Int) < a + hi)).map fun (i, _) => d.word i

/-- Whether some array of a kind leaves a store of `size` bytes (R244). -/
def Desc.leaves (d : Desc) (kind size : Nat) : Bool := (d.leaver kind size).isSome

/-- The acceptance check of R244: the status a failing descriptor completes with. -/
def Desc.check (d : Desc) : Option Code :=
  if d.op = 0 ∨ 13 < d.op ∨ funcMax d.op < d.func then some 0x0601
  else if d.badRange then some 0x0005
  else if d.badType then some 0x0602
  else if d.badDest then some 0x0606
  else if d.badAlign then some 0x0308
  else if d.leaves 0 (2 ^ 28) then some 0x0604
  else if d.leaves 1 (2 ^ 19) then some 0x0605
  else none

/-- The failing address of a descriptor refused with a status (R398): the location word that is misaligned or leaves its store;
zero where the failure is of no address. -/
def Desc.failWord (d : Desc) (c : Code) : Nat :=
  if c = 0x0308 then ((d.arrays.find? fun (i, al, _, _) => locAddr (d.word i) % al != 0).map fun (i, _) => d.word i).getD 0
  else if c = 0x0604 then (d.leaver 0 (2 ^ 28)).getD 0
  else if c = 0x0605 then (d.leaver 1 (2 ^ 19)).getD 0
  else 0

end Sys2Proof.Machine
end

