-- ==== Sys2Proof/Machine/Packets.lean ====
section
/-! DEFINITION. Machine/Packets.lean: where tiles, vertical ports and agents stand in the mesh, the routes, and packets that enter it (R35 to
R38, R326 to R328, R352 to R367, R674). -/

namespace Sys2Proof.Machine

open Sys2Proof

/-! ### Places (R12, R674) -/

/-- The key of a tile's row half: 2 × row + half. -/
def rowHalf (t : Nat) : Nat := 2 * rowOf t + (if colOf t < 64 then 0 else 1)

/-- The places of a row half from the seam outward: 65 down to 0 in the West, 66 up to 131 in the East (R12, R674). -/
def rowPlaces (west : Bool) : List Nat :=
  if west then (List.range 66).reverse else (List.range 66).map (66 + ·)

/-- The good places of a row half, from the seam outward (R674). -/
def goodPlaces (key : Nat) (bad : List Nat) : List Nat := (rowPlaces (key % 2 == 0)).filter fun p => !bad.contains p

/-- How many logical tiles of its row half lie between a tile and the seam (R674). -/
def seamRank (t : Nat) : Nat := if colOf t < 64 then 63 - colOf t else colOf t - 64

/-- The well and the shaft beneath a tile (R14, R219). -/
def wellOf (t : Nat) : Nat := (if colOf t < 64 then 0 else 8) + colOf t % 64 / 16 + 4 * (rowOf t / 32)

/-- The physical column of a logical tile under the repair in force (R674); none when it is unplaced. -/
def Repair.placeOf (r : Repair) (t : Nat) : Option Nat :=
  (goodPlaces (rowHalf t) (kget [] r.applied (rowHalf t)))[seamRank t]?

/-! ### Routes (R362, R363) -/

/-- Whether a column is clear of dead routers between two rows. -/
def Repair.clear (r : Repair) (q a b : Nat) : Bool := !r.dead.any fun (p, y) => p == q && min a b ≤ y && y ≤ max a b

/-- The turn column of a route (R362): the destination's column if it is clear between the two rows, else the nearest within two
positions, the western one of two equally near. -/
def Repair.turnColumn (r : Repair) (a b : Nat) : Option Nat :=
  let p := b % 132
  ((if r.clear p (a / 132) (b / 132) then [p] else []) ++
    ([(1, false), (1, true), (2, false), (2, true)].filterMap fun (n, east) =>
      if east then (if p + n < 132 ∧ r.clear (p + n) (a / 132) (b / 132) then some (p + n) else none)
      else (if n ≤ p ∧ r.clear (p - n) (a / 132) (b / 132) then some (p - n) else none))).head?

/-- The position of a vertical port (R35). -/
def portPlace (floor k : Nat) : Nat × Nat :=
  (16 * (floor % 4) + (if floor < 8 then 2 else 66) + 2 + 4 * (k % 4), 32 * (floor / 4 % 2) + 3 + 8 * (k / 4))

/-! ### Ends (R37, R38, R275, R352, R367) -/

/-- The router at a position and row. -/
def routerAt (p y : Nat) : Nat := 132 * y + p

/-- The vertical port of a floor that a request to a line address takes (R37): the one numbered by bits [9:6], or the next enabled one in
ascending order modulo 16; the response returns through it. -/
def State.vport (s : State) (floor a : Nat) : Option Nat :=
  ((List.range 16).map fun i => (a / 64 + i) % 16).find? fun k => !(kget 0 s.repair.vportOff floor).testBit k

/-- The mesh end of a vertical port (R35). -/
def portEnd (floor k : Nat) : MeshEnd := { router := routerAt (portPlace floor k).1 (portPlace floor k).2, port := 7 }

/-- The mesh end through which a line address enters a floor (R37). -/
def State.floorEnd (s : State) (floor a : Nat) : Option MeshEnd := (s.vport floor a).map (portEnd floor)

/-- The mesh end of a tile: port L of the router at its position. -/
def State.tileEnd (s : State) (t : Nat) : Option MeshEnd :=
  (s.repair.placeOf t).map fun p => { router := routerAt p (rowOf t), port := 6 }

/-- Hops between two positions. -/
def meshHops (a b : Nat) : Nat := ((a % 132 : Int) - b % 132).natAbs + ((a / 132 : Int) - b / 132).natAbs

/-- The enabled vertical port of a tile's floor that lies nearest to it, by which its pump reaches a remapped shaft (R275); of two that
are equally near the lower-numbered (DESIGN CHOICE, log entry 182). -/
def State.nearestPort (s : State) (t : Nat) : Option MeshEnd :=
  match s.tileEnd t with
  | none => none
  | some e =>
    let open_ := (List.range 16).filter fun k => !(kget 0 s.repair.vportOff (wellOf t)).testBit k
    let best := open_.foldl (fun (b : Option Nat) k => match b with
      | none => some k
      | some j => if meshHops e.router (portEnd (wellOf t) k).router < meshHops e.router (portEnd (wellOf t) j).router then some k
        else some j) none
    best.map (portEnd (wellOf t))

/-- The mesh port of a Sett core (R352). -/
def coreEnd (core : Nat) : MeshEnd := { router := routerAt ([62, 64, 67, 69].getD core 62) 63, port := 8 }

/-- The host interface's end, on floor W0: messages with no line address take the port that address 0 takes (DESIGN CHOICE, log
entry 182). -/
def State.hostEnd (s : State) : Option MeshEnd := s.floorEnd 0 0

/-- The Sett core that sends and takes the Sett's messages: the first of the primary half (DESIGN CHOICE, log entry 182). -/
def State.settCore (s : State) : Nat := if s.chip.primary = 0 then 0 else 2

/-- The end of that core. -/
def State.settEnd (s : State) : Option MeshEnd := some (coreEnd s.settCore)

/-- The end of an agent that holds an extent cache (R325, R328). -/
def State.agentEnd (s : State) : Agent → Option MeshEnd
  | .pump t => s.tileEnd t.val
  | .engine l => s.floorEnd (l.val / 2) 0
  | .hostIf => s.hostEnd
  | .sett => s.settEnd

/-- Whether an agent stands in the East half (R326). -/
def State.agentEast (s : State) : Agent → Bool
  | .pump t => 64 ≤ colOf t.val
  | .engine l => 16 ≤ l.val
  | .hostIf => false
  | .sett => 2 ≤ s.settCore

/-- The copy of the extent directory that serves an agent for a slot (R326): on floor W(s mod 8) for the West half, on W(8 + s mod 8) for
the East half. The port is that of the address (R327), or of address 0 for a message without one (DESIGN CHOICE, log entry 182). -/
def State.dirEnd (s : State) (slot : Nat) (who : Agent) (va : Nat) : Option MeshEnd :=
  s.floorEnd (slot % 8 + (if s.agentEast who then 8 else 0)) va

/-- The port by which a line address of the reservoir enters the floor of its cistern (R37). -/
def State.cisternPort (s : State) (a : Nat) : Option MeshEnd := s.floorEnd (a / 2 ^ 37 % 32 / 2) a

/-- The VC0 limit of an agent (R367): one flit per so many cycles, and the burst. Agents are numbered 0 a tile, 1 the host interface,
2 + core a Sett core, 6 and 7 the directory's copies, 16 + link a link engine, 48 + n a well controller, 64 + n a cistern controller. -/
def vc0Limit (agent : Nat) : Nat × Nat := if agent = 0 then (0, 0) else if agent < 16 then (16, 4) else (32, 2)

/-- The number of an agent for its VC0 limit. -/
def agentCode : Agent → Nat
  | .pump _ => 0
  | .hostIf => 1
  | .sett => 2
  | .engine l => 16 + l.val

/-! ### Routes (R361 to R363) -/

/-- A step along a row towards a position (R355, R362): to the next router, or over a skip link past a dead one. -/
def Repair.rowStep (r : Repair) (here p : Nat) : Nat :=
  if here % 132 < p then (if r.dead.contains (here % 132 + 1, here / 132) then 4 else 1)
  else (if r.dead.contains (here % 132 - 1, here / 132) then 5 else 3)

/-- The output of a router that a flit takes, and whether it then is in buffer class B (R361): leg 1 along the source row and leg 2 along
the turn column in class A, leg 3 along the destination row in class B. -/
def Repair.route (r : Repair) (f : Flit) (here : Nat) : Nat × Bool :=
  let y := f.dst.router / 132
  if here / 132 ≠ y then
    if here % 132 ≠ f.turn then (r.rowStep here f.turn, false)
    else (if here / 132 < y then 2 else 0, false)
  else if here = f.dst.router then (f.dst.port, f.classB)
  else (r.rowStep here (f.dst.router % 132), f.src.router / 132 != y)

/-- The router beyond an output, and the input port it is reached by. -/
def beyond (here out : Nat) : Nat × Nat :=
  match out with
  | 0 => (here - 132, 2)
  | 1 => (here + 1, 3)
  | 2 => (here + 132, 0)
  | 3 => (here - 1, 1)
  | 4 => (here + 2, 5)
  | _ => (here - 2, 4)

/-- Whether a hop along a row crosses the seam, between positions 65 and 66 (R12). -/
def seamHop (a b : Nat) : Bool := (a % 132 < 66) != (b % 132 < 66)

/-- The key of a mesh crossing of the seam (R209): of a row, by direction. -/
def crossKey (row : Nat) (eastward : Bool) : Nat := 4 * row + 2 + (if eastward then 0 else 1)

/-- The turn column of a packet (R362). Where the source row's mesh crossing is out of service and the destination row's is not, the
packet crosses the seam in the destination row, with its source's column for its turn (R209; DESIGN CHOICE, log entry 190). -/
def Repair.turnFor (r : Repair) (off : List Nat) (a b : Nat) : Option Nat :=
  let east := decide (a % 132 < b % 132)
  if seamHop a b && off.contains (crossKey (a / 132) east) && !off.contains (crossKey (b / 132) east) &&
      r.clear (a % 132) (a / 132) (b / 132) then some (a % 132)
  else r.turnColumn a b

/-- Whether a flit turns at a router (R365). -/
def Flit.turns (f : Flit) (here : Nat) : Bool :=
  here % 132 == f.turn && ((here / 132 == f.src.router / 132 && here != f.src.router && f.dst.router / 132 != here / 132) ||
    (here / 132 == f.dst.router / 132 && f.src.router / 132 != here / 132 && here != f.dst.router))

/-! ### Packets (R353, R354, R359) -/

/-- The kind of packet that asks for a line, and of the one that answers it. -/
def lineAsk : LineKind → PacketKind
  | .read => .readReq | .write => .writeReq | .rmw => .rmwReq
/-- The kind of packet that answers a request for a line. -/
def lineAnswer : LineKind → PacketKind
  | .write => .writeAck | _ => .readData

/-- The 64 bytes of payload of a packet's flit `i` (R353, R354): where a packet has one flit more than its lines of data, the first
carries none. -/
def flitData (kind : PacketKind) (lines i : Nat) (data : List Byte) : List Byte :=
  let i := if kind.flits lines = lines + 1 then i else i + 1
  if i = 0 then [] else (data.drop (64 * (i - 1))).take 64

/-- A packet (R354) enters the mesh at its source, where it waits for the synchroniser into MCLK (R365). None where no route exists
(R363). -/
def Mesh.post (r : Repair) (off : List Nat) (m : Mesh) (agent : Nat) (kind : PacketKind) (src dst : MeshEnd) (slot tag lines : Nat)
    (data : List Byte) : Option Mesh :=
  (r.turnFor off src.router dst.router).map fun turn =>
    let vc := kind.vc
    let flits := kind.flits lines
    let one (i : Nat) : Waiting :=
      { ready := m.clock + (if vc = 0 then 4 else 6), agent := agent,
        flit := { dst := dst, src := src, vc := vc, kind := kind, tag := tag, slot := slot, flits := flits,
                  payload := flitData kind lines i data, turn := turn, last := i + 1 == flits } }
    { m with queues := kmod [] m.queues ((9 * src.router + src.port) * 4 + vc) (· ++ (List.range flits).map one) }

/-- The floor beneath a vertical port's router (R35). -/
def portFloor (router : Nat) : Nat :=
  let p := router % 132
  (if 66 ≤ p then 8 + (p - 66) / 16 else (p - 2) / 16) + 4 * (router / 132 / 32)

/-- Whether what passes between two ends uses the mesh: not within one floor, nor from a tile to its own shaft. -/
def MeshEnd.apart (a b : MeshEnd) : Bool := a != b && !(a.port == 7 && b.port == 7 && portFloor a.router == portFloor b.router)

/-- A packet between two ends, where both exist, the mesh lies between them, and a route joins them. -/
def State.post (s : State) (agent : Nat) (kind : PacketKind) (src dst : Option MeshEnd) (slot tag : Nat) (lines : Nat := 1)
    (data : List Byte := []) : Option Mesh :=
  match src, dst with
  | some a, some b => if a.apart b then s.mesh.post s.repair s.seam.off agent kind a b slot tag lines data else none
  | _, _ => none

/-- A packet whose arrival has a command of its own: where no route exists nothing is sent. -/
def State.say (s : State) (agent : Nat) (kind : PacketKind) (src dst : Option MeshEnd) (slot tag : Nat) (lines : Nat := 1)
    (data : List Byte := []) : State :=
  { s with mesh := (s.post agent kind src dst slot tag lines data).getD s.mesh }

/-- A fill request of an agent for an address, or its answer (R326, R327). -/
def State.sayFill (s : State) (slot : Nat) (who : Agent) (tag va : Nat) (ask : Bool) : State :=
  if ask then s.say 0 .fillReq (s.agentEnd who) (s.dirEnd slot who va) slot tag
  else s.say 0 .fillAnswer (s.dirEnd slot who va) (s.agentEnd who) slot tag

/-- The last lines of a transfer on VC3, up to the four of a packet, which stand for those before them (DESIGN CHOICE, log entry 191). -/
def State.haul (s : State) (kind : PacketKind) (src dst : Option MeshEnd) (slot lines : Nat) : State :=
  if lines = 0 then s else s.say 0 kind src dst slot 0 (min 4 lines)

/-- A request of an engine to a controller, and the answer (R357, R359). -/
def State.askEnd (s : State) (k : LineKind) (src dst : Option MeshEnd) (slot : Nat) : State :=
  (s.say 0 (lineAsk k) src dst slot 0).say 0 (lineAnswer k) dst src slot 0

/-- An occurrence of a source that a well controller, a cistern controller or a link engine signals: its message travels to the interrupt
controller on floor W0 (R357, R367). -/
def State.raiseAt (s : State) (agent floor n : Nat) : State := (s.say agent .interrupt (s.floorEnd floor 0) s.hostEnd 0 n).raise n

end Sys2Proof.Machine
end

