-- ==== Sys2Proof/Machine/Memory.lean ====
section
/-! DEFINITION. Machine/Memory.lean: one access to a well line (R218 to R226, R261) and to a reservoir line (R282 to R309),
the shared operations of every agent that reads or writes memory. -/

namespace Sys2Proof.Machine

open Sys2Proof

/-! ### RMW on one element (R246) -/

/-- The float format of the float types an RMW takes (R241). -/
def rmwFloat (ety : Nat) : Option FloatFmt := if ety = 0 then some fp64 else if ety = 1 then some fp32 else none

/-- FUNC of an RMW on one element (R240, R246): old value, operand, compare value. MIN and MAX follow R179, ADD rounds to
nearest even. -/
def rmwElem (func ety old x cmp : Nat) : Nat :=
  let w := typeBits ety
  match func with
  | 0 => (match rmwFloat ety with
    | some t => (t.op2 (Rnd.ofField 0) (fAdd (Rnd.ofField 0)) old x).1
    | none => (old + x) % 2 ^ w)
  | 1 | 2 => (match rmwFloat ety with
    | some t => (t.minMax (func == 2) old x).1
    | none => if (func == 2) == decide (sextNat w old < sextNat w x) then x else old)
  | 3 => Nat.land old x
  | 4 => Nat.lor old x
  | 5 => Nat.xor old x
  | 6 => x
  | _ => if old = cmp then x else old

/-- Cut bytes into elements. -/
def elemsAt (w : Nat) (bs : List Byte) : List Nat := (List.range (bs.length / w)).map fun i => natAt bs (w * i) w

/-- FUNC on the elements of a line's bytes (R246). -/
def rmwBytes (func ety : Nat) (old x cmp : List Byte) : List Byte :=
  let w := typeBytes ety
  ((elemsAt w old).zip ((elemsAt w x).zip (List.range old.length))).flatMap fun (o, v, i) =>
    toLE w (rmwElem func ety o v (natAt cmp (w * i) w))

/-- The line after an access, from the line before it; none for a read. -/
def accessLine (k : Access) (old : List Byte) : Option (List Byte) :=
  let put (off : Nat) (bs : List Byte) : List Byte := old.take off ++ bs ++ old.drop (off + bs.length)
  match k with
  | .read => none
  | .write off bs => some (put off bs)
  | .rmw func ety off x cmp => some (put off (rmwBytes func ety (bytesAt old off x.length) x cmp))
  | .masked func ety mask x cmp =>
    some ((old.zip (rmwBytes func ety old x cmp)).zipIdx.map fun ((o, n), i) => if mask.testBit i then n else o)

/-- A write of a whole line, which needs no read (R225, R304). -/
def accessFull : Access → Bool
  | .write off bs => off == 0 && bs.length == 64
  | _ => false

/-- What an access answers with (R225, R246): the line, nothing, the old values. -/
def accessAnswer (k : Access) (old : List Byte) : List Byte :=
  match k with
  | .read => old
  | .write _ _ => []
  | .rmw _ _ off x _ => bytesAt old off x.length
  | .masked _ _ _ _ _ => old

/-- Whether the bytes of an access lie inside its line. -/
def accessFits (k : Access) : Bool :=
  match k with
  | .read => true
  | .write off bs => off + bs.length ≤ 64
  | .rmw _ _ off x _ => off + x.length ≤ 64
  | .masked _ _ _ x _ => x.length == 64

/-- The canonical form of a memory: addresses strictly rising, and no entry equal to what an unlisted address reads as (log entry 5). -/
def Memory.wf (m : KMap Byte) : Bool := kcanon 0 m

/-- The bytes of a store at an address. -/
def memRead (m : KMap Byte) (a n : Nat) : List Byte := (List.range n).map fun i => kget 0 m (a + i)

/-- Write bytes into a store. -/
def memWrite (m : KMap Byte) (a : Nat) : List Byte → KMap Byte
  | [] => m
  | b :: bs => memWrite (kput 0 m a b) (a + 1) bs

/-- Drop the keys of a range from a store. -/
def kclear {α : Type} (m : KMap α) (a n : Nat) : KMap α := m.filter fun (k, _) => k < a || a + n ≤ k

/-! ### Wells -/

/-- A well. -/
def State.well (s : State) (n : Nat) : Well := kget {} s.wells n
/-- Set a well. -/
def State.setWell (s : State) (n : Nat) (x : Well) : State := { s with wells := kput {} s.wells n x }

/-- The shaft beneath a tile in its well (R219). -/
def shaftOf (t : Nat) : Nat := 16 * (rowOf t % 32) + colOf t % 16
/-- The tile above a shaft. -/
def tileOver (w sh : Nat) : Nat :=
  tileAt ((if w < 8 then 0 else 64) + 16 * (w % 4) + sh % 16) (32 * (w % 8 / 4) + sh / 16)
/-- The mesh end at which a well address is reached (R235, R275): the tile over its shaft, whose pump serves it, or the nearest port where
a spare serves the shaft or its copy runs. -/
def State.wellEnd (s : State) (a : Nat) : Option MeshEnd :=
  let x := s.well (a / 2 ^ 37)
  let sh := a / 2 ^ 28 % 512
  let t := tileOver (a / 2 ^ 37) sh
  if (x.copying.any fun c => c.shaft == sh) || x.spares.any (·.2 == sh) then s.nearestPort t else s.tileEnd t

/-- The physical well address of an offset of a tile's own shaft (R219). -/
def ownAddr (t off : Nat) : Nat := 2 ^ 37 * wellOf t + 2 ^ 28 * shaftOf t + off % 2 ^ 28

/-- The tile at the same local place of another rectangle (R413, R420). -/
def Rect.moved (a b : Rect) (t : Nat) : Nat := tileAt (colOf t - 4 * a.bc + 4 * b.bc) (rowOf t - 4 * a.br + 4 * b.br)

/-- Where a well byte lies after a move (R419): an own shaft goes with its tile. -/
def movedAddr (a b : Rect) (p : Nat) : Nat :=
  let t := tileOver (p / 2 ^ 37) (p / 2 ^ 28 % 512)
  if a.has t then ownAddr (a.moved b t) 0 + p % 2 ^ 28 else p

/-- The bank of a well line: shaft, layer group and bank (R220). -/
def bankKey (line : Nat) : Nat := line / 2 ^ 22 * 64 + line / 2 ^ 20 % 4 * 16 + line % 16
/-- The row of a well line (R220). -/
def rowKey (line : Nat) : Nat := 2048 * bankKey line + line / 2 ^ 9 % 2 ^ 11

/-- The dens that hold a byte of a shaft: as an own shaft, or in a holding (R276, R385). -/
def State.holders (s : State) (w sh : Nat) : List Nat :=
  let lo := 2 ^ 37 * w + 2 ^ 28 * sh
  (kkeys s.dens).filter fun n =>
    let d := s.den n
    d.phase != .free && (d.rect.has (tileOver w sh) || (match d.moving with | some m => m.dest.has (tileOver w sh) | none => false) ||
      d.holdings.any fun h => h.kind == 1 && h.start < lo + 2 ^ 28 && lo < h.start + h.len)

/-- Fault every den of a list with a code (R276, R305). -/
def State.faultAll (s : State) (c : Code) (ds : List Nat) : State := ds.foldl (fun s n => s.denFault n c) s

/-- The floor wants a shaft remapped (R274), unless it is being copied, lost or wanted already. A shaft that a spare holds can need
another one. -/
def Well.want (w : Well) (sh : Nat) : Well :=
  if w.wanted.contains sh || w.lost.contains sh || (match w.copying with | some c => c.shaft == sh | none => false)
  then w else { w with wanted := w.wanted ++ [sh] }

/-- A read of a line that finds `b` bad symbols in all (R224, R225, R273, R274): the code and the well after it, with the
counters and the source. `owner` says whether a requester waits, which makes no difference to the well. -/
def State.lineRead (s : State) (n line b : Nat) : Code × State :=
  let w := s.well n
  if b = 0 then (kOk, s)
  else if b = 1 then
    let seen := kget [] w.corrected (rowKey line)
    let w := { w with bad := kput 0 w.bad line 0,
                      corrected := kput [] w.corrected (rowKey line) (if seen.contains line then seen else line :: seen) }
    (kOk, (s.setWell n w).bump (0x300 + n) 3)
  else
    let sh := line / 2 ^ 22
    let seen := kget [] w.failed sh
    let seen := if seen.contains line then seen else line :: seen
    let w := { w with bad := kput 0 w.bad line b, failed := kput [] w.failed sh seen }
    let w := if 16 ≤ seen.length then w.want sh else w
    (kWellUncorr, (((s.setWell n w).bump (0x300 + n) 4).setReg (0x300 + n) 5 (2 ^ 37 * n + 64 * line)).raiseAt (48 + n) n (1538 + n))

/-- One access to a well line at a 41-bit physical address (R219, R224 to R226, R229, R261, R277): `bad` symbols are newly
bad. A well that is not in service answers WELL_FENCED (for one that is not trained: DEDUCED, log entry 25). -/
def State.wellAccess (s : State) (a : Nat) (k : Access) (bad : Nat) : Code × List Byte × State :=
  let n := a / 2 ^ 37 % 16
  let line := a % 2 ^ 37 / 64
  let w := s.well n
  if s.reg (0x300 + n) 0 ≠ 1 then (kWellFenced, [], s)
  else if w.lost.contains (line / 2 ^ 22) then (kShaftLost, [], s)
  else
    let old := memRead w.data (64 * line) 64
    let (c, s) := if accessFull k then (kOk, s.setWell n { w with bad := kput 0 w.bad line 0 })
      else s.lineRead n line (kget 0 w.bad line + bad)
    if c ≠ kOk then (c, [], s)
    else match accessLine k old with
      | none => (kOk, accessAnswer k old, s)
      | some l =>
        let w := s.well n
        (kOk, accessAnswer k old, s.setWell n { w with data := memWrite w.data (64 * line) l })

end Sys2Proof.Machine
end

