-- ==== Sys2Proof/Machine/Cipher.lean ====
section
/-! DEFINITION. Machine/Cipher.lean: what stands in a cistern's memory (R287 to R295): ciphertext, MACs, counter blocks, tree nodes and
root entries, as functions of the contents, the counters and the key slots. A counter input is the 16 bytes of its number, the least
first (DEDUCED from R8, log entry 127). -/

namespace Sys2Proof.Config

/-- R289 has GHASH cover LINE, MAJOR and MINOR, and does not say in which bits of a block they stand: that block. -/
opaque macBlock : Nat → Nat → Nat → BitVec 128

/-- R295 has the CMAC cover the child's level and its address, and does not say in which bits of a block they stand: that block. -/
opaque treeBlock : Nat → Nat → BitVec 128

end Sys2Proof.Config

namespace Sys2Proof.Machine

open Sys2Proof

/-- Data bytes of a cistern (R282). -/
def cisBytes : Nat := 0x1C00000000

/-- The live slot of a cistern that takes no part in a roll (R297). -/
def Cistern.live (c : Cistern) : Bool := c.key0.isNone

/-- The slot that holds a page's ciphertext (R297). -/
def Cistern.slotOf (c : Cistern) (page : Nat) : Bool :=
  let g := page / 2 ^ 18
  let e := kget false c.ebit g
  match c.new with
  | some n =>
    if !c.swept && c.sweepRegion == g && page % 2 ^ 18 < c.sweepPage then n
    else if kget false c.moved page then !e else e
  | none => if kget false c.moved page then !e else e

/-- The key in a slot; that of an empty slot is no key of the reservoir, and nothing is read under it (R303). -/
def Cistern.keyIn (c : Cistern) (slot : Bool) : BitVec 256 := ((if slot then c.key1 else c.key0)).getD 0

/-- The counter input (R288): block, line (physical reservoir address bits [41:6]), minor and major counter, domain. -/
def counterInput (blk line minor major domain : Nat) : BitVec 128 :=
  BitVec.ofNat 128 (blk % 2 ^ 2 + 2 ^ 2 * (line % 2 ^ 36) + 2 ^ 38 * (minor % 2 ^ 7) + 2 ^ 45 * (major % 2 ^ 40) + 2 ^ 85 * (domain % 2 ^ 3))

/-- LINE of a line of cistern `n` (R283, R288). -/
def lineOf (n line : Nat) : Nat := 2 ^ 31 * n + line

/-- The bytes of a key. -/
def keyBytes (k : BitVec 256) : List Byte := toLE 32 k.toNat

/-- AES-256 of a counter input (R288). -/
def aesCounter (k : BitVec 256) (x : BitVec 128) : List Byte := aesBlock (keyBytes k) (toLE 16 x.toNat)

/-- The keystream of a line (R288): four blocks in DOMAIN 0. -/
def Cistern.keystream (c : Cistern) (n line : Nat) : List Byte :=
  (List.range 4).flatMap fun b =>
    aesCounter (c.keyIn (c.slotOf (line / 64))) (counterInput b (lineOf n line) (kget 0 c.minor line) (kget 0 c.major (line / 64)) 0)

/-- The ciphertext of a line (R288): its contents XOR the keystream. A zero line has none (R290). -/
def Cistern.cipherLine (c : Cistern) (n line : Nat) : List Byte :=
  List.zipWith (fun a b => a ^^^ b) (memRead c.data (64 * line) 64) (c.keystream n line)

/-- The MAC that a line carries (R289). -/
def Cistern.mac (c : Cistern) (n line : Nat) : BitVec 56 :=
  let key := c.keyIn (c.slotOf (line / 64))
  let minor := kget 0 c.minor line
  let major := kget 0 c.major (line / 64)
  let hash := ghash (keyBytes key) (chunks 16 4 (c.cipherLine n line) ++ [toLE 16 (Config.macBlock (lineOf n line) major minor).toNat])
  BitVec.ofNat 56 (leNat (toBE 16 hash) ^^^ leNat (aesCounter key (counterInput 0 (lineOf n line) minor major 1)))

/-- The counter block of a page (R291). -/
def CisTree.counterBlock (c : CisTree) (page : Nat) : BitVec 512 :=
  BitVec.ofNat 512 (kget 0 c.major page % 2 ^ 40 +
    ((List.range 64).foldl (fun v i => v + 2 ^ (40 + 7 * i) * (kget 0 c.minor (64 * page + i) % 2 ^ 7)) 0) +
    (if kget false c.moved page then 2 ^ 488 else 0))

/-- How many items a level of the tree has (R294); level 0 is the counter blocks. -/
def treeItems (level : Nat) : Nat := ceilDiv (cisBytes / 4096) (8 ^ level)

/-- The key of the tree: that of the live slot; in a roll, which the spec leaves open, the new one once the cistern has swept
(DESIGN CHOICE, log entry 181). -/
def Cistern.treeKey (c : Cistern) : BitVec 256 :=
  match c.new with
  | some n => c.keyIn (if c.swept then n else !n)
  | none => c.keyIn c.live

/-- The tree of a cistern as its counters and its key give it. -/
def Cistern.tree (c : Cistern) : CisTree := { key := c.treeKey, major := c.major, minor := c.minor, moved := c.moved }

/-- The digest of a tree item (R295): of a counter block (level 0) or of a node. The rule gives no address of an item: in the counter input LINE
is the first line of data that it covers, MINOR and MAJOR are zero, and its address in the message is its index in its level (DESIGN CHOICE,
log entry 207). -/
def CisTree.digest (c : CisTree) (n level ix : Nat) (child : BitVec 512) : BitVec 56 :=
  let first := counterInput 0 (lineOf n (64 * 8 ^ level * ix)) 0 0 2
  BitVec.ofNat 56 (leNat (cmac (keyBytes c.key)
    (toLE 16 first.toNat :: chunks 16 4 (toLE 64 child.toNat) ++ [toLE 16 (Config.treeBlock level ix).toNat])))

/-- The 64 bytes of an item of the tree (R291, R294): a counter block, or a node with the digests of its children in
[56j + 55 : 56j]. A child beyond the cistern's data does not exist and its field is zero. -/
def CisTree.treeLine (c : CisTree) (n : Nat) : Nat → Nat → BitVec 512
  | 0, ix => c.counterBlock ix
  | level + 1, ix =>
    BitVec.ofNat 512 ((List.range 8).foldl (fun v j =>
      if 8 * ix + j < treeItems level then
        v + 2 ^ (56 * j) * (c.digest n level (8 * ix + j) (CisTree.treeLine c n level (8 * ix + j))).toNat
      else v) 0)

/-- The key of a tree item: its level and its index there. -/
def itemKey (level ix : Nat) : Nat := 2 ^ 40 * level + ix

/-- The digest that the parent of an item holds of it in cistern `n` (R294, R296): that of its last write-back. -/
def Cistern.digestOf (c : Cistern) (n level ix : Nat) : BitVec 56 :=
  (kget none c.digests (itemKey level ix)).getD (c.base.digest n level ix (c.base.treeLine n level ix))

/-- The 64 bytes of an item as it stands now (R291, R294): a counter block, or a node with the digests of its children. -/
def Cistern.itemLine (c : Cistern) (n : Nat) : Nat → Nat → BitVec 512
  | 0, ix => c.tree.counterBlock ix
  | level + 1, ix =>
    BitVec.ofNat 512 ((List.range 8).foldl (fun v j =>
      if 8 * ix + j < treeItems level then v + 2 ^ (56 * j) * (c.digestOf n level (8 * ix + j)).toNat else v) 0)

/-- An item is written back (R296): the digest that its parent holds, or of the level-9 node the root entry in both copies, is that of
its present 64 bytes. -/
def Cistern.writeBack (c : Cistern) (n level ix : Nat) : Cistern :=
  let d := some (c.tree.digest n level ix (c.itemLine n level ix))
  let c := { c with digests := kput none c.digests (itemKey level ix) d }
  if level = 9 then { c with rootA := some d, rootB := some d } else c

/-- The whole tree is written (R293, R307; DESIGN CHOICE at the end of a sweep and of a rebuild, log entry 181): no item is dirty, and
both copies of the root entry are its digest. -/
def Cistern.writeTree (c : Cistern) : Cistern :=
  { c with base := c.tree, digests := [], cache := c.cache.map fun i => { i with dirty := false }, rootA := some none, rootB := some none }

/-- The cistern's entry of the root (R295) in cistern `n`: the digest of its level-9 node. -/
def Cistern.rootEntry (c : Cistern) (n : Nat) : Option (BitVec 56) :=
  (c.rootA.orElse fun _ => c.rootB).map fun d => d.getD (c.base.digest n 9 0 (c.base.treeLine n 9 0))

end Sys2Proof.Machine
end

