-- ==== Sys2Proof/Machine/CisternOps.lean ====
section
/-! DEFINITION. Machine/CisternOps.lean: one access to a reservoir line (R282 to R309, R737), the shared operation of every agent that
reads or writes the reservoir. -/

namespace Sys2Proof.Machine

open Sys2Proof

/-- A cistern. -/
def State.cis (s : State) (n : Nat) : Cistern := kget {} s.cisterns n
/-- Set a cistern. -/
def State.setCis (s : State) (n : Nat) (x : Cistern) : State := { s with cisterns := kput {} s.cisterns n x }

/-- The bytes that a read of a reservoir line gives (R290): a zero line's are zeros. -/
def Cistern.lineBytes (x : Cistern) (line : Nat) : List Byte :=
  if kget 0 x.minor line = 0 then List.replicate 64 0 else memRead x.data (64 * line) 64

/-- The lines of a page whose minor counter is not 0 (R290). -/
def Cistern.liveLines (c : Cistern) (page : Nat) : List Nat :=
  ((List.range 64).map (64 * page + ·)).filter fun l => kget 0 c.minor l != 0

/-- The range that an item of the tree at a level covers (R294), cut off at the end of the data. -/
def coverage (level off : Nat) : CRange :=
  let n := 4096 * 8 ^ level
  let a := off / n * n
  { start := a, len := min n (cisBytes - a) }

/-- Whether two ranges overlap. -/
def overlaps (a n b m : Nat) : Bool := a < b + m && b < a + n

/-- The dens whose extents, or whose save area, overlap a range of a cistern (R305). -/
def State.reservoirUsers (s : State) (c : Nat) (r : CRange) : List Nat :=
  let a := 2 ^ 37 * c + r.start
  (kkeys s.dens).filter fun n =>
    let d := s.den n
    d.phase != .free && ((d.extents.any fun e => e.kind == 2 && overlaps e.tbase e.len a r.len) ||
      ((d.saveArea.headD 0).toNat == 2 && (d.saveArea.drop 16).any fun i =>
        match d.holdings[i.toNat]? with
        | some h => h.kind == 2 && overlaps h.start h.len a r.len
        | none => false))

/-- Every den that uses a range faults, whatever its state but FREE (R305). -/
def State.faultUsers (s : State) (c : Nat) (r : CRange) : State :=
  (s.reservoirUsers c r).foldl (fun s n => s.faultAny n kResUnverifiable true) s

/-- The cistern's fences exceed their list, or its root is lost (R306): it is wholly fenced. -/
def State.fenceCistern (s : State) (c : Nat) : State :=
  let s := (s.setReg (0x320 + c) 0 3).raiseAt (64 + c) (c / 2) (1554 + c)
  s.faultUsers c { start := 0, len := cisBytes }

/-- A range becomes fenced (R305, R306). -/
def State.fenceRange (s : State) (c : Nat) (r : CRange) : State :=
  let x := s.cis c
  if 64 ≤ (x.fenced ++ x.rebuilding).length then s.fenceCistern c
  else
    let s := (s.setCis c { x with fenced := x.fenced ++ [r] }).raiseAt (64 + c) (c / 2) (1554 + c)
    s.faultUsers c r

/-- A key epoch roll starts (R298, R316), unless one runs (R302). -/
def State.startRoll (s : State) : State :=
  if s.reg 0x340 3 = 0 then (s.setReg 0x340 3 1).raise 1586 else s

/-- Whether a page lies in a range that is fenced, being rebuilt or retired (R305 to R308). -/
def Cistern.shut (c : Cistern) (page : Nat) : Bool :=
  (c.fenced ++ c.rebuilding ++ c.retired).any fun r => r.start ≤ 4096 * page && 4096 * page < r.start + r.len

/-- The largest major counter in use under the present key (R315): pages that a fence keeps from use, and from the sweep, do not count. -/
def Cistern.majorMax (c : Cistern) : Nat := c.major.foldl (fun m (p, v) => if c.shut p then m else max m v) 0

/-- An integrity failure (R304, R737): recorded, counted, signalled. -/
def State.integrity (s : State) (c line : Nat) : State :=
  ((s.setReg (0x320 + c) 4 (2 ^ 37 * c + 64 * line)).bump (0x320 + c) 3).raiseAt (64 + c) (c / 2) (1554 + c)

/-- What the MAC of a line of a page finds when the controller reads the whole page (R304, R737). -/
def pageMac (f : CisFacts) (line : Nat) : Mac :=
  match f.page.find? fun p => p.1.val == line % 64 with
  | some p => p.2
  | none => .good

/-- The lines of a page that fail when it is read for a rewrite are corrupt from then on (R737), but for an excepted line, which is not
read. -/
def Cistern.meetPage (c : Cistern) (page : Nat) (except_ : Option Nat) (f : CisFacts) : Cistern :=
  { c with corrupt := ((c.liveLines page).filter fun l => some l != except_ && pageMac f l == .bad).foldl
             (fun m l => kput false m l true) c.corrupt }

/-- The lines read again with success when a page is read for a rewrite (R304). -/
def Cistern.pageRetries (c : Cistern) (page : Nat) (except_ : Option Nat) (f : CisFacts) : Nat :=
  ((c.liveLines page).filter fun l => some l != except_ && !kget false c.corrupt l && pageMac f l == .retryGood).length

/-- Verify the lines of a page that is to be rewritten (R737): the first corrupt one but for an excepted line. -/
def Cistern.firstBad (c : Cistern) (page : Nat) (except_ : Option Nat) : Option Nat :=
  (c.liveLines page).find? fun l => some l != except_ && kget false c.corrupt l

/-- The controller reads every line of a page that it is to rewrite (R304, R737): the first that fails on two reads, and the state with
what the reads found. -/
def State.readPage (s : State) (c page : Nat) (except_ : Option Nat) (f : CisFacts) : Option Nat × State :=
  let n := (s.cis c).pageRetries page except_ f
  let x := (s.cis c).meetPage page except_ f
  let s := s.setCis c x
  (x.firstBad page except_, if n = 0 then s else s.bump (0x320 + c) 2 n)

/-- A page's lines rewritten with a major counter and minor 1 (R292, R299, R300). -/
def Cistern.rewrite (c : Cistern) (page major : Nat) : Cistern :=
  { c with major := kput 0 c.major page major,
           minor := (c.liveLines page).foldl (fun m l => kput 0 m l 1) c.minor }

/-- What a write does to a page before it is performed: nothing, a page move (R299), a re-encryption (R292), or a refusal
for want of a major counter (R302). -/
inductive PageWork where
  | none | move | reencrypt (major : Nat) | noMajor

/-- The work before a write to a line (R292, R299, R302). During a roll every write is encrypted under NEW. -/
def Cistern.work (c : Cistern) (line : Nat) : PageWork :=
  let page := line / 64
  match c.new with
  | some n =>
    if c.slotOf page != n then .move
    else if kget 0 c.minor line = 127 then
      (if 2 ^ 40 ≤ kget 0 c.major page + 1 then .noMajor else .reencrypt (kget 0 c.major page + 1))
    else .none
  | Option.none =>
    if kget 0 c.minor line = 127 then
      (if 2 ^ 40 ≤ kget 0 c.major page + 1 then .noMajor else .reencrypt (kget 0 c.major page + 1))
    else .none

/-- A verified write of a line's new contents, the page's work included (R292, R298, R299, R302, R737): the code, and the
state. A line that the work must verify and that fails makes the write fail and changes nothing but the records. -/
def State.cisWrite (s : State) (c line : Nat) (full : Bool) (new : List Byte) (f : CisFacts) : Code × State :=
  let x := s.cis c
  let page := line / 64
  let except_ := if full then some line else none
  let put (x : Cistern) : Cistern :=
    { x with data := memWrite x.data (64 * line) new, minor := kput 0 x.minor line (kget 0 x.minor line + 1),
             corrupt := kput false x.corrupt line false }
  match x.work line with
  | .none => (kOk, s.setCis c (put x))
  | .noMajor => (kMajorEnd, s)
  | .move =>
    (match s.readPage c page except_ f with
    | (some l, s) => (kIntegrity, s.integrity c l)
    | (none, s) =>
      let x := { (s.cis c).rewrite page 0 with moved := kput false x.moved page true }
      (kOk, (s.setCis c (put x)).bump (0x320 + c) 9))
  | .reencrypt m =>
    (match s.readPage c page except_ f with
    | (some l, s) => (kIntegrity, s.integrity c l)
    | (none, s) =>
      let s := (s.setCis c (put ((s.cis c).rewrite page m))).bump (0x320 + c) 8
      (kOk, if 0xFFFF000000 ≤ m then s.startRoll else s))

/-! ### The metadata caches (R296) -/

/-- Items that 1 MiB holds, and MAC lines that 256 KiB hold (R296). -/
def cacheItems : Nat := 16384
/-- MAC lines that 256 KiB hold (R296). -/
def cacheMacs : Nat := 4096

/-- Whether a counter block or node is cached. -/
def Cistern.cached (c : Cistern) (level ix : Nat) : Bool := c.cache.any fun i => i.level == level && i.ix == ix

/-- The tree items that an access to an offset reads and verifies: from a level up to the first cached one (R296). -/
def Cistern.verify (c : Cistern) (off : Nat) : Nat → Nat → List (Nat × Nat)
  | 0, _ => []
  | fuel + 1, level =>
    let it := (level, off / (4096 * 8 ^ level))
    if c.cached it.1 it.2 || 9 < level then [] else it :: c.verify off fuel (level + 1)

/-- Verified items enter the cache. -/
def Cistern.keep (c : Cistern) (l : List (Nat × Nat)) : Cistern :=
  { c with cache := (l.map fun (v, i) => { level := v, ix := i }) ++ c.cache }

/-- A cached item is updated in place (R296). -/
def Cistern.dirtyItem (c : Cistern) (level ix : Nat) : Cistern :=
  { c with cache := c.cache.map fun i => if i.level = level ∧ i.ix = ix then { i with dirty := true } else i }

/-- The tree items above and at an offset are read and verified from a level up (R296, R305): where items fail on two reads, the highest
of them, whose fence takes in what the others cover, or the state with them in the cache. -/
def State.verifyPath (s : State) (c off level : Nat) (f : CisFacts) : Option Nat × State :=
  let x := s.cis c
  let items := x.verify off 10 level
  match items.reverse.find? fun i => f.nodes.contains i with
  | some (l, _) => (some l, s.fenceRange c (coverage l off))
  | none => (none, s.setCis c (x.keep items))

/-- A counter block or node leaves the cache (R296): a dirty one is written back and the digest that its parent holds is updated, the
parent being read and verified first if it is not cached; above level 9 that is the root entry, in both copies. -/
def State.evictItem (s : State) (c : Nat) (f : CisFacts) (i : CacheItem) : State :=
  let x := s.cis c
  let s := s.setCis c { x with cache := x.cache.erase i }
  if !i.dirty then s
  else if i.level = 9 then s.setCis c ((s.cis c).writeBack c 9 i.ix)
  else
    match s.verifyPath c (i.ix * (4096 * 8 ^ i.level)) (i.level + 1) f with
    | (some _, s) => s
    | (none, s) => s.setCis c (((s.cis c).writeBack c i.level i.ix).dirtyItem (i.level + 1) (i.ix / 8))

/-- A full cache gives up its oldest items (DESIGN CHOICE, log entry 180: the spec does not say which). -/
def State.trimCache (s : State) (c : Nat) (f : CisFacts) : Nat → State
  | 0 => s
  | fuel + 1 =>
    if (s.cis c).cache.length ≤ cacheItems then s
    else match (s.cis c).cache.getLast? with
      | some i => State.trimCache (s.evictItem c f i) c f fuel
      | none => s

/-- The items that an access meets being evicted leave the caches (R296). -/
def State.evictAll (s : State) (c : Nat) (f : CisFacts) : State :=
  let gone := (s.cis c).cache.filter fun i => f.evict.contains (i.level, i.ix)
  let s := gone.foldl (fun (s : State) i => s.evictItem c f i) s
  s.setCis c { s.cis c with macs := (s.cis c).macs.filter fun m => !f.evictMacs.contains m.1 }

/-- A MAC line, of eight MACs, is cached, and dirty after a write (R289, R296). -/
def Cistern.touchMac (x : Cistern) (line : Nat) (dirty : Bool) : Cistern :=
  let k := line / 8
  let was := x.macs.any fun m => m.1 == k && m.2
  { x with macs := ((k, dirty || was) :: x.macs.filter (·.1 != k)).take cacheMacs }

/-- A root copy found uncorrectable is replaced from the other, which counts (R295, R306). -/
def State.repairRoot (s : State) (c : Nat) : State :=
  let x := s.cis c
  (s.setCis c { x with rootA := x.rootB }).bump (0x320 + c) 7

/-- An access of a line whose counter block is verified (R290, R291, R292, R299): a zero line reads as zeros without a MAC, any other
line's MAC is checked when it is read, and a write encrypts the line anew. -/
def State.cisServe (s : State) (c line : Nat) (k : Access) (f : CisFacts) : Code × List Byte × State :=
  let x := s.cis c
  let isZero := kget 0 x.minor line = 0
  let old := if isZero then List.replicate 64 0 else memRead x.data (64 * line) 64
  let s := s.trimCache c f 64
  let x := s.cis c
  let s := if isZero || accessFull k then s else s.setCis c (x.touchMac line false)
  let bad := !isZero && (kget false x.corrupt line || f.line == .bad)
  if !accessFull k && bad then
    let s := s.setCis c { s.cis c with corrupt := kput false x.corrupt line true }
    (kIntegrity, [], s.integrity c line)
  else
    let s := if !accessFull k && !isZero && f.line == .retryGood then s.bump (0x320 + c) 2 else s
    match accessLine k old with
    | none => (kOk, accessAnswer k old, s)
    | some l =>
      let (r, s) := s.cisWrite c line (accessFull k) l f
      if r = kOk then (kOk, accessAnswer k old, s.setCis c (((s.cis c).dirtyItem 0 (line / 64)).touchMac line true))
      else (r, [], s)

/-- One access to a reservoir line at a 42-bit physical address (R283, R290, R296, R303 to R306, R309). -/
def State.cisAccess (s : State) (a : Nat) (k : Access) (f : CisFacts) : Code × List Byte × State :=
  let c := a / 2 ^ 37 % 32
  let off := a % 2 ^ 37 / 64 * 64
  let line := off / 64
  let x := s.cis c
  if cisBytes ≤ off then (kRange, [], s)
  else if s.reg 0x340 8 = 1 then (kKeyRevoked, [], s)
  else if s.reg (0x320 + c) 0 ≠ 1 then (kCisternDown, [], s)
  else if (x.fenced ++ x.rebuilding ++ x.retired).any fun r => r.start ≤ off && off < r.start + r.len then
    (kResUnverifiable, [], s)
  else
    let s := if f.roots = 1 then s.repairRoot c else s
    if 2 ≤ f.roots then
      let x := s.cis c
      (kResUnverifiable, [], (s.setCis c { x with rootA := none, rootB := none }).fenceCistern c)
    else match (s.evictAll c f).verifyPath c off 0 f with
      | (some _, s) => (kResUnverifiable, [], s)
      | (none, s) => s.cisServe c line k f

end Sys2Proof.Machine
end

