-- ==== Sys2Proof/Machine/Translate.lean ====
section
/-! DEFINITION. Machine/Translate.lean: from a den-virtual address to its target (R318 to R333, R344): the directory, the extent
caches of the pumps, the rights, and the sender's checks of a window access. -/

namespace Sys2Proof.Machine

open Sys2Proof

/-- Whether an extent contains an address. -/
def Extent.has (e : Extent) (va : Nat) : Bool := e.vbase ≤ va && va < e.vbase + e.len

/-- The right an access needs (R323). -/
def Extent.allows (e : Extent) : LineKind → Bool
  | .read => e.rd
  | .write => e.wr
  | .rmw => e.atom

/-- The entry of a den's directory that contains an address (R320, R327). -/
def Den.lookup (d : Den) (va : Nat) : Option Extent := d.extents.find? (·.has va)

/-- The entry used moves to the front of an extent cache (R325). -/
def cacheUse (e : Extent) (l : List Extent) : List Extent := e :: l.filter (· != e)

/-- A fill puts an entry at the front of an extent cache of `n`; a fill of an entry that is there already is discarded (R331). -/
def cacheFill (n : Nat) (e : Extent) (l : List Extent) : List Extent := if l.contains e then l else (e :: l).take n

/-- A pump's translation from its cache (R325); none on a miss. -/
def State.pumpHit (s : State) (t va : Nat) : Option (Extent × State) :=
  let x := s.tile t
  (x.pump.cache.find? (·.has va)).map fun e =>
    (e, s.setTile t { x with pump := { x.pump with cache := cacheUse e x.pump.cache } })

/-- A descriptor misses (R330): it takes one of the four miss slots. -/
def State.pumpMiss (s : State) (t tag va : Nat) : State :=
  s.modTile t fun x => { x with pump := { x.pump with misses := x.pump.misses ++ [{ va := va, tag := tag }] } }

/-- Where an access lands (R322): a well or reservoir address, a host address, an offset in a window. -/
inductive Target where
  | well (a : Nat)
  | cistern (a : Nat)
  | host (a : Nat)
  | window (w off : Nat)

/-- The target of an address in an extent (R322). -/
def Extent.target (e : Extent) (va : Nat) : Target :=
  let a := e.tbase + (va - e.vbase)
  match e.kind with
  | 1 => .well a
  | 2 => .cistern a
  | 3 => .host a
  | _ => .window e.win a

/-- Where an inbound access to a den lands while a RELOCATE copies (R420): an own shaft whose copy has ended is at its new place; none
while its copy has not, for then the access is held. -/
def State.movedTarget (s : State) (slot : Nat) (x : Target) : Option Target :=
  let d := s.den slot
  match d.moving, x with
  | some m, .well a =>
    let t := tileOver (a / 2 ^ 37) (a / 2 ^ 28 % 512)
    if d.rect.has t then (if (d.rect.tiles.take m.copied).contains t then some (.well (movedAddr d.rect m.dest a)) else none)
    else some x
  | _, _ => some x

/-- Whether an access to a den-virtual address is held by a RELOCATE's copies (R420). -/
def State.moveHolds (s : State) (slot va : Nat) : Bool :=
  match (s.den slot).lookup va with
  | some e => (s.movedTarget slot (e.target va)).isNone
  | none => false

/-- The cause code of a target (R95), for a pump of tile `t`. -/
def Target.cause (t : Nat) : Target → Nat
  | .well a => if a / 2 ^ 28 = ownAddr t 0 / 2 ^ 28 then 1 else 2
  | .cistern _ => 3
  | _ => 4

/-- The cause of a missed operation (R95): the highest code among the kinds of target that it has touched and that its descriptor
names, where the den's directory places them; 7 for an overlay copy. An operation with no target but the scratchpad and the
registers has none of the codes: the model records 1 (DESIGN CHOICE, log entry 166). -/
def State.opCause (s : State) (slot t : Nat) (op : TagOp) : Nat :=
  if op.overlay.isSome then 7
  else
    let d := Desc.of op.desc
    d.arrays.foldl (fun c (i, _) =>
      let w := d.word i
      max c (match locKind w with
        | 0 => 1
        | 2 => match (s.den slot).lookup (locAddr w) with
          | some e => (e.target (locAddr w)).cause t
          | none => 0
        | _ => 0)) (max 1 op.cause)

/-- The controller of a physical target on the chip. -/
def Target.ctl : Target → Option Nat
  | .well a => some (a / 2 ^ 37 % 16)
  | .cistern a => some (16 + a / 2 ^ 37 % 32)
  | _ => none

/-- The controller that serves a den-virtual line: wells 0 to 15, cisterns 16 to 47. -/
def State.vaCtl (s : State) (slot va : Nat) : Option Nat :=
  match (s.den slot).lookup va with
  | some e => (e.target va).ctl
  | none => none

/-- Take the marks that a controller has put on a den's next response (R377, R378, R431). -/
def State.takeMark (s : State) (slot : Nat) (c : Option Nat) : HoldMark × State :=
  match c with
  | none => ({ den := slot, ns := 0 }, s)
  | some c =>
    let k := kget {} s.ctls c
    match k.marks.find? (·.den == slot) with
    | some m => (m, { s with ctls := kput {} s.ctls c { k with marks := dropFirst (·.den == slot) k.marks } })
    | none => ({ den := slot, ns := 0 }, s)

/-- A window entry. -/
def State.window (s : State) (w : Nat) : Option WinEntry := kget none s.wins w

/-- Whether a window grants an access. -/
def WinEntry.allows (e : WinEntry) : LineKind → Bool
  | .read => e.rd
  | .write => e.wr
  | .rmw => e.atom

/-- The sender's checks of a window access (R344). -/
def State.winCheck (s : State) (slot w off size : Nat) (k : LineKind) : Option Code :=
  match s.window w with
  | some e =>
    if e.inbound || !e.opened || e.slot != slot then some kWinClosed
    else if e.len < off + size then some kWinRange
    else if !e.allows k then some kWinRights
    else none
  | none => some kWinClosed

end Sys2Proof.Machine
end

