-- ==== Sys2Proof/Machine/FabTx.lean ====
section
/-! DEFINITION. Machine/FabTx.lean: transactions of the links as sender (R344, R347, R348), push channels (R547 to R555), and the
end of pair keys (R540, R541, R546). -/

namespace Sys2Proof.Machine

open Sys2Proof

/-- A link's state changes (R512, R559, R561). -/
def State.setLinkState (s : State) (l st : Nat) : State :=
  if s.reg (0x1000 + l) 0 = st then s else (s.setReg (0x1000 + l) 0 st).raiseAt (16 + l) (l / 2) (1587 + l)

/-! ### Accesses of a link engine -/

/-- The number of an engine of R328: a link engine's, 32 for the host interface's, 33 for save and restore. -/
def engineOf : Agent → Nat
  | .engine l => l.val
  | .hostIf => 32
  | _ => 33

/-- The extent cache of an engine (R328). -/
def State.engCache (s : State) (e : Nat) : List (Nat × Extent) := kget [] s.fab.caches e
/-- The miss slots of an engine (R332). -/
def State.engMisses (s : State) (e : Nat) : List EngMiss := kget [] s.fab.engMisses e
/-- Set the extent cache of an engine. -/
def State.setEngCache (s : State) (e : Nat) (l : List (Nat × Extent)) : State :=
  { s with fab := { s.fab with caches := kput [] s.fab.caches e l } }
/-- Set the miss slots of an engine. -/
def State.setEngMisses (s : State) (e : Nat) (l : List EngMiss) : State :=
  { s with fab := { s.fab with engMisses := kput [] s.fab.engMisses e l } }

/-- A fill of an engine's cache of 64 (R328); one that is there already is discarded (R331). -/
def State.engineFill (s : State) (e slot : Nat) (x : Extent) : State :=
  let l := s.engCache e
  if l.contains (slot, x) then s else s.setEngCache e (((slot, x) :: l).take 64)

/-- An engine's translation from its cache (R328); none on a miss. -/
def State.engineHit (s : State) (e slot va : Nat) : Option (Extent × State) :=
  let l := s.engCache e
  (l.find? fun (n, x) => n == slot && x.has va).map fun (_, x) => (x, s.setEngCache e ((slot, x) :: l.filter (· != (slot, x))))

/-- The agent that an engine is. -/
def engineAgent (e : Nat) : Agent := if e < 32 then .engine (Fin.ofNat 32 e) else if e = 32 then .hostIf else .sett

/-- Whether an engine can translate an address now: it is in the cache, or a miss slot is free (R332). -/
def State.engineReady (s : State) (e slot va : Nat) : Bool :=
  (s.engMisses e).length < 16 || (s.engCache e).any fun (n, x) => n == slot && x.has va

/-- An engine's translation (R328): a miss takes a free slot, and gives it back with its fill, within the access. -/
def State.engineLookup (s : State) (e slot va : Nat) : Option Extent × State :=
  match s.engineHit e slot va with
  | some (x, s) => (some x, s)
  | none =>
    if (s.engMisses e).any fun m => m.slot == slot && m.va == va && m.absent then (none, s)
    else
      let s := (((s.sayFill slot (engineAgent e) 0 va true).sayFill slot (engineAgent e) 0 va false).bump 0x0C00 3)
      match (s.den slot).lookup va with
      | some x => (some x, s.engineFill e slot x)
      | none => (none, s)

/-- Whether every one of some addresses can be translated now by an engine: it is in the cache, or the directory has answered that it
has none (R332). Otherwise the first that cannot. -/
def State.engineWaits (s : State) (e slot : Nat) (vas : List Nat) : Option Nat :=
  vas.find? fun va => !((s.engCache e).any fun (n, x) => n == slot && x.has va) &&
    !((s.engMisses e).any fun m => m.slot == slot && m.va == va && m.absent)

/-- An engine's request misses (R330, R332): it takes one of the 16 miss slots, unless it has one or none is free. -/
def State.engineMiss (s : State) (e slot va : Nat) : State :=
  let l := s.engMisses e
  if l.any (fun m => m.slot == slot && m.va == va) || 16 ≤ l.length then s else s.setEngMisses e (l ++ [{ slot := slot, va := va }])

/-- The answers that the directory had none are spent by the request that waited for them. -/
def State.engineSpend (s : State) (e slot : Nat) (vas : List Nat) : State :=
  s.setEngMisses e ((s.engMisses e).filter fun m => !(m.slot == slot && m.absent && vas.contains m.va))

/-- One access to a physical target on the chip; a target elsewhere is WIN_TARGET (R345). -/
def State.access (s : State) (x : Target) (k : Access) (m : LineMeet) : Code × List Byte × State :=
  match x with
  | .well a => s.wellAccess a k m.bad
  | .cistern a => s.cisAccess a k m.cis
  | _ => (kWinTarget, [], s)

/-- The mesh end of an engine for a line address: a link engine's port on its floor, the host interface's, the Sett's (R37, R328). -/
def State.engineEnd (s : State) (e a : Nat) : Option MeshEnd :=
  if e < 32 then s.floorEnd (e / 2) a else if e = 32 then s.hostEnd else s.settEnd

/-- The mesh end of a target in the chip's memory. -/
def State.memEnd (s : State) : Target → Option MeshEnd
  | .well a => s.wellEnd a
  | .cistern a => s.cisternPort a
  | _ => none

/-- What meets a line, by its location word. -/
def meetAt (ms : List LineMeet) (loc : Nat) : LineMeet := (ms.find? fun m => m.loc.toNat == loc).getD { loc := 0 }

/-- A link engine's access to a den-virtual line (R323, R345), with its request and answer on VC1 and VC2 (R357), or with the line on VC3
where it is one of a push. -/
def State.engineAccess (s : State) (l slot line : Nat) (kind : LineKind) (k : Access) (m : LineMeet) (push : Bool := false) :
    Code × List Byte × State :=
  match s.engineLookup l slot line with
  | (none, s) => (kExtNone, [], s)
  | (some e, s) =>
    let x := (s.movedTarget slot (e.target line)).getD (e.target line)
    if e.allows kind then
      (if push then s.haul .push (s.memEnd x) (s.engineEnd l line) slot 1
        else s.askEnd kind (s.engineEnd l line) (s.memEnd x) slot).access x k m
    else (kExtRights, [], s)

/-- A link engine reads `n` lines from a den-virtual line address, up to the first that fails. -/
def State.engineRead (s : State) (l slot : Nat) (ms : List LineMeet) : Nat → Nat → List Byte → Code × List Byte × State
  | 0, _, acc => (kOk, acc, s)
  | n + 1, line, acc =>
    match s.engineAccess l slot line .read .read (meetAt ms line) true with
    | (c, bs, s') => if c = kOk then State.engineRead s' l slot ms n (line + 64) (acc ++ bs) else (c, acc, s')

/-! ### Transactions as sender -/

/-- A free transaction tag of a link. How tags are chosen is not stated: the next free one (DESIGN CHOICE, log entry 42). -/
def Link.freeTag (x : Link) : Nat :=
  (((List.range (x.txs.length + 1)).map fun i => (x.nextTag + i) % 2 ^ 16).find? fun n => !x.txs.any (·.tag == n)).getD 0

/-- Whether a transaction still waits for its pair's key. -/
def State.txWaits (s : State) (l : Nat) (x : Tx) : Bool :=
  s.fab.waits.any fun w => w.tx && w.link == l && w.msg.tag == x.tag && w.job == x.job && w.peer == x.peer

/-- The transactions outstanding on a link as sender (R347): those that have been sent, and not to the chip's own endpoint, which never reach the
link (R522). -/
def State.outstanding (s : State) (l : Nat) : List Tx := (s.link l).txs.filter fun t => t.peer != s.endpoint && !s.txWaits l t

/-- Whether a den may hold one more transaction on a link (R347, R424, R531). -/
def State.linkRoom (s : State) (l slot : Nat) : Bool :=
  (s.outstanding l).length < 384 && ((s.outstanding l).filter (·.slot == slot)).length < kget 0 (s.den slot).linkBudget l

/-- What becomes of a den's transaction: it has failed, it waits for room on its link (R347), or it is outstanding. -/
inductive TxStart where
  | failed (c : Code)
  | full
  | sent (s : State)

/-- The link of a frame, and the next endpoint's MAC address (R523, R524); link 0 for the chip's own endpoint. -/
def State.linkTo (s : State) (peer job rwin : Nat) (by_ : SendBy) : Except Code (Nat × BitVec 48) :=
  if peer = s.endpoint then .ok (0, macOf s.endpoint 0)
  else (s.pickLink peer job rwin by_).map fun (l, r) => (l, r.mac peer l)

/-- The link of a frame of a den through a window. -/
def State.denLink (s : State) (slot : Nat) (w : WinEntry) : Except Code (Nat × BitVec 48) := s.linkTo w.peer w.job w.rwin (.den slot)

/-- A transaction of a den through an outbound window (R344, R524, R533): `msg` without its tag. -/
def State.startTx (s : State) (slot : Nat) (w : WinEntry) (who : TxFor) (msg : Msg) : TxStart :=
  if !s.isMember w.job w.peer then .failed kPeerNotMember
  else match s.denLink slot w with
    | .error c => .failed c
    | .ok (l, mac) =>
      if w.peer ≠ s.endpoint ∧ !s.linkRoom l slot then .full
      else
        let x := s.link l
        let m := { msg with tag := x.freeTag, rwin := w.rwin }
        match s.sendOn l mac w.job w.peer (.den slot) false true m with
        | .error c => .failed c
        | .ok s =>
          let gen := match s.pair w.job w.peer with | some k => k.gen | none => 0
          let t : Tx := { tag := m.tag, slot := slot, who := who, job := w.job, peer := w.peer, gen := gen, msg := m }
          .sent (s.modLink l fun x => { x with txs := x.txs ++ [t], nextTag := (m.tag + 1) % 2 ^ 16 })

/-! ### Push channels -/

/-- A push channel. -/
def State.chan (s : State) (c : Nat) : Option Chan := kget none s.fab.chans c
/-- Set a push channel. -/
def State.setChan (s : State) (c : Nat) (x : Option Chan) : State :=
  { s with fab := { s.fab with chans := kput none s.fab.chans c x } }
/-- Change a push channel. -/
def State.modChan (s : State) (c : Nat) (f : Chan → Chan) : State := s.setChan c ((s.chan c).map f)

/-- The link engine of a window of a den: that of its link, else that of link 0. -/
def State.winLink (s : State) (slot win : Nat) : Nat :=
  match s.window win with
  | some w => (match s.denLink slot w with | .ok (l, _) => l | .error _ => 0)
  | none => 0

/-- The link engine of a channel. -/
def State.chanLink (s : State) (x : Chan) : Nat := s.winLink x.slot x.win

/-- The status of a HELD channel (R549, R551): that of unit DONE where it has failed, or could not be taken; else that of the access to the
tail or the done word that has failed. -/
def Chan.heldStatus (x : Chan) : Code :=
  match (x.units.find? fun u => u.n == x.done).bind (·.failed), x.stuck with
  | some c, _ => c
  | none, some (n, c) => if n = x.done then c else x.status
  | none, none => x.status

/-- The done word (R549). -/
def Chan.doneWord (x : Chan) : Nat :=
  let st := match x.phase with | .stopped => 0 | .running => 1 | .held => 2
  x.done % 2 ^ 32 + (if x.phase = .held then 2 ^ 32 * x.heldStatus.toNat else 0) + 2 ^ 48 * st

/-- Write the done word (R549, R551). -/
def State.writeDone (s : State) (c : Nat) : Code × State :=
  match s.chan c with
  | none => (kOk, s)
  | some x =>
    let line := x.donew / 64 * 64
    let (k, _, s) := s.engineAccess (s.chanLink x) x.slot line .write (.write (x.donew % 64) (toLE 8 x.doneWord)) { loc := 0 }
    (k, s.modChan c fun x => { x with owes := k != kOk })

/-- A channel becomes HELD with the status that `f` records, unless it is (R550, R551, R561). -/
def State.holdChan (s : State) (c : Nat) (f : Chan → Chan) : State :=
  match s.chan c with
  | none => s
  | some x =>
    if x.phase = .held then s
    else (((s.setChan c (some { f x with phase := .held })).raiseAt (16 + s.chanLink x) (s.chanLink x / 2) (1619 + c)).writeDone c).2

/-- A channel becomes HELD for an access to its tail word or its done word (R551). -/
def State.holdAt (s : State) (c : Nat) (st : Code) : State := s.holdChan c fun x => { x with status := st }

/-- The done word after an advance or a change of state; where it cannot be written the channel becomes HELD (R551). -/
def State.noteDone (s : State) (c : Nat) : State :=
  let (k, s) := s.writeDone c
  if k = kOk then s else s.holdAt c k

/-- Change a unit of a channel. -/
def Chan.modUnit (x : Chan) (n : Nat) (f : PushUnit → PushUnit) : Chan :=
  { x with units := updFirst (fun u => u.n == n) f x.units }

/-- A unit of a channel fails with a status: the channel is HELD (R549, R550, R554, R555); one that is HELD already writes its done word
again, for the status it holds may be another. -/
def State.failUnit (s : State) (c n : Nat) (st : Code) : State :=
  let s' := s.modChan c fun x => x.modUnit n fun u => { u with failed := some st }
  if (s.chan c).any (·.phase == .held) then (s'.writeDone c).2 else s'.holdChan c id

/-- Whether a log entry is free for one more unit, beside those whose PACK is still to come (R554, R560). -/
def State.logRoom (s : State) : Bool :=
  let due := (s.fab.chans.map fun (_, x) => match x with
    | some x => (x.units.filter fun u => u.failed.isNone && (match u.phase with | .committed _ => true | _ => false)).length
    | none => 0).foldl (· + ·) 0
  s.fab.logs.length + due < 4096

/-- A unit's PCOMMIT is sent (R517, R550, R555). -/
def State.sendCommit (s : State) (c : Nat) (x : Chan) (u : PushUnit) : State :=
  match s.window u.win with
  | none => s.failUnit c u.n kWinClosed
  | some w =>
    let body := toLE 8 u.id.toNat ++ toLE 4 u.epoch ++ toLE 4 (if u.rf then 1 else 0) ++ toLE 8 u.len ++ toLE 2 u.fence ++
      toLE 6 0 ++ toLE 8 u.fval
    if !s.isMember w.job w.peer then s.failUnit c u.n kPeerNotMember
    else match s.sendMsg w.job w.peer (.den x.slot) { kind := 6, rwin := w.rwin, off := u.off, payload := body } with
      | .error k => s.failUnit c u.n k
      | .ok s =>
        let n := match u.phase with | .committed n => n + 1 | _ => 1
        s.modChan c fun x => x.modUnit u.n fun u => { u with phase := .committed n }

/-- The PCOMMITs that wait for a free log entry are sent as entries become free (R554). -/
def State.runCommits (s : State) (c : Nat) : State :=
  match s.chan c with
  | none => s
  | some x => x.units.foldl (fun s u =>
    if u.phase = .ready ∧ u.failed.isNone ∧ s.logRoom then s.sendCommit c x u else s) s

/-- Log entries have become free. -/
def State.freedLogs (s : State) : State := (kkeys s.fab.chans).foldl State.runCommits s

/-- A push unit's transaction has ended (R550). -/
def State.pushEnd (s : State) (c n attempt bytes : Nat) (st : Code) : State :=
  match s.chan c with
  | none => s
  | some x =>
    match x.units.find? fun u => u.n == n && u.attempt == attempt && u.failed.isNone with
    | none => s
    | some u =>
      if st ≠ kOk then s.failUnit c n st
      else
        let u := { u with got := u.got + bytes }
        let u := if u.got = u.len then { u with phase := .ready } else u
        (s.modChan c fun x => x.modUnit n fun _ => u).runCommits c

/-! ### The end of a transaction -/

/-- A transaction of a link ends with a status and data: whoever waits for it learns it (R344, R346, R348). -/
def State.endTx (s : State) (l : Nat) (x : Tx) (st : Code) (data : List Byte) (delayed : Bool := false) : State :=
  let s := s.modLink l fun k => { k with txs := k.txs.filter (·.tag != x.tag) }
  let left := s.fab.waits.filter fun w => !(w.tx && w.link == l && w.msg.tag == x.tag)
  let s := { s with fab := { s.fab with waits := left } }
  match x.who with
  | .pump t tag loc =>
    let hit (z : LineSlot) : Bool := z.tag == tag && z.loc == loc && z.ans.isNone && z.hold.isNone
    let got (z : LineSlot) : LineSlot := { z with ans := some (st, data), delayed := delayed }
    s.modTile t fun y => { y with pump := { y.pump with remote := updFirst hit got y.pump.remote } }
  | .push c n attempt bytes => s.pushEnd c n attempt bytes st
  | .copyOut seq =>
    let d := s.den x.slot
    if st = kOk ∨ d.cmdSeq.toNat ≠ seq ∨ (d.working 11).isNone then s else s.cmdResult x.slot st

/-- Every transaction that meets a test ends at once with a status. -/
def State.endTxs (s : State) (p : Nat → Tx → Bool) (st : Code) : State :=
  (kkeys s.fab.links).foldl (fun s l => ((s.link l).txs.filter (p l)).foldl (fun s x => s.endTx l x st []) s) s

/-! ### Custody (R554, R557) -/

/-- The log entry of a push to a receiver: the latest, where a unit has been pushed again under its PUSH_ID (DESIGN CHOICE, log entry 196). -/
def State.logEntry (s : State) (id : BitVec 64) (peer : Nat) : Option LogEntry :=
  s.fab.logs.reverse.find? fun e => e.id == id && e.peer == peer

/-- The custody entry of a push from a source. -/
def State.custodyEntry (s : State) (id : BitVec 64) (src : Nat) : Option Custody :=
  s.fab.custody.find? fun c => c.id == id && c.src == src

/-! ### Pair keys -/

/-- Old receive keys that no outstanding transaction keeps any longer are dropped (R545). -/
def State.dropOld (s : State) (job peer : Nat) : State :=
  s.modPair job peer fun k =>
    match k.old with
    | some o =>
      if !o.timed && !(s.fab.links.any fun (_, x) => x.txs.any fun t => t.job == job && t.peer == peer && t.gen < k.gen)
      then { k with old := none } else k
    | none => k

/-- Whether nothing of a unit has been sent to its peer yet: its frames all wait for a key agreement (R546). -/
def State.unsent (s : State) (c : Nat) (u : PushUnit) : Bool :=
  u.phase == .sending && u.got == 0 && (kkeys s.fab.links).all fun l => (s.link l).txs.all fun t => match t.who with
    | .push c' n a _ => c' != c || n != u.n || a != u.attempt || s.txWaits l t
    | _ => true

/-- A channel's units in flight to a peer of a job fail when the keys end (R540 to R542, R546); `keep` spares those of which nothing has been
sent yet. -/
def State.endUnits (s : State) (job peer : Nat) (keep : Bool) (c : Nat) : State :=
  match s.chan c with
  | none => s
  | some x =>
    (x.units.filter fun u => u.job == job && u.peer == peer && u.phase != .acked && u.failed.isNone && !(keep && s.unsent c u)).foldl
      (fun s u => s.failUnit c u.n kKeyRevoked) s

/-- Frames of a job to a peer that stand at a link behind a pause of the bulk PCP are not sent any longer (R540). -/
def State.dropHeld (s : State) (job peer : Nat) : State :=
  let keep (h : HeldFrame) : Bool :=
    frameJob h.frame != job || frameDst h.frame != peer || frameSrc h.frame != s.endpoint || frameKind h.frame == 4
  (kkeys s.fab.links).foldl (fun s l => s.modLink l fun x => { x with held := x.held.filter keep }) s

/-- Whether a waiting frame begins a dictionary response (R457, R529). -/
def Waiter.response (w : Waiter) : Bool := w.msg.kind == 3 && natAt w.msg.payload 2 1 == 0

/-- The responses to a pair's dictionary requests that are not out when its keys end are dropped: those that wait for a key agreement are counted
now, those still to be made when their turn comes (R457). -/
def State.cutDict (s : State) (job peer : Nat) : State :=
  let mine (w : Waiter) : Bool := w.job == job && w.peer == peer
  let n := (s.fab.waits.filter fun w => mine w && w.response).length
  let fe := FrontEnd.fabric (BitVec.ofNat 24 peer) (BitVec.ofNat 32 job)
  let due := (s.dict.queued.filter fun m => m.fe == fe).length + (s.dict.waiting.filter fun r => r.q.fe == fe).length
  let s : State := { s with dict := { s.dict with cut := s.dict.cut.filter (· != fe) ++ List.replicate due fe } }
  s.bump 0x0110 7 n

/-- Steps 3 to 5 of R540 for one pair (R541, R546): its transactions and its units in flight end with KEY_REVOKED; its keys go,
and with them every response not yet sent. `keep` spares what has not been sent and is no response: it waits for the agreement under way. -/
def State.endPair (s : State) (job peer : Nat) (keep : Bool) : State :=
  let had := match s.pair job peer with | some k => k.live | none => false
  let hit (l : Nat) (x : Tx) : Bool := x.job == job && x.peer == peer && !(keep && s.txWaits l x)
  let s := (kkeys s.fab.chans).foldl (fun s c => s.endUnits job peer keep c) s
  let s := (s.dropHeld job peer).endTxs hit kKeyRevoked
  let s := if had then s.cutDict job peer else s
  let spare (w : Waiter) : Bool := w.tx || (keep && (w.msg.kind == 2 || w.msg.kind == 7 || w.msg.kind == 8))
  let left := s.fab.waits.filter fun w => w.job != job || w.peer != peer || spare w
  let s := { s with fab := { s.fab with waits := left } }
  let mine (k : Pair) : Bool := k.job == job && k.peer == peer
  let keys := (s.fab.keys.filter fun k => !(mine k && !(keep && k.agr.isSome))).map fun k =>
    if mine k then { k with live := false, suspect := false, known := false, old := none, txKey := 0, rxKey := 0 } else k
  let s := { s with fab := { s.fab with keys := keys } }
  if had then s.bump 0x1110 6 else s

/-- The unit of a channel whose commit record waits fails with a code (R524, R538). -/
def State.failCommit (s : State) (job peer id : Nat) (code : Code) (c : Nat) : State :=
  match s.chan c with
  | some x => (match x.units.find? fun u => u.failed.isNone && u.id.toNat == id && u.job == job && u.peer == peer with
    | some u => s.failUnit c u.n code
    | none => s)
  | none => s

/-- What waits for a pair fails with a code (R524, R538, R560): a transaction, a unit's commit record; a fence signal that no agreement lets out
is counted. -/
def State.failWaiter (s : State) (code : Code) (w : Waiter) : State :=
  if w.tx then
    match (s.link w.link).txs.find? fun t => t.tag == w.msg.tag with
    | some t => s.endTx w.link t code []
    | none => s
  else if w.msg.kind = 6 then
    (kkeys s.fab.chans).foldl (fun s c => s.failCommit w.job w.peer (natAt w.msg.payload 0 8) code c) s
  else if w.msg.kind = 2 ∧ code = kKeyAgree then (s.bump 0x1110 7).raise 1684
  else s

/-- An agreement of this chip fails (R538, R560): every frame that waits for the pair fails with KEY_AGREE; a frame that no one
waits for is discarded and counted. -/
def State.failAgree (s : State) (job peer : Nat) : State :=
  let mine (w : Waiter) : Bool := w.job == job && w.peer == peer
  let ws := s.fab.waits.filter mine
  let s := { s with fab := { s.fab with waits := s.fab.waits.filter fun w => !mine w } }
  let s := s.modPair job peer fun k => { k with agr := none }
  let s := { s with fab := { s.fab with keys := s.fab.keys.filter fun k =>
    !(k.job == job && k.peer == peer && !k.live) } }
  ws.foldl (fun s w => s.failWaiter kKeyAgree w) s

/-- A transaction's place on the link that its next frame takes (R523, R524): the same, or one on another link. -/
def State.moveTx (s : State) (l l' : Nat) (t : Tx) : Tx × State :=
  if l = l' then (t, s)
  else
    let tag := (s.link l').freeTag
    let t' : Tx := { t with tag := tag, msg := { t.msg with tag := tag } }
    let s := s.modLink l fun x => { x with txs := x.txs.filter (·.tag != t.tag) }
    (t', s.modLink l' fun x => { x with txs := x.txs ++ [t'], nextTag := (tag + 1) % 2 ^ 16 })

/-- A frame waits no longer. -/
def State.dropWaiter (s : State) (w : Waiter) : State := { s with fab := { s.fab with waits := dropFirst (· == w) s.fab.waits } }

/-- A frame that has waited goes out under its pair's key, on a link and to a MAC address; a transaction that finds the link full waits on. -/
def State.sendWaiter (s : State) (w : Waiter) (l : Nat) (dmac : BitVec 48) : State :=
  let send (s : State) (m : Msg) : State :=
    let (f, s) := s.sealFrame l dmac (expressKind m.kind) w.job w.peer m
    s.transmit l w.by_ f
  if !w.tx then send (s.dropWaiter w) w.msg
  else match (s.link w.link).txs.find? fun t => t.tag == w.msg.tag with
    | none => s.dropWaiter w
    | some t =>
      if t.peer ≠ s.endpoint ∧ !s.linkRoom l t.slot then s
      else
        let (t, s) := (s.dropWaiter w).moveTx w.link l t
        let gen := match s.pair w.job w.peer with | some k => k.gen | none => 0
        let s := s.modLink l fun x => { x with txs := updFirst (fun u => u.tag == t.tag) (fun u => { u with gen := gen }) x.txs }
        send s t.msg

/-- The link and the MAC address that a waiting frame takes now: a response's own, else by the route in force (R519, R523, R524). -/
def State.waiterLink (s : State) (w : Waiter) : Except Code (Nat × BitVec 48) :=
  match w.mac with
  | some m => if s.linkUp w.link then .ok (w.link, m) else .error kLinkNone
  | none => s.linkTo w.peer w.job w.msg.rwin w.by_

/-- Waiting frames in the order of R530: control frames, dictionary segments, then each link's bulk frames by its round robin. -/
def State.waitOrder (s : State) (ws : List (Waiter × Nat × BitVec 48)) : List (Waiter × Nat × BitVec 48) :=
  let of (n : Nat) := ws.filter fun w => sendClass w.1.msg.kind == n
  let bulk := of 2
  let links := (bulk.map (·.2.1)).eraseDups
  let size (w : Waiter × Nat × BitVec 48) : Nat := w.1.msg.payload.length + 86
  of 0 ++ of 1 ++ links.flatMap fun l =>
    drrOrder (·.1.by_) size (drrWeight s l) (100 * bulk.length + 1) [] (bulk.filter fun w => w.2.1 == l)

/-- The frames that wait for a pair go out under its key, each by the route in force (R523, R524, R530, R535); one that has none, or whose link
is down, fails with the code. -/
def State.sendWaiting (s : State) (job peer : Nat) : State :=
  let mine (w : Waiter) : Bool := w.job == job && w.peer == peer
  let ws := (s.fab.waits.filter mine).map fun w => (w, s.waiterLink w)
  let go := ws.filterMap fun (w, r) => match r with | .ok (l, m) => some (w, l, m) | .error _ => none
  let s := ws.foldl (fun s (w, r) => match r with | .ok _ => s | .error c => (s.dropWaiter w).failWaiter c w) s
  (s.waitOrder go).foldl (fun s (w, l, m) => s.sendWaiter w l m) s

/-- Transactions that wait although their pair has its key, for want of room on a link, are tried again (R347). -/
def State.retryWaiting (s : State) : State :=
  let ready := (s.fab.waits.map fun w => (w.job, w.peer)).eraseDups.filter fun p => match s.pair p.1 p.2 with
    | some k => k.live && !k.suspect
    | none => false
  ready.foldl (fun s p => s.sendWaiting p.1 p.2) s

/-- A pair gets new keys (R537, R539, R545): for a probe answered with the same incarnation the old receive key is kept, by time at a
responder, by an initiator for the transactions sent under it. -/
def State.newKeys (s : State) (job peer : Nat) (inc : BitVec 64) (responder : Bool) (tx rx : BitVec 256) : State :=
  let gen := s.fab.nextGen + 1
  let k : Pair := (s.pair job peer).getD { job := job, peer := peer }
  let old : Option OldKey := if k.live then some { rx := k.rx, timed := responder, key := k.rxKey } else none
  let k' : Pair := { k with live := true, suspect := false, inc := inc, known := true, gen := gen, pn := 1, rx := {},
                            old := old, agr := none, txKey := tx, rxKey := rx }
  let rest := s.fab.keys.filter fun x => !(x.job == job && x.peer == peer)
  let s := { s with fab := { s.fab with keys := rest ++ [k'], nextGen := gen } }
  (s.sendWaiting job peer).dropOld job peer

/-- A chip learns a newer incarnation of a peer (R546): every pair with it ends, in every job, and the log entries that name
its old incarnation are LOST. -/
def State.newIncarnation (s : State) (peer : Nat) (old : BitVec 64) : State :=
  let jobs := (s.fab.keys.filter (·.peer == peer)).map (·.job)
  let s := jobs.foldl (fun s j => s.endPair j peer true) s
  let hit (e : LogEntry) : Bool := e.peer == peer && e.inc == old.truncate 32 && !e.lost
  let n : Nat := (s.fab.logs.filter hit).length
  let logs := s.fab.logs.map fun e => if hit e then { e with lost := true } else e
  let s := { s with fab := { s.fab with logs := logs } }
  let s := s.bump 0x1120 8 n
  let s := if 0 < n then s.raise 1683 else s
  s.raise 1684

end Sys2Proof.Machine
end

