-- ==== Sys2Proof/Machine/DictOps.lean ====
section
/-! DEFINITION. Machine/DictOps.lean: how the primary Sett takes, checks and answers a dictionary request (R438 to R465): the
shared frame of every command that is one. -/

namespace Sys2Proof.Machine

open Sys2Proof

/-! ### Roles and access -/

/-- The role of a request (R441, R602). -/
inductive Role where
  | hostAdmin
  | denOwner (slot : Nat)
  | fabricPeer (src job : Nat)
  | tray
  deriving DecidableEq, Repr

/-- The role that a front end carries (R441). -/
def roleOf : FrontEnd → Role
  | .page p => if p.val = 0 then .hostAdmin else .denOwner (p.val - 1)
  | .tray => .tray
  | .fabric src job => .fabricPeer src.toNat job.toNat
  | .secured _ => .hostAdmin

/-- The access kind of a role in a row of the catalogue (R449): 0 none, 1 RO, 2 WO, 3 RW, 4 RW-sealed. -/
def Role.access (r : Role) (row : ElemRow) : Nat :=
  match r with
  | .hostAdmin => bitsOf row.acc 0 4
  | .denOwner _ => bitsOf row.acc 4 4
  | .fabricPeer _ _ => bitsOf row.acc 8 4
  | .tray => bitsOf row.acc 12 4

/-- The slot of a per-slot element (R442). -/
def perSlot (ix el : Nat) : Option Nat :=
  if 0x0800 ≤ ix ∧ ix < 0x0900 then some (ix - 0x0800)
  else if 0x2400 ≤ ix ∧ ix < 0x2700 then some (ix % 256)
  else if 0x2200 ≤ ix ∧ ix < 0x2230 then some el
  else none

/-- Whether a slot owns a window entry of a job (R456). -/
def State.inJob (s : State) (slot job : Nat) : Bool :=
  s.wins.any fun (_, w) => match w with | some e => e.slot == slot && e.job == job | none => false

/-- Whether an element lies in a role's scope (R442, R456). -/
def State.inScope (s : State) (r : Role) (ix el : Nat) : Bool :=
  match perSlot ix el, r with
  | some n, .denOwner m => n == m
  | some n, .fabricPeer _ job => s.inJob n job
  | _, _ => true

/-! ### Checks (R451) -/

/-- The five operations (R448). -/
inductive DictOp where
  | read | write | describe | next | snapshot
  deriving DecidableEq, Repr

/-- The code of an operation (R448). -/
def DictOp.code : DictOp → Nat
  | .read => 1 | .write => 2 | .describe => 3 | .next => 4 | .snapshot => 5

/-- Whether a request's OP is defined (R448). -/
def opDefined (q : Req) : Bool := 1 ≤ q.opc.toNat && q.opc.toNat ≤ 5

/-- Step 9 of R451 as far as the type tells (R439). -/
def badOfType (row : ElemRow) (v : List Byte) : Bool :=
  match row.ty with
  | 1 => 1 < leNat v
  | 10 => (fp32.decode (leNat v)).isNan || fp32.decode (leNat v) == .inf false || fp32.decode (leNat v) == .inf true
  | 11 => (fp64.decode (leNat v)).isNan || fp64.decode (leNat v) == .inf false || fp64.decode (leNat v) == .inf true
  | _ => false

/-- The elements of an object with their rows, in ascending order. -/
def objectElems (ix : Nat) : List (Nat × ElemRow) :=
  (objectRows ix).flatMap fun row => (List.range row.en).map fun i => (row.el + i, row)

/-- The elements of an object that a role has an access to, the scope included. -/
def State.visible (s : State) (r : Role) (ix : Nat) : List (Nat × ElemRow) :=
  (objectElems ix).filter fun p => r.access p.2 != 0 && s.inScope r ix p.1

/-- The receipt that the mirror holds at an index 0x1C80 to 0x1CFF: the newest one reported with that number modulo 128 (R636). -/
def State.mirrored (s : State) (ix : Nat) : Option (List Byte) :=
  (s.meter.receipts.find? fun (p : Nat × List Byte) => p.1 % 128 == ix - 0x1C80 && p.1 ≤ s.reg 0x1C00 7).map (·.2)

/-- Whether an element that its row implements is there: a receipt not yet issued is not (R636). -/
def State.present (s : State) (ix : Nat) : Bool := !(0x1C80 ≤ ix && ix < 0x1D00) || (s.mirrored ix).isSome

/-- The checks of R451, steps 1 to 9, before the element's own; `permit` says whether the role may write the value (R444). -/
def State.checkReq (s : State) (q : Req) (op : DictOp) (v : List Byte) (permit : Bool) : Option Code :=
  let r := roleOf q.fe
  let ix := q.index.toNat
  let el := q.element.toNat
  if !opDefined q || 4096 < q.len.toNat then some 0x0B03
  else if !q.clean then some kRange
  else if !s.dict.ready then some 0x0B01
  else if (objectRows ix).isEmpty || 0xF000 ≤ ix then some kNoObject
  else if op = .snapshot then
    if (s.visible r ix).isEmpty then some kAccess
    else if q.len ≠ 0 then some kType
    else if el ≠ 0 then some kRange
    else if (s.visible r ix).any fun p => s.dict.sealedBad.contains (elemKey ix p.1) then some kIntegrity
    else none
  else match (if s.present ix then elemRow ix el else none) with
    | none => some kNoElement
    | some row =>
      let a := if s.inScope r ix el then r.access row else 0
      match op with
      | .read =>
        if a = 0 ∨ a = 2 then some kAccess
        else if q.len ≠ 0 then some kType
        else if s.dict.sealedBad.contains (elemKey ix el) then some kIntegrity
        else none
      | .write =>
        if a = 0 ∨ a = 1 ∨ !permit then some kAccess
        else if a = 4 ∧ 1 < s.reg 0x0001 0 then some kSealed
        else if v.length < row.lmin ∨ row.lmax < v.length then some kType
        else if badOfType row v then some kRange
        else none
      | _ => if q.len ≠ 0 then some kType else none

/-! ### Front ends (R452 to R461) -/

/-- A ring page. -/
def State.page (s : State) (p : Nat) : RingPage := kget {} s.dict.pages p
/-- Set a ring page. -/
def State.setPage (s : State) (p : Nat) (x : RingPage) : State :=
  { s with dict := { s.dict with pages := kput {} s.dict.pages p x } }

/-- Units between two places of a ring. -/
def ringUsed (n head tail : Nat) : Nat := (tail + n - head) % n

/-- The units of a message with a payload (R454). -/
def msgUnits (len : Nat) : Nat := ceilDiv (16 + len) 64

/-- The requests of a page that wait for their work. -/
def State.owed (s : State) (p : Nat) : Nat :=
  (s.dict.waiting.filter fun r => match r.q.fe with | .page n => n.val == p | _ => false).length

/-- Whether the response ring lacks room for 65 units (R453, R454), besides the 65 that each response still owed may take (DEDUCED, log
entry 163); one unit always stays empty. -/
def RingPage.stalled (x : RingPage) (owed : Nat) : Bool := 448 < ringUsed 448 x.drsHead x.drsTail + 65 * owed + 66

/-- Whether a page offers a request (R452 to R454). -/
def State.offers (s : State) (p : Nat) : Bool :=
  let x := s.page p
  x.enable && !x.overrun && x.drqHead != x.drqTail && !x.stalled (s.owed p)

/-- The place of a front end in the rotation of R461. A secured message shares page 0's (UNVERIFIED, log entry 14). -/
def frontPlace : FrontEnd → Nat
  | .page p => if p.val = 0 then 0 else 3
  | .tray => 1
  | .fabric _ _ => 2
  | .secured _ => 0

/-- The next den-owner page that offers a request, in ascending order after the last served (R461). -/
def State.nextPage (s : State) : Option Nat :=
  let offers := ((List.range 256).map (· + 1)).filter s.offers
  match offers.find? (s.dict.lastPage < ·) with
  | some p => some p
  | none => offers.head?

/-- Whether a place of the rotation has something waiting. -/
def State.placeWaits (s : State) : Nat → Bool
  | 0 => s.offers 0 || s.dict.queued.any fun m => frontPlace m.fe == 0
  | 1 => s.dict.queued.any fun m => frontPlace m.fe == 1
  | 2 => s.dict.queued.any fun m => frontPlace m.fe == 2
  | _ => s.nextPage.isSome

/-- The place whose turn it is (R461): the first after the last served that has something waiting. -/
def State.turnPlace (s : State) : Option Nat :=
  [1, 2, 3, 4].findSome? fun i =>
    let p := (s.dict.turn + i) % 4
    if s.placeWaits p then some p else none

/-- The request that a message's bytes hold (R448): its operation code, its header and its payload. -/
def parseMsg (fe : FrontEnd) (bs : List Byte) : Nat × Req × List Byte :=
  let len := natAt bs 8 2
  let opc := natAt bs 0 1
  (opc,
    { fe := fe, opc := BitVec.ofNat 8 opc, tag := BitVec.ofNat 16 (natAt bs 2 2), index := BitVec.ofNat 16 (natAt bs 4 2),
      element := BitVec.ofNat 8 (natAt bs 6 1), len := BitVec.ofNat 16 len,
      clean := natAt bs 1 1 == 0 && natAt bs 7 1 == 0 && natAt bs 10 6 == 0 },
    bytesAt bs 16 len)

/-- Whether a request stands at the head of its front end; what a ring holds is the host's to say, as far as its units
allow. -/
def State.standsFirst (s : State) (q : Req) (op : DictOp) (v : List Byte) : Bool :=
  match q.fe with
  | .page p =>
    let x := s.page p.val
    s.offers p.val && (p.val == 0 || s.nextPage == some p.val) &&
      msgUnits (min q.len.toNat 4096) ≤ ringUsed 512 x.drqHead x.drqTail
  | fe => match s.dict.queued.find? (fun m => frontPlace m.fe == frontPlace fe) with
    | some m =>
      let (c, r, w) := parseMsg m.fe m.bytes
      m.fe == fe && r == q && (!opDefined q || (c == op.code && (op != .write || w == v)))
    | none => false

/-- Whether the primary half's Sett serves (R465). -/
def State.settServes (s : State) : Bool := s.repair.settServes

/-- A message in a ring of `units` units of 64 bytes, from the unit `at_` on (R454): the bytes behind its end stay. -/
def ringPut (units : Nat) (m : KMap Nat) (at_ : Nat) (bs : List Byte) : KMap Nat :=
  (List.range (ceilDiv bs.length 8)).foldl (fun m i =>
    let key := (8 * at_ + i) % (8 * units)
    let k := min 8 (bs.length - 8 * i)
    kput 0 m key (natAt bs (8 * i) k + kget 0 m key / 2 ^ (8 * k) * 2 ^ (8 * k))) m

/-- The bytes of a request whose reserved header fields are zero (R448). -/
def reqBytes (q : Req) (v : List Byte) : List Byte :=
  [q.opc, 0] ++ toLE 2 q.tag.toNat ++ toLE 2 q.index.toNat ++ [q.element, 0] ++ toLE 2 q.len.toNat ++ toLE 6 0 ++ v

/-- A request of a ring page as it stands in the ring where it is consumed (R452, R454). One with a reserved field that is not zero is told in no
more detail. -/
def State.ringHolds (s : State) (q : Req) (v : List Byte) : State :=
  match q.fe with
  | .page p =>
    let x := s.page p.val
    if q.clean then s.setPage p.val { x with req := ringPut 512 x.req x.drqHead (reqBytes q v) } else s
  | _ => s

/-- The request leaves its front end, whose turn it was; one of a ring page travels from the host interface to the Sett (R357, R367). -/
def State.takeReq (s : State) (q : Req) : State :=
  let d := { s.dict with turn := frontPlace q.fe }
  match q.fe with
  | .page p =>
    let x := s.page p.val
    let s := { s with dict := if p.val = 0 then d else { d with lastPage := p.val } }
    (s.setPage p.val { x with drqHead := (x.drqHead + msgUnits (min q.len.toNat 4096)) % 512 }).say 1 .frame s.hostEnd s.settEnd 0 p.val
  | fe => { s with dict := { d with queued := dropFirst (fun m => frontPlace m.fe == frontPlace fe) d.queued } }

/-! ### Responses -/

/-- Whether a response to a fabric request can still be sent under its job key (R457). -/
def State.keyLive (s : State) (src job : Nat) : Bool := s.fab.keys.any fun k => k.job == job && k.peer == src && k.live

/-- The bytes of a response (R448, R449). -/
def respBytes (q : Req) (c : Code) (v : List Byte) : List Byte :=
  [q.opc, 1] ++ toLE 2 q.tag.toNat ++ toLE 2 q.index.toNat ++ [q.element, 0] ++ toLE 2 v.length ++ toLE 2 c.toNat ++
    toLE 4 0 ++ v

/-- A frame of the dictionary goes from the Sett to an end (R357, R367). -/
def State.sayFrame (s : State) (dst : Option MeshEnd) (tag : Nat) : State := s.say (2 + s.settCore) .frame s.settEnd dst 0 tag

/-- Put a response out (R449, R453, R454, R457, R602). -/
def State.deliver (s : State) (q : Req) (c : Code) (v : List Byte) : State :=
  let v := if c = kOk then v else []
  let out := s.emit (.response q c v)
  match q.fe with
  | .page p =>
    let x := s.page p.val
    let s := (out.sayFrame s.hostEnd p.val).setPage p.val
      { x with drsTail := (x.drsTail + msgUnits v.length) % 448, rsp := ringPut 448 x.rsp x.drsTail (respBytes q c v) }
    if x.irqEn then s.raise (1 + p.val) else s
  | .tray => out
  | .fabric src job =>
    let out := match s.pickLink src.toNat job.toNat 0 .engine with
      | .ok (l, _) => out.sayFrame (s.floorEnd (l / 2) 0) q.tag.toNat
      | .error _ => out
    if s.keyLive src.toNat job.toNat then out.sendDict src.toNat job.toNat (respBytes q c v) else s.bump 0x0110 7
  | .secured id => if s.trust.sessions.any fun x => x.id == id then out else s

/-- The response to a request that has been executed goes out; one to a fabric request whose job key has been destroyed since it came is dropped
and counted (R457). -/
def State.deliverNext (s : State) (q : Req) (c : Code) (v : List Byte) : State :=
  if s.dict.cut.contains q.fe then
    ({ s with dict := { s.dict with cut := dropFirst (· == q.fe) s.dict.cut } } : State).bump 0x0110 7
  else s.deliver q c v

/-- The responses that can go out, in the order of each front end's requests (R454): one that waits holds back only its own
front end's. -/
def State.flush (s : State) : State :=
  let (s, keep) := s.dict.waiting.foldl (fun (s, keep) r =>
    match r.answer with
    | some (c, v) => if keep.any fun k : Resp => k.q.fe == r.q.fe then (s, keep ++ [r]) else (s.deliverNext r.q c v, keep)
    | none => (s, keep ++ [r])) ((s, []) : State × List Resp)
  { s with dict := { s.dict with waiting := keep } }

/-- A waiting response gets its answer. -/
def State.answer (s : State) (id : Nat) (c : Code) (v : List Byte := []) : State :=
  let w := s.dict.waiting.map fun r => if r.id = id then { r with answer := some (c, v) } else r
  ({ s with dict := { s.dict with waiting := w } } : State).flush

/-- What an element's own work answers: a code with a payload now, or later, once the work of the response named is done. -/
inductive Ans where
  | now (c : Code) (v : List Byte)
  | later

/-- A request leaves its front end to be executed: it is counted, and its response numbered (R461, R462). -/
def State.beginReq (s : State) (q : Req) (v : List Byte) : State :=
  let s' := ((s.ringHolds q v).takeReq q).bump 0x0110 0
  { s' with dict := { s'.dict with nextId := s.dict.nextId + 1 } }

/-- A request's work is done: its response goes out as soon as those before it have (R449, R454); a conflict is counted (R462). -/
def State.reply (s : State) (id : Nat) (q : Req) (c : Code) (v : List Byte) : State :=
  let s := if c = kConflict then s.bump 0x0110 1 else s
  ({ s with dict := { s.dict with waiting := s.dict.waiting ++ [{ id := id, q := q, answer := some (c, v) }] } } : State).flush

/-- A request's response waits for work that goes on (R335, R446, R503). -/
def State.await (s : State) (id : Nat) (q : Req) : State :=
  ({ s with dict := { s.dict with waiting := s.dict.waiting ++ [{ id := id, q := q, answer := none }] } } : State).flush

/-- The end of a request as a command, with what its own work answers. -/
def finishReq (id : Nat) (q : Req) (r : Ans × State) : State :=
  match r.1 with
  | .now c v => r.2.reply id q c v
  | .later => r.2.await id q

/-- A request as a command (R449, R451, R461, R462): `run` is the element's own work, given the number its response has. -/
def request (q : Req) (op : DictOp) (v : List Byte) (permit : Bool) (run : Nat → State → Ans × State) (s : State) :
    Out State :=
  need .badFact (q.opc.toNat == op.code || !opDefined q) <| need .badFact (v.length == q.len.toNat || !opDefined q || 4096 < q.len.toNat) <|
    need .notItsTurn (s.settServes && s.turnPlace == some (frontPlace q.fe) && s.standsFirst q op v) <|
      .next (finishReq s.dict.nextId q (match s.checkReq q op v permit with
        | some c => (Ans.now c [], s.beginReq q v)
        | none => run s.dict.nextId (s.beginReq q v)))

/-- A write to one of the elements that have a command of their own; any other element is another command's. -/
def requestOf (els : List (Nat × Nat)) (q : Req) (v : List Byte) (run : Nat → State → Ans × State) (s : State) : Out State :=
  need .otherRow (els.contains (q.index.toNat, q.element.toNat)) <| request q .write v true run s

/-- A refusal with no effect. -/
def refuse (c : Code) (s : State) : Ans × State := (.now c [], s)
/-- Success with no payload. -/
def done (s : State) : Ans × State := (.now kOk [], s)

/-- A persistent write that has taken effect (R446): its response waits for the commit; where nothing has changed there is
none. -/
def persist (id : Nat) (old : List (Nat × Nat × List Byte)) (changed : Bool) (s : State) : Ans × State :=
  if changed then (.later, { s with dict := { s.dict with commits := s.dict.commits ++ [{ id := some id, old := old }] } })
  else done s

/-- A persistent element that is a register is written (R446). -/
def persistReg (id ix el v : Nat) (s : State) : Ans × State :=
  let w := match elemRow ix el with | some r => r.lmax | none => 8
  persist id [(ix, el, toLE w (s.reg ix el))] (s.reg ix el != v) (s.setReg ix el v)

end Sys2Proof.Machine
end

