-- ==== Sys2Proof/Machine/Interrupts.lean ====
section
/-! DEFINITION. Machine/Interrupts.lean: the interrupt controller and the mailboxes as commands (chapter 14). -/

namespace Sys2Proof.Machine

open Sys2Proof

/-- SOURCE_OCCURRENCE (R563, R569): an occurrence of an event source, or a level source's condition. Numbers 0 and 2,005 to
2,047 are never raised. -/
def execSourceOccurrence (n : Fin 2048) (cond : Bool) (s : State) : Act := occurs s <|
  need .badFact (n.val != 0 && n.val ≤ 2004) <|
    .next (s.level n.val cond)

/-- NOTIFICATION (R577, R579): a Sett core's line is asserted, or an MSI-X message goes out; under a mask the vector's
Pending Bit is set instead. -/
def execNotification (t : TgtIx) (s : State) : Act := occurs s <|
  need .noSuch (s.ic.notifiable t.val) <|
    let s := { s with ic := s.ic.notify t.val }
    if t.val < 2048 then
      if kget false s.ic.unmasked t.val && !s.ic.fnMask then .next (s.emit (.msix t.val))
      else .next { s with ic := { s.ic with pba := kput false s.ic.pba t.val true } }
    else .next (s.say 1 .interrupt s.hostEnd (some (coreEnd (t.val - 2048))) 0 t.val)

/-- MODERATION_TIME_EXPIRY (R579): the time since F has come to TIME, or that since D to HOLDOFF. Times stand still while the
domain sleeps (R582). -/
def execModerationTimeExpiry (t : TgtIx) (g : Fin 64) (holdoff : Bool) (s : State) : Act := occurs s <|
  let m := s.ic.mod t.val g.val
  need .noSuch (!(s.ic.dom (domainOf t.val)).asleep && (if holdoff then m.last == .running else m.first != .passed)) <|
    let m := if holdoff then { m with last := .passed } else { m with first := .passed }
    .next { s with ic := s.ic.setMod t.val g.val m }

/-- IC_CLAIM (R571, R573). -/
def execIcClaim (t : TgtIx) (s : State) : Act := occurs s <|
  let (n, ic) := s.ic.claim t.val
  .next (({ s with ic := ic } : State).emit (.claimed t.val n))

/-- IC_COMPLETE (R575): a source that is not active on the target is counted. -/
def execIcComplete (t : TgtIx) (v : BitVec 32) (s : State) : Act := occurs s <|
  let n := v.toNat % 2048
  let x := s.ic.src n
  if x.act && x.owner == t.val then .next { s with ic := Ic.settle s.ic (s.ic.endClaim n t.val) }
  else .next { s with ic := { s.ic with badComplete := bvInc s.ic.badComplete } }

/-- Whether a write comes from the host. -/
def isHost : Writer → Bool
  | .host => true
  | .sett _ => false

/-- IC_SRC_CFG (R566, R568, R576), IC_GRP_CFG (R578) and IC_DOM (R581): a write of one of them. Numbers that name no source
take no write (R563, R482). -/
def execIcSrcCfg (r : IcReg) (v : BitVec 64) (who : Writer) (s : State) : Act := occurs s <|
  match r with
  | .source n =>
    if n.val = 0 ∨ 2045 < n.val then .next s else .next { s with ic := s.ic.writeCfg n.val v (isHost who) }
  | .group g => .next { s with ic := s.ic.writeGroup g.val v }
  | .domain d => .next { s with ic := s.ic.writeDom d.val (v.toNat.testBit 0) }

/-- CLR (R567): a write of IC_SRC_STAT with bit 32 set. -/
def execClr (n : Fin 2048) (v : BitVec 64) (s : State) : Act := occurs s <|
  if v.toNat.testBit 32 && n.val != 0 && n.val ≤ 2045 then .next { s with ic := s.ic.clr n.val } else .next s

/-- IC_THRESH (R572). -/
def execIcThresh (t : TgtIx) (v : BitVec 32) (s : State) : Act := occurs s <|
  let c := s.ic
  .next { s with ic := Ic.settle c (c.setTgt t.val { c.tgt t.val with thresh := v.toNat % 16 }) }

/-- DOMAIN_SLEEP (R580, R582): a Sett core's firmware puts its core to sleep; domain 0 sleeps while the function is in
D3hot. -/
def execDomainSleep (d : Fin 5) (s : State) : Act := occurs s <|
  need .chipPhase (!(s.ic.dom d.val).asleep && (d.val != 0 || s.host.d3hot)) <|
    .next { s with ic := s.ic.sleep d.val }

/-- DOMAIN_WAKE (R583): a wake event takes effect. Domain 0 sends a PME message when PME_En is 1 and stays asleep until the
function is in D0. -/
def execDomainWake (d : Fin 5) (pmeEn : Bool) (s : State) : Act := occurs s <|
  let x := s.ic.dom d.val
  need .noSuch (x.asleep && x.wake) <|
    let ic := { s.ic.setDom d.val { x with wake := false, asleep := d.val == 0 } with wakes := bvInc s.ic.wakes }
    let s := { s with ic := ic }
    .next (if d.val = 0 && pmeEn then s.emit .pme else s)

/-- A mailbox channel. -/
def Ic.box (c : Ic) (n : Nat) : Mbx := kget {} c.mbx n
/-- Set a mailbox channel. -/
def Ic.setBox (c : Ic) (n : Nat) (x : Mbx) : Ic := { c with mbx := kput {} c.mbx n x }

/-- The code of a writer in WSRC (R586). -/
def writerCode : Writer → Nat
  | .host => 0
  | .sett c => c.val + 1

/-- MBX_DATA (R587): a 64-bit word is offered; a write while FULL, or a narrower one, is discarded. -/
def execMbxData (c : Fin 64) (v : BitVec 64) (who : Writer) (wide : Bool) (s : State) : Act := occurs s <|
  let x := s.ic.box c.val
  if x.full || !wide then
    .next { s with ic := { s.ic.setBox c.val { x with ovf := true } with mbxOverflows := bvInc s.ic.mbxOverflows } }
  else
    let x := { x with data := v, full := true, ackd := false, ovf := false, seq := x.seq + 1, wsrc := writerCode who }
    let ic := { s.ic.setBox c.val x with mbxAccepted := bvInc s.ic.mbxAccepted }
    .next ((({ s with ic := ic.mbxWake x.rxdom } : State)).level (1685 + c.val) true)

/-- MBX_ACK (R588). -/
def execMbxAck (c : Fin 64) (v : BitVec 32) (s : State) : Act := occurs s <|
  let x := s.ic.box c.val
  if x.full then
    let ic := s.ic.setBox c.val { x with full := false, ackd := true, ackCode := v.truncate 16 }
    .next ((({ s with ic := ic } : State).level (1685 + c.val) false).raise (1749 + c.val))
  else .next { s with ic := { s.ic with mbxStrayAcks := bvInc s.ic.mbxStrayAcks } }

/-- MBX_CFG (R585, R588): RXDOM, kept as written; no domain 5 to 7 exists. -/
def execMbxCfg (c : Fin 64) (v : BitVec 32) (s : State) : Act := occurs s <|
  let x := s.ic.box c.val
  if x.full then .next s else .next { s with ic := s.ic.setBox c.val { x with rxdom := v.toNat % 8 } }

/-- Send the pending message of a vector that is no longer masked (R577). -/
def State.sendPending (s : State) (v : Nat) : State :=
  if kget false s.ic.pba v && kget false s.ic.unmasked v && !s.ic.fnMask then
    ({ s with ic := { s.ic with pba := kput false s.ic.pba v false } } : State).emit (.msix v)
  else s

/-- MSI_X_VECTOR_CONTROL (R577): a vector's Mask bit, or the Function Mask, is written. -/
def execMsiXVectorControl (v : Option (Fin 2048)) (mask : Bool) (s : State) : Act := occurs s <|
  match v with
  | some v =>
    .next (({ s with ic := { s.ic with unmasked := kput false s.ic.unmasked v.val (!mask) } } : State).sendPending v.val)
  | none =>
    let s := { s with ic := { s.ic with fnMask := mask } }
    .next ((kkeys s.ic.pba).foldl State.sendPending s)

end Sys2Proof.Machine
end

