-- ==== Sys2Proof/Machine/RepairOps.lean ====
section
/-! DEFINITION. Machine/RepairOps.lean: where logical tiles lie, which blocks can be placed, and fencing a tile (R673 to R682). -/

namespace Sys2Proof.Machine

open Sys2Proof

/-- Whether two places lie three or more apart (R675). -/
def farApart (a b : Option Nat) : Bool :=
  match a, b with
  | some p, some q => p + 3 ≤ q || q + 3 ≤ p
  | _, _ => false

/-- Whether a tile and a logical neighbour in its row half are split (R675). -/
def Repair.split (r : Repair) (t : Nat) : Bool :=
  let here := r.placeOf t
  let c := colOf t
  (c != 0 && c != 64 && farApart here (r.placeOf (t - 1))) || (c != 63 && c != 127 && farApart here (r.placeOf (t + 1)))

/-- Whether a tile keeps its placement block from being used (R675); a well that failed training takes its blocks with it (R713). -/
def State.tileBad (s : State) (t : Nat) : Bool :=
  (s.tile t).fenced || (s.repair.placeOf t).isNone || s.repair.split t || s.reg (0x300 + wellOf t) 0 == 0

/-- The tiles of a block. -/
def blockTiles (b : Nat × Nat) : List Nat := ({ bc := b.1, br := b.2, w := 1, h := 1 } : Rect).tiles

/-- The blocks of a rectangle. -/
def Rect.blocks (q : Rect) : List (Nat × Nat) :=
  (List.range q.h).flatMap fun y => (List.range q.w).map fun x => (q.bc + x, q.br + y)

/-- Whether a block is available (R675, R704). -/
def State.blockAvail (s : State) (b : Nat × Nat) : Bool := !(blockTiles b).any s.tileBad

/-- Whether a row half has a repair pending. -/
def Repair.pendingAt (r : Repair) (key : Nat) : Bool := kget [] r.faulty key != kget [] r.applied key

/-- Whether a repair is pending anywhere: the condition of source 1,942 (R705). -/
def Repair.pending (r : Repair) : Bool := (kkeys r.faulty).any r.pendingAt

/-- Insert a faulty position where it stands from the seam outward. -/
def addFaulty (key p : Nat) (l : List Nat) : List Nat :=
  if l.contains p then l
  else if key % 2 = 0 then l.filter (p < ·) ++ [p] ++ l.filter (· < p)
  else l.filter (· < p) ++ [p] ++ l.filter (p < ·)

/-- A tile's position becomes faulty, with the repair pending (R679). -/
def Repair.mark (r : Repair) (t : Nat) : Repair :=
  match r.placeOf t with
  | some p => { r with faulty := kmod [] r.faulty (rowHalf t) (addFaulty (rowHalf t) p) }
  | none => r

/-- Spare positions left in a row half (R12, R704). -/
def Repair.sparesLeft (r : Repair) (key : Nat) : Nat := 2 - (kget [] r.faulty key).length

/-- WARN (R704): a row half without a spare position, a bank or array without a spare row, a well with fewer than 4 spare shafts, a
link's spare lane in use, a retired Sett array. -/
def State.warn (s : State) : Nat :=
  (if (kkeys s.repair.faulty).any fun k => s.repair.sparesLeft k == 0 then 1 else 0) +
    (if s.reg 0x0102 2 = 0 then 2 else 0) +
    (if (List.range 16).any fun w => s.reg (0x300 + w) 7 < 4 then 4 else 0) +
    (if s.fab.links.any fun (_, x) => x.spareUsed then 8 else 0) + (if s.repair.settRetired.isEmpty then 0 else 16)

/-- The level source of WARN (R705) follows it. -/
def State.settleWarn (s : State) : State := s.level 1943 (s.warn != 0)

/-- REG_PHASE is held at 1 (R381). -/
def State.holdPhase (s : State) : State :=
  match s.repair.heldPhase with
  | some _ => s
  | none =>
    let v := s.reg 0x2300 0
    ({ s with repair := { s.repair with heldPhase := some v } } : State).setReg 0x2300 0 1

/-- REG_PHASE gets its previous value back, unless a half reset or a contents-preserving march run still holds it (R381). -/
def State.freePhase (s : State) : State :=
  let half := s.repair.resets.any fun x => x.dom == .half .west || x.dom == .half .east
  let keeps (m : Option March) : Bool := match m with | some m => m.preserving | none => false
  match s.repair.heldPhase with
  | some v =>
    if half || keeps s.repair.marchWest || keeps s.repair.marchEast then s
    else ({ s with repair := { s.repair with heldPhase := none } } : State).setReg 0x2300 0 v
  | none => s

/-- The effects of a fence on a tile (R679, R681): it issues no more; if its den runs, the den is FAULTED with the code. A
fence that is not the host's makes its position faulty, with the repair pending. -/
def State.fenceTile (s : State) (t : Nat) (code : Code) (byHost : Bool) (i : FaultInfo) : State :=
  let s := s.modTile t fun x => { x with fenced := true }
  let s := { s with repair := if byHost then { s.repair with hostFenced := s.repair.hostFenced ++ [t] } else s.repair.mark t }
  let s := ((s.raise 1941).level 1942 s.repair.pending).settleWarn
  match s.slotOf t with
  | some slot => if (s.den slot).phase = .running then s.tileFault slot t code i else s
  | none => s

/-- A pending repair of a row half is applied (R682): its tiles move outward past the faulty positions, and the fences that
went with them are over. -/
def State.applyRow (s : State) (key : Nat) : State :=
  if s.repair.pendingAt key then
    let mine (t : Nat) : Bool := rowHalf t == key && (s.tile t).fenced && !s.repair.hostFenced.contains t
    let hit := (kkeys s.tiles).filter mine
    let s := hit.foldl (fun s t => s.modTile t fun x => { x with fenced := false, errs := [] }) s
    let r := { s.repair with applied := kput [] s.repair.applied key (kget [] s.repair.faulty key), routesStale := true }
    ({ s with repair := r } : State).level 1942 r.pending
  else s

/-! ### Routes computed (R363, R364) -/

/-- The routers that some source row cannot reach, with that row (R363); with no dead router there is none. -/
def Repair.lostRouters (r : Repair) : List (Nat × Nat × Nat) :=
  if r.dead.isEmpty then []
  else ((List.range 64).flatMap fun y => (List.range 132).flatMap fun p => (List.range 64).map fun a => (p, y, a)).filter
    fun (p, y, a) => (r.turnColumn (132 * a) (132 * y + p)).isNone

/-- The vertical ports of a floor that are off (R38, R363). -/
def Repair.portsOff (r : Repair) (lost : List (Nat × Nat × Nat)) (floor : Nat) : Nat :=
  (List.range 16).foldl (fun v k =>
    let p := portPlace floor k
    if r.dead.contains p || lost.any (fun x => (x.1, x.2.1) == p) then v + 2 ^ k else v) 0

/-- The routes, with the routers and ports they leave out, computed from the repair map (R362 to R364). -/
def State.computeRoutes (s : State) : State :=
  let r := s.repair
  let lost := r.lostRouters
  let ports := (List.range 16).foldl (fun m f => kput 0 m f (r.portsOff lost f)) ([] : KMap Nat)
  { s with repair := { r with unreachable := lost, vportOff := ports, routesStale := false } }

/-- Whether the mesh carries nothing. -/
def Mesh.idle (m : Mesh) : Bool :=
  (m.queues.all fun (_, l) => l.isEmpty) && (m.bufs.all fun (_, l) => l.isEmpty) && m.flying.isEmpty

/-- ROUTE_COMPUTE (R362 to R364): the routes follow a change of the repair map, while they carry no traffic. -/
def execRouteCompute (s : State) : Act := occurs s <|
  need .chipPhase (s.repair.routesStale && s.mesh.idle) <| .next s.computeRoutes

/-- Whether all vertical ports of a floor are off, so that its cisterns and links are unavailable (R39). -/
def State.floorOff (s : State) (floor : Nat) : Bool := kget 0 s.repair.vportOff floor == 0xFFFF

end Sys2Proof.Machine
end

