-- ==== Sys2Proof/Machine/Mesh.lean ====
section
/-! DEFINITION. Machine/Mesh.lean: packets, routes, vertical ports, and one MCLK cycle of the mesh (R35 to R38, R352 to R370). -/

namespace Sys2Proof.Machine

open Sys2Proof

/-! ### Line requests and messages -/

/-- The end at which a target is reached by a pump (R37, R235, R275): the tile over a shaft, whose pump serves it, or the nearest port where
a spare serves the shaft or its copy runs; the port of a line of a cistern, of the host or of a window, which lies on the floor of
its link. -/
def State.targetEnd (s : State) (slot : Nat) : Target → Option MeshEnd
  | .well a => s.wellEnd a
  | .cistern a => s.cisternPort a
  | .host a => s.floorEnd 0 a
  | .window w off =>
    match s.window w with
    | some e => (match s.denLink slot e with
      | .ok (l, _) => s.floorEnd (l / 2) off
      | .error _ => none)
    | none => none

/-- A line request leaves a tile (R354, R357). Its own shaft is reached without the mesh. -/
def State.askLine (s : State) (slot t tag : Nat) (k : LineKind) (lines : Nat) (x : Target) (data : List Byte) : State :=
  s.say 0 (lineAsk k) (s.tileEnd t) (s.targetEnd slot x) slot tag lines data

/-- A descriptor misses (R330): it takes a miss slot, if it can, and its fill request leaves. -/
def State.pumpAsks (s : State) (slot t tag va : Nat) : State :=
  if (s.tile t).pump.misses.any (·.tag == tag) || 4 ≤ (s.tile t).pump.misses.length then s
  else (s.pumpMiss t tag va).sayFill slot (.pump (Fin.ofNat 8192 t)) tag va true

/-- A tile reports its stop (R405). -/
def State.reportStop (s : State) (slot t : Nat) : State :=
  match s.post 0 .stepEnd (s.tileEnd t) s.hostEnd slot (s.den slot).stepCount.toNat with
  | some m => { s with mesh := m }
  | none => s.modDen slot fun d => { d with stops := d.stops + 1 }

/-- The extent directory tells the recipients of an invalidation (R335), each copy those of its half (DESIGN CHOICE, log entry 182). -/
def State.tellAll (s : State) (slot seq : Nat) (whos : List Agent) : State :=
  whos.foldl (fun s who =>
    s.say (if s.agentEast who then 7 else 6) .invalidate (s.dirEnd slot who 0) (s.agentEnd who) slot seq) s

/-- A report of an invalidation counts (R368). -/
def Den.heard (d : Den) (seq n : Nat) : Den :=
  { d with invals := d.invals.map fun v => if v.seq = seq then { v with got := v.got + n } else v }

/-- A recipient reports that it has drained (R335). -/
def State.reportInval (s : State) (slot seq : Nat) (who : Agent) : State :=
  match s.post (if who = .sett then 2 + s.settCore else agentCode who) .report (s.agentEnd who) (s.dirEnd slot who 0) slot seq with
  | some m => { s with mesh := m }
  | none => s.modDen slot fun d => d.heard seq 1

/-- What an ejected report brings its destination (R368, R405). -/
def State.hear (s : State) (f : Flit) : State :=
  match f.kind with
  | .report => s.modDen f.slot fun d => d.heard f.tag f.count
  | .stepEnd => s.modDen f.slot fun d =>
      if d.stepActive && d.stepCount.toNat == f.tag then { d with stops := d.stops + f.count } else d
  | _ => s

/-! ### One cycle (R357, R358, R360, R365) -/

/-- The key of an input buffer. -/
def bufKey (router port vc : Nat) (classB : Bool) : Nat := ((9 * router + port) * 4 + vc) * 2 + (if classB then 1 else 0)

/-- The flits that an input buffer holds (R357). -/
def bufRoom (vc : Nat) : Nat := if vc = 0 then 2 else 4

/-- Whether an input buffer takes one more flit, those on their way to it counted. -/
def Mesh.roomIn (m : Mesh) (key vc : Nat) : Bool :=
  (kget [] m.bufs key).length + (m.flying.filter fun x => x.2.1 == key).length < bufRoom vc

/-- The flit at the head of a requester of an output: requester 2 × input port + class. -/
def Mesh.head (m : Mesh) (here vc q : Nat) : Option Flit := (kget [] m.bufs (bufKey here (q / 2) vc (q % 2 == 1))).head?

/-- Whether an output leads over a mesh crossing of the seam that is out of service, which carries nothing (R209). -/
def crossingOut (off : List Nat) (here out : Nat) : Bool :=
  out < 6 && seamHop here (beyond here out).1 && off.contains (crossKey (here / 132) (out == 1 || out == 4))

/-- Whether a requester can send its head flit over an output now: it goes there, and there is room beyond. -/
def Mesh.ready (m : Mesh) (r : Repair) (off : List Nat) (here out vc q : Nat) : Bool :=
  match m.head here vc q with
  | some f =>
    (r.route f here).1 == out && !crossingOut off here out &&
      (6 ≤ out || m.roomIn (bufKey (beyond here out).1 (beyond here out).2 vc (r.route f here).2) vc)
  | none => false

/-- The requesters of an output in the order in which a channel serves them (R358): the input ports in round-robin from the one after the
port served last; of a port's two classes the one not served last at that port. -/
def Mesh.turns (m : Mesh) (key : Nat) : List Nat :=
  (List.range 9).flatMap fun i =>
    let p := (kget 0 m.lastIn key + 1 + i) % 9
    let c := kget 1 m.lastClass (9 * key + p)
    [2 * p + (1 - c), 2 * p + c]

/-- The requester that a channel serves at an output (R358): the one whose packet has begun; else the next in turn. -/
def Mesh.choose (m : Mesh) (r : Repair) (off : List Nat) (here out vc : Nat) : Option Nat :=
  let key := (9 * here + out) * 4 + vc
  match kget none m.owner key with
  | some q => if m.ready r off here out vc q then some q else none
  | none => (m.turns key).find? (m.ready r off here out vc)

/-- The weight of a channel in the deficit round-robin (R358). -/
def vcWeight (vc : Nat) : Nat := [0, 2, 3, 1].getD vc 0

/-- The channel and requester that an output grants (R358): VC0 ahead of all; then the channel under service while it has flits of its
weight left, then the others in turn, a channel with nothing waiting giving up its share. -/
def Mesh.grant (m : Mesh) (r : Repair) (off : List Nat) (here out : Nat) : Option (Nat × Nat × Nat) :=
  match m.choose r off here out 0 with
  | some q => some (0, q, 0)
  | none =>
    let (vc, left) := kget (1, 2) m.drr (9 * here + out)
    let order := (if left = 0 then [] else [(vc, left)]) ++ (List.range 3).map fun i => ((vc + i) % 3 + 1, vcWeight ((vc + i) % 3 + 1))
    order.findSome? fun (v, n) => (m.choose r off here out v).map fun q => (v, q, n - 1)

/-- A granted flit leaves its buffer: it is ejected at port L, V or K, or flies to the next router. A skip link takes two cycles, a turn
one more, the seam three more, where the crossing is taken for two cycles. -/
def Mesh.move (m : Mesh) (r : Repair) (here out vc q left : Nat) (f : Flit) : Mesh :=
  let src := bufKey here (q / 2) vc (q % 2 == 1)
  let key := (9 * here + out) * 4 + vc
  let m := { m with bufs := kmod [] m.bufs src (·.drop 1), owner := kput none m.owner key (if f.last then none else some q),
                    lastIn := kput 0 m.lastIn key (q / 2), lastClass := kput 1 m.lastClass (9 * key + q / 2) (q % 2),
                    drr := if vc = 0 then m.drr else kput (1, 2) m.drr (9 * here + out) (vc, left) }
  if 6 ≤ out then { m with arrived := m.arrived ++ [(m.clock + (if vc = 0 then 4 else 5), f)] }
  else
    let (next, port) := beyond here out
    let seam := seamHop here next
    let time := (if out < 4 then 1 else 2) + (if f.turns here then 1 else 0) + (if seam then 3 else 0)
    let b := (r.route f here).2
    { m with flying := m.flying ++ [(m.clock + time, bufKey next port vc b, { f with classB := b })],
             taken := if seam then kput 0 m.taken (9 * here + out) (m.clock + 2) else m.taken }

/-- One output port in one cycle. -/
def Mesh.output (r : Repair) (off : List Nat) (here : Nat) (m : Mesh) (out : Nat) : Mesh :=
  if m.clock < kget 0 m.taken (9 * here + out) then m
  else match m.grant r off here out with
    | some (vc, q, left) => match m.head here vc q with
      | some f => m.move r here out vc q left f
      | none => m
    | none => m

/-- A router's outputs in one cycle; a dead router forwards nothing. -/
def Mesh.router (r : Repair) (off : List Nat) (m : Mesh) (here : Nat) : Mesh :=
  if r.dead.contains (here % 132, here / 132) then m else (List.range 9).foldl (Mesh.output r off here) m

/-- Flits whose flight ends enter their buffers. -/
def Mesh.land (m : Mesh) : Mesh :=
  let done := m.flying.filter fun x => x.1 ≤ m.clock
  done.foldl (fun m x => { m with bufs := kmod [] m.bufs x.2.1 (· ++ [x.2.2]) })
    { m with flying := m.flying.filter fun x => m.clock < x.1 }

/-- Injection at one port and channel (R357, R367): the oldest flit enters its input buffer, in class A, if there is room and the agent's
VC0 limit allows it. A VC0 flit's stamp is that of its injection, the cycles of the synchroniser with it (R365, R369). -/
def Mesh.inject (m : Mesh) (key : Nat) : Mesh :=
  match kget [] m.queues key with
  | [] => m
  | w :: ws =>
    let (period, burst) := vc0Limit w.agent
    let limited := w.flit.vc == 0 && w.agent != 0
    let paid := max m.clock (kget 0 m.paid w.agent)
    if m.clock < w.ready ∨ m.roomIn (2 * key) w.flit.vc = false ∨ (limited ∧ m.clock + (burst - 1) * period < paid) then m
    else
      let flit := if w.flit.vc = 0 then { w.flit with stamp := BitVec.ofNat 16 (m.clock - 4) } else w.flit
      { m with queues := kput [] m.queues key ws, bufs := kmod [] m.bufs (2 * key) (· ++ [flit]),
               paid := if limited then kput 0 m.paid w.agent (paid + period) else m.paid }

/-- One MCLK cycle of the mesh, with the crossings of the seam that are out of service. VC1 to VC3 flits leave it as their ejection ends;
VC0 flits wait at their destination for it (R370). -/
def Mesh.cycle (m : Mesh) (r : Repair) (off : List Nat) : Mesh :=
  let m := ({ m with clock := m.clock + 1 } : Mesh).land
  let m := (kkeys m.queues).foldl Mesh.inject m
  let m := ((kkeys m.bufs).map (· / 72)).eraseDups.foldl (Mesh.router r off) m
  { m with arrived := m.arrived.filter fun (time, f) => f.vc == 0 || m.clock < time }

/-- The block's tick: one MCLK cycle of the mesh. It is what a step does on an empty queue (DESIGN CHOICE, log entry 1). -/
def State.tick (s : State) : State := { s with mesh := s.mesh.cycle s.repair s.seam.off }

/-! ### Reports that meet (R368) -/

/-- Whether two flits are reports of one kind and sequence for one destination. -/
def Flit.joins (a b : Flit) : Bool :=
  (a.kind == .report || a.kind == .stepEnd) && a.kind == b.kind && a.slot == b.slot && a.tag == b.tag && a.dst == b.dst

/-- The input buffers of a router on VC0. -/
def vc0Bufs (here : Nat) : List Nat := (List.range 18).map fun q => bufKey here (q / 2) 0 (q % 2 == 1)

/-- The VC0 flits that a router holds: each buffer and place in it. -/
def Mesh.vc0Held (m : Mesh) (here : Nat) : List (Nat × Nat × Flit) :=
  (vc0Bufs here).flatMap fun k => (kget [] m.bufs k).zipIdx.map fun (f, i) => (k, i, f)

/-- Where two of the VC0 flits that a router holds stand, if they are reports that can become one. -/
def Mesh.joinable (m : Mesh) (here i j : Nat) : Option ((Nat × Nat) × (Nat × Nat)) :=
  match (m.vc0Held here)[i]?, (m.vc0Held here)[j]? with
  | some (k, n, f), some (k', n', g) => if i < j ∧ f.joins g then some ((k, n), (k', n')) else none
  | _, _ => none

/-- Two reports become one, whose count is the sum (R368). -/
def Mesh.join (m : Mesh) (a b : Nat × Nat) : Mesh :=
  match (kget [] m.bufs b.1)[b.2]? with
  | none => m
  | some g =>
    let m := { m with bufs := kmod [] m.bufs a.1 fun l => l.modify a.2 fun f => { f with count := f.count + g.count } }
    { m with bufs := kmod [] m.bufs b.1 (·.eraseIdx b.2) }

/-! ### Commands -/

/-- VC0_EJECT (R364, R370): the flit numbered `i` of those at their destinations is ejected, after those sent before it from its source. The largest difference of its stamp and MCLK is
kept in VC0_PEAK, and a report counts. -/
def execVc0Eject (i : Nat) (s : State) : Act := occurs s <|
  needSome .noSuch s.mesh.arrived[i]? fun (time, f) =>
    need .noSuch (time ≤ s.mesh.clock && f.vc == 0 && !((s.mesh.arrived.take i).any fun (_, g) => g.vc == 0 && g.src == f.src && g.dst == f.dst)) <|
      let age := (BitVec.ofNat 16 time - f.stamp).toNat
      let s := { s with mesh := { s.mesh with arrived := s.mesh.arrived.eraseIdx i } }
      .next ((s.setReg 0x2300 3 (max (s.reg 0x2300 3) age)).hear f)

/-- REPORT_MERGE (R368): a router that holds two reports of one kind and sequence for one destination makes one of them, whose count is the
sum: here the `i`-th and the `j`-th flit of those it holds on VC0. -/
def execReportMerge (r : Fin 8448) (i j : Nat) (s : State) : Act := occurs s <|
  needSome .noSuch (s.mesh.joinable r.val i j) fun (a, b) =>
    .next (({ s with mesh := s.mesh.join a b } : State).bump 0x2300 4)

end Sys2Proof.Machine
end

