-- ==== Sys2Proof/Machine/FabFrames.lean ====
section
/-! DEFINITION. Machine/FabFrames.lean: frames that arrive at a link, as commands (R345 to R348, R498, R520, R529, R536 to R546,
R552 to R557). FRAME_RECEIVE checks a frame and puts it before its engine; the command of its kind does its work. -/

namespace Sys2Proof.Machine

open Sys2Proof

/-! ### Arrival (R520) -/

/-- The types and functions an RMW takes (R241). -/
def rmwTypeOk (func ety : Nat) : Bool :=
  (ety ≤ 1 || ety == 0x09 || ety == 0x0A) && (!(func == 3 || func == 4 || func == 5) || tyClass ety == .int)

/-- Whether a frame has a KIND, an OPC and a payload of R517. -/
def frameShape (f : Frame) : Bool :=
  let n := f.payload.length
  let a := frameArg f
  match frameKind f with
  | 0 =>
    frameOff f % 64 == 0 && (match frameOpc f with
      | 0 => n == 0 && bitsOf a 0 3 ≤ 3
      | 1 => 64 ≤ n && n ≤ 256 && n % 64 == 0
      | 2 => n == (if bitsOf a 0 3 = 7 then 136 else 72) && rmwTypeOk (bitsOf a 0 3) (bitsOf a 3 5)
      | 3 => 64 ≤ n && n ≤ 4096 && n % 64 == 0 && frameOff f % 4096 + n ≤ 4096
      | _ => false)
  | 1 => n % 64 == 0 && n ≤ 256
  | 2 => n == 16
  | 3 => 8 ≤ n && n ≤ 264
  | 4 => n == 920
  | 5 => n == 0
  | 6 => n == 40
  | 7 => n == 16
  | 8 => n == 16
  | _ => false

/-- Step 2 of R520. A payload that R517 does not allow is taken as a LEN that does not match (DEDUCED, log entry 44). -/
def frameWellFormed (f : Frame) : Bool :=
  hdrField f 0 4 == 1 && hdrField f 9 7 == 0 && hdrField f 24 8 == 0 && hdrField f 56 8 == 0 && hdrField f 88 8 == 0 &&
    hdrField f 376 8 == 0 && hdrField f 256 16 == f.payload.length && frameShape f

/-- Whether the fields that R517 and R536 leave unused in a control frame's payload are zero (R10). -/
def controlZero (f : Frame) : Bool :=
  let z (i n : Nat) : Bool := natAt f.payload i n == 0
  match frameKind f with
  | 2 => z 2 6 && bitsOf (natAt f.payload 8 8) 40 24 == 0
  | 3 => z 4 4
  | 4 => z 1 3 && z 12 4 && z 145 7
  | 6 => bitsOf (natAt f.payload 12 4) 1 31 == 0 && z 26 6
  | 7 => z 14 2
  | 8 => z 10 6
  | _ => true

/-- Whether a packet number is taken (R520, step 7): not seen, and within the last 8,192. -/
def Replay.takes (r : Replay) (pn : Nat) : Bool := r.top < pn + 8192 && !r.seen.contains pn && pn != 0

/-- A packet number is taken. -/
def Replay.note (r : Replay) (pn : Nat) : Replay :=
  let top := max r.top pn
  { top := top, seen := (pn :: r.seen).filter fun n => top < n + 8192 }

/-- Count a dropped frame of a link: the element of R559 that counts it. -/
def State.dropFrame (s : State) (l el : Nat) : State := s.bump (0x1000 + l) el

/-- A frame on a transit link for another endpoint goes on (R526); one that cannot is dropped and counted. -/
def State.forward (s : State) (l : Nat) (f : Frame) : State :=
  let hops := hdrField f 16 8
  if s.reg (0x1000 + l) 2 ≠ 1 ∨ hops ≤ 1 then s.dropFrame l 0x0E
  else match s.pickLink (frameDst f) (frameJob f) (frameRwin f) .transit with
    | .error _ => s.dropFrame l 0x0E
    | .ok (o, r) =>
      let exp := hdrField f 8 1 == 1
      let pcp := s.reg (0x1000 + o) 6
      s.transmit o .transit { f with
        dmac := r.mac (frameDst f) o, smac := macOf s.endpoint o, pcp := if exp then bitsOf pcp 0 3 else bitsOf pcp 8 3,
        vlan := s.reg (0x1000 + o) 7 % 4096, hdr := f.hdr - BitVec.ofNat 384 (2 ^ 16) }

/-- Inbound places of a link that are taken (R347, R378): by the requests that wait for their work, and by held transfers. -/
def Link.inbound (x : Link) (self : Nat) : Nat :=
  (x.rx.filter fun f => frameKind f == 0 && frameSrc f != self).length + x.places.length

/-- The marks that the lines of an inbound request carry (R377, R378, R431): the longest hold keeps the request's place; whether any of its
transfers was contended. -/
def State.keepPlace (s : State) (l slot : Nat) (vas : List Nat) : Bool × State :=
  let (ns, con, s) := vas.foldl (fun (acc : Nat × Bool × State) va =>
    let (h, s) := acc.2.2.takeMark slot (acc.2.2.vaCtl slot va)
    (max acc.1 h.ns, acc.2.1 || h.contended, s)) (0, false, s)
  (con, if ns = 0 then s else s.modLink l fun x => { x with places := x.places ++ [ns] })

/-- A response to a request (R517, R519), through the link it came by, to its source MAC. What a response header holds in OPC is
not stated: it repeats the request's (DESIGN CHOICE, log entry 41). Where the pair's keys are gone, or the link is down, it is
lost (R540, R512). -/
def State.respond (s : State) (l : Nat) (f : Frame) (st : Code) (data : List Byte) (contended : Bool := false) : State :=
  let m : Msg := { kind := 1, opc := frameOpc f, arg := st.toNat, tag := frameTag f, payload := data, contended := contended }
  let live := match s.pair (frameJob f) (frameSrc f) with | some k => k.live | none => frameSrc f == s.endpoint
  if !live || !(s.linkUp l || frameSrc f == s.endpoint) then s
  else match s.sendOn l f.smac (frameJob f) (frameSrc f) .engine false false m true with
    | .ok s => s
    | .error _ => s

/-- The key of a pair under which a frame's tag verifies (R520, R545). -/
def Pair.opens (k : Pair) (f : Frame) : TagKey :=
  if (frameOpened f k.rxKey).isSome then .live
  else match k.old with
    | some o => if (frameOpened f o.key).isSome then .old else .none
    | none => .none

/-- The bulk frames in a link's receive buffer, in bytes (R521); those turned around on the floor never reached it. -/
def Link.bulkBytes (x : Link) (self : Nat) : Nat :=
  (x.rx.filter fun f => hdrField f 8 1 == 0 && frameSrc f != self).foldl (fun n f => n + frameSize f) 0

/-- The bytes of the largest frame that a link may receive on the bulk channel (R514). -/
def bulkFrameMax : Nat := 4182

/-- Priority flow control as the link sends it (R521): a pause while its 1 MiB of receive buffer has no room for the largest bulk frame. When the
pause begins and ends is the model's choice (DESIGN CHOICE, log entry 194). -/
def State.settlePause (s : State) (l : Nat) : State :=
  let x := s.link l
  let full := 2 ^ 20 < x.bulkBytes s.endpoint + bulkFrameMax
  if full = x.pausing then s else (s.setLink l { x with pausing := full }).emit (.pfc l full)

/-- A frame that has passed R520 stands before its engine. A bulk frame for which the buffer has no room is lost, and counted in DROPS (R521,
log entry 194). -/
def State.putRx (s : State) (l : Nat) (f : Frame) : State :=
  if hdrField f 8 1 = 0 ∧ 2 ^ 20 < (s.link l).bulkBytes s.endpoint + frameSize f then s.dropFrame l 0x0E
  else (s.modLink l fun x => { x with rx := x.rx ++ [f] }).settlePause l

/-- The corrected FEC codewords that a frame brings are counted (R559). No row of the table tells of them: how many they are is a free value
(log entry 197). -/
def State.fecCount (s : State) (l : Nat) : State :=
  ({ s with fresh := s.fresh + 1 } : State).bump (0x1000 + l) 9 (Config.fecCorrected s.fresh)

/-- FRAME_RECEIVE (R513, R520, R522): the checks in order; a frame that passes stands before its engine, deciphered, and a request that finds the
384 inbound places full is answered BUSY (R348). While ENDPOINT_ID is 0 the links carry no frame of another chip either. A control frame whose
reserved payload fields are not zero is acted on in no part (R10); it is dropped and counted in DROPS, for no response carries RANGE (DEDUCED, log
entry 184). `key` is what the GCM check finds. -/
def execFrameReceive (l : LinkIx) (f : Frame) (fcsOk : Bool) (key : TagKey) (s : State) : Act := occurs s <|
  need .chipPhase (s.linkUp l.val) <|
    let s := s.fecCount l.val
    let x := s.link l.val
    let job := frameJob f
    let src := frameSrc f
    let compat := match s.job job with | some j => j.compat | none => false
    if !fcsOk then .next (s.dropFrame l.val 0x0A)
    else if f.etype.toNat ≠ s.reg 0x1100 1 ∨ f.dmac ≠ macOf s.endpoint l.val then .next s
    else if !frameWellFormed f ∨ s.endpoint = 0 then .next (s.dropFrame l.val 0x0E)
    else if frameDst f ≠ s.endpoint then .next (s.forward l.val f)
    else if frameKind f = 4 then
      if !controlZero f then .next (s.dropFrame l.val 0x0E) else .next (s.putRx l.val f)
    else match s.pair job src with
      | none => .next (s.dropFrame l.val 0x0B)
      | some k =>
        if !k.live then .next (s.dropFrame l.val 0x0B)
        else if !compat && (hdrField f 160 32 != s.incarnation % 2 ^ 32 || hdrField f 128 32 != k.inc.toNat % 2 ^ 32) then
          .next (s.dropFrame l.val 0x0C)
        else need .badFact (key == k.opens f) <|
          let rx := if key = .old then (match k.old with | some o => o.rx | none => k.rx) else k.rx
          let pn := hdrField f 192 64
          if !rx.takes pn then .next (s.dropFrame l.val 0x0D)
          else match frameOpened f (if key = .old then (match k.old with | some o => o.key | none => k.rxKey) else k.rxKey) with
            | none => .next (s.dropFrame l.val 0x0B)
            | some f =>
              let s := s.modPair job src fun k =>
                if key = .old then { k with old := k.old.map fun o => { o with rx := o.rx.note pn } }
                else { k with rx := k.rx.note pn }
              if !controlZero f then .next (s.dropFrame l.val 0x0E)
              else if frameKind f = 0 && 384 ≤ x.inbound s.endpoint then .next (s.respond l.val f kBusy [])
              else .next (s.putRx l.val f)

/-- The first frame that waits at a link and meets a test, taken; a pause that the link holds may end. -/
def State.takeRx (s : State) (l : Nat) (p : Frame → Bool) : Option (Frame × State) :=
  ((s.link l).rx.find? p).map fun f => (f, (s.modLink l fun x => { x with rx := dropFirst p x.rx }).settlePause l)

/-! ### Requests (R345, R346) -/

/-- Steps 1 to 5 of R345 for an access of some bytes. -/
def State.inboundCheck (s : State) (f : Frame) (size : Nat) (kind : LineKind) : Except Code WinEntry :=
  match s.window (frameRwin f) with
  | none => .error kWinNone
  | some e =>
    let d := s.den e.slot
    if !e.inbound then .error kWinNone
    else if e.job ≠ frameJob f ∨ (!e.anySrc && e.peer != frameSrc f) then .error kWinJob
    else if !e.opened || !(d.phase == .loaded || d.phase == .running || d.phase == .frozen) then .error kWinClosed
    else if e.len < frameOff f + size then .error kWinRange
    else if !e.allows kind then .error kWinRights
    else .ok e

/-- Steps 6 and 7 of R345 for one line. -/
def State.inboundLine (s : State) (l slot line : Nat) (kind : LineKind) : Option Code × State :=
  match s.engineLookup l slot line with
  | (none, s) => (some kExtNone, s)
  | (some e, s) =>
    if !e.allows kind then (some kExtRights, s)
    else match e.target line with
      | .well _ | .cistern _ => (none, s)
      | _ => (some kWinTarget, s)

/-- The translation of every line of a request, before any access (R345). -/
def State.inboundLines (s : State) (l slot : Nat) (kind : LineKind) : List Nat → Option Code × State
  | [] => (none, s)
  | a :: as =>
    match s.inboundLine l slot a kind with
    | (some c, s) => (some c, s)
    | (none, s) => State.inboundLines s l slot kind as

/-- The accesses of a request (R346): line by line, up to the first error. -/
def State.inboundRun (s : State) (l slot : Nat) (kind : LineKind) (ms : List LineMeet) :
    List (Nat × Access) → List Byte → Code × List Byte × State
  | [], acc => (kOk, acc, s)
  | (a, k) :: as, acc =>
    match s.engineAccess l slot a kind k (meetAt ms a) with
    | (c, bs, s') => if c = kOk then State.inboundRun s' l slot kind ms as (acc ++ bs) else (c, [], s')

/-- The slot and the den-virtual lines of a request of a frame, where it passes steps 1 to 5 of R345. -/
def State.inboundAddrs (s : State) (f : Frame) (kind : LineKind) (work : List (Nat × Access)) : Option (Nat × List Nat) :=
  match s.inboundCheck f (64 * work.length) kind with
  | .ok e => some (e.slot, work.map fun (i, _) => e.base + frameOff f + 64 * i)
  | .error _ => none

/-- The line whose translation a request waits for (R332), if any. -/
def State.inboundWaits (s : State) (l : Nat) (kind : LineKind) (acts : Frame → List (Nat × Access)) (f : Frame) :
    Option (Nat × Nat) :=
  match s.inboundAddrs f kind (acts f) with
  | some (slot, vas) => (s.engineWaits l slot vas).map fun va => (slot, va)
  | none => none

/-- Whether a request is held until a RELOCATE has copied the own shaft it lands in (R420). -/
def State.inboundHeld (s : State) (kind : LineKind) (acts : Frame → List (Nat × Access)) (f : Frame) : Bool :=
  match s.inboundAddrs f kind (acts f) with
  | some (slot, vas) => vas.any (s.moveHolds slot)
  | none => false

/-- The request of an OPC that the engine of a link serves next, taken: of those that stand before it, the first that waits for no
translation (R332) and for no copy of a RELOCATE (R420). -/
def State.nextRequest (s : State) (opc l : Nat) (kind : LineKind) (acts : Frame → List (Nat × Access)) : Option (Frame × State) :=
  s.takeRx l fun f =>
    frameKind f == 0 && frameOpc f == opc && !s.inboundHeld kind acts f && (s.inboundWaits l kind acts f).isNone

/-- A request of an OPC (R345, R346): the checks, the accesses, the response. `ms` tells what each den-virtual line meets. Where every
request waits, the first that has no miss slot takes one (R332). -/
def inboundReq (opc l : Nat) (kind : LineKind) (ms : List LineMeet) (acts : Frame → List (Nat × Access))
    (answer : Frame → Bool) (s : State) : Out State :=
  match s.nextRequest opc l kind acts with
  | none =>
    let mine (f : Frame) : Bool := frameKind f == 0 && frameOpc f == opc && !s.inboundHeld kind acts f
    let waits := ((s.link l).rx.filter mine).filterMap (s.inboundWaits l kind acts)
    needSome .noSuch (waits.find? fun (slot, va) => !((s.engMisses l).any fun m => m.slot == slot && m.va == va)) fun (slot, va) =>
      need .noSuch ((s.engMisses l).length < 16) <|
        .next ((s.engineMiss l slot va).sayFill slot (.engine (Fin.ofNat 32 l)) (s.engMisses l).length va true)
  | some (f, s) =>
    let work := acts f
    match s.inboundCheck f (64 * work.length) kind with
    | .error c => .next ((s.bump 0x0C01 3).respond l f c [])
    | .ok e =>
      let work := work.map fun (i, k) => (e.base + frameOff f + 64 * i, k)
      let (bad, s) := s.inboundLines l e.slot kind (work.map (·.1))
      let s := s.engineSpend l e.slot (work.map (·.1))
      match bad with
      | some c => .next ((s.bump 0x0C01 3).respond l f c [])
      | none =>
        let (c, bs, s) := s.inboundRun l e.slot kind ms work []
        let (con, t) := s.keepPlace l e.slot (work.map (·.1))
        let s := if frameSrc f = s.endpoint then { t with fab := s.fab } else t
        .next (s.respond l f c (if c = kOk && answer f then bs else []) con)

/-- The writes of a frame's payload, line by line. -/
def frameWrites (f : Frame) : List (Nat × Access) :=
  (List.range (f.payload.length / 64)).map fun i => (i, .write 0 (bytesAt f.payload (64 * i) 64))

/-- The accesses of a REQ_READ (R344, R517): one to four lines in a row. -/
def frameReads (f : Frame) : List (Nat × Access) := (List.range (bitsOf (frameArg f) 0 3 + 1)).map fun i => (i, .read)

/-- The access of a REQ_RMW (R246, R517). -/
def frameRmw (f : Frame) : List (Nat × Access) :=
  [(0, .masked (bitsOf (frameArg f) 0 3) (bitsOf (frameArg f) 3 5) (natAt f.payload 0 8) (bytesAt f.payload 8 64) (bytesAt f.payload 72 64))]

/-- REQ_READ (R345, R346, R517). -/
def execReqRead (l : LinkIx) (ms : List LineMeet) (s : State) : Act := occurs s <|
  inboundReq 0 l.val .read ms frameReads (fun _ => true) s

/-- REQ_WRITE (R345, R346, R517). -/
def execReqWrite (l : LinkIx) (ms : List LineMeet) (s : State) : Act := occurs s <|
  inboundReq 1 l.val .write ms frameWrites (fun _ => false) s

/-- REQ_RMW (R246, R345, R346, R517): SWAP and CAS answer with the old line. -/
def execReqRmw (l : LinkIx) (ms : List LineMeet) (s : State) : Act := occurs s <|
  inboundReq 2 l.val .rmw ms frameRmw (fun f => 6 ≤ bitsOf (frameArg f) 0 3) s

/-- PUSHW (R345, R346, R517). -/
def execPushw (l : LinkIx) (ms : List LineMeet) (s : State) : Act := occurs s <|
  inboundReq 3 l.val .write ms frameWrites (fun _ => false) s

/-! ### Responses, resends and owls of the sender -/

/-- The data that an OK response to a transaction brings (R517): a READ's lines, the old line of SWAP and CAS, none otherwise. -/
def rspBytes (m : Msg) : Nat :=
  match m.opc with
  | 0 => 64 * (bitsOf m.arg 0 3 + 1)
  | 2 => if 6 ≤ bitsOf m.arg 0 3 then 64 else 0
  | _ => 0

/-- RSP (R344, R348, R431, R517): a response ends its transaction; after BUSY it is to be sent again. A response to no outstanding
transaction is dropped; so is one whose payload R517 does not give for its transaction and status, which is counted in DROPS (DEDUCED, log
entry 44). -/
def execRsp (l : LinkIx) (s : State) : Act := occurs s <|
  needSome .noSuch (s.takeRx l.val fun f => frameKind f == 1) fun (f, s) =>
    let hit (t : Tx) : Bool := t.tag == frameTag f && t.job == frameJob f && t.peer == frameSrc f
    match (s.link l.val).txs.find? hit with
    | none => .next s
    | some t =>
      if f.payload.length ≠ (if frameArg f = 0 then rspBytes t.msg else 0) then .next (s.dropFrame l.val 0x0E)
      else if frameArg f = kBusy.toNat then
        .next (s.modLink l.val fun x => { x with txs := updFirst hit (fun t => { t with busy := true }) x.txs })
      else .next ((s.endTx l.val t (BitVec.ofNat 16 (frameArg f)) f.payload f.contended).dropOld t.job t.peer).retryWaiting

/-- BUSY_RESEND (R348, R523, R524): 1 µs after a BUSY the transaction is sent again, by the route and on the link that R524 now gives; one that has
none ends with the code; one that finds no room on another link waits for it. -/
def execBusyResend (l : LinkIx) (tx : Nat) (s : State) : Act := occurs s <|
  needSome .noSuch ((s.link l.val).txs.find? fun t => t.tag == tx && t.busy) fun t =>
    match s.linkTo t.peer t.job t.msg.rwin (.den t.slot) with
    | .error c => .next (s.endTx l.val t c []).retryWaiting
    | .ok (o, mac) =>
      if o ≠ l.val ∧ t.peer ≠ s.endpoint ∧ !s.linkRoom o t.slot then .next s
      else
        let (t, s) := (s.bump 0x0C01 4).moveTx l.val o { t with busy := false }
        let gen := match s.pair t.job t.peer with | some k => k.gen | none => 0
        let again (u : Tx) : Tx := { u with busy := false, gen := gen }
        let s := s.modLink o fun x => { x with txs := updFirst (·.tag == t.tag) again x.txs }
        match s.sendOn o mac t.job t.peer (.den t.slot) false true t.msg with
        | .ok s => .next s
        | .error c => .next (s.endTx o t c []).retryWaiting

/-- WINDOW_OWL_EXPIRY (R545, R687): a transaction ends with TIMEOUT, and the pair key it went out under becomes SUSPECT; a key that has been
replaced since is none to send under. -/
def execWindowOwlExpiry (l : LinkIx) (tx : Nat) (s : State) : Act := occurs s <|
  needSome .noSuch ((s.link l.val).txs.find? (·.tag == tx)) fun t =>
    let waits := s.txWaits l.val t
    let s := (s.endTx l.val t kTimeout []).dropOld t.job t.peer
    let s := if waits then s else s.modPair t.job t.peer fun k => if k.gen = t.gen then { k with suspect := k.live } else k
    .next s.retryWaiting

/-! ### Fences and dictionary messages -/

/-- A signal of a frame at a fence (R498): the fence must be exported to the fabric and to the frame's job. -/
def State.fabricSignal (s : State) (job f v : Nat) : State :=
  let x := s.fence f
  if x.live && x.fabric && x.job.toNat == job then s.signalFence f v else s.setFence f { x with stale := bvInc x.stale }

/-- FENCE_FRAME (R498, R517). -/
def execFenceFrame (l : LinkIx) (s : State) : Act := occurs s <|
  needSome .noSuch (s.takeRx l.val fun f => frameKind f == 2) fun (f, s) =>
    let s := s.say (16 + l.val) .fence (s.floorEnd (l.val / 2) 0) s.hostEnd 0 (natAt f.payload 0 2)
    .next (s.fabricSignal (frameJob f) (natAt f.payload 0 2) (bitsOf (natAt f.payload 8 8) 0 40))

/-- A dictionary message is queued for the Sett, or answered at once (R455, R457, R459): `limit` messages of its transport at
most, and BUSY beyond. -/
def State.queueMsg (s : State) (fe : FrontEnd) (limit : Nat) (bs : List Byte) : State :=
  let (_, q, _) := parseMsg fe bs
  if bs.length < 16 ∨ bs.length < 16 + q.len.toNat then s.deliver q 0x0B03 []
  else if limit ≤ (s.dict.queued.filter fun m => frontPlace m.fe == frontPlace fe).length then s.deliver q kBusy []
  else { s with dict := { s.dict with queued := s.dict.queued ++ [{ fe := fe, bytes := bs }] } }

/-- DICT_SEGMENT (R455, R457, R529): a segment joins its message; a whole message is queued, or answered ACCESS while
FABRIC_DICT_EN is 0. A segment beyond its count, or of another count, is dropped. -/
def execDictSegment (l : LinkIx) (s : State) : Act := occurs s <|
  needSome .noSuch (s.takeRx l.val fun f => frameKind f == 3) fun (f, s) =>
    let src := BitVec.ofNat 24 (frameSrc f)
    let job := BitVec.ofNat 32 (frameJob f)
    let msg := BitVec.ofNat 16 (natAt f.payload 0 2)
    let seg := natAt f.payload 2 1
    let total := natAt f.payload 3 1
    let mine (r : Reassembly) : Bool := r.src == src && r.job == job && r.msg == msg
    let old : Reassembly := (s.dict.reassembly.find? mine).getD { src := src, job := job, msg := msg, total := total, segs := [] }
    if total = 0 ∨ 17 < total ∨ total ≤ seg ∨ old.total ≠ total then .next (s.dropFrame l.val 0x0E)
    else
      let r := { old with segs := kins (f.payload.drop 8) old.segs seg }
      let rest := s.dict.reassembly.filter fun r => !mine r
      if r.segs.length < total then .next { s with dict := { s.dict with reassembly := rest ++ [r] } }
      else
        let bs := r.segs.flatMap (·.2)
        let s : State := { s with dict := { s.dict with reassembly := rest } }
        let s := s.say (16 + l.val) .frame (s.floorEnd (l.val / 2) 0) s.settEnd 0 msg.toNat
        let fe := FrontEnd.fabric src job
        if s.reg 0x0110 5 = 0 then .next (s.deliver (parseMsg fe bs).2.1 kAccess []) else .next (s.queueMsg fe 64 bs)

/-- DICT_REASSEMBLY_TIMEOUT (R529): a message still incomplete 100 µs after its first segment is discarded. It is counted in
DROPS of the link its endpoint's route names (DESIGN CHOICE, log entry 45). -/
def execDictReassemblyTimeout (src : BitVec 24) (job : BitVec 32) (msg : BitVec 16) (s : State) : Act := occurs s <|
  let mine (r : Reassembly) : Bool := r.src == src && r.job == job && r.msg == msg
  need .noSuch (s.dict.reassembly.any mine) <|
    let l := match s.pickLink src.toNat job.toNat 0 .engine with | .ok (l, _) => l | .error _ => 0
    .next (({ s with dict := { s.dict with reassembly := s.dict.reassembly.filter fun r => !mine r } } : State).dropFrame l 0x0E)

/-! ### Key agreement -/

/-- Whether incarnation `a` is older than `b` (R536). -/
def incOlder (a b : Nat) : Bool := let d := (a + 2 ^ 32 - b % 2 ^ 32) % 2 ^ 32; 2 ^ 31 ≤ d

/-- A KEYX of a peer completes an agreement (R537): the keys are derived and the ephemeral private key goes. To an initiation this chip first answers
with a KEYX of its own; with an answer it takes its own initiation's nonce and private key. -/
def State.completeKeyx (s : State) (job src : Nat) (f : Frame) : State :=
  let inc := natAt f.payload 4 8
  let them (p : List Byte) : Nat × Nat × List Byte := (src, natAt p 4 8, keyxNonce p)
  let us (p : List Byte) : Nat × Nat × List Byte := (s.endpoint, natAt p 4 8, keyxNonce p)
  if natAt f.payload 0 1 = 1 then
    let (p, d, s) := s.newKeyx job src 2 (keyxNonce f.payload)
    let (first, last) := agreedKeys (sharedSecret d f.payload) job (them f.payload) (us p)
    (s.sendKeyx job src p).newKeys job src (BitVec.ofNat 64 inc) true last first
  else match (s.pair job src).bind (·.agr) with
    | some a =>
      let (first, last) := agreedKeys (sharedSecret a.private_ f.payload) job (us a.payload) (them f.payload)
      s.newKeys job src (BitVec.ofNat 64 inc) false first last
    | none => s

/-- KEYX (R536 to R538, R544 to R546): a frame that fails a check is dropped and counted. One that verifies with a newer
incarnation first revokes what the old one had. `digest` is the SHA-256 of its modulus, `sigOk` what the check of its signature finds. -/
def execKeyx (l : LinkIx) (digest : BitVec 256) (sigOk : Bool) (s : State) : Act := occurs s <|
  needSome .noSuch (s.takeRx l.val fun f => frameKind f == 4) fun (f, s) =>
    let job := frameJob f
    let src := frameSrc f
    let inc := natAt f.payload 4 8
    let step := natAt f.payload 0 1
    let native := match s.job job with | some j => !j.compat | none => false
    let pair := s.pair job src
    let asked := if step = 2 then keyxNonce ((pair.bind (·.agr)).getD {}).payload else []
    let text := keyxSigned f.payload (frameDst f) src job asked
    let modulus := keyxModulus f.payload
    need .badFact (digest.toNat == sha256 modulus && sigOk == pssVerify modulus text (keyxSignature f.payload)) <|
      let member := s.fab.members.any fun m => m.job == job && m.peer == src && m.digest == digest
      let known := match s.fab.keys.find? fun k => k.peer == src && k.known with | some k => some k.inc | none => none
      let older := match pair with | some k => k.known && incOlder inc k.inc.toNat | none => false
      if !native || !member || !sigOk || older || s.reg 0x0001 0 == 4 then .next ((s.bump 0x1110 7).raise 1684)
      else
        let ours := match pair with | some k => k.agr.isSome | none => false
        let accept := if step = 1 then !(ours && s.endpoint < src) else step == 2 && ours
        if !accept then .next s
        else
          let s := match known with
            | some old => if incOlder old.toNat inc && old.toNat != inc then s.newIncarnation src old else s
            | none => s
          if (s.pair job src).isNone && 8192 ≤ s.fab.keys.length then .next s
          else .next (s.completeKeyx job src f)

/-- KEYX_RESEND (R538): an unanswered KEYX is sent again 1 ms later, the same frame, four times in all; then the agreement fails. -/
def execKeyxResend (job : BitVec 32) (peer : BitVec 24) (s : State) : Act := occurs s <|
  needSome .noSuch ((s.pair job.toNat peer.toNat).bind (·.agr)) fun a =>
    if a.tries < 4 then
      .next ((s.modPair job.toNat peer.toNat fun k => { k with agr := some { a with tries := a.tries + 1 } }).sendKeyx job.toNat peer.toNat a.payload)
    else .next (s.failAgree job.toNat peer.toNat)

/-- KEY_RETAIN_EXPIRY (R545): a responder's old receive key is dropped after 10 ms. -/
def execKeyRetainExpiry (job : BitVec 32) (peer : BitVec 24) (s : State) : Act := occurs s <|
  needSome .noSuch ((s.pair job.toNat peer.toNat).bind (·.old)) fun o =>
    need .noSuch o.timed <| .next (s.modPair job.toNat peer.toNat fun k => { k with old := none })

/-- KEYEND (R541). -/
def execKeyend (l : LinkIx) (s : State) : Act := occurs s <|
  needSome .noSuch (s.takeRx l.val fun f => frameKind f == 5) fun (f, s) => .next (s.endPair (frameJob f) (frameSrc f) false)

/-! ### Custody (R552 to R557) -/

/-- A frame of the custody protocol to a peer; one that cannot be sent is lost. -/
def State.sendCustody (s : State) (job peer kind : Nat) (body : List Byte) : State :=
  match s.sendMsg job peer .engine { kind := kind, payload := body } with
  | .ok s => s
  | .error _ => s

/-- PCOMMIT (R552): the checks of a write over the unit, then the custody entry; a PACK answers. -/
def execPcommit (l : LinkIx) (s : State) : Act := occurs s <|
  needSome .noSuch (s.takeRx l.val fun f => frameKind f == 6) fun (f, s) =>
    let id := BitVec.ofNat 64 (natAt f.payload 0 8)
    let epoch := natAt f.payload 8 4
    let src := frameSrc f
    let job := frameJob f
    let pack (s : State) (e : Nat) (st : Code) : State :=
      s.sendCustody job src 7 (toLE 8 id.toNat ++ toLE 4 e ++ toLE 2 st.toNat ++ [0, 0])
    let signal (s : State) : State :=
      if bitsOf (natAt f.payload 12 4) 0 1 = 1 then s.fabricSignal job (natAt f.payload 24 2) (bitsOf (natAt f.payload 32 8) 0 40)
      else s
    match s.inboundCheck f (natAt f.payload 16 8) .write with
    | .error c => .next (pack s epoch c)
    | .ok _ =>
      let mine (c : Custody) : Bool := c.id == id && c.src == src
      match s.fab.custody.find? mine with
      | some c =>
        if epoch < c.epoch then .next (pack s c.epoch kOk)
        else
          let cs := updFirst mine (fun c => { c with epoch := epoch + 1 }) s.fab.custody
          .next (pack (signal { s with fab := { s.fab with custody := cs } }) (epoch + 1) kOk)
      | none =>
        if 4096 ≤ s.fab.custody.length then .next (pack s epoch kNoResource)
        else
          let c : Custody := { id := id, src := src, job := job, epoch := epoch + 1, inc := BitVec.ofNat 32 (hdrField f 128 32),
                               win := frameRwin f }
          let s := signal { s with fab := { s.fab with custody := s.fab.custody ++ [c] } }
          .next (pack (s.raise 1683) (epoch + 1) kOk)

/-- DONE passes every unit, in ring order, whose PACK has come (R554). -/
def Chan.advance (x : Chan) : Nat → Chan
  | 0 => x
  | n + 1 =>
    match x.units.find? fun u => u.n == x.done && u.phase == .acked with
    | some u =>
      ({ x with done := (x.done + 1) % 2 ^ 32, units := x.units.filter (·.n != u.n) } : Chan).advance n
    | none => x

/-- PACK (R554, R555): an acknowledged unit's copy is dropped, its log entry made, and DONE advances, also where the unit has failed since its
commit; another status holds the channel. A PACK of no unit that this chip holds is dropped, and so is one for which no log entry is free. -/
def execPack (l : LinkIx) (s : State) : Act := occurs s <|
  needSome .noSuch (s.takeRx l.val fun f => frameKind f == 7) fun (f, s) =>
    let id := BitVec.ofNat 64 (natAt f.payload 0 8)
    let epoch := natAt f.payload 8 4
    let st := BitVec.ofNat 16 (natAt f.payload 12 2)
    let job := frameJob f
    let src := frameSrc f
    let mine (u : PushUnit) : Bool := u.id == id && u.job == job && u.peer == src && u.phase != .acked
    let unit (c : Nat) : Option PushUnit := (s.chan c).bind fun x => x.units.find? mine
    match (kkeys s.fab.chans).findSome? fun c => (unit c).map fun u => (c, u) with
    | none => .next s
    | some (c, u) =>
      let due := u.failed.isNone && (match u.phase with | .committed _ => true | _ => false)
      if st ≠ kOk then .next (if due then s.failUnit c u.n st else s)
      else if epoch ≤ u.epoch ∨ (!due ∧ 4096 ≤ s.fab.logs.length) then .next s
      else
        let inc := if src = s.endpoint then BitVec.ofNat 32 s.incarnation
          else match s.pair job src with | some k => k.inc.truncate 32 | none => 0
        let e : LogEntry := { id := id, peer := src, job := job, epoch := epoch, inc := inc }
        let s := { s with fab := { s.fab with logs := s.fab.logs ++ [e] } }
        let s := s.modChan c fun x => (x.modUnit u.n fun u => { u with phase := .acked, failed := none }).advance 64
        .next ((s.noteDone c).freedLogs)

/-- An entry of the sender's log is LOST (R557). -/
def State.loseLog (s : State) (hit : LogEntry → Bool) : State :=
  if s.fab.logs.any fun e => hit e && !e.lost then
    let logs := s.fab.logs.map fun e => if hit e then { e with lost := true } else e
    (({ s with fab := { s.fab with logs := logs } } : State).bump 0x1120 8).raise 1683
  else s

/-- PDONE (R556, R557). -/
def execPdone (l : LinkIx) (s : State) : Act := occurs s <|
  needSome .noSuch (s.takeRx l.val fun f => frameKind f == 8) fun (f, s) =>
    let id := BitVec.ofNat 64 (natAt f.payload 0 8)
    let mine (e : LogEntry) : Bool := e.id == id && e.peer == frameSrc f
    if natAt f.payload 8 2 = 0 then
      .next ({ s with fab := { s.fab with logs := s.fab.logs.filter fun e => !mine e } } : State).freedLogs
    else .next (s.loseLog mine)

end Sys2Proof.Machine
end

