-- ==== Sys2Proof/Machine/FabPush.lean ====
section
/-! DEFINITION. Machine/FabPush.lean: the push channels at work (R548 to R551, R555) and the state of the links (R509 to R512,
R521, R528) as commands. -/

namespace Sys2Proof.Machine

open Sys2Proof

/-- A descriptor in the ring (R548); none where a field is out of range. -/
def parseUnit (n : Nat) (bs : List Byte) : Option PushUnit :=
  let w (i : Nat) := natAt bs (8 * i) 8
  let epoch := bitsOf (w 1) 0 32
  if bitsOf (w 1) 33 31 != 0 || epoch == 0xFFFFFFFF || 2 ^ 56 ≤ w 2 || w 2 % 4096 != 0 || w 3 % 4096 != 0 || w 3 == 0 ||
      2 ^ 30 < w 3 || 2 ^ 56 ≤ w 4 || w 4 % 4096 != 0 || 2 ^ 16 ≤ w 5 || 2 ^ 40 ≤ w 6 || w 7 != 0 then none
  else some { n := n, id := BitVec.ofNat 64 (w 0), epoch := epoch, rf := (w 1).testBit 32, src := w 2, len := w 3, off := w 4,
              fence := w 5, fval := w 6 }

/-- Whether every byte of a range translates through extents of KIND 1 or 2 that grant an access (R547, R548): the code where it does
not. -/
def Den.covers (d : Den) (k : LineKind) : Nat → Nat → Nat → Option Code
  | 0, _, _ => none
  | n + 1, a, len =>
    if len = 0 then none
    else match d.lookup a with
      | none => some kExtNone
      | some e =>
        if 2 < e.kind then some kExtNone
        else if !e.allows k then some kExtRights
        else Den.covers d k n (e.vbase + e.len) (len - (e.vbase + e.len - a))

/-- The units of a channel in flight (R550). -/
def Chan.inFlight (x : Chan) : Nat := (x.units.filter fun u => u.phase != .acked).length

/-- Take units in ring order, four in flight at most (R548, R550, R551), each for the channel's window as it stands. -/
def State.takeUnits (s : State) (c tail : Nat) (ms : List LineMeet) : Nat → State
  | 0 => s
  | n + 1 =>
    match s.chan c with
    | none => s
    | some x =>
      if x.phase ≠ .running ∨ x.next = tail ∨ 4 ≤ x.inFlight then s
      else
        let line := x.ring + 64 * (x.next % 2 ^ x.ringLog)
        let (k, bs, s) := s.engineAccess (s.chanLink x) x.slot line .read .read (meetAt ms line)
        let stuck (st : Code) : State := s.holdChan c fun x => { x with stuck := some (x.next, st) }
        if k ≠ kOk then stuck k
        else match parseUnit x.next bs with
          | none => stuck kRange
          | some u =>
            if ((s.den x.slot).covers .read 513 u.src u.len).isSome then stuck kRange
            else
              let w := s.window x.win
              let u := { u with win := x.win, job := (w.map (·.job)).getD 0, peer := (w.map (·.peer)).getD 0 }
              State.takeUnits (s.setChan c (some { x with units := x.units ++ [u], next := (x.next + 1) % 2 ^ 32 })) c tail ms n

/-- Send what fits of a unit as PUSHW transactions (R550), each block of BULK_MAX bytes at most. -/
def State.sendUnit (s : State) (c n : Nat) (ms : List LineMeet) : Nat → State
  | 0 => s
  | fuel + 1 =>
    match s.chan c with
    | none => s
    | some x =>
      match x.units.find? fun u => u.n == n && u.phase == .sending && u.failed.isNone && u.sent != u.len with
      | none => s
      | some u =>
        let link := s.winLink x.slot u.win
        let size := min (s.reg (0x1000 + link) 8) (u.len - u.sent)
        match s.window u.win with
        | none => s.failUnit c n kWinClosed
        | some w =>
          match s.winCheck x.slot u.win (u.off + u.sent) size .write with
          | some k => s.failUnit c n k
          | none =>
            if w.peer ≠ s.endpoint && !s.linkRoom link x.slot then s
            else
              let (k, bs, s) := s.engineRead link x.slot ms (size / 64) (u.src + u.sent) []
              if k ≠ kOk then s.failUnit c n (if k = kWinTarget then kExtNone else k)
              else
                let m : Msg := { kind := 0, opc := 3, off := u.off + u.sent, payload := bs }
                match s.startTx x.slot w (.push c n u.attempt size) m with
                | .failed k => s.failUnit c n k
                | .full => s
                | .sent s =>
                  let s := s.modChan c fun x => x.modUnit n fun u => { u with sent := u.sent + size }
                  if size = 0 then s else State.sendUnit s c n ms fuel

/-- Send what fits of every unit of a channel. -/
def State.sendUnits (s : State) (c : Nat) (ms : List LineMeet) : State :=
  match s.chan c with
  | none => s
  | some x => x.units.foldl (fun s u => s.sendUnit c u.n ms 400) s

/-- PUSH_POLL (R550, R551, R555, R558): a RUNNING channel reads its tail word and takes units, none while its den freezes or is
FROZEN; every channel goes on with its units in flight. -/
def execPushPoll (ch : Fin 64) (ms : List LineMeet) (s : State) : Act := occurs s <|
  let c := ch.val
  needSome .noSuch (s.chan c) fun x =>
    let d := s.den x.slot
    let freezing := d.phase == .frozen || d.settFreeze || (match d.cmd with | some k => k.op == 4 && k.result.isNone | none => false)
    if x.phase ≠ .running ∨ freezing then .next (s.sendUnits c ms)
    else
      let line := x.tailw / 64 * 64
      need .noSuch (s.engineReady (s.chanLink x) x.slot line) <|
      let (k, bs, s) := s.engineAccess (s.chanLink x) x.slot line .read .read (meetAt ms line)
      if k ≠ kOk then .next (s.holdAt c k)
      else
        let tail := natAt bs (x.tailw % 64) 4
        if 2 ^ x.ringLog < (tail + 2 ^ 32 - x.done) % 2 ^ 32 then .next (s.holdAt c kRange)
        else .next ((s.takeUnits c tail ms 4).sendUnits c ms)

/-- PUSH_RETRY_EXPIRY (R555): a PCOMMIT without a PACK is sent again; after PUSH_TRIES sends the channel is HELD. -/
def execPushRetryExpiry (ch : Fin 64) (unit : BitVec 32) (s : State) : Act := occurs s <|
  let c := ch.val
  needSome .noSuch (s.chan c) fun x =>
    needSome .noSuch (x.units.find? fun u => u.n == unit.toNat && u.failed.isNone) fun u =>
      match u.phase with
      | .committed n => .next (if n < s.reg 0x1100 5 then s.sendCommit c x u else s.failUnit c u.n kTimeout)
      | _ => .off .noSuch

/-! ### Links -/

/-- LINK_UP (R509, R511, R559): the training of a link that trains, or that is down, ends with eight lanes in service; the spare is among them
only where both ends are Osdin links, and it must be where it stands in for a lane. -/
def execLinkUp (l : LinkIx) (lanes : BitVec 9) (s : State) : Act := occurs s <|
  let st := s.reg (0x1000 + l.val) 0
  let x := s.link l.val
  need .chipPhase ((st == 1 || st == 3) && s.reg (0x1000 + l.val) 1 == 1) <|
    need .badFact (popCount 9 lanes.toNat == 8 && (!lanes.getLsbD 8 || s.reg (0x1000 + l.val) 3 == 1) &&
      (!x.spareUsed || !lanes.getLsbD x.lostLane)) <|
      let lost := ((List.range 8).find? fun i => !lanes.getLsbD i).getD 0
      let s := s.setLink l.val { x with spareUsed := lanes.getLsbD 8, lostLane := lost, paused := false, pausing := false }
      .next (((s.setReg (0x1000 + l.val) 4 lanes.toNat).setLinkState l.val 2).settlePause l.val).settleWarn

/-- A link leaves service (R512): the frames in transit on it are lost, and preemption is verified again. -/
def State.linkDown (s : State) (l st : Nat) : State :=
  let s := s.modLink l fun x => { x with paused := false, pausing := false, held := [] }
  ((((s.setReg (0x1000 + l) 4 0).setReg (0x1000 + l) 5 0).bump (0x1000 + l) 0x11).setLinkState l st)

/-- A link whose spare is in use loses a further lane (R511): it stays down, and the repair map holds it unavailable from then on. -/
def State.linkSpent (s : State) (l : Nat) : State := (s.modLink l fun x => { x with unavailable := true }).linkDown l 4

/-- LINK_DOWN (R510 to R512): an up link goes down, and is trained again while it is down; where a lane has lost lock and the spare is free it is
trained with the spare in that lane's place; with the spare in use already it stays down, unavailable in the repair map. -/
def execLinkDown (l : LinkIx) (lane : Option (Fin 9)) (s : State) : Act := occurs s <|
  need .chipPhase (s.linkUp l.val) <|
    let x := s.link l.val
    let partner := s.reg (0x1000 + l.val) 3
    match lane with
    | none => .next (s.linkDown l.val 3)
    | some k =>
      need .badFact ((s.reg (0x1000 + l.val) 4).testBit k.val) <|
        if partner = 1 ∧ x.spareUsed then .next (s.linkSpent l.val)
        else if partner = 1 then
          .next ((s.linkDown l.val 3).modLink l.val fun x => { x with spareUsed := true, lostLane := k.val }).settleWarn
        else .next (s.linkDown l.val 3)

/-- SPARE_SWAP (R511): a failing lane's data move onto the spare; with the spare in use the link stays down. No frame is lost in
a swap. -/
def execSpareSwap (l : LinkIx) (lane : Fin 8) (s : State) : Act := occurs s <|
  let x := s.link l.val
  let lanes := s.reg (0x1000 + l.val) 4
  need .chipPhase (s.linkUp l.val && s.reg (0x1000 + l.val) 3 == 1 && lanes.testBit lane.val) <|
    if x.spareUsed then .next (s.linkSpent l.val)
    else
      let s := s.setLink l.val { x with spareUsed := true, lostLane := lane.val }
      .next (((s.setReg (0x1000 + l.val) 4 (lanes - 2 ^ lane.val + 2 ^ 8)).bump (0x1000 + l.val) 0x12).raiseAt (16 + l.val) (l.val / 2) (1587 + l.val)).settleWarn

/-- PRIORITY_FLOW_CONTROL (R521): a pause of the bulk PCP holds bulk frames; its end lets them go in R530's order. -/
def execPriorityFlowControl (l : LinkIx) (pause : Bool) (s : State) : Act := occurs s <|
  need .chipPhase (s.linkUp l.val) <|
    let x := s.link l.val
    if pause then .next (s.setLink l.val { x with paused := true })
    else
      let fs := drrOrder (·.by_) (fun h : HeldFrame => frameSize h.frame) (drrWeight s l.val) (100 * x.held.length + 1) [] x.held
      let s := s.setLink l.val { x with paused := false, held := [] }
      .next (fs.foldl (fun s h => s.emit (.frame l.val h.frame)) s)

/-- MAC_MERGE_VERIFICATION (R528, R559): the Clause 99 verification begins, succeeds or fails. -/
def execMacMergeVerification (l : LinkIx) (ok : Option Bool) (s : State) : Act := occurs s <|
  need .chipPhase (s.linkUp l.val) <|
    .next (s.setReg (0x1000 + l.val) 5 (match ok with | none => 1 | some true => 2 | some false => 0))

end Sys2Proof.Machine
end

