-- ==== Sys2Proof/Machine/Matrix.lean ====
section
/-! DEFINITION. Machine/Matrix.lean: the M slot (R118 to R123) and the matrix unit (R161 to R175). -/

namespace Sys2Proof.Machine

open Sys2Proof

/-- How a matrix format reads an element. -/
inductive MatElem where
  | int (w : Nat)
  | float (t : FloatFmt)
  | mxInt8
  deriving DecidableEq, Repr

/-- A matrix format of R120: element, inner depth, occupancy, whether it has scales (R121), and its mode (R163). -/
structure MatFmt where
  elem : MatElem
  w : Nat
  k : Nat
  occ : Nat
  mx : Bool
  mode : AccMode
  deriving DecidableEq, Repr

/-- The formats of R120; 0xE and 0xF are reserved. -/
def matFmt : Nat → Option MatFmt
  | 0x0 => some ⟨.int 8, 8, 4, 4, false, .integer⟩
  | 0x1 => some ⟨.int 4, 4, 8, 4, false, .integer⟩
  | 0x2 => some ⟨.float fpE4M3, 8, 4, 4, false, .float⟩
  | 0x3 => some ⟨.float fpE5M2, 8, 4, 4, false, .float⟩
  | 0x4 => some ⟨.float fpE4M3, 8, 4, 4, true, .float⟩
  | 0x5 => some ⟨.float fpE5M2, 8, 4, 4, true, .float⟩
  | 0x6 => some ⟨.float fpE3M2, 6, 4, 4, true, .float⟩
  | 0x7 => some ⟨.float fpE2M3, 6, 4, 4, true, .float⟩
  | 0x8 => some ⟨.float fpE2M1, 4, 8, 4, true, .float⟩
  | 0x9 => some ⟨.mxInt8, 8, 4, 4, true, .float⟩
  | 0xA => some ⟨.float bf16, 16, 2, 4, false, .float⟩
  | 0xB => some ⟨.float fp16, 16, 2, 4, false, .float⟩
  | 0xC => some ⟨.float fp32, 32, 1, 8, false, .float⟩
  | 0xD => some ⟨.float fp64, 64, 1, 0, false, .wide⟩
  | _ => none

/-- The FP64 accuracy targets of R118: bits, smax, pmax and occupancy (R171). -/
def fp64Target : Nat → Option (Nat × Nat × Nat × Nat)
  | 0 => some (53, 7, 28, 31)
  | 1 => some (48, 6, 21, 24)
  | 2 => some (40, 5, 15, 17)
  | 3 => some (32, 4, 10, 12)
  | 4 => some (24, 3, 6, 8)
  | _ => none

/-- The occupancy of an MMA (R120, R122). -/
def matOcc (fmt tgt : Nat) : Nat :=
  if fmt = 0xD then (match fp64Target tgt with | some (_, _, _, o) => o | none => 0)
  else match matFmt fmt with | some m => m.occ | none => 0

/-- The readout formats of R123: bits of an element. -/
def readoutBits : Nat → Option Nat
  | 0xA => some 16 | 0xB => some 16 | 0xC => some 32 | 0xD => some 64 | 0x0 => some 32 | _ => none

/-- The operations of R119. -/
inductive MOp where
  | mnop | mma | mmaz | mzero | mrd
  deriving DecidableEq, Repr

/-- The MOP codes of R119; 0x05 to 0x3F are reserved. -/
def mopOf : Nat → Option MOp
  | 0 => some .mnop | 1 => some .mma | 2 => some .mmaz | 3 => some .mzero | 4 => some .mrd | _ => none

/-- Whether the M slot's encoding faults with BAD_BUNDLE (R101, R118 to R123). -/
def MOp.bad (o : MOp) (f : MFields) : Bool :=
  match o with
  | .mnop => !(f.fmt == 0 && f.td == 0 && f.ma == 0 && f.mb == 0 && f.mc == 0 && f.tgt == 0 && f.low == 0)
  | .mzero => !(f.fmt == 0 && f.ma == 0 && f.mb == 0 && f.mc == 0 && f.tgt == 0 && f.low == 0)
  | .mrd =>
    f.low != 0 || f.tgt != 0 || f.mb != 0 || 0x3F < f.ma.toNat ||
      (match readoutBits f.fmt.toNat with
        | none => true
        | some w => 32 / (512 / w) ≤ f.mc.toNat % 8)
  | _ =>
    f.low != 0 ||
      (match matFmt f.fmt.toNat with
        | none => true
        | some m =>
          if m.mode = .wide then
            (fp64Target f.tgt.toNat).isNone || 0x3F < f.ma.toNat || f.ma.toNat % 2 != 0 ||
              0x3F < f.mb.toNat || f.mb.toNat % 4 != 0 || f.mc != 0
          else
            f.tgt != 0 || 0x43 < f.ma.toNat || 0x3F < f.mb.toNat || f.mb.toNat % 2 != 0 ||
              (if m.mx then 0x43 < f.mc.toNat else f.mc != 0))

/-- The relay latches an M operation reads. -/
def MOp.latches (o : MOp) (f : MFields) : List Dir :=
  if o = .mma ∨ o = .mmaz then
    latchOf f.ma.toNat ++ (match matFmt f.fmt.toNat with
      | some m => if m.mx then latchOf f.mc.toNat else []
      | none => [])
  else []

/-- The 512 bits of an M operand: a V register or a latch (R118). -/
def Snap.mreg (x : Snap) (c : Nat) : Nat :=
  match OpCode.of c with
  | .v i => x.tile.vreg i
  | .latch d => (x.latch d).val.toNat
  | _ => 0

/-- Consecutive V registers as one bit string, in ascending order (R151). -/
def Snap.vgroup (x : Snap) (c : Nat) : Nat → Nat
  | 0 => 0
  | n + 1 => x.tile.vreg c + 2 ^ 512 * x.vgroup (c + 1) n

/-- The matrix operation an MMA, MMAZ or MZERO puts in flight, with its operands as read in step 3 (R102). -/
def MOp.inFlight (o : MOp) (f : MFields) (x : Snap) : MatOp :=
  match o with
  | .mzero => { left := 1, td := f.td.toNat, kind := .mzero }
  | _ =>
    let fmt := f.fmt.toNat
    let wide := fmt = 0xD
    { left := matOcc fmt f.tgt.toNat + 3, td := f.td.toNat, kind := if o = .mmaz then .mmaz else .mma,
      fmt := fmt, tgt := f.tgt.toNat,
      a := if wide then x.vgroup f.ma.toNat 2 else x.mreg f.ma.toNat,
      b := if wide then x.vgroup f.mb.toNat 4 else x.vgroup f.mb.toNat 2,
      c := match matFmt fmt with | some m => if m.mx then x.mreg f.mc.toNat else 0 | none => 0 }

/-- The mode an operation gives its block at issue (R164). -/
def MOp.newMode (o : MOp) (f : MFields) (old : AccMode) : AccMode :=
  match o with
  | .mzero => .zero
  | .mma | .mmaz => (match matFmt f.fmt.toNat with | some m => m.mode | none => old)
  | _ => old

/-- Whether an MMA meets a block of another mode (R164). -/
def MOp.modeClash (o : MOp) (f : MFields) (old : AccMode) : Bool :=
  o == .mma && old != .zero && o.newMode f old != old

/-- The elements of an operand: FP6 formats take 64 elements from the low 48 bytes of each register (R161). -/
def matElems (w regs n v : Nat) : List Nat :=
  if w = 6 then (List.range regs).flatMap fun r => elemsOf 6 64 (bitsOf v (512 * r) 384)
  else elemsOf w n v

/-- An element's value, before any scale. -/
def MatElem.value (e : MatElem) (v : Nat) : FVal :=
  match e with
  | .int w => intVal (sextNat w v)
  | .float t => t.decode v
  | .mxInt8 => match intVal (sextNat 8 v) with
    | .fin n m x => .fin n m (x - 6)
    | u => u

/-- A value times an E8M0 scale (R149, R166). -/
def scaleVal (s : Nat) (v : FVal) : FVal :=
  if s = 0xFF then .nan false
  else match v with
    | .fin n m x => .fin n m (x + (s : Int) - 127)
    | u => u

/-- The terms of one float cell (R166): NaN and infinity marks, the exact sum of the finite terms, whether every
term is a positive zero, and the invalid flag. -/
structure TermSum where
  nan : Bool := false
  pinf : Bool := false
  ninf : Bool := false
  sum : Dy := { m := 0, x := 0 }
  allPosZero : Bool := true
  nv : Bool := false

/-- Add one term. -/
def TermSum.add (t : TermSum) (v : FVal) (nv : Bool) : TermSum :=
  let t := { t with nv := t.nv || nv }
  match v with
  | .nan _ => { t with nan := true, allPosZero := false }
  | .inf true => { t with ninf := true, allPosZero := false }
  | .inf false => { t with pinf := true, allPosZero := false }
  | .fin n m x => { t with sum := if m = 0 then t.sum else if t.sum.m = 0 then dyOf n m x else dyAdd t.sum (dyOf n m x),
                           allPosZero := t.allPosZero && !n && m == 0 }

/-- The value of the sum and its invalid flag (R166). The sign of a zero that is not the sum of positive zeros is not given: a free
value (log entry 151). -/
def TermSum.value (t : TermSum) (seed : Nat) : FVal × Bool :=
  if t.nan then (.nan false, t.nv || (t.pinf && t.ninf))
  else if t.pinf && t.ninf then (.nan false, true)
  else if t.pinf then (.inf false, t.nv)
  else if t.ninf then (.inf true, t.nv)
  else (dyVal (!t.allPosZero && Config.zeroSumSign seed) t.sum, t.nv)

/-- One float cell after an MMA (R166): the exact value of the cell and its products, rounded once to FP32. -/
def floatCell (cell : Option Nat) (prods : List (FVal × Bool)) (seed : Nat) : Nat × FFlags :=
  let t0 : TermSum := match cell with
    | some c => TermSum.add {} (fp32.decode c) false
    | none => {}
  let t := prods.foldl (fun t p => t.add p.1 p.2) t0
  let (v, nv) := t.value seed
  let (e, fl) := fp32.encode .near v
  (e, fl.or { nv := nv })

/-- The products of cell (i, j) with the invalid flag of each (R155, R161, R162, R166). -/
def cellProducts (m : MatFmt) (a b sc : List Nat) (i j : Nat) : List (FVal × Bool) :=
  (List.range m.k).map fun kk =>
    let va := m.elem.value (a.getD (m.k * i + kk) 0)
    let vb := m.elem.value (b.getD (32 * kk + j) 0)
    let va := if m.mx then scaleVal (sc.getD i 0) va else va
    let vb := if m.mx then scaleVal (sc.getD (16 + j) 0) vb else vb
    let (v, fl) := fMul va vb
    (v, fl.nv)

/-- The exponent range of the finite non-zero elements of an operand (R168): (E, L). -/
def scanVals : List FVal → Option (Int × Int)
  | [] => none
  | .fin _ m x :: vs =>
    let rest := scanVals vs
    if m = 0 then rest
    else
      let e : Int := (Nat.log2 m : Int) + x
      let l : Int := x + (Nat.log2 (m ^^^ (m - 1)) : Int)
      match rest with
      | none => some (e, l)
      | some (e', l') => some (max e e', min l l')
  | _ :: vs => scanVals vs

/-- The span of R168. -/
def spanOf (r : Option (Int × Int)) : Nat :=
  match r with
  | none => 0
  | some (e, l) => (e - l + 1).toNat

/-- The choice of R170: slice count and whether the triangle is used. -/
def sliceChoice (span smax pmax : Nat) : Nat × Bool :=
  let need := max 2 (ceilDiv span 8)
  if need ≤ smax ∧ need * need ≤ pmax then (need, false) else (smax, true)

/-- The slices of an element's magnitude on the grid of R169: slice 0 first. -/
def slicesOf (s : Nat) (e : Int) (v : FVal) : Bool × List Nat :=
  match v with
  | .fin n m x =>
    let q : Int := e - 8 * s + 1
    let k := if q ≤ x then m * 2 ^ (x - q).toNat else m / 2 ^ (q - x).toNat
    (n, (List.range s).map fun p => k / 2 ^ (8 * (s - 1 - p)) % 256)
  | _ => (false, List.replicate s 0)

/-- The sum of the chosen pair products in units of the grid (R170, R171). -/
def pairSum (s : Nat) (tri : Bool) (a b : List Nat) : Nat :=
  ((List.range s).map fun p => ((List.range s).map fun q =>
    if tri && s ≤ p + q then 0
    else a.getD p 0 * b.getD q 0 * 2 ^ (8 * (s - 1 - p) + 8 * (s - 1 - q))).sum).sum

/-- A wide cell's update by a non-special product sum (R173): the cell, whether the window moved, whether it rounded. -/
def wideAdd (clear : Bool) (cell : WideCell) (tau : Int) (tx : Int) : WideCell × Bool × Bool :=
  if clear then (if tau = 0 then .zero else .val tau tx, false, false)
  else if tau = 0 then (cell, false, false)
  else
    let go (v : Dy) (g0 : Int) : WideCell × Bool × Bool :=
      if v.m = 0 then (.zero, false, false)
      else if v.m.natAbs < 2 ^ 126 then (.val v.m g0, false, false)
      else
        let n : Int := Nat.log2 v.m.natAbs
        let g : Int := g0 + (n - 125)
        let neg := v.m < 0
        let (k, inex) := roundAt .near neg v.m.natAbs g0 g
        let (k, inex, g) := if k < 2 ^ 126 then (k, inex, g)
          else
            let (k', i') := roundAt .near neg v.m.natAbs g0 (g + 1)
            (k', i', g + 1)
        (.val (if neg then -(k : Int) else k) g, true, inex)
    match cell with
    | .zero => go { m := tau, x := tx } tx
    | .val i g => let v := dyAdd { m := i, x := g } { m := tau, x := tx }; go v (min g tx)
    | c => (c, false, false)

/-- A wide cell's update by an MMA or MMAZ (R173, R174). -/
def wideCell (clear : Bool) (cell : WideCell) (va vb : FVal) (tau tx : Int) : WideCell × Bool × Bool × Bool :=
  let (p, fl) := fMul va vb
  match p with
  | .nan _ => (.nan, false, false, fl.nv)
  | .inf n =>
    (match if clear then WideCell.zero else cell with
      | .nan => (.nan, false, false, fl.nv)
      | .inf n' => if n = n' then (.inf n, false, false, fl.nv) else (.nan, false, false, true)
      | _ => (.inf n, false, false, fl.nv))
  | .fin _ _ _ =>
    let (c, win, nx) := wideAdd clear cell tau tx
    (c, win, nx, false)

/-- What a matrix operation leaves: the cells, the flags, and for FP64 the slice count, TRUNC and WIN. -/
structure MatResult where
  cells : AccCells
  flags : FFlags := {}
  fp64 : Option (Nat × Bool × Bool) := none

/-- The slice count of an FP64 MMA, and whether its pairs are the truncated triangle (R168, R170). -/
def MatOp.choice (o : MatOp) : Nat × Bool :=
  let sa := scanVals ((elemsOf 64 16 o.a).map fp64.decode)
  let sb := scanVals ((elemsOf 64 32 o.b).map fp64.decode)
  let (smax, pmax) := match fp64Target o.tgt with
    | some (_, s, p, _) => (s, p)
    | none => (2, 4)
  sliceChoice (max (spanOf sa) (spanOf sb)) smax pmax

/-- The array cycles that an operation uses (R171): its occupancy, but for an FP64 product over a full square of slices. -/
def MatOp.arrayCycles (o : MatOp) : Nat :=
  if o.kind == .mzero then 0
  else if o.fmt = 0xD ∧ !o.choice.2 then 1 + o.choice.1 * o.choice.1 + ceilDiv (o.choice.1 * o.choice.1) 16
  else matOcc o.fmt o.tgt

/-- The landing of an FP64 MMA or MMAZ (R168 to R174). -/
def landWide (o : MatOp) (old : AccCells) : MatResult :=
  let as := (elemsOf 64 16 o.a).map fp64.decode
  let bs := (elemsOf 64 32 o.b).map fp64.decode
  let sa := scanVals as
  let sb := scanVals bs
  let (s, tri) := o.choice
  let ea := match sa with | some (e, _) => e | none => 0
  let eb := match sb with | some (e, _) => e | none => 0
  let live := sa.isSome && sb.isSome
  let sla := as.map (slicesOf s ea)
  let slb := bs.map (slicesOf s eb)
  let tx : Int := ea + eb - 16 * s + 2
  let clear := o.kind == .mmaz
  let cellAt (n : Nat) : WideCell := match old with
    | .wide c => c.getD n .zero
    | _ => .zero
  let res := (List.range 512).map fun n =>
    let i := n / 32
    let j := n % 32
    let (na, la) := sla.getD i (false, [])
    let (nb, lb) := slb.getD j (false, [])
    let mag := if live then pairSum s tri la lb else 0
    let tau : Int := if na != nb then -(mag : Int) else mag
    wideCell clear (cellAt n) (as.getD i (.fin false 0 0)) (bs.getD j (.fin false 0 0)) tau tx
  { cells := .wide (res.map (·.1)),
    flags := { nv := res.any (·.2.2.2), nx := res.any (·.2.2.1) },
    fp64 := some (s, tri, res.any (·.2.1)) }

/-- The landing of a matrix operation in a block (R164 to R174). -/
def landMatrix (o : MatOp) (old : AccCells) : MatResult :=
  match o.kind with
  | .mzero => { cells := .zero }
  | _ =>
    match matFmt o.fmt with
    | none => { cells := old }
    | some m =>
      match m.mode with
      | .wide => landWide o old
      | .integer =>
        let a := matElems m.w 1 (16 * m.k) o.a
        let b := matElems m.w 2 (32 * m.k) o.b
        let base (n : Nat) : BitVec 48 := match o.kind, old with
          | .mma, .integer c => c.getD n 0
          | _, _ => 0
        { cells := .integer ((List.range 512).map fun n =>
            let i := n / 32
            let j := n % 32
            let s : Int := ((List.range m.k).map fun kk =>
              sextNat m.w (a.getD (m.k * i + kk) 0) * sextNat m.w (b.getD (32 * kk + j) 0)).sum
            base n + BitVec.ofInt 48 s) }
      | _ =>
        let a := matElems m.w 1 (16 * m.k) o.a
        let b := matElems m.w 2 (32 * m.k) o.b
        let sc := elemsOf 8 48 o.c
        let base (n : Nat) : Option Nat := match o.kind, old with
          | .mma, .float c => some (c.getD n 0).toNat
          | .mma, _ => some 0
          | _, _ => none
        let res := (List.range 512).map fun n =>
          floatCell (base n) (cellProducts m a b sc (n / 32) (n % 32)) (o.a + n)
        { cells := .float (res.map fun r => BitVec.ofNat 32 r.1),
          flags := (res.map (·.2)).foldl FFlags.or {} }

/-- The exact value of cell `n` of a block (R167). -/
def cellVal (c : AccCells) (n : Nat) : FVal :=
  match c with
  | .zero => .fin false 0 0
  | .integer l => intVal (l.getD n 0).toInt
  | .float l => fp32.decode (l.getD n 0).toNat
  | .wide l => match l.getD n .zero with
    | .zero => .fin false 0 0
    | .val i g => .fin (i < 0) i.natAbs g
    | .inf neg => .inf neg
    | .nan => .nan false

/-- One element of a readout (R156, R167). An integer cell saturates with MSAT; any other follows R156. -/
def readCell (fmt : Nat) (c : AccCells) (n : Nat) : Nat × FFlags :=
  match fmt with
  | 0xA => bf16.encode .near (cellVal c n)
  | 0xB => fp16.encode .near (cellVal c n)
  | 0xC => fp32.encode .near (cellVal c n)
  | 0xD => fp64.encode .near (cellVal c n)
  | _ => match c with
    | .integer l =>
      let (i, s) := satInt 32 (l.getD n 0).toInt
      (wrapInt 32 i, { sat := s })
    | _ =>
      let (i, fl) := fToInt .near 32 (cellVal c n)
      (wrapInt 32 i, fl)

/-- The result of an MRD, as it will land (R122, R123, R159). -/
def mrdLanding (f : MFields) (x : Snap) : Landing :=
  let w := (readoutBits f.fmt.toNat).getD 32
  let n := 512 / w
  let row := f.mc.toNat / 8
  let g := f.mc.toNat % 8
  let c := (kget {} x.tile.acc f.td.toNat).cells
  let es := (List.range n).map fun i => readCell f.fmt.toNat c (32 * row + g * n + i)
  { left := 2, dest := .v f.ma.toNat, val := BitVec.ofNat 512 (joinElems w (es.map (·.1))),
    mask := BitVec.allOnes 512, mflags := (es.map (·.2)).foldl FFlags.or {} }

end Sys2Proof.Machine
end

