-- ==== Sys2Proof/Machine/Vector.lean ====
section
/-! DEFINITION. Machine/Vector.lean: the V slot (R124 to R128) and the arithmetic of the vector and scalar units
(R176 to R185). -/

namespace Sys2Proof.Machine

open Sys2Proof

/-- The operations of R127. -/
inductive VOp where
  | vnop | vadd | vsub | vmul | vfma | vfms | vfnma | vmin | vmax | vabs | vneg | vrcp | vrsq
  | vcmpeq | vcmplt | vcmple | vcvt | vsel | vcmul | vcfma | vconj
  | viadd | visub | vimul | vand | vor | vxor | vshl | vshr | vsra | vbcast | vperm | vredsum
  | sadd | ssub | smul | sand | sor | sxor | sshl | sshr | saddi | sli | slui | scmpeq | scmplt
  | smovv | smovs | sstat | pset | pand | por | pnot
  deriving DecidableEq, Repr

/-- The VOP codes of R127; a code not listed is reserved. -/
def vopOf : Nat → Option VOp
  | 0x00 => some .vnop | 0x01 => some .vadd | 0x02 => some .vsub | 0x03 => some .vmul | 0x04 => some .vfma
  | 0x05 => some .vfms | 0x06 => some .vfnma | 0x07 => some .vmin | 0x08 => some .vmax | 0x09 => some .vabs
  | 0x0A => some .vneg | 0x0B => some .vrcp | 0x0C => some .vrsq | 0x0D => some .vcmpeq | 0x0E => some .vcmplt
  | 0x0F => some .vcmple | 0x10 => some .vcvt | 0x11 => some .vsel | 0x18 => some .vcmul | 0x19 => some .vcfma
  | 0x1A => some .vconj | 0x20 => some .viadd | 0x21 => some .visub | 0x22 => some .vimul | 0x23 => some .vand
  | 0x24 => some .vor | 0x25 => some .vxor | 0x26 => some .vshl | 0x27 => some .vshr | 0x28 => some .vsra
  | 0x30 => some .vbcast | 0x31 => some .vperm | 0x32 => some .vredsum | 0x40 => some .sadd | 0x41 => some .ssub
  | 0x42 => some .smul | 0x43 => some .sand | 0x44 => some .sor | 0x45 => some .sxor | 0x46 => some .sshl
  | 0x47 => some .sshr | 0x48 => some .saddi | 0x49 => some .sli | 0x4A => some .slui | 0x4B => some .scmpeq
  | 0x4C => some .scmplt | 0x4D => some .smovv | 0x4E => some .smovs | 0x4F => some .sstat | 0x50 => some .pset
  | 0x51 => some .pand | 0x52 => some .por | 0x53 => some .pnot
  | _ => none

/-- The destination class of an operation (R126). -/
inductive VClass where
  | none | v | p | s
  deriving DecidableEq, Repr

/-- The class column of R127. -/
def VOp.cls : VOp → VClass
  | .vnop => .none
  | .vcmpeq | .vcmplt | .vcmple | .scmpeq | .scmplt | .pset | .pand | .por | .pnot => .p
  | .sadd | .ssub | .smul | .sand | .sor | .sxor | .sshl | .sshr | .saddi | .sli | .slui | .smovv | .sstat => .s
  | _ => .v

/-- The "Lands at" column of R127: bundles after issue. -/
def VOp.latency : VOp → Nat
  | .vnop => 0
  | .vadd | .vsub | .vmul | .vfma | .vfms | .vfnma => 4
  | .vmin | .vmax | .vabs | .vneg | .vcmpeq | .vcmplt | .vcmple | .vbcast | .vperm | .smovv | .smovs => 2
  | .vrcp | .vrsq | .vcmul | .vcfma => 6
  | .vcvt | .vimul | .smul => 3
  | .vredsum => 8
  | _ => 1

/-- The TY column of R177. It lists neither SCMPEQ nor SCMPLT, whose operands are scalars (R124): they take 4, as the class S operations
do (DEDUCED, log entry 174). -/
def VOp.accepts (o : VOp) (y : ETy) : Bool :=
  match o with
  | .vnop => y == .f64
  | .vadd | .vsub | .vneg => y == .f64 || y == .f32 || y.isComplex
  | .vmul | .vfma | .vfms | .vfnma | .vrcp | .vrsq => y == .f64 || y == .f32
  | .vmin | .vmax | .vabs | .vcmpeq | .vcmplt | .vcmple | .vredsum => !y.isComplex
  | .vcmul | .vcfma | .vconj => y.isComplex
  | .vcvt | .vsel | .vbcast | .vperm => true
  | .viadd | .visub | .vimul | .vand | .vor | .vxor | .vshl | .vshr | .vsra =>
    y == .i64 || y == .i32 || y == .i16 || y == .i8
  | _ => y == .i64

/-- Operations whose RND must be 0 (R177), beside those of an integer TY (R125). -/
def VOp.noRound : VOp → Bool
  | .vmin | .vmax | .vabs | .vneg | .vcmpeq | .vcmplt | .vcmple | .vsel | .vbcast | .vperm | .vconj => true
  | _ => false

/-- How an operation uses S1, S2 and S3: the bits it reads, and which are operand codes (R101, R127). -/
structure VUse where
  m1 : Nat
  m2 : Nat
  m3 : Nat
  codes : Nat

/-- The operand fields of each operation (R101, R127, R128). -/
def VOp.use : VOp → VUse
  | .vnop => ⟨0, 0, 0, 0⟩
  | .vfma | .vfms | .vfnma | .vcfma => ⟨0x7F, 0x7F, 0x7F, 3⟩
  | .vabs | .vneg | .vrcp | .vrsq | .vconj | .vredsum => ⟨0x7F, 0, 0, 1⟩
  | .vcvt => ⟨0x7F, 0, 7, 1⟩
  | .vsel => ⟨0x7F, 0x7F, 0xF, 2⟩
  | .vbcast => ⟨0x7F, 0x3F, 0, 1⟩
  | .saddi => ⟨0x7F, 0x7F, 0x7F, 1⟩
  | .sli | .slui => ⟨0, 0x7F, 0x7F, 0⟩
  | .smovv | .smovs => ⟨0x7F, 7, 0, 1⟩
  | .sstat => ⟨0x7F, 0, 0, 0⟩
  | .pset => ⟨1, 0, 0, 0⟩
  | .pand | .por => ⟨0xF, 0xF, 0, 0⟩
  | .pnot => ⟨0xF, 0, 0, 0⟩
  | _ => ⟨0x7F, 0x7F, 0, 2⟩

/-- The relay latches an operation reads. -/
def VOp.latches (o : VOp) (f : VFields) : List Dir :=
  (if 1 ≤ o.use.codes then latchOf f.s1.toNat else []) ++
  (if 2 ≤ o.use.codes then latchOf f.s2.toNat else []) ++
  (if 3 ≤ o.use.codes then latchOf f.s3.toNat else [])

/-- Whether the V slot's encoding faults with BAD_BUNDLE (R101, R125 to R128, R177). -/
def VOp.bad (o : VOp) (f : VFields) : Bool :=
  let y := ETy.ofField f.ty.toNat
  let u := o.use
  let wide (v m : Nat) : Bool := v &&& m != v
  if o = .vnop then !(f.vd == 0 && f.s1 == 0 && f.s2 == 0 && f.s3 == 0 && f.ty == 0 && f.rnd == 0)
  else
    !o.accepts y
    || wide f.s1.toNat u.m1 || wide f.s2.toNat u.m2 || wide f.s3.toNat u.m3
    || (1 ≤ u.codes && badCode f.s1.toNat) || (2 ≤ u.codes && badCode f.s2.toNat)
    || (3 ≤ u.codes && badCode f.s3.toNat)
    || (o == .vcvt && y.isComplex != (ETy.ofField (f.s3.toNat % 8)).isComplex)
    || (f.rnd != 0 && (o.noRound || (y.fmt.isNone && !(o == .vcvt && (ETy.ofField (f.s3.toNat % 8)).fmt.isSome))))
    || (o.cls == .p && 0x0B < f.vd.toNat) || (o.cls == .s && 0x2F < f.vd.toNat)
    || (o == .vbcast && 512 / y.bits ≤ f.s2.toNat)
    || (o == .sstat && 5 < f.s1.toNat)

/-- Whether an operation needs the vector unit that VCMUL and VCFMA hold for two bundles (R184). -/
def VOp.needsVector (o : VOp) : Bool :=
  o.cls == .v || o == .vcmpeq || o == .vcmplt || o == .vcmple

/-- An integer element operation, on bit patterns of `w` bits (R179, R185). -/
def intElem (o : VOp) (w x y : Nat) : Nat :=
  let sx := sextNat w x
  let sy := sextNat w y
  match o with
  | .viadd | .vredsum => (x + y) % 2 ^ w
  | .visub => wrapInt w ((x : Int) - y)
  | .vimul => x * y % 2 ^ w
  | .vand => x &&& y
  | .vor => x ||| y
  | .vxor => x ^^^ y
  | .vshl => x * 2 ^ (y % w) % 2 ^ w
  | .vshr => x / 2 ^ (y % w)
  | .vsra => wrapInt w (sx / (2 ^ (y % w) : Nat))
  | .vmin => if sx ≤ sy then x else y
  | .vmax => if sx ≥ sy then x else y
  | .vabs => wrapInt w sx.natAbs
  | _ => x

/-- A floating-point element operation (R178 to R181). -/
def floatElem (o : VOp) (t : FloatFmt) (r : Rnd) (x y z : Nat) : Nat × FFlags :=
  match o with
  | .vadd | .vredsum => t.op2 r (fAdd r) x y
  | .vsub => t.op2 r (fun a b => fAdd r a b.neg) x y
  | .vmul => t.op2 r fMul x y
  | .vfma => t.fma r false false x y z
  | .vfms => t.fma r false true x y z
  | .vfnma => t.fma r true false x y z
  | .vmin => t.minMax false x y
  | .vmax => t.minMax true x y
  | .vabs => (t.absNeg false x, {})
  | .vneg => (t.absNeg true x, {})
  | .vrcp => t.rcp x
  | .vrsq => t.rsq x
  | _ => (x, {})

/-- One real element under any type. -/
def realElem (o : VOp) (y : ETy) (r : Rnd) (a b c : Nat) : Nat × FFlags :=
  match y.fmt with
  | some t => floatElem o t r a b c
  | none => (intElem o y.bits a b, {})

/-- A complex product with an optional addend, each part exact and rounded once (R184). The sign of an exact zero that is not the sum of zeros of one sign is
not given: a free value (DESIGN CHOICE, log entry 203). -/
def complexMul (t : FloatFmt) (r : Rnd) (w a b : Nat) (c : Option Nat) : Nat × FFlags :=
  let re (v : Nat) := t.decode (v % 2 ^ w)
  let im (v : Nat) := t.decode (v / 2 ^ w)
  let part (neg : Bool) (p q u v : FVal) (add : Option FVal) : Nat × FFlags :=
    let (m, f1) := fMul p q
    let (n, f2) := fMul u v
    let (s, f3) := fAdd r m (if neg then n.neg else n)
    let (s', f4) := match add with
      | some k => fAdd r s k
      | none => (s, {})
    let negs := ([m, if neg then n.neg else n] ++ add.toList).map fun v => match v with | .fin g _ _ => g | _ => false
    let s' := match s' with
      | .fin g 0 x => .fin (if negs.all (· == g) then g else Config.complexZeroSign (!neg) a b c) 0 x
      | v => v
    let (e, f5) := t.encode r s'
    (e, (((f1.or f2).or f3).or f4).or f5)
  let (x, fx) := part true (re a) (re b) (im a) (im b) (c.map re)
  let (y, fy) := part false (re a) (im b) (im a) (re b) (c.map im)
  (x + 2 ^ w * y, fx.or fy)

/-- The complex conjugate (R127); a NaN part becomes the canonical NaN, as R154 asks of every unit. -/
def complexConj (t : FloatFmt) (w a : Nat) : Nat :=
  let re := a % 2 ^ w
  let im := a / 2 ^ w
  (if (t.decode re).isNan then t.nanCode else re) + 2 ^ w * t.absNeg true im

/-- One element of an element-wise operation; complex types act on each part (R178). -/
def elemOp (o : VOp) (y : ETy) (r : Rnd) (a b c : Nat) : Nat × FFlags :=
  match y.isComplex, y.fmt with
  | true, some t =>
    let w := y.partBits
    match o with
    | .vcmul => complexMul t r w a b none
    | .vcfma => complexMul t r w a b (some c)
    | .vconj => (complexConj t w a, {})
    | _ =>
      let (x, fx) := floatElem o t r (a % 2 ^ w) (b % 2 ^ w) (c % 2 ^ w)
      let (z, fz) := floatElem o t r (a / 2 ^ w) (b / 2 ^ w) (c / 2 ^ w)
      (x + 2 ^ w * z, fx.or fz)
  | _, _ => realElem o y r a b c

/-- One converted real number (R182). -/
def convertReal (sf tf : Option FloatFmt) (ws wt : Nat) (r : Rnd) (x : Nat) : Nat × FFlags :=
  match sf, tf with
  | some f, some g => g.encode r (f.decode x)
  | some f, none =>
    let (i, fl) := fToInt r wt (f.decode x)
    (wrapInt wt i, fl)
  | none, some g => g.encode r (intVal (sextNat ws x))
  | none, none =>
    let (i, s) := satInt wt (sextNat ws x)
    (wrapInt wt i, { sat := s })

/-- One converted element (R182). -/
def convertElem (src dst : ETy) (r : Rnd) (x : Nat) : Nat × FFlags :=
  if src.isComplex then
    let w := src.partBits
    let (a, fa) := convertReal src.fmt dst.fmt w dst.partBits r (x % 2 ^ w)
    let (b, fb) := convertReal src.fmt dst.fmt w dst.partBits r (x / 2 ^ w)
    (a + 2 ^ dst.partBits * b, fa.or fb)
  else convertReal src.fmt dst.fmt src.bits dst.bits r x

/-- One level of the tree of R183: neighbours added in pairs. -/
def sumPairs (y : ETy) (r : Rnd) : List Nat → List Nat × FFlags
  | a :: b :: es =>
    let (x, f) := realElem .vredsum y r a b 0
    let (xs, g) := sumPairs y r es
    (x :: xs, f.or g)
  | es => (es, {})

/-- The balanced tree of R183, by levels. -/
def sumTree (y : ETy) (r : Rnd) : Nat → List Nat → List Nat × FFlags
  | 0, es => (es, {})
  | n + 1, es =>
    let (xs, f) := sumPairs y r es
    let (zs, g) := sumTree y r n xs
    (zs, f.or g)

/-- The elements a class-V operation gives, their width, and the flags of each. SMOVS takes its scalar from any operand code, of a
vector register, a latch or an A register the low 64 bits (DEDUCED, log entry 175). -/
def vecResult (o : VOp) (f : VFields) (x : Snap) : Nat × List (Nat × FFlags) :=
  let y := ETy.ofField f.ty.toNat
  let w := y.bits
  let n := 512 / w
  let r := Rnd.ofField f.rnd.toNat
  let plain (l : List Nat) : List (Nat × FFlags) := l.map fun e => (e, {})
  match o with
  | .smovs =>
    let d := elemsOf 64 8 (x.tile.vreg f.vd.toNat)
    (64, plain (d.set (f.s2.toNat % 8) (x.scalar f.s1.toNat)))
  | .vcvt =>
    let z := ETy.ofField (f.s3.toNat % 8)
    let nd := 512 / z.bits
    let src := x.vector w f.s1.toNat
    (z.bits, (List.range nd).map fun i => if i < n then convertElem y z r (src.getD i 0) else (0, {}))
  | .vbcast => (w, plain (List.replicate n ((x.vector w f.s1.toNat).getD f.s2.toNat 0)))
  | .vperm =>
    let src := x.vector w f.s1.toNat
    (w, plain ((x.vector w f.s2.toNat).map fun i => src.getD (i % n) 0))
  | .vsel =>
    let sel := predMask w n (x.tile.preg (f.s3.toNat % 16))
    let a := x.vector w f.s1.toNat
    let b := x.vector w f.s2.toNat
    (w, plain ((List.range n).map fun i => if sel.getD i false then a.getD i 0 else b.getD i 0))
  | .vredsum =>
    let (l, fl) := sumTree y r (Nat.log2 n) (x.vector w f.s1.toNat)
    (w, (List.range n).map fun i => if i = 0 then (l.headD 0, fl) else (0, {}))
  | _ =>
    let a := x.vector w f.s1.toNat
    let b := if 2 ≤ o.use.codes then x.vector w f.s2.toNat else []
    let c := if 3 ≤ o.use.codes then x.vector w f.s3.toNat else []
    (w, (List.range n).map fun i => elemOp o y r (a.getD i 0) (b.getD i 0) (c.getD i 0))

/-- A vector comparison (R180): element width, and for each element whether it holds. -/
def cmpResult (o : VOp) (f : VFields) (x : Snap) : Nat × List (Bool × FFlags) :=
  let y := ETy.ofField f.ty.toNat
  let w := y.bits
  let a := x.vector w f.s1.toNat
  let b := x.vector w f.s2.toNat
  let k : FCmp := match o with
    | .vcmpeq => .eq
    | .vcmplt => .lt
    | _ => .le
  (w, (List.range (512 / w)).map fun i =>
    let p := a.getD i 0
    let q := b.getD i 0
    match y.fmt with
    | some t => t.cmp k p q
    | none =>
      let sp := sextNat w p
      let sq := sextNat w q
      (match k with
        | .eq => sp == sq
        | .lt => sp < sq
        | .le => sp ≤ sq, {}))

/-- The item SSTAT reads (R128, R157). -/
def sstatItem (i : Nat) (x : Snap) : Nat :=
  match i with
  | 0 => x.tile.bundle % 2 ^ 48
  | 1 => colOf x.t + 256 * rowOf x.t
  | 2 => x.den.rect.skew x.t
  | 3 => x.den.rect.span
  | 4 => x.tile.mstat.toNat
  | _ => x.den.wave.z % 2 ^ 64

/-- The 14-bit immediate of SADDI, SLI and SLUI in slot bits [18:5]. -/
def imm14 (f : VFields) : Nat := f.s2.toNat * 128 + f.s3.toNat

/-- A class-S destination (R126). -/
def sDest (vd : Nat) : Reg := if vd < 0x20 then .s vd else .a (vd - 0x20)

/-- What a class-S destination holds. -/
def Snap.old (x : Snap) : Reg → Nat
  | .s i => x.tile.sreg i
  | .a i => x.tile.areg i
  | .v i => x.tile.vreg i
  | .p i => x.tile.preg i

/-- The element SMOVV reads (R124, R127): 64 bits of a vector register; of a latch the low 64 bits, as every scalar operation; an S
or A register has element 0 alone, and what its other elements read is an opaque value (R124 states none). -/
def smovvValue (f : VFields) (x : Snap) : Nat :=
  let k := f.s2.toNat % 8
  if f.s1.toNat < 0x40 then (x.vector 64 f.s1.toNat).getD k 0
  else if f.s1.toNat < 0x50 ∨ k = 0 then x.scalar f.s1.toNat
  else (Config.scalarElement (x.scalar f.s1.toNat) k).toNat

/-- A class-S result (R127, R185). -/
def scalarResult (o : VOp) (f : VFields) (x : Snap) : Nat :=
  let a := x.scalar f.s1.toNat
  let b := x.scalar f.s2.toNat
  match o with
  | .sadd => (a + b) % 2 ^ 64
  | .ssub => wrapInt 64 ((a : Int) - b)
  | .smul => a * b % 2 ^ 64
  | .sand => a &&& b
  | .sor => a ||| b
  | .sxor => a ^^^ b
  | .sshl => a * 2 ^ (b % 64) % 2 ^ 64
  | .sshr => a / 2 ^ (b % 64)
  | .saddi => wrapInt 64 ((a : Int) + sextNat 14 (imm14 f))
  | .sli => wrapInt 64 (sextNat 14 (imm14 f))
  | .slui => (x.old (sDest f.vd.toNat) * 2 ^ 14 % 2 ^ 64) ||| imm14 f
  | .smovv => smovvValue f x
  | .sstat => sstatItem f.s1.toNat x
  | _ => 0

/-- A predicate result that is no vector comparison (R127). -/
def predResult (o : VOp) (f : VFields) (x : Snap) : Nat :=
  let ones := 2 ^ 64 - 1
  let p := x.tile.preg (f.s1.toNat % 16)
  let q := x.tile.preg (f.s2.toNat % 16)
  match o with
  | .pset => if f.s1.toNat % 2 = 1 then ones else 0
  | .pand => p &&& q
  | .por => p ||| q
  | .pnot => ones - p
  | .scmpeq => if x.scalar f.s1.toNat = x.scalar f.s2.toNat then ones else 0
  | .scmplt => if sextNat 64 (x.scalar f.s1.toNat) < sextNat 64 (x.scalar f.s2.toNat) then ones else 0
  | _ => 0

/-- The flags of the elements that are written (R108). -/
def flagsOf : List Bool → List FFlags → FFlags
  | true :: ms, f :: fs => f.or (flagsOf ms fs)
  | false :: ms, _ :: fs => flagsOf ms fs
  | _, _ => {}

/-- The result of a V slot operation, as it will land (R103, R108): none for VNOP. -/
def vLanding (o : VOp) (f : VFields) (x : Snap) : Option Landing :=
  let pred := f.pred.map fun p => x.tile.preg p.toNat
  match o.cls with
  | .none => none
  | .v =>
    let (w, es) := vecResult o f x
    let n := 512 / w
    let m := predMask w n (pred.getD (2 ^ 64 - 1))
    some { left := o.latency, dest := .v f.vd.toNat, val := BitVec.ofNat 512 (joinElems w (es.map (·.1))),
           mask := BitVec.ofNat 512 (maskBits w m), vflags := flagsOf m (es.map (·.2)) }
  | .p =>
    if o = .vcmpeq ∨ o = .vcmplt ∨ o = .vcmple then
      let (w, es) := cmpResult o f x
      let n := 512 / w
      let m := predMask w n (pred.getD (2 ^ 64 - 1))
      some { left := o.latency, dest := .p f.vd.toNat,
             val := BitVec.ofNat 512 (maskBits (w / 8) (es.map (·.1))),
             mask := BitVec.ofNat 512 (maskBits (w / 8) m), vflags := flagsOf m (es.map (·.2)) }
    else
      some { left := o.latency, dest := .p f.vd.toNat, val := BitVec.ofNat 512 (predResult o f x),
             mask := if (pred.getD 1) % 2 = 1 then BitVec.allOnes 512 else 0 }
  | .s =>
    some { left := o.latency, dest := sDest f.vd.toNat, val := BitVec.ofNat 512 (scalarResult o f x),
           mask := if (pred.getD 1) % 2 = 1 then BitVec.allOnes 512 else 0 }

end Sys2Proof.Machine
end

