-- ==== Sys2Proof/Machine/Slots.lean ====
section
/-! DEFINITION. Machine/Slots.lean: what one slot of a bundle does (chapter 03): for each slot its check, which answers
the fault of R739 it raises, and its effect, both on the tile as the slots see it after step 2 of R102. -/

namespace Sys2Proof.Machine

open Sys2Proof

/-- BAD_BUNDLE (R101). -/
def cBad : Code := 0x0301
/-- ALIGN (R131). -/
def cAlign : Code := 0x0308
/-- BANK_NOT_ON (R61). -/
def cBank : Code := 0x0201

/-! ### Scratchpad -/

/-- Whether a bank can be accessed (R59, R61). -/
def Bank.ready (b : Bank) : Bool := b.mode == .on && b.wake == 0

/-- The bank of an address (R56). -/
def bankOf (a : Nat) : Nat := bitsOf a 3 4

/-- The banks of `n` bytes from an address: 8-byte words fall in consecutive banks (R56). -/
def banksOf (a n : Nat) : List Nat := (List.range (ceilDiv n 8)).map fun i => bankOf (a + 8 * i)

/-- Whether every bank of an access can be accessed. -/
def Tile.banksReady (x : Tile) (a n : Nat) : Bool := (banksOf a n).all fun b => (kget {} x.banks b).ready

/-- Write bytes at an address of the scratchpad, those a mask names. -/
def spadPut (m : KMap Byte) (a : Nat) (mask : Nat) : List Byte → KMap Byte
  | [] => m
  | b :: bs =>
    let m := if mask % 2 = 1 then kput 0 m a b else m
    spadPut m (a + 1) (mask / 2) bs

/-- The store buffer's entry is written (R58). -/
def Tile.flush (x : Tile) : Tile :=
  match x.storeBuf with
  | some (a, bs, mask) => { x with spad := spadPut x.spad a mask.toNat bs, storeBuf := none }
  | none => x

/-- `n` bytes of the scratchpad, read through the store buffer (R56, R58). -/
def Tile.spadRead (x : Tile) (a n : Nat) : List Byte :=
  (List.range n).map fun i => kget 0 x.flush.spad (a + i)

/-- A write of the scratchpad by a pump or another agent. -/
def Tile.spadWrite (x : Tile) (a : Nat) (bs : List Byte) : Tile :=
  let x := x.flush
  { x with spad := spadPut x.spad a (2 ^ bs.length - 1) bs }

/-- The bytes of a bank are destroyed (R60). -/
def Tile.dropBank (x : Tile) (b : Nat) : Tile :=
  { x with spad := x.spad.filter fun (a, _) => bankOf a != b }

/-- A change of a bank's state (R60): 0 on, 1 retention, 2 off. A bank on its way through on to retention that is sent back to on
first ends that passage (log entry 165). -/
def Tile.setBank (x : Tile) (b st : Nat) : Tile :=
  let x := x.flush
  let k : Bank := kget {} x.banks b
  let put (x : Tile) (k : Bank) : Tile := { x with banks := kput {} x.banks b k }
  match k.mode, st with
  | .off, 0 => put x { mode := .on, wake := 4160 }
  | .off, 1 => put x { mode := .retention, wake := 4160 }
  | .off, _ => x
  | .on, 0 => x
  | .on, 1 => put x { mode := .retention }
  | .retention, 0 => put x { mode := .on, wake := k.wake + 48 }
  | .retention, 1 => x
  | _, _ => put (x.dropBank b) {}

/-- Tile cycles pass for some banks that change (R60). -/
def Tile.ageBanks (x : Tile) (n : Nat) (p : Nat → Bool) : Tile :=
  { x with banks := x.banks.map fun (i, k) => (i, if p i then { k with wake := k.wake - n } else k) }

/-- `n` tile cycles pass for the banks that change (R60). -/
def Tile.bankCycles (x : Tile) (n : Nat) : Tile := x.ageBanks n fun _ => true

/-! ### M slot -/

/-- The fault an M operation raises (R739, row 5). -/
def mFault (o : MOp) (f : MFields) (x : Snap) : Option Code :=
  if o.bad f then some cBad
  else if (o == .mma || o == .mmaz || o == .mzero) && x.tile.matBusy != 0 then some 0x0306
  else if o.modeClash f (kget {} x.tile.acc f.td.toNat).mode then some 0x0401
  else none

/-- The effect of an M operation (R119, R123, R164): a readout in flight, or an operation in flight that sets the block's
mode and, for MZERO and MMAZ, supersedes those before it. -/
def mEffect (o : MOp) (f : MFields) (x : Snap) (s : State) : State :=
  match o with
  | .mnop => s
  | .mrd => s.modTile x.t fun y => { y with landings := y.landings ++ [mrdLanding f x] }
  | _ => s.modTile x.t fun y =>
    let td := f.td.toNat
    let b : AccBlock := kget {} y.acc td
    let old := if o = .mma then y.mats else y.mats.map fun m => if m.td = td then { m with superseded := true } else m
    { y with acc := kput {} y.acc td { b with mode := o.newMode f b.mode },
             mats := old ++ [o.inFlight f x],
             matBusy := if o = .mzero then 1 else matOcc f.fmt.toNat f.tgt.toNat }

/-! ### V slot -/

/-- The fault a V operation raises (R739, row 6). -/
def vFault (o : VOp) (f : VFields) (x : Snap) : Option Code :=
  if o.bad f then some cBad
  else if o.needsVector && x.tile.vecBusy != 0 then some 0x0402
  else none

/-- The effect of a V operation: its result in flight, and the vector unit's occupancy (R184). -/
def vEffect (o : VOp) (f : VFields) (x : Snap) (s : State) : State :=
  s.modTile x.t fun y =>
    { y with landings := y.landings ++ (vLanding o f x).toList,
             vecBusy := if o = .vcmul ∨ o = .vcfma then 2 else y.vecBusy }

/-! ### A slot -/

/-- The operations of R130. -/
inductive AOp where
  | anop | ld | st | ldst | lds | sts
  deriving DecidableEq, Repr

/-- Whether an A operation loads. -/
def AOp.loads (o : AOp) : Bool := o == .ld || o == .ldst || o == .lds
/-- Whether an A operation stores. -/
def AOp.stores (o : AOp) : Bool := o == .st || o == .ldst || o == .sts
/-- The bytes an A operation moves. -/
def AOp.size (o : AOp) : Nat := if o = .lds ∨ o = .sts then 8 else 64

/-- The address a load or store uses (R131). -/
def Snap.aAddr (x : Snap) (r : BitVec 4) : Nat := x.tile.areg r.toNat % 2 ^ 19

/-- Whether an A operation's encoding faults with BAD_BUNDLE (R101, R129, R130). -/
def AOp.bad (o : AOp) (f : AFields) : Bool :=
  (!o.loads && !(f.lv == 0 && f.la == 0 && f.linc == 0)) || (!o.stores && !(f.sv == 0 && f.sa == 0 && f.sinc == 0)) ||
    (o == .lds && 0x1F < f.lv.toNat) || (o == .sts && 0x1F < f.sv.toNat)

/-- The accesses of an A operation. -/
def AOp.accesses (o : AOp) (f : AFields) (x : Snap) : List Nat :=
  (if o.loads then [x.aAddr f.la] else []) ++ (if o.stores then [x.aAddr f.sa] else [])

/-- The fault an A operation raises (R739, row 7). -/
def aFault (o : AOp) (f : AFields) (x : Snap) : Option Code :=
  if o.bad f then some cBad
  else if (o.accesses f x).any fun a => a % o.size != 0 then some cAlign
  else if (o.accesses f x).any fun a => !x.tile.banksReady a o.size then some cBank
  else none

/-- A post-increment in units of `unit` bytes, as a result that lands one bundle later (R131); zero writes nothing. -/
def incLanding (x : Snap) (r : BitVec 4) (inc : Int) (unit : Nat) : List Landing :=
  if inc = 0 then []
  else [{ left := 1, dest := .a r.toNat,
          val := BitVec.ofNat 512 (wrapInt 64 ((x.tile.areg r.toNat : Int) + inc * unit)), mask := BitVec.allOnes 512 }]

/-- Whether one of `n` pieces of `sz` bytes that stand `step` apart holds an offset. -/
def strideHit (step : Int) (n sz : Nat) (r : Int) : Bool :=
  let s := step.natAbs
  let r := if step < 0 then r - step * (n - 1 : Nat) else r
  n != 0 && 0 ≤ r && r < s * (n - 1 : Nat) + sz && (s ≤ sz || r % s < sz)

/-- Whether an offset of an array that a descriptor names in its word `i` is one that the operation reads or writes: strided elements and
the boxes and rings of a STENCIL leave gaps (R240, R249). -/
def Desc.inside (d : Desc) (i : Nat) (r : Int) : Bool :=
  match d.op, i with
  | 2, 1 => d.func != 0 || strideHit (sextNat 32 d.w4) d.count (typeBytes d.etype) r
  | 3, 2 => d.func != 0 || strideHit (sextNat 32 d.w4) d.count (typeBytes d.dtype) r
  | 6, 1 => (List.range (bitsOf d.w4 16 16)).any fun j =>
      strideHit (sextNat 32 (d.w5 / 2 ^ 32)) d.count (bitsOf d.w4 0 16 * typeBytes d.etype) (r - j * sextNat 32 d.w5)
  | 6, 2 =>
    let ring := bitsOf d.w6 0 19
    let first := bitsOf d.w6 32 19
    if ring = 0 then first ≤ r && r < first + d.count * d.plane
    else
      let start := first % d.plane
      let many := ring / d.plane
      let at_ := (r.toNat - start) / d.plane
      start ≤ r && (at_ + many - first / d.plane) % many < d.count
  | _, _ => true

/-- Whether a scratchpad byte is one that an operation's descriptor fixes as read or written (R256). -/
def Desc.uses (d : Desc) (b : Nat) : Bool :=
  d.arrays.any fun (i, _, lo, hi) =>
    let r : Int := b - locAddr (d.word i)
    locKind (d.word i) == 1 && lo ≤ r && r < hi && d.inside i r

/-- Whether an address lies in one of some ranges. -/
def inRanges (l : List (Nat × Nat)) (a : Nat) : Bool := l.any fun (b, len) => b ≤ a && a < b + len

/-- A store to bytes that an operation uses between its issuing and its due bundle (R256): those bytes get no defined value, so the
store leaves free bytes where the operation's descriptor names them or it has touched them, and the operation notes the store, so
that what it touches of it later is free. -/
def State.storeClash (s : State) (t a n mask : Nat) : State :=
  let x := s.tile t
  if x.pump.tags.all fun (_, o) => o.isNone then s
  else
    let hit := (List.range n).filter fun i => mask.testBit i
    let used (b : Nat) : Bool := x.pump.tags.any fun (_, o) => match o with
      | some op => (!(op.status.any (· != 0)) && (Desc.of op.desc).uses b) || inRanges op.touched b
      | none => false
    let free := hit.foldl (fun (m : KMap Byte) i => if used (a + i) then kput 0 m (a + i) (Config.freeByte (s.fresh + i)) else m) x.flush.spad
    let tags := x.pump.tags.map fun (k, o) => (k, o.map fun op : TagOp => { op with stored := op.stored ++ hit.map fun i => (a + i, 1) })
    { (s.setTile t { x.flush with spad := free, pump := { x.pump with tags := tags } }) with fresh := s.fresh + n }

/-- The effect of an A operation (R58, R108, R130, R131): a load in flight, a store, the post-increments. -/
def aEffect (o : AOp) (f : AFields) (x : Snap) (s : State) : State :=
  let n := o.size
  let la := x.aAddr f.la
  let sa := x.aAddr f.sa
  let load : List Landing := if o.loads then
      [{ left := 3, dest := if o = .lds then .s f.lv.toNat else .v f.lv.toNat,
         val := BitVec.ofNat 512 (leNat (x.tile.spadRead la n)), mask := BitVec.allOnes 512 }]
    else []
  let incs := (if o.loads then incLanding x f.la f.linc.toInt n else []) ++
    (if o.stores then incLanding x f.sa f.sinc.toInt n else [])
  let s := s.modTile x.t fun y => { y with landings := y.landings ++ load ++ incs }
  if o.stores then
    let v := if o = .sts then x.tile.sreg f.sv.toNat else x.tile.vreg f.sv.toNat
    let mask := match f.pred with | some p => x.tile.preg p.toNat | none => 2 ^ 64 - 1
    let bs := toLE n v
    let wait := o = .ldst ∧ la / 64 % 2 = sa / 64 % 2
    let s := s.modTile x.t fun y =>
      let y := y.flush
      if wait then { y with storeBuf := some (sa, bs, BitVec.ofNat 64 mask) }
      else { y with spad := spadPut y.spad sa mask bs }
    s.storeClash x.t sa n mask
  else s

/-- BANKCTL (R60, R130). -/
def bankctlFault (st : BitVec 2) : Option Code := if st = 3 then some cBad else none

/-- The effect of BANKCTL on the masked banks of the tile (R60). -/
def bankctlEffect (mask : BitVec 16) (st : BitVec 2) (x : Snap) (s : State) : State :=
  s.modTile x.t fun y => (List.range 16).foldl
    (fun y b => if mask.toNat.testBit b then y.setBank b st.toNat else y) y

/-! ### X slot -/

/-- The directions of a four-bit mask, N in the highest bit (R132, R133). -/
def maskDirs (m : BitVec 4) : List Dir :=
  (if m.toNat.testBit 3 then [.north] else []) ++ (if m.toNat.testBit 2 then [.east] else []) ++
  (if m.toNat.testBit 1 then [.south] else []) ++ (if m.toNat.testBit 0 then [.west] else [])

/-- Latch values named in the consume mask leave their queues in step 5 (R102, R132). -/
def State.consume (s : State) (x : Snap) (m : BitVec 4) : State :=
  s.modTile x.t fun y => (maskDirs m).foldl (fun y d =>
    match x.den.rect.next x.t d with
    | some _ => { y with latches := kmod [] y.latches (dirIx d) (·.drop 1) }
    | none => y) y

/-- Whether a direction goes with the wave (R190). -/
def withWave : Dir → Bool
  | .east | .south => true
  | _ => false

/-- The bundle of the tile `j` hops along at which a value sent in bundle `b` uses its stage (R192), before the seam. -/
def passBundle (d : Dir) (b j : Nat) : Nat := if withWave d then b else b + 2 * j

/-- Whether a send of `h` hops crosses the seam. -/
def crosses (t : Nat) (d : Dir) (h : Nat) : Bool :=
  (d == .east && colOf t < 64 && 64 ≤ colOf t + h) || (d == .west && 64 ≤ colOf t && colOf t < 64 + h)

/-- Whether a crossing send ends at the first tile beyond the seam (R191). -/
def endsAtSeam (t : Nat) (d : Dir) (h : Nat) : Bool :=
  if d = .east then colOf t + h == 64 else colOf t == 63 + h

/-- The fault a SEND raises (R739, row 8): BAD_BUNDLE, SEAM_HOP (R191), RELAY_CLASH (R192). -/
def sendFault (dirs : BitVec 4) (src hops : BitVec 7) (x : Snap) : Option Code :=
  let h := hops.toNat
  if dirs = 0 ∨ h = 0 ∨ badCode src.toNat then some cBad
  else if x.den.rect.astride && (maskDirs dirs).any fun d => crosses x.t d h && !endsAtSeam x.t d h then some 0x0504
  else if (maskDirs dirs).any fun d => x.den.wave.lanes.any fun l =>
      l.tile == x.t && l.dir == d && l.bundle == x.tile.bundle then some 0x0502
  else none

/-- The 512 bits a send carries: a vector register or latch, or a scalar register zero-extended (DEDUCED, log entry 24). -/
def Snap.sendVal (x : Snap) (c : Nat) : LatchVal :=
  match OpCode.of c with
  | .v i => { val := kget 0 x.tile.v i }
  | .latch d => x.latch d
  | _ => { val := BitVec.ofNat 512 (x.scalar c) }

/-- One direction of a send: the stages it occupies and where its value goes (R190 to R192, R201). -/
def sendOne (x : Snap) (h : Nat) (v : BitVec 512) (w : Wave) (d : Dir) : Wave :=
  let b := x.tile.bundle
  let lanes := (List.range (h - 1)).filterMap fun j =>
    match hop x.t d (j + 1) with
    | some n => if x.den.rect.has n then some { tile := n, dir := d, bundle := passBundle d b (j + 1) : LaneUse } else none
    | none => none
  let w := { w with lanes := w.lanes ++ lanes }
  match hop x.t d h with
  | none => w
  | some n =>
    if !x.den.rect.has n then w
    else if crosses x.t d h then
      { w with crossing := w.crossing ++
          [{ row := rowOf x.t, eastward := d == .east, bundle := passBundle d b (h - 1), val := v }] }
    else { w with transit := w.transit ++ [{ dest := n, latch := dirOpp d, ready := passBundle d b h, val := v }] }

/-- The effect of a SEND (R134, R190). A value that leaves the den is discarded (R73). -/
def sendEffect (consume dirs : BitVec 4) (src hops : BitVec 7) (x : Snap) (s : State) : State :=
  let v := (x.sendVal src.toNat).val
  let s := s.modDen x.slot fun d =>
    { d with wave := (maskDirs dirs).foldl (fun w dir => sendOne x hops.toNat v w dir) d.wave }
  s.consume x consume

/-- The fault a VOTE raises (R135). -/
def voteFault (kind : BitVec 3) (src : BitVec 7) (dst : BitVec 6) : Option Code :=
  let k := kind.toNat
  let ok := if k < 2 then src.toNat < 16 && 0x0C ≤ dst.toNat && dst.toNat ≤ 0x0F
    else k < 5 && 0x50 ≤ src.toNat && src.toNat < 0x70 && dst.toNat < 0x20
  if ok then none else some cBad

/-- How two contributions to a vote combine (R90). -/
def voteJoin (kind : Nat) (a b : BitVec 32) : BitVec 32 :=
  match kind with
  | 0 => a &&& b
  | 1 => a ||| b
  | 2 => if a < b then b else a
  | 3 => if a < b then a else b
  | _ => a + b

/-- The effect of a VOTE (R90, R91, R135): the tile's contribution, and the result that lands 2K bundles later. R90 has every tile
cast the same vote; where tiles cast different kinds in one bundle, the first decides how the result is written and each joins by its
own (DESIGN CHOICE, log entry 171). -/
def voteEffect (consume : BitVec 4) (kind : BitVec 3) (src : BitVec 7) (dst : BitVec 6) (x : Snap) (s : State) : State :=
  let k := kind.toNat
  let b := x.tile.bundle
  let c : BitVec 32 := if k < 2 then BitVec.ofNat 32 (x.tile.preg src.toNat % 2) else BitVec.ofNat 32 (x.scalar src.toNat)
  let s := s.modDen x.slot fun d =>
    let vs := d.wave.votes
    let vs := if vs.any fun v => v.bundle == b
      then updFirst (fun v => v.bundle == b) (fun v => { v with acc := voteJoin k v.acc c, count := v.count + 1 }) vs
      else vs ++ [{ bundle := b, kind := k, acc := c, count := 1 }]
    { d with wave := { d.wave with votes := vs } }
  let l : Landing := { left := 2 * x.den.rect.span, dest := if k < 2 then .p dst.toNat else .s dst.toNat, val := 0,
                       mask := BitVec.allOnes 512, vote := some b }
  (s.modTile x.t fun y => { y with landings := y.landings ++ [l] }).consume x consume

/-- The effect of PSETU (R136). -/
def psetuEffect (consume : BitVec 4) (q : BitVec 2) (value : Bool) (x : Snap) (s : State) : State :=
  let l : Landing := { left := 1, dest := .p (12 + q.toNat), val := if value then BitVec.allOnes 512 else 0,
                       mask := BitVec.allOnes 512 }
  (s.modTile x.t fun y => { y with landings := y.landings ++ [l] }).consume x consume

/-! ### P slot -/

/-- Whether a tag is busy (R140). -/
def Pump.busy (p : Pump) (k : Nat) : Bool := (kget none p.tags k).isSome

/-- The fault an ISSUE raises (R739, row 9). The descriptor address of ISSUE.A must also lie in banks that are on: R61 gives a bundle's
access and a pump's the same code, and row 9 lists it for neither, so it stands after the row's own (DESIGN CHOICE, log entry 170). -/
def issueFault (tag : Fin 16) (lat : BitVec 16) (addr : Option Nat) (x : Snap) : Option Code :=
  if lat = 0 then some cBad
  else if addr.any fun a => a % 64 != 0 then some cAlign
  else if x.tile.pump.busy tag.val then some 0x0302
  else if addr.any fun a => !x.tile.banksReady a 64 then some cBank
  else none

/-- The pump accepts a descriptor on a tag (R75, R139, R244): a failing one, or one whose COUNT is 0, completes at once; an
operation issued behind an ordering point waits for those it notes (R258). A descriptor with COUNT 0 that fails a check completes with the status of
the check, not with OK (DESIGN CHOICE, log entry 205). One that the HALT bundle issues is accepted after that bundle's step 1, so that its tag stays
busy until its declared due bundle comes in the next step (R116, R141; DESIGN CHOICE, log entry 201). -/
def acceptDesc (tag : Fin 16) (lat : BitVec 16) (bs : List Byte) (x : Snap) (s : State) : State :=
  let d := Desc.of bs
  let status : Option Code := match d.check with
    | some c => some c
    | none => if d.count = 0 then some 0 else none
  let overlay := if d.dkind = 2 then some (d.w2 % 2 ^ 12, d.w2 % 2 ^ 12 + d.count / 24) else none
  let op : TagOp := { desc := bs, due := x.tile.bundle + lat.toNat, overlay := overlay, done := status.isSome,
                      status := status, failLoc := BitVec.ofNat 64 (status.elim 0 d.failWord),
                      after := if status.isSome then 0 else x.tile.pump.notes }
  s.modTile x.t fun y =>
    let order := y.pump.order.filter (· != tag.val) ++ (if status.isSome then [] else [tag.val])
    { y with pump := { y.pump with tags := kput none y.pump.tags tag.val (some op), order := order } }

/-- The effect of ISSUE.V (R139, R236). -/
def issueVEffect (tag : Fin 16) (lat : BitVec 16) (v : BitVec 6) (x : Snap) (s : State) : State :=
  acceptDesc tag lat (toLE 64 (x.tile.vreg v.toNat)) x s

/-- The effect of ISSUE.A (R139, R236): the descriptor is read after the bundle's store; the post-increment counts lines. Bits of the A register above
[18:0] are ignored, as R131 has it for loads and stores (DESIGN CHOICE, log entry 202). -/
def issueAEffect (tag : Fin 16) (lat : BitVec 16) (a inc : BitVec 4) (x : Snap) (s : State) : State :=
  let s := acceptDesc tag lat ((s.tile x.t).spadRead (x.aAddr a) 64) x s
  s.modTile x.t fun y => { y with landings := y.landings ++ incLanding x a inc.toNat 64 }

/-- The effect of PORD (R258): the operations in flight on the masked tags are noted. -/
def pordEffect (mask : BitVec 16) (x : Snap) (s : State) : State :=
  let inFlight := x.tile.pump.tags.foldl (fun (m : BitVec 16) (k, o) => match o with
    | some op => if op.status.isNone then m ||| BitVec.ofNat 16 (2 ^ k) else m
    | none => m) 0
  s.modTile x.t fun y => { y with pump := { y.pump with notes := y.pump.notes ||| (mask &&& inFlight) } }

end Sys2Proof.Machine
end

