-- ==== Sys2Proof/Machine/Issue.lean ====
section
/-! DEFINITION. Machine/Issue.lean: the cycle in which a tile issues a bundle: the five steps of R102, the order of faults
of R739, stream control (R105 to R116), and drain cycles. -/

namespace Sys2Proof.Machine

open Sys2Proof

/-! ### The bundle's fields -/

/-- A slot's fields as numbers (R98). -/
structure Bundle where
  hdr : Nat
  m : Nat
  v : Nat
  a : Nat
  x : Nat
  p : Nat
  deriving DecidableEq, Repr

/-- The bundle in 192 bits (R98). -/
def Bundle.of (w : BitVec 192) : Bundle :=
  let n := w.toNat
  { hdr := bitsOf n 176 16, m := bitsOf n 136 40, v := bitsOf n 96 40, a := bitsOf n 64 32, x := bitsOf n 32 32,
    p := bitsOf n 0 32 }

/-- The empty bundle (R107): no slot does anything. -/
def Bundle.empty : Bundle := { hdr := 0, m := 0, v := 0, a := 0, x := 0, p := 0 }

/-- CTL (R105). -/
def Bundle.ctl (b : Bundle) : Nat := bitsOf b.hdr 13 3
/-- PEN and PSEL: the predicate register, where predication is on (R105). -/
def Bundle.pred (b : Bundle) : Option (BitVec 4) :=
  if b.hdr.testBit 12 then some (BitVec.ofNat 4 (bitsOf b.hdr 8 4)) else none
/-- ARG (R105). -/
def Bundle.arg (b : Bundle) : Nat := bitsOf b.hdr 0 8
/-- A control bundle (R106): BR, JMP, LOOP, CALL. -/
def Bundle.control (b : Bundle) : Bool := 1 ≤ b.ctl && b.ctl ≤ 4
/-- ADDR and COUNT of the control word (R110). -/
def Bundle.target (b : Bundle) : Nat := bitsOf b.v 28 12
/-- COUNT of the control word (R110). -/
def Bundle.times (b : Bundle) : Nat := bitsOf b.v 12 16

/-- The M slot's operation and fields (R118). -/
def Bundle.mSlot (b : Bundle) : Option MOp × MFields :=
  let f (lo n : Nat) (w : Nat) := BitVec.ofNat w (bitsOf b.m lo n)
  (mopOf (bitsOf b.m 34 6),
    { fmt := f 30 4 4, td := f 28 2 2, ma := f 21 7 7, mb := f 14 7 7, mc := f 7 7 7, tgt := f 4 3 3, low := f 0 4 4 })

/-- The V slot's operation and fields (R125). -/
def Bundle.vSlot (b : Bundle) : Option VOp × VFields :=
  let f (lo n : Nat) (w : Nat) := BitVec.ofNat w (bitsOf b.v lo n)
  (vopOf (bitsOf b.v 32 8),
    { vd := f 26 6 6, s1 := f 19 7 7, s2 := f 12 7 7, s3 := f 5 7 7, ty := f 2 3 3, rnd := f 0 2 2, pred := b.pred })

/-- The A slot (R129, R130): an operation with its fields, BANKCTL, or a reserved code. -/
inductive ASlot where
  | op (o : AOp) (f : AFields)
  | bankctl (mask : BitVec 16) (st : BitVec 2)
  | bad

/-- The A slot's operation and fields. -/
def Bundle.aSlot (b : Bundle) : ASlot :=
  let f (lo n : Nat) (w : Nat) := BitVec.ofNat w (bitsOf b.a lo n)
  let fs : AFields := { lv := f 22 6 6, la := f 18 4 4, sv := f 12 6 6, sa := f 8 4 4, linc := f 4 4 4, sinc := f 0 4 4,
                        pred := b.pred }
  match bitsOf b.a 28 4 with
  | 0 => .op .anop fs
  | 1 => .op .ld fs
  | 2 => .op .st fs
  | 3 => .op .ldst fs
  | 4 => .op .lds fs
  | 5 => .op .sts fs
  | 6 => if bitsOf b.a 0 10 = 0 then .bankctl (f 12 16 16) (f 10 2 2) else .bad
  | _ => .bad

/-- The X slot (R132, R133). -/
inductive XSlot where
  | nop
  | send (dirs : BitVec 4) (src hops : BitVec 7)
  | vote (kind : BitVec 3) (src : BitVec 7) (dst : BitVec 6)
  | psetu (q : BitVec 2) (value : Bool)
  | bad

/-- The consume mask (R132). -/
def Bundle.consume (b : Bundle) : BitVec 4 := BitVec.ofNat 4 (bitsOf b.x 24 4)

/-- The X slot's operation. -/
def Bundle.xSlot (b : Bundle) : XSlot :=
  let f (lo n : Nat) (w : Nat) := BitVec.ofNat w (bitsOf b.x lo n)
  match bitsOf b.x 28 4 with
  | 0 => if bitsOf b.x 0 24 = 0 then .nop else .bad
  | 1 => if bitsOf b.x 0 6 = 0 then .send (f 20 4 4) (f 13 7 7) (f 6 7 7) else .bad
  | 2 => if bitsOf b.x 0 8 = 0 then .vote (f 21 3 3) (f 14 7 7) (f 8 6 6) else .bad
  | 3 => if bitsOf b.x 0 21 = 0 then .psetu (f 22 2 2) (b.x.testBit 21) else .bad
  | _ => .bad

/-- The P slot (R138, R139). -/
inductive PSlot where
  | nop
  | issueV (tag : Fin 16) (lat : BitVec 16) (v : BitVec 6)
  | issueA (tag : Fin 16) (lat : BitVec 16) (a inc : BitVec 4)
  | pord (mask : BitVec 16)
  | bad

/-- The P slot's operation. -/
def Bundle.pSlot (b : Bundle) : PSlot :=
  let f (lo n : Nat) (w : Nat) := BitVec.ofNat w (bitsOf b.p lo n)
  let tag : Fin 16 := ⟨bitsOf b.p 24 4 % 16, Nat.mod_lt _ (by decide)⟩
  match bitsOf b.p 28 4 with
  | 0 => if bitsOf b.p 0 28 = 0 then .nop else .bad
  | 1 => if bitsOf b.p 0 2 = 0 then .issueV tag (f 8 16 16) (f 2 6 6) else .bad
  | 2 => .issueA tag (f 8 16 16) (f 4 4 4) (f 0 4 4)
  | 3 => if bitsOf b.p 0 8 = 0 && bitsOf b.p 24 4 = 0 then .pord (f 8 16 16) else .bad
  | _ => .bad

/-- The latches a bundle reads or consumes (R137). -/
def Bundle.latches (b : Bundle) : List Dir :=
  (match b.mSlot with | (some o, f) => o.latches f | _ => []) ++
  (if b.control then [] else match b.vSlot with | (some o, f) => o.latches f | _ => []) ++
  (match b.xSlot with | .send _ src _ => latchOf src.toNat | _ => []) ++ maskDirs b.consume

/-! ### When a tile issues -/

/-- The cycle's bundle: a stored one, an empty one of an idle run, or a throttle bundle (R107, R144). -/
inductive BundleKind where
  | stored | empty | throttle
  deriving DecidableEq, Repr

/-- The kind byte of a fault record (R398). -/
def BundleKind.code : BundleKind → Nat
  | .stored => 0 | .empty => 1 | .throttle => 2

/-- Whether the throttle pattern of `n` holds a throttle bundle in a den cycle (R658). -/
def throttleAt (n cyc : Nat) : Bool :=
  let i := cyc % 16
  i * n / 16 < (i + 1) * n / 16

/-- Whether the next bundle of a tile is a throttle bundle (R658): the origin inserts it by its cycle, the others follow. -/
def throttled (d : Den) (t : Nat) (x : Tile) : Bool :=
  if t = d.rect.origin then throttleAt d.throttle (d.cycle t x) else d.wave.throttles.contains x.bundle

/-- The FIFO a seam-facing tile pops and the tag it expects at its next bundle (R202); none where no slot is due. -/
def seamDue (d : Den) (t : Nat) (x : Tile) : Option (Nat × Nat) :=
  if !d.rect.astride then none
  else if colOf t = 64 then some (2 * rowOf t, x.bundle % 256)
  else if colOf t = 63 ∧ d.wave.first + 14 ≤ x.bundle then some (2 * rowOf t + 1, (x.bundle - 14) % 256)
  else none

/-- The FIFO an edge tile pushes (R201). -/
def seamPush (d : Den) (t : Nat) : Option Nat :=
  if !d.rect.astride then none
  else if colOf t = 63 then some (2 * rowOf t)
  else if colOf t = 64 then some (2 * rowOf t + 1)
  else none

/-- Why a tile cannot issue now (R69, R79, R116): none if it can. Its west and north neighbours in its half have issued
this bundle, its east and south ones the bundle two before; every value due by now has arrived; no freeze signal stands
before it; its seam FIFO has room. -/
def issueGuard (s : State) (slot : Nat) (d : Den) (t : Nat) (x : Tile) : Option Guard :=
  if x.phase != .running || x.frozen.isSome || x.fenced then some .tileNotIssuing
  else
    let ahead (dir : Dir) : Bool := match d.rect.next t dir with
      | some n => if halfOf n = halfOf t then x.bundle < (s.tile n).bundle else true
      | none => true
    let behind (dir : Dir) : Bool := match d.rect.next t dir with
      | some n => if halfOf n = halfOf t then x.bundle ≤ (s.tile n).bundle + 1 else true
      | none => true
    let room := match seamPush d t with
      | some k => (kget [] s.seam.fifos k).length < 32
      | none => true
    if ahead .west && ahead .north && behind .east && behind .south && room &&
        !(d.wave.transit.any fun v => v.dest == t && v.ready ≤ x.bundle) &&
        !(d.wave.signals.any fun g => g.dest == t && g.sig == .freeze && g.at' ≤ d.cycle t x) &&
        slot < 256
    then none else some .waveOrder

/-- The tile, its slot and its den, where the tile can issue. -/
def withIssue (s : State) (t : Nat) (k : Nat → Den → Tile → Out State) : Out State :=
  match s.slotOf t with
  | none => .off .noDen
  | some slot =>
    match issueGuard s slot (s.den slot) t (s.tile t) with
    | some g => .off g
    | none => k slot (s.den slot) (s.tile t)

/-! ### Step 1: due checks -/

/-- What step 1 of R102 finds: every check passed, with the seam slot to pop; an error status; a missing result. -/
inductive Step1 where
  | pass (pop : Option (Nat × SeamSlot))
  | error (code : Code) (i : FaultInfo) (pop : Option (Nat × SeamSlot))
  | missing (cause tag : Nat)

/-- The pump tags checked at the tile's next bundle: those due, and at HALT every busy one (R76, R116). -/
def dueTags (x : Tile) (halt : Bool) : List (Nat × TagOp) :=
  x.pump.tags.filterMap fun (k, o) => match o with
    | some op => if halt || op.due ≤ x.bundle then some (k, op) else none
    | none => none

/-- The seam-facing latch of a tile (R137). -/
def seamLatch (t : Nat) : Dir := if colOf t = 64 then .west else .east

/-- The checks of step 1 (R76, R77, R204, R207, R739 row 1): error statuses first, the lowest tag's, then that of a seam
latch value; then a missing pump result; then a missing seam slot, of cause 5 if the bundle reads or consumes the seam
latch and 6 otherwise. A slot found uncorrectable at the bundle that reads it is popped all the same (R207). Of several missing results the slip is that of the lowest tag, and a pump result's before the seam's (DESIGN
CHOICE, log entry 167). A value that finds its latch queue full is a RELAY_OVERFLOW (R194). -/
def step1 (s : State) (slot : Nat) (d : Den) (t : Nat) (x : Tile) (b : Bundle) (halt : Bool) (u : List Upset) : Step1 :=
  let due := dueTags x halt
  let bad := due.find? fun (_, op) => match op.status with | some c => c != 0 | none => false
  let miss := due.find? fun (_, op) => op.status.isNone
  let dir := seamLatch t
  let uses := (seamDue d t x).isSome && b.latches.contains dir
  let slot? : Option (Nat × SeamSlot) := match seamDue d t x with
    | none => none
    | some (k, tag) => match kget [] s.seam.fifos k with
      | sl :: _ => if sl.tag.toNat = tag then some (k, { sl with bad := sl.bad || u.contains .double }) else none
      | [] => none
  let queue := kget [] x.latches (dirIx dir)
  let arriving : List LatchVal := match slot? with
    | some (_, sl) => match sl.val with
      | some v => [{ val := v, bad := sl.bad }]
      | none => []
    | none => []
  let oldest := (queue ++ arriving).head?
  match bad with
  | some (k, op) =>
    .error (op.status.getD 0)
      { tag := some k, op := (Desc.of op.desc).op, loc := op.failLoc.toNat } none
  | none =>
    if b.latches.contains dir && oldest.any (·.bad) then .error 0x0501 {} (if queue.length < 4 then slot? else none)
    else match miss with
      | some (k, op) =>
        .missing (s.opCause slot t op) k
      | none =>
        if (seamDue d t x).isSome && slot?.isNone then .missing (if uses then 5 else 6) 0
        else if 4 < (queue ++ arriving).length then .error 0x0503 {} none
        else .pass slot?

/-- The tile becomes a slip source (R78): it withholds the bundle, and its freeze signal sets out. A resume that has not ended
everywhere gives way to the new slip (R87). -/
def slipAt (s : State) (slot t cause tag : Nat) : State :=
  let d := s.den slot
  let x := s.tile t
  let cyc := d.cycle t x
  let src : SlipSource := { tile := t, cause := cause, tag := tag, bundle := x.bundle,
                            reach := cyc + pathTime t d.rect.origin }
  let s := s.modDen slot fun d => { d with wave := { d.wave with sources := d.wave.sources ++ [src], resuming := false } }
  s.freezeTile slot t (some (cause, tag)) cyc none

/-- A seam slot is popped into the latch, with the single-bit errors of its eight codes counted (R202, R207). -/
def State.popSeam (s : State) (t : Nat) (pop : Option (Nat × SeamSlot)) (u : List Upset) : State :=
  match pop with
  | none => s
  | some (k, sl) =>
    let x := s.tile t
    let corr := ((u.take 8).filter (· == .single)).length
    let seam := { s.seam with fifos := kmod [] s.seam.fifos k (·.drop 1),
                              corrCnt := BitVec.ofNat 64 (satAdd 64 s.seam.corrCnt.toNat corr) }
    let x := match sl.val with
      | some v => { x with latches := kmod [] x.latches (dirIx (seamLatch t)) (· ++ [{ val := v, bad := sl.bad }]) }
      | none => x
    { (s.setTile t x) with seam := seam }

/-- The passed checks take effect: checked tags are free (R140), and the seam slot is popped. A tag that the HALT bundle
itself issues is none of them: it stays busy until its due bundle in the next step (R116, R141; DESIGN CHOICE, log entry 201). -/
def applyStep1 (s : State) (t : Nat) (halt : Bool) (pop : Option (Nat × SeamSlot)) (u : List Upset) : State :=
  let due := (dueTags (s.tile t) halt).map (·.1)
  (s.modTile t fun x => { x with pump := { x.pump with tags := x.pump.tags.filter fun (k, _) => !due.contains k } }).popSeam t pop u

/-! ### Clearing (R81, R82) -/

/-- The bundle a tile fetches (R64, R99). -/
def Tile.fetch (x : Tile) : Bundle := Bundle.of (kget 0 x.istore x.addr)

/-- Whether the tile waits for a seam slot (R204), and whether it is clear of it (R81): the slot stands in the FIFO, or the
edge tile that pushes it is frozen without having pushed it; one that has received the resume signal counts as running (R87). -/
def seamClear (s : State) (d : Den) (t : Nat) (x : Tile) : Bool :=
  match seamDue d t x, d.rect.next t (seamLatch t) with
  | some (k, tag), some e =>
    ((kget [] s.seam.fifos k).any fun sl => sl.tag.toNat == tag) || (s.tile e).frozen.any fun f => !f.resumed
  | _, _ => true

/-- Whether the bundle a tile is about to issue is a HALT (R116): a stored one, no throttle bundle before it. -/
def atHalt (d : Den) (t : Nat) (x : Tile) : Bool :=
  x.phase == .running && x.idle == 0 && !throttled d t x && x.fetch.ctl == 6

/-- The operations whose due bundle a frozen tile holds: at a HALT, every busy tag (R81, R116); none where the bundle's checks have
passed. -/
def heldOps (d : Den) (t : Nat) (x : Tile) : List (Nat × TagOp) := if x.opened then [] else dueTags x (atHalt d t x)

/-- A report of a frozen tile to its west and north neighbours (R81, R82). -/
def reportSignals (d : Den) (t cyc : Nat) (g : WaveSig) : List Signal :=
  [Dir.west, Dir.north].filterMap fun dir => match d.rect.next t dir with
    | some n => some { dest := n, came := dirOpp dir, at' := cyc + hopTime t n, sig := g }
    | none => none

/-- What a fault record says of the bundle that a tile is about to issue, or of the drain cycle it is about to run (R398). -/
def Tile.present (d : Den) (t : Nat) (x : Tile) : FaultInfo :=
  if x.phase != .running then { addr := x.last, bundle := x.bundle - 1, kind := 3 }
  else if throttled d t x then { addr := x.last, bundle := x.bundle, kind := 2 }
  else if x.idle = 0 then { addr := x.addr, bundle := x.bundle }
  else { addr := x.last, bundle := x.bundle, kind := 1 }

/-- An error reported in place of clear reaches a tile, or arises there (R82): it goes on, and at the origin the den becomes
FAULTED. A slip that so ends without the owl counts in no slip register (DESIGN CHOICE, log entry 173). -/
def State.reportError (s : State) (slot t : Nat) (code : Code) (src tag : Nat) : State :=
  let d := s.den slot
  let x := s.tile t
  match x.frozen with
  | none => s
  | some f =>
    let s := s.setTile t { x with frozen := some { f with reported := true } }
    if t = d.rect.origin then
      let y := s.tile src
      let op := kget none y.pump.tags tag
      let i := y.present d src
      s.enterFaulted slot code
        { i with
          tile := some src, tag := some tag,
          op := match op with | some o => (Desc.of o.desc).op | none => 0,
          loc := match op with | some o => o.failLoc.toNat | none => 0 }
    else s.signal slot (reportSignals d t f.since (.error code src tag))

/-- A frozen tile of a slip reports once it is clear (R81), or reports the error of an awaited result (R82), one that landed before
the freeze reached the tile like one that lands in it (DESIGN CHOICE, log entry 168). -/
def State.settleTile (s : State) (slot t : Nat) : State :=
  let d := s.den slot
  let x := s.tile t
  match x.frozen with
  | none => s
  | some f =>
    if f.reported || f.resumed || d.wave.stopping then s
    else
      let ops := heldOps d t x
      match ops.find? fun (_, op) => match op.status with | some c => c != 0 | none => false with
      | some (k, op) => s.reportError slot t (op.status.getD 0) t k
      | none =>
        let heard (dir : Dir) (r : Option Nat) : Bool := (d.rect.next t dir).isNone || r.isSome
        if (ops.all fun (_, op) => op.status.isSome) && heard .east f.east && heard .south f.south && seamClear s d t x then
          let cyc := max f.since (max (f.east.getD 0) (f.south.getD 0))
          let s := s.setTile t { x with frozen := some { f with reported := true } }
          if t = d.rect.origin then s.modDen slot fun d => { d with wave := { d.wave with clearAt := some cyc } }
          else s.signal slot (reportSignals d t cyc .clear)
        else s

/-- The tile across the seam, whose awaited slot this tile pushes. -/
def State.settleAcross (s : State) (slot t : Nat) : State :=
  let d := s.den slot
  if d.rect.astride ∧ (colOf t = 63 ∨ colOf t = 64) then
    match d.rect.next t (seamLatch t) with
    | some n => s.settleTile slot n
    | none => s
  else s

/-! ### Step 2: landings -/

/-- Two equal entries in a list. -/
def hasTwice {α : Type} [BEq α] : List α → Bool
  | [] => false
  | a :: as => as.contains a || hasTwice as

/-- The pump results with a register destination that land with the tags checked at this bundle (R141). -/
def heldResults (x : Tile) (halt : Bool) : List (Reg × BitVec 512) :=
  (dueTags x halt).filterMap fun (_, op) => op.result

/-- Whether two results land in one register (R104): fixed-latency results, pump results, accumulator blocks. A superseded matrix
operation lands no result (DESIGN CHOICE, log entry 189). -/
def clashes (x : Tile) (held : List (Reg × BitVec 512)) : Bool :=
  hasTwice (((x.landings.filter fun l => l.left == 0).map (·.dest)) ++ held.map (·.1)) ||
    hasTwice ((x.mats.filter fun m => m.left == 0 && !m.superseded).map (·.td))

/-- Write a register, the bits a mask names. -/
def Tile.write (x : Tile) (r : Reg) (v m : BitVec 512) : Tile :=
  let mix64 (old : BitVec 64) : BitVec 64 :=
    let mm := m.truncate 64
    (old &&& ~~~mm) ||| (v.truncate 64 &&& mm)
  match r with
  | .s i => { x with s := kmod 0 x.s i mix64 }
  | .a i => { x with a := kmod 0 x.a i mix64 }
  | .p i => { x with p := kmod 0 x.p i mix64 }
  | .v i => { x with v := kmod 0 x.v i fun old => (old &&& ~~~m) ||| (v &&& m) }

/-- The result of a vote as it lands (R90, R135). -/
def voteValue (v : Vote) : BitVec 512 :=
  if v.kind < 2 then (if v.acc = 0 then 0 else BitVec.allOnes 512) else v.acc.zeroExtend 512

/-- Whether every vote that lands now has been cast by every tile (R90). -/
def votesIn (d : Den) (x : Tile) : Bool :=
  (x.landings.filter fun l => l.left == 0).all fun l => match l.vote with
    | none => true
    | some b => d.wave.votes.any fun v => v.bundle == b && v.count == 16 * d.rect.w * d.rect.h

/-- One fixed-latency result lands (R103, R108, R159). -/
def landOne (d : Den) (x : Tile) (l : Landing) : Tile :=
  let v := match l.vote with
    | none => l.val
    | some b => match d.wave.votes.find? fun v => v.bundle == b with
      | some v => voteValue v
      | none => l.val
  let x := x.write l.dest v l.mask
  { x with mstat := x.mstat ||| vectorBits l.vflags ||| matrixBits l.mflags }

/-- One matrix operation lands (R159, R164, R175): the tile and the slice count of an FP64 product. -/
def landMat (x : Tile) (m : MatOp) : Tile × Option Nat :=
  if m.superseded then (x, none)
  else
    let b : AccBlock := kget {} x.acc m.td
    let r := landMatrix m b.cells
    let old := statByte x.mstat m.td
    let ms := match r.fp64 with
      | some (k, trunc, win) => setStatByte x.mstat m.td (newStatByte old (m.kind == .mmaz) k trunc win)
      | none => if m.kind == .mma then x.mstat else setStatByte x.mstat m.td 0
    ({ x with acc := kput {} x.acc m.td { b with cells := r.cells }, mstat := ms ||| matrixBits r.flags },
      r.fp64.map (·.1))

/-- Step 2 of R102: what is due becomes visible. The array cycles of a matrix operation are counted as it lands (R171). -/
def State.land (s : State) (slot t : Nat) (held : List (Reg × BitVec 512)) : State :=
  let d := s.den slot
  let x := s.tile t
  let due := x.landings.filter fun l => l.left == 0
  let mats := x.mats.filter fun m => m.left == 0
  let x := due.foldl (landOne d) x
  let x := held.foldl (fun x (r, v) => x.write r v (BitVec.allOnes 512)) x
  let (x, slices) := mats.foldl (fun (x, l) m =>
    let (x, k) := landMat x m
    (x, l ++ k.toList)) (x, [])
  let x := { x with landings := x.landings.filter fun l => l.left != 0, mats := x.mats.filter fun m => m.left != 0 }
  let s := s.setTile t x
  if mats.isEmpty then s
  else s.modDen slot fun d =>
    { d with fp64Counts := slices.foldl (fun m k => kmod 0 m k bvInc) d.fp64Counts,
             arrayCycles := mats.foldl (fun n m => n + m.arrayCycles) d.arrayCycles }

/-- The fixed-latency pipelines advance by one cycle (R50, R116), as do the occupancies and the banks that wake. -/
def Tile.advance (x : Tile) : Tile :=
  let x := x.bankCycles 1
  { x with landings := x.landings.map fun l => { l with left := l.left - 1 },
           mats := x.mats.map fun m => { m with left := m.left - 1 },
           matBusy := x.matBusy - 1, vecBusy := x.vecBusy - 1 }

/-! ### Fetch and header -/

/-- Whether an overlay copy whose tag is still busy covers the address (R142). -/
def overlayEarly (x : Tile) : Bool :=
  x.pump.tags.any fun (_, o) => match o with
    | some op => match op.overlay with
      | some (a, e) => a ≤ x.addr && x.addr < e
      | none => false
    | none => false

/-- The fault of the header and the control word (R739, row 4). The loop that encloses a LOOP bundle is the innermost open one, also
where a CALL has led outside its body (DESIGN CHOICE, log entry 169). -/
def headerFault (x : Tile) (b : Bundle) : Option Code :=
  let arg := b.arg
  let argBad : Bool := match b.ctl with
    | 0 => false
    | 1 => 8 ≤ arg
    | _ => arg != 0
  let wordBad : Bool := b.control && (bitsOf b.v 0 12 != 0 || (b.ctl != 3 && b.times != 0))
  let e := b.target
  let formBad : Bool :=
    (b.ctl != 0 && x.loops.any fun l => l.last == x.addr) ||
    (b.ctl == 3 && (e ≤ x.addr || b.times == 0 || 4 ≤ x.loops.length ||
      (match x.loops with | l :: _ => l.last ≤ e | [] => false)))
  if b.ctl = 7 ∨ argBad ∨ wordBad ∨ (b.pred.isNone ∧ bitsOf b.hdr 8 4 ≠ 0) then some cBad
  else if formBad then some 0x0303
  else if (b.ctl = 4 ∧ 8 ≤ x.calls.length) ∨ (b.ctl = 5 ∧ x.calls = []) then some 0x0304
  else none

/-- The fault of the slots (R739, rows 5 to 9). -/
def slotFault (x : Snap) (b : Bundle) : Option Code :=
  let m := match b.mSlot with | (some o, f) => mFault o f x | _ => some cBad
  let v := if b.control then none else match b.vSlot with | (some o, f) => vFault o f x | _ => some cBad
  let a := match b.aSlot with
    | .op o f => aFault o f x
    | .bankctl _ st => bankctlFault st
    | .bad => some cBad
  let xs := match b.xSlot with
    | .nop => none
    | .send ds src h => sendFault ds src h x
    | .vote k src dst => voteFault k src dst
    | .psetu _ _ => none
    | .bad => some cBad
  let p := match b.pSlot with
    | .nop => none
    | .issueV tag lat _ => issueFault tag lat none x
    | .issueA tag lat a _ => issueFault tag lat (some (x.aAddr a)) x
    | .pord _ => none
    | .bad => some cBad
  m.orElse fun _ => v.orElse fun _ => a.orElse fun _ => xs.orElse fun _ => p

/-- The effect of every slot, all on the operands of step 3 (R102); the M, V, A and X slots before the P slot, whose ISSUE.A
sees the bundle's store (R236). -/
def slotEffect (x : Snap) (b : Bundle) (s : State) : State :=
  let s := match b.mSlot with | (some o, f) => mEffect o f x s | _ => s
  let s := if b.control then s else match b.vSlot with | (some o, f) => vEffect o f x s | _ => s
  let s := match b.aSlot with
    | .op o f => aEffect o f x s
    | .bankctl mask st => bankctlEffect mask st x s
    | .bad => s
  let s := match b.xSlot with
    | .nop => s.consume x b.consume
    | .send ds src h => sendEffect b.consume ds src h x s
    | .vote k src dst => voteEffect b.consume k src dst x s
    | .psetu q v => psetuEffect b.consume q v x s
    | .bad => s
  match b.pSlot with
  | .issueV tag lat v => issueVEffect tag lat v x s
  | .issueA tag lat a inc => issueAEffect tag lat a inc x s
  | .pord mask => pordEffect mask x s
  | _ => s

/-- Whether a bundle reads scratchpad words of its own: a load, or ISSUE.A's descriptor; the banks it reads. -/
def Bundle.readsSpad (b : Bundle) (x : Snap) : Option Nat :=
  match b.aSlot with
  | .op o f => if o.loads then some (x.aAddr f.la) else
      match b.pSlot with | .issueA _ _ a _ => some (x.aAddr a) | _ => none
  | _ => match b.pSlot with | .issueA _ _ a _ => some (x.aAddr a) | _ => none

/-- Whether a branch of the bundle is taken (R106). -/
def taken (x : Tile) (b : Bundle) : Bool :=
  match b.ctl with
  | 1 => (x.preg (12 + b.arg % 4)).testBit 0 == b.arg.testBit 2
  | 2 | 4 | 5 => true
  | _ => false

/-- Stream control (R106 to R116): the next address, the idle run, the loop and call stacks. -/
def Tile.control (x : Tile) (b : Bundle) (operands : Tile) : Tile :=
  let a := x.addr
  let x := { x with last := a }
  let keep (tgt : Nat) := x.loops.filter fun l => l.first ≤ tgt && tgt ≤ l.last
  match b.ctl with
  | 0 =>
    let x := { x with idle := b.arg }
    (match x.loops with
    | l :: ls =>
      if l.last = a then
        if 1 < l.left then { x with addr := l.first, loops := { l with left := l.left - 1 } :: ls }
        else { x with addr := a + 1, loops := ls }
      else { x with addr := a + 1 }
    | [] => { x with addr := a + 1 })
  | 1 => if taken operands b then { x with addr := b.target, idle := 1, loops := keep b.target } else { x with addr := a + 1 }
  | 2 => { x with addr := b.target, idle := 1, loops := keep b.target }
  | 3 => { x with addr := a + 1, loops := { first := a + 1, last := b.target, left := b.times } :: x.loops }
  | 4 => { x with addr := b.target, idle := 1, calls := (a + 1) :: x.calls }
  | 5 => (match x.calls with
    | c :: cs => { x with addr := c, idle := 1, calls := cs }
    | [] => x)
  | 6 => { x with addr := a + 1, phase := .draining }
  | _ => x

/-- A tile with nothing left in flight after HALT stops (R116): its loop and call stacks are cleared. -/
def Tile.settleHalt (x : Tile) : Tile :=
  if x.phase = .draining ∧ x.landings = [] ∧ x.mats = [] then { x with phase := .stopped, loops := [], calls := [] }
  else x

/-- A tile that has come to its stop reports it (R116, R405). -/
def State.reportHalt (s : State) (slot t : Nat) : State := if (s.tile t).phase = .stopped then s.reportStop slot t else s

/-- The end of an issued bundle: pipelines advance, the bundle number rises, a stop is reported, an edge tile's slot is pushed (R201), and the
origin's bundle number is recorded (R93). -/
def State.endBundle (s : State) (slot t : Nat) : State :=
  let d := s.den slot
  let b := (s.tile t).bundle
  let s := s.modTile t fun x => ({ x.advance with bundle := x.bundle + 1, opened := false }).settleHalt
  let s := s.reportHalt slot t
  let s := if t = d.rect.origin then
      s.modDen slot fun d => { d with bundle := BitVec.ofNat 64 (b % 2 ^ 48), winBundles := d.winBundles + 1 }
    else s
  match seamPush d t with
  | none => s
  | some k =>
    let here (c : Crossing) : Bool := c.row == rowOf t && c.eastward == (colOf t == 63) && c.bundle == b
    let sl : SeamSlot := { tag := BitVec.ofNat 8 b, val := (d.wave.crossing.find? here).map (·.val) }
    let s := s.modDen slot fun d => { d with wave := { d.wave with crossing := d.wave.crossing.filter fun c => !here c } }
    ({ s with seam := { s.seam with fifos := kmod [] s.seam.fifos k (· ++ [sl]) } } : State).settleAcross slot t

/-! ### Errors of the tile's memories -/

/-- A corrected single-bit error is counted (R678): element 0 of 0x0402 for the scratchpad, 2 for the instruction store. -/
def State.corrected (s : State) (u : Upset) (el : Nat) : State := if u = .single then s.bump 0x0402 el else s

/-- An uncorrectable error of a tile's memory (R678, R679): counted and signalled; the second in one bank or array since
chip reset fences the tile. `el` is the counter's element, `array` the bank or 16 for the instruction store. -/
def State.uncorrectable (s : State) (t : Nat) (el array : Nat) (code : Code) (i : FaultInfo) : State :=
  let s := (s.bump 0x0402 el).raise 1944
  let again := 1 ≤ kget 0 (s.tile t).errs array
  let s := s.modTile t fun x => { x with errs := kmod 0 x.errs array (· + 1) }
  if again then s.fenceTile t code false i else s

/-! ### A bundle's cycle -/

/-- The kind of the bundle that a tile is about to issue (R107, R144). -/
def Tile.kindNow (d : Den) (t : Nat) (x : Tile) : BundleKind :=
  if throttled d t x then .throttle else if x.idle = 0 then .stored else .empty

/-- The start of the cycle in which a tile issues a bundle (R102, R739 rows 1 to 3): the checks of step 1, the fetch, and the
landings of step 2, once for the bundle; then what is left of the cycle. -/
def openBundle (s : State) (slot : Nat) (d : Den) (t : Nat) (x : Tile) (kind : BundleKind) (u : Upsets)
    (k : State → Out State) : Out State :=
  let stored := kind = .stored
  let b := if stored then x.fetch else Bundle.empty
  let halt := stored && b.ctl == 6
  let info := x.present d t
  let fail (s : State) (c : Code) : Out State := .next (s.tileFault slot t c info)
  match if x.opened then .pass none else step1 s slot d t x b halt u.seam with
  | .error c i pop => .next ((s.popSeam t pop u.seam).tileFault slot t c { i with addr := info.addr, bundle := info.bundle, kind := info.kind })
  | .missing cause tag => .next (((slipAt s slot t cause tag).settleTile slot t).settleAcross slot t)
  | .pass pop =>
    let held := if x.opened then [] else heldResults x halt
    let s1 := if x.opened then s else applyStep1 s t halt pop u.seam
    if stored ∧ 0xFFF < x.addr then fail s 0x0202
    else if stored ∧ u.fetch = .double then
      .next ((s.tileFault slot t 0x1207 info).uncorrectable t 3 16 0x1207 info)
    else if x.opened then k s
    else if stored ∧ overlayEarly (s1.tile t) then fail s 0x0309
    else if !votesIn d x then .off .voteOpen
    else if clashes (s1.tile t) held then fail s 0x0307
    else k ((s1.land slot t held).modTile t fun y => { y with opened := true })

/-- The cycle in which a tile issues a bundle (R102, R739). -/
def issueCycle (s : State) (slot : Nat) (d : Den) (t : Nat) (x : Tile) (kind : BundleKind) (u : Upsets) : Out State :=
  openBundle s slot d t x kind u fun s2 =>
    let stored := kind = .stored
    let b := if stored then x.fetch else Bundle.empty
    let halt := stored && b.ctl == 6
    let info := x.present d t
    let fail (c : Code) : Out State := .next (s.tileFault slot t c info)
    let snap : Snap := { t := t, slot := slot, den := s2.den slot, tile := s2.tile t }
    match if stored then headerFault x b else none with
    | some c => fail c
    | none =>
      match if stored then slotFault snap b else none with
      | some c => fail c
      | none =>
        match if stored then b.readsSpad snap else none, u.data with
        | some a, .double =>
          .next ((s.tileFault slot t 0x1206 info).uncorrectable t 1 (bankOf a) 0x1206 info)
        | r, _ =>
          let s3 := if stored then slotEffect snap b s2 else s2
          let s3 := if stored then s3.corrected u.fetch 2 else s3
          let s3 := if r.isSome then s3.corrected u.data 0 else s3
          let s4 := match kind with
            | .stored => s3.modTile t fun y => y.control b snap.tile
            | .empty => s3.modTile t fun y => { y with idle := y.idle - 1 }
            | .throttle => s3
          let s4 := if halt then s4.modDen slot fun d =>
              { d with nextAddr := x.addr + 1, wave := { d.wave with halt := some x.bundle } } else s4
          let s4 := if kind = .throttle ∧ t = d.rect.origin then s4.modDen slot fun d =>
              { d with wave := { d.wave with throttles := d.wave.throttles ++ [x.bundle] } } else s4
          .next (s4.endBundle slot t)

/-- A stored bundle whose CTL is `c` (R106). A fetch beyond the store and a reserved CTL meet their faults as NEXT. -/
def issueStored (c : Nat) (t : Nat) (u : Upsets) (s : State) : Out State :=
  withIssue s t fun slot d x =>
    if x.idle ≠ 0 then .off .otherBundle
    else if throttled d t x then .off .waveOrder
    else
      let ctl := if 0xFFF < x.addr ∨ x.fetch.ctl = 7 then 0 else x.fetch.ctl
      if ctl = c then issueCycle s slot d t x .stored u else .off .otherBundle

end Sys2Proof.Machine
end

