-- ==== Sys2Proof/Machine/PumpEval.lean ====
section
/-! DEFINITION. Machine/PumpEval.lean: how a pump operation touches memory (R245, R254 to R260, R268): reads and writes of
bytes in its own shaft, the scratchpad and den-virtual space, and RMWs, each with the errors that stop the operation. An operation
makes its accesses in its element order (DESIGN CHOICE, log entry 30); a run makes as many as its command allows, and a later one
goes on from there: the answers of those made stand in the tag's trace. -/

namespace Sys2Proof.Machine

open Sys2Proof

/-- Why a run stops: an error and the failing location word (R268); a line of a window or of host memory that has not been
read yet; a translation that must be filled first (R330), or other accesses that come between (R257). -/
inductive PumpStop where
  | error (c : Code) (loc : Nat)
  | want (va : Nat)
  | wait
  deriving DecidableEq, Repr

/-- What a run carries: the state, the pump, the operation, and what the operation leaves behind. -/
structure PumpRun where
  s : State
  slot : Nat
  t : Nat
  tag : Nat
  op : TagOp
  meets : List LineMeet
  order : List Nat
  /-- The answers of the accesses made before this run that have not been passed again. -/
  replay : List (List Byte) := []
  /-- The accesses this run may still make; none: any number. -/
  left : Option Nat := none
  /-- The answers of the accesses this run has made, newest first. -/
  made : List (List Byte) := []
  touched : List (Nat × Nat) := []
  sends : List LineSend := []
  reg : KMap Byte := []
  cause : Nat := 0

/-- A computation of the pump: it threads the run and may stop. -/
abbrev PM (α : Type) := ExceptT PumpStop (StateM PumpRun) α

/-- A location as a word (R238). -/
def locWord (kind : Nat) (a : Int) : Nat := 2 ^ 62 * kind + wrapInt 56 a

/-- Stop with an error. -/
def PM.error {α : Type} (c : Code) (kind : Nat) (a : Int) : PM α := throw (.error c (locWord kind a))

/-- Set the state of the run. -/
def PM.setS (s : State) : PM Unit := modify fun r => { r with s := s }

/-- One access of an operation: made before, it answers as it did; otherwise it is made now, if the run may make another. -/
def PM.access (act : PM (List Byte)) : PM (List Byte) := do
  let r ← get
  match r.replay with
  | bs :: rest =>
    set { r with replay := rest }
    pure bs
  | [] =>
    if r.left = some 0 then throw .wait
    else
      let bs ← act
      modify fun r => { r with made := bs :: r.made, left := r.left.map (· - 1) }
      pure bs

/-- What meets a line. -/
def PumpRun.meet (r : PumpRun) (kind line : Nat) : LineMeet :=
  (r.meets.find? fun m => m.loc.toNat == 2 ^ 62 * kind + line).getD { loc := 0 }

/-- What an access does, as a right (R323). -/
def accessKind : Access → LineKind
  | .read => .read
  | .write _ _ => .write
  | .rmw _ _ _ _ _ => .rmw
  | .masked _ _ _ _ _ => .rmw

/-- How far an access reaches into its line. -/
def accessEnd : Access → Nat
  | .read => 64
  | .write off bs => off + bs.length
  | .rmw _ _ off bs _ => off + bs.length
  | .masked _ _ _ _ _ => 64

/-- The target of a line of the own shaft (R221) or of den-virtual space (R325), with the right checked (R323). A miss takes a miss
slot, and the operation waits for its fill (R330). -/
def PM.target (kind line : Nat) (k : LineKind) : PM Target := do
  let r ← get
  if kind = 0 then pure (.well (ownAddr r.t line))
  else match r.s.pumpHit r.t line with
    | none => do
      PM.setS (r.s.pumpAsks r.slot r.t r.tag line)
      throw .wait
    | some (e, s) => do
      PM.setS s
      if e.allows k then pure (e.target line) else PM.error kExtRights kind line

/-- One access to a line of the own shaft or of den-virtual space. Lines of windows and of host memory come from `got`, and
writes to them wait in `sends`; `oldTo` says where the old values of an RMW go. -/
def PM.line (kind line : Nat) (k : Access) (oldTo : Option Nat := none) : PM (List Byte) := PM.access do
  let target ← PM.target kind line (accessKind k)
  modify fun r => { r with cause := max r.cause (target.cause r.t) }
  let r ← get
  let m := r.meet kind line
  match target with
  | .well a =>
    let (c, bs, s) := r.s.wellAccess a k m.bad
    PM.setS s
    if c = kOk then pure bs else PM.error c kind line
  | .cistern a =>
    let (c, bs, s) := r.s.cisAccess a k m.cis
    PM.setS s
    if c = kOk then pure bs else PM.error c kind line
  | .host _ => away r line k none oldTo
  | .window w off => away r line k (r.s.winCheck r.slot w off (accessEnd k) (accessKind k)) oldTo
where
  /-- An access that leaves the chip. -/
  away (r : PumpRun) (line : Nat) (k : Access) (bad : Option Code) (oldTo : Option Nat) : PM (List Byte) :=
    match bad with
    | some c => PM.error c 2 line
    | none =>
      match k with
      | .read => match r.op.got.find? (fun p => p.1 == line) with
        | some (_, bs) => pure bs
        | none => throw (.want line)
      | .write off bs => do
        modify fun r => { r with sends := r.sends ++ [{ va := line + off, data := bs }] }
        pure []
      | .rmw f y off bs cmp => do
        modify fun r => { r with sends := r.sends ++
          [{ va := line + off, data := bs, rmw := some (f, y), cmp := cmp, oldTo := oldTo }] }
        pure []
      | .masked _ _ _ _ _ => pure []

/-- A scratchpad access of `n` bytes (R61, R244, R678): the range, the banks and the word's check bits. -/
def PM.spadCheck (a : Int) (n : Nat) : PM Unit := do
  let r ← get
  if a < 0 ∨ (2 ^ 19 : Int) < a + n then PM.error kSpadRange 1 a
  else if !(r.s.tile r.t).banksReady a.toNat n then PM.error cBank 1 a
  else match (r.meet 1 (a.toNat / 64 * 64)).upset with
    | .double => do
      PM.setS (r.s.uncorrectable r.t 1 (bankOf a.toNat) 0x1206 { bundle := (r.s.tile r.t).bundle })
      PM.error 0x1206 1 a
    | .single => PM.setS (r.s.bump 0x0402 0)
    | .none => pure ()

/-- Bytes of the scratchpad as an operation takes or leaves them: those that a bundle has stored to since it was issued are free, for
the operation and in the scratchpad alike (R256). -/
def PM.settled (a : Nat) (bs : List Byte) : PM (List Byte) := do
  let r ← get
  let fresh := r.s.fresh
  let hit := (List.range bs.length).any fun i => inRanges r.op.stored (a + i)
  if hit then PM.setS { r.s with fresh := fresh + bs.length }
  modify fun r => { r with touched := r.touched ++ [(a, bs.length)] }
  let out := bs.zipIdx.map fun (b, i) => if inRanges r.op.stored (a + i) then Config.freeByte (fresh + i) else b
  if hit then modify fun r => { r with s := r.s.modTile r.t fun x => x.spadWrite a out }
  pure out

/-- Read scratchpad bytes. -/
def PM.spadRead (a : Int) (n : Nat) : PM (List Byte) := PM.access do
  PM.spadCheck a n
  let r ← get
  PM.settled a.toNat ((r.s.tile r.t).spadRead a.toNat n)

/-- Write scratchpad bytes. -/
def PM.spadWrite (a : Int) (bs : List Byte) : PM Unit := do
  let _ ← PM.access do
    PM.spadCheck a bs.length
    let bs ← PM.settled a.toNat bs
    modify fun r => { r with s := r.s.modTile r.t fun x => x.spadWrite a.toNat bs }
    pure []

/-- The pieces of a byte range line by line: line address, offset in the line, length, place in the range. -/
def pieces (a n : Nat) : List (Nat × Nat × Nat × Nat) :=
  let first := a / 64
  (List.range (ceilDiv (a % 64 + n) 64)).map fun i =>
    let lo := max a (64 * (first + i))
    let hi := min (a + n) (64 * (first + i) + 64)
    (64 * (first + i), lo % 64, hi - lo, lo - a)

/-- Whether an address leaves the store of its kind (R244, R318). -/
def rangeError (kind : Nat) (a : Int) (n : Nat) : Option Code :=
  if kind = 0 then (if a < 0 ∨ (2 ^ 28 : Int) < a + n then some kShaftRange else none)
  else if a < 0 ∨ (2 ^ 56 : Int) < a + n then some kExtNone else none

/-- Read bytes at a location. -/
def PM.readB (kind : Nat) (a : Int) (n : Nat) : PM (List Byte) := do
  if kind = 1 then PM.spadRead a n
  else match rangeError kind a n with
    | some c => PM.error c kind a
    | none =>
      let parts ← (pieces a.toNat n).mapM fun (line, off, len, _) => do
        let bs ← PM.line kind line .read
        pure (bytesAt bs off len)
      pure parts.flatten

/-- Write bytes at a location. -/
def PM.writeB (kind : Nat) (a : Int) (bs : List Byte) : PM Unit := do
  if kind = 1 then PM.spadWrite a bs
  else match rangeError kind a bs.length with
    | some c => PM.error c kind a
    | none =>
      (pieces a.toNat bs.length).forM fun (line, off, len, i) => do
        let _ ← PM.line kind line (.write off (bytesAt bs i len))

/-- A location word as kind and address. -/
def locOf (w : Nat) : Nat × Int := (locKind w, (locAddr w : Int))

/-- Read `n` bytes at an offset from a location word. -/
def PM.fetch (w : Nat) (off : Int) (n : Nat) : PM (List Byte) := PM.readB (locKind w) (locAddr w + off) n

/-- Read a number at an offset from a location word. -/
def PM.fetchNat (w : Nat) (off : Int) (n : Nat) : PM Nat := do
  let bs ← PM.fetch w off n
  pure (leNat bs)

/-- Write bytes at an offset from a location word. -/
def PM.store (w : Nat) (off : Int) (bs : List Byte) : PM Unit := PM.writeB (locKind w) (locAddr w + off) bs

/-- Write output bytes at an offset of the destination (R237, R242): a location, or the bytes of a V register. -/
def PM.out (d : Desc) (off : Nat) (bs : List Byte) : PM Unit :=
  if d.dkind = 1 then modify fun r => { r with reg := memWrite r.reg off bs } else PM.store d.w2 off bs

/-- Write a bundle of the instruction store (R142). -/
def PM.outBundle (addr : Nat) (bs : List Byte) : PM Unit := do
  let _ ← PM.access do
    modify fun r => { r with s := r.s.modTile r.t fun x =>
      { x with istore := kput 0 x.istore addr (BitVec.ofNat 192 (leNat bs)),
               overlaid := kput false x.overlaid (addr / 64) true } }
    pure []

/-- A signed index of `n` bytes from an index array; a negative one is an error (R245). -/
def PM.index (w : Nat) (i n : Nat) : PM Nat := do
  let v ← PM.fetchNat w (i * n) n
  let k := sextNat (8 * n) v
  if k < 0 then PM.error kIndexRange (locKind w) (locAddr w + (i * n : Nat)) else pure k.toNat

/-- Whether the first `n` elements of `size` bytes at a location leave its data (R247): the store of its kind, or, in den-virtual
space, the extents of the den (DESIGN CHOICE, log entry 176: a descriptor gives its data no length). -/
def pastData (d : Den) (w size n : Nat) : Bool :=
  let e := locAddr w + size * n
  n != 0 && (match locKind w with
    | 0 => 2 ^ 28 < e
    | 1 => 2 ^ 19 < e
    | _ => (d.lookup (e - 1)).isNone)

/-- Offsets `j` and `j + 1` of an offset array (R247): a decrease is an error, as is an offset past the data, which is told by its
location words and the sizes of their elements. -/
def PM.segment (w : Nat) (j : Nat) (data : List (Nat × Nat)) : PM (Nat × Nat) := do
  let a ← PM.index w j 4
  let b ← PM.index w (j + 1) 4
  let r ← get
  if b < a || data.any fun (v, size) => pastData (r.s.den r.slot) v size b then
    PM.error kIndexRange (locKind w) (locAddr w + (4 * (j + 1) : Nat))
  else pure (a, b)

/-! ### Elements -/

/-- The float format of a type code, the element format for an MX type. -/
def pumpFmt : Nat → Option FloatFmt
  | 0x00 | 0x0E => some fp64
  | 0x01 | 0x0F => some fp32
  | 0x02 => some bf16
  | 0x03 => some fp16
  | 0x04 | 0x10 => some fpE4M3
  | 0x05 | 0x11 => some fpE5M2
  | 0x06 | 0x12 => some fpE3M2
  | 0x07 | 0x13 => some fpE2M3
  | 0x08 | 0x14 => some fpE2M1
  | _ => none

/-- One element from one type to another (R156, R182, R245): equal types move bit for bit, complex parts are converted one by
one. -/
def pumpConvert (e d : Nat) (r : Rnd) (x : Nat) : Nat :=
  if e = d then x
  else if tyClass e = .complex then
    let w := typeBits e / 2
    let v := typeBits d / 2
    (convertReal (pumpFmt e) (pumpFmt d) w v r (x % 2 ^ w)).1 + 2 ^ v * (convertReal (pumpFmt e) (pumpFmt d) w v r (x / 2 ^ w)).1
  else (convertReal (pumpFmt e) (pumpFmt d) (typeBits e) (typeBits d) r x).1

/-- The value of a real element as it stands in an array, before any scale (R149). -/
def pumpValue (e x : Nat) : FVal :=
  if e = 0x15 then (match intVal (sextNat 8 x) with | .fin n m q => .fin n m (q - 6) | v => v)
  else match pumpFmt e with
    | some t => t.decode x
    | none => intVal (sextNat (typeBits e) x)

/-- The largest exponent of an MX element format (R156). -/
def mxEmax : Nat → Int
  | 0x10 => 8
  | 0x11 => 15
  | 0x12 => 4
  | 0x13 => 2
  | 0x14 => 2
  | _ => 0

/-- The scale code of a block in an MX format (R156). -/
def mxScale (d : Nat) (vs : List FVal) : Nat :=
  if vs.any fun v => match v with | .fin _ _ _ => false | _ => true then 0xFF
  else
    let tops := vs.filterMap fun v => match v with
      | .fin _ m x => if m = 0 then none else some ((Nat.log2 m : Int) + x)
      | _ => none
    match tops with
    | [] => 0x7F
    | t :: ts => (max 0 (min 254 (127 + ts.foldl max t - mxEmax d))).toNat

/-- A value into an MX element under a scale code (R149, R156). -/
def mxElem (d s : Nat) (r : Rnd) (v : FVal) : Nat :=
  if s = 0xFF then 0
  else
    let v := match v with | .fin n m x => FVal.fin n m (x + 127 - s) | u => u
    if d = 0x15 then
      let v := match v with | .fin n m x => FVal.fin n m (x + 6) | u => u
      wrapInt 8 (fToInt r 8 v).1
    else match pumpFmt d with
      | some t => (t.encode r v).1
      | none => 0

/-- A real value into a type that is not MX. -/
def pumpEncode (d : Nat) (r : Rnd) (v : FVal) : Nat :=
  match pumpFmt d with
  | some t => (t.encode r v).1
  | none => wrapInt (typeBits d) (fToInt r (typeBits d) v).1

/-- Reorder terms by the order in which their reads complete (R247): those named first, the others after them. -/
def arrival {α : Type} (order : List Nat) (l : List (Nat × α)) : List α :=
  let first := order.eraseDups.filterMap fun i => (l.find? fun p => p.1 == i).map (·.2)
  first ++ (l.filter fun p => !order.contains p.1).map (·.2)

/-- The exact quotient of a value by a count, rounded once into a format (R247): the quotient's bits with a sticky bit. -/
def divRound (t : FloatFmt) (r : Rnd) (v : FVal) (n : Nat) : Nat :=
  match v with
  | .fin neg m x =>
    let q := m * 2 ^ 128 / n
    let sticky := if m * 2 ^ 128 % n = 0 then 0 else 1
    (t.encode r (.fin neg (2 * q + sticky) (x - 129))).1
  | u => (t.encode r u).1

end Sys2Proof.Machine
end

