-- ==== Sys2Proof/Machine/PumpOps.lean ====
section
/-! DEFINITION. Machine/PumpOps.lean: the thirteen pump operations (R245 to R253), each a run over its descriptor. -/

namespace Sys2Proof.Machine

open Sys2Proof

/-- Do something for 0 to n − 1. -/
def PM.upTo (n : Nat) (f : Nat → PM Unit) : PM Unit := (List.range n).forM f

/-- Fold over 0 to n − 1. -/
def PM.foldUpTo {α : Type} (n : Nat) (a : α) (f : α → Nat → PM α) : PM α := (List.range n).foldlM f a

/-- COPY (R240, R242): lines, or bundles into the instruction store. -/
def evalCopy (d : Desc) : PM Unit :=
  if d.dkind = 2 then
    PM.upTo (d.count / 24) fun i => do
      let bs ← PM.fetch d.w1 (24 * i) 24
      PM.outBundle (d.w2 + i) bs
  else
    PM.upTo (d.count / 64) fun i => do
      let bs ← PM.fetch d.w1 (64 * i) 64
      PM.out d (64 * i) bs

/-- The offset of element i from the base of a GATHER or SCATTER (R245); `size` is the base array's element size. -/
def elemOffset (d : Desc) (size i : Nat) : PM Int := do
  if d.func = 0 then pure (i * sextNat 32 d.w4)
  else
    let k ← PM.index d.w3 i (if d.func = 1 then 4 else 8)
    pure (k * size)

/-- GATHER (R245). -/
def evalGather (d : Desc) : PM Unit :=
  PM.upTo d.count fun i => do
    let off ← elemOffset d (typeBytes d.etype) i
    let v ← PM.fetchNat d.w1 off (typeBytes d.etype)
    PM.out d (typeBytes d.dtype * i) (toLE (typeBytes d.dtype) (pumpConvert d.etype d.dtype (Rnd.ofField d.rnd) v))

/-- SCATTER (R245, R260): in element order, so the higher index wins. -/
def evalScatter (d : Desc) : PM Unit :=
  PM.upTo d.count fun i => do
    let v ← PM.fetchNat d.w1 (typeBytes d.etype * i) (typeBytes d.etype)
    let off ← elemOffset d (typeBytes d.dtype) i
    PM.store d.w2 off (toLE (typeBytes d.dtype) (pumpConvert d.etype d.dtype (Rnd.ofField d.rnd) v))

/-- The RMW of some whole elements within one line or in the scratchpad: the old values (R246). -/
def rmwPiece (d : Desc) (kind : Nat) (a : Int) (x cmp : List Byte) (oldTo : Option Nat) : PM (List Byte) := do
  if kind = 1 then
    let old ← PM.spadRead a x.length
    PM.spadWrite a (rmwBytes d.func d.etype old x cmp)
    pure old
  else match rangeError kind a x.length with
    | some c => PM.error c kind a
    | none =>
      let line := a.toNat / 64 * 64
      PM.line kind line (.rmw d.func d.etype (a.toNat % 64) x cmp) oldTo

/-- RMW (R246, R260): row by row, line by line; old values are packed in index order. -/
def evalRmw (d : Desc) : PM Unit :=
  let sz := typeBytes d.etype
  let row := sz * d.rowLen
  let pitch := if d.rowLen = 1 then sz else ceilDiv row 64 * 64
  let keepOld := locKind d.w5 != 3
  PM.upTo d.count fun j => do
    let k ← PM.index d.w3 j (if bitsOf d.w4 0 2 = 1 then 4 else 8)
    let base : Int := locAddr d.w2 + (k * pitch : Nat)
    (pieces base.toNat row).forM fun (_, _, len, at_) => do
      let x ← PM.fetch d.w1 (row * j + at_ : Nat) len
      let cmp ← (if d.func = 7 then PM.fetch d.w6 (row * j + at_ : Nat) len else pure [])
      let dst : Int := locAddr d.w5 + (row * j + at_ : Nat)
      let old ← rmwPiece d (locKind d.w2) (base + at_) x cmp (if keepOld then some (locWord (locKind d.w5) dst) else none)
      if keepOld && !old.isEmpty then PM.writeB (locKind d.w5) dst old

/-- The reduction of float terms in an FP64 accumulator (R247): 0 SUM and MEAN, −∞ for MAX, +∞ for MIN where there is no
term. -/
def floatReduce (func maxF minF : Nat) (vs : List Nat) : Nat :=
  if func = maxF then vs.foldl (fun a v => (fp64.minMax true a v).1) (fp64.signed true fp64.infCode)
  else if func = minF then vs.foldl (fun a v => (fp64.minMax false a v).1) fp64.infCode
  else vs.foldl (fun a v => (fp64.op2 .near (fAdd .near) a v).1) 0

/-- The reduction of integer terms (R247). Sums wrap; an empty MAX or MIN gives the extreme of DTYPE, and a result beyond
DTYPE saturates (R156). -/
def intReduce (func w : Nat) (vs : List Int) : Nat :=
  let top : Int := (2 ^ (w - 1) : Nat)
  match func with
  | 0 => wrapInt w (vs.foldl (· + ·) 0)
  | 1 => (match vs with | [] => wrapInt w (-top) | v :: r => wrapInt w (satInt w (r.foldl max v)).1)
  | _ => (match vs with | [] => wrapInt w (top - 1) | v :: r => wrapInt w (satInt w (r.foldl min v)).1)

/-- A float element widened to FP64, which is exact. -/
def toFp64 (e v : Nat) : Nat := pumpConvert e 0 .near v

/-- SEGRED (R247): the terms of a segment in the order in which their reads complete; the result rounded once. -/
def evalSegred (d : Desc) : PM Unit :=
  let sz := typeBytes d.etype
  let r := Rnd.ofField d.rnd
  PM.upTo d.count fun j => do
    let (a, b) ← PM.segment d.w3 j [(d.w1, sz)]
    let vs ← ((List.range (b - a)).map (a + ·)).mapM fun i => do
      let v ← PM.fetchNat d.w1 (sz * i : Nat) sz
      pure (i, v)
    let vs := arrival (← get).order vs
    let out := if (pumpFmt d.etype).isSome then
        pumpConvert 0 d.dtype r (floatReduce d.func 1 2 (vs.map (toFp64 d.etype)))
      else intReduce d.func (typeBits d.dtype) (vs.map (sextNat (8 * sz)))
    PM.out d (typeBytes d.dtype * j) (toLE (typeBytes d.dtype) out)

/-- Free bytes, for padding that the spec gives no value. -/
def PM.free (n : Nat) : PM (List Byte) := PM.access do
  let r ← get
  PM.setS { r.s with fresh := r.s.fresh + n }
  pure ((List.range n).map fun i => Config.freeByte (r.s.fresh + i))

/-- STENCIL (R249): planes of converted elements into the ring; a plane's padding has no stated value. -/
def evalStencil (d : Desc) : PM Unit :=
  let n0 := bitsOf d.w4 0 16
  let n1 := bitsOf d.w4 16 16
  let s1 := sextNat 32 d.w5
  let s2 := sextNat 32 (d.w5 / 2 ^ 32)
  let ring := bitsOf d.w6 0 19
  let first := bitsOf d.w6 32 19
  let db := typeBytes d.dtype
  PM.upTo d.count fun k => do
    let off := if ring = 0 then first + k * d.plane else (first + k * d.plane) % ring
    PM.upTo n1 fun j => PM.upTo n0 fun i => do
      let v ← PM.fetchNat d.w1 ((i * typeBytes d.etype : Nat) + j * s1 + k * s2) (typeBytes d.etype)
      PM.store d.w2 (off + db * (n0 * j + i) : Nat) (toLE db (pumpConvert d.etype d.dtype (Rnd.ofField d.rnd) v))
    let pad ← PM.free (d.plane - db * n0 * n1)
    if !pad.isEmpty then PM.store d.w2 (off + db * n0 * n1 : Nat) pad

/-- SPMV (R248): one fused multiply-add per non-zero, in ascending entry order; FUNC 1 adds the old result. -/
def evalSpmv (d : Desc) : PM Unit :=
  let sz := typeBytes d.etype
  let t := if d.etype = 0 then fp64 else fp32
  PM.upTo d.count fun j => do
    let (a, b) ← PM.segment d.w3 j [(d.w1, sz), (d.w4, 4)]
    let sum ← PM.foldUpTo (b - a) 0 fun acc i => do
      let v ← PM.fetchNat d.w1 (sz * (a + i) : Nat) sz
      let c ← PM.index d.w4 (a + i) 4
      let x ← PM.fetchNat d.w5 (sz * c : Nat) sz
      pure (t.fma .near false false v x acc).1
    let res ← (if d.func = 1 then do
      let old ← PM.fetchNat d.w2 (sz * j : Nat) sz
      pure (t.op2 .near (fAdd .near) old sum).1
      else pure sum : PM Nat)
    PM.out d (sz * j) (toLE sz res)

/-- EMBED (R247): the rows of each bag, weighted where W6 is present, reduced element by element. -/
def evalEmbed (d : Desc) : PM Unit :=
  let sz := typeBytes d.etype
  let db := typeBytes d.dtype
  let pitch := ceilDiv (sz * d.rowLen) 64 * 64
  let r := Rnd.ofField d.rnd
  PM.upTo d.count fun j => do
    let (a, b) ← PM.segment d.w5 j ((d.w3, 8) :: if locKind d.w6 = 3 then [] else [(d.w6, 4)])
    let rows ← ((List.range (b - a)).map (a + ·)).mapM fun i => do
      let k ← PM.index d.w3 i 8
      let bs ← PM.fetch d.w1 (k * pitch : Nat) (sz * d.rowLen)
      let w ← (if locKind d.w6 = 3 then pure none else do
        let v ← PM.fetchNat d.w6 (4 * i : Nat) 4
        pure (some (toFp64 1 v)) : PM (Option Nat))
      let vs := (elemsAt sz bs).map fun v =>
        let x := toFp64 d.etype v
        match w with | some w => (fp64.op2 .near fMul x w).1 | none => x
      pure (i, vs)
    let rows := arrival (← get).order rows
    PM.upTo d.rowLen fun e => do
      let acc := floatReduce d.func 2 3 (rows.map fun vs => vs.getD e 0)
      let out := if d.func = 1 && a < b then
          divRound ((pumpFmt d.dtype).getD fp32) r (fp64.decode acc) (b - a)
        else pumpConvert 0 d.dtype r acc
      PM.out d (db * (d.rowLen * j + e)) (toLE db out)

/-- The bin of a value under FUNC 1 of HIST (R250). A low bound that is not finite and a width that is not a finite positive
number give no stated bin. -/
def histFloat (t : FloatFmt) (low width b v : Nat) : Nat :=
  match t.decode v, fp64.decode low, fp64.decode width with
  | .nan _, _, _ => b + 1
  | .inf neg, .fin _ _ _, .fin false (_ + 1) _ => if neg then 0 else b + 1
  | .fin n m x, .fin n' m' x', .fin false (k + 1) y =>
    let diff := dyAdd (dyOf n m x) (dyOf (!n') m' x')
    if diff.m < 0 then 0
    else
      let q := if y ≤ diff.x then diff.m.toNat * 2 ^ (diff.x - y).toNat / (k + 1)
        else diff.m.toNat / ((k + 1) * 2 ^ (y - diff.x).toNat)
      if q < b then q + 1 else b + 1
  | _, _, _ => Config.histBin low width v % (b + 2)

/-- The bin of a value under FUNC 0 of HIST (R250). -/
def histInt (w low shift b v : Nat) : Nat :=
  let diff := sextNat w v - sextNat 64 low
  if diff < 0 then 0
  else
    let q := diff.toNat / 2 ^ shift
    if q < b then q + 1 else b + 1

/-- HIST (R250). -/
def evalHist (d : Desc) : PM Unit :=
  let sz := typeBytes d.etype
  let b := bitsOf d.w5 0 32
  PM.upTo d.count fun i => do
    let v ← PM.fetchNat d.w1 (sz * i : Nat) sz
    let bin := if d.func = 0 then histInt (8 * sz) d.w6 (bitsOf d.w4 0 6) b v
      else histFloat (if d.etype = 0 then fp64 else fp32) d.w6 d.w7 b v
    let old ← PM.fetchNat d.w2 (4 * bin : Nat) 4
    PM.store d.w2 (4 * bin : Nat) (toLE 4 (min (old + 1) (2 ^ 32 - 1)))

/-- COMPRESS (R251): the non-zero blocks in order, the mask byte by byte, the number of blocks. -/
def evalCompress (d : Desc) : PM Unit := do
  let blk := bitsOf d.w4 0 16
  let (packed, _) ← PM.foldUpTo d.count (0, 0) fun (packed, mask) i => do
    let bs ← PM.fetch d.w1 (blk * i : Nat) blk
    let full := bs.any (· != 0)
    if full then PM.store d.w2 (blk * packed : Nat) bs
    let mask := mask + (if full then 2 ^ (i % 8) else 0)
    if i % 8 = 7 ∨ i + 1 = d.count then
      PM.store d.w3 (i / 8 : Nat) (toLE 1 mask)
      pure (packed + (if full then 1 else 0), 0)
    else pure (packed + (if full then 1 else 0), mask)
  PM.store d.w5 0 (toLE 4 packed)

/-- EXPAND (R251). -/
def evalExpand (d : Desc) : PM Unit := do
  let blk := bitsOf d.w4 0 16
  let _ ← PM.foldUpTo d.count 0 fun packed i => do
    let m ← PM.fetchNat d.w3 (i / 8 : Nat) 1
    if m.testBit (i % 8) then
      let bs ← PM.fetch d.w1 (blk * packed : Nat) blk
      PM.store d.w2 (blk * i : Nat) bs
      pure (packed + 1)
    else
      PM.store d.w2 (blk * i : Nat) (List.replicate blk 0)
      pure packed

/-- A group of elements of CONVERT: as many as fill whole bytes, 32 where a side is a sub-byte or MX type (R243). -/
def convertGroup (d : Desc) : Nat := if isSub d.etype || isSub d.dtype then 32 else 1

/-- CONVERT (R156, R252): group by group, with the scale of each MX block. -/
def evalConvert (d : Desc) : PM Unit :=
  let g := convertGroup d
  let we := typeBits d.etype
  let wd := typeBits d.dtype
  let r := Rnd.ofField d.rnd
  PM.upTo (d.count / g) fun j => do
    let bs ← PM.fetch d.w1 (we * g / 8 * j : Nat) (we * g / 8)
    let xs := elemsOf we g (leNat bs)
    let ys ← (if d.etype = d.dtype then pure xs
      else if isMx d.etype then do
        let s ← (if locKind d.w3 = 3 then pure 0x7F else PM.fetchNat d.w3 (j : Nat) 1)
        pure (xs.map fun x => pumpEncode d.dtype r (scaleVal s (pumpValue d.etype x)))
      else if isMx d.dtype then do
        let vs := xs.map (pumpValue d.etype)
        let s := if locKind d.w3 = 3 then 0x7F else mxScale d.dtype vs
        if locKind d.w3 != 3 then PM.store d.w3 (j : Nat) (toLE 1 s)
        pure (vs.map (mxElem d.dtype s r))
      else pure (xs.map (pumpConvert d.etype d.dtype r)) : PM (List Nat))
    PM.out d (wd * g / 8 * j) (toLE (wd * g / 8) (joinElems wd ys))

/-- Whether key `a` stands before key `b` in ascending order (R253): −∞ to +∞ with −0 below +0, then NaN. -/
def keyLess (e a b : Nat) : Bool :=
  match pumpFmt e with
  | none => decide (sextNat (typeBits e) a < sextNat (typeBits e) b)
  | some t =>
    let va := t.decode a
    let vb := t.decode b
    if va.isNan then false else if vb.isNan then true else fLess true va vb

/-- MERGE (R253): equal keys take run A first. -/
def evalMerge (d : Desc) : PM Unit := do
  let la := bitsOf d.w4 0 32
  let lb := d.count - la
  let sz := typeBytes d.etype
  let before (a b : Nat) : Bool := if d.func % 2 = 0 then keyLess d.etype a b else keyLess d.etype b a
  let _ ← PM.foldUpTo d.count (0, 0) fun (i, j) n => do
    let ka ← (if i < la then do let v ← PM.fetchNat d.w1 (sz * i : Nat) sz; pure (some v) else pure none : PM (Option Nat))
    let kb ← (if j < lb then do let v ← PM.fetchNat d.w3 (sz * j : Nat) sz; pure (some v) else pure none : PM (Option Nat))
    let (fromA, key) := match ka, kb with
      | some a, some b => if before b a then (false, b) else (true, a)
      | some a, none => (true, a)
      | none, some b => (false, b)
      | none, none => (true, 0)
    PM.store d.w2 (sz * n : Nat) (toLE sz key)
    if 2 ≤ d.func then
      let pay ← (if fromA then PM.fetch d.w5 (8 * i : Nat) 8 else PM.fetch d.w6 (8 * j : Nat) 8)
      PM.store d.w7 (8 * n : Nat) pay
    pure (if fromA then (i + 1, j) else (i, j + 1))

/-- Set the operation on a tag. -/
def State.setTag (s : State) (t tag : Nat) (op : Option TagOp) : State :=
  s.modTile t fun x => { x with pump := { x.pump with tags := kput none x.pump.tags tag op } }

/-- Change an operation on a tag. -/
def State.modTag (s : State) (t tag : Nat) (f : TagOp → TagOp) : State :=
  s.modTile t fun x => { x with pump := { x.pump with tags := kmod none x.pump.tags tag fun o => o.map f } }

/-- An operation meets its first error (R268): it sends nothing more, and a request kept in its slot leaves it. -/
def State.pumpError (s : State) (t tag : Nat) (c : Code) (loc : Nat) : State :=
  let s := s.modTag t tag fun op => if op.err.isSome then op else { op with err := some (c, loc), want := none, sends := [] }
  s.modTile t fun x =>
    { x with pump := { x.pump with remote := x.pump.remote.filter fun z => !(z.tag == tag && z.via == .kept) } }

/-- What every run leaves on its operation's tag: the accesses made, what they touched, and what they leave to be sent. -/
def PumpRun.leave (r : PumpRun) (op : TagOp) : TagOp :=
  { op with trace := op.trace ++ r.made.reverse, touched := op.touched ++ r.touched, want := none, sends := r.sends,
            cause := max op.cause r.cause }

/-- What an operation's run leaves (R141, R268): the effect is done, or an error met; or the operation has come as far as it can, and
its next run goes on, once a line is there that must be read from a window or from host memory. -/
def pumpOutcome (d : Desc) (op : TagOp) (e : Except PumpStop Unit) (r : PumpRun) : State :=
  let op := r.leave op
  let put (op : TagOp) : State := r.s.setTag r.t r.tag (some op)
  match e with
  | .error (.want va) => put { op with want := some va }
  | .error .wait => put op
  | .error (.error c loc) => (put { op with done := true, trace := [] }).pumpError r.t r.tag c loc
  | .ok _ =>
    put { op with done := true, trace := [],
                  result := if d.dkind = 1 then some (.v (d.w2 % 64), BitVec.ofNat 512 (leNat (memRead r.reg 0 64))) else none }

/-- A pump operation of an OP code as a command: accepted, not yet done, with no error met (R268), not behind an ordering point
(R258). -/
def runPump (code : Nat) (eval : Desc → PM Unit) (t tag : Nat) (f : PumpFacts) (s : State) : Out State :=
  needSome .noDen (s.slotOf t) fun slot =>
    needSome .noPumpOp (kget none (s.tile t).pump.tags tag) fun op =>
      let d := Desc.of op.desc
      need .noPumpOp (d.op == code && !op.done && op.status.isNone && op.err.isNone && op.after == 0) <|
        let run : PumpRun := { s := s, slot := slot, t := t, tag := tag, op := op, meets := f.meets, order := f.order,
                               replay := op.trace, left := f.accesses, sends := op.sends }
        let (e, r) := eval d run
        .next (pumpOutcome d op e r)

end Sys2Proof.Machine
end

