-- ==== Sys2Proof/Machine/PumpLines.lean ====
section
/-! DEFINITION. Machine/PumpLines.lean: the line engine of a pump (R230 to R234, R330, R339, R344 to R348, R378) and the end of a
pump operation (R258, R259, R268, R687), as commands. The effect of an operation on the chip's own memory is one run (log entry
30); its line requests take slots and translations, and carry what leaves the chip. -/

namespace Sys2Proof.Machine

open Sys2Proof

/-! ### Choosing the tag (R232) -/

/-- The line slots that some requests take: one for each line (R230, R344). -/
def slotCount (l : List LineSlot) : Nat := l.foldl (fun n z => n + z.lines) 0

/-- Whether a pump has `n` free line slots for a target: its own shaft, or elsewhere (R230). -/
def Pump.room (p : Pump) (own : Bool) (n : Nat := 1) : Bool :=
  if own then slotCount p.own + n ≤ 32 else slotCount p.remote + n ≤ 64

/-- Whether a target is a tile's own shaft; a translation that lands there is treated as an own-shaft access (R238). -/
def Target.own (t : Nat) : Target → Bool
  | .well a => a / 2 ^ 28 == ownAddr t 0 / 2 ^ 28
  | _ => false

/-- Whether a request for a location can be served now (R230, R331): a line slot of its kind is free, or, where its translation
misses, a miss slot. -/
def Tile.canServe (x : Tile) (t : Nat) (loc : Nat) : Bool :=
  if locKind loc = 0 then x.pump.room true
  else match x.pump.cache.find? (·.has (locAddr loc)) with
    | some e => x.pump.room ((e.target (locAddr loc)).own t)
    | none => x.pump.misses.length < 4

/-- Whether a descriptor can be served: in flight, not behind an ordering point, not waiting for a translation. -/
def Tile.servable (x : Tile) (tag : Nat) : Bool :=
  match kget none x.pump.tags tag with
  | some op => op.status.isNone && op.err.isNone && op.after == 0 && !(x.pump.misses.any (·.tag == tag))
  | none => false

/-- A write of part of a window's line first reads the line (R267). -/
def TagOp.needsLine (op : TagOp) (line : Nat) : Bool :=
  match op.sends with
  | z :: _ => z.va / 64 * 64 == line && z.rmw.isNone && z.data.length % 64 != 0 && !(op.got.any (·.1 == line))
  | [] => false

/-- The line of a window or of host memory that an operation asks for next, if it does: the one it wants, else that of its first send. -/
def TagOp.nextLine (op : TagOp) : Option Nat := op.want.orElse fun _ => op.sends.head?.map fun z => z.va / 64 * 64

/-- Whether a descriptor's operation may ask for a location next: in its own shaft or in a den-virtual line whose entry is cached and
of the chip's memory, one within an array that it names, the whole of its space where data decide; elsewhere the one it waits for. -/
def TagOp.asks (op : TagOp) (x : Tile) (loc : Nat) : Bool :=
  let d := Desc.of op.desc
  let a : Int := locAddr loc
  let named := d.arrays.any fun (i, _, lo, hi) =>
    locKind (d.word i) == locKind loc && (lo == hi || (locAddr (d.word i) + lo < a + 64 && a < locAddr (d.word i) + hi))
  let away := locKind loc == 2 && (x.pump.cache.find? (·.has (locAddr loc))).any fun e => 3 ≤ e.kind
  if away then op.nextLine == some (locAddr loc) || (op.nextLine.isNone && named) else named

/-- The descriptor that a request for a location serves (R232, R331): the first in the round robin that can be served and may ask for that
location now. Those before it are passed over while they wait, have no free line slot or miss slot for what they ask for, or ask
for nothing of the kind. -/
def Tile.turn (x : Tile) (t : Nat) (loc : Nat) : Option Nat :=
  if !x.canServe t loc then none
  else x.pump.order.find? fun tag => x.servable tag && (match kget none x.pump.tags tag with
    | some op => op.asks x loc
    | none => false)

/-- The descriptor just served goes to the back of the round robin. -/
def Tile.served (x : Tile) (tag : Nat) : Tile :=
  { x with pump := { x.pump with order := x.pump.order.filter (· != tag) ++ [tag] } }

/-! ### Host memory (R338 to R340) -/

/-- What a host access finds: its address and whether it is translated; a translation that must be waited for; a refusal. -/
inductive HostWay where
  | go (a : Nat) (xlat : Bool)
  | wait (page : Nat)
  | refused

/-- The way of an access to host memory (R339, R340). -/
def State.hostWay (s : State) (pasid a : Nat) (write : Bool) : HostWay :=
  if !s.host.atsEnable then .go a false
  else match s.host.atc.find? fun e => e.pasid == pasid && e.page == a / 4096 with
    | some e => if (if write then e.wr else e.rd) then .go (e.xlat / 4096 * 4096 + a % 4096) true else .refused
    | none => .wait (a / 4096)

/-- The non-posted requests that the host interface has outstanding: the reads of pumps, and Translation Requests. A read that a command makes and
the host answers within it is outstanding at no other command's time. -/
def State.hostReadsOut (s : State) : Nat :=
  s.host.atsWaits.length +
    s.tiles.foldl (fun n (_, x) => n + (x.pump.remote.filter fun z => z.via == .host && z.send.isNone && z.hold.isNone).length) 0

/-- Whether a further non-posted request may be sent: at most 1,024 are outstanding (R480). -/
def State.hostTag (s : State) : Bool := s.hostReadsOut < 1024

/-- An ATS Translation Request, if fewer than 64 are outstanding (R340). -/
def State.atsAsk (s : State) (pasid page : Nat) (who : Agent) (tag : Nat) : State :=
  if s.host.atsWaits.any fun w => w.pasid == pasid && w.page == page then s
  else if 64 ≤ s.host.atsWaits.length || !s.hostTag then s
  else
    let w : AtsWait := { pasid := pasid, page := page, who := who, tag := tag }
    (({ s with host := { s.host with atsWaits := s.host.atsWaits ++ [w] } } : State).bump 0x0C02 1).emit (.atsRequest pasid page)

/-! ### Requests -/

/-- Put a line request in a slot, or change the one that is kept there. -/
def State.putSlot (s : State) (t : Nat) (own : Bool) (z : LineSlot) : State :=
  s.modTile t fun x =>
    let kept (y : LineSlot) : Bool := y.via == .kept && y.tag == z.tag && y.loc == z.loc
    let put (l : List LineSlot) : List LineSlot := if l.any kept then updFirst kept (fun _ => z) l else l ++ [z]
    if own then { x with pump := { x.pump with own := put x.pump.own } }
    else { x with pump := { x.pump with remote := put x.pump.remote } }

/-- What a send carries as a request of a window (R517): a whole line, or an RMW with its byte mask; none while the rest of the
line has not been read. -/
def sendMsgOf (op : TagOp) (z : LineSend) (off : Nat) : Option Msg :=
  let at_ := z.va % 64
  match z.rmw with
  | some (func, ety) =>
    let pad (bs : List Byte) : List Byte := List.replicate at_ 0 ++ bs ++ List.replicate (64 - at_ - bs.length) 0
    let mask := (2 ^ z.data.length - 1) * 2 ^ at_
    some { kind := 0, opc := 2, arg := func + 8 * ety, off := off / 64 * 64,
           payload := toLE 8 mask ++ pad z.data ++ (if func = 7 then pad z.cmp else []) }
  | none =>
    if z.data.length % 64 = 0 && at_ = 0 then some { kind := 0, opc := 1, off := off, payload := z.data }
    else match op.got.find? fun p => p.1 == z.va / 64 * 64 with
      | some (_, line) =>
        some { kind := 0, opc := 1, off := off / 64 * 64,
               payload := line.take at_ ++ z.data ++ line.drop (at_ + z.data.length) }
      | none => none

/-- Lines of a window (R344, R347): the sender's checks for the right `right`, then the transaction; with the link full it stays in its
slot. -/
def State.windowLine (s : State) (slot t tag : Nat) (loc : BitVec 64) (k right : LineKind) (w off size : Nat) (z : Option LineSend)
    (m : Msg) : State :=
  let va := locAddr loc.toNat
  let n := ceilDiv size 64
  match s.winCheck slot w off size right with
  | some c => s.pumpError t tag c loc.toNat
  | none =>
    match s.window w with
    | none => s.pumpError t tag kWinClosed va
    | some e =>
      match s.startTx slot e (.pump t tag loc) m with
      | .failed c => s.pumpError t tag c loc.toNat
      | .full => s.putSlot t false { tag := tag, loc := loc, kind := k, lines := n, via := .kept, send := z }
      | .sent s => (s.askLine slot t tag k n (.window w off) m.payload).putSlot t false
          { tag := tag, loc := loc, kind := k, lines := n, via := .link, port := s.targetEnd slot (.window w off), send := z }

/-- A line of host memory (R338 to R340). A read that finds 1,024 outstanding stays in its slot (R480). -/
def State.hostLine (s : State) (slot t tag : Nat) (loc : BitVec 64) (k : LineKind) (a : Nat) (z : Option LineSend) : State :=
  let pasid := (s.den slot).pasid.toNat % 2 ^ 20
  let put (s : State) (v : LineVia) : State :=
    s.putSlot t false { tag := tag, loc := loc, kind := k, via := v, port := s.targetEnd slot (.host a), send := z }
  match s.hostWay pasid a (k != .read) with
  | .refused => (s.bump 0x0C02 3).pumpError t tag kHostXlate loc.toNat
  | .wait page => put (s.atsAsk pasid page (.pump (Fin.ofNat 8192 t)) tag) .kept
  | .go a x =>
    if z.isNone && !s.hostTag then put s .kept else
    put ((s.askLine slot t tag k 1 (.host a) (z.elim [] (·.data))).emit (match z with
      | some z => .hostWrite (some pasid) (a / 64 * 64 + z.va % 64) z.data x
      | none => .hostRead (some pasid) a 64 x)) .host

/-- The bytes of a line of the chip's own memory. -/
def State.memLine (s : State) : Target → List Byte
  | .well a => memRead (s.well (a / 2 ^ 37 % 16)).data (a % 2 ^ 37 / 64 * 64) 64
  | .cistern a => (s.cis (a / 2 ^ 37 % 32)).lineBytes (a % 2 ^ 37 / 64)
  | _ => []

/-- A line of the chip's own memory (R221, R230): its request leaves, and it takes a slot. A request that writes carries the line as the
memory has it with what the operation has written (DESIGN CHOICE, log entry 191). -/
def State.chipLine (s : State) (slot t tag : Nat) (loc : BitVec 64) (k : LineKind) (own : Bool) (x : Target) : State :=
  (s.askLine slot t tag k 1 x (if k = .read then [] else s.memLine x)).putSlot t own { tag := tag, loc := loc, kind := k, port := s.targetEnd slot x }

/-- The bytes of a send in the lines that an operation has read of a window or of host memory. -/
def LineSend.patch (y : LineSend) (got : KMap (List Byte)) : KMap (List Byte) :=
  if y.rmw.isSome then got
  else got.map fun (a, l) => (a, l.zipIdx.map fun (b, i) =>
    if y.va ≤ a + i ∧ a + i < y.va + y.data.length then y.data.getD (a + i - y.va) b else b)

/-- The first `n` sends of an operation are on their way, in order; a later one of the same line carries their bytes (R260). -/
def State.popSend (s : State) (t tag n : Nat) : State := s.modTag t tag fun op =>
  { op with sends := op.sends.drop n, got := (op.sends.take n).foldl (fun m y => y.patch m) op.got }

/-- Whether a request of an operation for a line is kept in its slot: later ones of that line wait for it (R260). -/
def Tile.keeps (x : Tile) (tag va : Nat) : Bool :=
  x.pump.remote.any fun y => y.via == .kept && y.tag == tag && locAddr y.loc.toNat / 64 == va / 64

/-- Whether `n` lines from an address may be one transaction (R344): they lie in one aligned block of 256 bytes and in one extent. -/
def oneBlock (e : Extent) (va n : Nat) : Bool :=
  1 ≤ n && n ≤ 4 && va / 256 == (va + 64 * n - 1) / 256 && va + 64 * n ≤ e.vbase + e.len

/-- Whether an operation's descriptor names `n` lines from a den-virtual address as ones that it reads. -/
def TagOp.names (op : TagOp) (va n : Nat) : Bool :=
  let d := Desc.of op.desc
  d.arrays.any fun (i, _, lo, hi) =>
    let a : Int := locAddr (d.word i)
    locKind (d.word i) == 2 && a + lo ≤ va && (va + 64 * n : Nat) ≤ a + hi + 63

/-- The first sends of an operation as one: `n` whole lines that follow each other. -/
def joinSends : Nat → List LineSend → Option LineSend
  | 0, _ => none
  | 1, z :: _ => some z
  | n + 1, z :: zs =>
    match joinSends n zs with
    | some y => if z.rmw.isNone && z.data.length == 64 && z.va % 64 == 0 && y.rmw.isNone && y.data.length == 64 * n && y.va == z.va + 64
      then some { z with data := z.data ++ y.data } else none
    | none => none
  | _, [] => none

/-- A line request of an operation, once its descriptor is chosen (R221, R230, R238, R323, R325, R344). A line of a window or of host
memory is the one the operation wants, or its first send; `n` lines of a window make one transaction. A read that fills up a line
to be written needs the right of the write (R323). -/
def lineRequest (slot t tag : Nat) (loc : BitVec 64) (k : LineKind) (n : Nat) (op : TagOp) (s : State) : Out State :=
  let x := s.tile t
  let va := locAddr loc.toNat
  let kept := x.pump.remote.any fun y => y.via == .kept && y.tag == tag && y.loc == loc
  let s := s.modTile t fun x => x.served tag
  if locKind loc.toNat = 0 then
    need .noPumpOp (x.pump.room true) <| .next (s.chipLine slot t tag loc k true (.well (ownAddr t (locAddr loc.toNat))))
  else need .noPumpOp (locKind loc.toNat == 2) <|
    match s.pumpHit t va with
    | none => need .noPumpOp (x.pump.misses.length < 4) <| .next (s.pumpAsks slot t tag va)
    | some (e, s) =>
      let right := if k = .read ∧ op.needsLine va then .write else k
      if !e.allows right then .next (s.pumpError t tag kExtRights loc.toNat)
      else
        let target := e.target va
        let own := target.own t
        need .noPumpOp (kept || x.pump.room own n) <|
          let z := joinSends n op.sends
          let reads := k = .read ∧ (op.want = some va ∨ op.needsLine va)
          let sends := match z with
            | some z => z.va / 64 * 64 == va && (k == .rmw) == z.rmw.isSome && k != .read && !op.needsLine va
            | none => false
          match target with
          | .well _ | .cistern _ => need .badFact (n == 1) <|
              .next (s.chipLine slot t tag loc k own target)
          | .host a =>
            need .badFact (n == 1) <|
              if reads then .next (s.hostLine slot t tag loc k a none)
              else need .noPumpOp sends <| .next ((s.hostLine slot t tag loc k a z).popSend t tag n)
          | .window w off =>
            need .badFact (oneBlock e va n && (n == 1 || (k != .rmw && (k == .write || op.names va n)))) <|
              let size := match z with | some z => z.va % 64 + z.data.length | none => 64
              if reads then
                .next (s.windowLine slot t tag loc k right w off (64 * n) none { kind := 0, opc := 0, arg := n - 1, off := off })
              else match z.bind fun z => sendMsgOf op z off with
                | none => .off .noPumpOp
                | some m => need .noPumpOp sends <| .next ((s.windowLine slot t tag loc k right w off size z m).popSend t tag n)

/-- PUMP_LINE_REQUEST (R232, R344): the line engine serves the next descriptor in its round robin that can be served, with more
lines than the first where it is a transaction of a window. A request kept in its slot is tried again with its own descriptor. -/
def execPumpLineRequest (t : TileIx) (loc : BitVec 64) (k : LineAsk) (s : State) : Act := occurs s <|
  needSome .noDen (s.slotOf t.val) fun slot =>
    let x := s.tile t.val
    match x.pump.remote.find? fun y => y.via == .kept && y.loc == loc && y.kind == k.kind with
    | some y =>
      needSome .noPumpOp (kget none x.pump.tags y.tag) fun op => need .noPumpOp op.err.isNone <|
        let op := { op with sends := y.send.toList ++ op.sends, want := if y.send.isSome then op.want else some (locAddr loc.toNat) }
        lineRequest slot t.val y.tag loc k.kind (if y.send.isSome then 1 else y.lines) op (s.modTag t.val y.tag fun _ => op)
    | none =>
      needSome .noPumpOp (x.turn t.val loc.toNat) fun tag => need .noPumpOp (!x.keeps tag (locAddr loc.toNat)) <|
        needSome .noPumpOp (kget none x.pump.tags tag) fun op => lineRequest slot t.val tag loc k.kind (k.more.val + 1) op s

/-! ### Fills and responses -/

/-- FILL_RESPONSE (R327, R330 to R333): the directory answers a miss of a pump, by its tag, or of an engine, by its miss slot; not-found
ends the access with EXT_NONE. -/
def execFillResponse (who : Agent) (tag : Fin 16) (s : State) : Act := occurs s <|
  match who with
  | .pump t =>
    needSome .noDen (s.slotOf t.val) fun slot =>
      needSome .noSuch ((s.tile t.val).pump.misses.find? (·.tag == tag.val)) fun m =>
        let s := (s.modTile t.val fun x =>
          { x with pump := { x.pump with misses := x.pump.misses.filter (·.tag != tag.val) } }).bump 0x0C00 3
        let s := s.sayFill slot (.pump t) tag.val m.va false
        match (s.den slot).lookup m.va with
        | some e => .next (s.modTile t.val fun x => { x with pump := { x.pump with cache := cacheFill 16 e x.pump.cache } })
        | none => .next (s.pumpError t.val tag.val kExtNone (locWord 2 m.va))
  | who =>
    let e := engineOf who
    needSome .noSuch ((s.engMisses e)[tag.val]?) fun m =>
      need .noSuch (!m.absent) <|
        let s := (s.bump 0x0C00 3).sayFill m.slot who tag.val m.va false
        match (s.den m.slot).lookup m.va with
        | some x => .next ((s.setEngMisses e ((s.engMisses e).eraseIdx tag.val)).engineFill e m.slot x)
        | none => .next (s.setEngMisses e ((s.engMisses e).set tag.val { m with absent := true }))

/-- The controller that serves a line of a pump: wells 0 to 15, cisterns 16 to 47. -/
def State.lineCtl (s : State) (slot t : Nat) (loc : BitVec 64) : Option Nat :=
  if locKind loc.toNat = 0 then some (wellOf t) else s.vaCtl slot (locAddr loc.toNat)

/-- The address whose translation the answer to a line of a window waits for (R330): where the old values of its RMW go. -/
def LineSlot.waits (z : LineSlot) (x : Tile) : Option Nat :=
  match z.kind, z.send with
  | .rmw, some y => (match y.oldTo with
    | some w => if locKind w = 2 then
        [locAddr w, locAddr w + y.data.length - 1].find? fun va => !(x.pump.cache.any (·.has va))
      else none
    | none => none)
  | _, _ => none

/-- The Invalidate Completions that waited for the last of their requests go out (R342). -/
def State.settleAts (s : State) : State :=
  let out (h : AtsHold) : Bool := h.slots.any fun (t, tag, loc) =>
    (s.tile t).pump.remote.any fun z => z.tag == tag && z.loc == loc && z.via == .host && z.hold.isNone
  let ended := s.host.atsHolds.filter fun h => !out h
  if ended.isEmpty then s
  else ended.foldl (fun s h => s.emit (.atsDone h.pasid h.base))
    { s with host := { s.host with atsHolds := s.host.atsHolds.filter out } }

/-- What the answer to a line of a window or of host memory brings its operation (R246, R268, R344): the line read; the old values
of an RMW, which go where W5 says unless an error was met before (those of an RMW whose response carries none are free, log entry 47). -/
def State.lineLands (s : State) (slot t tag : Nat) (z : LineSlot) (c : Code) (data : List Byte) : State :=
  let va := locAddr z.loc.toNat
  if c ≠ kOk then s.pumpError t tag c z.loc.toNat
  else match z.kind, z.send with
    | .read, _ => s.modTag t tag fun op =>
        { op with got := (List.range z.lines).foldl (fun m i => kins (bytesAt data (64 * i) 64) m (va + 64 * i)) op.got, want := none }
    | .rmw, some y =>
      match y.oldTo with
      | none => s
      | some w =>
        let (old, s) := if data.length = 64 then (bytesAt data (y.va % 64) y.data.length, s) else s.freeBytes y.data.length
        match kget none (s.tile t).pump.tags tag with
        | none => s
        | some op => if op.err.isSome then s else
          let run : PumpRun := { s := s, slot := slot, t := t, tag := tag, op := op, meets := [], order := [], sends := op.sends }
          match (PM.writeB (locKind w) (locAddr w) old) run with
          | (.ok _, r) => r.s.setTag t tag (some { op with sends := r.sends, touched := op.touched ++ r.touched })
          | (.error (.error c loc), r) => r.s.pumpError t tag c loc
          | (.error _, _) => s.pumpError t tag kExtNone w
    | _, _ => s

/-- The answer to a line request on its way back through the port that the request took (R37, R357). -/
def State.answers (s : State) (slot t tag : Nat) (z : LineSlot) (data : List Byte) : State :=
  s.say 0 (lineAnswer z.kind) z.port (s.tileEnd t) slot tag z.lines data

/-- PUMP_LINE_RESPONSE (R259, R268, R330, R378, R431): a line request is answered. Where its old values go to a den-virtual address that
the extent cache lacks, it first takes a miss slot and waits in its line slot. `st` and `data` are the host's answer; a controller of
the chip and a window's peer have given theirs. The slot stays occupied for the hold that the response carries. -/
def execPumpLineResponse (t : TileIx) (tag : Fin 16) (own : Bool) (st : Code) (loc : BitVec 64) (data : List Byte)
    (delayed : Bool) (s : State) : Act := occurs s <|
  needSome .noDen (s.slotOf t.val) fun slot =>
    let x := s.tile t.val
    let slots := if own then x.pump.own else x.pump.remote
    let hit (z : LineSlot) : Bool := z.tag == tag.val && z.loc == loc && z.hold.isNone && z.via != .kept
    needSome .noSuch (slots.find? hit) fun z =>
      need .noSuch (z.via != .link || z.ans.isSome) <|
      let failed := (kget none x.pump.tags tag.val).any (·.err.isSome) || z.ans.any (·.1 != kOk)
      match if failed then none else z.waits x with
      | some va => need .noSuch (x.pump.misses.length < 4 && !x.pump.misses.any (·.tag == tag.val)) <|
          .next (s.pumpAsks slot t.val tag.val va)
      | none =>
        need .badFact (z.via != .host || st == kOk || st == kHostXlate) <|
          let s := s.answers slot t.val tag.val z (match z.ans with | some (_, bs) => bs | none => data)
          let (h, s) := s.takeMark slot (s.lineCtl slot t.val loc)
          need .badFact (delayed == (if z.via == .link then z.delayed else h.contended)) <|
          let put (l : List LineSlot) : List LineSlot :=
            if 0 < h.ns then updFirst hit (fun z => { z with hold := some h.ns }) l else dropFirst hit l
          let s := s.modTile t.val fun x =>
            if own then { x with pump := { x.pump with own := put x.pump.own } }
            else { x with pump := { x.pump with remote := put x.pump.remote } }
          let s := if delayed then s.modTag t.val tag.val fun op => { op with contended := true } else s
          match z.via with
          | .link =>
            let (c, bs) := z.ans.getD (kOk, [])
            .next (s.lineLands slot t.val tag.val z c bs)
          | .host =>
            let s := if st = kHostXlate then s.bump 0x0C02 3 else s
            .next (s.settleAts.lineLands slot t.val tag.val z st data)
          | _ => .next s

/-- HOLD_EXPIRY (R378): the hold of a pump's first held slot, of those for its own shaft or of the others, or of a link's first kept
inbound place, is over. -/
def execHoldExpiry (at_ : HeldAt) (own : Bool) (s : State) : Act := occurs s <|
  let held (z : LineSlot) : Bool := z.hold.isSome
  match at_ with
  | .pump t =>
    let x := s.tile t.val
    need .noSuch ((if own then x.pump.own else x.pump.remote).any held) <|
      .next (s.setTile t.val (if own then { x with pump := { x.pump with own := dropFirst held x.pump.own } }
        else { x with pump := { x.pump with remote := dropFirst held x.pump.remote } }))
  | .link l =>
    need .noSuch (!(s.link l.val).places.isEmpty) <| .next (s.modLink l.val fun x => { x with places := x.places.drop 1 })
  | .host => need .noSuch (!s.host.places.isEmpty) <| .next { s with host := { s.host with places := s.host.places.drop 1 } }

/-! ### The end of an operation -/

/-- An operation completes with a status (R258, R259, R268): it leaves the round robin and the ordering points, and a frozen tile may
become clear. -/
def State.completeTag (s : State) (t tag : Nat) (c : Code) (loc : Nat) : State :=
  let off : BitVec 16 := ~~~(BitVec.ofNat 16 (2 ^ tag))
  let s := s.modTile t fun x =>
    let tags := x.pump.tags.map fun (k, o) => (k, Option.map (fun op : TagOp => { op with after := op.after &&& off }) o)
    { x with pump := { x.pump with tags := tags, notes := x.pump.notes &&& off,
                                   order := x.pump.order.filter (· != tag),
                                   misses := x.pump.misses.filter (·.tag != tag) } }
  let s := s.modTag t tag fun op => { op with status := some c, failLoc := BitVec.ofNat 64 loc }
  match s.slotOf t with
  | some slot => s.settleTile slot t
  | none => s

/-- Whether an operation has line requests that have not been answered. -/
def Tile.linesOut (x : Tile) (tag : Nat) : Bool :=
  (x.pump.own ++ x.pump.remote).any (fun z => z.tag == tag && z.hold.isNone) || x.pump.misses.any (·.tag == tag)

/-- PUMP_COMPLETE (R259, R268): every read has returned and every write is acknowledged; it lands with OK or its first error. -/
def execPumpComplete (t : TileIx) (tag : Fin 16) (s : State) : Act := occurs s <|
  let x := s.tile t.val
  needSome .noPumpOp (kget none x.pump.tags tag.val) fun op =>
    need .noPumpOp (op.status.isNone && (op.err.isSome || (op.done && op.sends.isEmpty)) && !x.linesOut tag.val) <|
      match op.err with
      | some (c, loc) => .next (s.completeTag t.val tag.val c loc)
      | none => .next (s.completeTag t.val tag.val kOk 0)

/-- PUMP_OWL_EXPIRY (R268, R271, R687): the operation completes with TIMEOUT, or with an error that it had met before. -/
def execPumpOwlExpiry (t : TileIx) (tag : Fin 16) (s : State) : Act := occurs s <|
  needSome .noPumpOp (kget none (s.tile t.val).pump.tags tag.val) fun op =>
    need .noPumpOp op.status.isNone <|
      let (c, loc) := op.err.getD (kTimeout, 0)
      .next ((s.pumpError t.val tag.val c loc).completeTag t.val tag.val c loc)

/-- PUMP_TAG_RESET (R687): a tag with line requests still out 10 µs after a TIMEOUT; the pump is reset at level 2. -/
def execPumpTagReset (t : TileIx) (tag : Fin 16) (s : State) : Act := occurs s <|
  needSome .noPumpOp (kget none (s.tile t.val).pump.tags tag.val) fun op =>
    need .noPumpOp (op.status.any (· != kOk) && (s.tile t.val).linesOut tag.val) <|
      .next (s.beginReset (.engine (.pump t.val)) kTimeout)

end Sys2Proof.Machine
end

