-- ==== Sys2Proof/Machine/Extents.lean ====
section
/-! DEFINITION. Machine/Extents.lean: extents, windows and host translation as commands (R318 to R350). -/

namespace Sys2Proof.Machine

open Sys2Proof

/-! ### Entries and checks (R321 to R324) -/

/-- Whether a slot's TDI is CONFIG_LOCKED or RUN (R483). -/
def State.tdiLocked (s : State) (slot : Nat) : Bool :=
  match kget .unlocked s.trust.tdis slot with
  | .locked | .run => true
  | _ => false

/-- Whether the lock of a slot's TDI refuses a requester: R483 names host-admin writes, and no other role's. -/
def State.tdiRefuses (s : State) (fe : FrontEnd) (slot : Nat) : Bool :=
  (match roleOf fe with | .hostAdmin => true | _ => false) && s.tdiLocked slot

/-- The entry in 32 bytes (R321); none where a reserved field is not zero, a field is misaligned, or the range leaves its space. -/
def parseExtent (bs : List Byte) : Option Extent :=
  let e0 := natAt bs 0 8
  let e1 := natAt bs 8 8
  let e2 := natAt bs 16 8
  let e3 := natAt bs 24 8
  let len := e1
  let kind := bitsOf e3 0 3
  let e : Extent := { vbase := e0, len := len, kind := kind, rd := e3.testBit 3, wr := e3.testBit 4, atom := e3.testBit 5,
                      win := bitsOf e3 32 12, tbase := e2 }
  if 2 ^ 56 ≤ e0 || e0 % 4096 != 0 || 2 ^ 56 ≤ len || len % 4096 != 0 || len == 0 || 2 ^ 56 < e0 + len ||
      e2 % 4096 != 0 || bitsOf e3 6 26 != 0 || bitsOf e3 44 20 != 0 || (kind != 4 && e.win != 0) then none
  else match kind with
    | 1 => if 2 ^ 41 < e2 + len then none else some e
    | 2 => if 2 ^ 42 ≤ e2 ∨ cisBytes < e2 % 2 ^ 37 + len then none else some e
    | 3 => if 2 ^ 64 < e2 + len ∨ e.atom then none else some e
    | 4 => if 2 ^ 56 < e2 + len then none else some e
    | _ => none

/-- Whether the target of an extent ends inside the space of its kind (R321). -/
def Extent.inSpace (e : Extent) : Bool :=
  match e.kind with
  | 1 => e.tbase + e.len ≤ 2 ^ 41
  | 2 => e.tbase % 2 ^ 37 + e.len ≤ cisBytes
  | 3 => e.tbase + e.len ≤ 2 ^ 64
  | _ => e.tbase + e.len ≤ 2 ^ 56

/-- Whether some of the ranges together cover a range. -/
def covered (rs : List (Nat × Nat)) : Nat → Nat → Nat → Bool
  | 0, _, n => n == 0
  | fuel + 1, a, n =>
    if n = 0 then true
    else match rs.find? fun (b, m) => b ≤ a && a < b + m with
      | some (b, m) => covered rs fuel (b + m) (n - (b + m - a))
      | none => false

/-- The well ranges a den holds (R385): its own shafts and its well holdings. -/
def Den.wellRanges (d : Den) : List (Nat × Nat) :=
  (d.rect.tiles.map fun t => (ownAddr t 0, 2 ^ 28)) ++
    (d.holdings.filter (·.kind == 1)).map fun h => (h.start, h.len)

/-- Whether a den holds the target of an extent (R324). -/
def State.holdsTarget (s : State) (slot : Nat) (e : Extent) : Bool :=
  let d := s.den slot
  match e.kind with
  | 1 => covered d.wellRanges (d.wellRanges.length + 1) e.tbase e.len
  | 2 =>
    let rs := (d.holdings.filter (·.kind == 2)).map fun h => (h.start, h.len)
    covered rs (rs.length + 1) e.tbase e.len
  | 4 => match s.window e.win with
    | some w => !w.inbound && w.slot == slot
    | none => false
  | _ => true

/-- Whether a reservoir range overlaps a fenced one (R307). -/
def State.overFence (s : State) (e : Extent) : Bool :=
  e.kind == 2 &&
    let c := s.cis (e.tbase / 2 ^ 37)
    (c.fenced ++ c.rebuilding).any fun r => overlaps r.start r.len (e.tbase % 2 ^ 37) e.len

/-- Whether a reservoir range overlaps a retired one, over which no extent is granted (R308; the code is DEDUCED, log entry 53). -/
def State.overRetired (s : State) (e : Extent) : Bool :=
  e.kind == 2 && (s.cis (e.tbase / 2 ^ 37)).retired.any fun r => overlaps r.start r.len (e.tbase % 2 ^ 37) e.len

/-- Whether the target of an extent overlaps a target of any den's extent, but for one entry (R324), or a removed range that is not
free yet (R337). -/
def State.targetTaken (s : State) (e : Extent) (except_ : Option (Nat × Nat)) : Bool :=
  let meets (x : Extent) : Bool := x.kind == e.kind && overlaps x.tbase x.len e.tbase e.len
  (e.kind == 1 || e.kind == 2) && s.dens.any fun (n, d) =>
    (d.extents.any fun x => except_ != some (n, x.vbase) && meets x) || d.invals.any fun v => meets v.removed

/-- The checks of a grant or a growth that follow the states (R324): `except_` is the entry that grows. -/
def State.checkEntry (s : State) (slot : Nat) (e : Extent) (except_ : Option Nat) : Option Code :=
  let others := (s.den slot).extents.filter fun x => except_ != some x.vbase
  if s.overFence e then some kConflict
  else if s.overRetired e then some kExtTarget
  else if others.any fun x => overlaps x.vbase x.len e.vbase e.len then some kExtOverlap
  else if s.targetTaken e (except_.map fun v => (slot, v)) then some kExtOverlap
  else if !s.holdsTarget slot e then some kExtTarget
  else if 512 ≤ others.length then some kNoResource
  else none

/-- The den states that take a grant (R334). -/
def grantPhase (d : Den) : Bool :=
  match d.phase with
  | .reserved | .loaded | .running | .frozen => true
  | _ => false

/-- The den states that take a shrink or a revoke (R334). -/
def revokePhase (d : Den) : Bool := grantPhase d || d.phase == .faulted

/-- An entry enters the directory, in VBASE order. -/
def State.addExtent (s : State) (slot : Nat) (e : Extent) : State :=
  s.modDen slot fun d => { d with
    extents := d.extents.filter (·.vbase < e.vbase) ++ [e] ++ d.extents.filter (e.vbase < ·.vbase) }

/-- The recipients of an invalidation (R335): the den's tiles and the engines of R328. -/
def Den.recipients (d : Den) : List Agent :=
  (d.rect.tiles.map fun t => .pump (Fin.ofNat 8192 t)) ++ ((List.range 32).map fun l => .engine (Fin.ofNat 32 l)) ++
    [.hostIf, .sett]

/-- A shrink or a revoke begins (R335): the directory has the new state, and the recipients are told. -/
def State.startInval (s : State) (slot : Nat) (old : Extent) (newLen : Nat) (resp : Option Nat) : State :=
  let d := s.den slot
  let es := if newLen = 0 then d.extents.filter (· != old)
    else d.extents.map fun e => if e = old then { e with len := newLen } else e
  let v : Inval := { old := old, newLen := newLen, left := d.recipients, seq := d.invalSeq, expect := d.recipients.length, resp := resp }
  let s := s.setDen slot { d with extents := es, invals := d.invals ++ [v], invalSeq := d.invalSeq + 1 }
  s.tellAll slot v.seq v.left

/-! ### Extent commands -/

/-- EXT_GRANT (R321 to R324, R334). -/
def execExtGrant (q : Req) (v : List Byte) (s : State) : Act := occurs s <|
  requestOf [(0x0C00, 0)] q v (fun _ s =>
    let slot := natAt v 0 1
    if natAt v 1 7 ≠ 0 then refuse kRange s
    else match parseExtent (v.drop 8) with
      | none => refuse kRange s
      | some e =>
        if !grantPhase (s.den slot) || s.tdiLocked slot then refuse kConflict s
        else match s.checkEntry slot e none with
          | some c => refuse c s
          | none => done (s.addExtent slot e)) s

/-- EXT_REVOKE (R334, R335): the response waits for the last report. -/
def execExtRevoke (q : Req) (v : List Byte) (s : State) : Act := occurs s <|
  requestOf [(0x0C00, 1)] q v (fun id s =>
    let slot := natAt v 0 1
    let base := natAt v 8 8
    let d := s.den slot
    if natAt v 1 7 ≠ 0 then refuse kRange s
    else if !revokePhase d || s.tdiLocked slot then refuse kConflict s
    else match d.extents.find? (·.vbase == base) with
      | none => refuse kExtNone s
      | some e => (.later, s.startInval slot e 0 (some id))) s

/-- EXT_RESIZE (R334, R335): a growth takes effect at once; a shrink waits for the last report; the present length changes nothing. -/
def execExtResize (q : Req) (v : List Byte) (s : State) : Act := occurs s <|
  requestOf [(0x0C00, 2)] q v (fun id s =>
    let slot := natAt v 0 1
    let base := natAt v 8 8
    let len := natAt v 16 8
    let d := s.den slot
    if natAt v 1 7 ≠ 0 ∨ len % 4096 ≠ 0 ∨ len = 0 ∨ 2 ^ 56 < base + len then refuse kRange s
    else match d.extents.find? (·.vbase == base) with
      | none => if revokePhase d && !s.tdiLocked slot then refuse kExtNone s else refuse kConflict s
      | some e =>
        if len ≤ e.len then
          if !revokePhase d || s.tdiLocked slot then refuse kConflict s
          else if len = e.len then done s
          else (.later, s.startInval slot e len (some id))
        else if !grantPhase d || s.tdiLocked slot then refuse kConflict s
        else
          let g := { e with len := len }
          if !g.inSpace then refuse kRange s
          else match s.checkEntry slot g (some base) with
            | some c => refuse c s
            | none => done (s.modDen slot fun d => { d with extents := d.extents.map fun x => if x = e then g else x })) s

/-- Whether an agent has accesses through an entry that have not completed (R335, R337). -/
def State.agentBusy (s : State) (who : Agent) (e : Extent) : Bool :=
  match who with
  | .pump t =>
    let x := s.tile t.val
    (x.pump.own ++ x.pump.remote).any fun z =>
      locKind z.loc.toNat == 2 && e.has (locAddr z.loc.toNat) && z.hold.isNone && z.via != .kept &&
        (match kget none x.pump.tags z.tag with | some op => op.status.isNone | none => false)
  | _ => false

/-- An agent drops an entry of a den from its cache (R335): whatever length it had when the agent's copy was filled. -/
def State.dropEntry (s : State) (who : Agent) (slot : Nat) (e : Extent) : State :=
  match who with
  | .pump t => s.modTile t.val fun x => { x with pump := { x.pump with cache := x.pump.cache.filter (·.vbase != e.vbase) } }
  | _ =>
    let k := engineOf who
    s.setEngCache k ((s.engCache k).filter fun (n, x) => !(n == slot && x.vbase == e.vbase))

/-- EXT_INVALIDATE (R335): the den's first invalidation that still awaits a recipient's report reaches it. It drops the entry at once,
and reports on VC0, now or when the command comes again, once every access it had translated through the entry has completed. -/
def execExtInvalidate (i : SlotIx) (who : Agent) (s : State) : Act := occurs s <|
  needSome .noSuch ((s.den i.val).invals.find? fun v => v.left.contains who) fun v =>
    let s := s.dropEntry who i.val v.old
    if s.agentBusy who v.old then .next s
    else
      let hit (w : Inval) : Bool := w.left.contains who
      let gone (w : Inval) : Inval := { w with left := w.left.filter (· != who) }
      .next ((s.modDen i.val fun d => { d with invals := updFirst hit gone d.invals }).reportInval i.val v.seq who)

/-- INVALIDATION_DONE (R335, R368): the last report of the first invalidation has arrived; it is counted (R350), and the write
that began it returns OK. -/
def execInvalidationDone (i : SlotIx) (s : State) : Act := occurs s <|
  match (s.den i.val).invals with
  | [] => .off .noSuch
  | v :: vs =>
    need .noSuch (v.left.isEmpty && v.got == v.expect) <|
      let s := (s.modDen i.val fun d => { d with invals := vs }).bump 0x0C00 4
      match v.resp with
      | some id => .next (s.answer id kOk)
      | none => .next s

/-! ### Host translation (R340 to R342) -/

/-- ATS_TRANSLATION (R340): a translation answers a request. An access waiting for a right that it does not grant ends with
HOST_XLATE; the others go on from their slots. -/
def execAtsTranslation (pasid : BitVec 20) (page : BitVec 64) (rd wr : Bool) (xlat : BitVec 64) (s : State) : Act := occurs s <|
  let mine (w : AtsWait) : Bool := w.pasid == pasid.toNat && w.page == page.toNat
  need .noSuch (s.host.atsWaits.any mine) <|
    let e : AtcEntry := { pasid := pasid.toNat, page := page.toNat, rd := rd, wr := wr, xlat := xlat.toNat }
    let h := { s.host with atsWaits := s.host.atsWaits.filter fun w => !mine w }
    let h := if rd || wr then { h with atc := (e :: h.atc).take 2048 } else h
    let s := { s with host := h }
    let stuck (t : Nat) (z : LineSlot) : Bool :=
      z.via == .kept && !(if z.kind = .read then rd else wr) && (match s.slotOf t with
        | some slot =>
          (s.den slot).pasid.toNat % 2 ^ 20 == pasid.toNat && (match (s.den slot).lookup (locAddr z.loc.toNat) with
            | some e => e.kind == 3 && (e.tbase + (locAddr z.loc.toNat - e.vbase)) / 4096 == page.toNat
            | none => false)
        | none => false)
    .next ((kkeys s.tiles).foldl (fun s t =>
      let bad := (s.tile t).pump.remote.filter (stuck t)
      let s := if bad.isEmpty then s else s.modTile t fun x =>
          { x with pump := { x.pump with remote := x.pump.remote.filter fun z => !stuck t z } }
      bad.foldl (fun s z => (s.bump 0x0C02 3).pumpError t z.tag kHostXlate z.loc.toNat) s) s)

/-- ATS_INVALIDATE (R342): the matching entries are used no longer. The Invalidate Completion goes out once every request already sent
under them has completed. -/
def execAtsInvalidate (pasid : BitVec 20) (base : BitVec 64) (len : Nat) (s : State) : Act := occurs s <|
  let hit (e : AtcEntry) : Bool := e.pasid == pasid.toNat && overlaps (4096 * e.page) 4096 base.toNat len
  let under (t : Nat) (z : LineSlot) : Bool := z.via == .host && z.hold.isNone && (match s.slotOf t with
    | some slot => (s.den slot).pasid.toNat % 2 ^ 20 == pasid.toNat && (match (s.den slot).lookup (locAddr z.loc.toNat) with
      | some e => e.kind == 3 && overlaps (e.tbase + (locAddr z.loc.toNat - e.vbase)) 64 base.toNat len
      | none => true)
    | none => false)
  let slots := s.tiles.flatMap fun (t, x) => (x.pump.remote.filter (under t)).map fun z => (t, z.tag, z.loc)
  let h : AtsHold := { pasid := pasid.toNat, base := base.toNat, slots := slots }
  let s := { s with host := { s.host with atc := s.host.atc.filter fun e => !hit e, atsHolds := s.host.atsHolds ++ [h] } }
  .next ((s.bump 0x0C02 2).settleAts)

/-! ### The window table (R343, R349) -/

/-- A window entry in 32 bytes (R343); none where a reserved field is not zero or a field is out of range. -/
def parseWindow (bs : List Byte) : Option WinEntry :=
  let w0 := natAt bs 0 8
  let w1 := natAt bs 8 8
  let base := natAt bs 16 8
  let len := natAt bs 24 8
  let inbound := w0.testBit 1
  if !w0.testBit 0 || bitsOf w0 4 4 != 0 || bitsOf w0 55 9 != 0 || bitsOf w1 32 32 != 0 || 2 ^ 56 ≤ base || base % 4096 != 0 ||
      2 ^ 56 ≤ len || len % 4096 != 0 || len == 0 || (inbound && bitsOf w0 40 12 != 0) || (!inbound && base != 0) ||
      (!inbound && w0.testBit 3) then none
  else some { inbound := inbound, opened := w0.testBit 2, anySrc := w0.testBit 3, slot := bitsOf w0 8 8, peer := bitsOf w0 16 24,
              rwin := bitsOf w0 40 12, rd := w0.testBit 52, wr := w0.testBit 53, atom := w0.testBit 54, job := bitsOf w1 0 32,
              base := base, len := len }

/-- Whether a requester may write an entry (R456): a fabric peer only one of its own job, of a slot of that job. -/
def State.mayOpen (s : State) (fe : FrontEnd) (v : List Byte) : Bool :=
  match roleOf fe with
  | .fabricPeer _ job => natAt v 16 4 == job && s.inJob (natAt v 9 1) job
  | _ => true

/-- Whether a requester may close an entry (R456). -/
def State.mayClose (s : State) (fe : FrontEnd) (i : Nat) : Bool :=
  match roleOf fe with
  | .fabricPeer _ job => (match s.window i with | some e => e.job == job | none => false)
  | _ => true

/-- WIN_OPEN (R343, R349, R423, R456, R483, R533). -/
def execWinOpen (q : Req) (v : List Byte) (s : State) : Act := occurs s <|
  need .otherRow (q.index.toNat == 0x0C01 && q.element.toNat == 0) <|
    let entry := parseWindow (v.drop 8)
    request q .write v (s.mayOpen q.fe v) (fun _ s =>
      let i := natAt v 0 2
      if 4096 ≤ i ∨ natAt v 2 6 ≠ 0 then refuse kRange s
      else match entry with
        | none => refuse kRange s
        | some e =>
          if (s.window i).isSome || s.tdiRefuses q.fe e.slot || !revokePhase (s.den e.slot) then refuse kConflict s
          else if (s.job e.job).isNone then refuse kJobNone s
          else done { s with wins := kput none s.wins i (some e) }) s

/-- WIN_CLOSE (R349, R423, R456, R483): OPEN and VALID are cleared; an entry that is not VALID stays so (log entry 51). -/
def execWinClose (q : Req) (v : List Byte) (s : State) : Act := occurs s <|
  need .otherRow (q.index.toNat == 0x0C01 && q.element.toNat == 1) <|
    let i := leNat v
    request q .write v (s.mayClose q.fe i) (fun _ s =>
      if 4096 ≤ i then refuse kRange s
      else match s.window i with
        | none => done s
        | some e => if s.tdiRefuses q.fe e.slot || !revokePhase (s.den e.slot) then refuse kConflict s else done { s with wins := kput none s.wins i none }) s

end Sys2Proof.Machine
end

