-- ==== Sys2Proof/Machine/Regulation.lean ====
section
/-! DEFINITION. Machine/Regulation.lean: the regulated controllers and the mesh as commands (R364 to R384, R433). -/

namespace Sys2Proof.Machine

open Sys2Proof

/-- A controller. -/
def State.ctl (s : State) (k : Nat) : Ctl := kget {} s.ctls k
/-- Set a controller. -/
def State.setCtl (s : State) (k : Nat) (x : Ctl) : State := { s with ctls := kput {} s.ctls k x }

/-- The largest balance of a controller, times 256 (R373). -/
def State.balLim (s : State) (k : Nat) : Int := 256 * s.reg (0x2100 + k) 6

/-- A balance held within its limits. -/
def clampBal (lim b : Int) : Int := max (-lim) (min lim b)

/-- A den's guarantee at a controller (R375). -/
def State.guar (s : State) (k slot : Nat) : Nat := kget 0 (s.den slot).guarantees k

/-- The sum of the guarantees at a controller over every slot (R375, R384). -/
def State.guarSum (s : State) (k : Nat) : Nat := (kkeys s.dens).foldl (fun n slot => n + s.guar k slot) 0

/-- Whether the waiting requests of the save and restore engine are for the den that it serves. -/
def oneSave (u : SlotUse) : Bool :=
  (u.rt ++ u.rtElsewhere).all fun m => match m with | .save n => u.served == some n | _ => true

/-- Whether a save request waits for a den at any port. -/
def saveWaits (u : SlotUse) (n : Nat) : Bool :=
  (u.rt ++ u.rtElsewhere).any fun m => match m with | .save k => k.val == n | _ => false

/-- The places of a controller's queue (R371). -/
def queueDepth (k : Nat) : Nat := if k < 16 then 48 else 256

/-- The units of the real-time account (R373): 256 less the guarantees of the RUNNING dens, but for the one being saved. -/
def State.rtUnits (s : State) (k : Nat) (served : Option Nat) : Nat :=
  256 - (kkeys s.dens).foldl (fun n slot =>
    if (s.den slot).phase = .running ∧ served ≠ some slot then n + s.guar k slot else n) 0

/-- What a slot is granted to. -/
inductive Grant where
  | den (slot : Nat) (held : Bool)
  | rt (m : RtMaster)
  | background
  | idle

/-- The order of the masters of the real-time account (R374). -/
def rtRank : RtMaster → Nat
  | .save _ => 0 | .sett => 1 | .repair => 2

/-- The first master in R374's order. -/
def firstRt : List RtMaster → Option RtMaster
  | [] => none
  | m :: l => match firstRt l with
    | some n => if rtRank n < rtRank m then some n else some m
    | none => some m

/-- The balance an account of a real-time master stands at: a save counts against its den (R372). -/
def rtBal (c : Ctl) : RtMaster → Int
  | .save n => kget 0 c.balance n.val
  | _ => c.rtBalance

/-- The grant of a slot (R374): `c` holds the balances of this slot. -/
def grantOf (c : Ctl) (u : SlotUse) : Grant :=
  let bal (n : SlotIx) : Int := kget 0 c.balance n.val
  match firstRt (u.rt.filter fun m => 0 < rtBal c m) with
  | some m => .rt m
  | none =>
    match u.dens.find? fun n => 0 < bal n with
    | some n => .den n.val false
    | none =>
      let waiting := u.dens.map (·.val) ++ (if u.rt.isEmpty then [] else [256])
      let next := match ((List.range 257).filter waiting.contains).find? (kget 0 c.turn u.port.val < ·) with
        | some n => some n
        | none => (List.range 257).find? waiting.contains
      match next with
      | some n => if n = 256 then (match firstRt u.rt with | some m => .rt m | none => .idle) else .den n true
      | none => if u.background then .background else .idle

/-- The class element of a grant (R383, R384). -/
def grantClass : Grant → Nat
  | .den _ _ => 0x09
  | .rt (.save _) => 0x0A
  | .rt .sett => 0x0B
  | .rt .repair => 0x0C
  | .background => 0x0D
  | .idle => 0x0F

/-- The balances of a slot after their rise (R373), all within the limits in force: at a well a request counts at whichever port it
waits. -/
def State.rise (s : State) (k : Nat) (u : SlotUse) : Ctl :=
  let c := s.ctl k
  let lim := s.balLim k
  let dens := u.dens ++ u.elsewhere
  let waits (n : Nat) : Bool := dens.any (·.val == n) || saveWaits u n
  let ids := ((kkeys s.dens) ++ kkeys c.balance ++ dens.map (·.val)).eraseDups
  let b := ids.foldl (fun m n =>
    let v := kget 0 m n
    kput 0 m n (clampBal lim (if waits n || v < 0 then v + s.guar k n else v))) c.balance
  let rt := if (u.rt ++ u.rtElsewhere).any (fun m => 0 < rtRank m) || c.rtBalance < 0
    then clampBal lim (c.rtBalance + s.rtUnits k (u.served.map (·.val))) else clampBal lim c.rtBalance
  { c with balance := b, rtBalance := rt }

/-- The hold of a response (R377): in ns, a multiple of 4; none while the queue is at most at QTH. -/
def State.holdFor (s : State) (k q : Nat) : Option Nat :=
  let qth := s.reg (0x2100 + k) 1
  if qth < q then some (ceilDiv (min (s.reg (0x2100 + k) 3) (s.reg (0x2100 + k) 2 * (q - qth))) 4 * 4) else none

/-- A slot goes to an account (R431): a den's, or for none the real-time one. Every other den with a request in the queue has been passed
by; the den served has not any longer, unless another request of it waits. -/
def passBy (u : SlotUse) (to_ : Option Nat) (c : Ctl) : Ctl :=
  let waiting := (u.dens ++ u.elsewhere).map (·.val)
  let others := waiting.filter fun n => some n != to_
  let again : Bool := match to_ with | some n => 2 ≤ (waiting.filter (· == n)).length | none => true
  { c with passed := ((c.passed.filter fun n => again || some n != to_) ++ others).eraseDups }

/-- REG_SLOT (R371 to R377, R382, R383, R431): one slot of a controller. A refresh takes it away; otherwise balances rise, one request is
granted, and its account pays. The grant sees the risen balances, and a den is held by the balance it was granted at
(DEDUCED, log entry 50). QLEVEL of a well is the largest level of its ports (DESIGN CHOICE, log entry 183). -/
def execRegSlot (k : CtlIx) (u : SlotUse) (s : State) : Act := occurs s <|
  need .badFact (u.level ≤ queueDepth k.val && oneSave u && (k.val < 16 || (u.port == 0 && u.elsewhere.isEmpty && u.rtElsewhere.isEmpty))) <|
  let test := s.reg 0x2300 0 = 1
  let s := s.setCtl k.val { s.ctl k.val with levels := kput 0 (s.ctl k.val).levels u.port.val u.level }
  let s := s.setReg (0x2100 + k.val) 0 ((s.ctl k.val).levels.foldl (fun m x => max m x.2) 0)
  if u.refresh then .next (if test then s.bump (0x2100 + k.val) 0x0E else s)
  else
    let c := s.rise k.val u
    let lim := s.balLim k.val
    let g := grantOf c u
    let full (n : SlotIx) : Bool := 0 < s.guar k.val n.val && kget 0 c.balance n.val == lim
    let c := if test then c else
      { c with slots := c.slots + 1,
               starved := ((u.dens ++ u.elsewhere).filter full).eraseDups.foldl (fun m n => kmod 0 m n.val (· + 1)) c.starved }
    let pay (n : Nat) (c : Ctl) : Ctl := { c with balance := kmod 0 c.balance n fun b => clampBal lim (b - 256) }
    let took (n : Nat) (c : Ctl) : Ctl := { c with turn := kput 0 c.turn u.port.val n }
    let charge (n : Nat) (s : State) : State := s.modDen n fun d => { d with slots := kmod 0 d.slots k.val bvInc }
    let s := if test then s.bump (0x2100 + k.val) (grantClass g) else s
    match g with
    | .den n held =>
      let mark : HoldMark := { den := n, ns := if held then (s.holdFor k.val u.level).getD 0 else 0, contended := c.passed.contains n }
      let c := passBy u (some n) (pay n (if held then took n c else c))
      let c := if mark.ns = 0 ∧ !mark.contended then c else { c with marks := c.marks ++ [mark] }
      .next (charge n (if mark.ns = 0 then s.setCtl k.val c else (s.setCtl k.val c).bump (0x2100 + k.val) 7))
    | .rt m =>
      let c := if 0 < rtBal c m then c else took 256 c
      match m with
      | .save n => .next (charge n.val (s.setCtl k.val (passBy u (some n.val) (pay n.val c))))
      | _ => .next (s.setCtl k.val (passBy u none { c with rtBalance := clampBal lim (c.rtBalance - 256) }))
    | _ => .next (s.setCtl k.val c)

/-- MON_WINDOW_END (R382): a den whose balance stood at its limit, a request waiting, in more than MISS_THRESH of 256 slots has
missed its guarantee; frozen time counts toward no slow-down window (R433). -/
def execMonWindowEnd (k : CtlIx) (s : State) : Act := occurs s <|
  need .chipPhase (s.reg 0x2300 0 == 0) <|
    let c := s.ctl k.val
    let missed := (c.starved.filter fun (_, n) => s.reg 0x2300 2 * c.slots < 256 * n).map (·.1)
    let s := s.setCtl k.val { c with slots := 0, starved := [] }
    .next (missed.foldl (fun s n =>
      ((s.bump (0x2100 + k.val) 8).modDen n fun d =>
        { d with misses := bvInc d.misses, winMisses := if d.phase = .running then d.winMisses + 1 else d.winMisses }).raise (1026 + n)) s)

/-- SDI_WINDOW_END (R433): SDI_WIN bundles have been issued by the origin. -/
def execSdiWindowEnd (i : SlotIx) (s : State) : Act := occurs s <|
  let d := s.den i.val
  need .denPhase (d.phase != .free && d.sdiWin.toNat ≤ d.winBundles && d.winBundles != 0) <|
    let sdi := min 0xFFFFFFFF (65536 * d.winAttr / d.sdiWin.toNat)
    let s := s.setDen i.val { d with
      sdi := BitVec.ofNat 32 sdi, sdiMisses := BitVec.ofNat 32 d.winMisses, winBundles := 0, winAttr := 0, winMisses := 0 }
    .next (if (d.sdiThresh ≠ 0 ∧ d.sdiThresh.toNat ≤ sdi) ∨ (d.sdiMissEn ∧ d.winMisses ≠ 0) then s.raise (1282 + i.val) else s)

end Sys2Proof.Machine
end

