-- ==== Sys2Proof/Machine/Slips.lean ====
section
/-! DEFINITION. Machine/Slips.lean: relay arrivals, slips and the seam as commands (R55, R78 to R96, R194, R199, R209 to
R212). -/

namespace Sys2Proof.Machine

open Sys2Proof

/-- Remove the first signal to a tile from a side that meets a test, and answer it. -/
def State.takeSignal (s : State) (slot t : Nat) (came : Dir) (p : WaveSig → Bool) : Option (Signal × State) :=
  let hit (g : Signal) : Bool := g.dest == t && g.came == came && p g.sig
  ((s.den slot).wave.signals.find? hit).map fun g =>
    (g, s.modDen slot fun d => { d with wave := { d.wave with signals := dropFirst hit d.wave.signals } })

/-- Whether a value is the next to arrive in a latch of a tile: of those on their way to it, the one ready first (R55). -/
def nextIn (w : Wave) (t : Nat) (d : Dir) (v : RelayVal) : Bool :=
  v.dest == t && v.latch == d && w.transit.all fun u => !(u.dest == t && u.latch == d) || v.ready ≤ u.ready

/-- RELAY_ARRIVAL (R55, R190, R194, R199): the next value on its way to a latch arrives, once the tile has come to the
bundle before which it is ready or is frozen. A full queue is a RELAY_OVERFLOW; a fenced tile's values are discarded. -/
def execRelayArrival (t : TileIx) (d : Dir) (s : State) : Act := occurs s <|
  needSome .noDen (s.slotOf t.val) fun slot =>
    let den := s.den slot
    let x := s.tile t.val
    let hit := nextIn den.wave t.val d
    needSome .nothingArrives (den.wave.transit.find? hit) fun v =>
      need .waveOrder (v.ready ≤ x.bundle || x.frozen.isSome || x.phase != .running) <|
        let s := s.modDen slot fun d => { d with wave := { d.wave with transit := dropFirst hit d.wave.transit } }
        if x.fenced then .next s
        else
          let q := kget [] x.latches (dirIx d)
          if 4 ≤ q.length then .next (s.tileFault slot t.val 0x0503 (x.present den t.val))
          else .next (s.setTile t.val { x with latches := kput [] x.latches (dirIx d) (q ++ [{ val := v.val }]) })

/-- FREEZE_SIGNAL (R79, R87): the tile withholds the bundle of that cycle and passes the signal on; a tile that is frozen
ignores it, and one that counts down to its held bundle abandons the countdown. A resume signal on its way to the tile comes first. -/
def execFreezeSignal (t : TileIx) (came : Dir) (s : State) : Act := occurs s <|
  needSome .noDen (s.slotOf t.val) fun slot =>
    needSome .nothingArrives (s.takeSignal slot t.val came (· == .freeze)) fun (g, s') =>
      let x := s.tile t.val
      let d := s.den slot
      need .waveOrder (!(d.wave.toResume.contains t.val)) <|
        if x.frozen.any fun f => !f.resumed then .next s'
        else need .waveOrder (x.phase != .running || g.at' ≤ d.cycle t.val x) <|
          let s' := s'.freezeTile slot t.val none g.at' (some came)
          .next ((s'.settleTile slot t.val).settleAcross slot t.val)

/-- CLEAR_REPORT (R81, R82): a report from the east or the south; once clear itself, the tile reports onward. -/
def execClearReport (t : TileIx) (came : Dir) (s : State) : Act := occurs s <|
  needSome .noDen (s.slotOf t.val) fun slot =>
    needSome .nothingArrives
      (s.takeSignal slot t.val came fun g => match g with | .clear => true | .error _ _ _ => true | _ => false)
      fun (g, s') =>
        needSome .notFrozen (s.tile t.val).frozen fun f =>
          match g.sig with
          | .error c src tag => .next (if f.reported then s' else s'.reportError slot t.val c src tag)
          | _ =>
            let f := if came = .east then { f with east := some g.at' } else { f with south := some g.at' }
            .next ((s'.modTile t.val fun x => { x with frozen := some f }).settleTile slot t.val)

/-- The first source of a slip (R95): the one whose freeze reaches the origin first, then the smaller column, then row. -/
def firstSource : List SlipSource → Option SlipSource
  | [] => none
  | a :: as => match firstSource as with
    | none => some a
    | some b =>
      let key (x : SlipSource) : Nat := x.reach * 2 ^ 16 + colOf x.tile * 2 ^ 8 + rowOf x.tile
      if key a ≤ key b then some a else some b

/-- The cause of a slip source (R95): that of its operation, as far as its accesses have shown it by now. -/
def State.sourceCause (s : State) (slot : Nat) (a : SlipSource) : Nat :=
  if a.cause = 5 ∨ a.cause = 6 then a.cause
  else match kget none (s.tile a.tile).pump.tags a.tag with
    | some op => max a.cause (s.opCause slot a.tile op)
    | none => a.cause

/-- A counter of 64 bits from which `old` cycles are taken again and to which `l` are added; it stops at its last value (log entry
12). -/
def slipAdd (old l : Nat) (c : BitVec 64) : BitVec 64 := BitVec.ofNat 64 (satAdd 64 (c.toNat - old) l)

/-- The counters of a slip of some sources and length `l` (R93 to R96, R204, R432). `old` is the length under which it has been
counted already, where the owl ends it after its resume signal has left. -/
def State.recordSlip (s : State) (slot : Nat) (sources : List SlipSource) (l : Nat) (old : Option Nat := none) : State :=
  let d := s.den slot
  match firstSource sources with
  | none => s
  | some a =>
    let cause := s.sourceCause slot a
    let multi := 1 < sources.length
    let last := colOf a.tile + rowOf a.tile * 2 ^ 7 + cause * 2 ^ 16 + (if multi then 2 ^ 19 else 0) + a.tag * 2 ^ 20 +
      min l 0xFFFFFFFF * 2 ^ 32
    let awaited := kget none (s.tile a.tile).pump.tags a.tag
    let other := cause != 5 && cause != 6 && awaited.any (·.contended)
    let once := if old.isSome then 0 else 1
    let was := old.getD 0
    let add (m : KMap (BitVec 64)) : KMap (BitVec 64) := kmod 0 m cause (slipAdd was l)
    let seam := if cause = 5 ∨ cause = 6 then { s.seam with slipCnt := slipAdd 0 once s.seam.slipCnt } else s.seam
    State.setDen { s with seam := seam } slot
      { d with slipCyc := slipAdd was l d.slipCyc, slipCnt := slipAdd 0 once d.slipCnt, slipLast := BitVec.ofNat 64 last,
               slipLastB := BitVec.ofNat 64 (a.bundle % 2 ^ 48), causes := add d.causes,
               attr := if other then add d.attr else d.attr, winAttr := if other then d.winAttr - was + l else d.winAttr }

/-- The resume signal leaves the origin (R83, R411): every signal of the slip is spent, and the signal is on its way to every other
frozen tile. `ended` tells the slip that it ends, if any. -/
def State.sendResume (s : State) (slot : Nat) (ended : List SlipSource × Nat := ([], 0)) : State :=
  let d := s.den slot
  let o := d.rect.origin
  let w := { d.wave with ended := ended, signals := [], sources := [], freezeAt := none, clearAt := none,
                         toResume := d.rect.tiles.filter fun t => t != o && (s.tile t).frozen.isSome }
  let s := s.setDen slot { d with wave := { w with resuming := true, stopping := false } }
  s.modTile o fun x => { x with frozen := x.frozen.map fun f => { f with resumed := true } }

/-- The banks of a den's tiles that wake, after some cycles in which no bundle issued (R60). -/
def State.wakeBanks (s : State) (slot n : Nat) : State :=
  let d := s.den slot
  { s with tiles := s.tiles.map fun (t, x) => (t, if d.rect.has t then x.bankCycles n else x) }

/-- RESUME_SIGNAL_SEND (R83, R85): the origin, clear `waited` cycles after the freeze reached it, sends the resume signal;
the slip's length is 2K + (R − F), and Z rises by it (R84). -/
def execResumeSignalSend (i : SlotIx) (waited : Nat) (s : State) : Act := occurs s <|
  let d := s.den i.val
  need .denPhase (d.phase == .running && !d.wave.stopping && !d.wave.sources.isEmpty) <|
    needSome .notClear d.wave.clearAt fun r =>
      needSome .notClear d.wave.freezeAt fun f =>
        need .notClear (r ≤ f + waited) <|
          let l := 2 * d.rect.span + waited
          let s := s.recordSlip i.val d.wave.sources l
          let s := s.modDen i.val fun d => { d with wave := { d.wave with z := d.wave.z + l } }
          .next ((s.sendResume i.val (d.wave.sources, l)).wakeBanks i.val l)

/-- RESUME_SIGNAL (R83, R84): it comes with the wave, from a west or north neighbour that has it. -/
def execResumeSignal (t : TileIx) (s : State) : Act := occurs s <|
  needSome .noDen (s.slotOf t.val) fun slot =>
    let d := s.den slot
    let x := s.tile t.val
    needSome .notFrozen x.frozen fun f =>
      let from_ (dir : Dir) : Bool := match d.rect.next t.val dir with
        | some n => !(d.wave.toResume.contains n)
        | none => false
      need .nothingArrives (d.wave.toResume.contains t.val && !f.resumed && (from_ .west || from_ .north)) <|
        let s := s.modDen slot fun d => { d with wave := { d.wave with toResume := d.wave.toResume.erase t.val } }
        .next (s.setTile t.val { x with frozen := some { f with resumed := true } })

/-- RESUME_COUNTDOWN_EXPIRY (R84, R85, R193): the tile issues its held bundle again; the wave's resume is over once every tile
has done so. Before the first tile of the den does, every relay value in transit has landed. -/
def execResumeCountdownExpiry (t : TileIx) (s : State) : Act := occurs s <|
  needSome .noDen (s.slotOf t.val) fun slot =>
    let d := s.den slot
    let x := s.tile t.val
    needSome .notFrozen x.frozen fun f =>
      need .waveOrder (f.resumed && (d.wave.transit.isEmpty || d.rect.tiles.any fun n => (s.tile n).frozen.isNone)) <|
        let s := s.setTile t.val { x with frozen := none }
        .next (if d.rect.tiles.all fun n => (s.tile n).frozen.isNone then
            s.modDen slot fun d => { d with wave := { d.wave with resuming := false } }
          else s)

/-- STREAM_OWL_EXPIRY (R89, R96): a slip has frozen tiles of the den for `frozen` cycles; it is recorded with that length, and the
den becomes FAULTED with TIMEOUT. A slip whose resume signal has not reached every tile is corrected to that length. DEN_SLIP_CYC is
Z (R93), so Z rises with it (DEDUCED, log entry 172). -/
def execStreamOwlExpiry (i : SlotIx) (frozen : Nat) (s : State) : Act := occurs s <|
  let d := s.den i.val
  let still := d.rect.tiles.any fun t => (s.tile t).frozen.any fun f => !f.resumed
  need .denPhase (d.phase == .running && !d.wave.stopping && still && !(d.wave.sources.isEmpty && d.wave.ended.1.isEmpty)) <|
    let (s, was) := if d.wave.sources.isEmpty then (s.recordSlip i.val d.wave.ended.1 frozen (some d.wave.ended.2), d.wave.ended.2)
      else (s.recordSlip i.val d.wave.sources frozen, 0)
    let s := s.modDen i.val fun d => { d with wave := { d.wave with z := d.wave.z - was + frozen } }
    .next (s.denFault i.val 0x000C)

/-- The tick exchange gives P (R210, R216): D follows it, and DPEAK keeps the largest |D|. -/
def Seam.measure (m : Seam) (p : Rat) : Seam :=
  let m := { m with p := p }
  { m with dpeak := min 255 (max m.dpeak m.d.natAbs) }

/-- The seam follow engages on the half that leads (R211, R214). -/
def Seam.engage (m : Seam) : Seam :=
  { m with stretched := some (if 0 < m.p then .east else .west), followCnt := BitVec.ofNat 64 (satAdd 64 m.followCnt.toNat 1) }

/-- SEAM_FOLLOW_ENGAGE (R210 to R213, R216): the tick exchange, which runs whatever dens run, gives the exact P. With FOLLOW on, no
stretch applied and |P| at a whole cycle or more the follow engages and stretches the half that leads; |D| never passes 2 while
FOLLOW is on (R212). Without the follow P drifts freely. -/
def execSeamFollowEngage (p : Rat) (s : State) : Act := occurs s <|
  let m := s.seam.measure p
  need .chipPhase m.trained <| need .badFact (!m.follow || m.d.natAbs ≤ 2) <|
    need .badFact (match m.stretched with | some .east => decide (0 < p) | some .west => decide (p < 0) | none => true) <|
    .next { s with seam := if m.follow && m.stretched.isNone && m.d != 0 then m.engage else m }

/-- SEAM_FOLLOW_RELEASE (R211, R214): the exact P has returned to zero after some cycles of stretch. What a write of FOLLOW to 0 does
to a stretch in force the spec leaves open: it stays until P is zero (DEDUCED, log entry 111). -/
def execSeamFollowRelease (cycles : Nat) (s : State) : Act := occurs s <|
  let m := s.seam
  needSome .chipPhase m.stretched fun _ =>
    .next { s with seam := { m with p := 0, stretched := none,
                                    followCyc := BitVec.ofNat 64 (satAdd 64 m.followCyc.toNat cycles) } }

/-- One crossing that trains with failing wires (R209): spares replace up to 8 of a relay crossing and 4 of a mesh crossing;
with more the row's crossing is out of service. -/
def seamFail (m : Seam) (f : SeamFail) : Seam :=
  let key := 4 * f.row.val + (if f.relay then 0 else 2) + (if f.eastward then 0 else 1)
  let spares := if f.relay then 8 else 4
  let off : BitVec 64 := ~~~(BitVec.ofNat 64 (2 ^ f.row.val))
  if f.wires ≤ spares then { m with sparesUsed := kput 0 m.sparesUsed key f.wires }
  else if f.relay then { m with sparesUsed := kput 0 m.sparesUsed key spares, off := m.off ++ [key], relayUp := m.relayUp &&& off }
  else { m with sparesUsed := kput 0 m.sparesUsed key spares, off := m.off ++ [key], meshUp := m.meshUp &&& off }

/-- Every crossing is trained again, P is set to zero, and the FIFOs are empty (R209, R210). SEAM_RELAY_UP and SEAM_MESH_UP are the
record of a crossing taken out of service (R713). -/
def Seam.train (m : Seam) (fails : List SeamFail) : Seam :=
  fails.foldl seamFail { m with fifos := [], p := 0, dpeak := 0, stretched := none, relayUp := BitVec.allOnes 64,
                                meshUp := BitVec.allOnes 64, sparesUsed := [], off := [], trained := true }

/-- SEAM_TRAINING (R209, R710 step 5): the seam is trained in the bring-up, beside the wells and before the cisterns. The training of a
half reset is part of RETURN_TO_SERVICE. -/
def execSeamTraining (fails : List SeamFail) (s : State) : Act := occurs s <|
  need .chipPhase ((s.chip.phase == .boot 2 || s.chip.phase == .boot 3) && !s.seam.trained) <|
    .next { s with seam := s.seam.train fails }

end Sys2Proof.Machine
end

