-- ==== Sys2Proof/Machine/DenOps.lean ====
section
/-! DEFINITION. Machine/DenOps.lean: what the den commands share (chapter 10): held ranges, placement, stopping and resuming the
wave, bringing tiles up and down, and the change frames of the Meter. -/

namespace Sys2Proof.Machine

open Sys2Proof

/-! ### Codes (R437) -/

/-- PLACE_OCCUPIED (R437). -/
abbrev kPlaceOccupied : Code := 0x0A10
/-- PLACE_REPAIR (R437). -/
abbrev kPlaceRepair : Code := 0x0A11
/-- PLACE_SEAM (R437). -/
abbrev kPlaceSeam : Code := 0x0A12
/-- PLACE_RANGE (R437). -/
abbrev kPlaceRange : Code := 0x0A13
/-- SAVE_AREA (R437). -/
abbrev kSaveArea : Code := 0x0A20
/-- SAVE_MISMATCH (R437). -/
abbrev kSaveMismatch : Code := 0x0A21
/-- RELOC_OVERLAP (R437). -/
abbrev kRelocOverlap : Code := 0x0A22
/-- NOT_AT_RESHAPE (R437). -/
abbrev kNotAtReshape : Code := 0x0A24
/-- DEN_FAULTED (R437). -/
abbrev kDenFaulted : Code := 0x0A25
/-- CMD_CANCELLED (R437). -/
abbrev kCmdCancelled : Code := 0x0A26
/-- RELOC_EXTENT (R437). -/
abbrev kRelocExtent : Code := 0x0A27
/-- BATCH_REFUSED (R437). -/
abbrev kBatchRefused : Code := 0x0A30

/-- The number of a state (R434). -/
def DenPhase.code : DenPhase → Nat
  | .free => 0 | .reserved => 1 | .loaded => 2 | .running => 3 | .frozen => 4 | .faulted => 5 | .draining => 6
  | .scrubbing => 7

/-! ### RECT (R386) -/

/-- RECT of a rectangle. -/
def Rect.word (q : Rect) : Nat := q.bc + 2 ^ 8 * q.br + 2 ^ 16 * q.w + 2 ^ 24 * q.h

/-- The rectangle that a RECT names; none where a reserved field is not zero. -/
def parseRect (v : Nat) : Option Rect :=
  let q : Rect := { bc := bitsOf v 0 5, br := bitsOf v 8 4, w := bitsOf v 16 6, h := bitsOf v 24 5 }
  if v = q.word then some q else none

/-- The wave after a move: tile numbers go with their tiles (R420). -/
def Wave.moved (w : Wave) (a b : Rect) : Wave :=
  { w with lanes := w.lanes.map fun l => { l with tile := a.moved b l.tile },
           crossing := w.crossing.map fun c => { c with row := c.row - 4 * a.br + 4 * b.br } }

/-! ### Held ranges (R385, R387, R389, R430) -/

/-- The well range of a tile's own shaft (R388). -/
def shaftRange (t : Nat) : PRange := { kind := 1, start := ownAddr t 0, len := 2 ^ 28 }

/-- The range of a scrub. -/
def ScrubUnit.prange : ScrubUnit → PRange
  | .shaft t => shaftRange t
  | .range r => r

/-- Whether two ranges of one kind overlap. -/
def PRange.meets (a b : PRange) : Bool := a.kind == b.kind && overlaps a.start a.len b.start b.len

/-- Whether a slot holds its rectangle and holdings. -/
def Den.holdsAll (d : Den) : Bool := d.phase != .free && d.phase != .scrubbing

/-- The tiles that a RELOCATE under way moves to (R420). -/
def Den.movingTiles (d : Den) : List Nat := match d.moving with | some m => m.dest.tiles | none => []

/-- Whether a range meets a holding or an own shaft of any slot but one, or a scrub (R387, R389). -/
def State.occupied (s : State) (r : PRange) (skip : Option Nat) : Bool :=
  s.dens.any fun (n, d) =>
    (d.scrubs.any fun u => u.prange.meets r) ||
      (d.holdsAll && skip != some n && ((d.holdings.any (·.meets r)) || (d.rect.tiles ++ d.movingTiles).any fun t => (shaftRange t).meets r))

/-- Whether a tile's shaft is lost (R277). -/
def State.shaftLost (s : State) (t : Nat) : Bool := (s.well (wellOf t)).lost.contains (shaftOf t)

/-- Whether a tile's router is unreachable (R363). -/
def State.unreachable (s : State) (t : Nat) : Bool :=
  match s.repair.placeOf t with
  | some p => s.repair.unreachable.any fun x => x.1 == p && x.2.1 == rowOf t
  | none => true

/-- R71: a seam column stands where logical column 64 is; a shape with none lies in one half. -/
def seamFits (q : Rect) (col : Nat) : Bool := if col = 0xFF then !q.astride else q.astride && 4 * q.bc + col == 64

/-- Whether a row of the rectangle has its relay crossing out of service (R209). -/
def State.crossingOff (s : State) (q : Rect) : Bool :=
  q.astride && (List.range (4 * q.h)).any fun i => !s.seam.relayUp.getLsbD (4 * q.br + i)

/-- The placement checks of R387; `skip` is the slot itself at RELOCATE and RESHAPE, `seam` the column that must fit. -/
def State.placeCheck (s : State) (q : Rect) (skip : Option Nat) (seam : Option Nat) : Option Code :=
  if q.w = 0 ∨ q.h = 0 ∨ 32 < q.bc + q.w ∨ 16 < q.br + q.h then some kPlaceRange
  else if q.tiles.any fun t => s.occupied (shaftRange t) skip then some kPlaceOccupied
  else if (q.tiles.any fun t => s.shaftLost t || s.unreachable t || s.tileBad t) || s.crossingOff q then some kPlaceRepair
  else match seam with
    | some col => if seamFits q col then none else some kPlaceSeam
    | none => none

/-! ### The Meter's change frames (R629, R630) -/

/-- The blocks whose own scrub has not ended and that the rectangle no longer holds. -/
def Den.scrubBlocks (d : Den) : Nat :=
  let b := d.scrubs.filterMap fun u => match u with
    | .shaft t => if d.holdsAll && d.rect.has t then none else some (colOf t / 4, rowOf t / 4)
    | .range _ => none
  b.eraseDups.length

/-- MiB of the ranges of a kind. -/
def mibOf (kind : Nat) (l : List PRange) : Nat := (l.filter (·.kind == kind)).foldl (fun n r => n + r.len) 0 / 2 ^ 20

/-- The resource vector of a slot (R630). -/
def Den.vector (d : Den) : MVec :=
  let guar := d.guarantees.foldl (fun n (g : Nat × Nat) => n + g.2) 0
  let links := d.linkBudget.foldl (fun n (g : Nat × Nat) => n + g.2) 0
  match d.phase with
  | .free => {}
  | .scrubbing =>
    let rs := d.scrubs.map ScrubUnit.prange
    { tiles := 16 * d.scrubBlocks, well := mibOf 1 rs, res := mibOf 2 rs }
  | _ =>
    { tiles := 16 * (d.rect.w * d.rect.h + d.scrubBlocks), well := 256 * (16 * d.rect.w * d.rect.h) + mibOf 1 d.holdings,
      res := mibOf 2 d.holdings, guar := guar, links := links }

/-- The change frame of a slot as it stands (R630). -/
def State.changeOf (s : State) (slot : Nat) : Change :=
  let d := s.den slot
  { slot := slot, vec := d.vector, owner := kget 0 s.host.owners slot, pasid := d.pasid.toNat, state := d.phase.code }

/-- A change of a slot's resource vector goes to the Meter; while the link is lost it enters the gap record (R629, R639). -/
def State.noteChange (s : State) (slot : Nat) : State :=
  let c := s.changeOf slot
  let m := s.meter
  if kget {} m.noted slot = c.vec then s
  else
    let m := { m with noted := kput {} m.noted slot c.vec }
    { s with meter := if m.up then { m with frames := m.frames ++ [c] } else { m with gapChanges := m.gapChanges + 1 } }

/-! ### Commands in flight -/

/-- The states that accept an operation (R395). -/
def cmdStates : Nat → List DenPhase
  | 1 => [.free]
  | 2 => [.reserved]
  | 3 => [.loaded]
  | 4 => [.running]
  | 5 => [.frozen]
  | 6 => [.frozen, .faulted]
  | 7 => [.reserved, .loaded, .frozen, .faulted]
  | 8 => [.frozen]
  | 9 => [.frozen]
  | 10 => [.reserved, .loaded, .running, .frozen, .faulted]
  | _ => [.frozen, .faulted]

/-- The work of a den command. A den that has become FAULTED while a command that FAULTED does not accept is in flight ends it with
DEN_FAULTED, as R410 has it of FREEZE (DEDUCED, log entry 86). -/
def denWork (op slot : Nat) (s : State) (k : DenCmd → Den → Out State) : Out State :=
  needSome .noCommand ((s.den slot).working op) fun c =>
    let d := s.den slot
    if d.phase = .faulted && !(cmdStates op).contains .faulted then .next (s.cmdResult slot kDenFaulted) else k c d

/-! ### The wave -/

/-- The slip in progress, if any, ends where the freeze message finds it, and counts once (R411): `ran` den cycles after its
freeze reached the origin. -/
def State.cutSlip (s : State) (slot ran : Nat) : State :=
  let d := s.den slot
  if d.wave.sources.isEmpty then s
  else
    let l := if d.wave.freezeAt.isSome then ran else 0
    let s := s.recordSlip slot d.wave.sources l
    s.modDen slot fun d =>
      let left := d.wave.signals.filter fun g => match g.sig with | .freeze => true | _ => false
      { d with wave := { d.wave with z := d.wave.z + l, sources := [], freezeAt := none, clearAt := none, signals := left } }

/-- A freeze message reaches the origin (R407, R78, R87, R88): it becomes a freeze source with no awaited result. -/
def State.stopWave (s : State) (slot ran : Nat) : State :=
  let s := s.cutSlip slot ran
  let d := s.den slot
  let s := s.modDen slot fun d => { d with wave := { d.wave with stopping := true, resumeSent := d.wave.resuming,
                                                                  resuming := false } }
  let o := d.rect.origin
  let x := s.tile o
  let runs := match x.frozen with | none => true | some f => f.resumed
  if d.stepActive && runs then s.freezeTile slot o none (d.cycle o x) none else s

/-- Whether every tile of a den stands (R408, R409). -/
def State.allStill (s : State) (slot : Nat) : Bool :=
  let d := s.den slot
  d.wave.transit.isEmpty && d.rect.tiles.all fun t => let x := s.tile t; x.frozen.isSome || x.phase == .stopped

/-- Whether the pumps and windows of a den have nothing under way (R408): every accepted operation has completed and every
outbound transaction has ended. -/
def State.denQuiet (s : State) (slot : Nat) : Bool :=
  ((s.den slot).rect.tiles.all fun t => (s.tile t).pump.tags.all fun (_, o) => match o with
    | some op => op.status.isSome
    | none => true) &&
    !(s.fab.links.any fun (_, x) => x.txs.any fun t => t.slot == slot)

/-- The extent caches of a den are emptied (R329). -/
def State.emptyCaches (s : State) (slot : Nat) : State :=
  let s := (s.den slot).rect.tiles.foldl (fun s t => s.modTile t fun x => { x with pump := { x.pump with cache := [] } }) s
  { s with fab := { s.fab with caches := s.fab.caches.foldl (fun m (e, l) => kput [] m e (l.filter (·.1 != slot))) [] } }

/-- The seam FIFOs of a rectangle's rows. -/
def Rect.fifoKeys (q : Rect) : List Nat :=
  if q.astride then (List.range (8 * q.h)).map fun i => 8 * q.br + i else []

/-- Whether a step is over (R405): every tile has stopped, and its report has arrived. -/
def State.stepOver (s : State) (slot : Nat) : Bool :=
  let d := s.den slot
  d.stepActive && d.stops == d.rect.tiles.length && d.rect.tiles.all fun t => (s.tile t).phase == .stopped

/-- The present step of a den ends (R203, R405, R406): the seam's slots left over are discarded and counted, STEP_FLAGS is the OR
over the tiles (R160), and the entry of its queue carries the count. -/
def State.endStep (s : State) (slot : Nat) : State :=
  let d := s.den slot
  let left := d.rect.fifoKeys.foldl (fun n k => n + (kget [] s.seam.fifos k).length) 0
  let fifos := d.rect.fifoKeys.foldl (fun m k => kput [] m k []) s.seam.fifos
  let s := { s with seam := { s.seam with fifos := fifos,
                                          discardCnt := BitVec.ofNat 64 (satAdd 64 s.seam.discardCnt.toNat left) } }
  let flags := s.mstatOr slot
  let count := bvInc d.stepCount
  let ready := d.image.reshape.any fun (h, ix) => h + 1 == d.nextAddr && ix == d.shape
  let w := { d.wave with votes := [], throttles := [], crossing := [] }
  let d := { d with stepActive := false, stepQueue := none, stepCount := count, reshapeReady := ready, wave := w,
                    stepFlags := flags }
  let q := (s.den slot).stepQueue
  let s := s.setDen slot d
  match q with
  | some q => s.setCur q (.done kOk d.stepFlags 0 0 count)
  | none => s

/-! ### Tiles -/

/-- Every bank on and readable; one that was off reads as zero (R60, R62). -/
def Tile.banksOn (x : Tile) : Tile :=
  let x := x.flush
  let x := (List.range 16).foldl (fun (x : Tile) b => if (kget {} x.banks b).mode = .off then x.dropBank b else x) x
  { x with banks := (List.range 16).foldl (fun m b => kput {} m b { mode := .on }) x.banks }

/-- A tile of a released slot (R430, R620): banks and instruction store off, everything else at reset but its fence and the
errors counted of it. -/
def Tile.cleared (x : Tile) : Tile := { fenced := x.fenced, errs := x.errs }

/-- A tile as LOAD leaves it before streams and data (R403): banks on, registers and accumulators at zero. -/
def Tile.fresh (x : Tile) : Tile :=
  let y := x.banksOn
  { spad := y.spad, banks := y.banks, fenced := x.fenced, errs := x.errs }

/-- Zeros over a tile's own shaft. -/
def State.zeroShaft (s : State) (t : Nat) : State :=
  let w := wellOf t
  let x := s.well w
  s.setWell w { x with data := kclear x.data (2 ^ 28 * shaftOf t) (2 ^ 28), bad := kclear x.bad (2 ^ 22 * shaftOf t) (2 ^ 22) }

/-- What meets a line of a physical area, named in the form of an EXTENT: the kind in [63:62], the line's address below. -/
def areaMeet (ms : List LineMeet) (kind a : Nat) : LineMeet :=
  (ms.find? fun m => m.loc.toNat == 2 ^ 62 * kind + (a - a % 64)).getD { loc := 0 }

/-- One access to a line of the wells (kind 1) or the reservoir (kind 2). -/
def State.areaLine (s : State) (ms : List LineMeet) (kind a : Nat) (k : Access) : Code × List Byte × State :=
  let m := areaMeet ms kind a
  if kind = 1 then s.wellAccess (a - a % 64) k m.bad else s.cisAccess (a - a % 64) k m.cis

/-- Bytes of the wells or the reservoir written line by line (R226, R305, R309): the first status that is not OK ends it. -/
def State.areaWrite (s : State) (ms : List LineMeet) (kind : Nat) : Nat → Nat → List Byte → Code × State
  | 0, _, _ => (kOk, s)
  | fuel + 1, a, bs =>
    if bs.isEmpty then (kOk, s)
    else
      let n := min bs.length (64 - a % 64)
      let r := s.areaLine ms kind a (.write (a % 64) (bs.take n))
      if r.1 = kOk then State.areaWrite r.2.2 ms kind fuel (a + n) (bs.drop n) else (r.1, r.2.2)

/-- Bytes of the wells or the reservoir read line by line: the first status that is not OK ends it. -/
def State.areaRead (s : State) (ms : List LineMeet) (kind : Nat) : Nat → Nat → Nat → Code × List Byte × State
  | 0, _, _ => (kOk, [], s)
  | fuel + 1, a, n =>
    if n = 0 then (kOk, [], s)
    else
      let m := min n (64 - a % 64)
      let r := s.areaLine ms kind a .read
      if r.1 = kOk then
        let rest := State.areaRead r.2.2 ms kind fuel (a + m) (n - m)
        (rest.1, (r.2.1.drop (a % 64)).take m ++ rest.2.1, rest.2.2)
      else (r.1, [], r.2.2)

end Sys2Proof.Machine
end

