-- ==== Sys2Proof/Machine/Image.lean ====
section
/-! DEFINITION. Machine/Image.lean: den images (R399 to R402): their layout, and the loader's checks. -/

namespace Sys2Proof.Machine

open Sys2Proof

/-- IMAGE_FORMAT (R437). -/
abbrev kImageFormat : Code := 0x0A0B

/-- A shape that an image declares (R401): its index, its size in blocks, its seam column or 0xFF. -/
structure Shape where
  ix : Nat
  w : Nat
  h : Nat
  seam : Nat
  deriving DecidableEq, Repr

/-- An initial data entry (R400): a tile in local order or every tile (none), own shaft or scratchpad, where, and the bytes. The
places of the fields in the entry are a DESIGN CHOICE (log entry 60). -/
structure InitData where
  tile : Option Nat
  spad : Bool
  off : Nat
  data : List Byte
  deriving DecidableEq, Repr

/-- An image as its header lays it out (R400). `maps` gives each shape's stream indices in local order. -/
structure Image where
  overlays : Bool
  digest : BitVec 256
  needs : List Need
  shapes : List Shape
  streams : List (List Nat)
  maps : List (Nat × List Nat)
  inits : List InitData
  reshape : List (Nat × Nat)
  deriving DecidableEq, Repr

/-! ### Layout (R400, R401) -/

/-- The shape a need record applies to (R401). -/
def Need.ix : Need → Nat
  | .shape i _ _ _ => i | .shaftUse i _ => i | .extent i _ _ _ _ _ _ => i | .guarantee i _ _ => i | .link i _ _ => i
  | .power i _ => i | .pasid i => i

/-- A need record (R401); none where a reserved bit is set, the kind is undefined, or a value lies outside the range of its
parameter (log entry 161). -/
def parseNeed (v : Nat) : Option Need :=
  let ix := bitsOf v 8 8
  let low := bitsOf v 0 16
  let only (n : Need) (w : Nat) (ok : Bool) : Option Need := if low + w = v ∧ ok then some n else none
  match bitsOf v 0 8 with
  | 1 =>
    let n := Need.shape ix (bitsOf v 32 8) (bitsOf v 40 8) (bitsOf v 48 8)
    let col := bitsOf v 48 8
    only n (2 ^ 32 * bitsOf v 32 24) (col == 0xFF || col % 4 == 0)
  | 2 =>
    let n := Need.shaftUse ix (bitsOf v 32 12)
    only n (2 ^ 32 * bitsOf v 32 12) (bitsOf v 32 12 != 0)
  | 3 =>
    let n := Need.extent ix (bitsOf v 32 56) (bitsOf v 88 56) (bitsOf v 144 3) (v.testBit 147) (v.testBit 148) (v.testBit 149)
    only n (2 ^ 32 * bitsOf v 32 118) (1 ≤ bitsOf v 144 3 && bitsOf v 144 3 ≤ 4)
  | 4 =>
    let n := Need.guarantee ix (bitsOf v 32 6) (bitsOf v 40 8)
    only n (2 ^ 32 * bitsOf v 32 6 + 2 ^ 40 * bitsOf v 40 8) (bitsOf v 32 6 ≤ 47 && bitsOf v 40 8 != 0)
  | 5 =>
    let n := Need.link ix (bitsOf v 32 5) (bitsOf v 48 9)
    only n (2 ^ 32 * bitsOf v 32 5 + 2 ^ 48 * bitsOf v 48 9) (1 ≤ bitsOf v 48 9 && bitsOf v 48 9 ≤ 384)
  | 6 =>
    let n := Need.power ix (bitsOf v 32 3)
    only n (2 ^ 32 * bitsOf v 32 3) true
  | 7 =>
    let n := Need.pasid ix
    only n 0 true
  | _ => none

/-- The stream bodies (R400): each a bundle count and the bundles; none where one leaves the image. -/
def parseStreams (bs : List Byte) (len : Nat) : Nat → Nat → Option (List (List Nat))
  | 0, _ => some []
  | n + 1, off =>
    let cnt := natAt bs off 4
    if len < off + 4 ∨ len < off + 4 + 24 * cnt then none
    else (parseStreams bs len n (off + 4 + 24 * cnt)).map fun l =>
      ((List.range cnt).map fun i => natAt bs (off + 4 + 24 * i) 24) :: l

/-- The shapes of the need records, each index once, in rising order, as the tile maps follow one another (DESIGN CHOICE, log
entry 60). -/
def mapOrder (shapes : List Shape) : List Shape :=
  (List.range 256).filterMap fun i => shapes.find? (·.ix == i)

/-- The tile maps of the shapes, one after the other. -/
def parseMaps (bs : List Byte) : List Shape → Nat → List (Nat × List Nat)
  | [], _ => []
  | sh :: rest, off =>
    let n := 16 * sh.w * sh.h
    (sh.ix, (List.range n).map fun i => natAt bs (off + 4 * i) 4) :: parseMaps bs rest (off + 4 * n)

/-- An initial data entry. -/
def parseInit (bs : List Byte) (len off : Nat) : Option InitData :=
  let tile := natAt bs off 4
  let tgt := natAt bs (off + 4) 1
  let o := natAt bs (off + 8) 8
  let n := natAt bs (off + 16) 8
  let src := natAt bs (off + 24) 8
  let room := if tgt = 1 then 2 ^ 19 else 2 ^ 28
  if 1 < tgt ∨ natAt bs (off + 5) 3 ≠ 0 ∨ len < src + n ∨ room < o + n then none
  else some { tile := if tile = 0xFFFFFFFF then none else some tile, spad := tgt == 1, off := o, data := bytesAt bs src n }

/-- Every item of a list, if each can be read. -/
def allSome {α : Type} : List (Option α) → Option (List α)
  | [] => some []
  | o :: os => match o, allSome os with
    | some a, some as => some (a :: as)
    | _, _ => none

/-- Whether the SHA-256 of an image's bytes, with the field at zero, is DIGEST (R400). -/
def imageMatches (bs : List Byte) : Bool := sha (bs.take 0x10 ++ List.replicate 32 0 ++ bs.drop 0x30) == bytesAt bs 0x10 32

/-- An image of `bs` bytes (R400, step 1 of R402). -/
def parseImage (bs : List Byte) : Option Image :=
  let len := bs.length
  let needOff := natAt bs 0x30 4
  let needCnt := natAt bs 0x34 2
  let strOff := natAt bs 0x38 4
  let strCnt := natAt bs 0x3C 4
  let mapOff := natAt bs 0x40 4
  let initOff := natAt bs 0x44 4
  let initCnt := natAt bs 0x48 4
  let resOff := natAt bs 0x4C 4
  let resCnt := natAt bs 0x50 2
  if len < 256 ∨ natAt bs 0 2 ≠ 1 ∨ natAt bs 2 2 ≠ 0 ∨ 1 < natAt bs 4 4 ∨ natAt bs 8 8 ≠ len ∨ natAt bs 0x36 2 ≠ 0 ∨
      natAt bs 0x52 174 ≠ 0 ∨ needCnt = 0 ∨ 1024 < needCnt ∨ len < needOff + 32 * needCnt ∨ len < initOff + 32 * initCnt ∨
      len < resOff + 4 * resCnt ∨ len < strOff + 4 * strCnt ∨ len < mapOff ∨ !imageMatches bs then none
  else
    let needs := allSome ((List.range needCnt).map fun i => parseNeed (natAt bs (needOff + 32 * i) 32))
    let inits := allSome ((List.range initCnt).map fun i => parseInit bs len (initOff + 32 * i))
    let res := (List.range resCnt).map fun i => natAt bs (resOff + 4 * i) 4
    match needs, inits, parseStreams bs len strCnt strOff with
    | some needs, some inits, some streams =>
      let shapes := needs.filterMap fun n => match n with
        | .shape i w h col => some { ix := i, w := w, h := h, seam := col }
        | _ => none
      let order := mapOrder shapes
      let tiles := order.foldl (fun n (sh : Shape) => n + 16 * sh.w * sh.h) 0
      if len < mapOff + 4 * tiles || (res.any fun v => bitsOf v 12 4 != 0 || bitsOf v 24 8 != 0) then none
      else some { overlays := bs.getD 4 0 == 1, digest := BitVec.ofNat 256 (natAt bs 0x10 32), needs := needs, shapes := shapes,
                  streams := streams, maps := parseMaps bs order mapOff, inits := inits,
                  reshape := res.map fun v => (bitsOf v 0 12, bitsOf v 16 8) }
    | _, _, _ => none

/-! ### Checks (R402) -/

/-- The stream indices of a shape's tiles. -/
def Image.mapOf (g : Image) (ix : Nat) : List Nat := ((g.maps.find? (·.1 == ix)).map (·.2)).getD []

/-- The streams of a shape's tiles, in local order; none where a tile has none. -/
def Image.tileStreams (g : Image) (ix : Nat) : Option (List (List Nat)) := allSome ((g.mapOf ix).map fun i => g.streams[i]?)

/-- What must be the same in every tile at one address (R100): the header, and at a control bundle the V slot. A stream's end is
followed by zero bundles. -/
def sharedPart (w : Nat) : Nat × Nat :=
  let b := Bundle.of (BitVec.ofNat 192 w)
  (b.hdr, if b.control then b.v else 0)

/-- Step 4 of R402: every tile has a stream of at most 4,096 bundles, and the streams obey R100. -/
def Image.streamsOk (g : Image) (ix : Nat) : Bool :=
  match g.tileStreams ix with
  | none => false
  | some l =>
    (l.all fun b => b.length ≤ 4096) &&
      match l with
      | [] => true
      | a :: rest =>
        let top := l.foldl (fun n b => max n b.length) 0
        rest.all fun b => (List.range top).all fun i => sharedPart (a.getD i 0) == sharedPart (b.getD i 0)

/-- The bytes of an own shaft that a shape uses (R401): the largest SHAFT_USE that applies, none declared being 0. -/
def Image.shaftUse (g : Image) (ix : Nat) : Nat :=
  g.needs.foldl (fun n x => match x with
    | .shaftUse i u => if i = ix ∨ i = 0xFF then max n (65536 * u) else n
    | _ => n) 0

/-- The well save area of a den: where it starts in each own shaft (R412). -/
def Den.wellSave (d : Den) : Option Nat := if natAt d.saveArea 0 1 = 1 then some (natAt d.saveArea 8 8) else none

/-- Whether a controller of R384 is unavailable in the repair map (R39, R314, R437), or is that of a well that failed its training (R713). -/
def State.ctlOff (s : State) (k : Nat) : Bool :=
  if k < 16 then s.reg (0x300 + k) 0 == 0 else s.floorOff ((k - 16) / 2) || s.reg (0x320 + (k - 16)) 0 == 2

/-- Step 5 of R402 for one need record: the reason of its failure. -/
def State.needFails (s : State) (slot : Nat) : Need → Option Code
  | .shape _ _ _ _ => none
  | .shaftUse _ u =>
    let hits : Bool := match (s.den slot).wellSave with
      | some o => overlaps 0 (65536 * u) o 0xD0000
      | none => false
    if decide (4096 < u) || hits then some 0x0A03 else none
  | .extent _ b n k rd wr atom =>
    if (s.den slot).extents.any fun e => e.vbase == b && e.kind == k && n ≤ e.len && (!rd || e.rd) && (!wr || e.wr) &&
        (!atom || e.atom) then none else some 0x0A04
  | .guarantee _ k u =>
    if kget 0 (s.den slot).guarantees k < u then some 0x0A05 else if s.ctlOff k then some 0x0A0A else none
  | .link _ l n =>
    if kget 0 (s.den slot).linkBudget l < n then some 0x0A06 else if s.floorOff (l / 2) || s.reg (0x1000 + l) 0 == 4 then some 0x0A0A else none
  | .power _ c => if (s.den slot).powerClass < c then some 0x0A07 else none
  | .pasid _ => if (s.den slot).pasid.getLsbD 31 then none else some 0x0A08

/-- The first need record of a shape that fails: its reason and index. -/
def State.firstNeed (s : State) (slot ix : Nat) : Nat → List Need → Option (Code × Nat)
  | _, [] => none
  | i, n :: ns =>
    let bad := if n.ix = ix ∨ n.ix = 0xFF then s.needFails slot n else none
    match bad with
    | some c => some (c, i)
    | none => State.firstNeed s slot ix (i + 1) ns

/-- The index of the need record that declares a shape. -/
def Image.shapeRecord (g : Image) (sh : Shape) : Nat := g.needs.findIdx (· == .shape sh.ix sh.w sh.h sh.seam)

/-- Steps 3 to 5 of R402 for a shape at a rectangle: the reason and the record of the first failure; step 3 fails for the record of
the shape, step 4 for none. -/
def State.fitFails (s : State) (slot : Nat) (q : Rect) (g : Image) (sh : Shape) : Option (Code × Option Nat) :=
  if !seamFits q sh.seam then some (0x0A02, some (g.shapeRecord sh))
  else if !g.streamsOk sh.ix then some (0x0A09, none)
  else (s.firstNeed slot sh.ix 0 g.needs).map fun (c, i) => (c, some i)

/-- LOAD_REASON (R402). -/
def loadReason (c : Code) (i : Nat) : BitVec 32 := BitVec.ofNat 32 (c.toNat + 65536 * i)

/-- A refusal of R402 after step 1: LOAD_REASON holds why, and nothing is loaded. Where no need record fails, its index there is a
free value (log entry 160). -/
def State.refuseFit (s : State) (slot : Nat) (c : Code) (i : Option Nat) : State :=
  let ix := i.getD (leNat [Config.freeByte s.fresh, Config.freeByte (s.fresh + 1)])
  let s := { s with fresh := s.fresh + 2 }
  (s.modDen slot fun d => { d with loadReason := loadReason c ix }).cmdResult slot kRefusedFit

/-- Whether what is told of an image's digest is so: the digest is computed (R400). -/
def imageSays (img : HostRead) (digestOk : Bool) : Bool :=
  match img with
  | .refused => true
  | .data bs => digestOk == imageMatches bs

/-- What an image's read and step 1 give (R399, R402): the code that ends the command, or the image. -/
def readImage (img : HostRead) (len : Nat) : Except Code Image :=
  match img with
  | .refused => .error kHostXlate
  | .data bs =>
    if bs.length ≠ len then .error kImageFormat
    else match parseImage bs with
      | some g => .ok g
      | none => .error kImageFormat

/-- Initial data written to a den (R403): own shafts and scratchpads. -/
def State.writeInit (s : State) (tiles : List Nat) (e : InitData) : State :=
  let at_ := match e.tile with
    | none => tiles
    | some i => match tiles[i]? with | some t => [t] | none => []
  at_.foldl (fun (s : State) t =>
    if e.spad then s.modTile t fun x => x.spadWrite e.off e.data
    else (s.areaWrite [] 1 (e.data.length + 1) (ownAddr t 0 + e.off) e.data).2) s

/-- An image enters a den in a shape (R403): banks, streams, data, registers, bundle number, Z, digest, shape. -/
def State.install (s : State) (slot : Nat) (g : Image) (sh : Shape) : State :=
  let tiles := (s.den slot).rect.tiles
  let streams := (g.tileStreams sh.ix).getD []
  let one (s : State) (p : Nat × List Nat) : State :=
    s.modTile p.1 fun x =>
      { x.fresh with istore := (List.range p.2.length).foldl (fun m i => kput 0 m i (BitVec.ofNat 192 (p.2.getD i 0))) [] }
  let s := (tiles.zip streams).foldl one s
  let s := g.inits.foldl (fun s e => s.writeInit tiles e) s
  s.modDen slot fun d =>
    { d with digest := g.digest, shape := sh.ix, bundle := 0, slipCyc := 0, wave := {}, nextAddr := 0, stepActive := false, stepQueue := none,
             reshapeReady := false, restored := false, stateLost := false,
             image := { overlays := g.overlays, seamCol := sh.seam, shaftUse := g.shaftUse sh.ix, reshape := g.reshape } }

end Sys2Proof.Machine
end

