-- ==== Sys2Proof/Machine/SaveOps.lean ====
section
/-! DEFINITION. Machine/SaveOps.lean: the layout of a den save (R413 to R415), writing one and reading one back. -/

namespace Sys2Proof.Config

open Sys2Proof Sys2Proof.Machine

/-- What the header and the first 16 KiB of each record stand for in a save that is not one of this module's: the spec does not lay out
the control part, the registers and the results in flight (R415). -/
opaque foreignSave : List Byte → List (List Byte) → Option Saved

/-- R415 puts the digest of a record in its control part of 4 KiB and does not say where. -/
opaque recordDigestAt : Fin 4065

end Sys2Proof.Config

namespace Sys2Proof.Machine

open Sys2Proof

/-- Where the header and the records of a save lie (R413), with the kind of memory: the header's address and the base of each
record; none where there is no save area or a holding is too short. -/
def Den.savePlaces (d : Den) (stride : Nat) : Option (Nat × Nat × List Nat) :=
  let tiles := d.rect.tiles
  let bs := d.saveArea
  match natAt bs 0 1 with
  | 1 =>
    let o := natAt bs 8 8
    some (1, ownAddr d.rect.origin 0 + o, tiles.map fun t => ownAddr t 0 + o + 0x10000)
  | 2 =>
    let m := natAt bs 1 1
    match allSome ((List.range m).map fun i => d.holdings[natAt bs (16 + i) 1]?) with
    | some hs =>
      let per := ceilDiv tiles.length m
      if m = 0 || hs.any fun h => h.len < 0x10000 + per * stride then none
      else
        let base (i : Nat) : Nat := match hs[i % m]? with | some h => h.start | none => 0
        some (2, base 0, (List.range tiles.length).map fun i => base i + 0x10000 + (i / m) * stride)
    | none => none
  | _ => none

/-- The record stride P (R413). -/
def Den.stride (d : Den) (shafts : Bool) : Nat := 0xC0000 + (if shafts then d.image.shaftUse else 0)

/-- The bytes of scratchpad bank `n` (R56, R415). -/
def Tile.bankBytes (x : Tile) (n : Nat) : List Byte := (List.range 4096).flatMap fun j => x.spadRead (128 * j + 8 * n) 8

/-- The bytes of instruction store block `n` (R415). -/
def Tile.blockBytes (x : Tile) (n : Nat) : List Byte :=
  (List.range 64).flatMap fun j => toLE 24 (kget 0 x.istore (64 * n + j)).toNat

/-- The place of the record digest in a record's control part (R415), for its 32 bytes. -/
def digestPlace : Nat := Config.recordDigestAt.val

/-- The cells, scratchpad banks and instruction store blocks of a tile that a record holds (R415); `full` takes every cell and bank and no
block, as a sample does (R695). -/
def Tile.recorded (x : Tile) (full : Bool) : List Nat × List Nat × List Nat :=
  ((List.range 4).filter fun n => full || (kget {} x.acc n).mode != .zero,
   (List.range 16).filter fun n => full || (kget {} x.banks n).mode != .off,
   (List.range 64).filter fun n => !full && kget false x.overlaid n)

/-- Where the written parts of a tile's record lie, and their lengths (R415). -/
def Tile.recordLayout (x : Tile) (shaft : Nat) : List (Nat × Nat) :=
  let (accs, banks, blocks) := x.recorded false
  [(0, 4096), (0x1000, 8192), (0x3000, 4096)] ++ accs.map (fun n => (0x4000 + 0x4000 * n, 0x4000)) ++
    banks.map (fun n => (0x14000 + 0x8000 * n, 0x8000)) ++ blocks.map (fun n => (0x94000 + 0x600 * n, 0x600)) ++
    (if shaft = 0 then [] else [(0xC0000, shaft)])

/-- A control part with other bytes in the place of its digest. -/
def sealedWith (control bs : List Byte) : List Byte := control.take digestPlace ++ bs ++ control.drop (digestPlace + 32)

/-- The digest of a record's written parts, in the order of their offsets (R415), taken with zeros in its own place (log entry 145). -/
def recordDigest (ps : List (Nat × List Byte)) : List Byte :=
  sha (ps.flatMap fun p => if p.1 = 0 then sealedWith p.2 (List.replicate 32 0) else p.2)

/-- The parts of a tile's record that are written (R225, R277, R415), by offset: what the spec lays out holds its bytes; the rest is as
many free bytes. The own shaft's bytes are read as any others, and the first line that cannot be read gives the code. -/
def State.recordParts (s : State) (ms : List LineMeet) (t : Nat) (shaft : Nat) (full : Bool) : Code × List (Nat × List Byte) × State :=
  let x := (s.tile t).flush
  let free (s : State) (l : List (Nat × Nat)) : List (Nat × List Byte) × State :=
    l.foldl (fun (acc : List (Nat × List Byte) × State) (p : Nat × Nat) =>
      let (bs, s) := acc.2.freeBytes p.2
      (acc.1 ++ [(p.1, bs)], s)) ([], s)
  let (accs, banks, blocks) := x.recorded full
  let (control, s) := s.freeBytes 4096
  let (l, s) := free s ([(0x1000, 8192), (0x3000, 4096)] ++ accs.map fun n => (0x4000 + 0x4000 * n, 0x4000))
  let l := l ++ (banks.map fun n => (0x14000 + 0x8000 * n, x.bankBytes n)) ++ blocks.map fun n => (0x94000 + 0x600 * n, x.blockBytes n)
  let (k, bs, s) := s.areaRead ms 1 (shaft + 1) (ownAddr t 0) shaft
  let l := (0, control) :: (if shaft = 0 then l else l ++ [(0xC0000, bs)])
  (k, (0, sealedWith control (recordDigest l)) :: l.tail, s)

/-- The save header's first 0xE0 bytes (R414). -/
def State.saveHeader (s : State) (slot : Nat) (shafts : Bool) : List Byte :=
  let d := s.den slot
  let faulted := d.phase = .faulted
  let flags := (if shafts then 1 else 0) + (if faulted then 2 else 0) + (if d.stepActive then 4 else 0) +
    (if d.wave.resumeSent then 8 else 0) + (if d.image.overlays then 16 else 0)
  let slip := [d.slipCyc, d.slipCnt, d.slipLast, d.slipLastB, d.bundle] ++ (List.range 8).map fun c => kget 0 d.causes c
  toLE 2 1 ++ toLE 2 flags ++ toLE 4 d.shape ++ toLE 4 d.rect.word ++ toLE 4 d.image.seamCol ++
    toLE 8 ((s.tile d.rect.origin).bundle % 2 ^ 48) ++ toLE 8 d.wave.z ++ toLE 8 d.rect.span ++ toLE 8 d.stepCount.toNat ++
    toLE 32 d.digest.toNat ++ toLE 4 (d.stride shafts) ++ toLE 4 (if shafts then d.image.shaftUse / 65536 else 0) ++
    bytesAt (if faulted then d.faultRec else []) 0 32 ++ slip.flatMap fun v => toLE 8 v.toNat

/-- A tile without what its extent cache holds (R329). -/
def Tile.noCache (x : Tile) : Tile := { x with pump := { x.pump with cache := [] } }

/-- The tile of a record, as it is put back (R329, R417): the fence and the errors counted are the new place's, the extent cache is
empty. -/
def Tile.restoreAt (x here : Tile) : Tile := { x.flush.noCache with fenced := here.fenced, errs := here.errs }

/-- A record's bytes, or what stands for them, cross the mesh between a tile and the port of the cistern (R357). -/
def State.haulRecord (s : State) (slot kind t base : Nat) (out : Bool) : State :=
  if kind = 1 then s
  else if out then s.haul .save (s.tileEnd t) (s.cisternPort base) slot 4
  else s.haul .save (s.cisternPort base) (s.tileEnd t) slot 4

/-- A save is written (R413 to R416): the code that ends it. -/
def State.writeSave (s : State) (ms : List LineMeet) (slot : Nat) (shafts : Bool) : Code × State :=
  let d := s.den slot
  match d.savePlaces (d.stride shafts) with
  | none => (kSaveArea, s)
  | some (kind, hdr, recs) =>
    let use_ := if shafts then d.image.shaftUse else 0
    let one (acc : Code × List (Nat × Nat × List Byte) × List Byte × State) (i : Nat × Nat) :=
      if acc.1 ≠ kOk then acc
      else
        let (k, ps, s) := acc.2.2.2.recordParts ms i.2 use_ false
        let digest := match ps with | p :: _ => bytesAt p.2 digestPlace 32 | [] => []
        (k, acc.2.1 ++ ps.map (fun (p : Nat × List Byte) => (i.1, p.1, p.2)), acc.2.2.1 ++ digest,
          s.haulRecord slot kind i.2 (recs.getD i.1 0) true)
    let (k, parts, digests, s) := ((List.range d.rect.tiles.length).zip d.rect.tiles).foldl one (kOk, [], [], s)
    let head := s.saveHeader slot shafts
    let header := head ++ sha (head ++ digests)
    let put (acc : Code × State) (p : Nat × Nat × List Byte) : Code × State :=
      if acc.1 = kOk then acc.2.areaWrite ms kind (p.2.2.length + 1) (recs.getD p.1 0 + p.2.1) p.2.2 else acc
    let (c, s) := if k = kOk then s.areaWrite ms kind 65537 hdr (header ++ List.replicate (65536 - 256) 0) else (k, s)
    let (c, s) := parts.foldl put (c, s)
    if c ≠ kOk then (c, s)
    else
      let seam := d.rect.fifoKeys.filterMap fun k =>
        match kget [] s.seam.fifos k with | [] => none | l => some (k / 2 - 4 * d.rect.br, k % 2, l)
      let sv : Saved := { header := header, parts := parts, tiles := d.rect.tiles.map fun t => (s.tile t).noCache, wave := d.wave,
                          nextAddr := d.nextAddr, reshapeReady := d.reshapeReady, seam := seam }
      (kOk, { s with saves := s.saves ++ [sv] })

/-- Parts of records are read from a save area (R224, R225, R303, R304), by record, offset and length: their bytes, or the first code
that is not OK. -/
def State.readParts (s : State) (ms : List LineMeet) (kind : Nat) (recs : List Nat) (want : List (Nat × Nat × Nat)) :
    Code × List (Nat × Nat × List Byte) × State :=
  want.foldl (fun acc p =>
    if acc.1 ≠ kOk then acc
    else
      let (k, bs, s) := acc.2.2.areaRead ms kind (p.2.2 + 1) (recs.getD p.1 0 + p.2.1) p.2.2
      (k, acc.2.1 ++ [(p.1, p.2.1, bs)], s)) (kOk, [], s)

/-- The parts of record `i`. -/
def partsOf (ps : List (Nat × Nat × List Byte)) (i : Nat) : List (Nat × List Byte) := (ps.filter (·.1 == i)).map (·.2)

/-- Whether every record's digest and SAVE_DIGEST match the bytes of a save (R414, R415, R417). -/
def digestsMatch (header : List Byte) (n : Nat) (ps : List (Nat × Nat × List Byte)) : Bool :=
  let held (i : Nat) : List Byte := match partsOf ps i with | p :: _ => bytesAt p.2 digestPlace 32 | [] => []
  ((List.range n).all fun i => recordDigest (partsOf ps i) == held i) &&
    bytesAt header 0xE0 32 == sha (bytesAt header 0 0xE0 ++ (List.range n).flatMap held)

/-- A tile with what the spec lays out of its record put in (R56, R415): the scratchpad banks and the instruction store blocks. -/
def Tile.fromRecord (x : Tile) (ps : List (Nat × List Byte)) : Tile :=
  ps.foldl (fun (x : Tile) p =>
    if 0x14000 ≤ p.1 ∧ p.1 < 0x94000 then
      let n := (p.1 - 0x14000) / 0x8000
      (List.range 4096).foldl (fun (x : Tile) j => { x with spad := spadPut x.spad (128 * j + 8 * n) 255 (bytesAt p.2 (8 * j) 8) }) x
    else if 0x94000 ≤ p.1 ∧ p.1 < 0xC0000 then
      let n := (p.1 - 0x94000) / 0x600
      { x with istore := (List.range 64).foldl (fun m j => kput 0 m (64 * n + j) (BitVec.ofNat 192 (natAt p.2 (24 * j) 24))) x.istore }
    else x) x

/-- What the bytes of a save area stand for (R417): a save of this module that is unchanged, or another whose digests all match; none
where one does not match. A line that cannot be read gives its code. -/
def State.findSave (s : State) (ms : List LineMeet) (kind : Nat) (recs : List Nat) (header : List Byte) : Code × Option Saved × State :=
  match s.saves.find? fun sv => sv.header == header && sv.tiles.length == recs.length with
  | some sv =>
    let (k, ps, s) := s.readParts ms kind recs (sv.parts.map fun p => (p.1, p.2.1, p.2.2.length))
    (k, if ps == sv.parts then some sv else none, s)
  | none =>
    let (k, heads, s) := s.readParts ms kind recs ((List.range recs.length).map fun i => (i, 0, 0x4000))
    match Config.foreignSave header (heads.map (·.2.2)) with
    | some sv =>
      let shaft := if (natAt header 2 2).testBit 0 then 65536 * natAt header 0x54 4 else 0
      let want := ((List.range recs.length).zip sv.tiles).flatMap fun p => (p.2.recordLayout shaft).map fun l => (p.1, l.1, l.2)
      let (c, ps, s) := if k = kOk then s.readParts ms kind recs want else (k, [], s)
      let tiles := (sv.tiles.zip (List.range recs.length)).map fun p => p.1.fromRecord (partsOf ps p.2)
      (c, if sv.tiles.length = recs.length ∧ digestsMatch header recs.length ps then
            some { sv with header := header, parts := ps, tiles := tiles } else none, s)
    | none => (k, none, s)

/-- A save is loaded (R63, R192, R208, R417): streams from the image and then the saved blocks, every saved part, the shaft bytes, the
seam slots into FIFOs that hold no others, Z, STEP_COUNT and the slip registers. What the wave knows by row or tile goes to the new
position. -/
def State.loadSave (s : State) (slot : Nat) (g : Image) (sh : Shape) (sv : Saved) : State :=
  let h := sv.header
  let flags := natAt h 2 2
  let tiles := (s.den slot).rect.tiles
  let streams := (g.tileStreams sh.ix).getD []
  let one (s : State) (p : Nat × Tile × List Nat) : State :=
    let base := (List.range p.2.2.length).foldl (fun m i => kput 0 m i (BitVec.ofNat 192 (p.2.2.getD i 0))) ([] : KMap (BitVec 192))
    let x := p.2.1
    let st := (x.istore.filter fun b => kget false x.overlaid (b.1 / 64)).foldl (fun m b => kput 0 m b.1 b.2) base
    s.modTile p.1 fun here => { x.restoreAt here with istore := st }
  let s := (tiles.zip (sv.tiles.zip streams)).foldl one s
  let s := if flags.testBit 0 then
      (sv.parts.filter (·.2.1 == 0xC0000)).foldl (fun (s : State) p =>
        match tiles[p.1]? with
        | some t => (s.areaWrite [] 1 (p.2.2.length + 1) (ownAddr t 0) p.2.2).2
        | none => s) s
    else s
  let q := (s.den slot).rect
  let fifos := sv.seam.foldl (fun m (e : Nat × Nat × List SeamSlot) => kput [] m (2 * (4 * q.br + e.1) + e.2.1) e.2.2)
    (q.fifoKeys.foldl (fun m k => kput [] m k []) s.seam.fifos)
  let s := { s with seam := { s.seam with fifos := fifos } }
  let reg (i : Nat) : BitVec 64 := BitVec.ofNat 64 (natAt h (0x78 + 8 * i) 8)
  let causes := (List.range 8).foldl (fun m c => kput 0 m c (reg (5 + c))) ([] : KMap (BitVec 64))
  let stops := ((s.den slot).rect.tiles.filter fun t => (s.tile t).phase == .stopped).length
  s.modDen slot fun d =>
    let w := match parseRect (natAt h 8 4) with | some r => sv.wave.moved r q | none => sv.wave
    let w := { w with z := natAt h 0x18 8, stopping := true, signals := [], sources := [], freezeAt := none, clearAt := none,
                      resuming := false, toResume := [], ended := ([], 0), resumeSent := flags.testBit 3 }
    { d with wave := w, nextAddr := sv.nextAddr, reshapeReady := sv.reshapeReady, digest := g.digest, shape := sh.ix,
             stepActive := flags.testBit 2, stops := stops, stepQueue := none, restored := flags.testBit 2, stateLost := false,
             stepCount := BitVec.ofNat 64 (natAt h 0x28 8), slipCyc := reg 0, slipCnt := reg 1, slipLast := reg 2,
             slipLastB := reg 3, bundle := reg 4, causes := causes,
             image := { overlays := g.overlays, seamCol := sh.seam, shaftUse := g.shaftUse sh.ix, reshape := g.reshape } }

end Sys2Proof.Machine
end

