-- ==== Sys2Proof/Machine/Wells.lean ====
section
/-! DEFINITION. Machine/Wells.lean: the wells as commands (chapter 06): line accesses, refresh, patrol, row repair and shaft
remaps. -/

namespace Sys2Proof.Machine

open Sys2Proof

/-- WELL_ACCESS (R224 to R226, R261): one access to a line, in the order of arrival; the answer goes to the requester (R270). -/
def execWellAccess (a : BitVec 41) (k : Access) (who : Agent) (bad : Nat) (s : State) : Act := occurs s <|
  need .badFact (accessFits k) <|
    let (c, data, s) := s.wellAccess a.toNat k bad
    .next (s.emit (.line who c data))

/-- REFRESH (R228): the next row of a bank is refreshed. -/
def execRefresh (w : WellIx) (shaft : Fin 512) (bank : Fin 64) (s : State) : Act := occurs s <|
  need .chipPhase (s.reg (0x300 + w.val) 0 == 1) <|
    let x := s.well w.val
    .next (s.setWell w.val { x with refresh := kmod 0 x.refresh (64 * shaft.val + bank.val) fun r => (r + 1) % 2048 })

/-- PATROL_SCRUB (R227, R273): the patrol reads the line of PATROL_LINE as an access would, and moves on; no den is faulted.
After the last line a new patrol period begins. A lost shaft is passed over. -/
def execPatrolScrub (w : WellIx) (bad : Nat) (s : State) : Act := occurs s <|
  need .chipPhase (s.reg (0x300 + w.val) 0 == 1) <|
    let line := s.reg (0x300 + w.val) 0x0B
    let x := s.well w.val
    let s := if x.lost.contains (line / 2 ^ 22) then s else (s.lineRead w.val line (kget 0 x.bad line + bad)).2
    let next := (line + 1) % 2 ^ 31
    let s := if next = 0 then s.setWell w.val { s.well w.val with corrected := [] } else s
    .next (s.setReg (0x300 + w.val) 0x0B next)

/-- One more spare of a kind in a map of those used, of `n` (R272, R274); none where no spare is left. -/
def spendSpare (m : KMap Nat) (key n : Nat) : Option (KMap Nat) :=
  if kget 0 m key < n then some (kput 0 m key (kget 0 m key + 1)) else none

/-- A fault of a shaft takes a spare, or, where none is left, the shaft needs a remap (R272 to R274). -/
def Well.spend (x : Well) (sh : Nat) (k : SpareKind) : Well :=
  let need (m : Option (KMap Nat)) (put : KMap Nat → Well) : Well := match m with | some m => put m | none => x.want sh
  match k with
  | .dataTsv => need (spendSpare x.dataTsvUsed sh 8) fun m => { x with dataTsvUsed := m }
  | .commandTsv => need (spendSpare x.cmdTsvUsed sh 2) fun m => { x with cmdTsvUsed := m }
  | .row b => need (spendSpare x.rowsUsed (64 * sh + b.val) 32) fun m => { x with rowsUsed := m }
  | .column b => need (spendSpare x.colsUsed (64 * sh + b.val) 8) fun m => { x with colsUsed := m }

/-- The fewest spares left of a kind that has `n` (R278). -/
def sparesMin (m : KMap Nat) (n : Nat) : Nat := m.foldl (fun k p => min k (n - p.2)) n

/-- SPARE_ROWS_MIN and SPARE_TSV_MIN follow what a well has used (R278). -/
def State.noteSpares (s : State) (w : Nat) : State :=
  (s.setReg (0x300 + w) 8 (sparesMin (s.well w).rowsUsed 32)).setReg (0x300 + w) 9 (sparesMin (s.well w).dataTsvUsed 8)

/-- The repairs that the training of the wells makes (R272 to R274). -/
def State.repairWells (s : State) (l : List WellRepair) : State :=
  l.foldl (fun (s : State) r =>
    (s.setWell r.well.val ((s.well r.well.val).spend r.shaft.val r.kind)).noteSpares r.well.val) s

/-- ROW_REPAIR (R272 to R274): a row with corrected errors on four lines is copied to a spare row, correcting it; a bank with
no spare row left needs its shaft remapped. -/
def execRowRepair (w : WellIx) (shaft : Fin 512) (bank : Fin 64) (row : Fin 2048) (s : State) : Act := occurs s <|
  let x := s.well w.val
  let b := 64 * shaft.val + bank.val
  let r := 2048 * b + row.val
  need .noSuch (4 ≤ (kget [] x.corrected r).length) <|
    let copied := kget 0 x.rowsUsed b < 32
    let x := { x with corrected := kput [] x.corrected r [],
                      bad := if copied then x.bad.filter fun (l, n) => rowKey l != r || n != 1 else x.bad }
    .next ((s.setWell w.val (x.spend shaft.val (.row bank))).noteSpares w.val)

/-- Whether a spare shaft of a well is free. -/
def Well.spareFree (x : Well) (j : Nat) : Bool := kget 0xFFFF x.spares j == 0xFFFF && !x.givenUp.contains j

/-- The first free spare shaft of a well. -/
def Well.freeSpare (x : Well) : Option Nat := (List.range 16).find? x.spareFree

/-- A shaft is lost for want of a spare (R277, R280): marked, its source raised, its holders faulted. -/
def State.loseShaft (s : State) (w sh : Nat) : State :=
  let x := s.well w
  let s := (s.setWell w { x with lost := if x.lost.contains sh then x.lost else x.lost ++ [sh] }).raiseAt (48 + w) w (1538 + w)
  s.faultAll kShaftLost (s.holders w sh)

/-- A line of a shaft that the copy cannot read (R276): zeros in the spare, recorded, and the holders faulted. -/
def State.loseLine (s : State) (w sh line : Nat) : State :=
  let x := s.well w
  let s := s.setWell w { x with bad := kput 0 x.bad line 0, data := kclear x.data (64 * line) 64 }
  let s := ((s.bump (0x300 + w) 4).setReg (0x300 + w) 5 (2 ^ 37 * w + 64 * line)).raiseAt (48 + w) w (1538 + w)
  s.faultAll kWellUncorr (s.holders w sh)

/-- REMAP_START (R274, R275, R277, R280): the floor begins to copy a shaft that needs it to one of the spares that are free. With no
spare left the shaft is lost. -/
def execRemapStart (w : WellIx) (shaft : Fin 512) (spare : Fin 16) (s : State) : Act := occurs s <|
  let x := s.well w.val
  let sh := shaft.val
  need .noSuch (x.wanted.contains sh && x.copying.isNone) <|
    let x := { x with wanted := x.wanted.filter (· != sh) }
    match x.freeSpare with
    | none => .next ((s.setWell w.val x).loseShaft w.val sh)
    | some _ => need .badFact (x.spareFree spare.val) <|
      .next ((s.setWell w.val { x with copying := some { shaft := sh, spare := spare.val } }).raiseAt (48 + w.val) w.val (1538 + w.val))

/-- The copy of a shaft passes the lines from its boundary up to another (R275, R276): their symbols are good in the spare; those that
it cannot read, marked bad or named, become zeros. -/
def State.copyLines (s : State) (w : Nat) (c : Remap) (upto : Nat) (unreadable : List Nat) : State :=
  let x := s.well w
  let lo := 2 ^ 22 * c.shaft + c.next
  let hi := 2 ^ 22 * c.shaft + upto
  let marked := (kkeys x.bad).filter fun l => lo ≤ l && l < hi && 2 ≤ kget 0 x.bad l
  let s := (marked ++ unreadable.map (2 ^ 22 * c.shaft + ·)).eraseDups.foldl (fun (s : State) l => s.loseLine w c.shaft l) s
  let x := s.well w
  s.setWell w { x with bad := kclear x.bad lo (hi - lo), copying := some { c with next := upto } }

/-- A spare serves a whole shaft (R275, R278): it has its own spare rows, columns and TSVs, and a spare that held the shaft before is
given up. The lines that have failed on the shaft (R274) are counted anew from then on (DESIGN CHOICE, log entry 206). -/
def Well.takeSpare (x : Well) (sh sp : Nat) : Well :=
  let old := (List.range 16).filter fun j => j != sp && kget 0xFFFF x.spares j == sh
  { x with copying := none, spares := old.foldl (fun m j => kput 0xFFFF m j 0xFFFF) (kput 0xFFFF x.spares sp sh),
           givenUp := x.givenUp ++ old, failed := kput [] x.failed sh [],
           corrected := x.corrected.filter fun (r, _) => r / 2 ^ 17 != sh,
           rowsUsed := kclear x.rowsUsed (64 * sh) 64, colsUsed := kclear x.colsUsed (64 * sh) 64,
           dataTsvUsed := kput 0 x.dataTsvUsed sh 0, cmdTsvUsed := kput 0 x.cmdTsvUsed sh 0 }

/-- REMAP_COPY_END (R275, R276, R278): the copy moves its boundary on by some lines, finding the named ones unreadable; with the last of
the shaft's 4,194,304 lines it ends, and the spare serves the whole shaft. -/
def execRemapCopyEnd (p : RemapPart) (s : State) : Act := occurs s <|
  let w := p.well
  needSome .noSuch (s.well w.val).copying fun c =>
    let upto := min (2 ^ 22) (c.next + p.lines)
    need .badFact (p.unreadable.all fun l => c.next ≤ l.toNat && l.toNat < upto) <|
      let s := s.copyLines w.val c upto (p.unreadable.map (·.toNat))
      let t := tileOver w.val c.shaft
      let s := s.haul .remapCopy (s.tileEnd t) (s.nearestPort t) 0 (upto - c.next)
      if upto < 2 ^ 22 then .next s
      else
        let o := 0x300 + w.val
        let s := (s.setWell w.val ((s.well w.val).takeSpare c.shaft c.spare)).noteSpares w.val
        .next ((s.bump o 6).setReg o 7 (s.reg o 7 - 1)).settleWarn

end Sys2Proof.Machine
end

