-- ==== Sys2Proof/Machine/DenCommands.lean ====
section
/-! DEFINITION. Machine/DenCommands.lean: the den commands of R395 and the events of a slot (chapter 10). A command is written to
CMD (R393), which DICT_WRITE carries; its work is the command here, and CMD_COMPLETE reports its result (R394). -/

namespace Sys2Proof.Machine

open Sys2Proof

/-! ### Writing CMD (R393 to R397) -/

/-- Whether the arguments of an operation have their reserved bits zero and their values in range (R386, R395). -/
def cmdArgsOk (op a1 a2 : Nat) : Bool :=
  match op with
  | 1 => a1 < 2 ^ 32 && a2 == 0 && (parseRect a1).isSome
  | 2 => a2 < 2 ^ 32
  | 5 => a1 < 2 ^ 16 && a2 == 0
  | 6 => a1 < 2 && a2 == 0
  | 7 => a2 < 2 ^ 32
  | 8 => bitsOf a1 5 3 == 0 && bitsOf a1 12 20 == 0 && a1 < 2 ^ 33 && a2 == 0
  | 9 => (parseRect (bitsOf a2 32 32)).isSome
  | 11 => a1 < 2 ^ 6 && a2 < 2 ^ 12
  | _ => a1 == 0 && a2 == 0

/-- Whether the Meter is faulted (R637). -/
def State.meterFaulted (s : State) : Bool := s.reg 0x1C00 0 != 2

/-- REQUIRED: the module is Deployed (R636). -/
def State.meterRequired (s : State) : Bool := s.reg 0x0001 0 == 2

/-- Whether a march run holds the tiles of a slot (R686). -/
def State.marched (s : State) (slot : Nat) : Bool :=
  let in_ (m : Option March) : Bool := match m with
    | some m => m.preserving && m.blocks.any fun b => (blockTiles b).any fun t => s.slotOf t == some slot
    | none => false
  in_ s.repair.marchWest || in_ s.repair.marchEast

/-- The checks of a CMD write after those of R451's first nine steps that need no value (R394, R395, R418, R483, R604, R638, R683,
R686): the code that refuses it. -/
def State.cmdCheck (s : State) (slot : Nat) (v : List Byte) : Option Code :=
  let op := natAt v 0 1
  let a1 := natAt v 16 8
  let d := s.den slot
  if op = 0 ∨ 11 < op ∨ bitsOf (natAt v 1 1) 1 7 ≠ 0 ∨ natAt v 4 4 ≠ 0 ∨ natAt v 13 3 ≠ 0 ∨ cmdArgsOk op a1 (natAt v 24 8) = false then
    some kRange
  else if !(cmdStates op).contains d.phase || (op == 1 && s.reg 0x0001 0 == 4) ||
      ((op == 2 || op == 7 || op == 8 || op == 9) && s.tdiLocked slot) then some kConflict
  else if (d.cmd.isSome && op != 10) || (d.release.isSome && op == 10) || (op != 10 && s.marched slot) then some kBusy
  else if (op = 1 ∨ op = 2 ∨ op = 7) ∧ s.meterFaulted ∧ s.meterRequired then some 0x1001
  else if op = 5 ∧ d.restored ∧ a1 ≠ 0xFFFF ∧ (4096 ≤ a1 ∨ (s.queue a1).phase = .disabled ∨ (s.queue a1).slot ≠ slot) then some kRange
  else if op = 6 ∧ d.stateLost then some 0x1209
  else if op = 6 ∧ a1 = 1 ∧ natAt d.saveArea 0 1 = 1 then some kRange
  else if op = 9 ∧ d.reshapeReady = false then some kNotAtReshape
  else none

/-- A CMD write (R393, R394): what a role may not write is refused before; a write that passes returns OK and the command is in
flight. RELEASE cancels a command in flight (R397). -/
def State.writeCmd (s : State) (slot : Nat) (v : List Byte) : Ans × State :=
  match s.cmdCheck slot v with
  | some c => refuse c s
  | none =>
    let c : DenCmd := { op := natAt v 0 1, fen := (natAt v 1 1).testBit 0, fence := natAt v 2 2, fval := natAt v 8 5,
                        a1 := natAt v 16 8, a2 := natAt v 24 8 }
    done (s.modDen slot fun d =>
      match d.cmd with
      | some x => { d with cmd := some { x with cancelled := true, result := some (x.result.getD kCmdCancelled) }, release := some c }
      | none => { d with cmd := some c })

/-! ### Commands -/

/-- RESERVE (R387, R395, R93, R436, R668): the slot takes its rectangle, and its counters start at zero. -/
def execReserve (i : SlotIx) (s : State) : Act := occurs s <|
  denWork 1 i.val s fun c _ =>
    match parseRect (c.a1 % 2 ^ 32) with
    | none => .off .noCommand
    | some q =>
      match s.placeCheck q none none with
      | some k => .next (s.cmdResult i.val k)
      | none =>
        let s := s.modDen i.val fun d =>
          { d with phase := .reserved, rect := q, slipCyc := 0, slipCnt := 0, slipLast := 0, slipLastB := 0, bundle := 0, causes := [],
                   sdi := 0, sdiMisses := 0, attr := [], misses := 0, slots := [], stepFlags := 0, fp64Counts := [], winBundles := 0, winAttr := 0, winMisses := 0 }
        let s := { s with power := { s.power with energy := kput 0 s.power.energy i.val 0 } }
        .next (s.cmdResult i.val kOk)

/-- The read of an image from host memory (R399): with the den's bound PASID where bit 31 of PASID is 1, else with no prefix. -/
def State.askImage (s : State) (d : Den) (a len : Nat) : State :=
  s.emit (.hostRead (if d.pasid.getLsbD 31 then some (d.pasid.toNat % 2 ^ 20) else none) a len false)

/-- LOAD (R399 to R403). -/
def execLoad (i : SlotIx) (img : HostRead) (digestOk : Bool) (s : State) : Act := occurs s <|
  denWork 2 i.val s fun c d => need .badFact (imageSays img digestOk) <|
    let s := s.askImage d c.a1 c.a2
    match readImage img c.a2 with
    | .error k => .next (s.cmdResult i.val k)
    | .ok g =>
      match g.shapes.find? fun sh => sh.w == d.rect.w && sh.h == d.rect.h with
      | none => .next (s.refuseFit i.val 0x0A01 none)
      | some sh =>
        match s.fitFails i.val d.rect g sh with
        | some (k, n) => .next (s.refuseFit i.val k n)
        | none => .next (((s.install i.val g sh).modDen i.val fun d => { d with phase := .loaded }).cmdResult i.val kOk)

/-- START (R405). -/
def execStart (i : SlotIx) (s : State) : Act := occurs s <|
  denWork 3 i.val s fun _ _ => .next ((s.modDen i.val fun d => { d with phase := .running }).cmdResult i.val kOk)

/-- FREEZE (R407, R411): the freeze message reaches the origin, `ran` den cycles after a slip's freeze did, if one is in progress.
The command ends with DEN_FROZEN, or with the den's fault (R410). -/
def execFreeze (i : SlotIx) (ran : Nat) (s : State) : Act := occurs s <|
  denWork 4 i.val s fun _ d =>
    need .denPhase (d.phase == .running && !d.wave.stopping) <|
      .next ((s.say (2 + s.settCore) .command s.settEnd (s.tileEnd d.rect.origin) i.val 4).stopWave i.val ran)

/-- SETT_FREEZE (R396, R407): the Sett freezes a RUNNING den without a command. -/
def execSettFreeze (i : SlotIx) (ran : Nat) (s : State) : Act := occurs s <|
  let d := s.den i.val
  need .denPhase (d.phase == .running && !d.wave.stopping) <|
    let s := s.say (2 + s.settCore) .command s.settEnd (s.tileEnd d.rect.origin) i.val 4
    .next ((s.modDen i.val fun d => { d with settFreeze := true }).stopWave i.val ran)

/-- Whether the units of a den's push channels have their PACK or have put the channel in HELD (R558). -/
def State.pushQuiet (s : State) (slot : Nat) : Bool :=
  s.fab.chans.all fun (_, c) => match c with
    | some x => x.slot != slot || x.units.all fun u => u.phase == .acked || u.failed.isSome
    | none => true

/-- DEN_FROZEN (R408, R409, R329): every tile stands, the pumps, windows and push channels have drained, and the caches are
emptied. A step all of whose tiles had stopped after HALT ends. -/
def execDenFrozen (i : SlotIx) (s : State) : Act := occurs s <|
  let d := s.den i.val
  need .denPhase (d.phase == .running && d.wave.stopping && s.allStill i.val && s.denQuiet i.val && s.pushQuiet i.val) <|
    let s := s.emptyCaches i.val
    let s := if d.stepActive && d.rect.tiles.all fun t => (s.tile t).phase == .stopped then s.endStep i.val else s
    let s := s.modDen i.val fun d =>
      { d with phase := .frozen, settFreeze := false, wave := { d.wave with signals := [] } }
    .next (match (s.den i.val).working 4 with
      | some _ => s.cmdResult i.val kOk
      | none => s.raise (770 + i.val))

/-- A restored step is reported on a queue (R418). Its record's submission index and cookie are not stated: they are free (log entry
73); it signals nothing. -/
def State.takeRestored (s : State) (q : Nat) : State :=
  let (b, s) := (s.untake q).freeBytes 10
  let e : Entry := { op := 1, wen := false, sen := false, ben := false, arg := false, noirq := false, clean := true, wfen := 0,
                     sfen := 0, w1 := 0, w2 := 0, w3 := 0, w4 := 0, w5 := natAt b 0 8, w6 := 0, w7 := 0 }
  let x := s.queue q
  s.setQueue q { x with cur := some { entry := e, index := natAt b 8 2, batch := [], phase := .running } }

/-- RESUME (R411, R418): the origin sends the resume signal; Z and the slip counters stay. `waited` tile cycles have passed for the
banks that wake (R60). -/
def execResume (i : SlotIx) (waited : Nat) (s : State) : Act := occurs s <|
  denWork 5 i.val s fun c d =>
    let named := d.restored && d.stepActive && c.a1 != 0xFFFF
    let q := if named then some c.a1 else d.stepQueue
    let s := s.modDen i.val fun d => { d with phase := .running, stepQueue := q, restored := false }
    let s := if named then s.takeRestored c.a1 else s
    let s := (s.wakeBanks i.val waited).say (2 + s.settCore) .command s.settEnd (s.tileEnd d.rect.origin) i.val 5
    let s := if d.rect.tiles.any fun t => (s.tile t).frozen.isSome then s.sendResume i.val
      else s.modDen i.val fun d => { d with wave := { d.wave with stopping := false } }
    .next (s.cmdResult i.val kOk)

/-- SAVE (R413 to R416, R683): in FAULTED it waits for the drain of R269. -/
def execSave (i : SlotIx) (f : SaveFacts) (s : State) : Act := occurs s <|
  denWork 6 i.val s fun c d =>
    need .denPhase (s.denQuiet i.val && s.allStill i.val) <|
      match f.unc with
      | some t => need .badFact (d.rect.has t.val) <| .next (s.cmdResult i.val 0x1206)
      | none =>
        let (k, s) := s.writeSave f.meets i.val (c.a1 == 1)
        .next (s.cmdResult i.val k)

/-- RESTORE (R417): the image, the area, the header, the fit; then every tile. A digest that does not match faults the den. -/
def execRestore (i : SlotIx) (img : HostRead) (digestOk : Bool) (f : SaveFacts) (s : State) : Act := occurs s <|
  denWork 7 i.val s fun c d => need .badFact (imageSays img digestOk) <|
    let s := s.askImage d c.a1 c.a2
    match readImage img c.a2 with
    | .error k => .next (s.cmdResult i.val k)
    | .ok g =>
      match d.savePlaces 0 with
      | none => .next (s.cmdResult i.val kSaveArea)
      | some (kind, at_, _) =>
        let (k, h, s) := s.areaRead f.meets kind 257 at_ 256
        if k ≠ kOk then .next (s.cmdResult i.val k)
        else
          let shape := g.shapes.find? fun sh => sh.ix == natAt h 4 1 && sh.w == d.rect.w && sh.h == d.rect.h
          match shape with
          | none => .next (s.cmdResult i.val kSaveMismatch)
          | some sh =>
            if natAt h 0 2 ≠ 1 ∨ natAt h 0x30 32 ≠ g.digest.toNat then .next (s.cmdResult i.val kSaveMismatch)
            else
              match s.fitFails i.val d.rect g sh with
              | some (k, n) => .next (s.refuseFit i.val k n)
              | none =>
                let stride := natAt h 0x50 4
                match d.savePlaces stride with
                | none => .next (s.cmdResult i.val kSaveArea)
                | some (_, _, recs) =>
                  let s := (d.rect.tiles.zip recs).foldl (fun (s : State) p => s.haulRecord i.val kind p.1 p.2 false) s
                  match s.findSave f.meets kind recs h with
                  | (0, some sv, s) =>
                    let s := (s.loadSave i.val g sh sv).emptyCaches i.val
                    .next ((s.modDen i.val fun d => { d with phase := .frozen }).cmdResult i.val kOk)
                  | (0, none, s) =>
                    let s := if d.phase = .faulted then
                        s.modDen i.val fun d => { d with faultCode := kIntegrity, faultRec := ({ kind := 0xFF } : FaultInfo).bytes kIntegrity }
                      else s.denFault i.val kIntegrity
                    .next (s.cmdResult i.val kIntegrity)
                  | (k, _, s) => .next (s.cmdResult i.val k)

/-! ### Moving (R419 to R421) -/

/-- An extent after a move, where the shafts it covers still make one contiguous range (R419). -/
def carried (a b : Rect) (e : Extent) : Option Extent :=
  let lo := e.tbase / 2 ^ 28
  let n := (e.tbase + e.len - 1) / 2 ^ 28 - lo + 1
  let dst := movedAddr a b e.tbase
  if (List.range n).all fun k => k == 0 || movedAddr a b (2 ^ 28 * (lo + k)) == dst - dst % 2 ^ 28 + 2 ^ 28 * k then
    some { e with tbase := dst }
  else none

/-- Whether an extent targets a byte of an own shaft of some tiles. -/
def Extent.onShafts (e : Extent) (tiles : List Nat) : Bool :=
  e.kind == 1 && tiles.any fun t => overlaps e.tbase e.len (ownAddr t 0) (2 ^ 28)

/-- The copies of a RELOCATE move on by `n` tiles (R420): with CARRY each own shaft's used bytes go to the new shaft, which reads as zero
but for them. A line that cannot be read or written ends the copies with its status (DESIGN CHOICE, log entry 179). -/
def State.copyShafts (s : State) (ms : List LineMeet) (a b : Rect) (bytes : Nat) : List Nat → Code × State
  | [] => (kOk, s)
  | t :: ts =>
    let (k, bs, s) := s.areaRead ms 1 (bytes + 1) (ownAddr t 0) bytes
    if k ≠ kOk then (k, s)
    else
      let s := s.haul .save (s.tileEnd t) (s.tileEnd (a.moved b t)) 0 (ceilDiv bytes 64)
      let (k, s) := s.areaWrite ms 1 (bytes + 1) (ownAddr (a.moved b t) 0) bs
      if k ≠ kOk then (k, s) else State.copyShafts s ms a b bytes ts

/-- The copies of a RELOCATE end (R420): every tile's state is at its new place, the carried extents, the seam slots and the wave
follow, the old shafts go to the scrub, and the caches are empty (R329). -/
def State.endMove (s : State) (slot : Nat) (q : Rect) (es : List Extent) : State :=
  let old := (s.den slot).rect
  let s := s.emptyCaches slot
  let s := old.tiles.foldl (fun (s : State) t =>
    let x := s.tile t
    let s := s.haul .save (s.tileEnd t) (s.tileEnd (old.moved q t)) slot 4
    (s.setTile (old.moved q t) (x.restoreAt (s.tile (old.moved q t)))).modTile t Tile.cleared) s
  let fifos := (old.fifoKeys.zip q.fifoKeys).foldl (fun m (k : Nat × Nat) =>
    kput [] (kput [] m k.1 []) k.2 (kget [] s.seam.fifos k.1)) s.seam.fifos
  let s := { s with seam := { s.seam with fifos := fifos } }
  s.modDen slot fun d =>
    { d with rect := q, extents := es, wave := d.wave.moved old q, scrubs := d.scrubs ++ old.tiles.map .shaft, moving := none }

/-- A RELOCATE stops where it stands (R397): its new shafts are scrubbed. -/
def State.dropMove (s : State) (slot : Nat) : State := s.modDen slot Den.dropMove

/-- The move of a RELOCATE goes on by `n` own shafts (R420). With CARRY 0 nothing of them is copied and it ends at once. -/
def State.moveOn (s : State) (slot : Nat) (c : DenCmd) (m : Move) (n : Nat) (ms : List LineMeet) (es : List Extent) : State :=
  let d := s.den slot
  let carry := c.a1.testBit 32
  let todo := if carry then (d.rect.tiles.drop m.copied).take n else []
  let (k, s) := s.copyShafts ms d.rect m.dest d.image.shaftUse todo
  if k ≠ kOk then (s.dropMove slot).cmdResult slot k
  else if carry && m.copied + n < d.rect.tiles.length then
    s.modDen slot fun d => { d with moving := some { m with copied := m.copied + n } }
  else (s.endMove slot m.dest es).cmdResult slot kOk

/-- RELOCATE (R387, R390, R419, R420): after its checks the new own shafts, which read as zero, are the slot's too; then the copies run,
some own shafts in one command here, and what arrives for a shaft meanwhile is held until that shaft's copy ends. With the last one
the move is done. -/
def execRelocate (p : MovePart) (s : State) : Act := occurs s <|
  let i := p.slot
  denWork 8 i.val s fun c d =>
    let q : Rect := { d.rect with bc := bitsOf c.a1 0 5, br := bitsOf c.a1 8 4 }
    let carriedTo (q : Rect) : Option (List Extent) :=
      allSome (d.extents.map fun e => if e.onShafts d.rect.tiles then carried d.rect q e else some e)
    match d.moving, carriedTo q with
    | some m, some es => .next (s.moveOn i.val c m p.shafts p.meets es)
    | some _, none => .next ((s.dropMove i.val).cmdResult i.val kRelocExtent)
    | none, es =>
      match s.placeCheck q (some i.val) (some d.image.seamCol) with
      | some k => .next (s.cmdResult i.val k)
      | none =>
        if q.tiles.any d.rect.has then .next (s.cmdResult i.val kRelocOverlap)
        else match es with
          | none => .next (s.cmdResult i.val kRelocExtent)
          | some es =>
            let m : Move := { dest := q }
            let s := (q.tiles.foldl State.zeroShaft s).modDen i.val fun d => { d with moving := some m }
            .next (s.moveOn i.val c m p.shafts p.meets es)

/-- RESHAPE (R390, R421): the image is loaded again in a shape of the new rectangle; own shafts in both rectangles keep their contents,
those only in the new one read as zero, and no tile state is kept. -/
def execReshape (i : SlotIx) (img : HostRead) (digestOk : Bool) (s : State) : Act := occurs s <|
  denWork 9 i.val s fun c d => need .badFact (imageSays img digestOk) <|
    match parseRect (bitsOf c.a2 32 32) with
    | none => .off .noCommand
    | some q =>
      let gone := d.rect.tiles.filter fun t => !q.has t
      match s.placeCheck q (some i.val) (some d.image.seamCol) with
      | some k => .next (s.cmdResult i.val k)
      | none =>
        if d.extents.any fun e => e.onShafts gone then .next (s.cmdResult i.val kRelocExtent)
        else
          let s := s.askImage d c.a1 (c.a2 % 2 ^ 32)
          match readImage img (c.a2 % 2 ^ 32) with
          | .error k => .next (s.cmdResult i.val k)
          | .ok g =>
            match g.shapes.find? fun sh => sh.w == q.w && sh.h == q.h with
            | none => .next (s.refuseFit i.val 0x0A01 none)
            | some sh =>
              match s.fitFails i.val q g sh with
              | some (k, n) => .next (s.refuseFit i.val k n)
              | none =>
                let s := d.rect.tiles.foldl (fun (s : State) t => s.modTile t Tile.cleared) s
                let s := (q.tiles.filter fun t => !d.rect.has t).foldl State.zeroShaft s
                let s := s.modDen i.val fun d => { d with rect := q, scrubs := d.scrubs ++ gone.map .shaft }
                let s := (s.install i.val g sh).modDen i.val fun d => { d with phase := .loaded }
                .next (s.cmdResult i.val kOk)

/-! ### COPY_OUT (R422) -/

/-- Send what fits of a COPY_OUT as WRITE transactions of at most the four lines of one aligned 256-byte block (R344, R517), each checked
against the window. -/
def State.copySend (s : State) (ms : List LineMeet) (slot win : Nat) (w : WinEntry) (h : PRange) : Nat → State
  | 0 => s
  | fuel + 1 =>
    match (s.den slot).working 11 with
    | none => s
    | some c =>
      if h.len ≤ c.sent then s
      else
        let link := match s.denLink slot w with | .ok (l, _) => l | .error _ => 0
        let size := min 256 (h.len - c.sent)
        match s.winCheck slot win c.sent size .write with
        | some k => s.cmdResult slot k
        | none =>
        let at_ := h.start + c.sent
        let s := s.haul .save (if h.kind = 1 then s.wellEnd at_ else s.cisternPort at_) (s.floorEnd (link / 2) at_) slot (size / 64)
        let (k, bs, s) := s.areaRead ms h.kind (size + 1) at_ size
        if k ≠ kOk then s.cmdResult slot k
        else match s.startTx slot w (.copyOut (s.den slot).cmdSeq.toNat) { kind := 0, opc := 1, off := c.sent, payload := bs } with
          | .failed k => s.cmdResult slot k
          | .full => s
          | .sent s =>
            let more (x : DenCmd) : DenCmd := { x with sent := x.sent + size }
            let s := s.modDen slot fun d => { d with cmd := d.cmd.map more }
            State.copySend s ms slot win w h fuel

/-- COPY_OUT (R422): a whole holding goes to an outbound window, as far as the den's budget on the link allows in this turn; the
command ends when every write has been acknowledged, or with the first failure. A holding longer than the window fails with the write
that passes its end. -/
def execCopyOut (i : SlotIx) (ms : List LineMeet) (s : State) : Act := occurs s <|
  denWork 11 i.val s fun c d =>
    match d.holdings[c.a1]?, s.window c.a2 with
    | none, _ => .next (s.cmdResult i.val kRange)
    | some h, w =>
      match s.winCheck i.val c.a2 0 0 .write, w with
      | some k, _ => .next (s.cmdResult i.val k)
      | none, none => .next (s.cmdResult i.val kWinClosed)
      | none, some w =>
        let busy := s.fab.links.any fun (_, x) => x.txs.any fun t => t.slot == i.val && t.who == .copyOut d.cmdSeq.toNat
        if h.len ≤ c.sent then need .noCommand (!busy) <| .next (s.cmdResult i.val kOk)
        else .next (s.copySend ms i.val c.a2 w h 400)

/-! ### RELEASE and the scrub (R429, R430, R615 to R620) -/

/-- A slot's aperture entries are removed (R503). -/
def State.dropApers (s : State) (slot : Nat) : State :=
  let keep (a : Option Aper) : Bool := match a with | some a => a.slot != slot | none => false
  { s with host := { s.host with apers := s.host.apers.filter fun (_, a) => keep a } }

/-- A slot's queues are stopped (R488); an entry whose step was under way is dropped without a record (log entry 61). -/
def State.stopQueues (s : State) (slot : Nat) : State :=
  (s.host.queues.filter fun (_, q) => q.slot == slot && q.phase != .disabled).foldl (fun s (n, _) =>
    let s := s.stopQueue n none
    let x := s.queue n
    match x.cur with
    | some c => if c.phase = .running then s.setQueue n { x with cur := none } else s
    | none => s) s

/-- The custody entries of a slot's inbound windows are lost, and their sources told (R556). -/
def State.loseCustody (s : State) (slot : Nat) : State :=
  let mine (c : Custody) : Bool := match s.window c.win with | some w => w.inbound && w.slot == slot | none => false
  let lost := s.fab.custody.filter mine
  let s := { s with fab := { s.fab with custody := s.fab.custody.filter fun c => !mine c } }
  lost.foldl (fun s c => s.sendCustody c.job c.src 8 (toLE 8 c.id.toNat ++ toLE 2 kCustodyLost.toNat ++ List.replicate 6 0)) s

/-- A slot's push channels are destroyed (R558). -/
def State.dropChans (s : State) (slot : Nat) : State :=
  let keep (c : Option Chan) : Bool := match c with | some x => x.slot != slot | none => false
  { s with fab := { s.fab with chans := s.fab.chans.filter fun (_, c) => keep c } }

/-- A TDI that is CONFIG_LOCKED or RUN moves to ERROR (R483, R603). -/
def State.tdiError (s : State) (slot : Nat) : State :=
  if s.tdiLocked slot then
    ({ s with trust := { s.trust with tdis := kput .unlocked s.trust.tdis slot .error } } : State).raise 1819
  else s

/-- A contents-preserving march of a slot's blocks stops at the next block boundary (R686). -/
def State.stopMarch (s : State) (slot : Nat) : State :=
  let one (m : Option March) : Option March := m.map fun m =>
    if m.blocks.any fun b => (blockTiles b).any fun t => s.slotOf t == some slot then { m with stopped := true } else m
  { s with repair := { s.repair with marchWest := one s.repair.marchWest, marchEast := one s.repair.marchEast } }

/-- A slot goes into DRAINING (R429): the stream of a RUNNING den stops with a freeze wave, the host interface refuses new steps. -/
def State.beginRelease (s : State) (slot : Nat) : State :=
  let d := s.den slot
  let s := s.stopMarch slot
  let s := if d.phase = .running then s.stopWave slot 0 else s
  let s := s.dropMove slot
  let s := s.modDen slot fun d => { d with phase := .draining, settFreeze := false, stepActive := false, stepQueue := none }
  ((((s.stopQueues slot).tdiError slot).dropApers slot).loseCustody slot).dropChans slot

/-- RELEASE (R397, R429). Its result comes when the slot is FREE. -/
def execRelease (i : SlotIx) (s : State) : Act := occurs s <|
  denWork 10 i.val s fun _ d => need .denPhase (revokePhase d) <| .next (s.beginRelease i.val)

/-- DRAIN_END (R429, R430, R620): the stream stands and the pumps and windows have drained; windows are closed and every extent is
revoked under R335. Once no extent is left and every report has come, the command comes again: guarantees and budgets become zero, the
tiles are switched off and reset, and the scrub of every own shaft and holding begins. -/
def execDrainEnd (i : SlotIx) (s : State) : Act := occurs s <|
  let d := s.den i.val
  need .denPhase (d.phase == .draining && s.allStill i.val && s.denQuiet i.val) <|
    let shut (w : Option WinEntry) : Bool := match w with | some e => e.slot != i.val | none => false
    let s := { s with wins := s.wins.filter fun (_, w) => shut w }
    if !d.extents.isEmpty then .next (d.extents.foldl (fun (s : State) e => s.startInval i.val e 0 none) s)
    else need .denPhase d.invals.isEmpty <|
    let s := s.emptyCaches i.val
    let s := d.rect.tiles.foldl (fun (s : State) t => s.modTile t Tile.cleared) s
    let fifos := d.rect.fifoKeys.foldl (fun m k => kput [] m k []) s.seam.fifos
    let s := { s with seam := { s.seam with fifos := fifos } }
    let units := d.rect.tiles.map ScrubUnit.shaft ++ d.holdings.map ScrubUnit.range
    let s := s.modDen i.val fun d =>
      { d with phase := .scrubbing, guarantees := [], linkBudget := [], scrubs := d.scrubs ++ units,
               wave := {} }
    .next (s.noteChange i.val)

/-- A slot becomes FREE (R430): it keeps what CMD_RESULT, CMD_SEQ, the slip counters and the slow-down settings say. -/
def Den.freed (d : Den) : Den :=
  { phase := .free, cmd := d.cmd, release := d.release, cmdResult := d.cmdResult, cmdSeq := d.cmdSeq, slipCyc := d.slipCyc,
    slipCnt := d.slipCnt, slipLast := d.slipLast, slipLastB := d.slipLastB, bundle := d.bundle, causes := d.causes,
    stepFlags := d.stepFlags, fp64Counts := d.fp64Counts, slots := d.slots, misses := d.misses, sdi := d.sdi,
    sdiMisses := d.sdiMisses, sdiThresh := d.sdiThresh, sdiWin := d.sdiWin, sdiMissEn := d.sdiMissEn, attr := d.attr }

/-- A scrub write fails in a well (R619, R274, R277): the shaft is remapped, or lost without a spare. -/
def State.scrubShaftFail (s : State) (t : Nat) : State :=
  let w := wellOf t
  let x := s.well w
  let s := match x.freeSpare with
    | some _ => s.setWell w (x.want (shaftOf t))
    | none => s.loseShaft w (shaftOf t)
  (s.bump 0x1804 2).raise 1820

/-- A scrub write fails in the reservoir (R619): its page is retired as R308 lays down. -/
def State.scrubPageFail (s : State) (a : Nat) : State :=
  let c := a / 2 ^ 37
  let x := s.cis c
  let r : CRange := { start := a % 2 ^ 37 / 4096 * 4096, len := 4096 }
  let s := s.setCis c { x with retired := x.retired ++ [r] }
  (((s.bump (0x320 + c) 0x0C 4096).raiseAt (64 + c) (c / 2) (1554 + c)).bump 0x1804 2).raise 1820

/-- A reservoir range reads as zero: each line that holds something is overwritten with a full zero line (R617); a fenced range is left
to its rebuild (R619). The writes are accesses as any others, and a counter block or node that fails fences its range (R305). -/
def State.zeroCis (s : State) (ms : List LineMeet) (r : PRange) : State :=
  let c := r.start / 2 ^ 37
  let x := s.cis c
  let lo := r.start % 2 ^ 37 / 64
  let live := ((kkeys x.minor).filter fun l => lo ≤ l && l < lo + r.len / 64) ++
    (((kkeys x.major).filter fun p => lo ≤ 64 * p + 63 && 64 * p < lo + r.len / 64).flatMap x.liveLines)
  let lines := (live.filter fun l => lo ≤ l && l < lo + r.len / 64 &&
    !((x.fenced ++ x.rebuilding ++ x.retired).any fun f => f.start ≤ 64 * l && 64 * l < f.start + f.len)).eraseDups
  lines.foldl (fun (s : State) l => (s.areaLine ms 2 (2 ^ 37 * c + 64 * l) (.write 0 (List.replicate 64 0))).2.2) s

/-- SCRUB_END (R430, R616 to R619): one unit's scrub ends; it is zero and returns to free capacity. With a slot's last one the slot
is FREE, and its RELEASE has its result. No well scrub ends while a half reset fences the well (R618). -/
def execScrubEnd (i : SlotIx) (n : Nat) (f : ScrubFacts) (s : State) : Act := occurs s <|
  let d := s.den i.val
  needSome .noSuch d.scrubs[n]? fun u =>
    let r := u.prange
    need .chipPhase (r.kind != 1 || s.reg (0x300 + r.start / 2 ^ 37) 0 != 2) <|
    let s := match u with
      | .shaft t => if f.fails.isEmpty then s.zeroShaft t else (s.zeroShaft t).scrubShaftFail t
      | .range r =>
        if r.kind = 1 then
          let w := r.start / 2 ^ 37
          let x := s.well w
          let bad := kclear x.bad (r.start % 2 ^ 37 / 64) (r.len / 64)
          let s := s.setWell w { x with data := kclear x.data (r.start % 2 ^ 37) r.len, bad := bad }
          f.fails.foldl (fun (s : State) l => s.scrubShaftFail (tileOver w ((r.start % 2 ^ 37 + 64 * l) / 2 ^ 28))) s
        else f.fails.foldl (fun (s : State) p => s.scrubPageFail (r.start + 4096 * p)) (s.zeroCis f.meets r)
    let s := s.bump 0x1804 1 r.len
    let s := s.modDen i.val fun d => { d with scrubs := d.scrubs.eraseIdx n }
    let d := s.den i.val
    if d.phase = .scrubbing ∧ d.scrubs = [] then
      let s := s.setDen i.val d.freed
      .next ((s.cmdResult i.val kOk).noteChange i.val)
    else .next (s.noteChange i.val)

/-! ### Completion (R394, R629) -/

/-- CMD_COMPLETE (R394, R397): the result, the sequence number, the fence, the slot's command source (514 + slot), and the Meter's
change frame. -/
def execCmdComplete (i : SlotIx) (s : State) : Act := occurs s <|
  let d := s.den i.val
  needSome .noCommand d.cmd fun c =>
    needSome .noCommand c.result fun r =>
      let s := s.setDen i.val { d with cmd := d.release, release := none, cmdResult := r, cmdSeq := d.cmdSeq + 1 }
      let s := if c.fen then s.signalFence c.fence c.fval else s
      .next ((s.raise (514 + i.val)).noteChange i.val)

end Sys2Proof.Machine
end

