-- ==== Sys2Proof/Machine/FabElements.lean ====
section
/-! DEFINITION. Machine/FabElements.lean: the dictionary writes of the fabric (chapter 13): endpoint, routes, jobs, members, pair
keys, fences to peers, push channels, custody, links. -/

namespace Sys2Proof.Machine

open Sys2Proof

/-! ### Endpoint and routes (R522, R523) -/

/-- ENDPOINT_ID (R522, R560). -/
def execEndpointId (q : Req) (v : List Byte) (s : State) : Act := occurs s <|
  requestOf [(0x1100, 0)] q v (fun id s =>
    let n := leNat v
    if n = 0 ∨ 0xFFFFFE < n then refuse kRange s
    else if s.fab.jobs ≠ [] then refuse kConflict s
    else persistReg id 0x1100 0 n s) s

/-- Set a route entry; ROUTES_USED counts the VALID ones. -/
def State.setRoute (s : State) (i : Nat) (r : Option Route) : State :=
  let s := { s with fab := { s.fab with routes := kput none s.fab.routes i r } }
  s.setReg 0x1101 2 s.fab.routes.length

/-- ROUTE_SET (R523): an entry whose VALID is 0 is none. -/
def execRouteSet (q : Req) (v : List Byte) (s : State) : Act := occurs s <|
  requestOf [(0x1101, 0)] q v (fun _ s =>
    let i := natAt v 0 2
    let flags := natAt v 2 1
    if 1023 < i ∨ 1 < flags ∨ natAt v 11 1 ≠ 0 ∨ natAt v 15 1 ≠ 0 ∨ natAt v 19 1 ≠ 0 then refuse kRange s
    else
      let r : Route := { plink := natAt v 3 1, links := BitVec.ofNat 32 (natAt v 4 4), value := natAt v 8 3,
                         mask := natAt v 12 3, via := natAt v 16 3 }
      done (s.setRoute i (if flags = 1 then some r else none))) s

/-- ROUTE_CLEAR (R523). -/
def execRouteClear (q : Req) (v : List Byte) (s : State) : Act := occurs s <|
  requestOf [(0x1101, 1)] q v (fun _ s =>
    if 1023 < leNat v then refuse kRange s else done (s.setRoute (leNat v) none)) s

/-! ### Jobs (R532, R539, R540) -/

/-- JOB_CREATE (R532): a mode that the rule does not give is RANGE. -/
def execJobCreate (q : Req) (v : List Byte) (s : State) : Act := occurs s <|
  requestOf [(0x1110, 0)] q v (fun _ s =>
    let id := natAt v 0 4
    let mode := natAt v 4 4
    if id = 0 ∨ 1 < mode then refuse kRange s
    else if (s.job id).isSome ∨ s.endpoint = 0 then refuse kConflict s
    else if 64 ≤ s.fab.jobs.length then refuse kNoResource s
    else
      let jobs := s.fab.jobs ++ [{ id := id, compat := mode == 1 }]
      done (({ s with fab := { s.fab with jobs := jobs } } : State).setReg 0x1110 4 jobs.length)) s

/-- JOB_MEMBER (R532): a member named again takes the new digest (DESIGN CHOICE, log entry 71). -/
def execJobMember (q : Req) (v : List Byte) (s : State) : Act := occurs s <|
  requestOf [(0x1110, 1)] q v (fun _ s =>
    let job := natAt v 0 4
    let peer := natAt v 4 3
    let mine (m : Member) : Bool := m.job == job && m.peer == peer
    let rest := s.fab.members.filter fun m => !mine m
    if peer = 0 ∨ peer = 0xFFFFFF ∨ natAt v 7 1 ≠ 0 then refuse kRange s
    else match s.job job with
      | none => refuse kJobNone s
      | some j =>
        if 8192 ≤ rest.length then refuse kNoResource s
        else
          let digest : BitVec 256 := if j.compat then 0 else BitVec.ofNat 256 (natAt v 8 32)
          let m : Member := { job := job, peer := peer, digest := digest }
          done { s with fab := { s.fab with members := rest ++ [m] } }) s

/-- A KEYEND goes out under a live pair key (R540). -/
def State.sendKeyend (s : State) (k : Pair) : State :=
  if !k.live then s
  else match s.pickLink k.peer k.job 0 .engine with
    | .error _ => s
    | .ok (l, r) =>
      let (f, s) := s.sealFrame l (r.mac k.peer l) true k.job k.peer { kind := 5 }
      s.transmit l .engine f

/-- A job ends (R540): no frame of it is sent any longer, those included that stand behind a pause of the bulk PCP; then the other steps. -/
def State.endJob (s : State) (job : Nat) : State :=
  let pairs := s.fab.keys.filter (·.job == job)
  let s := pairs.foldl (fun (s : State) k => s.dropHeld job k.peer) s
  let s := pairs.foldl State.sendKeyend s
  let chanPeers := s.fab.chans.flatMap fun (_, x) => match x with
    | some x => (x.units.filter (·.job == job)).map (·.peer)
    | none => []
  let peers := (pairs.map (·.peer) ++ chanPeers ++ (s.wins.filterMap fun (_, w) => match w with
    | some e => if e.job = job ∧ !e.inbound then some e.peer else none
    | none => none)).eraseDups
  let s := peers.foldl (fun (s : State) p => s.endPair job p false) s
  let keep (w : Option WinEntry) : Bool := match w with | some e => e.job != job | none => false
  let fab := { s.fab with
    jobs := s.fab.jobs.filter (·.id != job), members := s.fab.members.filter (·.job != job),
    logs := s.fab.logs.filter (·.job != job), waits := s.fab.waits.filter (·.job != job) }
  let s := { s with wins := s.wins.filter fun (_, w) => keep w, fab := fab }
  (s.setReg 0x1110 4 fab.jobs.length).freedLogs

/-- JOB_END (R540, R542): of a job that is not live, JOB_NONE. -/
def execJobEnd (q : Req) (v : List Byte) (s : State) : Act := occurs s <|
  requestOf [(0x1110, 2)] q v (fun _ s =>
    if (s.job (leNat v)).isNone then refuse kJobNone s else done (s.endJob (leNat v))) s

/-- Whether a request came in a secured session (R602). -/
def isSecured : FrontEnd → Bool
  | .secured _ => true
  | _ => false

/-- KEY_INSTALL (R539): a job that is not in compatibility mode takes none (DESIGN CHOICE, log entry 72). -/
def execKeyInstall (q : Req) (v : List Byte) (s : State) : Act := occurs s <|
  need .otherRow (q.index.toNat == 0x1110 && q.element.toNat == 3) <|
    request q .write v (isSecured q.fe) (fun _ s =>
      let job := natAt v 0 4
      let peer := natAt v 4 3
      if natAt v 7 1 ≠ 0 then refuse kRange s
      else match s.job job with
        | none => refuse kJobNone s
        | some j =>
          if !j.compat then refuse kConflict s
          else if !s.isMember job peer then refuse kPeerNotMember s
          else if (s.pair job peer).isNone ∧ 8192 ≤ s.fab.keys.length then refuse kNoResource s
          else
            let key (i : Nat) : BitVec 256 := BitVec.ofNat 256 (natAt v i 32)
            done ((s.newKeys job peer 0 false (key 8) (key 40)).modPair job peer fun k => { k with old := none })) s

/-- FENCE_SEND (R498, R560). -/
def execFenceSend (q : Req) (v : List Byte) (s : State) : Act := occurs s <|
  requestOf [(0x1100, 6)] q v (fun _ s =>
    let peer := natAt v 0 3
    let job := natAt v 4 4
    let val := natAt v 16 8
    if natAt v 3 1 ≠ 0 ∨ natAt v 10 6 ≠ 0 ∨ 2 ^ 40 ≤ val then refuse kRange s
    else if (s.job job).isNone then refuse kJobNone s
    else if peer ≠ s.endpoint ∧ !s.isMember job peer then refuse kPeerNotMember s
    else
      let body := toLE 2 (natAt v 8 2) ++ List.replicate 6 0 ++ toLE 8 val
      match s.sendMsg job peer .engine { kind := 2, payload := body } with
      | .error c => refuse c s
      | .ok t => done (match s.pickLink peer job 0 .engine with
        | .ok (l, _) => t.say 1 .fence s.hostEnd (s.floorEnd (l / 2) 0) 0 (natAt v 8 2)
        | .error _ => t)) s

/-! ### Push channels (R547, R555) -/

/-- The outbound window of a channel (R547, R555): the code where it does not serve. -/
def State.chanWindow (s : State) (slot win : Nat) : Option Code :=
  match s.window win with
  | some e =>
    if e.inbound || e.slot != slot || !e.wr then some kWinClosed
    else match s.job e.job with
      | some j => if j.compat then some kCompatOp else none
      | none => none
  | none => some kWinClosed

/-- PUSH_CH_CREATE (R539, R547): a channel that exists is STATE_CONFLICT. -/
def execPushChCreate (q : Req) (v : List Byte) (s : State) : Act := occurs s <|
  requestOf [(0x1120, 0)] q v (fun _ s =>
    let c := natAt v 0 1
    let slot := natAt v 1 1
    let win := natAt v 2 2
    let ring := natAt v 8 8
    let lg := natAt v 16 1
    let tailw := natAt v 24 8
    let donew := natAt v 32 8
    let poll := natAt v 40 4
    if 63 < c ∨ 4095 < win ∨ natAt v 4 4 ≠ 0 ∨ natAt v 17 7 ≠ 0 ∨ natAt v 44 4 ≠ 0 ∨ lg < 4 ∨ 12 < lg ∨ poll < 50 ∨ 100000 < poll ∨
        ring % 64 ≠ 0 ∨ tailw % 8 ≠ 0 ∨ donew % 8 ≠ 0 ∨ 2 ^ 56 ≤ ring ∨ 2 ^ 56 ≤ tailw ∨ 2 ^ 56 ≤ donew then refuse kRange s
    else
      let d := s.den slot
      let codes := [s.chanWindow slot win, d.covers .read 65 ring (64 * 2 ^ lg), d.covers .read 1 tailw 1, d.covers .write 1 donew 1]
      if !grantPhase d || (s.chan c).isSome then refuse kConflict s
      else match codes.findSome? id with
        | some k => refuse k s
        | none =>
          let x : Chan := { slot := slot, win := win, ring := ring, ringLog := lg, tailw := tailw, donew := donew, poll := poll }
          done ((s.setChan c (some x)).noteDone c)) s

/-- A write of PUSH_CH_CTL (R555). START, RETARGET, STOP and DESTROY are coded 1 to 4 (DESIGN CHOICE, log entry 70); `op` is the
row's own. -/
def chanCtl (op : Nat) (q : Req) (v : List Byte) (run : Nat → Chan → State → Ans × State) (s : State) : Out State :=
  let given := natAt v 1 1
  need .otherRow (given == op || (op == 1 && (given == 0 || 4 < given))) <|
    requestOf [(0x1120, 1)] q v (fun _ s =>
      let c := natAt v 0 1
      if 63 < c ∨ given ≠ op ∨ (op ≠ 2 ∧ natAt v 2 2 ≠ 0) ∨ 4095 < natAt v 2 2 then refuse kRange s
      else match s.chan c with
        | none => refuse kConflict s
        | some x => run c x s) s

/-- PUSH_START (R551, R555): the channel runs again; it writes its done word, and its failed units start over, through the channel's window as it
stands now. -/
def execPushStart (q : Req) (v : List Byte) (s : State) : Act := occurs s <|
  chanCtl 1 q v (fun c x s =>
    if x.phase = .running then refuse kConflict s
    else
      let w := s.window x.win
      let again (u : PushUnit) : PushUnit :=
        if u.failed.isSome then
          { u with failed := none, sent := 0, got := 0, phase := .sending, attempt := u.attempt + 1, win := x.win,
                   job := (w.map (·.job)).getD u.job, peer := (w.map (·.peer)).getD u.peer }
        else u
      done ((s.setChan c (some { x with phase := .running, status := 0, stuck := none, units := x.units.map again })).noteDone c)) s

/-- RETARGET (R555): units in flight go on to their PACK through the window they were taken for. -/
def execRetarget (q : Req) (v : List Byte) (s : State) : Act := occurs s <|
  chanCtl 2 q v (fun c x s =>
    if x.phase = .running then refuse kConflict s
    else match s.chanWindow x.slot (natAt v 2 2) with
      | some k => refuse k s
      | none => done (s.setChan c (some { x with win := natAt v 2 2 }))) s

/-- PUSH_STOP (R555). -/
def execPushStop (q : Req) (v : List Byte) (s : State) : Act := occurs s <|
  chanCtl 3 q v (fun c x s =>
    if x.phase ≠ .running then refuse kConflict s
    else done ((s.setChan c (some { x with phase := .stopped })).noteDone c)) s

/-- PUSH_DESTROY (R555). -/
def execPushDestroy (q : Req) (v : List Byte) (s : State) : Act := occurs s <|
  chanCtl 4 q v (fun c x s =>
    if x.phase = .running then refuse kConflict s else done ((s.setChan c none).freedLogs)) s

/-! ### Custody (R556 to R558) -/

/-- A selection (R560): PUSH_ID and endpoint; none where a reserved byte is not zero. -/
def parseSel (v : List Byte) : Option (BitVec 64 × Nat) :=
  if natAt v 11 5 ≠ 0 then none else some (BitVec.ofNat 64 (natAt v 0 8), natAt v 8 3)

/-- LOG_SELECT (R557). -/
def execLogSelect (q : Req) (v : List Byte) (s : State) : Act := occurs s <|
  requestOf [(0x1120, 2)] q v (fun _ s =>
    match parseSel v with
    | none => refuse kRange s
    | some (id, peer) =>
      match s.logEntry id peer with
      | none => refuse kRange s
      | some e =>
        let s := { s with fab := { s.fab with logSel := kput none s.fab.logSel (frontPlace q.fe) (some (id, peer)) } }
        (.now (if e.lost then kCustodyLost else kOk) [], s)) s

/-- CUSTODY_SELECT (R557). -/
def execCustodySelect (q : Req) (v : List Byte) (s : State) : Act := occurs s <|
  requestOf [(0x1120, 4)] q v (fun _ s =>
    match parseSel v with
    | none => refuse kRange s
    | some (id, src) =>
      match s.custodyEntry id src with
      | none => refuse kRange s
      | some _ => done { s with fab := { s.fab with custodySel := kput none s.fab.custodySel (frontPlace q.fe) (some (id, src)) } }) s

/-- PUSH_RELEASE (R556). -/
def execPushRelease (q : Req) (v : List Byte) (s : State) : Act := occurs s <|
  need .otherRow (q.index.toNat == 0x1120 && q.element.toNat == 6) <|
    let hit (c : Custody) : Bool := parseSel v == some (c.id, c.src)
    let permit := match roleOf q.fe with
      | .fabricPeer _ job => s.fab.custody.all fun c => !hit c || c.job == job
      | _ => true
    request q .write v permit (fun _ s =>
      match s.fab.custody.find? hit with
      | none => refuse kRange s
      | some c =>
        let s := { s with fab := { s.fab with custody := s.fab.custody.filter fun c => !hit c } }
        done (s.sendCustody c.job c.src 8 (toLE 8 c.id.toNat ++ List.replicate 8 0))) s

/-- LOG_CLEAR (R558). -/
def execLogClear (q : Req) (v : List Byte) (s : State) : Act := occurs s <|
  requestOf [(0x1120, 7)] q v (fun _ s =>
    let hit (e : LogEntry) : Bool := parseSel v == some (e.id, e.peer)
    if !s.fab.logs.any hit then refuse kRange s
    else done ({ s with fab := { s.fab with logs := s.fab.logs.filter fun e => !hit e } } : State).freedLogs) s

/-! ### Links (R512, R559) -/

/-- A link's ENABLE has been written (R512, R559): a link that the repair map holds unavailable stays so. -/
def State.linkEnabled (s : State) (l : Nat) (on : Bool) : State :=
  let st := s.reg (0x1000 + l) 0
  if on then (if st = 0 then s.setLinkState l 1 else s)
  else if st = 2 then s.linkDown l 0
  else if st = 4 then s
  else s.setLinkState l 0

/-- LINK_ENABLE (R512, R559). -/
def execLinkEnable (q : Req) (v : List Byte) (s : State) : Act := occurs s <|
  let ix := q.index.toNat
  need .otherRow (0x1000 ≤ ix && ix < 0x1020 && q.element.toNat == 1) <|
    request q .write v true (fun id s =>
      let r := persistReg id ix 1 (leNat v) s
      (r.1, r.2.linkEnabled (ix - 0x1000) (leNat v == 1))) s

end Sys2Proof.Machine
end

