-- ==== Sys2Proof/Machine/DenElements.lean ====
section
/-! DEFINITION. Machine/DenElements.lean: the dictionary writes that change what a den holds (chapter 10), the requests of wells and
reservoir (R279, R316), and the steps of a den (R405, R425 to R428). -/

namespace Sys2Proof.Machine

open Sys2Proof

/-- A write to an element of a slot's object 0x0800 + slot: the slot is given to the element's own work. -/
def slotRequest (el : Nat) (q : Req) (v : List Byte) (run : Nat → Nat → State → Ans × State) (s : State) : Out State :=
  let ix := q.index.toNat
  need .otherRow (0x0800 ≤ ix && ix < 0x0900 && q.element.toNat == el) <|
    request q .write v true (fun id s => let r := run (ix - 0x0800) id s; (r.1, r.2.noteChange (ix - 0x0800))) s

/-! ### Holdings (R389, R391) -/

/-- The range that an EXTENT names (R389); none where it breaks the rules. -/
def parseHolding (v : List Byte) : Option PRange :=
  let start := natAt v 0 8
  let len := natAt v 8 8
  let a := start % 2 ^ 62
  if start % 4096 ≠ 0 ∨ len % 4096 ≠ 0 ∨ len = 0 then none
  else match start / 2 ^ 62 with
    | 1 => if a / 2 ^ 37 < 16 ∧ a % 2 ^ 37 + len ≤ 2 ^ 37 then some { kind := 1, start := a, len := len } else none
    | 2 => if a / 2 ^ 37 < 32 ∧ a % 2 ^ 37 + len ≤ cisBytes then some { kind := 2, start := a, len := len } else none
    | _ => none

/-- Whether the repair map forbids a range (R277, R308, R389). -/
def State.rangeBad (s : State) (r : PRange) : Bool :=
  if r.kind = 1 then
    let w := r.start / 2 ^ 37
    (s.well w).lost.any fun sh => overlaps (2 ^ 28 * sh) (2 ^ 28) (r.start % 2 ^ 37) r.len
  else
    let c := r.start / 2 ^ 37
    let st := s.reg (0x320 + c) 0
    st == 2 || st == 3 || s.floorOff (c / 2) || (s.cis c).retired.any fun x => overlaps x.start x.len (r.start % 2 ^ 37) r.len

/-- Whether a reservoir range meets a fenced one (R307). -/
def State.rangeFenced (s : State) (r : PRange) : Bool :=
  r.kind == 2 && let x := s.cis (r.start / 2 ^ 37); (x.fenced ++ x.rebuilding).any fun f => overlaps f.start f.len (r.start % 2 ^ 37) r.len

/-- HOLD_ADD (R389). -/
def execHoldAdd (q : Req) (v : List Byte) (s : State) : Act := occurs s <|
  slotRequest 0x09 q v (fun slot _ s =>
    match parseHolding v with
    | none => refuse kRange s
    | some r =>
      if !grantPhase (s.den slot) || s.tdiLocked slot || s.rangeFenced r then refuse kConflict s
      else if s.occupied r none then refuse kPlaceOccupied s
      else if s.rangeBad r then refuse kPlaceRepair s
      else if 64 ≤ (s.den slot).holdings.length then refuse kNoResource s
      else done (s.modDen slot fun d => { d with holdings := d.holdings ++ [r] })) s

/-- The holdings a save area names (R412). -/
def Den.areaHoldings (d : Den) : List Nat :=
  if natAt d.saveArea 0 1 = 2 then (List.range (natAt d.saveArea 1 1)).map fun i => natAt d.saveArea (16 + i) 1 else []

/-- Whether an extent of a den targets a range. -/
def Den.targets (d : Den) (r : PRange) : Bool :=
  let meets (e : Extent) : Bool := e.kind == r.kind && overlaps e.tbase e.len r.start r.len
  d.extents.any meets || d.invals.any fun v => meets v.removed

/-- An index after a holding before it has gone (log entry 62). -/
def shiftIx (gone n : Nat) : Nat := if gone < n then n - 1 else n

/-- HOLD_REMOVE (R391): the removed range goes to the scrub. -/
def execHoldRemove (q : Req) (v : List Byte) (s : State) : Act := occurs s <|
  slotRequest 0x0A q v (fun slot _ s =>
    let d := s.den slot
    match parseHolding v with
    | none => refuse kRange s
    | some r =>
      match d.holdings.findIdx? (· == r) with
      | none => if revokePhase d then refuse kRange s else refuse kConflict s
      | some i =>
        if !revokePhase d || s.tdiLocked slot || d.targets r || d.areaHoldings.contains i || d.pools.contains i then refuse kConflict s
        else done (s.modDen slot fun d =>
          let area := d.saveArea.take 16 ++ (d.saveArea.drop 16).map fun b => BitVec.ofNat 8 (shiftIx i b.toNat)
          { d with holdings := d.holdings.eraseIdx i, scrubs := d.scrubs ++ [.range r], pools := d.pools.map (shiftIx i),
                   saveArea := if natAt d.saveArea 0 1 = 2 then area else d.saveArea })) s

/-! ### Banks, save area, budgets, guarantees (R435, R412, R424, R375) -/

/-- BANK_CTL (R60, R435): the write returns OK once every named bank has its state, so the wake time has passed. -/
def execBankCtl (q : Req) (v : List Byte) (s : State) : Act := occurs s <|
  slotRequest 0x15 q v (fun slot _ s =>
    let d := s.den slot
    let tiles := d.rect.tiles
    let ix := natAt v 0 2
    let mask := natAt v 2 2
    let st := natAt v 4 1
    let hit := if ix = 0xFFFF then tiles else match tiles[ix]? with | some t => [t] | none => []
    if mask = 0 ∨ 2 < st ∨ natAt v 5 3 ≠ 0 then refuse kRange s
    else if d.phase ≠ .loaded ∧ d.phase ≠ .frozen then (if hit = [] ∧ d.rect.tiles ≠ [] then refuse kRange s else refuse kConflict s)
    else if hit = [] then refuse kRange s
    else
      let banks := (List.range 16).filter mask.testBit
      done (hit.foldl (fun (s : State) t =>
        s.modTile t fun x => (banks.foldl (fun (x : Tile) b => x.setBank b st) x).ageBanks 4208 banks.contains) s)) s

/-- SAVE_AREA (R412, R483). -/
def execSaveArea (q : Req) (v : List Byte) (s : State) : Act := occurs s <|
  slotRequest 0x0C q v (fun slot _ s =>
    let d := s.den slot
    let kind := natAt v 0 1
    let n := natAt v 1 1
    let o := natAt v 8 8
    let ixs := (List.range n).map fun i => natAt v (16 + i) 1
    let badIx (i : Nat) : Bool := match d.holdings[i]? with
      | some h => h.kind != 2 || d.targets h
      | none => true
    if 2 < kind ∨ natAt v 2 6 ≠ 0 ∨ (kind ≠ 2 ∧ n ≠ 0) ∨ (kind = 2 ∧ (n = 0 ∨ 32 < n)) ∨ (kind ≠ 1 ∧ o ≠ 0) ∨ v.length ≠ 16 + n then
      refuse kRange s
    else if s.tdiLocked slot then refuse kConflict s
    else if kind = 1 ∧ (o % 0x10000 ≠ 0 ∨ 2 ^ 28 < o + 0xD0000 ∨ o < d.image.shaftUse) then refuse kSaveArea s
    else if kind = 2 ∧ ixs.any badIx then refuse kSaveArea s
    else done (s.modDen slot fun d => { d with saveArea := v })) s

/-- The sum of all slots' budgets on a link but one slot's (R424). -/
def State.budgetSum (s : State) (l except_ : Nat) : Nat :=
  s.dens.foldl (fun n (p : Nat × Den) => if p.1 = except_ then n else n + kget 0 p.2.linkBudget l) 0

/-- LINK_BUDGET (R423, R424): a raise in the states that take a grant, any other write in every state except FREE. -/
def execLinkBudget (q : Req) (v : List Byte) (s : State) : Act := occurs s <|
  slotRequest 0x0D q v (fun slot _ s =>
    let d := s.den slot
    let new (l : Nat) : Nat := natAt v (2 * l) 2
    let links := List.range 32
    let raises := links.any fun l => kget 0 d.linkBudget l < new l
    if links.any fun l => 384 < new l then refuse kRange s
    else if (raises && !grantPhase d) || d.phase == .free then refuse kConflict s
    else if links.any fun l => 384 < s.budgetSum l slot + new l then refuse kNoResource s
    else done (s.modDen slot fun d => { d with linkBudget := links.foldl (fun m l => kput 0 m l (new l)) [] })) s

/-- GUARANTEE (R375): a controller's balance of the slot stays within its limits, which do not depend on it. -/
def execGuarantee (q : Req) (v : List Byte) (s : State) : Act := occurs s <|
  let ix := q.index.toNat
  let slot := q.element.toNat
  need .otherRow (0x2200 ≤ ix && ix < 0x2230) <|
    request q .write v true (fun _ s =>
      let k := ix - 0x2200
      let d := s.den slot
      let old := kget 0 d.guarantees k
      let new := leNat v
      if new = old then done s
      else if (old < new && !grantPhase d) || d.phase == .free then refuse kConflict s
      else if old < new ∧ 256 < s.guarSum k - old + new + s.reg (0x2100 + k) 4 then refuse kNoResource s
      else
        let c := s.ctl k
        let s := s.setCtl k { c with balance := kmod 0 c.balance slot (clampBal (s.balLim k)) }
        done ((s.modDen slot fun d => { d with guarantees := kput 0 d.guarantees k new }).noteChange slot)) s

/-! ### Wells and reservoir (R279, R298, R316) -/

/-- REMAP_REQ (R279). -/
def execRemapReq (q : Req) (v : List Byte) (s : State) : Act := occurs s <|
  let ix := q.index.toNat
  need .otherRow (0x0300 ≤ ix && ix < 0x0310 && q.element.toNat == 0x0C) <|
    request q .write v true (fun _ s =>
      let w := ix - 0x0300
      let x := s.well w
      let sh := leNat v
      if 511 < sh ∨ x.spares.any (fun p => p.2 == sh) then refuse kRange s
      else if x.copying.isSome ∨ x.wanted ≠ [] then refuse kConflict s
      else if x.freeSpare.isNone then refuse kNoResource s
      else done (s.setWell w (x.want sh))) s

/-- ROLL_REQ (R298, R316). -/
def execRollReq (q : Req) (v : List Byte) (s : State) : Act := occurs s <|
  requestOf [(0x0340, 4)] q v (fun _ s =>
    if leNat v ≠ 1 then refuse kRange s
    else if s.reg 0x0340 3 = 1 then refuse kConflict s
    else done s.startRoll) s

/-! ### Batch lists (R425 to R428) -/

/-- An entry of a batch list (R426). -/
inductive Batch where
  | join (member pool : Nat) (rd wr atom : Bool) (vbase len : Nat)
  | leave (member vbase : Nat)
  deriving DecidableEq, Repr

/-- An entry in 32 bytes; none where a field is reserved, misaligned or out of range. A leave may name any VBASE: where it finds no extent
the code is EXT_NONE (R428). -/
def parseBatch (v : Nat) : Option Batch :=
  let va := bitsOf v 64 56
  let len := bitsOf v 128 56
  if bitsOf v 10 6 ≠ 0 ∨ bitsOf v 19 13 ≠ 0 ∨ bitsOf v 120 8 ≠ 0 ∨ bitsOf v 184 72 ≠ 0 then none
  else match bitsOf v 0 8 with
    | 1 => if va % 4096 ≠ 0 ∨ len % 4096 ≠ 0 ∨ len = 0 ∨ 2 ^ 56 < va + len then none
      else some (.join (bitsOf v 32 32) (bitsOf v 8 2) (v.testBit 16) (v.testBit 17) (v.testBit 18) va len)
    | 2 => if len ≠ 0 then none else some (.leave (bitsOf v 32 32) va)
    | _ => none

/-- The holding that is a step pool (R425). -/
def Den.pool (d : Den) (i : Nat) : Option PRange :=
  match d.pools[i]? with
  | some h => d.holdings[h]?
  | none => none

/-- Whether an extent lies in a pool. -/
def Den.inPool (d : Den) (e : Extent) : Bool :=
  (List.range d.pools.length).any fun i => match d.pool i with
    | some p => p.kind == e.kind && p.start ≤ e.tbase && e.tbase + e.len ≤ p.start + p.len
    | none => false

/-- First fit in a pool at 4 KiB granularity, in ascending order (R425): the lowest place that meets no used range. -/
def firstFit (p : PRange) (used : List Extent) (len : Nat) : Option Nat :=
  let near := used.filter fun e => e.kind == p.kind
  let ok (a : Nat) : Bool := p.start ≤ a && a + len ≤ p.start + p.len && !near.any fun e => overlaps e.tbase e.len a len
  let cand := (p.start :: near.map fun e => e.tbase + e.len).filter ok
  match cand with
  | [] => none
  | a :: as => some (as.foldl min a)

/-- The bases that the leaves of a list name. -/
def leavesOf (l : List (Option Batch)) : List Nat := l.filterMap fun e => match e with | some (.leave _ va) => some va | _ => none

/-- One entry, judged against the directory with every leave done and the joins before it granted: its code, or the directory. -/
def State.batchEntry (s : State) (slot : Nat) (old : List Extent) (seen : List (Option Batch)) (e : Option Batch) :
    Except Code State :=
  match e with
  | none => .error kRange
  | some (.leave _ va) =>
    if !(leavesOf seen).contains va && old.any fun x => x.vbase == va && (s.den slot).inPool x then .ok s else .error kExtNone
  | some (.join _ p rd wr atom va len) =>
    match (s.den slot).pool p with
    | none => .error kRange
    | some pool =>
      match firstFit pool (s.den slot).extents len with
      | none => .error kNoResource
      | some a =>
        let x : Extent := { vbase := va, len := len, kind := pool.kind, rd := rd, wr := wr, atom := atom, tbase := a }
        match s.checkEntry slot x none with
        | some c => .error c
        | none => .ok (s.addExtent slot x)

/-- A list's entries in order, after those of `seen`: the first that fails and its code, or the state with every join granted. -/
def State.batchAll (s : State) (slot : Nat) (old : List Extent) (seen : List (Option Batch)) :
    List (Option Batch) → Except (Nat × Code) State
  | [] => .ok s
  | e :: es => match s.batchEntry slot old seen e with
    | .error c => .error (seen.length, c)
    | .ok s => State.batchAll s slot old (seen ++ [e]) es

/-- The entries of a batch list (R426). -/
def batchOf (bytes : List Byte) : List (Option Batch) := (List.range (bytes.length / 32)).map fun i => parseBatch (natAt bytes (32 * i) 32)

/-- The extents of a slot that the leaves of a list name. -/
def Den.leaves (d : Den) (es : List (Option Batch)) : List Extent :=
  d.extents.filter fun x => d.inPool x && (leavesOf es).contains x.vbase

/-- A batch list is judged as one unit, as though every leave were done already (R427, R428): the first entry that fails and its code, or
the state with every join granted. -/
def State.admitBatch (s : State) (slot : Nat) (es : List (Option Batch)) : Except (Nat × Code) State :=
  let d := s.den slot
  (s.setDen slot { d with extents := d.extents.filter fun x => !(d.leaves es).contains x }).batchAll slot d.extents [] es

/-- The member that an entry names (R426). -/
def Batch.member : Batch → Nat
  | .join m _ _ _ _ _ _ => m
  | .leave m _ => m

/-- The members of some entries are reported back with a code (R426; by the outbox: DESIGN CHOICE, log entry 192). -/
def State.reportMembers (s : State) (slot : Nat) (es : List (Option Batch)) (c : Code) : State :=
  es.foldl (fun (s : State) e => match e with | some b => s.emit (.member slot b.member c) | none => s) s

/-- The joins of a list alone, once its leaves are done (R427). -/
def joinsOf (es : List (Option Batch)) : List (Option Batch) := es.filter fun e => match e with | some (.leave _ _) => false | _ => true

/-! ### Steps (R405, R492) -/

/-- The queues bound to a slot that hold a ready STEP entry, in order. -/
def State.readyQueues (s : State) (slot : Nat) : List Nat :=
  (s.host.queues.filter fun (_, q) => q.slot == slot && (match q.cur with | some c => c.phase == .ready | none => false)).map (·.1)

/-- The queue whose turn it is: round-robin by queue number (R492); one whose batch list is under way keeps it. -/
def State.turnQueue (s : State) (slot : Nat) : Option Nat :=
  let l := s.readyQueues slot
  match l.find? fun q => (match (s.queue q).cur with | some c => c.left | none => false) with
  | some q => some q
  | none =>
    match l.find? fun q => kget 0 s.host.lastQueue slot ≤ q with
    | some q => some q
    | none => l.head?

/-- A tile begins a step (R160, R405, R491): at the step's address, MSTAT's step flags clear, S30 and S31 given. -/
def Tile.beginStep (x : Tile) (addr : Nat) (args : Option (Nat × Nat)) : Tile :=
  let x := { x with phase := .running, addr := addr, drained := 0, idle := 0, loops := [], calls := [], frozen := none,
                    mstat := x.mstat &&& ~~~(BitVec.ofNat 64 (2 ^ 32 * (2 ^ 14 - 1))) }
  match args with
  | some (a, b) => { x with s := kput 0 (kput 0 x.s 30 (BitVec.ofNat 64 a)) 31 (BitVec.ofNat 64 b) }
  | none => x

/-- The step of a queue's entry starts (R405, R491, R492): its tiles begin, and the origin is told. -/
def State.startStep (s : State) (slot q waited : Nat) (c : Cur) : State :=
  let d := s.den slot
  let s := s.wakeBanks slot waited
  let args := if c.entry.arg then some (c.entry.w6, c.entry.w7) else none
  let s := d.rect.tiles.foldl (fun (s : State) t => s.modTile t fun x => x.beginStep d.nextAddr args) s
  let first := (s.tile d.rect.origin).bundle
  let s := s.modDen slot fun d =>
    { d with stepActive := true, stepQueue := some q, reshapeReady := false,
             stops := 0,
             wave := { d.wave with first := first, halt := none, throttles := [], votes := [], lanes := [] } }
  let s := s.say 1 .stepStart s.hostEnd (s.tileEnd d.rect.origin) slot d.stepCount.toNat
  let s := { s with host := { s.host with lastQueue := kput 0 s.host.lastQueue slot (q + 1) } }
  s.setCur q .running

/-- STEP_START (R335, R405, R427, R428, R492): at a step boundary of a RUNNING den, the ready entry whose turn it is becomes the step. Its
batch list comes first: every entry is judged; the leaves are revoked under R335; once the last report has come, the command
comes again, grants the joins and starts the step. `waited` tile cycles have passed since the last step for the banks that wake (R60). -/
def execStepStart (i : SlotIx) (waited : Nat) (s : State) : Act := occurs s <|
  let d := s.den i.val
  need .denPhase (d.phase == .running && !d.wave.stopping && !d.stepActive &&
      d.rect.tiles.all fun t => (s.tile t).phase == .stopped) <|
    needSome .noSuch (s.turnQueue i.val) fun q =>
      needSome .noSuch (s.queue q).cur fun c =>
        let es := batchOf c.batch
        let leaves := d.leaves es
        if c.left then
          need .denPhase (!d.invals.any (·.resp.isNone)) <| match s.batchAll i.val [] [] (joinsOf es) with
          | .error (n, k) => .next ((s.reportMembers i.val ((joinsOf es).drop n |>.take 1) k).endEntry q kBatchRefused n k)
          | .ok s => .next ((s.reportMembers i.val es kOk).startStep i.val q waited c)
        else match s.admitBatch i.val es with
        | .error (n, k) => .next ((s.reportMembers i.val ((es.drop n).take 1) k).endEntry q kBatchRefused n k)
        | .ok t =>
          if leaves.isEmpty then .next ((t.reportMembers i.val es kOk).startStep i.val q waited c)
          else
            let s := leaves.foldl (fun (s : State) x => s.startInval i.val x 0 none) s
            .next (s.setQueue q { s.queue q with cur := some { c with left := true } })

/-- STEP_END (R203, R405, R406): the reports of all tiles have arrived. -/
def execStepEnd (i : SlotIx) (s : State) : Act := occurs s <|
  let d := s.den i.val
  need .denPhase (d.phase == .running && s.stepOver i.val) <| .next (s.endStep i.val)

end Sys2Proof.Machine
end

