-- ==== Sys2Proof/Machine/HostQueues.lean ====
section
/-! DEFINITION. Machine/HostQueues.lean: doorbells, submission entries, completion records and fences (R484 to R500) as commands. -/

namespace Sys2Proof.Machine

open Sys2Proof

/-- HOST_DMA (R508). -/
abbrev kHostDma : Code := 0x0C02
/-- DISCARDED (R508). -/
abbrev kDiscarded : Code := 0x0C01

/-! ### Doorbells (R485, R486) -/

/-- Whether a ring pointer may move to an index: below the entry count, and not past the opposite pointer (R486). -/
def ringMove (n from_ to_ room : Nat) : Bool := to_ < n && (to_ + n - from_) % n ≤ room

/-- A doorbell that is ignored (R486). -/
def State.doorbellDrop (s : State) : State := s.bump 0x1200 2

/-- A doorbell on a slot's page (R485, R486): `move` gives the queue after it, none where a pointer would pass its opposite. -/
def doorbell (page v : Nat) (kindOk : Bool) (move : Queue → Nat → Option Queue) (s : State) : State :=
  let q := v % 4096
  let x := s.queue q
  if x.phase = .disabled ∨ x.slot ≠ page ∨ !kindOk then s.doorbellDrop
  else match move x (v / 2 ^ 16) with
    | some x => s.setQueue q x
    | none => s.doorbellDrop.stopQueue q (some kRange)

/-- SUBMISSION_DOORBELL (R485, R486): KIND 0, or a reserved KIND, which is ignored. -/
def execSubmissionDoorbell (page : SlotIx) (v : BitVec 32) (s : State) : Act := occurs s <|
  let kind := bitsOf v.toNat 12 4
  need .otherRow (kind != 1) <|
    .next (doorbell page.val v.toNat (kind == 0) (fun x i =>
      let n := 2 ^ x.sqLog
      if ringMove n x.sqTail i ((x.sqHead + n - x.sqTail + n - 1) % n) then some { x with sqTail := i } else none) s)

/-- COMPLETION_DOORBELL (R485, R486): KIND 1. -/
def execCompletionDoorbell (page : SlotIx) (v : BitVec 32) (s : State) : Act := occurs s <|
  need .otherRow (bitsOf v.toNat 12 4 == 1) <|
    .next (doorbell page.val v.toNat true (fun x i =>
      let n := 2 ^ x.cqLog
      if ringMove n x.cqHead i ((x.cqTail + n - x.cqHead) % n) then some { x with cqHead := i } else none) s)

/-! ### Submission entries (R491, R492) -/

/-- A submission entry in 64 bytes (R491). What W3 and W4 hold is checked only where BEN is 1 (DEDUCED, log entry 78). -/
def parseEntry (bs : List Byte) : Entry :=
  let w (i : Nat) := natAt bs (8 * i) 8
  let w0 := w 0
  let op := bitsOf w0 0 8
  let ben := w0.testBit 10
  let clean := bitsOf w0 13 3 == 0 && bitsOf w0 48 16 == 0 && w 1 < 2 ^ 40 && w 2 < 2 ^ 40 && w 3 % 32 == 0 && w 4 < 2 ^ 11 &&
    (!ben || (1 ≤ w 4 && w 4 ≤ 1024))
  { op := op, wen := w0.testBit 8, sen := w0.testBit 9, ben := ben, arg := w0.testBit 11, noirq := w0.testBit 12, clean := clean,
    wfen := bitsOf w0 16 16, sfen := bitsOf w0 32 16, w1 := w 1, w2 := w 2, w3 := w 3, w4 := w 4, w5 := w 5, w6 := w 6, w7 := w 7 }

/-- Whether an entry passes step 1 of R492. -/
def Entry.valid (e : Entry) : Bool := e.clean && (e.op == 1 || (e.op == 2 && !e.ben && !e.arg))

/-- The PASID that a queue's ring accesses carry (R490). -/
def Queue.ringPasid (x : Queue) : Option Nat := if x.pasid.getLsbD 31 then some (x.pasid.toNat % 2 ^ 20) else none

/-- Whether a queue takes its next entry now (R488, R492, R504). -/
def State.takesEntry (s : State) (q : Nat) : Bool :=
  let x := s.queue q
  x.phase == .active && x.cur.isNone && x.discards.isEmpty && x.sqHead != x.sqTail && !s.host.d3hot && s.hostTag

/-- An entry past its checks goes on (R492): a FENCE entry completes, a STEP entry is ready for its slot. -/
def State.entryGo (s : State) (q : Nat) : State := s.waitDone q

/-- Step 2 of R492, and step 3 where nothing is waited for. -/
def State.entryWait (s : State) (q : Nat) (e : Entry) : State :=
  if !e.wen then s.entryGo q
  else
    let x := s.fence e.wfen
    if !x.live then s.endEntry q kRange
    else if waitMet x.value.toNat e.w1 then s.entryGo q
    else if x.abandoned then s.endEntry q kAbandoned
    else if 255 ≤ x.refs.length + x.waiters.length then s.endEntry q kNoResource
    else s.setFence e.wfen { x with waiters := x.waiters ++ [q] }

/-- The host interface reads a queue's next entry (R491, R492): `entry` and `batch` are what the host's memory answers. -/
def State.takeEntry (s : State) (q : Nat) (bs : Option (List Byte)) (batch : HostRead) : State :=
  let x := s.queue q
  let e := parseEntry (bs.getD (List.replicate 64 0))
  let c : Cur := { entry := e, index := x.sqHead, batch := [], phase := .waiting }
  let s := s.setQueue q { x with sqHead := (x.sqHead + 1) % 2 ^ x.sqLog, cur := some c }
  let s := s.emit (.hostRead x.ringPasid (x.sqBase + 64 * x.sqHead) 64 false)
  if bs.isNone then s.endEntry q kHostDma
  else if !e.valid then s.endEntry q kRange
  else if e.ben then
    let s := s.emit (.hostRead x.ringPasid e.w3 (32 * e.w4) false)
    match batch with
    | .refused => s.endEntry q kHostDma
    | .data l =>
      let x := s.queue q
      (s.setQueue q { x with cur := some { c with batch := l } }).entryWait q e
  else s.entryWait q e

/-- Whether the answers given for an entry and its batch list have the sizes that were read. -/
def entryFits (entry batch : HostRead) : Bool :=
  match entry with
  | .refused => true
  | .data bs =>
    let e := parseEntry bs
    bs.length == 64 && (!(e.valid && e.ben) || match batch with
      | .refused => true
      | .data l => l.length == 32 * e.w4)

/-- STEP (R427, R491, R492, R497): the next entry is taken; one with OP 0x02 is FENCE_ENTRY's. -/
def execStep (q : QIx) (entry batch : HostRead) (s : State) : Act := occurs s <|
  need .noSuch (s.takesEntry q.val) <|
    need .badFact (entryFits entry batch) <|
      match entry with
      | .refused => .next (s.takeEntry q.val none batch)
      | .data bs => need .otherRow ((parseEntry bs).op != 2) <| .next (s.takeEntry q.val (some bs) batch)

/-- FENCE_ENTRY (R491, R492, R497). -/
def execFenceEntry (q : QIx) (entry : HostRead) (s : State) : Act := occurs s <|
  need .noSuch (s.takesEntry q.val) <|
    match entry with
    | .refused => .next (s.takeEntry q.val none .refused)
    | .data bs => need .badFact (bs.length == 64) <| need .otherRow ((parseEntry bs).op == 2) <|
        .next (s.takeEntry q.val (some bs) .refused)

/-- WAIT_OWL_EXPIRY (R490, R492). -/
def execWaitOwlExpiry (q : QIx) (s : State) : Act := occurs s <|
  let x := s.queue q.val
  needSome .noSuch x.cur fun c =>
    need .noSuch (c.phase == .waiting && x.waitOwl != 0) <| .next ((s.dropWait q.val).endEntry q.val kTimeout)

/-! ### Completion records (R493, R494) -/

/-- A completion record (R494). -/
def recordBytes (first : Bool) (c : Cur) : Code × List Byte :=
  match c.phase with
  | .done st flags badIx badCode steps =>
    (st, toLE 8 (st.toNat + (if first then 2 ^ 16 else 0) + 2 ^ 32 * c.index) ++ toLE 8 c.entry.w5 ++
      toLE 8 (flags.toNat % 2 ^ 14 + 2 ^ 16 * badIx + 2 ^ 32 * badCode.toNat) ++ toLE 8 steps.toNat)
  | _ => (kOk, [])

/-- The record that a queue writes next: that of the entry it has taken, then those that DISCARD has ended. -/
def Queue.nextRecord (x : Queue) : Option (Cur × Queue) :=
  match x.cur with
  | some c => (match c.phase with
    | .done .. => some (c, { x with cur := none })
    | _ => none)
  | none => match x.discards with
    | c :: cs => some (c, { x with discards := cs })
    | [] => none

/-- COMPLETION_RECORD_WRITE (R493, R494): a ring that keeps one record free has room (DEDUCED, log entry 74). -/
def execCompletionRecordWrite (q : QIx) (s : State) : Act := occurs s <|
  let x := s.queue q.val
  let n := 2 ^ x.cqLog
  needSome .noSuch x.nextRecord fun (c, y) =>
    need .noSuch ((x.cqTail + 1) % n != x.cqHead) <|
      let (st, rec_) := recordBytes x.first c
      let t := (x.cqTail + 1) % n
      let s := (s.setQueue q.val { y with cqTail := t, first := if t = 0 then !x.first else x.first }).emit
        (.hostWrite x.ringPasid (x.cqBase + 32 * x.cqTail) rec_ false)
      let s := if st = kOk ∧ c.entry.sen then s.signalFence c.entry.sfen c.entry.w2 else s
      let s := if !c.entry.noirq && x.source != 0xFFFF then s.raise (258 + x.source) else s
      .next (if st = kOk then s else s.stopQueue q.val (some st))

/-! ### The queues' dictionary writes (R488, R490) -/

/-- A HANDLE (R439): its number, class and generation. -/
def handle (v : List Byte) : Nat × Nat × Nat := (natAt v 0 3, natAt v 3 1, natAt v 4 4)

/-- Whether a slot takes no queue (R488). -/
def noQueues (d : Den) : Bool := d.phase == .free || d.phase == .draining || d.phase == .scrubbing

/-- The owner of a slot (R501). -/
def State.owner (s : State) (slot : Nat) : Nat := kget 0 s.host.owners slot

/-- QUEUE_CREATE (R487, R488, R490). -/
def execQueueCreate (q : Req) (v : List Byte) (s : State) : Act := occurs s <|
  requestOf [(0x1210, 0)] q v (fun _ s =>
    let (n, cls, gen) := handle v
    let slot := natAt v 8 1
    let source := natAt v 10 2
    let pasid := natAt v 40 4
    if cls ≠ 1 then refuse kType s
    else if 4095 < n ∨ gen ≠ 0 ∨ natAt v 9 1 ≠ 0 ∨ natAt v 26 6 ≠ 0 ∨ natAt v 48 16 ≠ 0 ∨ (255 < source ∧ source ≠ 0xFFFF) ∨
        natAt v 24 1 < 4 ∨ 15 < natAt v 24 1 ∨ natAt v 25 1 < 4 ∨ 15 < natAt v 25 1 ∨ natAt v 16 8 % 4096 ≠ 0 ∨
        natAt v 32 8 % 4096 ≠ 0 ∨ bitsOf pasid 20 11 ≠ 0 ∨ 3600000 < natAt v 44 4 ∨ natAt v 12 4 ≠ s.owner slot then refuse kRange s
    else if (s.queue n).phase ≠ .disabled ∨ noQueues (s.den slot) then refuse kConflict s
    else
      done (s.setQueue n
        { phase := .active, slot := slot, gen := (s.queue n).gen + 1, source := source, owner := natAt v 12 4,
          sqBase := natAt v 16 8, sqLog := natAt v 24 1, cqBase := natAt v 32 8, cqLog := natAt v 25 1,
          pasid := BitVec.ofNat 32 pasid, waitOwl := natAt v 44 4 })) s

/-- A queue becomes DISABLED (R488, R501): its entries go without a record or a signal; a step of its own stays active and is reported
nowhere. Its generation stays. -/
def State.disableQueue (s : State) (q : Nat) : State :=
  let s := s.untake q
  let x := s.queue q
  let s := s.modDen x.slot fun d => { d with stepQueue := if d.stepQueue = some q then none else d.stepQueue }
  s.setQueue q { gen := x.gen }

/-- A write of QUEUE_CTL (R488, R507): STOP, START and DISCARD are 1 to 3; `op` is the row's own. -/
def queueCtl (op : Nat) (q : Req) (v : List Byte) (run : Nat → Queue → State → Ans × State) (s : State) : Out State :=
  let given := natAt v 8 1
  need .otherRow (given == op || (op == 1 && (given == 0 || 3 < given))) <|
    requestOf [(0x1210, 1)] q v (fun _ s =>
      let (n, cls, gen) := handle v
      if cls ≠ 1 then refuse kType s
      else if 4095 < n ∨ given ≠ op ∨ natAt v 9 7 ≠ 0 ∨ gen ≠ (s.queue n).gen.toNat then refuse kRange s
      else run n (s.queue n) s) s

/-- QUEUE_STOP (R488). -/
def execQueueStop (q : Req) (v : List Byte) (s : State) : Act := occurs s <|
  queueCtl 1 q v (fun n x s => if x.phase ≠ .active then refuse kConflict s else done (s.stopQueue n none)) s

/-- QUEUE_START (R488). -/
def execQueueStart (q : Req) (v : List Byte) (s : State) : Act := occurs s <|
  queueCtl 2 q v (fun n x s =>
    if x.phase ≠ .stopped ∨ noQueues (s.den x.slot) then refuse kConflict s
    else done (s.setQueue n { x with phase := .active })) s

/-- The record of a discarded entry (R488): its cookie and NOIRQ are the entry's own, read from host memory; of an entry that the host
does not give they are free (DESIGN CHOICE, log entry 79). -/
def State.discardEntry (s : State) (q index : Nat) (r : HostRead) : State :=
  let x := s.queue q
  let s := s.emit (.hostRead x.ringPasid (x.sqBase + 64 * index) 64 false)
  let (bs, s) := match r with
    | .data bs => (bs, s)
    | .refused => s.freeBytes 64
  let e := parseEntry bs
  let steps := (s.den x.slot).stepCount
  let c : Cur := { entry := { e with sen := false }, index := index, batch := [], phase := .done kDiscarded 0 0 0 steps }
  s.setQueue q { x with discards := x.discards ++ [c] }

/-- QUEUE_DISCARD (R488): `entries` is what the host answers for the entries between head and tail. -/
def execQueueDiscard (q : Req) (v : List Byte) (entries : List HostRead) (s : State) : Act := occurs s <|
  let x := s.queue (natAt v 0 3)
  let n := 2 ^ x.sqLog
  let count := (x.sqTail + n - x.sqHead) % n
  let fits (r : HostRead) : Bool := match r with | .refused => true | .data bs => bs.length == 64
  need .badFact (x.phase != .stopped || (entries.length == count && entries.all fits)) <|
    queueCtl 3 q v (fun n x s =>
      if x.phase ≠ .stopped then refuse kConflict s
      else
        let s := entries.zipIdx.foldl (fun (s : State) (r, i) => s.discardEntry n ((x.sqHead + i) % 2 ^ x.sqLog) r) s
        let y := s.queue n
        done (s.setQueue n { y with sqHead := x.sqTail })) s

/-- QUEUE_DESTROY (R488). -/
def execQueueDestroy (q : Req) (v : List Byte) (s : State) : Act := occurs s <|
  requestOf [(0x1210, 2)] q v (fun _ s =>
    let (n, cls, gen) := handle v
    if cls ≠ 1 then refuse kType s
    else if 4095 < n ∨ gen ≠ (s.queue n).gen.toNat then refuse kRange s
    else if (s.queue n).phase ≠ .stopped then refuse kConflict s
    else done (s.disableQueue n)) s

/-! ### Fences (R495 to R500) -/

/-- FEN_SIGNAL (R495, R496): `wide` says that the write was of 64 bits. -/
def execFenSignal (f : FenIx) (v : BitVec 64) (wide : Bool) (s : State) : Act := occurs s <| .next (s.signalFence f.val v.toNat wide)

/-- FEN_SIGNAL_ALIAS (R499). -/
def execFenSignalAlias (f : FenIx) (v : BitVec 64) (wide : Bool) (s : State) : Act := occurs s <|
  .next (s.signalFence f.val v.toNat (wide && (s.fence f.val).pci))

/-- A fence's number where a handle names it with its present generation (R440, R500), else the code. -/
def State.fenceNamed (s : State) (v : List Byte) : Except Code Nat :=
  let (n, cls, gen) := handle v
  if cls ≠ 2 then .error kType else if 65535 < n ∨ gen ≠ (s.fence n).gen.toNat then .error kRange else .ok n

/-- FEN_CREATE (R495, R500). -/
def execFenCreate (q : Req) (v : List Byte) (s : State) : Act := occurs s <|
  requestOf [(0x1220, 0)] q v (fun _ s =>
    let (n, cls, gen) := handle v
    let owner := natAt v 8 4
    if cls ≠ 2 then refuse kType s
    else if 65535 < n ∨ gen ≠ 0 ∨ natAt v 12 4 ≠ 0 ∨ 2 ^ 40 ≤ natAt v 16 8 then refuse kRange s
    else if (s.fence n).live then refuse kConflict s
    else
      done (s.setFence n { live := true, value := BitVec.ofNat 40 (natAt v 16 8), creator := owner, refs := [owner],
                           gen := (s.fence n).gen + 1 })) s

/-- FEN_REF (R500). -/
def execFenRef (q : Req) (v : List Byte) (s : State) : Act := occurs s <|
  requestOf [(0x1220, 1)] q v (fun _ s =>
    match s.fenceNamed v with
    | .error c => refuse c s
    | .ok n =>
      let x := s.fence n
      if natAt v 12 4 ≠ 0 then refuse kRange s
      else if !x.live || x.abandoned then refuse kConflict s
      else if 255 ≤ x.refs.length + x.waiters.length then refuse kNoResource s
      else done (s.setFence n { x with refs := x.refs ++ [natAt v 8 4] })) s

/-- FEN_UNREF (R500). -/
def execFenUnref (q : Req) (v : List Byte) (s : State) : Act := occurs s <|
  requestOf [(0x1220, 2)] q v (fun _ s =>
    match s.fenceNamed v with
    | .error c => refuse c s
    | .ok n =>
      let x := s.fence n
      if natAt v 12 4 ≠ 0 ∨ !x.refs.contains (natAt v 8 4) then refuse kRange s
      else done (s.setFence n ({ x with refs := x.refs.erase (natAt v 8 4) }).settle)) s

/-- FEN_EXPORT (R500). -/
def execFenExport (q : Req) (v : List Byte) (s : State) : Act := occurs s <|
  requestOf [(0x1220, 3)] q v (fun _ s =>
    match s.fenceNamed v with
    | .error c => refuse c s
    | .ok n =>
      let x := s.fence n
      let flags := natAt v 8 1
      if 3 < flags ∨ natAt v 9 3 ≠ 0 then refuse kRange s
      else if !x.live then refuse kConflict s
      else done (s.setFence n { x with pci := flags.testBit 0, fabric := flags.testBit 1, job := BitVec.ofNat 32 (natAt v 12 4) })) s

end Sys2Proof.Machine
end

