-- ==== Sys2Proof/Machine/HostPortOps.lean ====
section
/-! DEFINITION. Machine/HostPortOps.lean: owners and teardown, the aperture, ring pages, and the PCI Express function's own events
(R452 to R454, R481, R482, R501 to R506) as commands. -/

namespace Sys2Proof.Machine

open Sys2Proof

/-! ### Ring pages (R452 to R454) -/

/-- HIF_DRQ_TAIL (R452 to R454): a value out of range, or past the head, stops the page. -/
def execHifDrqTail (p : PageIx) (v : BitVec 32) (s : State) : Act := occurs s <|
  let x := s.page p.val
  if x.overrun then .next s
  else .next (s.setPage p.val (if ringMove 512 x.drqTail v.toNat ((x.drqHead + 512 - x.drqTail + 511) % 512)
    then { x with drqTail := v.toNat } else { x with overrun := true }))

/-- HIF_DRS_HEAD (R452, R453). -/
def execHifDrsHead (p : PageIx) (v : BitVec 32) (s : State) : Act := occurs s <|
  let x := s.page p.val
  if x.overrun then .next s
  else .next (s.setPage p.val (if ringMove 448 x.drsHead v.toNat ((x.drsTail + 448 - x.drsHead) % 448)
    then { x with drsHead := v.toNat } else { x with overrun := true }))

/-- A page's unconsumed requests and responses are discarded and its pointers are zero (R453). -/
def State.emptyPage (s : State) (p : Nat) : State :=
  let x := s.page p
  let mine (r : Resp) : Bool := match r.q.fe with | .page n => n.val == p | _ => false
  let s := { s with dict := { s.dict with waiting := s.dict.waiting.filter fun r => !mine r } }
  s.setPage p { enable := x.enable, irqEn := x.irqEn, req := x.req, rsp := x.rsp }

/-- EMPTY (R453): accepted only while ENABLE is 0. -/
def execEmpty (p : PageIx) (s : State) : Act := occurs s <| .next (if (s.page p.val).enable then s else s.emptyPage p.val)

/-- HIF_DCTL (R9, R453): ENABLE, IRQ_EN, and EMPTY where the page was disabled. -/
def execHifDctl (p : PageIx) (v : BitVec 32) (s : State) : Act := occurs s <|
  let was := (s.page p.val).enable
  let s := if v.getLsbD 2 && !was then s.emptyPage p.val else s
  .next (s.setPage p.val { s.page p.val with enable := v.getLsbD 0, irqEn := v.getLsbD 1 })

/-! ### Owners (R501) -/

/-- SLOT_OWNER (R501, R507). -/
def execSlotOwner (q : Req) (v : List Byte) (s : State) : Act := occurs s <|
  need .otherRow (q.index.toNat == 0x1201) <|
    request q .write v true (fun _ s =>
      done { s with host := { s.host with owners := kput 0 s.host.owners q.element.toNat (leNat v) } }) s

/-- A fence is abandoned (R497, R501): the waits that its value does not satisfy end. -/
def State.abandonFence (s : State) (f : Nat) : State :=
  let x := s.fence f
  let s := s.setFence f ({ x with abandoned := true, waiters := [] }).settle
  x.waiters.foldl (fun s q => s.endEntry q kAbandoned) s

/-- RELEASE as the host interface issues it (R501, R506): to a slot in a state that takes it. -/
def State.forceRelease (s : State) (slot : Nat) : State := (s.writeCmd slot ([10] ++ List.replicate 31 0)).2

/-- The Sett freezes a RUNNING den (R396). -/
def State.freezeBySett (s : State) (slot : Nat) : State :=
  let d := s.den slot
  if d.phase = .running ∧ !d.wave.stopping then
    (s.modDen slot fun d => { d with settFreeze := true }).stopWave slot 0
  else s

/-- Step 6 of R501 for one slot: its active step is reported nowhere; its TDI goes to ERROR (R603). -/
def State.tearSlot (s : State) (keep : Bool) (slot : Nat) : State :=
  let s := (s.freezeBySett slot).tdiError slot
  let s := s.modDen slot fun d => { d with stepQueue := none }
  if keep then { s with host := { s.host with owners := kput 0 s.host.owners slot 0 } } else s.forceRelease slot

/-- The slots of an owner that are not at rest: those that SLOT_OWNER names; of owner 0, which every other slot names, those that hold
a den. -/
def State.slotsOf (s : State) (owner : Nat) : List Nat :=
  (List.range 256).filter fun n => s.owner n == owner && (owner != 0 || (s.den n).phase != .free)

/-- The teardown of an owner (R501). -/
def State.teardown (s : State) (owner : Nat) (keep : Bool) : State :=
  let qs := (s.host.queues.filter fun (_, x) => x.phase != .disabled && x.owner == owner).map (·.1)
  let s := qs.foldl State.disableQueue s
  let fs := (s.host.fences.filter fun (_, x) => x.live && x.creator == owner).map (·.1)
  let s := fs.foldl State.abandonFence s
  let hs := (s.host.fences.filter fun (_, x) => x.live && x.refs.contains owner).map (·.1)
  let s := hs.foldl (fun (s : State) f =>
    let x := s.fence f
    s.setFence f ({ x with refs := x.refs.filter (· != owner) }).settle) s
  let mine (a : Option Aper) : Bool := match a with | some a => a.owner == owner | none => false
  let s := { s with host := { s.host with apers := s.host.apers.filter fun (_, a) => !mine a } }
  let slots := s.slotsOf owner
  let s := slots.foldl (fun (s : State) n =>
    (s.setPage (n + 1) { s.page (n + 1) with enable := false }).emptyPage (n + 1)) s
  slots.foldl (fun s n => s.tearSlot keep n) s

/-- OWNER_TEARDOWN (R501). -/
def execOwnerTeardown (q : Req) (v : List Byte) (s : State) : Act := occurs s <|
  requestOf [(0x1240, 0)] q v (fun _ s =>
    let owner := natAt v 0 4
    if owner = 0 ∨ 1 < natAt v 4 1 ∨ natAt v 5 3 ≠ 0 then refuse kRange s
    else done (s.teardown owner (natAt v 4 1 == 1))) s

/-! ### The aperture (R502, R503) -/

/-- APER_OVERLAP (R508). -/
abbrev kAperOverlap : Code := 0x0C03

/-- APER_MAP (R483, R502). -/
def execAperMap (q : Req) (v : List Byte) (s : State) : Act := occurs s <|
  requestOf [(0x1230, 0)] q v (fun _ s =>
    let i := natAt v 0 2
    let slot := natAt v 2 1
    let flags := natAt v 3 1
    let off := natAt v 8 8
    let len := natAt v 16 8
    let base := natAt v 24 8
    let bad (n : Nat) : Bool := n == 0 || n % 0x10000 != 0
    let meets (a : Option Aper) : Bool := match a with | some a => overlaps a.off a.len off len | none => false
    if 1023 < i ∨ 3 < flags ∨ bad off ∨ bad len ∨ bad base ∨ 2 ^ s.host.bar4Log < off + len then refuse kRange s
    else if (kget none s.host.apers i).isSome ∨ s.tdiLocked slot ∨ !revokePhase (s.den slot) then refuse kConflict s
    else if s.host.apers.any fun (_, a) => meets a then refuse kAperOverlap s
    else
      let a : Aper := { slot := slot, rd := flags.testBit 0, wr := flags.testBit 1, owner := natAt v 4 4, off := off, len := len,
                        base := base }
      done { s with host := { s.host with apers := kput none s.host.apers i (some a) } }) s

/-- APER_UNMAP (R483, R503): of an index not in use, RANGE (DESIGN CHOICE, log entry 80). -/
def execAperUnmap (q : Req) (v : List Byte) (s : State) : Act := occurs s <|
  requestOf [(0x1230, 1)] q v (fun _ s =>
    match kget none s.host.apers (leNat v) with
    | none => refuse kRange s
    | some _ => done { s with host := { s.host with apers := kput none s.host.apers (leNat v) none } }) s

/-- Where an aperture access goes (R503): none where it is refused. The host interface's engine translates it (R328); a miss is filled
within the access. -/
def State.aperture (s : State) (off : Nat) (k : Access) : Option Target × State :=
  if s.host.d3hot then (none, s)
  else match s.host.apers.findSome? fun (_, a) => match a with
      | some a => if a.off ≤ off ∧ off < a.off + a.len then some a else none
      | none => none with
    | none => (none, s)
    | some a =>
      let d := s.den a.slot
      let va := a.base + (off - a.off)
      match s.engineLookup 32 a.slot va with
      | (none, s) => (none, s)
      | (some e, s) =>
        let right := match k with
          | .read => a.rd && e.rd
          | .write .. => a.wr && e.wr
          | _ => false
        (if e.kind ≤ 2 && right && revokePhase d then some (e.target va) else none, s)

/-- A read that Osdin completes with Unsupported Request: AER records it (R480), in the bit that PCI Express gives it (PRESUMED, log entry
199). -/
def State.refusedRead (s : State) : State := { s with host := { s.host with aerUnc := s.host.aerUnc ||| 0x100000 } }

/-- The slot of the aperture entry that an offset lies in. -/
def State.aperSlot (s : State) (off : Nat) : Nat :=
  (s.host.apers.findSome? fun (_, a) => match a with
    | some a => if a.off ≤ off ∧ off < a.off + a.len then some a.slot else none
    | none => none).getD 0

/-- The mark that a controller has put on the transfer (R377, R378): its hold keeps the DMA slot of the host interface. -/
def State.keepDma (s : State) (slot : Nat) (t : Target) : State :=
  let (h, s) := s.takeMark slot t.ctl
  if h.ns = 0 then s else { s with host := { s.host with places := s.host.places ++ [h.ns] } }

/-- APERTURE_ACCESS (R378, R503, R504): a line, or part of one. Of a served read that meets a memory error, which R503 does not decide, the
host sees Unsupported Request (DESIGN CHOICE, log entry 76). -/
def execApertureAccess (off : BitVec 42) (k : Access) (m : LineMeet) (s : State) : Act := occurs s <|
  let reads : Bool := match k with | .read => true | _ => false
  let fits : Bool := match k with
    | .read => true
    | .write o data => o + data.length ≤ 64 && data.length != 0
    | _ => false
  need .badFact (fits && off.toNat % 64 == 0) <|
    match s.aperture off.toNat k with
    | (none, s) =>
      let s := s.bump 0x1200 3
      .next (if reads then s.refusedRead.emit (.aperture none) else s)
    | (some t, s) =>
      let (src, dst) := if reads then (s.memEnd t, s.hostEnd) else (s.hostEnd, s.memEnd t)
      let (c, bs, s) := (s.haul .hostDma src dst 0 1).access t k m
      let s := s.keepDma (s.aperSlot off.toNat) t
      .next (if reads then s.emit (.aperture (if c = kOk then some bs else none)) else s)

/-! ### The function (R481, R482, R504 to R506) -/

/-- FUNCTION_LEVEL_RESET (R506, R584). Owner 0 is among the owners that hold something (DEDUCED, log entry 75).
Memory Space Enable and the ATS Enable go to 0, as PCI Express has them (PRESUMED, log entry 185). -/
def execFunctionLevelReset (s : State) : Act := occurs s <|
  let ofQueue (p : Nat × Queue) : List Nat := if p.2.phase = .disabled then [] else [p.2.owner]
  let ofFence (p : Nat × Fence) : List Nat := if p.2.live then p.2.creator :: p.2.refs else []
  let ofAper (p : Nat × Option Aper) : List Nat := match p.2 with | some a => [a.owner] | none => []
  let owners := (s.host.queues.flatMap ofQueue ++ s.host.fences.flatMap ofFence ++ s.host.apers.flatMap ofAper ++
    s.host.owners.map (fun p : Nat × Nat => p.2) ++ [0]).eraseDups
  let s := owners.foldl (fun (s : State) o => s.teardown o false) s
  let s := (kkeys s.host.queues).foldl State.disableQueue s
  let fences := s.host.fences.map fun (n, x) => (n, ({ gen := x.gen } : Fence))
  let fences := fences.foldl (fun m (p : Nat × Fence) => kput {} m p.1 p.2) []
  let s := { s with host := { s.host with fences := fences, apers := [], owners := [], memEnable := false, atsEnable := false, atc := [] } }
  let s := (List.range 257).foldl (fun (s : State) p => (s.emptyPage p).setPage p {}) s
  .next (({ s with ic := s.ic.flr } : State).bump 0x1200 4)

/-- D3HOT_ENTRY (R504). -/
def execD3hotEntry (s : State) : Act := occurs s <|
  need .chipPhase (!s.host.d3hot) <|
    let s := { s with host := { s.host with d3hot := true } }
    .next ((List.range 256).foldl State.freezeBySett s)

/-- D0_RETURN (R504, R580, R583): the host vectors' domain is awake again. -/
def execD0Return (s : State) : Act := occurs s <|
  need .chipPhase s.host.d3hot <|
    let ic := s.ic.setDom 0 { s.ic.dom 0 with asleep := false, wake := false }
    .next { s with host := { s.host with d3hot := false }, ic := ic }

/-- A field of the PCI Express function (R479 to R482, R504), laid out as the PCI Express Base Specification has it (PRESUMED, log entry 199): PMCSR
has No_Soft_Reset in bit 3; the device capabilities support 512 bytes of payload and Function Level Reset; 20 bits of PASID. -/
def State.cfgRead (s : State) : CfgReg → Nat
  | .ids => 0x8192 * 2 ^ 16 + Config.vendorId.toNat
  | .classCode => 0x120000
  | .command => 2 * s.host.memEnable.toNat
  | .power => 8 + (if s.host.d3hot then 3 else 0)
  | .devCap => 2 + 2 ^ 28
  | .devCtl => 2 ^ 5 * s.host.maxPayload + 2 ^ 12 * s.host.maxRead
  | .aerUnc => s.host.aerUnc.toNat
  | .aerCor => s.host.aerCor.toNat
  | .pasidCap => 20 * 2 ^ 8
  | .atsCtl => 2 ^ 15 * s.host.atsEnable.toNat
  | .rebar => s.host.bar4Log
  | .linkStatus => s.reg 0x1200 0

/-- CONFIGURATION_REQUEST (R480, R481): Request Retry Status until the dictionary is ready; a request that completes may write Memory Space
Enable, the Enable bit of the ATS capability (R339), without which the host's translations are used no longer, the sizes of payloads and reads,
and the AER status; and it may read a field. -/
def execConfigurationRequest (b : ConfigBits) (s : State) : Act := occurs s <|
  if !s.dict.ready then .next (s.emit (.config false))
  else
    let s := match b.mse with
      | some b => { s with host := { s.host with memEnable := b } }
      | none => s
    let s := match b.ats with
      | some b => { s with host := { s.host with atsEnable := b, atc := if b then s.host.atc else [] } }
      | none => s
    let h := s.host
    let h := { h with maxPayload := (b.mps.map (·.val)).getD h.maxPayload, maxRead := (b.mrrs.map (·.val)).getD h.maxRead }
    let h := match b.aerClear with
      | some (u, c) => { h with aerUnc := h.aerUnc &&& ~~~u, aerCor := h.aerCor &&& ~~~c }
      | none => h
    let s := { s with host := h }
    .next (s.emit (.config true (b.read.map s.cfgRead)))

/-- RESIZABLE_BAR (R482): BAR4 has every power of two from 64 GiB to 4 TiB, and changes only while Memory Space Enable is 0. -/
def execResizableBar (log : BitVec 6) (s : State) : Act := occurs s <|
  if s.host.memEnable ∨ log.toNat < 36 ∨ 42 < log.toNat then .next s
  else .next { s with host := { s.host with bar4Log := log.toNat } }

end Sys2Proof.Machine
end

