-- ==== Sys2Proof/Machine/RepairCommands.lean ====
section
/-! DEFINITION. Machine/RepairCommands.lean: fencing tiles, applying repairs and the march engines, as commands (R673 to R686). -/

namespace Sys2Proof.Machine

open Sys2Proof

/-- A logical coordinate of R704 as a tile: [6:0] column, [13:8] row; none where another bit is set. -/
def tileOfCoord (v : Nat) : Option Nat :=
  if bitsOf v 7 1 ≠ 0 ∨ 2 ^ 14 ≤ v then none else some (tileAt (bitsOf v 0 7) (bitsOf v 8 6))

/-- The logical coordinate of a tile (R704). -/
def coordOf (t : Nat) : Nat := colOf t + 256 * rowOf t

/-- The list of host fences as the bytes a commit keeps. -/
def Repair.fenceOld (r : Repair) (t : Nat) : Nat × Nat × List Byte := (0x0401, 0x100 + t, toLE 1 (if r.hostFenced.contains t then 1 else 0))

/-- Whether a tile's position is faulty with its repair pending (R679, R682). -/
def Repair.pendingTile (r : Repair) (t : Nat) : Bool :=
  match r.placeOf t with
  | some p => (kget [] r.faulty (rowHalf t)).contains p
  | none => false

/-- The host's fences become those of a list: tiles that leave it are open again unless a repair is pending (R679). -/
def State.setHostFences (s : State) (l : List Nat) : State :=
  let gone := s.repair.hostFenced.filter fun t => !l.contains t
  let s := { s with repair := { s.repair with hostFenced := l } }
  let s := gone.foldl (fun (s : State) t => s.modTile t fun x => { x with fenced := s.repair.pendingTile t }) s
  l.foldl (fun (s : State) t => s.modTile t fun x => { x with fenced := true }) s

/-- FENCE_TILE (R679, R681): accepted in every slot state. -/
def execFenceTile (q : Req) (v : List Byte) (s : State) : Act := occurs s <|
  requestOf [(0x0401, 0)] q v (fun id s =>
    match tileOfCoord (leNat v) with
    | none => refuse kRange s
    | some t =>
      if s.repair.hostFenced.contains t then done s
      else
        let old := s.repair.fenceOld t
        persist id [old] true (s.fenceTile t 0x1201 true {})) s

/-- UNFENCE_TILE (R679): it lifts a fence by the host, only while the block's slot is FREE. -/
def execUnfenceTile (q : Req) (v : List Byte) (s : State) : Act := occurs s <|
  requestOf [(0x0401, 1)] q v (fun id s =>
    match tileOfCoord (leNat v) with
    | none => refuse kRange s
    | some t =>
      let held := s.dens.any fun (p : Nat × Den) => p.2.phase != .free && p.2.rect.has t
      if !s.repair.hostFenced.contains t ∨ held then refuse kConflict s
      else
        let old := s.repair.fenceOld t
        persist id [old] true (s.setHostFences (s.repair.hostFenced.filter (· != t)))) s

/-- The faulty position of a row half whose repair is pending that lies nearest the seam (R682). -/
def Repair.firstPending (r : Repair) (key : Nat) : Option Nat :=
  (kget [] r.faulty key).find? fun p => !(kget [] r.applied key).contains p

/-- The logical tiles of a row half from a position outward, as they lie now (R682). -/
def Repair.tilesOutward (r : Repair) (key p : Nat) : List Nat :=
  ((List.range 64).map fun i => tileAt (if key % 2 = 0 then i else 64 + i) (key / 2)).filter fun t =>
    match r.placeOf t with
    | some x => if key % 2 = 0 then x ≤ p else p ≤ x
    | none => true

/-- Whether a slot holds a block's tile, or a scrub of it is pending. -/
def State.blockHeld (s : State) (b : Nat × Nat) : Bool :=
  (blockTiles b).any fun t => s.dens.any fun (p : Nat × Den) =>
    (p.2.holdsAll && p.2.rect.has t) || p.2.scrubs.any fun u => u == .shaft t

/-- The block of a tile (R386). -/
def blockOf (t : Nat) : Nat × Nat := (colOf t / 4, rowOf t / 4)

/-- A position found faulty (R673). -/
def Repair.addPlace (r : Repair) (p y : Nat) : Repair :=
  let key := 2 * y + (if p < 66 then 0 else 1)
  { r with faulty := kmod [] r.faulty key (addFaulty key p) }

/-! ### Spares of the SRAMs (R677) -/

/-- The key of an array of a tile. -/
def sramKey (n : SramNeed) : Nat := 24 * (132 * n.row.val + n.col.val) + n.arr.val

/-- Spares of an array of `rows` and `cols` assigned besides `used`; none where they do not suffice. -/
def takeSpares (rows cols : Nat) (used need : Nat × Nat) : Option (Nat × Nat) :=
  let u := (used.1 + need.1, used.2 + need.2)
  if u.1 ≤ rows ∧ u.2 ≤ cols then some u else none

/-- The key of a half's first secure SRAM array. -/
def settBase : Half → Nat
  | .west => 0
  | .east => 16

/-- A march assigns spares in the arrays of tiles (R677, R704): SRAM_ROWS_MIN and SRAM_COLS_MIN follow, and the needs that no spare
meets are left. -/
def State.marchTiles (s : State) (l : List SramNeed) : List SramNeed × State :=
  l.foldl (fun (acc : List SramNeed × State) n =>
    let s := acc.2
    match takeSpares 4 2 (kget (0, 0) s.repair.sramUsed (sramKey n)) (n.rows, n.cols) with
    | some u =>
      let s := { s with repair := { s.repair with sramUsed := kput (0, 0) s.repair.sramUsed (sramKey n) u } }
      (acc.1, (s.setReg 0x0102 2 (min (s.reg 0x0102 2) (4 - u.1))).setReg 0x0102 3 (min (s.reg 0x0102 3) (2 - u.2)))
    | none => (acc.1 ++ [n], s)) ([], s)

/-- A march assigns spares in the secure SRAM of a half; an array that they cannot repair is retired (R680, R704). -/
def State.marchSett (s : State) (h : Half) (l : List SettNeed) : State :=
  let s := l.foldl (fun (s : State) n =>
    let k := settBase h + n.arr.val
    let r := s.repair
    match takeSpares 8 4 (kget (0, 0) r.settUsed k) (n.rows, n.cols) with
    | some u => { s with repair := { r with settUsed := kput (0, 0) r.settUsed k u } }
    | none => { s with repair := { r with settRetired := (r.settRetired ++ [k]).eraseDups } }) s
  s.setReg 0x0102 4 s.repair.settRetired.length

/-- Working secure SRAM arrays are too few for a half's Sett (R680). -/
def State.settShort (s : State) (h : Half) : Bool :=
  4 < (s.repair.settRetired.filter fun a => settBase h ≤ a && a < settBase h + 16).length

/-- The positions of unmet needs become faulty (R673). -/
def Repair.addNeeds (r : Repair) (l : List SramNeed) : Repair :=
  l.foldl (fun (r : Repair) n => r.addPlace n.col.val n.row.val) r

/-- A destructive march that tests positions (R673, R677, R685): those that their spares do not repair become faulty. -/
def State.marchPlaces (s : State) (l : List SramNeed) : State :=
  let (bad, s) := s.marchTiles l
  { s with repair := s.repair.addNeeds bad }

/-- REPAIR_APPLY (R682): the march tests the new positions of the row half, and it takes its new setting. -/
def execRepairApply (q : Req) (v : List Byte) (f : MarchFacts) (s : State) : Act := occurs s <|
  requestOf [(0x0401, 3)] q v (fun _ s =>
    let n := leNat v
    let key := 2 * bitsOf n 0 6 + bitsOf n 7 1
    if bitsOf n 6 1 ≠ 0 then refuse kRange s
    else match s.repair.firstPending key with
      | none => done s
      | some p =>
        if ((s.repair.tilesOutward key p).map blockOf).eraseDups.any s.blockHeld then refuse kConflict s
        else
          let mine := f.needs.filter fun n => n.row.val == key / 2 && (n.col.val < 66) == (key % 2 == 0)
          done (((s.marchPlaces mine).applyRow key).settleWarn)) s

/-! ### The march engines (R684 to R686) -/

/-- The march engine of a half. -/
def Repair.march (r : Repair) : Half → Option March
  | .west => r.marchWest
  | .east => r.marchEast

/-- Set the run of a half's march engine. -/
def State.setMarch (s : State) (h : Half) (m : Option March) : State :=
  { s with repair := match h with
    | .west => { s.repair with marchWest := m }
    | .east => { s.repair with marchEast := m } }

/-- Whether a rectangle lies in a half. -/
def Rect.inHalf (q : Rect) : Half → Bool
  | .west => q.bc + q.w ≤ 16
  | .east => 16 ≤ q.bc && q.bc + q.w ≤ 32

/-- A slot that holds a tile of a block other than in FROZEN, or, for a destructive run, in any state (R686). -/
def State.marchBlocked (s : State) (preserving : Bool) (b : Nat × Nat) : Bool :=
  (blockTiles b).any fun t => s.dens.any fun (p : Nat × Den) =>
    p.2.phase != .free && p.2.rect.has t && !(preserving && p.2.phase == .frozen)

/-- A write of MCH_RUN (R685, R686, R704); object 0x0420 is the West engine's, 0x0421 the East's (DEDUCED, log entry 87). -/
def marchRun (mine : Nat → Bool) (q : Req) (v : List Byte) (s : State) : Out State :=
  need .otherRow (mine (natAt v 0 1)) <|
    requestOf [(0x0420, 0), (0x0421, 0)] q v (fun _ s =>
      let h : Half := if q.index = 0x0420 then .west else .east
      let mode := natAt v 0 1
      let secure := natAt v 1 1 == 1
      match parseRect (natAt v 2 4) with
      | none => refuse kRange s
      | some r =>
        let badRect := r.w = 0 ∨ r.h = 0 ∨ 16 < r.br + r.h ∨ r.inHalf h = false
        if 1 < mode ∨ 1 < natAt v 1 1 ∨ natAt v 6 2 ≠ 0 ∨ (secure ∧ mode = 0) ∨ (¬ secure ∧ badRect) then refuse kRange s
        else if !secure && r.blocks.any (s.marchBlocked (mode == 1)) then refuse kConflict s
        else if (s.repair.march h).isSome then refuse kBusy s
        else
          let m : March := { preserving := mode == 1, blocks := if secure then [] else r.blocks, secure := secure }
          let s := s.setMarch h (some m)
          done (if mode = 1 then s.holdPhase else s)) s

/-- MARCH_DESTRUCTIVE (R685, R686): MCH_RUN mode 0, or a mode that does not exist. -/
def execMarchDestructive (q : Req) (v : List Byte) (s : State) : Act := occurs s <| marchRun (· != 1) q v s

/-- MARCH_PRESERVING (R685, R686): MCH_RUN mode 1; REG_PHASE is held for the whole run. -/
def execMarchPreserving (q : Req) (v : List Byte) (s : State) : Act := occurs s <| marchRun (· == 1) q v s

/-- A bank, or the instruction store (16), that no spare repairs is left off (R686). -/
def Tile.switchOff (x : Tile) (n : Nat) : Tile :=
  if n < 16 then { x.dropBank n with banks := kput {} x.banks n {} } else { x with istore := [], overlaid := [] }

/-- An unrepairable tile is fenced, and the slot that holds it FAULTED with MARCH_FAULT (R679, R686). -/
def State.marchFault (s : State) (t n : Nat) : State :=
  let s := s.modTile t fun x => x.switchOff n
  let s := if (s.tile t).fenced then s else s.fenceTile t 0x1208 false {}
  match s.slotOf t with
  | some slot => s.denFault slot 0x1208
  | none => s

/-- The logical tile of a block list that lies at a position (R674). -/
def State.tileHere (s : State) (blocks : List (Nat × Nat)) (n : SramNeed) : Option Nat :=
  (blocks.flatMap blockTiles).find? fun t => rowOf t == n.row.val && s.repair.placeOf t == some n.col.val

/-- MARCH_END (R677, R679, R685, R686): the engine's run ends: spares are assigned, tiles beyond them fenced, MCH_RESULT is written,
and REG_PHASE returns. A run that a RELEASE stopped reports CMD_CANCELLED. -/
def execMarchEnd (h : Half) (f : MarchFacts) (s : State) : Act := occurs s <|
  needSome .chipPhase (s.repair.march h) fun m =>
    need .badFact (f.needs.all (fun n => (s.tileHere m.blocks n).isSome) && (m.secure || f.sett.isEmpty)) <|
      let (bad, s) := (s.setMarch h none).marchTiles f.needs
      let s := if m.secure then s.marchSett h f.sett else s
      let tile (n : SramNeed) : Option Nat := s.tileHere m.blocks n
      let repaired := ((f.needs.filter fun n => !bad.contains n).filterMap tile).eraseDups.length
      let fenced := (bad.filterMap tile).eraseDups.length
      let hit := bad.filterMap fun n => (tile n).map fun t => (t, min n.arr.val 16)
      let s := hit.foldl (fun (s : State) p => s.marchFault p.1 p.2) s.settleWarn
      let code := if m.stopped then kCmdCancelled else kOk
      let ix := match h with | .west => 0x0420 | .east => 0x0421
      let bytes := toLE 2 code.toNat ++ toLE 2 repaired ++ toLE 2 fenced ++ List.replicate 10 0
      let s := { s with dict := s.dict.setBlob ix 2 bytes }
      .next (s.freePhase.raise (match h with | .west => 1945 | .east => 1946))

/-- PARITY_ERROR (R678, R679, R681): a register file or a pipeline latch of a tile fails its parity. -/
def execParityError (t : TileIx) (s : State) : Act := occurs s <|
  need .chipPhase (s.chip.phase == .ready && !(s.tile t.val).fenced) <| .next (s.fenceTile t.val 0x1201 false {})

/-- ROUTER_FAULT (R676): a router that fails while the chip runs causes a chip reset. -/
def execRouterFault (p : Fin 132) (r : Fin 64) (s : State) : Act := occurs s <|
  need .chipPhase (s.chip.phase == .ready) <| need .badFact (!s.repair.dead.contains (p.val, r.val)) <| .next (s.beginReset .chip 0)

/-- DUMP_CFG (R694): the dump extent. -/
def execDumpCfg (q : Req) (v : List Byte) (s : State) : Act := occurs s <|
  requestOf [(0x3000, 6)] q v (fun _ s =>
    let len := natAt v 8 8
    let stride := natAt v 20 2
    let pasid := natAt v 16 4
    if natAt v 0 8 % 4096 ≠ 0 ∨ len % 4096 ≠ 0 ∨ 2 ^ 26 < len ∨ bitsOf pasid 20 11 ≠ 0 ∨ stride = 0 ∨ 8192 < stride ∨
        7 < natAt v 22 1 ∨ natAt v 23 9 ≠ 0 then refuse kRange s
    else done { s with dict := s.dict.setBlob 0x3000 6 v }) s

end Sys2Proof.Machine
end

