-- ==== Sys2Proof/Machine/TrustCommands.lean ====
section
/-! DEFINITION. Machine/TrustCommands.lean: firmware banks, life cycle, tamper response, SPDM sessions, IDE keys and TDISP (chapter 15),
and the management bus (R458 to R460), as commands. -/

namespace Sys2Proof.Machine

open Sys2Proof

/-- LC_DENIED (R623). -/
abbrev kLcDenied : Code := 0x0F02
/-- LC_AUTH (R623). -/
abbrev kLcAuth : Code := 0x0F03
/-- FW_VERIFY (R623). -/
abbrev kFwVerify : Code := 0x0F04
/-- FW_ROLLBACK (R623). -/
abbrev kFwRollback : Code := 0x0F05
/-- TAMPER (R623). -/
abbrev kTamper : Code := 0x0F01

/-- LIFECYCLE (R604). -/
def State.lifecycle (s : State) : Nat := s.reg 0x0001 0

/-- The AON island runs (R707). -/
def State.aonRuns (s : State) : Bool := s.chip.phase != .dark

/-- The primary Sett has booted (R458, R712). -/
def State.settBooted (s : State) : Bool :=
  match s.chip.phase with
  | .boot n => 2 ≤ n
  | .ready => true
  | _ => false

/-! ### The management bus (R458 to R460) -/

/-- The MCTP message types that are served (R458): in recovery PLDM alone beside MCTP control (R597). -/
def State.mctpTypes (s : State) : List Byte :=
  if s.settBooted then [0x00, 0x01, 0x05, 0x7E] else if s.chip.phase = .recovery then [0x00, 0x01] else [0x00]

/-- Whether PLDM is served. -/
def State.pldmServes (s : State) : Bool := s.settBooted || s.chip.phase == .recovery

/-- The commands of PLDM type 5 that a firmware device serves, one bit for each code (PRESUMED, log entry 200). -/
def pldmUpdateCommands : Nat := 2 ^ 0x01 + 2 ^ 0x02 + 2 ^ 0x10 + 2 ^ 0x13 + 2 ^ 0x14 + 2 ^ 0x1A + 2 ^ 0x1B + 2 ^ 0x1C + 2 ^ 0x1D

/-- MCTP_CONTROL (R458): the dynamic address of the I3C target, endpoint assignment, version and message-type discovery, and the discovery commands of PLDM type 0. The
versions are those of the published specifications (PRESUMED, log entry 200). -/
def execMctpControl (cmd : MctpCmd) (s : State) : Act := occurs s <|
  need .chipPhase s.aonRuns <|
    match cmd with
    | .dynamicAddress a => .next { s with trust := { s.trust with dynAddr := a } }
    | .getVersion t =>
      .next (s.emit (.mctp (if (s.mctpTypes).contains t then [0x00, 0x01, 0xF1, 0xF3, 0xF1, 0x00] else [0x80])))
    | .pldmSetTid t => need .chipPhase s.pldmServes <|
        .next (({ s with trust := { s.trust with tid := t.toNat } } : State).emit (.mctp [0x00]))
    | .pldmGetTid => need .chipPhase s.pldmServes <| .next (s.emit (.mctp [0x00, BitVec.ofNat 8 s.trust.tid]))
    | .pldmTypes => need .chipPhase s.pldmServes <| .next (s.emit (.mctp ([0x00] ++ toLE 8 (2 ^ 0 + 2 ^ 5))))
    | .pldmVersion t => need .chipPhase s.pldmServes <|
        .next (s.emit (.mctp (if t = 0 ∨ t = 5 then [0x00] ++ toLE 4 0 ++ [0x05, 0x00, 0xF1, 0xF0, 0xF1] else [0x83])))
    | .pldmCommands t => need .chipPhase s.pldmServes <|
        .next (s.emit (.mctp (if t = 0 then [0x00] ++ toLE 32 (2 ^ 1 + 2 ^ 2 + 2 ^ 3 + 2 ^ 4 + 2 ^ 5)
          else if t = 5 then [0x00] ++ toLE 32 pldmUpdateCommands else [0x83])))
    | .setEid e => .next (({ s with trust := { s.trust with eid := e.toNat } } : State).emit (.mctp [e]))
    | .getEid => .next (s.emit (.mctp [BitVec.ofNat 8 s.trust.eid]))
    | .getTypes =>
      .next (s.emit (.mctp s.mctpTypes))

/-- VENDOR_DICT_MESSAGE (R459): one dictionary message with role tray; another Vendor ID is MSG_FORMAT. -/
def execVendorDictMessage (vendorOk : Bool) (bytes : List Byte) (s : State) : Act := occurs s <|
  need .chipPhase s.settBooted <|
    .next (if vendorOk then s.queueMsg .tray 8 bytes else s.deliver (parseMsg .tray bytes).2.1 0x0B03 [])

/-- PLDM_FIRMWARE_UPDATE (R460, R598): the image goes to the bank that does not run and is checked; the bank to boot next changes with
it. -/
def execPldmFirmwareUpdate (f : FwImage) (s : State) : Act := occurs s <|
  need .chipPhase (s.settBooted || s.chip.phase == .recovery) <|
    let code : Code := if !f.sigOk then kFwVerify else if f.svn < s.reg 0x1801 4 then kFwRollback else kOk
    let bank : FwBank := { version := f.version, svn := f.svn, sigOk := f.sigOk, digest := f.digest }
    let runsB := if s.chip.phase = .recovery then s.trust.activeB else s.chip.runsB
    let t := if runsB then { s.trust with bankA := bank } else { s.trust with bankB := bank }
    let s := { s with trust := { t with activeB := if code = kOk then !runsB else runsB } }
    let s := (s.setReg 0x1801 1 code.toNat).setReg 0x0000 5 (if code = kOk then f.version else 0)
    .next ((s.raise 1815).emit (.applyComplete (code == kOk)))

/-- SVN_COMMIT (R599). -/
def execSvnCommit (q : Req) (v : List Byte) (s : State) : Act := occurs s <|
  requestOf [(0x1801, 5)] q v (fun _ s =>
    let svn := s.reg 0x1801 3
    let fuse := s.reg 0x1801 4
    if leNat v = 0 then refuse kRange s
    else if svn ≤ fuse then done s
    else if 32 < s.trust.svnUsed + (svn - fuse) then refuse kNoResource s
    else done (({ s with trust := { s.trust with svnUsed := s.trust.svnUsed + (svn - fuse) } } : State).setReg 0x1801 4 svn)) s

/-! ### Keys (R603, R609, R612, R613) -/

/-- Both reservoir key slots of every cistern go; until the next chip reset every reservoir access returns KEY_REVOKED (R303). -/
def State.dropReservoirKeys (s : State) : State :=
  let cis := s.cisterns.map fun (n, (x : Cistern)) => (n, { x with key0 := none, key1 := none })
  let s := cis.foldl (fun (s : State) (p : Nat × Cistern) => { s with cisterns := kput {} s.cisterns p.1 p.2 }) s
  s.setReg 0x0340 8 1

/-- Every pair key goes (R534), and what still waits to be sent under one. -/
def State.dropPairKeys (s : State) : State := { s with fab := { s.fab with keys := [], waits := [] } }

/-- The link engines stop, and what still waits to be sent goes with the pair keys (R609, R612). -/
def State.stopLinks (s : State) : State :=
  let s := s.dropPairKeys
  { s with fab := { s.fab with links := s.fab.links.foldl (fun m (p : Nat × Link) => kput {} m p.1 { p.2 with held := [] }) [] } }

/-- A session ends (R600, R602). -/
def State.endSession (s : State) (id : Nat) : State :=
  (({ s with trust := { s.trust with sessions := s.trust.sessions.filter (·.id != id) } } : State).raise 1818).emit (.sessionEnded id)

/-- The secure SRAM that holds the secrets is wiped (R610, R613): the alias key and the session keys go, and the sessions end. -/
def State.wipeSram (s : State) : State :=
  (s.trust.sessions.map (·.id)).foldl State.endSession { s with trust := { s.trust with alias_ := none } }

/-! ### Life cycle (R604 to R609) -/

/-- LC_NONCE gets 32 fresh bytes (R607). -/
def State.freshNonce (s : State) : State :=
  let (b, s) := s.freeBytes 32
  { s with dict := s.dict.setBlob 0x1802 0 b }

/-- The bytes that wait for or are under scrub (R621). -/
def State.scrubPending (s : State) : Nat :=
  s.dens.foldl (fun n (p : Nat × Den) => p.2.scrubs.foldl (fun n u => n + match u with
    | .shaft _ => 2 ^ 28
    | .range r => r.len) n) 0

/-- Whether a transition is one of R605's. -/
def lcAllowed (from_ to_ : Nat) : Bool :=
  (from_ == 1 && to_ == 2) || ((from_ == 1 || from_ == 2) && to_ == 3) || (1 ≤ from_ && from_ ≤ 3 && to_ == 4)

/-- Whether a return authorisation is good (R606): its type, length, serial number and nonce; what its signature and chain give is
told. -/
def State.containerOk (s : State) (c : List Byte) (sigOk : Bool) : Bool :=
  let serial := s.dict.blob 0x0000 2
  natAt c 0 2 == 2 && natAt c 4 4 == c.length && bytesAt c 8 16 == bytesAt serial 0 16 &&
    bytesAt c 24 32 == bytesAt (s.dict.blob 0x1802 0) 0 32 && natAt c 56 2 == 0 &&
    c.length == 64 + 2 + natAt c 64 2 + 384 && sigOk

/-- The sealed elements are erased at the transition to Scrapped (R609); LIFECYCLE, SVN_FUSE and ROOT_DIGEST are fuses. -/
def State.eraseSealed (s : State) : State :=
  let stays (k : Nat) : Bool := match elemRow (k / 256) (k % 256) with
    | some r => r.pers != 2 || k == 0x000100 || k == 0x180104 || k == 0x180004
    | none => true
  { s with dict := { s.dict with regs := s.dict.regs.filter fun p => stays p.1, blobs := s.dict.blobs.filter fun p => stays p.1 } }

/-- An accepted LC_REQUEST executes (R609): the reservoir, pair and IDE keys go (R613), the fuses take the state, and the sealed elements
stand under the sealing key of the new one; its chip reset is due. -/
def State.changeLife (s : State) (to_ : Nat) : State :=
  let s := s.dropReservoirKeys.stopLinks
  let s := s.setReg 0x0001 0 to_
  let s := if to_ = 4 then ({ s with trust := { s.trust with udsGone := true } } : State).eraseSealed else s
  let under (v : Vault) : Vault := { v with sealing := s.trust.sealingKey to_ }
  let s := { s with trust := { s.trust with ide := [], vault := s.trust.vault.map under } }
  let s := { s with trust := { s.trust with lcChanged := true }, chip := { s.chip with due := some 0 } }
  (s.setReg 0x1802 1 0).raise 1814

/-- A write of LC_REQUEST (R605 to R609): `mine` says whether the row is the TARGET's, `auth` what CONFIRM and the container give. -/
def lcRequest (mine : Nat → Bool) (auth : State → Bool) (q : Req) (v : List Byte) (s : State) : Out State :=
  let target := natAt v 0 1
  need .otherRow (mine target) <|
    requestOf [(0x0001, 1)] q v (fun _ s =>
      if natAt v 1 3 ≠ 0 ∨ v.length < 8 ∨ (target ≠ 3 ∧ v.length ≠ 8) ∨ (target = 3 ∧ (natAt v 10 2 ≠ 0 ∨ natAt v 66 6 ≠ 0)) then refuse kRange s
      else if (s.dens.any fun p => p.2.phase != .free) ∨ s.fab.jobs ≠ [] ∨ s.scrubPending ≠ 0 then refuse kConflict s
      else
        let c : Code := if !lcAllowed s.lifecycle target then kLcDenied else if !auth s then kLcAuth else kOk
        let s := if c = kOk then s.changeLife target else s.setReg 0x1802 1 c.toNat
        (.now c [], s.freshNonce)) s

/-- LC_DEPLOY (R605): TARGET 2, or one that no transition has. -/
def execLcDeploy (q : Req) (v : List Byte) (s : State) : Act := occurs s <|
  lcRequest (fun t => t != 3 && t != 4) (fun _ => natAt v 4 4 == 0) q v s

/-- LC_RETURN (R605, R606): TARGET 3. -/
def execLcReturn (q : Req) (v : List Byte) (sigOk : Bool) (s : State) : Act := occurs s <|
  lcRequest (· == 3) (fun s => natAt v 4 4 == 0 && s.containerOk (v.drop 8) sigOk) q v s

/-- LC_SCRAP (R605, R609): TARGET 4. -/
def execLcScrap (q : Req) (v : List Byte) (s : State) : Act := occurs s <|
  lcRequest (· == 4) (fun _ => natAt v 4 4 == 0x53435250) q v s

/-! ### Tamper (R611, R612) -/

/-- An entry of a log of 16-byte entries, newest first, 16 kept (R621). -/
def logPut (n : Nat) (e l : List Byte) : List Byte := (e ++ l).take n

/-- TAMPER_EVENT (R611, R612): events 1 to 5; `half` is 0 West, 1 East, 2 module; `ms` the AON milliseconds. -/
def execTamperEvent (ev : Fin 5) (half : Fin 3) (ms : BitVec 32) (s : State) : Act := occurs s <|
  let lc := s.lifecycle
  need .chipPhase (s.aonRuns && !s.trust.tampered) <|
    need .badFact (ev.val != 4 || lc == 1 || lc == 2 || lc == 4) <|
      let s := s.dropReservoirKeys
      let s := s.endTxs (fun _ _ => true) kKeyRevoked
      let s := s.stopLinks.wipeSram
      let s := { s with trust := { s.trust with vault := none, ide := [], tampered := true },
                        repair := { s.repair with halted := [0, 1, 2, 3], settServes := false },
                        chip := { s.chip with due := some kTamper } }
      let s := (kkeys s.dens).foldl (fun (s : State) n => s.faultAny n kTamper) s
      let e := toLE 4 (s.incarnation % 2 ^ 32) ++ toLE 1 (ev.val + 1) ++ toLE 1 half.val ++ [0, 0] ++ toLE 4 ms.toNat ++
        List.replicate 4 0
      let s := { s with dict := s.dict.setBlob 0x1802 3 (logPut 256 e (s.dict.blob 0x1802 3)) }
      .next ((s.bump 0x1802 2).raise 1813)

/-! ### SPDM (R600 to R602, R613) -/

/-- A session. -/
def Trust.session (t : Trust) (id : Nat) : Option Session := t.sessions.find? (·.id == id)

/-- Whether the responder of a transport is reachable: MCTP once the primary Sett has booted, DOE once configuration requests
complete. -/
def State.spdmUp (s : State) : SpdmTransport → Bool
  | .mctp => s.settBooted
  | .doe => s.dict.ready

/-- KEY_EXCHANGE (R600, R604): a fifth session of a transport is answered ERROR Busy; a scrapped module answers ERROR
Unspecified. The session's secret is free. -/
def execKeyExchange (tr : SpdmTransport) (s : State) : Act := occurs s <|
  need .chipPhase (s.spdmUp tr) <|
    if s.lifecycle = 4 then .next (s.emit (.spdmUnspecified tr))
    else if 4 ≤ (s.trust.sessions.filter (·.tr == tr)).length then .next (s.emit (.spdmBusy tr))
    else
      let id := s.trust.nextSession
      let (key, s) := s.freeKey
      let t := { s.trust with sessions := s.trust.sessions ++ [{ id := id, tr := tr, key := key }], nextSession := id + 1 }
      .next ((({ s with trust := t } : State).raise 1818).emit (.session id))

/-- A request in a session (R604): a scrapped module answers ERROR Unspecified. -/
def inSession (id : Nat) (s : State) (k : Out State) : Out State :=
  needSome .noSuch (s.trust.session id) fun x => if s.lifecycle = 4 then .next (s.emit (.spdmUnspecified x.tr)) else k

/-- END_SESSION (R600). -/
def execEndSession (id : Nat) (s : State) : Act := occurs s <| inSession id s (.next (s.endSession id))

/-- SPDM_HEARTBEAT_LOSS (R600): two heartbeats are missed. -/
def execSpdmHeartbeatLoss (id : Nat) (s : State) : Act := occurs s <|
  needSome .noSuch (s.trust.session id) fun _ => .next (s.endSession id)

/-- KEY_UPDATE (R600, R613): the session's keys are replaced; the new secret is free. -/
def execKeyUpdate (id : Nat) (s : State) : Act := occurs s <|
  inSession id s <|
    let (key, s) := s.freeKey
    let up (x : Session) : Session := { x with updates := x.updates + 1, key := key }
    .next (({ s with trust := { s.trust with sessions := updFirst (·.id == id) up s.trust.sessions } } : State).emit (.session id))

/-- Application data of a secured session on DOE (R602): those on MCTP carry SPDM alone; a scrapped module answers ERROR Unspecified
(R604). -/
def onDoe (id : Nat) (s : State) (k : Out State) : Out State :=
  inSession id s <| need .badFact ((s.trust.session id).any (·.tr == .doe)) k

/-- SECURED_DICT_MESSAGE (R602): a dictionary message with role host-admin, marked secured; another Vendor ID is MSG_FORMAT (DEDUCED
from R459, log entry 84). -/
def execSecuredDictMessage (id : Nat) (vendorOk : Bool) (bytes : List Byte) (s : State) : Act := occurs s <|
  onDoe id s <|
    .next (if vendorOk then
        (let (_, q, _) := parseMsg (.secured id) bytes
         if bytes.length < 16 + q.len.toNat then s.deliver q 0x0B03 []
         else { s with dict := { s.dict with queued := s.dict.queued ++ [{ fe := .secured id, bytes := bytes }] } })
      else s.deliver (parseMsg (.secured id) bytes).2.1 0x0B03 [])

/-! ### IDE_KM (R480, R602, R613) -/

/-- The key of an IDE key set: stream 0 is the link stream. -/
def ideKey (stream : Nat) (set : Bool) : Nat := 2 * stream + (if set then 1 else 0)

/-- Set an IDE key set. -/
def State.setIde (s : State) (k : Nat) (x : IdeSet) : State := { s with trust := { s.trust with ide := kput {} s.trust.ide k x } }

/-- KEY_PROG (R602, R613). No operand brings the key, whose bits are free. -/
def execKeyProg (id : Nat) (stream : Fin 9) (set : Bool) (s : State) : Act := occurs s <|
  onDoe id s <|
    let k := ideKey stream.val set
    let (key, s) := s.freeKey
    .next ((s.setIde k { kget {} s.trust.ide k with key := some key }).emit (.ideKm id true))

/-- K_SET_GO (R602): a key set that holds no key is answered with a failure. -/
def execKSetGo (id : Nat) (stream : Fin 9) (set : Bool) (s : State) : Act := occurs s <|
  onDoe id s <|
    let k := ideKey stream.val set
    let x := kget {} s.trust.ide k
    .next (if x.key.isSome then (s.setIde k { x with active := true }).emit (.ideKm id true) else s.emit (.ideKm id false))

/-- K_SET_STOP (R602, R613): the set's keys are destroyed. -/
def execKSetStop (id : Nat) (stream : Fin 9) (set : Bool) (s : State) : Act := occurs s <|
  onDoe id s <| .next ((s.setIde (ideKey stream.val set) {}).emit (.ideKm id true))

/-! ### TDISP (R483, R603) -/

/-- A TDI. -/
def State.tdi (s : State) (slot : Nat) : TdiPhase := kget .unlocked s.trust.tdis slot

/-- A TDISP request answered: with a new state, or refused with none. -/
def tdisp (id slot : Nat) (s : State) (to_ : Option TdiPhase) : Out State :=
  onDoe id s <|
    match to_ with
    | some p => .next (({ s with trust := { s.trust with tdis := kput .unlocked s.trust.tdis slot p } } : State).emit (.tdisp id slot true))
    | none => .next (s.emit (.tdisp id slot false))

/-- LOCK_INTERFACE_REQUEST (R483, R603): from CONFIG_UNLOCKED (PRESUMED from the PCI Express specification, log entry 85). -/
def execLockInterfaceRequest (id : Nat) (n : SlotIx) (s : State) : Act := occurs s <|
  tdisp id n.val s (if s.tdi n.val = .unlocked then some .locked else none)

/-- START_INTERFACE_REQUEST (R603): from CONFIG_LOCKED, while the slot is LOADED, RUNNING or FROZEN. -/
def execStartInterfaceRequest (id : Nat) (n : SlotIx) (s : State) : Act := occurs s <|
  let p := (s.den n.val).phase
  tdisp id n.val s (if s.tdi n.val = .locked ∧ (p = .loaded ∨ p = .running ∨ p = .frozen) then some .run else none)

/-- STOP_INTERFACE_REQUEST (R603): back to CONFIG_UNLOCKED from any state (PRESUMED from the PCI Express specification, log entry
85). -/
def execStopInterfaceRequest (id : Nat) (n : SlotIx) (s : State) : Act := occurs s <| tdisp id n.val s (some .unlocked)

end Sys2Proof.Machine
end

