-- ==== Sys2Proof/Machine/Resets.lean ====
section
/-! DEFINITION. Machine/Resets.lean: the five reset domains, their drains, samples, ends and escalations, the Sett heartbeats and the
leases (R687 to R702). -/

namespace Sys2Proof.Machine

open Sys2Proof

/-! ### Domains -/

/-- The level of a domain (R688). -/
def ResetDom.level : ResetDom → Nat
  | .den _ => 1 | .engine _ => 2 | .half _ => 3 | .chip => 4 | .module => 5

/-- The coding of an engine (R704). -/
def EngineIx.word : EngineIx → Nat
  | .pump t => t
  | .hostDma => 2 ^ 16
  | .save => 2 * 2 ^ 16
  | .link l => 3 * 2 ^ 16 + l
  | .sett c => 4 * 2 ^ 16 + c

/-- The engine that a word codes (R704). -/
def parseEngine (v : Nat) : Option EngineIx :=
  let ix := bitsOf v 0 13
  if v ≠ ix + 2 ^ 16 * bitsOf v 16 4 then none
  else match bitsOf v 16 4 with
    | 0 => if ix < 8192 then some (.pump ix) else none
    | 1 => if ix = 0 then some .hostDma else none
    | 2 => if ix = 0 then some .save else none
    | 3 => if ix < 32 then some (.link ix) else none
    | 4 => if ix < 4 then some (.sett ix) else none
    | _ => none

/-- The half of a Sett core: cores 0 and 1 are the West half's (DEDUCED, log entry 88). -/
def coreHalf (c : Nat) : Half := if c < 2 then .west else .east

/-- The primary half (R697, R724). -/
def State.primaryHalf (s : State) : Half := if s.chip.primary = 0 then .west else .east

/-- The other half. -/
def State.secondaryHalf (s : State) : Half := if s.chip.primary = 0 then .east else .west

/-- The Sett cores of a half. -/
def coresOf : Half → List Nat
  | .west => [0, 1]
  | .east => [2, 3]

/-- The half that an engine's failed reset escalates to (R688); none for those that escalate to the chip. -/
def EngineIx.half : EngineIx → Option Half
  | .pump t => some (halfOf t)
  | .sett c => some (coreHalf c)
  | _ => none

/-! ### RESET_LOG and the counts (R689, R704) -/

/-- An entry of RESET_LOG. -/
def State.resetEntry (s : State) (d : ResetDom) (cause : Code) (outcome ms : Nat) : List Byte :=
  let half := match d with | .half .west => 0 | .half .east => 1 | _ => 0xFF
  let slot := match d with | .den n => n | _ => 0xFFFF
  let engine := match d with | .engine e => e.word | _ => 0
  toLE 4 (s.incarnation % 2 ^ 32) ++ toLE 4 ms ++ toLE 1 d.level ++ toLE 1 half ++ toLE 2 slot ++ toLE 2 cause.toNat ++
    toLE 1 outcome ++ [0] ++ toLE 4 engine ++ List.replicate 12 0

/-- A reset enters RESET_LOG and the count of its level. -/
def State.logReset (s : State) (d : ResetDom) (cause : Code) (outcome ms : Nat) : State :=
  let e := s.resetEntry d cause outcome ms
  let s := { s with dict := s.dict.setBlob 0x0101 5 (logPut 2048 e (s.dict.blob 0x0101 5)) }
  s.bump 0x0101 (d.level - 1)

/-- The source of a level 1, 2 or 3 reset that ends (R705). -/
def State.raiseEnd (s : State) (d : ResetDom) : State :=
  match d with
  | .den _ => s.raise 1947
  | .engine _ => s.raise 1948
  | .half _ => s.raise 1949
  | _ => s

/-! ### RESET_REQ (R691, R704) -/

/-- A write of RESET_REQ: the domain it names, or the code that refuses it. -/
def State.parseReset (s : State) (v : List Byte) : Except Code ResetDom :=
  let level := natAt v 0 1
  let half := natAt v 1 1
  let slot := natAt v 2 2
  let eng := natAt v 4 4
  if (level ≠ 3 ∧ half ≠ 0) ∨ (level ≠ 1 ∧ slot ≠ 0) ∨ (level ≠ 2 ∧ eng ≠ 0) then .error kRange
  else match level with
    | 1 => if slot < 256 then .ok (.den slot) else .error kRange
    | 2 => match parseEngine eng with
      | some e =>
        match e with
        | .sett c => if coreHalf c = s.primaryHalf then .error kConflict else .ok (.engine e)
        | _ => .ok (.engine e)
      | none => .error kRange
    | 3 => if half = 0 then .ok (.half .west) else if half = 1 then .ok (.half .east) else .error kRange
    | 4 => .ok .chip
    | 5 => .ok .module
    | _ => .error kRange

/-- Whether a reset of a domain runs. -/
def State.resetRuns (s : State) (d : ResetDom) : Bool := s.repair.resets.any (·.dom == d)

/-- A request by RESET_REQ: a domain whose reset runs already answers BUSY (DESIGN CHOICE, log entry 89). -/
def resetReq (mine : Nat → Bool) (q : Req) (v : List Byte) (run : ResetDom → State → Ans × State) (s : State) : Out State :=
  need .otherRow (mine (natAt v 0 1)) <|
    requestOf [(0x3000, 7)] q v (fun _ s =>
      match s.parseReset v with
      | .error c => refuse c s
      | .ok d => if s.resetRuns d && d.level != 1 then refuse kBusy s else run d s) s

/-! ### Beginning -/

/-- Whether a tile's pump holds an operation that has not ended. -/
def Tile.pumpBusy (x : Tile) : Bool :=
  (x.pump.tags.any fun (p : Nat × Option TagOp) => match p.2 with | some op => op.status.isNone | none => false) ||
    !x.pump.own.isEmpty || !x.pump.remote.isEmpty

/-- The engines that hold an operation of a den (R688). -/
def State.denEngines (s : State) (slot : Nat) : List EngineIx :=
  let pumps := ((s.den slot).rect.tiles.filter fun t => (s.tile t).pumpBusy).map EngineIx.pump
  let links := (s.fab.links.filter fun (p : Nat × Link) => p.2.txs.any (·.slot == slot)).map fun p => EngineIx.link p.1
  pumps ++ links

/-- Level 2 for each engine that still holds an operation of a den (R688, R691). -/
def State.resetDenEngines (s : State) (slot : Nat) (cause : Code) : State :=
  (s.denEngines slot).foldl (fun s e => s.beginReset (.engine e) cause) s

/-- A half reset begins (R689 to R692, R701, R229, R381): the slots with tiles in the half are FAULTED and have lost their state, the
wells are fenced with their contents, the half's Sett cores' claims and secrets go, and RESETTING is set for the primary half. -/
def State.beginHalf (s : State) (h : Half) (cause denCode : Code) : State :=
  let s := s.beginReset (.half h) cause
  let hit := (kkeys s.dens).filter fun n => (s.den n).holdsAll && (s.den n).rect.tiles.any fun t => halfOf t == h
  let s := hit.foldl (fun (s : State) n => (s.denFault n denCode false).modDen n fun d => { d with stateLost := true }) s
  let wells := match h with | .west => List.range 8 | .east => (List.range 8).map (· + 8)
  let s := wells.foldl (fun (s : State) w => if s.reg (0x300 + w) 0 = 1 then s.setReg (0x300 + w) 0 2 else s) s
  let s := { s with ic := s.ic.halfReset h }
  let s := if h = s.primaryHalf then s.wipeSram else s
  let s := s.setMarch h none
  let s := if h = s.primaryHalf then { s with repair := { s.repair with resetting := true, settServes := false } } else s
  s.holdPhase

/-- DEN_RESET (R691): a RUNNING or FROZEN slot becomes FAULTED with DEN_RESET; a FAULTED one's drain ends at once. -/
def execDenReset (q : Req) (v : List Byte) (s : State) : Act := occurs s <|
  resetReq (fun n => n == 1 || n == 0 || 5 < n) q v (fun d s =>
    match d with
    | .den slot =>
      match (s.den slot).phase with
      | .running | .frozen => done (s.denFault slot 0x120A)
      | .faulted => done (s.resetDenEngines slot 0x120A)
      | _ => refuse kConflict s
    | _ => refuse kRange s) s

/-- ENGINE_RESET (R688): RESET_REQ level 2. An owl's reset begins with that owl. -/
def execEngineReset (q : Req) (v : List Byte) (s : State) : Act := occurs s <|
  resetReq (· == 2) q v (fun d s => done (s.beginReset d 0)) s

/-- HALF_RESET (R692, R718): RESET_REQ level 3. -/
def execHalfReset (q : Req) (v : List Byte) (s : State) : Act := occurs s <|
  resetReq (· == 3) q v (fun d s =>
    match d with
    | .half h => done (s.beginHalf h 0 0x1202)
    | _ => refuse kRange s) s

/-- CHIP_RESET (R688, R716): RESET_REQ level 4, which returns OK; or one that the chip owes, with its cause. The millisecond of R704
and the drain of R689 pass before DRAIN_LIMIT_EXPIRY. -/
def execChipReset (by_ : ResetBy) (s : State) : Act := occurs s <|
  match by_ with
  | .request q v => resetReq (· == 4) q v (fun _ s => done (s.beginReset .chip 0)) s
  | .chip c =>
    need .chipPhase (s.chip.due == some c && !s.resetRuns .chip) <|
      .next (({ s with chip := { s.chip with due := none } } : State).beginReset .chip c)

/-- MODULE_RESET (R693): RESET_REQ level 5, which returns OK. -/
def execModuleReset (q : Req) (v : List Byte) (s : State) : Act := occurs s <|
  resetReq (· == 5) q v (fun d s => done (s.beginReset d 0)) s

/-- LINK_OWL_EXPIRY (R687): a link engine whose frames have waited for its owl's time while the link is up is reset at level 2. -/
def execLinkOwlExpiry (l : LinkIx) (s : State) : Act := occurs s <|
  need .noSuch (s.linkUp l.val && !(s.link l.val).held.isEmpty) <| .next (s.beginReset (.engine (.link l.val)) kTimeout)

/-! ### Sampling (R694 to R696) -/

/-- The tiles of a domain, in the order of R696. -/
def ResetDom.tiles (s : State) : ResetDom → List Nat
  | .den n => (s.den n).rect.tiles
  | .half h => (List.range 8192).filter fun t => halfOf t == h
  | .chip => List.range 8192
  | _ => []

/-- The tile that FAULT_REC names (R398). -/
def Den.faultTile (d : Den) : Option Nat :=
  if d.faultRec.length < 4 ∨ natAt d.faultRec 2 1 = 0xFF then none else some (tileAt (natAt d.faultRec 2 1) (natAt d.faultRec 3 1))

/-- The tiles that a sample takes, before LEN cuts it (R696): never one of a slot whose TDI is locked or runs. -/
def State.sampleTiles (s : State) (d : ResetDom) (stride : Nat) : List Nat :=
  let all := d.tiles s
  let named := match d with | .den n => (s.den n).faultTile | _ => none
  let first := (match named with | some t => if all.contains t then some t else all.head? | none => all.head?).toList
  let near := first.flatMap fun t => dirs4.filterMap fun x => match hop t x 1 with
    | some n => if all.contains n then some n else none
    | none => none
  let every := (List.range (ceilDiv all.length stride)).filterMap fun i => all[i * stride]?
  let free (t : Nat) : Bool := match s.slotOf t with | some slot => !s.tdiLocked slot | none => true
  ((first ++ near ++ every).eraseDups).filter free

/-- The sample of a reset (R695, R696): the header and the records go to the dump extent. Where the header's fields but the
coordinates lie is not stated: those bytes are free (log entry 91). `refused` is the write that the host refuses, if any. -/
def State.sample (s : State) (d : ResetDom) (refused : Option Nat) : State :=
  let cfg := s.dict.blob 0x3000 6
  let len := natAt cfg 8 8
  let bit := match d with | .den _ => 0 | .half _ => 1 | .chip => 2 | _ => 8
  if len = 0 ∨ (natAt cfg 22 1).testBit bit = false then s
  else
    let tiles := (s.sampleTiles d (natAt cfg 20 2)).take ((len - 4096) / 606208)
    let addr := natAt cfg 0 8
    let pasid := if (natAt cfg 16 4).testBit 31 then some (natAt cfg 16 4 % 2 ^ 20) else none
    let coords := tiles.flatMap fun t => toLE 2 (coordOf t)
    let (a, s) := s.freeBytes 256
    let (b, s) := s.freeBytes (4096 - 256 - coords.length)
    let record (acc : List (Nat × List Byte) × State) (p : Nat × Nat) : List (Nat × List Byte) × State :=
      let (_, ps, s) := acc.2.recordParts [] p.2 0 true
      (acc.1 ++ [(addr + 4096 + 606208 * p.1, ps.flatMap (·.2))], s)
    let (recs, s) := ((List.range tiles.length).zip tiles).foldl record ([], s)
    let writes := (addr, a ++ coords ++ b) :: recs
    let sent := match refused with | some n => writes.take n | none => writes
    let s := sent.foldl (fun (s : State) w => s.emit (.hostWrite pasid w.1 w.2 false)) s
    if refused.isNone then s.raise 1953 else s

/-! ### The end of the drain (R689) -/

/-- Every operation of a pump that has not ended completes with a code, and its queues are empty (R688, R690). -/
def State.resetPump (s : State) (t : Nat) (c : Code) : State :=
  let open_ := (List.range 16).filter fun k => match kget none (s.tile t).pump.tags k with
    | some op => op.status.isNone
    | none => false
  let s := open_.foldl (fun (s : State) k => s.completeTag t k c 0) s
  s.modTile t fun x => { x with pump := { x.pump with own := [], remote := [], order := [], notes := 0, misses := [] } }

/-- Every tile of a den stands where it is. -/
def State.standStill (s : State) (slot : Nat) : State :=
  let d := s.den slot
  let s := d.rect.tiles.foldl (fun (s : State) t => s.modTile t fun x =>
    if x.phase != .stopped && x.frozen.isNone then { x with frozen := some { since := d.cycle t x } } else x) s
  s.modDen slot fun d => { d with wave := { d.wave with signals := [], transit := [], sources := [], stopping := true } }

/-- The reset of a den (R688): its streams and pump queues. -/
def State.resetDen (s : State) (slot : Nat) (c : Code) : State :=
  let s := (s.den slot).rect.tiles.foldl (fun (s : State) t => s.resetPump t c) s
  s.standStill slot

/-- The line requests that the host interface holds for a pump end with ENGINE_RESET (R690). -/
def State.dropHostLines (s : State) (t : Nat) : State :=
  let hit (z : LineSlot) : Bool := z.via == .host
  let mine := (s.tile t).pump.remote.filter hit
  let s := s.modTile t fun x => { x with pump := { x.pump with remote := x.pump.remote.filter fun z => !hit z } }
  mine.foldl (fun (s : State) z => s.pumpError t z.tag 0x1203 z.loc.toNat) s

/-- An engine's extent cache and miss slots are empty (R328, R332). -/
def State.dropEngine (s : State) (e : Nat) : State := (s.setEngCache e []).setEngMisses e []

/-- The reset of an engine (R688, R690): its queues and slots. A link engine keeps its pair keys and its link. -/
def State.resetEngine (s : State) (e : EngineIx) : State :=
  match e with
  | .pump t => s.resetPump t 0x1203
  | .hostDma =>
    let s := (kkeys s.tiles).foldl State.dropHostLines s
    (({ s with host := { s.host with atsWaits := [] } } : State).settleAts).dropEngine 32
  | .save =>
    ((kkeys s.dens).foldl (fun (s : State) n => match (s.den n).cmd with
      | some c => if c.op = 6 ∨ c.op = 7 then s.cmdResult n 0x1203 else s
      | none => s) s).dropEngine 33
  | .link l =>
    let s := (s.link l).txs.foldl (fun (s : State) x => s.endTx l x 0x1203 []) s
    (s.modLink l fun x => { x with rx := [], held := [] }).dropEngine l
  | .sett c => { s with ic := Ic.settle s.ic (s.ic.release (2048 + c)), repair := { s.repair with halted := s.repair.halted.erase c } }

/-- The reset of a half (R688, R718): its tiles and relay lanes, and the waves of the dens that lay in it. -/
def State.resetHalf (s : State) (h : Half) : State :=
  let mine := (kkeys s.tiles).filter fun t => halfOf t == h
  let s := mine.foldl (fun (s : State) t => s.modTile t Tile.cleared) s
  let hit := (kkeys s.dens).filter fun n => (s.den n).phase != .free && (s.den n).rect.tiles.any fun t => halfOf t == h
  let s := hit.foldl (fun (s : State) n => (s.standStill n).modDen n fun d =>
    { d with wave := { z := d.wave.z, stopping := true } }) s
  { s with seam := { s.seam with fifos := [] } }

/-- What an element's bytes keep through a chip reset: the persistent and the sealed ones (R445 to R447). -/
def keptElem (k : Nat) : Bool :=
  match elemRow (k / 256) (k % 256) with
  | some r => r.pers != 0
  | none => false

/-- The sleep modes of the domains are those that DOM_SLEEP holds (R581, R590). -/
def State.setDomModes (s : State) : State :=
  { s with ic := (List.range 5).foldl (fun (c : Ic) d => c.writeDom d ((s.reg 0x1400 0).testBit (8 * d))) s.ic }

/-- Put bytes back into an element of the dictionary: a register, a blob, or the host's fences. -/
def State.putBytes (s : State) (ix el : Nat) (bs : List Byte) : State :=
  if ix = 0x0401 ∧ 0x100 ≤ el then
    let rest := s.repair.hostFenced.filter (· != el - 0x100)
    s.setHostFences (if leNat bs = 1 then rest ++ [el - 0x100] else rest)
  else if 0x0300 ≤ ix ∧ ix < 0x0310 ∧ el = 0x0D then
    let w := ix - 0x0300
    s.setWell w { s.well w with spares := (List.range 16).foldl (fun m i => kput 0xFFFF m i (natAt bs (2 * i) 2)) [] }
  else match elemRow ix el with
    | some r => if r.lmin = r.lmax ∧ r.lmax ≤ 8 then s.setReg ix el (leNat bs) else { s with dict := s.dict.setBlob ix el bs }
    | none => s

/-- The commits under way when logic or power goes (R446): some number of them, in their order, have reached flash. Which is free. -/
def State.cutCommits (s : State) : State :=
  let n := s.dict.commits.length
  let (b, s) := s.freeBytes (if n = 0 then 0 else 4)
  let lost := s.dict.commits.drop (leNat b % (n + 1))
  lost.reverse.foldl (fun (s : State) c => c.old.foldl (fun (s : State) o => s.putBytes o.1 o.2.1 o.2.2) s) s

/-- All logic but the Meter and the AON island is reset (R445, R505, R534, R584, R613, R688, R716): what stands in flash and fuses,
the AON island's own registers and the Meter stay; memory reads as zero. -/
def State.clearLogic (s : State) : State :=
  let s := s.cutCommits
  let wells := s.wells.foldl (fun m (p : Nat × Well) =>
    kput {} m p.1 { lost := p.2.lost, spares := p.2.spares, givenUp := p.2.givenUp, rowsUsed := p.2.rowsUsed,
                      colsUsed := p.2.colsUsed, dataTsvUsed := p.2.dataTsvUsed, cmdTsvUsed := p.2.cmdTsvUsed }) ([] : KMap Well)
  let cis := s.cisterns.foldl (fun m (p : Nat × Cistern) => kput {} m p.1 { retired := p.2.retired }) ([] : KMap Cistern)
  let tiles := s.repair.hostFenced.foldl (fun m t => kput {} m t { fenced := true }) ([] : KMap Tile)
  let regs := s.dict.regs.filter fun (p : Nat × Nat) => keptElem p.1 || p.1 == elemKey 0x0000 9
  let blobs := s.dict.blobs.filter fun (p : Nat × List Byte) => keptElem p.1
  let r := s.repair
  let t := s.trust
  let links := s.fab.links.foldl (fun m (p : Nat × Link) =>
    if p.2.unavailable then kput {} m p.1 { unavailable := true } else m) ([] : KMap Link)
  { pending := s.pending, fresh := s.fresh, outbox := s.outbox, tiles := tiles, wells := wells, cisterns := cis, meter := s.meter,
    chip := s.chip, fab := { links := links }, dict := { regs := regs, blobs := blobs },
    repair := { faulty := r.faulty, applied := r.applied, dead := r.dead, hostFenced := r.hostFenced, resets := r.resets,
                sramUsed := r.sramUsed, settUsed := r.settUsed, settRetired := r.settRetired },
    trust := { udsGone := t.udsGone, bankA := t.bankA, bankB := t.bankB, activeB := t.activeB, svnUsed := t.svnUsed, eid := t.eid, dynAddr := t.dynAddr, tid := t.tid },
    power := { pinLow := s.power.pinLow, sag := s.power.sag, brake := s.power.brake } }

/-- INCARNATION advances by 1 (R543). -/
def State.advanceIncarnation (s : State) : State := s.setReg 0x0000 9 ((s.reg 0x0000 9 + 1) % 2 ^ 64)

/-- The logic reset of a chip reset (R629, R716): INCARNATION advances before tR and the Meter is sent RESET; then the rails are sequenced again, the chip is held by
PERST#, or bring-up begins. -/
def State.resetChip (s : State) : State :=
  let s := s.clearLogic.advanceIncarnation
  let s := { s with meter := { s.meter with frames := [], noted := [], resetDue := s.meter.up } }
  let ph : ChipPhase := if s.chip.resequence then .sequencing 0 else if s.chip.perst then .held else .boot 0
  { s with chip := { s.chip with phase := ph, due := none, runsB := false, owed := [], resequence := false } }

/-- TRAY_CYCLE_REQ_N is driven low, with the entry of level 5 in module flash first (R689, R693). -/
def State.cycleTray (s : State) (cause : Code) (ms : Nat) : State :=
  let s := s.logReset .module cause 0 ms
  { s with chip := { s.chip with trayReq := true, ended5 := true } }

/-- A reset has ended its drain, or has reset its domain. -/
def State.setReset (s : State) (i : Nat) (x : Reset) : State :=
  { s with repair := { s.repair with resets := s.repair.resets.set i x } }
/-- A reset leaves the list. -/
def State.dropReset (s : State) (i : Nat) : State := { s with repair := { s.repair with resets := s.repair.resets.eraseIdx i } }

/-- The code that a domain's outstanding work is answered with (R689, R690); a den's is its reset's cause (DEDUCED, log entry 92). -/
def Reset.code (x : Reset) : Code :=
  match x.dom with
  | .engine _ => 0x1203
  | .half _ => 0x1202
  | _ => x.cause

/-- DRAIN_LIMIT_EXPIRY (R689, R690, R695, R696): the drain of the reset numbered `i` ends, after all its work or at its limit; what is
outstanding is answered with the domain's code, the sample is written, and the domain is reset. A third counted chip reset within 60 s
is a level 5 instead (R688, R717). `ms` is the AON time, `refused` the sample's write that the host refuses. -/
def execDrainLimitExpiry (i : Nat) (ms : BitVec 32) (refused : Option Nat) (s : State) : Act := occurs s <|
  needSome .noSuch s.repair.resets[i]? fun x =>
    need .chipPhase x.draining <|
      let now := ms.toNat
      match x.dom with
      | .den n => .next (((s.resetDen n x.code).sample x.dom refused).setReset i { x with draining := false })
      | .engine e => .next ((s.resetEngine e).setReset i { x with draining := false })
      | .half h => .next (((s.sample x.dom refused).resetHalf h).setReset i { x with draining := false })
      | .module => .next ((s.dropReset i).cycleTray x.cause now)
      | .chip =>
        let near := s.chip.resetTimes.filter fun t => now ≤ t + 60000
        if x.counted && 2 ≤ near.length then
          .next ((((s.dropReset i).logReset .chip x.cause 1 now).raise 1954).cycleTray x.cause now)
        else
          let s := s.sample .chip refused
          let times := if x.counted then (now :: s.chip.resetTimes).take 2 else s.chip.resetTimes
          let s := { s with chip := { s.chip with resetTimes := times },
                            repair := { s.repair with resets := [{ x with draining := false }] } }
          .next s.resetChip

/-! ### Return and escalation (R688, R689, R718) -/

/-- A half comes back (R209, R376, R618, R673, R680, R682, R718): wells retrained with their contents, the seam trained, every tile
marched, pending repairs of the half applied, its controllers' balances zero, its Sett cores running. -/
def State.returnHalf (s : State) (h : Half) (f : HalfFacts) : State :=
  let wells := match h with | .west => List.range 8 | .east => (List.range 8).map (· + 8)
  let bad := f.wells.map (·.val)
  let s := wells.foldl (fun (s : State) w =>
    let s := s.setReg (0x300 + w) 0 (if bad.contains w then 0 else 1)
    s.setCtl w { s.ctl w with balance := [], rtBalance := 0 }) s
  let s := s.repairWells (f.repairs.filter fun r => wells.contains r.well.val)
  let s := { s with seam := s.seam.train f.seam }
  let s := (s.marchPlaces (f.march.needs.filter fun n => (n.col.val < 66) == (h == .west))).marchSett h f.march.sett
  let keys := (List.range 64).map fun y => 2 * y + (match h with | .west => 0 | .east => 1)
  let s := keys.foldl State.applyRow s
  let s := { s with repair := { s.repair with halted := s.repair.halted.filter fun c => !(coresOf h).contains c } }
  let s := if h = s.primaryHalf then (s.deriveKeys (if s.chip.runsB then s.trust.bankB else s.trust.bankA)).clearCdi else s
  s.settleWarn

/-- RETURN_TO_SERVICE (R689): a level 1, 2 or 3 reset ends: RESET_LOG, the counts and the source of its level. A primary half whose
Sett lacks working arrays does not come back (R680); a level 4 reset ends with DICT_READY. -/
def execReturnToService (i : Nat) (ms : BitVec 32) (f : HalfFacts) (s : State) : Act := occurs s <|
  needSome .noSuch s.repair.resets[i]? fun x =>
    need .chipPhase (!x.draining) <|
      let finish (s : State) : State := (((s.dropReset i).logReset x.dom x.cause 0 ms.toNat).raiseEnd x.dom).freePhase
      match x.dom with
      | .den _ => .next (finish s)
      | .engine _ => .next (finish s)
      | .half h =>
        let t := s.returnHalf h f
        let short := t.settShort h
        need .badFact (!(short && h == s.primaryHalf)) <|
          let s := t
          let s := if short then { s with repair := { s.repair with halted := s.repair.halted ++ coresOf h } } else s
          .next (finish s)
      | _ => .off .chipPhase

/-- ESCALATION_OWL_EXPIRY (R688, R714): the reset numbered `i` has not completed in time: its entry says so and the next level starts.
With no number, a bring-up that no reset began has not reached step 10 within 15 s of tR. -/
def execEscalationOwlExpiry (i : Option Nat) (ms : BitVec 32) (s : State) : Act := occurs s <|
  let now := ms.toNat
  let booting := match s.chip.phase with | .boot _ => true | _ => false
  match i with
  | none => need .chipPhase (booting && !s.resetRuns .chip) <| .next ((s.raise 1954).cycleTray 0 now)
  | some i =>
    needSome .noSuch s.repair.resets[i]? fun x =>
      need .chipPhase (s.chip.phase != .recovery) <|
        let s := ((s.dropReset i).logReset x.dom x.cause 1 now).raise 1954
        match x.dom with
        | .den n => .next (s.resetDenEngines n x.cause)
        | .engine e =>
          match e.half with
          | some h => .next (s.beginHalf h x.cause 0x1202)
          | none => .next (s.beginReset .chip x.cause)
        | .half _ => .next (s.beginReset .chip x.cause)
        | .chip => .next (s.cycleTray x.cause now)
        | .module => .off .chipPhase

/-! ### Heartbeats and leases (R687, R697 to R702) -/

/-- SETT_HEARTBEAT_EXPIRY (R687, R698, R702): the core halts. A secondary core is reset at level 2; with a primary core halted the
leases are renewed no more, and with both no dictionary request is served (DEDUCED, log entry 93). -/
def execSettHeartbeatExpiry (core : Fin 4) (s : State) : Act := occurs s <|
  let c := core.val
  need .chipPhase (s.settBooted && !s.repair.halted.contains c) <|
    let s := { s with repair := { s.repair with halted := s.repair.halted ++ [c] } }
    if coreHalf c = s.primaryHalf then
      let all := (coresOf s.primaryHalf).all s.repair.halted.contains
      .next (if all then { s with repair := { s.repair with settServes := false } } else s)
    else .next (s.beginReset (.engine (.sett c)) kTimeout)

/-- LEASE_RENEWAL (R698, R700, R701): the primary renews its lease; `seam` and `aon` say on which paths it arrives. Once FENCED is set
the AON cell ignores it. The first renewal after a half reset of the primary ends RESETTING, and the primary serves again. -/
def execLeaseRenewal (seam aon : Bool) (s : State) : Act := occurs s <|
  let r := s.repair
  need .chipPhase (s.settBooted && !(coresOf s.primaryHalf).any r.halted.contains && !s.resetRuns (.half s.primaryHalf)) <|
    let aon := aon && !r.fenced
    let r := { r with leaseCount := r.leaseCount + 1, seamLive := r.seamLive || seam, aonLive := r.aonLive || aon,
                      settServes := r.settServes || (r.resetting && aon), resetting := r.resetting && !aon }
    let s := { s with repair := r }
    let core (h : Half) : Nat := if h = .west then 0 else 2
    let s := if seam then s.say (2 + core s.primaryHalf) .lease (some (coreEnd (core s.primaryHalf))) (some (coreEnd (core s.secondaryHalf))) 0 r.leaseCount.toNat
      else s
    let s := if seam then s.level 1950 false else s
    .next (if aon then s.level 1951 false else s)

/-- A path of the lease has lapsed (R699, R705). -/
def State.lapse (s : State) (seam : Bool) : State :=
  if seam then ({ s with repair := { s.repair with seamLive := false } } : State).level 1950 true
  else ({ s with repair := { s.repair with aonLive := false } } : State).level 1951 true

/-- LEASE_CHECK (R699 to R701): each 1 ms the secondary acts on the two paths. While RESETTING is set it does nothing for up to 5 s
(`late` says that they are over), and then acts as if both had lapsed. -/
def execLeaseCheck (seamLapsed aonLapsed late : Bool) (s : State) : Act := occurs s <|
  let sec := s.secondaryHalf
  need .chipPhase (s.settBooted && !s.repair.fenced && !(coresOf sec).all s.repair.halted.contains && !s.resetRuns (.half sec)) <|
    let r := s.repair
    if r.resetting && !late then .next s
    else
      let both := (seamLapsed && aonLapsed) || r.resetting
      if both then
        let hit := (kkeys s.dens).filter fun n => (s.den n).holdsAll && (s.den n).rect.tiles.any fun t => halfOf t == sec
        let s := hit.foldl (fun (s : State) n => s.denFault n 0x1205 false) ((s.lapse true).lapse false)
        .next (({ s with repair := { s.repair with fenced := true }, chip := { s.chip with due := some 0x1205 } } : State).raise 1952)
      else if seamLapsed then
        let astride := (kkeys s.dens).filter fun n => (s.den n).holdsAll && (s.den n).rect.astride
        let fault := if r.seamLive then astride else []
        .next (fault.foldl (fun (s : State) n => s.denFault n 0x1204) (s.lapse true))
      else if aonLapsed then .next (s.lapse false)
      else .next s

end Sys2Proof.Machine
end

