-- ==== Sys2Proof/Machine/MeterCommands.lean ====
section
/-! DEFINITION. Machine/MeterCommands.lean: the Meter, its link, its tenures and its receipts, as commands (chapter 16). -/

namespace Sys2Proof.Machine

open Sys2Proof

/-! ### STATE and its sources -/

/-- STATE of the Meter (R636, R637). -/
def Meter.stateCode (m : Meter) : Nat :=
  if m.powered && m.sealOpen then 4
  else if m.up && !m.resync then 2
  else if m.up then 1
  else if m.pairFailed || m.gapOpen then 3
  else if m.heard then 1
  else 0

/-- STATE and the sources that follow it (R637, R638, R642). -/
def State.settleMeter (s : State) : State :=
  let s := s.setReg 0x1C00 0 s.meter.stateCode
  let faulted := s.meterFaulted
  ((s.level 1845 faulted).level 1846 (s.meter.powered && s.meter.sealOpen)).level 1849 (faulted && s.meterRequired)

/-! ### Receipts (R633 to R635) -/

/-- Bytes padded with zeros or cut to a length. -/
def padTo (n : Nat) (bs : List Byte) : List Byte := bytesAt bs 0 n

/-- The Meter's serial number. -/
def meterSerial : List Byte := (List.range 16).map Config.meterByte

/-- One receipt (R634) of a KIND, part and entries over a span of ticks; its signature is free, and so is PREV of the first. -/
def State.issuePart (s : State) (kind part parts start end_ flags unm : Nat) (entries : List (List Byte)) : State :=
  let m := s.meter
  let n := m.rnum + 1
  let (prev, s) := match m.receipts with
    | (_, bs) :: _ => (sha bs, s)
    | [] => s.freeBytes 32
  let (sig, s) := s.freeBytes 384
  let head := toLE 2 1 ++ toLE 1 kind ++ toLE 1 part ++ toLE 1 parts ++ [0, 0, 0] ++ toLE 8 n ++ toLE 8 start ++ toLE 8 end_ ++
    toLE 8 m.energy ++ toLE 8 s.incarnation ++ toLE 2 (flags + if m.sealOpen then 1 else 0) ++ toLE 2 entries.length ++
    toLE 4 m.powerCycles ++ toLE 8 unm ++ prev ++ padTo 16 (s.dict.blob 0x0000 2) ++ meterSerial
  let bytes := head ++ entries.flatten ++ sig
  { s with meter := { s.meter with rnum := n, receipts := ((n, bytes) :: m.receipts).take (2 ^ 20) } }

/-- Cut a list of entries into parts of at most 48. -/
def parts48 (l : List (List Byte)) : List (List (List Byte)) :=
  if l.isEmpty then [[]] else (List.range (ceilDiv l.length 48)).map fun i => (l.drop (48 * i)).take 48

/-- The receipts of some entries, in as many parts as they need. -/
def State.issue (s : State) (kind start end_ flags unm : Nat) (entries : List (List Byte)) : State :=
  let ps := parts48 entries
  ((List.range ps.length).zip ps).foldl (fun (s : State) p => s.issuePart kind (p.1 + 1) ps.length start end_ flags unm p.2) s

/-! ### Tenures (R630, R631, R635) -/

/-- A tick count of component × ticks as component × milliseconds (R631). -/
def ticksToMs (n : Nat) : Nat := n / 25000

/-- The integrals of a tenure up to a tick (R631). -/
def Tenure.accrue (t : Tenure) (now : Nat) : Tenure :=
  let d := now - t.since
  let i := t.ints
  { t with since := max now t.since,
           ints := { tiles := i.tiles + d * t.vec.tiles, well := i.well + d * t.vec.well, res := i.res + d * t.vec.res,
                     guar := i.guar + d * t.vec.guar, links := i.links + d * t.vec.links } }

/-- The entry of a tenure in a receipt (R635). -/
def Tenure.entry (t : Tenure) (open_ : Bool) : List Byte :=
  let i := t.ints
  toLE 1 t.slot ++ toLE 1 ((if open_ then 1 else 0) + if t.unmetered then 2 else 0) ++ [0, 0] ++ toLE 4 t.num ++ toLE 8 t.opened ++
    [i.tiles, i.well, i.res, i.guar, i.links].flatMap (fun n => toLE 8 (ticksToMs n)) ++ toLE 4 t.owner ++ toLE 4 t.pasid

/-- Whether the Meter integrates: its side has not declared the link lost (R639). -/
def Meter.counts (m : Meter) : Bool := m.lostSince.isNone

/-- Unmetered ticks of the present span (R634, R639): the closed gaps and the open one. -/
def Meter.unmeteredTicks (m : Meter) : Nat :=
  m.unmetered + match m.lostSince with
    | some t => m.ticks - max t m.periodStart
    | none => 0

/-- A tenure ends: it leaves the list and its CLOSE receipt is issued (R633). -/
def State.closeTenure (s : State) (t : Tenure) : State :=
  let m := s.meter
  let t := if m.counts then t.accrue m.ticks else t
  let s := { s with meter := { m with tenures := m.tenures.filter fun x => x.num != t.num } }
  let unm := if t.unmetered then ticksToMs m.unmeteredTicks else 0
  s.issue 2 (max t.opened m.periodStart) (max t.since t.opened) (if t.unmetered then 2 else 0) unm [t.entry false]

/-- A change frame reaches the Meter (R630, R631): stamped with its ticks, it opens, changes or ends a tenure. -/
def State.stampChange (s : State) (c : Change) : State :=
  let m := s.meter
  match m.tenures.find? (·.slot == c.slot) with
  | some t =>
    if c.vec = {} ∧ c.state = 0 then s.closeTenure t
    else
      let t' := if m.counts then t.accrue m.ticks else t
      let t' := { t' with vec := c.vec, owner := c.owner, pasid := c.pasid }
      { s with meter := { m with tenures := m.tenures.map fun x => if x.num = t.num then t' else x } }
  | none =>
    if c.vec = {} ∧ c.state = 0 then s
    else
      let t : Tenure := { num := m.nextTenure, slot := c.slot, opened := m.ticks, since := m.ticks, vec := c.vec, owner := c.owner,
                          pasid := c.pasid, unmetered := !m.counts }
      { s with meter := { m with tenures := m.tenures ++ [t], nextTenure := m.nextTenure + 1 } }

/-- Every open tenure ends (R640). -/
def State.closeAll (s : State) : State := s.meter.tenures.foldl (fun (s : State) t => s.closeTenure t) s

/-! ### The mirror (R636) -/

/-- A valid frame of the Meter reaches the package: the mirror reflects it. -/
def State.mirror (s : State) : State :=
  let m := s.meter
  let last := s.reg 0x1C00 7
  let fresh := (m.receipts.filter fun (p : Nat × List Byte) => last < p.1).reverse
  let s := (((s.setReg 0x1C00 4 m.energy).setReg 0x1C00 5 m.ticks).setReg 0x1C00 6 m.powerCycles).setReg 0x1C00 7 m.rnum
  let s := s.setReg 0x1C00 3 (leNat ((List.range 4).map fun i => Config.meterByte (16 + i)))
  fresh.foldl (fun (s : State) p =>
    let s := s.raise 1847
    if natAt p.2 2 1 = 3 then (s.bump 0x1C00 8).raise 1848 else s) s

/-! ### Commands -/

/-- METER_FRAME (R627, R629, R631, R636, R640): a frame of the Meter link arrives. One whose CMAC fails, or for which its end holds no
session key, is dropped and counted. -/
def execMeterFrame (f : MeterFrame) (s : State) : Act := occurs s <|
  let m := s.meter
  need .chipPhase (m.powered && s.aonRuns) <|
    need .badFact (f.toMeter || f.kind == .heartbeat) <|
      if !f.macOk || (if f.toMeter then m.keyMeter else m.keyPkg).isNone then .next (s.bump 0x1C00 9)
      else if f.toMeter then
        let s := { s with meter := { m with lastFrame := m.ticks } }
        match f.kind with
        | .heartbeat => .next s
        | .change =>
          match m.frames with
          | c :: rest =>
            need .noSuch (!m.resetDue) <| .next (({ s with meter := { s.meter with frames := rest } } : State).stampChange c)
          | [] => .off .noSuch
        | .reset => need .noSuch m.resetDue <| .next ({ s with meter := { s.meter with resetDue := false } } : State).closeAll
      else .next (({ s with meter := { m with heard := true } } : State).mirror).settleMeter

/-- METER_LINK_LOST (R629, R637, R639): a side has had no valid frame for 10 ms, and its session key is gone with the fault (R641). The
package's gap starts at its last valid frame, at `ms`; the Meter integrates up to its own. -/
def execMeterLinkLost (meterSide : Bool) (ms : BitVec 64) (s : State) : Act := occurs s <|
  let m := s.meter
  if meterSide then
    need .chipPhase (m.powered && m.lostSince.isNone && m.keyMeter.isSome) <|
      let ts := m.tenures.map fun t => { t.accrue (max t.since m.lastFrame) with unmetered := true }
      .next { s with meter := { m with lostSince := some m.lastFrame, keyMeter := none, tenures := ts } }
  else
    need .chipPhase (m.up && s.aonRuns) <|
      let m := { m with up := false, resync := false, keyPkg := none, frames := [], resetDue := false, gapOpen := true,
                        gapStart := if m.gapOpen then m.gapStart else ms.toNat, gapChanges := if m.gapOpen then m.gapChanges else 0 }
      .next ({ s with meter := m } : State).settleMeter

/-- METER_PAIRING (R628, R637, R639, R641): one key agreement: the Meter checks the digest of the package's DeviceID modulus against the one that
it has recorded, the package the Meter's chain. When it succeeds both hold one session key, whose bits are free, and the package sends its gap
record and the full vector of every slot that is not FREE. -/
def execMeterPairing (digestOk chainOk : Bool) (s : State) : Act := occurs s <|
  let m := s.meter
  need .chipPhase (m.powered && s.trust.vault.isSome && !m.up) <|
    need .badFact (digestOk == (sha s.modulus == recordedDevid)) <|
    if !(digestOk && chainOk) then .next ({ s with meter := { m with pairFailed := true } } : State).settleMeter
    else
      let slots := (kkeys s.dens).filter fun n => (s.den n).phase != .free
      let noted := slots.foldl (fun n i => kput {} n i (s.den i).vector) ([] : KMap MVec)
      let ts := if m.gapOpen && m.counts then m.tenures.map fun t => { t.accrue (max t.since m.lastFrame) with unmetered := true }
        else m.tenures
      let (key, s) := s.freeKey
      let m := { m with tenures := ts, keyMeter := some key, keyPkg := some key, pairFailed := false, heard := true, up := true, resync := m.gapOpen,
                        frames := slots.map s.changeOf, noted := noted, lastFrame := m.ticks,
                        lostSince := if m.gapOpen then some (m.lostSince.getD m.lastFrame) else m.lostSince }
      .next ({ s with meter := m } : State).settleMeter

/-- UNMETERED_RECEIPT (R635, R639): the resynchronisation ends: tenures of slots that are FREE meanwhile end, one receipt covers both
views of the gap, and STATE becomes 2. `gapTicks` is the Meter's own gap, with what it did not run; `ms` the gap's end in AON time. -/
def execUnmeteredReceipt (gapTicks : Nat) (ms : BitVec 64) (s : State) : Act := occurs s <|
  let m := s.meter
  needSome .chipPhase m.lostSince fun t0 =>
    need .chipPhase (m.up && m.resync && m.frames.isEmpty) <| need .badFact (m.ticks - t0 ≤ gapTicks) <|
      let gone := m.tenures.filter fun t => kget {} m.noted t.slot == {}
      let s := gone.foldl (fun (s : State) t => s.closeTenure t) s
      let gap := toLE 8 s.incarnation ++ toLE 8 m.gapStart ++ toLE 8 ms.toNat ++ toLE 4 m.gapChanges ++ List.replicate 36 0
      let s := s.issue 3 t0 m.ticks 2 (ticksToMs gapTicks) [gap]
      let n := s.meter
      let ts := n.tenures.map fun t => { t with since := n.ticks, unmetered := true }
      let n := { n with lostSince := none, resync := false, gapOpen := false, gapChanges := 0, tenures := ts,
                        unmetered := n.unmetered + (gapTicks - (max t0 n.periodStart - t0)) }
      .next ({ s with meter := n } : State).settleMeter

/-- METER_SEAL_OPEN (R626, R637): the foil opens; METER_SEAL_N is high until Sambeha reseals the Meter. -/
def execMeterSealOpen (s : State) : Act := occurs s <|
  need .chipPhase (!s.meter.sealOpen) <| .next ({ s with meter := { s.meter with sealOpen := true } } : State).settleMeter

/-- PERIOD_RECEIPT (R633): 60 s of ticks after the last. -/
def execPeriodReceipt (s : State) : Act := occurs s <|
  let m := s.meter
  need .chipPhase m.powered <| need .badFact (1500000000 ≤ m.ticks - m.periodStart) <|
    let ts := if m.counts then m.tenures.map fun t => t.accrue m.ticks else m.tenures
    let unm := m.unmeteredTicks
    let s := s.issue 1 m.periodStart m.ticks (if unm = 0 then 0 else 2) (ticksToMs unm) (ts.map fun t => t.entry true)
    let ts := ts.map fun t => { t with ints := {}, unmetered := !m.counts }
    .next { s with meter := { s.meter with tenures := ts, unmetered := 0, periodStart := m.ticks } }

/-- ENERGY_SAMPLE (R631, R632): the Meter's tick count and its energy counter go on while it is powered, whatever its link does. -/
def execEnergySample (mJ ticks : Nat) (s : State) : Act := occurs s <|
  let m := s.meter
  need .chipPhase m.powered <|
    .next { s with meter := { m with energy := (m.energy + mJ) % 2 ^ 64, ticks := m.ticks + ticks } }

/-! ### Supply (R624, R640) -/

/-- The Meter at the loss of 54 V (R640, R641): the tenures are integrated to the last tick it commits; its keys are gone. -/
def Meter.powerLoss (m : Meter) : Meter :=
  let ts := if m.counts then m.tenures.map fun t => t.accrue m.ticks else m.tenures
  { m with powered := false, tenures := ts, keyMeter := none, keyPkg := none, heard := false, up := false, pairFailed := false,
           resync := false, frames := [], noted := [], gapOpen := false, gapChanges := 0, resetDue := false }

/-- The Meter at power-on (R624, R640): the open tenures' CLOSE receipts are issued, and the time without power, in its ticks as it
records it, is unmetered. -/
def State.meterOn (s : State) (off : Nat) : State :=
  let m := s.meter
  let s := ({ s with meter := { m with powered := true, powerCycles := m.powerCycles + 1 } } : State).closeAll
  ({ s with meter := { s.meter with unmetered := s.meter.unmetered + off, lostSince := none, lastFrame := s.meter.ticks } } : State).settleMeter

end Sys2Proof.Machine
end

