-- ==== Sys2Proof/Machine/PowerOps.lean ====
section
/-! DEFINITION. Machine/PowerOps.lean: the levels of the power manager, what each applies, and the core voltage (R645, R646, R655 to
R660). -/

namespace Sys2Proof.Machine

open Sys2Proof

/-- The core voltage of a step in mV (R645). -/
def stepVolt (k : Nat) : Nat := [850, 810, 770, 730, 690, 650, 620, 600].getD k 600

/-- The voltage that rails 0 to 7 move to (R646): that of the faster step that waits for it, else that of the present step. -/
def Power.voltGoal (p : Power) : Nat := stepVolt (p.rising.getD p.step)

/-- One microsecond of the core voltage: 10 mV towards its goal (R646). -/
def Power.moveVolts (p : Power) : Power :=
  let g := p.voltGoal
  { p with volts := if p.volts < g then min g (p.volts + 10) else max g (p.volts - 10) }

/-- The step of a level (R655). -/
def levelStep (l : Nat) : Nat := min l 7

/-- The throttle bundles of a level for a den of a class with a ceiling (R655, R660): `brake` ignores the ceiling. -/
def levelThrottle (brake : Bool) (ceil l : Nat) : Nat :=
  if l < 8 then 0
  else if 26 ≤ l then 14
  else
    let n := if l ≤ 21 then l - 7 else 14
    if brake then n else min n ceil

/-- CLASS_CEIL of a class (R656). -/
def State.classCeil (s : State) (c : Nat) : Nat := bitsOf (s.reg 0x0210 4) (8 * c) 8

/-- The effective level (R657). -/
def State.effLevel (s : State) : Nat :=
  let p := s.power
  if p.brake then max (s.reg 0x0210 3) p.lt else max p.lp p.lt

/-- The actions of the effective level (R646, R655 to R660): a slower step is taken at once, a faster one once the voltage has
settled; every den gets its throttle; an entry to level 26 is counted. -/
def State.applyLevel (s : State) : State :=
  let l := s.effLevel
  let p := s.power
  let k := levelStep l
  let s := if l = 26 ∧ p.level ≠ 26 then (s.bump 0x0210 0x0B).raise 1882 else s
  let p' := { p with level := l, step := max p.step k, rising := if k < p.step then some k else none }
  let s := { s with power := p' }
  (kkeys s.dens).foldl (fun (s : State) n => s.modDen n fun d =>
    if d.phase = .free then d else { d with throttle := levelThrottle p.brake (s.classCeil d.powerClass) l }) s

end Sys2Proof.Machine
end

