-- ==== Sys2Proof/Machine/BringUp.lean ====
section
/-! DEFINITION. Machine/BringUp.lean: from a cold busbar, or a chip reset, to a dictionary that answers (chapter 19). -/

namespace Sys2Proof.Machine

open Sys2Proof

/-- A phase of the bring-up. -/
def State.setPhase (s : State) (p : ChipPhase) : State := { s with chip := { s.chip with phase := p } }

/-- A step of R710 begins when the step before it has ended, and has a meaning of its own. -/
def bootStep (n : Nat) (s : State) (k : Out State) : Out State := need .chipPhase (s.chip.phase == .boot n && !s.power.trip) k

/-- POWER_ON (R707, R708, R724, R543, R624, R640, R727): t0. The AON island starts, latches PRIMARY_SEL and advances INCARNATION; the
Meter starts on its own supply. `off` is the time without power as the Meter records it. -/
def execPowerOn (sel : Half) (off : Nat) (s : State) : Act := occurs s <|
  need .chipPhase (s.chip.phase == .dark) <|
    let c : Chip := { phase := .sequencing 0, primary := match sel with | .west => 0 | .east => 1,
                      ended5 := s.chip.ended5, perst := s.chip.perst }
    .next ((({ s with chip := c } : State).advanceIncarnation).meterOn off)

/-- Every rail, the AON island included, switches off (R666, R717, R730, R303, R445, R505, R613). -/
def State.loseInput (s : State) : State :=
  let s := s.clearLogic
  let c : Chip := { ended5 := s.chip.ended5, perst := s.chip.perst }
  { s with chip := c, meter := s.meter.powerLoss, power := {}, trust := { s.trust with eid := 0, dynAddr := 0, tid := 0 },
           repair := { s.repair with resets := [] } }

/-- INPUT_LOSS (R666, R730): the loss of 54 V. -/
def execInputLoss (s : State) : Act := occurs s <| need .chipPhase s.aonRuns <| .next s.loseInput

/-- REGULATOR_TIMEOUT (R708): a regulator misses regulation for 5 ms. The sequence runs once more after 1 s; the second failure leaves
rail 13 alone. -/
def execRegulatorTimeout (_rail : Fin 15) (s : State) : Act := occurs s <|
  match s.chip.phase with
  | .sequencing 0 => .next ((s.setPhase (.sequencing 1)).bump 0x0250 2)
  | .sequencing _ => .next ((s.setPhase .rail13).bump 0x0250 2)
  | _ => .off .chipPhase

/-- PERST_DEASSERT (R709): tR: every rail is good and PERST# is deasserted. -/
def execPerstDeassert (s : State) : Act := occurs s <|
  let ok := match s.chip.phase with | .sequencing _ => true | .held => true | _ => false
  need .chipPhase ok <| .next (({ s with chip := { s.chip with perst := false } } : State).setPhase (.boot 0))

/-- PERST_ASSERT (R505, R709, R717, R727): PERST# or D3cold. A chip whose dictionary serves begins a chip reset that is never counted;
a bring-up returns to reset at once; before tR, and with rail 13 alone, the chip is in reset already. -/
def execPerstAssert (_d3cold : Bool) (s : State) : Act := occurs s <|
  let s := { s with chip := { s.chip with perst := true } }
  match s.chip.phase with
  | .ready =>
    if s.resetRuns .chip then .next s
    else
      let x : Reset := { dom := .chip, cause := 0, counted := false }
      .next { s with repair := { s.repair with resets := s.repair.resets ++ [x] } }
  | .boot _ => .next s.resetChip
  | .recovery => .next s.resetChip
  | _ => .next s

/-- Whether the ROM accepts a bank (R597). -/
def State.bankOk (s : State) (b : FwBank) : Bool := b.sigOk && s.reg 0x1801 4 ≤ b.svn

/-- A firmware bank: B or A. -/
def Trust.bank (t : Trust) (b : Bool) : FwBank := if b then t.bankB else t.bankA

/-- The bank that the ROM boots (R597): the active one if it passes, else the other if that passes. -/
def State.bootBank (s : State) : Option Bool :=
  let b := s.trust.activeB
  if s.bankOk (s.trust.bank b) then some b else if s.bankOk (s.trust.bank !b) then some (!b) else none

/-- ROM_BOOT (R710 steps 1 and 2, R593, R594, R607, R653, R680): the secure SRAM of both halves is marched, the keys are derived for
the image that will boot, the alias certificate and a fresh LC_NONCE issued. A primary half with fewer than 12 arrays stops in recovery, a secondary one stays
halted. The certificate's bytes are free. -/
def execRomBoot (needs : List (Half × SettNeed)) (s : State) : Act := occurs s <|
  bootStep 0 s <|
    let of (h : Half) : List SettNeed := (needs.filter fun p => p.1 == h).map (·.2)
    let s := ((s.marchSett .west (of .west)).marchSett .east (of .east)).settleWarn
    let s := { s with power := { s.power with gain := 11 / 10 } }
    let halted := if s.settShort s.secondaryHalf then coresOf s.secondaryHalf else []
    let s := { s with repair := { s.repair with halted := halted } }
    if s.settShort s.primaryHalf then .next (s.setPhase .recovery)
    else
      let (n, s) := s.freeBytes 2
      let (cert, s) := s.freeBytes (1 + leNat n % 2048)
      let s := s.deriveKeys (s.trust.bank (s.bootBank.getD s.trust.activeB))
      let s := { s with dict := s.dict.setBlob 0x1800 2 cert }
      .next (s.freshNonce.setPhase (.boot 1))

/-- FIRMWARE_RELEASE (R710 steps 3 and 4, R447, R568, R597, R713, R714): the active bank, or the other one, is verified and released, or the
ROM stays in recovery; the firmware reads flash and sets LOCK on its sources. `sealedBad` names the sealed elements that fail
authentication, `locks` the sources. -/
def execFirmwareRelease (sealedBad : List (BitVec 16 × Byte)) (locks : List (Fin 2048)) (s : State) : Act := occurs s <|
  bootStep 1 s <|
    let isSealed (p : BitVec 16 × Byte) : Bool := match elemRow p.1.toNat p.2.toNat with | some r => r.pers == 2 | none => false
    need .badFact (sealedBad.all isSealed) <|
      match s.bootBank with
      | none => .next (s.setPhase .recovery)
      | some b =>
        let first := b == s.trust.activeB
        let bank := s.trust.bank b
        let s := s.clearCdi
        let s := { s with chip := { s.chip with runsB := b, phase := .boot 2,
                                                owed := (if first then [] else [1816]) ++ (if sealedBad.isEmpty then [] else [1817]) } }
        let s := ((s.setReg 0x0000 4 bank.version).setReg 0x1801 3 bank.svn).setReg 0x1801 2 (if first then 0 else 1)
        let s := if first then s.setReg 0x0000 5 0 else s
        let s := { s with dict := { s.dict with sealedBad := sealedBad.map fun (p : BitVec 16 × Byte) => elemKey p.1.toNat p.2.toNat } }
        let lock (c : Ic) (n : Fin 2048) : Ic := c.setSrc n.val { c.src n.val with cfg := (c.src n.val).cfg ||| 0x100000000 }
        .next ({ s with ic := locks.foldl lock s.ic } : State).setDomModes

/-- WELL_TRAINING (R710 step 5, R272, R278, R390, R713): the wells are trained with TSV repair and zeroed; those that fail twice keep
STATE 0. -/
def execWellTraining (failed : List WellIx) (repairs : List WellRepair) (s : State) : Act := occurs s <|
  bootStep 2 s <|
    let bad := failed.map (·.val)
    let zero (s : State) (w : Nat) : State :=
      let x := s.well w
      s.setWell w { x with data := [], bad := [], corrected := [], failed := [] }
    let s := (List.range 16).foldl (fun (s : State) w => (zero s w).setReg (0x300 + w) 0 (if bad.contains w then 0 else 1)) s
    .next ((s.repairWells repairs).setPhase (.boot 3))

/-- CISTERN_TRAINING (R710 step 6, R287, R293, R295, R297, R314, R713): one fresh reservoir key in slot 0 of every controller, whose bits
are free; every counter block and tree node written and the root to match, so that every line reads as zero; a cistern that fails twice has STATE 2. -/
def execCisternTraining (failed : List CisIx) (s : State) : Act := occurs s <|
  bootStep 3 s <| need .chipPhase s.seam.trained <|
    let bad := failed.map (·.val)
    let (b, s) := s.freeBytes 32
    let one (s : State) (c : Nat) : State :=
      let x : Cistern := { retired := (s.cis c).retired, key0 := some (BitVec.ofNat 256 (leNat b)) }
      (s.setCis c x.writeTree).setReg (0x320 + c) 0 (if bad.contains c then 2 else 1)
    .next (((List.range 32).foldl one s).setPhase (.boot 4))

/-- REPAIR_MAP_BUILD (R710 steps 7 and 8, R38, R39, R364, R512, R673 to R677, R682): the positions that the march cannot repair or whose tile fails it
otherwise, and the dead routers, are faulty, every pending repair is applied, routes and vertical ports are computed, and the links that are enabled begin to
train. -/
def execRepairMapBuild (dead faulty : List (Fin 132 × Fin 64)) (f : MarchFacts) (s : State) : Act := occurs s <|
  bootStep 4 s <| need .badFact f.sett.isEmpty <|
    let s := s.marchPlaces f.needs
    let r := (dead ++ faulty).foldl (fun (r : Repair) p => r.addPlace p.1.val p.2.val) s.repair
    let r := { r with dead := (r.dead ++ dead.map fun p => (p.1.val, p.2.val)).eraseDups }
    let s := { s with repair := r }
    let s := (List.range 128).foldl State.applyRow s
    let s := s.settleWarn.computeRoutes
    let floorOfCis (c : Nat) : Nat := c / 2
    let s := (List.range 32).foldl (fun (s : State) c => if s.floorOff (floorOfCis c) then s.setReg (0x320 + c) 0 2 else s) s
    let link (s : State) (l : Nat) : State :=
      if (s.link l).unavailable ∨ s.floorOff (l / 2) then s.setLinkState l 4
      else if s.reg (0x1000 + l) 1 = 1 then s.setLinkState l 1 else s
    .next (((List.range 32).foldl link s).setPhase (.boot 5))

/-- LINK_TRAINING_END (R710 step 9, R713): every enabled link is up, or 1,000 ms have passed; a link that is not up trains on. -/
def execLinkTrainingEnd (limit : Bool) (s : State) : Act := occurs s <|
  bootStep 5 s <|
    let up (l : Nat) : Bool := s.reg (0x1000 + l) 0 != 1
    need .badFact (limit || (List.range 32).all up) <| .next (s.setPhase (.boot 6))

/-- The reset that a bring-up ends, if one began it (R689): its entry, its count and its source. -/
def State.endChipReset (s : State) (ms : Nat) : State :=
  match s.repair.resets.find? (·.dom == .chip) with
  | some x =>
    let s := { s with repair := { s.repair with resets := s.repair.resets.filter fun (y : Reset) => y.dom != ResetDom.chip } }
    (s.logReset .chip x.cause 0 ms).raise 1955
  | none => s

/-- The PCI Express link has trained by the time the dictionary is ready (R480, R507): what LINK_STATE tells is a free value within its fields (log
entry 98). -/
def State.trainPcie (s : State) : State :=
  let n := Config.pcieLink s.fresh
  let v := if n = 0 then 0 else 1 + n % 6 + 2 ^ 4 * 2 ^ (n / 6 % 5) + 2 ^ 9 * (n / 30 % 2)
  ({ s with fresh := s.fresh + 1 } : State).setReg 0x1200 0 v

/-- DICT_READY (R710 step 10, R381, R465, R689, R713, R715, R725): the dictionary is ready; READY, BRINGUP_MS, REG_PHASE, and the sources
that bring-up owes. `ms` is the time since tR, `aon` the AON milliseconds since 54 V. -/
def execDictReady (ms aon : BitVec 32) (s : State) : Act := occurs s <|
  bootStep 6 s <|
    let s := ((s.setReg 0x0000 0x0A ms.toNat).setReg 0x2300 0 1).trainPcie
    let owed := s.chip.owed
    let five := s.chip.ended5
    let s := { s with dict := { s.dict with ready := true },
                      repair := { s.repair with settServes := true },
                      chip := { s.chip with phase := .ready, owed := [], ended5 := false } }
    let s := owed.foldl State.raise s
    let s := s.endChipReset aon.toNat
    let s := if five then s.raise 1956 else s
    let s := ((s.settleMeter.level 1942 s.repair.pending).settleWarn).level 1879 (s.power.pinLow || s.power.sag)
    if s.power.brake || s.power.pinLow || s.power.sag then
      .next ({ s with power := { s.power with brake := true } } : State).applyLevel
    else .next s

end Sys2Proof.Machine
end

