-- ==== Sys2Proof/Machine/PowerCommands.lean ====
section
/-! DEFINITION. Machine/PowerCommands.lean: the power manager, droop stretch, the brake, temperature and rails, as commands (chapter 17). -/

namespace Sys2Proof.Machine

open Sys2Proof

/-! ### Numbers -/

/-- The value of an F32 encoding; zero for one that is no finite number, which no element holds (R439). -/
def f32Rat (w : Nat) : Rat :=
  match fp32.decode w with
  | .fin neg m x =>
    let v : Rat := if 0 ≤ x then (m : Rat) * ((2 ^ x.toNat : Nat) : Rat) else (m : Rat) / ((2 ^ (-x).toNat : Nat) : Rat)
    if neg then -v else v
  | _ => 0

/-- The F32 encoding nearest to a value (DESIGN CHOICE, log entry 94: how a reported value is rounded is not stated). -/
def ratF32 (v : Rat) : Nat :=
  let a : Rat := if v < 0 then -v else v
  let scaled : Rat := a * ((2 ^ 180 : Nat) : Rat)
  let n := scaled.floor.toNat
  let m := 2 * n + if (n : Rat) = scaled then 0 else 1
  (fp32.round .near (v < 0) m (-181)).1

/-- The sum of some values. -/
def ratSum (l : List Rat) : Rat := l.foldl (· + ·) 0
/-- The mean of some values; zero of none. -/
def ratMean (l : List Rat) : Rat := if l.isEmpty then 0 else ratSum l / (l.length : Rat)

/-- An F32 element as a value. -/
def State.f32 (s : State) (ix el : Nat) : Rat := f32Rat (s.reg ix el)

/-! ### The estimate (R652, R668) -/

/-- A tile's block sensor in °C (R473, R652). -/
def State.blockTemp (s : State) (t : Nat) : Rat := ((kget 0 s.power.die (32 * (rowOf t / 4) + colOf t / 4) : Int) : Rat) / 64

/-- V/V0 of R652, for a core voltage in mV. -/
def voltRatio (mV : Nat) : Rat := (mV : Rat) / 850

/-- The energy of events in joules (R652): E_x is in pJ. -/
def State.eventEnergy (s : State) (mV : Nat) (n : List Nat) : Rat :=
  let e := ratSum ((List.range 6).map fun i => s.f32 0x0280 i * (n.getD i 0 : Rat))
  voltRatio mV * voltRatio mV * e / 1000000000000

/-- The leakage of a tile in watts before λ (R652): P_LEAK_60 is in mW. -/
def State.leak (s : State) (mV t : Nat) : Rat :=
  voltRatio mV * s.f32 0x0280 6 / 1000 * (1 + s.f32 0x0280 7 * (s.blockTemp t - 60))

/-- Whether λ is 1 for a tile (R652): in a den's rectangle, or under save or scrub. -/
def State.tileAwake (s : State) (t : Nat) : Bool :=
  s.dens.any fun (p : Nat × Den) => (p.2.holdsAll && p.2.rect.has t) || p.2.scrubs.any fun u => u == .shaft t

/-- The events of a slot's tiles in the microsecond (R473, R652): the array cycles are those counted (R171), the others what is told. -/
def State.slotEvents (s : State) (f : PowerFacts) (slot : Nat) : List Nat :=
  let n := match f.slots.find? (·.1.val == slot) with | some p => p.2 | none => []
  (s.den slot).arrayCycles :: n.drop 1

/-- P_est in watts (R652). -/
def State.estimate (s : State) (f : PowerFacts) : Rat :=
  let events := s.eventEnergy s.power.volts f.other +
    ratSum ((kkeys s.dens).map fun n => s.eventEnergy s.power.volts (s.slotEvents f n))
  let leaks := ratSum ((List.range 8192).map fun t => (if s.tileAwake t then 1 else 1 / 4) * s.leak s.power.volts t)
  s.f32 0x0280 8 + events * 1000000 + leaks

/-- The joules that one microsecond adds to a slot's DEN_ENERGY, before the gain (R668). -/
def State.denJoules (s : State) (f : PowerFacts) (slot : Nat) : Rat :=
  s.eventEnergy s.power.volts (s.slotEvents f slot) + ratSum ((s.den slot).rect.tiles.map (s.leak s.power.volts)) / 1000000

/-- A_pk: the mean of p over the last PEAK_WIN ms, or over what there is (R654; DESIGN CHOICE for the first, log entry 95). -/
def State.peakAvg (s : State) : Rat := ratMean (s.power.hist.take (1000 * s.reg 0x0210 2))
/-- A_s: the mean of p over the last 1 s, or over what there is (R654). -/
def State.sustAvg (s : State) : Rat := ratMean s.power.hist

/-- The power manager runs: the rails of its half's cores are on and no thermal trip is in progress (R665). -/
def State.powerRuns (s : State) : Bool :=
  !s.power.trip && match s.chip.phase with | .boot _ => true | .ready => true | _ => false

/-- POWER_EVAL (R646, R652 to R658, R668, R669): each 1 µs: the core voltage moves, the estimate, its averages, Lp, the level and its actions, the sources of SUST and
PEAK, and every slot's energy. While the brake acts Lp stays. -/
def execPowerEval (f : PowerFacts) (s : State) : Act := occurs s <|
  need .chipPhase s.powerRuns <|
    let s := { s with power := s.power.moveVolts }
    let est := s.estimate f
    let q := s.power
    let p := q.gain * est
    let joules := (kkeys s.dens).filter fun n => (s.den n).holdsAll
    let energy := joules.foldl (fun m n => kmod 0 m n (· + q.gain * s.denJoules f n)) q.energy
    let q := { q with hist := (p :: q.hist).take 1000000, ests := (est :: q.ests).take 50, energy := energy,
                      sinceRise := q.sinceRise + 1, sinceChange := q.sinceChange + 1 }
    let s := (kkeys s.dens).foldl (fun (s : State) n => s.modDen n fun d => { d with arrayCycles := 0 }) { s with power := q }
    let peakLim : Rat := (s.reg 0x0210 1 : Rat)
    let sustLim : Rat := (s.reg 0x0210 0 : Rat)
    let apk := s.peakAvg
    let as_ := s.sustAvg
    let peak : Bool := 97 / 100 * peakLim < p || 97 / 100 * peakLim < apk
    let sust : Bool := 99 / 100 * sustLim < as_
    let above := peak || sust
    let under : Bool := p < 75 / 100 * peakLim && as_ < 95 / 100 * sustLim
    let q := { q with peak := peak, sust := sust, underFor := if under then q.underFor + 1 else 0 }
    let least := s.reg 0x0200 1
    let q := if q.brake then q
      else
        let q := if above && q.lp < 26 && 5 ≤ q.sinceRise then { q with lp := q.lp + 1, sinceRise := 0, sinceChange := 0 } else q
        let q := if 1000 ≤ q.underFor && 1000 ≤ q.sinceChange && least < q.lp then { q with lp := q.lp - 1, sinceChange := 0 } else q
        if q.lp < least then { q with lp := least, sinceRise := 0, sinceChange := 0 } else q
    let s := ({ s with power := q } : State).applyLevel
    .next ((s.level 1877 sust).level 1878 peak)

/-- STEP_CHANGE_SETTLED (R646): the raised voltage has settled, and both halves take the faster step. -/
def execStepChangeSettled (s : State) : Act := occurs s <|
  needSome .chipPhase s.power.rising fun k =>
    need .chipPhase (s.power.volts == stepVolt k) <| .next { s with power := { s.power with step := k, rising := none } }

/-- GAIN_CORRECTION (R651, R653, R473): each 50 µs: the rails' voltages and currents, these with their gain and offset; the gain moves an
eighth of the way to the measured ratio, clamped to 0.8 to 1.6. Ten clamped corrections in a row raise the gain source. -/
def execGainCorrection (rails : List (Rat × Rat)) (s : State) : Act := occurs s <|
  need .chipPhase s.powerRuns <| need .badFact (rails.length == 16) <|
    let amps := (List.range 16).map fun n =>
      s.f32 0x0281 n * (rails.getD n (0, 0)).2 + s.f32 0x0281 (16 + n)
    let p := s.power
    let meas := (rails.getD 15 (0, 0)).1 * amps.getD 15 0
    let mean := ratMean p.ests
    let g := if 0 < mean then p.gain + (meas / mean - p.gain) / 8 else Config.gainByZero meas
    let lo : Rat := 8 / 10
    let hi : Rat := 16 / 10
    let clamped : Bool := g < lo || hi < g
    let g' := if g < lo then lo else if hi < g then hi else g
    let n := if clamped then p.clamped + 1 else 0
    let s := { s with power := { p with gain := g', clamped := n, railV := rails.map (·.1), railI := amps } }
    .next (if n = 10 then s.raise 1884 else s)

/-! ### Droop (R647 to R650) -/

/-- The droop state of a half. -/
def Power.droop (p : Power) : Half → Droop
  | .west => p.west
  | .east => p.east

/-- Set the droop state of a half. -/
def State.setDroop (s : State) (h : Half) (d : Droop) : State :=
  { s with power := match h with
    | .west => { s.power with west := d }
    | .east => { s.power with east := d } }

/-- The half of a placement block, in block order. -/
def blockHalf (b : Nat) : Half := if b % 32 < 16 then .west else .east

/-- Whether a block's core rail has fallen below the present step's core voltage by more than a share, in hundredths of a percent, and its
DROOP_TRIM in steps of 0.05 % (R473, R474, R647). -/
def State.droops (s : State) (share : Nat) (x : RailSample) : Bool :=
  let trim : Int := (BitVec.ofNat 8 (natAt (s.dict.blob 0x0283 0) x.block.val 1)).toInt
  (x.uV : Int) * 10000 < (1000 * stepVolt s.power.step : Nat) * (10000 - share - 5 * trim)

/-- DROOP_TRIP (R647, R648, R670, R671): the sensors of a half change what they call for: nothing, 12.5 % (a trip) or 25 % (a deep trip).
A rise takes effect at once. Every sensor that trips deep and did not stand deep before counts. -/
def execDroopTrip (h : Half) (tripped : List RailSample) (deep : Bool) (s : State) : Act := occurs s <|
  need .chipPhase s.powerRuns <| need .badFact (deep == tripped.any (s.droops 600) && tripped.all fun x => blockHalf x.block.val == h) <|
    let d := s.power.droop h
    let call := if deep then 2 else if tripped.any (s.droops 400) then 1 else 0
    let now := ((tripped.filter (s.droops 600)).map (·.block.val)).eraseDups
    let more := (now.filter fun b => !d.deep.contains b).length
    let d' : Droop := { called := call, force := max d.force call, falling := d.falling && call < d.force, deep := now }
    let s := s.setDroop h d'
    .next ((List.replicate more 1885).foldl State.raise (s.bump 0x0200 (match h with | .west => 4 | .east => 5) more))

/-- STRETCH_DECAY (R648, R670): the droop stretch falls, 64 tile cycles after it was last called for, 32 between two falls. `cycles` is the
number of stretched tile cycles that STRETCH_CYC has not counted yet (DESIGN CHOICE, log entry 164). -/
def execStretchDecay (h : Half) (cycles : Nat) (s : State) : Act := occurs s <|
  let d := s.power.droop h
  need .chipPhase (d.called < d.force) <| need .badFact ((if d.falling then 32 else 64) ≤ cycles) <|
    let s := s.setDroop h { d with force := d.force - 1, falling := d.called < d.force - 1 }
    .next (s.bump 0x0200 (match h with | .west => 2 | .east => 3) cycles)

/-! ### The brake (R660, R661, R725, R729) -/

/-- A brake begins: the level follows within a microsecond (R661). Outside service it waits for the dictionary (R725); during a trip it
changes nothing (R665). -/
def State.brakeOn (s : State) : State :=
  let s := s.level 1879 true
  if s.power.trip then s
  else
    let s := s.bump 0x0210 0x0D
    if s.chip.phase = .ready then ({ s with power := { s.power with brake := true } } : State).applyLevel else s

/-- PWR_BRAKE (R660, R661, R671, R725): an edge of PWR_BRAKE_N. -/
def execPwrBrake (low : Bool) (s : State) : Act := occurs s <|
  need .chipPhase (s.aonRuns && s.power.pinLow != low) <|
    let s := { s with power := { s.power with pinLow := low } }
    .next (if low then s.brakeOn else s.level 1879 s.power.sag)

/-- BRAKE_END (R660, R725): the pin has read high for 1 µs; the level returns at the next evaluation. -/
def execBrakeEnd (s : State) : Act := occurs s <|
  need .chipPhase (s.power.brake && !s.power.pinLow && !s.power.sag) <| .next { s with power := { s.power with brake := false } }

/-- INPUT_SAG (R729): below 46 V for 1 µs or longer. -/
def execInputSag (s : State) : Act := occurs s <|
  need .chipPhase (s.aonRuns && !s.power.sag) <| .next ({ s with power := { s.power with sag := true } } : State).brakeOn

/-- SAG_END (R729): above 47 V for 1 ms. -/
def execSagEnd (s : State) : Act := occurs s <|
  need .chipPhase s.power.sag <|
    let s := { s with power := { s.power with sag := false, brake := s.power.brake && s.power.pinLow } }
    .next (s.level 1879 s.power.pinLow)

/-! ### Temperature (R662 to R665) -/

/-- A thermal trip (R665). -/
def State.thermalTrip (s : State) : State :=
  if s.power.trip then s
  else
    let s := (kkeys s.dens).foldl (fun (s : State) n => s.faultAny n 0x1101) s
    let s := { s with power := { s.power with trip := true }, chip := { s.chip with resequence := true } }
    (s.bump 0x0230 6).raise 1881

/-- The thermal level changes, with its source (R664, R671). -/
def State.setLt (s : State) (n : Nat) : State := ({ s with power := { s.power with lt := n } } : State).level 1880 (n != 0)

/-- Readings of a group as signed numbers with their offsets (R473, R662). -/
def State.readings (s : State) (g : SensorGroup) (raw : List (BitVec 16)) : List Int :=
  let offs : List Byte := match g with
    | .die => s.dict.blob 0x0282 0
    | .well => s.dict.blob 0x0282 1
    | .floor => s.dict.blob 0x0282 2
    | .cistern => s.dict.blob 0x0282 3
    | .water => []
  (List.range raw.length).map fun i => (raw.getD i 0).toInt + sextNat 16 (natAt offs (2 * i) 2)

/-- A list of readings as a store. -/
def storeOf (l : List Int) : KMap Int := (List.range l.length).foldl (fun m i => kput 0 m i (l.getD i 0)) []

/-- The consecutive readings of 110 °C or more, from a first key (R663). -/
def hotRuns (m : KMap Nat) (base : Nat) (l : List Int) : KMap Nat :=
  (List.range l.length).foldl (fun m i => kput 0 m (base + i) (if 7040 ≤ l.getD i 0 then kget 0 m (base + i) + 1 else 0)) m

/-- The largest of some readings. -/
def hottest : List Int → Int
  | [] => 0
  | [x] => x
  | x :: l => max x (hottest l)

/-- A reading as an F32 in °C. -/
def tempF32 (n : Int) : Nat := ratF32 ((n : Rat) / 64)

/-- What a well's four readings do (R228, R278, R663). -/
def State.wellTemp (s : State) (w : Nat) (l : List Int) : State :=
  let h := hottest l
  let s := s.setReg (0x300 + w) 1 (tempF32 h)
  if 5440 < h then s.setReg (0x300 + w) 2 1 else if h ≤ 5248 then s.setReg (0x300 + w) 2 0 else s

/-- What a cistern's reading does (R314, R663): its slots are halved at 95 °C until it reads 90 °C or less. -/
def State.cisTemp (s : State) (c : Nat) (h : Int) : State :=
  let s := s.setReg (0x320 + c) 1 (tempF32 h)
  let l := s.power.halved
  let l := if 6080 ≤ h then (if l.contains c then l else l ++ [c]) else if h ≤ 5760 then l.filter (· != c) else l
  { s with power := { s.power with halved := l } }

/-- SENSOR_SAMPLE (R228, R473, R662, R663, R665, R671): one reading of a group's sensors, in 1/64 °C. -/
def execSensorSample (g : SensorGroup) (raw : List (BitVec 16)) (s : State) : Act := occurs s <|
  need .chipPhase (s.aonRuns && s.chip.phase != .rail13) <|
    let count := match g with | .die => 512 | .well => 64 | .floor => 16 | .cistern => 32 | .water => 2
    need .badFact (raw.length == count) <|
      let l := s.readings g raw
      let p := s.power
      let junction (s : State) (base : Nat) : State :=
        let runs := hotRuns p.hotRuns base l
        let s := { s with power := { s.power with hotRuns := runs } }
        let s := if 6720 ≤ hottest l then s.setLt 26 else s
        if runs.any fun (_, n) => 10 ≤ n then s.thermalTrip else s
      match g with
      | .die => .next (junction { s with power := { p with die := storeOf l } } 0)
      | .floor => .next (junction { s with power := { p with floor := storeOf l } } 512)
      | .well =>
        let s := { s with power := { p with well := storeOf l } }
        let s := (List.range 16).foldl (fun (s : State) w => s.wellTemp w ((l.drop (4 * w)).take 4)) s
        let s := if 6080 ≤ hottest l then s.setLt 26 else s
        .next (if 6400 ≤ hottest l then s.thermalTrip else s)
      | .cistern =>
        let s := { s with power := { p with cistern := storeOf l } }
        .next ((List.range 32).foldl (fun (s : State) c => s.cisTemp c (l.getD c 0)) s)
      | .water =>
        let s := { s with power := { p with inlet := l.getD 0 0, outlet := l.getD 1 0 } }
        .next (s.level 1883 (s.f32 0x0230 2 < (l.getD 0 0 : Rat) / 64))

/-- Die and floor readings, in °C. -/
def Power.junctions (p : Power) : List Rat :=
  ((List.range 512).map fun i => ((kget 0 p.die i : Int) : Rat) / 64) ++ (List.range 16).map fun i => ((kget 0 p.floor i : Int) : Rat) / 64
/-- Well readings, in °C. -/
def Power.wellTemps (p : Power) : List Rat := (List.range 64).map fun i => ((kget 0 p.well i : Int) : Rat) / 64

/-- THERMAL_LEVEL_TICK (R664): each 100 µs Lt rises while a reading stands above its threshold; each 10 ms it falls while every reading is
3 °C below. -/
def execThermalLevelTick (rise : Bool) (s : State) : Act := occurs s <|
  let p := s.power
  let td := s.f32 0x0230 0
  let tw := s.f32 0x0230 1
  need .chipPhase s.powerRuns <|
    if rise then
      need .badFact ((p.junctions.any fun t => td < t) || p.wellTemps.any fun t => tw < t) <| .next (s.setLt (min 26 (p.lt + 1)))
    else
      need .badFact ((p.junctions.all fun t => t ≤ td - 3) && p.wellTemps.all fun t => t ≤ tw - 3) <| .next (s.setLt (p.lt - 1))

/-- TRIP_COOLDOWN (R665): the chip reset that ends a trip begins once die and floor sensors read 90 °C or less and wells 85 °C or less. -/
def execTripCooldown (s : State) : Act := occurs s <|
  let p := s.power
  need .chipPhase (p.trip && !s.resetRuns .chip) <|
    need .badFact ((p.junctions.all fun t => t ≤ 90) && p.wellTemps.all fun t => t ≤ 85) <| .next (s.beginReset .chip 0x1101)

/-! ### Rails (R666) -/

/-- RAIL_FAULT (R666, R671, R716): rails 0 to 7 reset their half, rails 8 to 14 the chip, with the faulting rail sequenced again; every den
the reset touches is FAULTED with RAIL_FAULT. Rail 15 is the loss of 54 V. Each counts in RAIL_FAULTS (DEDUCED, log entry 187). -/
def execRailFault (rail : Fin 16) (s : State) : Act := occurs s <|
  let n := rail.val
  need .chipPhase (s.aonRuns && s.chip.phase != .rail13) <|
    let s := (s.bump 0x0250 2).raise (1886 + n)
    if n < 8 then .next (s.beginHalf (if n < 4 then .west else .east) 0x1102 0x1102)
    else if n < 15 then
      let s := (kkeys s.dens).foldl (fun (s : State) k => s.faultAny k 0x1102) s
      .next (({ s with chip := { s.chip with resequence := true } } : State).beginReset .chip 0x1102)
    else .next s.loseInput

end Sys2Proof.Machine
end

