-- ==== Sys2Proof/Machine/DictView.lean ====
section
/-! DEFINITION. Machine/DictView.lean: what a dictionary read of each element gives (chapter 11 and the element tables of the
others): elements that another part of the state holds are computed here; the rest are registers and blobs of the dictionary. -/

namespace Sys2Proof.Machine

open Sys2Proof

/-- A Boolean as a byte. -/
def boolByte (b : Bool) : List Byte := [if b then 1 else 0]

/-- The bits of some Booleans, first lowest. -/
def bitsNat : List Bool → Nat
  | [] => 0
  | b :: l => (if b then 1 else 0) + 2 * bitsNat l

/-- An EXTENT (R439). -/
def extentBytes (start len : Nat) : List Byte := toLE 8 start ++ toLE 8 len

/-! ### Chip (R467, R468, R704) -/

/-- Whether a half is fenced by its secondary (R699). -/
def State.halfFenced (s : State) (h : Half) : Bool := s.repair.fenced && s.secondaryHalf == h

/-- HALF_STATE of one half (R468). -/
def State.halfCode (s : State) (h : Half) : Nat := if s.resetRuns (.half h) then 1 else if s.halfFenced h then 2 else 0

/-- HEALTH (R468). Bit 0 counts a well with a line that has returned WELL_UNCORR since chip reset (DEDUCED, log entry 96). -/
def State.health (s : State) : Nat :=
  bitsNat [
    s.wells.any fun p => !p.2.lost.isEmpty || p.2.failed.any fun x => !x.2.isEmpty,
    s.cisterns.any fun p => !(p.2.fenced ++ p.2.rebuilding ++ p.2.retired).isEmpty,
    (List.range 32).any fun l => s.reg (0x1000 + l) 0 == 3,
    s.power.lt != 0,
    s.power.level != 0,
    s.meterFaulted,
    s.warn != 0,
    s.seam.trained && (s.seam.relayUp != BitVec.allOnes 64 || s.seam.meshUp != BitVec.allOnes 64),
    !s.dict.sealedBad.isEmpty,
    s.reg 0x02BF 0 != 0,
    s.repair.fenced]

/-- Objects 0x0000 to 0x0102 (R467, R468, R704). A sealed text goes with the seal at the transition to Scrapped (R609). -/
def State.viewChip (s : State) (ix el : Nat) : Option (List Byte) :=
  match ix, el with
  | 0x0000, 0 => if s.trust.udsGone then none else some (asciiBytes "Sambeha")
  | 0x0000, 1 => if s.trust.udsGone then none else some (asciiBytes "UO-8192")
  | 0x0000, 8 => some (toLE 1 s.chip.primary)
  | 0x0100, 0 => some (toLE 4 s.health)
  | 0x0100, 1 => some (toLE 1 (s.halfCode .west) ++ toLE 1 (s.halfCode .east))
  | 0x0102, 0 => some (toLE 1 ((kkeys s.repair.faulty).foldl (fun n k => min n (s.repair.sparesLeft k)) 2))
  | 0x0102, 1 => some (toLE 2 ((kkeys s.repair.faulty).filter fun k => s.repair.sparesLeft k == 0).length)
  | 0x0102, 5 => some (toLE 4 s.warn)
  | _, _ => none

/-! ### Power and temperature (R669, R670) -/

/-- The stretch of a half's tile clock (R211, R648): its droop stretch and the follow's 25 %, at most 25 % in all, in steps of 12.5 %. -/
def State.stretch (s : State) (h : Half) : Nat :=
  let droop := match h with | .west => s.power.west.force | .east => s.power.east.force
  min 2 (droop + (if s.seam.stretched = some h then 2 else 0))

/-- PWR_ACT (R669). -/
def State.pwrAct (s : State) : Nat :=
  let p := s.power
  p.level % 32 + 2 ^ 5 * (p.step % 8) +
    2 ^ 8 * bitsNat [p.sust, p.peak, p.pinLow || p.sag, p.lt != 0, p.level == 26] +
    2 ^ 13 * s.stretch .west + 2 ^ 15 * s.stretch .east + (if p.trip then 2 ^ 17 else 0)

/-- Readings as I16 values (R670). -/
def tempBytes (m : KMap Int) (n : Nat) : List Byte := (List.range n).flatMap fun i => toLE 2 (wrapInt 16 (kget 0 m i))

/-- The hottest of `n` readings. -/
def hottestOf (m : KMap Int) (n : Nat) : Int := hottest ((List.range n).map fun i => kget 0 m i)

/-- Sixteen F32 values. -/
def railBytes (l : List Rat) : List Byte := (List.range 16).flatMap fun i => toLE 4 (ratF32 (l.getD i 0))

/-- Objects 0x0200 to 0x0260 (R670). -/
def State.viewPower (s : State) (ix el : Nat) : Option (List Byte) :=
  let p := s.power
  match ix, el with
  | 0x0200, 0 => some (toLE 1 p.step)
  | 0x0210, 5 => some (toLE 4 (ratF32 (p.hist.headD 0)))
  | 0x0210, 6 => some (toLE 4 (ratF32 s.peakAvg))
  | 0x0210, 7 => some (toLE 4 (ratF32 s.sustAvg))
  | 0x0210, 8 => some (toLE 4 (ratF32 p.gain))
  | 0x0210, 9 => some (toLE 1 p.lp)
  | 0x0210, 10 => some (toLE 1 p.lt)
  | 0x0210, 12 => some (toLE 4 s.pwrAct)
  | 0x0230, 3 => some (toLE 4 (tempF32 (hottestOf p.die 512)))
  | 0x0230, 4 => some (toLE 4 (tempF32 p.inlet))
  | 0x0230, 5 => some (toLE 4 (tempF32 p.outlet))
  | 0x0240, 0 => some (tempBytes p.die 512)
  | 0x0240, 1 => some (tempBytes p.well 64)
  | 0x0240, 2 => some (tempBytes p.floor 16)
  | 0x0240, 3 => some (tempBytes p.cistern 32)
  | 0x0250, 0 => some (railBytes p.railV)
  | 0x0250, 1 => some (railBytes p.railI)
  | 0x0260, n => some (toLE 8 ((kget 0 p.energy n : Rat) * 1000).floor.toNat)
  | _, _ => none

/-! ### Wells, cisterns, repair (R278, R314, R315, R704) -/

/-- Objects 0x0300 to 0x0340. -/
def State.viewMem (s : State) (ix el : Nat) : Option (List Byte) :=
  if 0x0300 ≤ ix ∧ ix < 0x0310 then
    if el = 0x0D then some ((List.range 16).flatMap fun i => toLE 2 (kget 0xFFFF (s.well (ix - 0x0300)).spares i)) else none
  else if 0x0320 ≤ ix ∧ ix < 0x0340 then
    let c := ix - 0x0320
    let x := s.cis c
    let f := x.fenced ++ x.rebuilding
    match el with
    | 5 => some (toLE 1 f.length)
    | 6 => some (f.flatMap fun r => extentBytes (2 ^ 37 * c + r.start) r.len)
    | 0x0A => some (toLE 1 x.sweepRegion)
    | 0x0B => some (toLE 4 x.sweepPage)
    | _ => none
  else if ix = 0x0340 then
    match el with
    | 1 => some (toLE 8 (32 * cisBytes - s.cisterns.foldl (fun n p => p.2.retired.foldl (fun n r => n + r.len) n) 0))
    | 6 => some ((List.range 32).flatMap fun c =>
        toLE 14 (bitsNat ((List.range 112).map fun g => kget false (s.cis c).ebit g)))
    | 7 => some (toLE 8 (s.cisterns.foldl (fun n p => if s.reg (0x320 + p.1) 0 = 3 then n else max n p.2.majorMax) 0))
    | _ => none
  else none

/-- The entry of a row half in ROW_MAP (R704). -/
def State.rowMapEntry (s : State) (key : Nat) : List Byte :=
  let f := kget [] s.repair.faulty key
  let tiles := (List.range 64).map fun i => tileAt (if key % 2 = 0 then i else 64 + i) (key / 2)
  let flags := bitsNat [tiles.any s.repair.split, tiles.any fun t => (s.repair.placeOf t).isNone, s.repair.pendingAt key]
  toLE 1 (f.getD 0 0xFF) ++ toLE 1 (f.getD 1 0xFF) ++ toLE 1 flags ++ toLE 1 f.length

/-- Objects 0x0400 to 0x0421. FENCED lists every fenced tile. -/
def State.viewRepair (s : State) (ix el : Nat) : Option (List Byte) :=
  let march (m : Option March) : List Byte := boolByte m.isSome
  match ix, el with
  | 0x0400, 0 => some ((List.range 128).flatMap s.rowMapEntry)
  | 0x0400, 1 => some ((List.range 16).flatMap fun br =>
      toLE 4 (bitsNat ((List.range 32).map fun bc => s.blockAvail (bc, br))))
  | 0x0400, 2 => some ((s.repair.dead.take 256).flatMap fun p => toLE 1 p.1 ++ toLE 1 p.2)
  | 0x0400, 3 => some ((List.range 16).flatMap fun n => toLE 2 (kget 0 s.repair.vportOff n))
  | 0x0401, 2 => some ((((kkeys s.tiles).filter fun t => (s.tile t).fenced).take 256).flatMap fun t => toLE 2 (coordOf t))
  | 0x0420, 1 => some (march s.repair.marchWest)
  | 0x0421, 1 => some (march s.repair.marchEast)
  | 0x3001, 0 =>
    some (toLE 1 (bitsNat [s.repair.seamLive, s.repair.aonLive, s.repair.resetting, s.repair.fenced]))
  | _, _ => none

/-! ### The seam (R214 to R216, R470) -/

/-- SEAM_PHASE (R216). -/
def Seam.phaseWord (m : Seam) : Nat :=
  wrapInt 8 (satInt 8 m.d).1 + 2 ^ 8 * min 255 m.dpeak + (if m.stretched.isSome then 2 ^ 16 else 0) +
    (if m.stretched = some .east then 2 ^ 17 else 0)

/-- Object 0x0410. -/
def Seam.view (m : Seam) (el : Nat) : Option (List Byte) :=
  match el with
  | 0 => some (toLE 8 (if m.follow then 1 else 0))
  | 1 => some (toLE 8 m.phaseWord)
  | 2 => some (toLE 8 m.followCnt.toNat)
  | 3 => some (toLE 8 m.followCyc.toNat)
  | 4 => some (toLE 8 m.slipCnt.toNat)
  | 5 => some (toLE 8 m.corrCnt.toNat)
  | 6 => some (toLE 8 m.relayUp.toNat)
  | 7 => some (toLE 8 m.meshUp.toNat)
  | 8 => some (toLE 8 m.discardCnt.toNat)
  | _ => none

/-! ### Dens (R384, R434, R436, R471) -/

/-- Objects 0x0800 + slot (R434). -/
def Den.view (d : Den) (el : Nat) : Option (List Byte) :=
  match el with
  | 0x00 => some (toLE 1 d.phase.code)
  | 0x02 => some (toLE 2 d.cmdResult.toNat)
  | 0x03 => some (toLE 4 d.cmdSeq.toNat)
  | 0x04 => some (toLE 4 d.rect.word)
  | 0x05 => some (toLE 1 d.shape)
  | 0x06 => some (toLE 1 d.powerClass)
  | 0x07 => some (toLE 4 d.pasid.toNat)
  | 0x08 => some (d.holdings.flatMap fun h => extentBytes (2 ^ 62 * h.kind + h.start) h.len)
  | 0x0B => some (d.pools.flatMap (toLE 1))
  | 0x0C => some (if d.saveArea.isEmpty then List.replicate 16 0 else d.saveArea)
  | 0x0D => some ((List.range 32).flatMap fun l => toLE 2 (kget 0 d.linkBudget l))
  | 0x0E => some (toLE 32 d.digest.toNat)
  | 0x0F => some (toLE 4 d.loadReason.toNat)
  | 0x10 => some (boolByte d.stepActive)
  | 0x11 => some (toLE 8 d.stepCount.toNat)
  | 0x12 => some (toLE 2 d.faultCode.toNat)
  | 0x13 => some (padTo 32 d.faultRec)
  | 0x14 => some (boolByte d.reshapeReady)
  | _ => none

/-- Objects 0x2400 + slot (R384, R436). -/
def Den.viewSlow (d : Den) (el : Nat) : Option (List Byte) :=
  if el < 0x30 then some (toLE 8 (kget 0 d.slots el).toNat)
  else if 0x38 ≤ el then some (toLE 8 (kget 0 d.attr (el - 0x38)).toNat)
  else match el with
    | 0x30 => some (toLE 4 d.misses.toNat)
    | 0x31 => some (toLE 4 d.sdi.toNat)
    | 0x32 => some (toLE 4 d.sdiMisses.toNat)
    | 0x33 => some (toLE 4 d.sdiThresh.toNat)
    | 0x34 => some (toLE 4 d.sdiWin.toNat)
    | 0x35 => some (boolByte d.sdiMissEn)
    | _ => none

/-- Objects 0x2500 + slot (R93, R471). -/
def Den.viewSlips (d : Den) (el : Nat) : Option (List Byte) :=
  match el with
  | 0 => some (toLE 8 d.slipCyc.toNat)
  | 1 => some (toLE 8 d.slipCnt.toNat)
  | 2 => some (toLE 8 d.slipLast.toNat)
  | 3 => some (toLE 8 d.slipLastB.toNat)
  | 4 => some (toLE 8 d.bundle.toNat)
  | n => some (toLE 8 (kget 0 d.causes (n - 8)).toNat)

/-- Objects 0x2600 + slot (R160, R175, R471). -/
def Den.viewArith (d : Den) (el : Nat) : Option (List Byte) :=
  if el = 0 then some (toLE 2 d.stepFlags.toNat) else some (toLE 8 (kget 0 d.fp64Counts el).toNat)

/-! ### Host, interrupts, fabric, trust, Meter -/

/-- The objects of chapters 08, 09 and 12 that count what is in use (R350, R384, R507). -/
def State.viewHost (s : State) (ix el : Nat) : Option (List Byte) :=
  let h := s.host
  match ix, el with
  | 0x0C01, 2 => some (toLE 2 (4096 - s.wins.length))
  | 0x0C02, 0 => some (toLE 2 h.atc.length)
  | 0x1200, 1 => some (toLE 8 (2 ^ h.bar4Log))
  | 0x1201, n => some (toLE 4 (kget 0 h.owners n))
  | 0x1210, 3 => some (toLE 2 (4096 - (h.queues.filter fun p => p.2.phase != .disabled).length))
  | 0x1220, 4 => some (toLE 4 (65536 - (h.fences.filter fun p => p.2.live).length))
  | 0x1230, 2 => some (toLE 2 (1024 - h.apers.length))
  | _, _ => none

/-- Objects 0x1400 and 0x1500 (R590). -/
def Ic.view (c : Ic) (ix el : Nat) : Option (List Byte) :=
  match ix, el with
  | 0x1400, 0 => some ((List.range 5).flatMap fun d => boolByte (c.dom d).retain)
  | 0x1400, 1 => some (toLE 8 c.spuriousLost.toNat)
  | 0x1400, 2 => some (toLE 8 c.spuriousWithdrawn.toNat)
  | 0x1400, 3 => some (toLE 8 c.badComplete.toNat)
  | 0x1400, 4 => some (toLE 8 c.lockedWrites.toNat)
  | 0x1400, 5 => some (toLE 8 c.wakes.toNat)
  | 0x1500, 0 => some (toLE 8 c.mbxAccepted.toNat)
  | 0x1500, 1 => some (toLE 8 c.mbxOverflows.toNat)
  | 0x1500, 2 => some (toLE 8 c.mbxStrayAcks.toNat)
  | _, _ => none

/-- The bytes of a custody entry (R560), in the order the rule names them (DESIGN CHOICE for the offsets, log entry 97). -/
def custodyBytes (id : BitVec 64) (peer job epoch : Nat) (state : Nat) (inc : BitVec 32) : List Byte :=
  toLE 8 id.toNat ++ toLE 4 peer ++ toLE 4 job ++ toLE 4 epoch ++ toLE 4 state ++ toLE 4 inc.toNat ++ List.replicate 4 0

/-- Objects 0x1000 to 0x1120 (R559, R560). The selections are the front end's own. -/
def State.viewFabric (s : State) (fe : FrontEnd) (ix el : Nat) : Option (List Byte) :=
  if 0x1000 ≤ ix ∧ ix < 0x1020 then
    match el with
    | 0x0F => some (toLE 2 (s.outstanding (ix - 0x1000)).length)
    | 0x10 => some (toLE 2 ((s.link (ix - 0x1000)).inbound s.endpoint))
    | _ => none
  else match ix, el with
    | 0x1110, 5 => some (toLE 2 (8192 - s.fab.keys.length))
    | 0x1120, 3 => match (kget none s.fab.logSel (frontPlace fe)).bind fun (id, p) => s.logEntry id p with
      | some e => some (custodyBytes e.id e.peer e.job e.epoch (if e.lost then 2 else 1) e.inc)
      | none => none
    | 0x1120, 5 => match (kget none s.fab.custodySel (frontPlace fe)).bind fun (id, p) => s.custodyEntry id p with
      | some c => some (custodyBytes c.id c.src c.job c.epoch 1 c.inc)
      | none => none
    | 0x1120, 9 => some (toLE 2 (4096 - s.fab.logs.length))
    | 0x1120, 0x0A => some (toLE 2 (4096 - s.fab.custody.length))
    | 0x1120, 0x0B => some ((List.range 64).flatMap fun c => match s.chan c with
        | some x => toLE 8 x.doneWord
        | none => List.replicate 8 0)
    | _, _ => none

/-- Objects 0x1800 to 0x1804 (R595, R621). -/
def State.viewTrust (s : State) (ix el : Nat) : Option (List Byte) :=
  match ix, el with
  | 0x1800, 1 => some (sha s.modulus)
  | 0x1801, 0 => some (boolByte s.chip.runsB)
  | 0x1803, 0 => some (toLE 1 s.trust.sessions.length)
  | 0x1804, 0 => some (toLE 8 s.scrubPending)
  | _, _ => none

/-- A certificate of the Meter, at some place of what identifies it. -/
def meterCert (place : Nat) : List Byte :=
  let n := ((Config.meterByte place).toNat + 256 * (Config.meterByte (place + 1)).toNat) % 2049
  (List.range n).map fun i => Config.meterByte (place + 2 + i)

/-- The mirror of the Meter (R636). -/
def State.viewMeter (s : State) (ix el : Nat) : Option (List Byte) :=
  if 0x1C80 ≤ ix ∧ ix < 0x1D00 then
    match s.mirrored ix with
    | some bs => some bs
    | none => none
  else match ix, el with
    | 0x1C00, 1 => some (boolByte s.meterRequired)
    | 0x1C00, 2 => if s.meter.heard then some meterSerial else none
    | 0x1C01, 0 => if s.meter.heard then some (meterCert 20) else none
    | 0x1C01, 1 => if s.meter.heard then some (meterCert 2100) else none
    | _, _ => none

/-! ### Every element -/

/-- The bytes of an element that another part of the state holds; none for a register or a blob of the dictionary. -/
def State.derived (s : State) (fe : FrontEnd) (ix el : Nat) : Option (List Byte) :=
  if ix < 0x0200 then s.viewChip ix el
  else if ix < 0x0280 then s.viewPower ix el
  else if ix < 0x0300 then none
  else if ix < 0x0400 then s.viewMem ix el
  else if ix = 0x0410 then s.seam.view el
  else if ix < 0x0500 then s.viewRepair ix el
  else if 0x0800 ≤ ix ∧ ix < 0x0900 then (s.den (ix - 0x0800)).view el
  else if ix < 0x1000 then s.viewHost ix el
  else if ix < 0x1200 then s.viewFabric fe ix el
  else if ix < 0x1400 then s.viewHost ix el
  else if ix < 0x1800 then s.ic.view ix el
  else if ix < 0x1C00 then s.viewTrust ix el
  else if ix < 0x2000 then s.viewMeter ix el
  else if 0x2100 ≤ ix ∧ ix < 0x2130 ∧ el = 5 then some (toLE 2 (s.guarSum (ix - 0x2100)))
  else if 0x2200 ≤ ix ∧ ix < 0x2230 then some (toLE 1 (s.guar (ix - 0x2200) el))
  else if 0x2400 ≤ ix ∧ ix < 0x2500 then (s.den (ix - 0x2400)).viewSlow el
  else if 0x2500 ≤ ix ∧ ix < 0x2600 then (s.den (ix - 0x2500)).viewSlips el
  else if 0x2600 ≤ ix ∧ ix < 0x2700 then (s.den (ix - 0x2600)).viewArith el
  else s.viewRepair ix el

/-- The bytes of an element that the dictionary itself holds: a register in its size, a blob with at least its least size. -/
def State.stored (s : State) (ix el : Nat) : List Byte :=
  match elemRow ix el with
  | some r =>
    if r.lmin = r.lmax ∧ r.lmax ≤ 8 then toLE r.lmax (s.reg ix el)
    else
      let bs := s.dict.blob ix el
      bs ++ List.replicate (r.lmin - bs.length) 0
  | none => []

/-- The bytes of the calibration set, in the order of R476. -/
def State.calBytes (s : State) : List Byte :=
  ((List.range 9).flatMap fun el => s.stored 0x0280 el) ++ ((List.range 32).flatMap fun el => s.stored 0x0281 el) ++
    ((List.range 4).flatMap fun el => s.stored 0x0282 el) ++ s.stored 0x0283 0

/-- CAL_DIGEST (R476). -/
def State.calDigest (s : State) : List Byte := sha s.calBytes

/-- The value of an element as a front end reads it. -/
def State.readElem (s : State) (fe : FrontEnd) (ix el : Nat) : List Byte :=
  if ix = 0x02BF ∧ el = 2 then s.calDigest
  else if ix = 0x02BF ∧ el = 1 ∧ s.dict.blob 0x02BF 1 = [] then s.stored 0x0000 2
  else match s.derived fe ix el with
    | some bs => bs
    | none => s.stored ix el

end Sys2Proof.Machine
end

