-- ==== Sys2Proof/Machine/DictCommands.lean ====
section
/-! DEFINITION. Machine/DictCommands.lean: the dictionary's own commands (chapter 11): reads, writes of the elements that have no
command of their own, DESCRIBE, NEXT, SNAPSHOT, commits, time-outs, defaults, the calibration set and the seam's control register;
and the SPDM measurements, which read elements (R601). -/

namespace Sys2Proof.Machine

open Sys2Proof

/-! ### Reading (R449, R450) -/

/-- DICT_READ (R449). -/
def execDictRead (q : Req) (s : State) : Act := occurs s <|
  request q .read (List.replicate q.len.toNat 0) true
    (fun _ s => (.now kOk (s.readElem q.fe q.index.toNat q.element.toNat), { s with fresh := s.fresh + 1 })) s

/-- DICT_DESCRIBE (R449). -/
def execDictDescribe (q : Req) (s : State) : Act := occurs s <|
  request q .describe (List.replicate q.len.toNat 0) true (fun _ s =>
    match (s.visible (roleOf q.fe) q.index.toNat).find? fun p => p.1 == q.element.toNat with
    | some (_, r) => (.now kOk (toLE 8 (r.ty + 2 ^ 16 * r.lmax + 2 ^ 32 * r.acc + 2 ^ 52 * r.pers)), s)
    | none => refuse kNoElement s) s

/-- The objects of the catalogue above an index, lowest first, and their first element of a kind. -/
def State.nextElem (s : State) (r : Role) (ix el : Nat) : Option (Nat × Nat) :=
  let here := ((s.visible r ix).filter fun p => el < p.1).map fun p => (ix, p.1)
  let above := (catalogue.filter fun row => ix < row.lo + row.n - 1).flatMap fun row =>
    (List.range row.n).filterMap fun i => if ix < row.lo + i then some (row.lo + i) else none
  match here with
  | p :: _ => some p
  | [] => above.mergeSort.eraseReps.findSome? fun i =>
    if s.present i then ((s.visible r i).head?).map fun p => (i, p.1) else none

/-- DICT_NEXT (R449, R450). -/
def execDictNext (q : Req) (s : State) : Act := occurs s <|
  request q .next (List.replicate q.len.toNat 0) true (fun _ s =>
    match s.nextElem (roleOf q.fe) q.index.toNat q.element.toNat with
    | some (i, e) => (.now kOk (toLE 2 i ++ toLE 1 e ++ [0]), s)
    | none => refuse kNoObject s) s

/-- Whether an access kind reads (R443). -/
def accReads (a : Nat) : Bool := a == 1 || a == 3 || a == 4

/-- An element of a snapshot (R449). -/
def snapEntry (el : Nat) (v : List Byte) : List Byte :=
  toLE 1 el ++ [0] ++ toLE 2 v.length ++ v ++ List.replicate ((4 - v.length % 4) % 4) 0

/-- The bytes of a snapshot (R449, R450). -/
def State.snapshot (s : State) (fe : FrontEnd) (ix : Nat) : List Byte :=
  ((s.visible (roleOf fe) ix).filter fun p => accReads ((roleOf fe).access p.2) && s.present ix).flatMap fun p =>
    snapEntry p.1 (s.readElem fe ix p.1)

/-- DICT_SNAPSHOT (R449, R450). -/
def execDictSnapshot (q : Req) (s : State) : Act := occurs s <|
  request q .snapshot (List.replicate q.len.toNat 0) true (fun _ s =>
    let bs := s.snapshot q.fe q.index.toNat
    if 4096 < bs.length then refuse kRange s else (.now kOk bs, { s with fresh := s.fresh + 1 })) s

/-! ### Writing -/

/-- The elements whose writes are commands of their own. -/
def ownRow (ix el : Nat) : Bool :=
  [(0x0001, 1), (0x0110, 6), (0x02BF, 3), (0x0340, 4), (0x0401, 0), (0x0401, 1), (0x0401, 3), (0x0410, 0), (0x0420, 0), (0x0421, 0),
   (0x0C00, 0), (0x0C00, 1), (0x0C00, 2), (0x0C01, 0), (0x0C01, 1), (0x1100, 0), (0x1100, 6), (0x1101, 0), (0x1101, 1), (0x1110, 0),
   (0x1110, 1), (0x1110, 2), (0x1110, 3), (0x1120, 0), (0x1120, 1), (0x1120, 2), (0x1120, 4), (0x1120, 6), (0x1120, 7), (0x1210, 0),
   (0x1210, 1), (0x1210, 2), (0x1220, 0), (0x1220, 1), (0x1220, 2), (0x1220, 3), (0x1230, 0), (0x1230, 1), (0x1240, 0), (0x1801, 5),
   (0x3000, 6), (0x3000, 7)].contains (ix, el) ||
    (0x0280 ≤ ix && ix < 0x0284) || (0x0300 ≤ ix && ix < 0x0310 && el == 0x0C) ||
    (0x0800 ≤ ix && ix < 0x0900 && [0x09, 0x0A, 0x0C, 0x0D, 0x15].contains el) || (0x1000 ≤ ix && ix < 0x1020 && el == 1) ||
    ix == 0x1201 || (0x2200 ≤ ix && ix < 0x2230)

/-- Whether a role may write the value (R394, R444): den-owner writes only FREEZE, RESUME and SAVE to CMD. -/
def writePermit (r : Role) (ix el : Nat) (v : List Byte) : Bool :=
  match r with
  | .denOwner _ => !(0x0800 ≤ ix && ix < 0x0900 && el == 1) || (4 ≤ natAt v 0 1 && natAt v 0 1 ≤ 6)
  | _ => true

/-- A register with a range. -/
def ranged (lo hi id ix el : Nat) (v : List Byte) (s : State) : Ans × State :=
  if leNat v < lo ∨ hi < leNat v then refuse kRange s else persistReg id ix el (leNat v) s

/-- An F32 register with a range. -/
def rangedF32 (lo hi : Rat) (id ix el : Nat) (v : List Byte) (s : State) : Ans × State :=
  if f32Rat (leNat v) < lo ∨ hi < f32Rat (leNat v) then refuse kRange s else persistReg id ix el (leNat v) s

/-- Writes of objects 0x0110 to 0x0340 (R278, R315, R468, R670). -/
def writeChip (id ix el : Nat) (v : List Byte) (s : State) : Ans × State :=
  let n := leNat v
  match ix, el with
  | 0x0110, 3 => ranged 10 10000 id ix el v s
  | 0x0110, 5 => ranged 0 1 id ix el v s
  | 0x0200, 1 => ranged 0 7 id ix el v s
  | 0x0210, 0 => if s.reg 0x0210 1 < n then refuse kRange s else ranged 1000 3200 id ix el v s
  | 0x0210, 1 => if n < s.reg 0x0210 0 then refuse kRange s else ranged 1000 3900 id ix el v s
  | 0x0210, 2 => ranged 1 10 id ix el v s
  | 0x0210, 3 => ranged 8 26 id ix el v s
  | 0x0210, 4 => if v.any fun b => 14 < b.toNat then refuse kRange s else persistReg id ix el n s
  | 0x0230, 0 => rangedF32 85 102 id ix el v s
  | 0x0230, 1 => rangedF32 80 93 id ix el v s
  | 0x0230, 2 => rangedF32 20 45 id ix el v s
  | 0x0340, 5 => ranged 8 4096 id ix el v s
  | _, 0x0A => ranged 1 168 id ix el v s
  | _, _ => refuse kNoElement s

/-- Writes of an object 0x0800 + slot (R393, R423, R425, R434, R483). A POOLS entry that names no holding is out of range. -/
def writeDenElem (slot el : Nat) (v : List Byte) (s : State) : Ans × State :=
  let d := s.den slot
  let n := leNat v
  match el with
  | 0x01 => s.writeCmd slot v
  | 0x06 =>
    if 7 < n then refuse kRange s
    else if !grantPhase d then refuse kConflict s
    else done (s.modDen slot fun d => { d with powerClass := n })
  | 0x07 =>
    if bitsOf n 20 11 ≠ 0 then refuse kRange s
    else if (d.phase ≠ .reserved ∧ d.phase ≠ .loaded ∧ d.phase ≠ .frozen) ∨ s.tdiLocked slot then refuse kConflict s
    else done (s.modDen slot fun d => { d with pasid := BitVec.ofNat 32 n })
  | 0x0B =>
    if v.any fun b => d.holdings.length ≤ b.toNat then refuse kRange s
    else if !grantPhase d ∨ s.tdiLocked slot then refuse kConflict s
    else done (s.modDen slot fun d => { d with pools := v.map (·.toNat) })
  | _ => refuse kNoElement s

/-- Writes of a link's MODE, PARTNER, PCP, VLAN and BULK_MAX (R559): only while ENABLE is 0. -/
def writeLinkElem (id ix el : Nat) (v : List Byte) (s : State) : Ans × State :=
  let n := leNat v
  let bad : Bool := match el with
    | 0x02 => 1 < n
    | 0x03 => 2 < n
    | 0x06 => bitsOf n 3 5 != 0 || bitsOf n 11 5 != 0 || bitsOf n 0 3 == bitsOf n 8 3
    | 0x07 => 4094 < n
    | _ => !([1024, 2048, 4096].contains n)
  if bad then refuse kRange s
  else if s.reg ix 1 ≠ 0 then refuse kConflict s
  else persistReg id ix el n s

/-- Writes of object 0x1100 (R560): ETHERTYPE only while no job is live. -/
def writeFabric (id el : Nat) (v : List Byte) (s : State) : Ans × State :=
  let n := leNat v
  match el with
  | 1 =>
    if n < 0x0600 ∨ [0x8100, 0x88A8, 0x8808, 0x88F7].contains n then refuse kRange s
    else if s.fab.jobs ≠ [] then refuse kConflict s
    else persistReg id 0x1100 1 n s
  | 2 => ranged 1 64 id 0x1100 2 v s
  | 3 => ranged 1 384 id 0x1100 3 v s
  | 4 => ranged 5 10000 id 0x1100 4 v s
  | 5 => ranged 1 64 id 0x1100 5 v s
  | _ => refuse kNoElement s

/-- A write of DOM_SLEEP (R581, R590) is one to each IC_DOM; what it wrote last is what the flash keeps (DEDUCED, log entry 102). -/
def writeDomSleep (id : Nat) (v : List Byte) (s : State) : Ans × State :=
  if v.any fun b => 1 < b.toNat then refuse kRange s
  else
    let r := persistReg id 0x1400 0 (leNat v) s
    (r.1, r.2.setDomModes)

/-- Writes of the regulation objects 0x2100 to 0x2300 (R375, R381, R384). -/
def writeReg (id ix el : Nat) (v : List Byte) (s : State) : Ans × State :=
  let n := leNat v
  if ix = 0x2300 then
    match el with
    | 0 =>
      if 1 < n then refuse kRange s
      else if s.repair.heldPhase.isSome then refuse kConflict s
      else done (s.setReg 0x2300 0 n)
    | 1 => ranged 10 10000 id ix el v s
    | 2 => ranged 0 255 id ix el v s
    | _ => refuse kNoElement s
  else
    let well : Bool := ix < 0x2110
    match el with
    | 1 => if well then ranged 4 47 id ix el v s else ranged 16 255 id ix el v s
    | 2 => ranged 0 255 id ix el v s
    | 3 => ranged 0 1020 id ix el v s
    | 4 =>
      if n < 1 ∨ 64 < n then refuse kRange s
      else if 256 < s.guarSum (ix - 0x2100) + n then refuse kNoResource s
      else persistReg id ix el n s
    | 6 => ranged 64 1048576 id ix el v s
    | _ => refuse kNoElement s

/-- Writes of an object 0x2400 + slot (R436). -/
def writeSlow (slot el : Nat) (v : List Byte) (s : State) : Ans × State :=
  let n := leNat v
  match el with
  | 0x33 => done (s.modDen slot fun d => { d with sdiThresh := BitVec.ofNat 32 n })
  | 0x34 => if n < 65536 then refuse kRange s else done (s.modDen slot fun d => { d with sdiWin := BitVec.ofNat 32 n })
  | 0x35 => done (s.modDen slot fun d => { d with sdiMissEn := n == 1 })
  | _ => refuse kNoElement s

/-- Writes of object 0x3000 (R687, R704): the owls and LEASE_LAPSE. -/
def writeOwl (id el : Nat) (v : List Byte) (s : State) : Ans × State :=
  match el with
  | 0 => ranged 100 10000000 id 0x3000 0 v s
  | 1 => ranged 10 1000000 id 0x3000 1 v s
  | 2 => ranged 10 100000 id 0x3000 2 v s
  | 3 => ranged 1 1000 id 0x3000 3 v s
  | 4 => ranged 2 100 id 0x3000 4 v s
  | 5 => ranged 2 20 id 0x3000 5 v s
  | _ => refuse kNoElement s

/-- The write of an element that has no command of its own, past the checks of R451 that every element shares. -/
def writeElem (id ix el : Nat) (v : List Byte) (s : State) : Ans × State :=
  if ix < 0x0400 then writeChip id ix el v s
  else if ix < 0x0900 then writeDenElem (ix - 0x0800) el v s
  else if ix < 0x1020 then writeLinkElem id ix el v s
  else if ix = 0x1100 then writeFabric id el v s
  else if ix = 0x1400 then writeDomSleep id v s
  else if ix < 0x2400 then writeReg id ix el v s
  else if ix < 0x2500 then writeSlow (ix - 0x2400) el v s
  else writeOwl id el v s

/-- DICT_WRITE (R443, R444, R449, R451, R464): a write to an element without a command of its own sets the value. -/
def execDictWrite (q : Req) (v : List Byte) (s : State) : Act := occurs s <|
  let ix := q.index.toNat
  let el := q.element.toNat
  need .otherRow (!ownRow ix el) <|
    request q .write v (writePermit (roleOf q.fe) ix el v) (fun id s => writeElem id ix el v s) s

/-! ### Commits (R446, R468) -/

/-- An element gets its old bytes back, with what follows from an element's value elsewhere. -/
def State.restoreElem (s : State) (o : Nat × Nat × List Byte) : State :=
  let s := s.putBytes o.1 o.2.1 o.2.2
  if 0x1000 ≤ o.1 ∧ o.1 < 0x1020 ∧ o.2.1 = 1 then s.linkEnabled (o.1 - 0x1000) (leNat o.2.2 == 1)
  else if o.1 = 0x1400 then s.setDomModes
  else s

/-- Whether an old value is of an element. -/
def sameElem (a b : Nat × Nat × List Byte) : Bool := a.1 == b.1 && a.2.1 == b.2.1

/-- A later commit's old value of an element is the earlier one's, where the earlier commit has failed. -/
def mergeOld (o : Nat × Nat × List Byte) : List Commit → List Commit
  | [] => []
  | c :: l => if c.old.any (sameElem o) then { c with old := c.old.map fun x => if sameElem o x then o else x } :: l else c :: mergeOld o l

/-- The old value of one element of a failed commit comes back, unless a later write has replaced the value (R446). -/
def State.undo (s : State) (o : Nat × Nat × List Byte) : State :=
  if s.dict.commits.any fun c => c.old.any (sameElem o) then
    { s with dict := { s.dict with commits := mergeOld o s.dict.commits } }
  else s.restoreElem o

/-- PERSIST_COMMIT (R446, R468): the oldest commit is in flash and counted, or has failed and leaves the old values in force. -/
def execPersistCommit (ok : Bool) (s : State) : Act := occurs s <|
  match s.dict.commits with
  | [] => .off .noSuch
  | c :: rest =>
    let s := { s with dict := { s.dict with commits := rest } }
    let s := if ok then s.bump 0x0110 4 else c.old.foldl State.undo s
    .next (match c.id with
      | some id => s.answer id (if ok then kOk else 0x0B02)
      | none => s)

/-- A request of a front end gets its answer without having been executed: its place in the order of responses is its own (R454). -/
def State.lateAnswer (s : State) (q : Req) (c : Code) : State :=
  let id := s.dict.nextId
  let t := s.dict.turn
  let p := s.dict.lastPage
  let s := s.takeReq q
  let r : Resp := { id := id, q := q, answer := some (c, []) }
  let d := { s.dict with nextId := id + 1, turn := t, lastPage := p, waiting := s.dict.waiting ++ [r] }
  ({ s with dict := d } : State).flush

/-- Whether a request stands first at its front end, whatever it asks. -/
def State.headIs (s : State) (q : Req) : Bool :=
  match q.fe with
  | .page p =>
    let x := s.page p.val
    s.offers p.val && msgUnits (min q.len.toNat 4096) ≤ ringUsed 512 x.drqHead x.drqTail
  | fe => match s.dict.queued.find? (fun m => frontPlace m.fe == frontPlace fe) with
    | some m => m.fe == fe && (parseMsg m.fe m.bytes).2.1 == q
    | none => false

/-- DICT_OWL_EXPIRY (R465): a request has not been answered for DICT_OWL ms: one that waits for its work, or the first in its front end's
queue, is answered TIMEOUT. -/
def execDictOwlExpiry (q : Req) (s : State) : Act := occurs s <|
  match s.dict.waiting.find? (·.q == q) with
  | some r => .next ((s.bump 0x0110 2).answer r.id kTimeout)
  | none => need .notItsTurn (s.headIs q) <| .next ((s.bump 0x0110 2).lateAnswer q kTimeout)

/-! ### Defaults (R469) -/

/-- Whether DEFAULTS_RESTORE leaves an element alone (R469, R476): the calibration set with what reports on it (DEDUCED, log entry 101),
FW_STAGED and PERSIST_WRITES; and all that is not persistent. -/
def defaultsKeep (k : Nat) : Bool :=
  (0x0280 ≤ k / 256 && k / 256 ≤ 0x02BF) || k == elemKey 0x0000 5 || k == elemKey 0x0110 4 ||
    match elemRow (k / 256) (k % 256) with
    | some r => r.pers != 1
    | none => true

/-- What a persistent element holds before its default comes back. -/
def State.oldOf (s : State) (k : Nat) : Nat × Nat × List Byte :=
  (k / 256, k % 256, s.stored (k / 256) (k % 256))

/-- The links follow their ENABLE (R559). -/
def State.linksFollow (s : State) : State :=
  (List.range 32).foldl (fun (s : State) l => s.linkEnabled l (s.reg (0x1000 + l) 1 == 1)) s

/-- DEFAULTS_RESTORE (R469): every persistent element but those takes its default, as one commit. The faulty positions and the dead
routers stay, for the life of the module (R673). -/
def execDefaultsRestore (q : Req) (v : List Byte) (s : State) : Act := occurs s <|
  requestOf [(0x0110, 6)] q v (fun id s =>
    if leNat v = 0 then refuse kRange s
    else if s.dens.any fun p => p.2.phase != .free then refuse kConflict s
    else
      let gone := ((kkeys s.dict.regs) ++ kkeys s.dict.blobs).filter fun k => !defaultsKeep k
      let maps := (kkeys s.wells).filter fun w => !(s.well w).spares.isEmpty
      let mapOld (w : Nat) : Nat × Nat × List Byte :=
        (0x0300 + w, 0x0D, (List.range 16).flatMap fun i => toLE 2 (kget 0xFFFF (s.well w).spares i))
      let old := gone.map s.oldOf ++ maps.map mapOld ++
        s.repair.hostFenced.map s.repair.fenceOld
      let d := { s.dict with regs := s.dict.regs.filter fun p => defaultsKeep p.1, blobs := s.dict.blobs.filter fun p => defaultsKeep p.1 }
      let s := maps.foldl (fun (s : State) w => s.setWell w { s.well w with spares := [] }) ({ s with dict := d } : State)
      let s := ((s.setHostFences []).setDomModes.linksFollow).settleWarn
      persist id old (!old.isEmpty) s) s

/-! ### The calibration set (R472 to R477) -/

/-- Whether some signed values of `n` bytes each lie in a range. -/
def signedIn (n : Nat) (lo hi : Int) (v : List Byte) : Bool :=
  (List.range (v.length / n)).all fun i => lo ≤ sextNat (8 * n) (natAt v (n * i) n) && sextNat (8 * n) (natAt v (n * i) n) ≤ hi

/-- Whether a value of the calibration set is in its range (R473). -/
def calRange (ix el : Nat) (v : List Byte) : Bool :=
  let x := f32Rat (leNat v)
  match ix with
  | 0x0280 =>
    if el ≤ 6 then 1 / 100 ≤ x && x ≤ 1000 else if el = 7 then 0 ≤ x && x ≤ 1 / 10 else 0 ≤ x && x ≤ 1000
  | 0x0281 => if el < 16 then 1 / 2 ≤ x && x ≤ 2 else -5 ≤ x && x ≤ 5
  | 0x0282 => signedIn 2 (-640) 640 v
  | _ => signedIn 1 (-40) 40 v

/-- CALIBRATION_WRITE (R472 to R475): the value takes effect at once and sets the object's bit in CAL_ORIGIN. -/
def execCalibrationWrite (q : Req) (v : List Byte) (s : State) : Act := occurs s <|
  let ix := q.index.toNat
  let el := q.element.toNat
  need .otherRow (0x0280 ≤ ix && ix < 0x0284) <|
    request q .write v true (fun id s =>
      if !calRange ix el v then refuse kRange s
      else
        let was := s.stored ix el
        let org := s.reg 0x02BF 0
        if was = v then done s
        else
          let bit := 2 ^ (ix - 0x0280)
          let s := (s.putBytes ix el v).setReg 0x02BF 0 (if org.testBit (ix - 0x0280) then org else org + bit)
          persist id [(ix, el, was), (0x02BF, 0, toLE 4 org)] true s) s

/-- The elements of the calibration set with their sizes, in the order of R476. -/
def calElems : List (Nat × Nat × Nat) :=
  ((List.range 9).map fun el => (0x0280, el, 4)) ++ ((List.range 32).map fun el => (0x0281, el, 4)) ++
    [(0x0282, 0, 1024), (0x0282, 1, 128), (0x0282, 2, 32), (0x0282, 3, 64), (0x0283, 0, 512)]

/-- Cut bytes into the elements they carry. -/
def cutElems : List (Nat × Nat × Nat) → List Byte → List (Nat × Nat × List Byte)
  | [], _ => []
  | (ix, el, n) :: l, bs => (ix, el, bs.take n) :: cutElems l (bs.drop n)

/-- Bytes without the zeros at their end. -/
def trimZeros (bs : List Byte) : List Byte := (bs.reverse.dropWhile (· == 0)).reverse

/-- CAL_IMPORT (R477, R606): a container whose fields break its layout is RANGE (DEDUCED, log entry 103); what its signature and chain give
is told. -/
def execCalImport (q : Req) (v : List Byte) (sigOk : Bool) (s : State) : Act := occurs s <|
  requestOf [(0x02BF, 3)] q v (fun id s =>
    let shape := natAt v 0 2 == 1 && natAt v 2 2 == 0 && natAt v 4 4 == v.length && (List.range 32).all (fun i => natAt v (24 + i) 1 == 0) &&
      natAt v 56 2 == 1924 && natAt v 58 6 == 0 && v.length == 64 + 1924 + 2 + natAt v 1988 2 + 384
    if !shape then refuse kRange s
    else if !sigOk then refuse 0x0B04 s
    else if bytesAt v 8 16 ≠ bytesAt (s.dict.blob 0x0000 2) 0 16 then refuse 0x0B05 s
    else
      let new := cutElems calElems (bytesAt v 64 1924) ++ [(0x02BF, 0, toLE 4 0), (0x02BF, 1, trimZeros (bytesAt v 8 16))]
      let old := new.map fun o => if o.1 = 0x02BF ∧ o.2.1 = 1 then (0x02BF, 1, s.dict.blob 0x02BF 1) else (o.1, o.2.1, s.stored o.1 o.2.1)
      persist id old (old != new) (new.foldl (fun (s : State) o => s.putBytes o.1 o.2.1 o.2.2) s)) s

/-! ### SEAM_CTL (R211, R215, R470) -/

/-- SEAM_CTL: a write of FOLLOW from 0 to 1 sets P, and so D, to 0. A stretch in force stays until SEAM_FOLLOW_RELEASE (log entry 111). -/
def execSeamCtl (q : Req) (v : List Byte) (s : State) : Act := occurs s <|
  requestOf [(0x0410, 0)] q v (fun _ s =>
    let m := s.seam
    if 1 < leNat v then refuse kRange s
    else if leNat v = 0 then done { s with seam := { m with follow := false } }
    else if m.follow then done s
    else done { s with seam := { m with follow := true, p := 0, dpeak := 0 } }) s

/-! ### Measurements (R601) -/

/-- The persistent elements that count (R601; which these are is DEDUCED from their meanings, log entry 104). -/
def counterElem (ix el : Nat) : Bool :=
  (ix == 0x0101 && el < 5) || (ix == 0x0110 && el == 4) || (ix == 0x0230 && el == 6) || (ix == 0x0250 && el == 2) ||
    (0x0300 ≤ ix && ix < 0x0310 && el == 6) || (0x1000 ≤ ix && ix < 0x1020 && el == 0x12) || (ix == 0x1802 && el == 2)

/-- The persistent elements of measurement 6, in index and element order. -/
def measuredElems : List (Nat × Nat) :=
  let ixs := (catalogue.flatMap fun row => (List.range row.n).map fun i => row.lo + i).mergeSort.eraseReps
  ixs.flatMap fun ix => (objectElems ix).filterMap fun p =>
    if p.2.pers == 1 && accReads (Role.tray.access p.2 ||| Role.hostAdmin.access p.2) && !counterElem ix p.1 &&
      !(0x0280 ≤ ix && ix < 0x0284) then some (ix, p.1) else none

/-- The six measurement blocks (R601), by their contents. -/
def State.measureBlocks (s : State) : List (List Byte) :=
  let bank := if s.chip.runsB then s.trust.bankB else s.trust.bankA
  [toLE 32 Config.romDigest, toLE 32 bank.digest.toNat, toLE 2 (s.reg 0x1801 3) ++ toLE 2 (s.reg 0x1801 4),
   toLE 1 s.lifecycle ++ toLE 1 s.chip.primary, s.calDigest,
   sha (measuredElems.flatMap fun p => s.readElem .tray p.1 p.2)]

/-- GET_MEASUREMENTS (R601, R604): the blocks, signed with the alias key; the signature is free. -/
def execGetMeasurements (tr : SpdmTransport) (s : State) : Act := occurs s <|
  need .chipPhase (s.spdmUp tr) <|
    if s.lifecycle = 4 then .next (s.emit (.spdmUnspecified tr))
    else
      let b := s.measureBlocks
      let (sig, s) := s.freeBytes 384
      .next (s.emit (.measurements tr b sig))

end Sys2Proof.Machine
end

