-- ==== Sys2Proof/Machine/PumpCommands.lean ====
section
/-! DEFINITION. Machine/PumpCommands.lean: the pump operations as commands (R240): the operation on a tag takes its effect. -/

namespace Sys2Proof.Machine

open Sys2Proof

/-- COPY (R240, R242). -/
def execCopy (t : TileIx) (tag : Fin 16) (f : PumpFacts) (s : State) : Act := occurs s <|
  runPump 1 evalCopy t.val tag.val f s

/-- GATHER (R245). -/
def execGather (t : TileIx) (tag : Fin 16) (f : PumpFacts) (s : State) : Act := occurs s <|
  runPump 2 evalGather t.val tag.val f s

/-- SCATTER (R245, R260). -/
def execScatter (t : TileIx) (tag : Fin 16) (f : PumpFacts) (s : State) : Act := occurs s <|
  runPump 3 evalScatter t.val tag.val f s

/-- RMW (R246). -/
def execRmw (t : TileIx) (tag : Fin 16) (f : PumpFacts) (s : State) : Act := occurs s <|
  runPump 4 evalRmw t.val tag.val f s

/-- SEGRED (R247). -/
def execSegred (t : TileIx) (tag : Fin 16) (f : PumpFacts) (s : State) : Act := occurs s <|
  runPump 5 evalSegred t.val tag.val f s

/-- STENCIL (R249). -/
def execStencil (t : TileIx) (tag : Fin 16) (f : PumpFacts) (s : State) : Act := occurs s <|
  runPump 6 evalStencil t.val tag.val f s

/-- SPMV (R248). -/
def execSpmv (t : TileIx) (tag : Fin 16) (f : PumpFacts) (s : State) : Act := occurs s <|
  runPump 7 evalSpmv t.val tag.val f s

/-- EMBED (R247). -/
def execEmbed (t : TileIx) (tag : Fin 16) (f : PumpFacts) (s : State) : Act := occurs s <|
  runPump 8 evalEmbed t.val tag.val f s

/-- HIST (R250). -/
def execHist (t : TileIx) (tag : Fin 16) (f : PumpFacts) (s : State) : Act := occurs s <|
  runPump 9 evalHist t.val tag.val f s

/-- COMPRESS (R251). -/
def execCompress (t : TileIx) (tag : Fin 16) (f : PumpFacts) (s : State) : Act := occurs s <|
  runPump 10 evalCompress t.val tag.val f s

/-- EXPAND (R251). -/
def execExpand (t : TileIx) (tag : Fin 16) (f : PumpFacts) (s : State) : Act := occurs s <|
  runPump 11 evalExpand t.val tag.val f s

/-- CONVERT (R252). -/
def execConvert (t : TileIx) (tag : Fin 16) (f : PumpFacts) (s : State) : Act := occurs s <|
  runPump 12 evalConvert t.val tag.val f s

/-- MERGE (R253). -/
def execMerge (t : TileIx) (tag : Fin 16) (f : PumpFacts) (s : State) : Act := occurs s <|
  runPump 13 evalMerge t.val tag.val f s

end Sys2Proof.Machine
end

