-- ==== Sys2Proof/Machine/Reservoir.lean ====
section
/-! DEFINITION. Machine/Reservoir.lean: the reservoir as commands (chapter 07): line accesses, key epoch rolls, fenced ranges
and their rebuild. -/

namespace Sys2Proof.Machine

open Sys2Proof

/-- CISTERN_ACCESS (R290, R304 to R306, R309): one protected access to a line. -/
def execCisternAccess (a : BitVec 42) (k : Access) (who : Agent) (f : CisFacts) (s : State) : Act := occurs s <|
  need .badFact (accessFits k) <|
    let (c, data, s) := s.cisAccess a.toNat k f
    .next (s.emit (.line who c data))

/-- The key of the roll under way (R287, R298): the one that a controller has already loaded, or a fresh one of the key generator, whose
bits are free. -/
def State.rollKey (s : State) : BitVec 256 × State :=
  let held := s.cisterns.findSome? fun (_, x) => match x.new with
    | some n => if n then x.key1 else x.key0
    | none => none
  match held with
  | some k => (k, s)
  | none =>
    let (b, s) := s.freeBytes 32
    (BitVec.ofNat 256 (leNat b), s)

/-- ROLL_KEY_LOAD (R297, R298): a controller, whatever its STATE, receives the new key in its free slot and starts its part of the
roll. -/
def execRollKeyLoad (c : CisIx) (s : State) : Act := occurs s <|
  need .chipPhase (s.reg 0x340 3 == 1 && (s.cis c.val).new.isNone && !(s.cis c.val).swept) <|
    let (k, s) := s.rollKey
    let x := s.cis c.val
    let n := !x.live
    .next (s.setCis c.val { x with key0 := if n then x.key0 else some k, key1 := if n then some k else x.key1, new := some n,
                                   sweepRegion := 0, sweepPage := 0 })

/-- The page moved on past the one just swept (R300): EBIT becomes NEW after a region's last page; after the last region the tree stands
under the new key (log entry 181). -/
def Cistern.advance (x : Cistern) (new : Bool) : Cistern :=
  if x.sweepPage + 1 < 2 ^ 18 then { x with sweepPage := x.sweepPage + 1 }
  else
    let x := { x with ebit := kput false x.ebit x.sweepRegion new, sweepPage := 0, sweepRegion := x.sweepRegion + 1 }
    if 112 ≤ x.sweepRegion then ({ x with swept := true } : Cistern).writeTree else x

/-- Whether the sweep passes over a page (R300): it lies in a fenced range, or the cistern is wholly fenced or out of service. -/
def State.sweepSkips (s : State) (c page : Nat) : Bool :=
  let x := s.cis c
  s.reg (0x320 + c) 0 != 1 || x.shut page

/-- SWEEP_STEP (R296, R300, R304, R305, R737): the next page is re-encrypted under NEW with MAJOR 0 and minor 1, or, having moved ahead,
relabelled; a fenced range is passed over; a page with a line that fails verification is fenced. The page's counter block is
read, verified and rewritten as in any access. The failing line also counts in INTEGRITY_COUNT and stands in LAST_INTEGRITY (DESIGN CHOICE, log
entry 208). -/
def execSweepStep (c : CisIx) (f : CisFacts) (s : State) : Act := occurs s <|
  match (s.cis c.val).new with
  | none => .off .noSuch
  | some n =>
    need .noSuch (!(s.cis c.val).swept) <|
      let x := s.cis c.val
      let page := 2 ^ 18 * x.sweepRegion + x.sweepPage
      if s.sweepSkips c.val page then .next (s.setCis c.val (x.advance n))
      else match (s.evictAll c.val f).verifyPath c.val (4096 * page) 0 f with
        | (some _, s) => .next (s.setCis c.val ((s.cis c.val).advance n))
        | (none, s) =>
          let s := s.trimCache c.val f 64
          let s := s.setCis c.val ((s.cis c.val).dirtyItem 0 page)
          let x := s.cis c.val
          if kget false x.moved page then
            .next (s.setCis c.val ({ x with moved := kput false x.moved page false }.advance n))
          else match s.readPage c.val page none f with
            | (some l, s) =>
              let s := s.setCis c.val ((s.cis c.val).advance n)
              .next ((s.integrity c.val l).fenceRange c.val { start := 4096 * page, len := 4096 })
            | (none, s) => .next (s.setCis c.val (((s.cis c.val).rewrite page 0).advance n))

/-- ROLL_END (R302): all 32 controllers have swept every region; the old key is destroyed in each. -/
def execRollEnd (s : State) : Act := occurs s <|
  need .chipPhase (s.reg 0x340 3 == 1 && (List.range 32).all fun c => (s.cis c).swept) <|
    let s := (List.range 32).foldl (fun s c =>
      let x := s.cis c
      let n := x.new.getD false
      s.setCis c { x with key0 := if n then none else x.key0, key1 := if n then x.key1 else none, new := none, swept := false,
                          sweepRegion := 0, sweepPage := 0 }) s
    .next (((s.bump 0x340 2).setReg 0x340 3 0).raise 1586)

/-- REBUILD (R307): once no extent of any den overlaps a fenced range, the controller begins to rebuild the tree over it. -/
def execRebuild (c : CisIx) (i : Nat) (s : State) : Act := occurs s <|
  let x := s.cis c.val
  needSome .noSuch x.fenced[i]? fun r =>
    let a := 2 ^ 37 * c.val + r.start
    let used := s.dens.any fun (_, d) => d.extents.any fun e => e.kind == 2 && overlaps e.tbase e.len a r.len
    need .chipPhase (!used) <|
      .next (s.setCis c.val { x with fenced := x.fenced.eraseIdx i, rebuilding := x.rebuilding ++ [r] })

/-- REBUILD_END (R307, R308): the oldest rebuild ends. Every node up to the root is computed afresh, and the range returns as zero lines,
or, where a write fails on read-back, is retired. -/
def execRebuildEnd (c : CisIx) (ok : Bool) (s : State) : Act := occurs s <|
  let x := s.cis c.val
  match x.rebuilding with
  | [] => .off .noSuch
  | r :: rest =>
    let x := { x with rebuilding := rest, data := kclear x.data r.start r.len,
                      major := kclear x.major (r.start / 4096) (r.len / 4096),
                      minor := kclear x.minor (r.start / 64) (r.len / 64),
                      moved := kclear x.moved (r.start / 4096) (r.len / 4096),
                      corrupt := kclear x.corrupt (r.start / 64) (r.len / 64),
                      cache := x.cache.filter fun i => !overlaps (i.ix * (4096 * 8 ^ i.level)) (4096 * 8 ^ i.level) r.start r.len,
                      macs := x.macs.filter fun m => !overlaps (512 * m.1) 512 r.start r.len }
    let x := x.writeTree
    if ok then .next (s.setCis c.val x)
    else
      let s := s.setCis c.val { x with retired := x.retired ++ [r] }
      .next ((s.bump (0x320 + c.val) 0x0C r.len).raiseAt (64 + c.val) (c.val / 2) (1554 + c.val))

end Sys2Proof.Machine
end

