-- ==== Sys2Proof/Machine/SlotCommands.lean ====
section
/-! DEFINITION. Machine/SlotCommands.lean: the operations of the M, V, A, X and P slots as commands of their own (R119, R127,
R130, R133, R139): the operation issues in the present bundle of its tile, on the operands the bundle reads, and the bundle
itself ends with its own command. -/

namespace Sys2Proof.Machine

open Sys2Proof

/-- One slot's operation in the present stored bundle of a tile: the bundle's checks and landings come first (R102), then its header's
faults, then the operation's own, which stops the den (R146), or its effect begins. -/
def slotRun (t : Nat) (s : State) (fault : Snap → Option Code) (effect : Snap → State → Out State) : Out State :=
  withIssue s t fun slot d x =>
    need .otherBundle (x.kindNow d t == .stored) <|
      openBundle s slot d t x .stored {} fun s2 =>
        let snap : Snap := { t := t, slot := slot, den := s2.den slot, tile := s2.tile t }
        match (headerFault x x.fetch).orElse fun _ => fault snap with
        | some c => .next (s.tileFault slot t c (x.present d t))
        | none => effect snap s2

/-- A slot's operation whose effect raises nothing more. -/
def slotOp (t : Nat) (s : State) (fault : Snap → Option Code) (effect : Snap → State → State) : Out State :=
  slotRun t s fault fun x s => .next (effect x s)

/-- A slot's operation that reads scratchpad bytes at an address: an upset is corrected and counted, or faults with SPAD_UNCORR
(R678). -/
def slotReads (t : Nat) (s : State) (fault : Snap → Option Code) (addr : Snap → Nat) (u : Upset)
    (effect : Snap → State → State) : Out State :=
  slotRun t s fault fun x s2 =>
    if u = .double then
      let info := x.tile.present x.den t
      .next ((s.tileFault x.slot t 0x1206 info).uncorrectable t 1 (bankOf (addr x)) 0x1206 info)
    else .next ((effect x s2).corrected u 0)

/-- A V slot operation in the present bundle. -/
def slotV (o : VOp) (t : Nat) (f : VFields) (s : State) : Out State := slotOp t s (vFault o f) (vEffect o f)

/-- An M slot operation in the present bundle. -/
def slotM (o : MOp) (t : Nat) (f : MFields) (s : State) : Out State := slotOp t s (mFault o f) (mEffect o f)

/-- An A slot operation in the present bundle. -/
def slotA (o : AOp) (t : Nat) (f : AFields) (u : Upset) (s : State) : Out State :=
  if o.loads then slotReads t s (aFault o f) (fun x => x.aAddr f.la) u (aEffect o f) else slotOp t s (aFault o f) (aEffect o f)

/-- MNOP (R119): A matrix slot no-operation. -/
def execMnop (t : TileIx) (f : MFields) (s : State) : Act := occurs s <| slotM .mnop t.val f s

/-- MMA (R119): The matrix unit accumulates A times B onto block TD in the format's mode. -/
def execMma (t : TileIx) (f : MFields) (s : State) : Act := occurs s <| slotM .mma t.val f s

/-- MMAZ (R119): The matrix unit writes A times B into block TD, superseding earlier operations in flight. -/
def execMmaz (t : TileIx) (f : MFields) (s : State) : Act := occurs s <| slotM .mmaz t.val f s

/-- MZERO (R119): Block TD is set to zero mode. -/
def execMzero (t : TileIx) (f : MFields) (s : State) : Act := occurs s <| slotM .mzero t.val f s

/-- MRD (R123): One accumulator row group is read out, converted, into a V register. -/
def execMrd (t : TileIx) (f : MFields) (s : State) : Act := occurs s <| slotM .mrd t.val f s

/-- VNOP (R127): A vector slot no-operation. -/
def execVnop (t : TileIx) (f : VFields) (s : State) : Act := occurs s <| slotV .vnop t.val f s

/-- VADD (R178): Element-wise addition. -/
def execVadd (t : TileIx) (f : VFields) (s : State) : Act := occurs s <| slotV .vadd t.val f s

/-- VSUB (R178): Element-wise subtraction. -/
def execVsub (t : TileIx) (f : VFields) (s : State) : Act := occurs s <| slotV .vsub t.val f s

/-- VMUL (R178): Element-wise multiplication. -/
def execVmul (t : TileIx) (f : VFields) (s : State) : Act := occurs s <| slotV .vmul t.val f s

/-- VFMA (R178): Fused multiply-add with a single rounding. -/
def execVfma (t : TileIx) (f : VFields) (s : State) : Act := occurs s <| slotV .vfma t.val f s

/-- VFMS (R178): Fused multiply-subtract. -/
def execVfms (t : TileIx) (f : VFields) (s : State) : Act := occurs s <| slotV .vfms t.val f s

/-- VFNMA (R178): Negated fused multiply-add. -/
def execVfnma (t : TileIx) (f : VFields) (s : State) : Act := occurs s <| slotV .vfnma t.val f s

/-- VMIN (R179): Element-wise minimumNumber. -/
def execVmin (t : TileIx) (f : VFields) (s : State) : Act := occurs s <| slotV .vmin t.val f s

/-- VMAX (R179): Element-wise maximumNumber. -/
def execVmax (t : TileIx) (f : VFields) (s : State) : Act := occurs s <| slotV .vmax t.val f s

/-- VABS (R179): Element-wise absolute value. -/
def execVabs (t : TileIx) (f : VFields) (s : State) : Act := occurs s <| slotV .vabs t.val f s

/-- VNEG (R179): Element-wise negation. -/
def execVneg (t : TileIx) (f : VFields) (s : State) : Act := occurs s <| slotV .vneg t.val f s

/-- VRCP (R181): Reciprocal estimate. -/
def execVrcp (t : TileIx) (f : VFields) (s : State) : Act := occurs s <| slotV .vrcp t.val f s

/-- VRSQ (R181): Reciprocal square root estimate. -/
def execVrsq (t : TileIx) (f : VFields) (s : State) : Act := occurs s <| slotV .vrsq t.val f s

/-- VCMPEQ (R180): Quiet equality comparison written into a predicate. -/
def execVcmpeq (t : TileIx) (f : VFields) (s : State) : Act := occurs s <| slotV .vcmpeq t.val f s

/-- VCMPLT (R180): Quiet less-than comparison written into a predicate. -/
def execVcmplt (t : TileIx) (f : VFields) (s : State) : Act := occurs s <| slotV .vcmplt t.val f s

/-- VCMPLE (R180): Quiet less-or-equal comparison written into a predicate. -/
def execVcmple (t : TileIx) (f : VFields) (s : State) : Act := occurs s <| slotV .vcmple t.val f s

/-- VCVT (R182): Element conversion between types. -/
def execVcvt (t : TileIx) (f : VFields) (s : State) : Act := occurs s <| slotV .vcvt t.val f s

/-- VSEL (R127): Per-element select by predicate. -/
def execVsel (t : TileIx) (f : VFields) (s : State) : Act := occurs s <| slotV .vsel t.val f s

/-- VCMUL (R184): Complex multiplication occupying the vector unit for two bundles. -/
def execVcmul (t : TileIx) (f : VFields) (s : State) : Act := occurs s <| slotV .vcmul t.val f s

/-- VCFMA (R184): Complex fused multiply-add. -/
def execVcfma (t : TileIx) (f : VFields) (s : State) : Act := occurs s <| slotV .vcfma t.val f s

/-- VCONJ (R127): Complex conjugate. -/
def execVconj (t : TileIx) (f : VFields) (s : State) : Act := occurs s <| slotV .vconj t.val f s

/-- VIADD (R185): Wrapping integer addition. -/
def execViadd (t : TileIx) (f : VFields) (s : State) : Act := occurs s <| slotV .viadd t.val f s

/-- VISUB (R185): Wrapping integer subtraction. -/
def execVisub (t : TileIx) (f : VFields) (s : State) : Act := occurs s <| slotV .visub t.val f s

/-- VIMUL (R185): Integer multiplication keeping the low half. -/
def execVimul (t : TileIx) (f : VFields) (s : State) : Act := occurs s <| slotV .vimul t.val f s

/-- VAND (R127): Bitwise AND. -/
def execVand (t : TileIx) (f : VFields) (s : State) : Act := occurs s <| slotV .vand t.val f s

/-- VOR (R127): Bitwise OR. -/
def execVor (t : TileIx) (f : VFields) (s : State) : Act := occurs s <| slotV .vor t.val f s

/-- VXOR (R127): Bitwise XOR. -/
def execVxor (t : TileIx) (f : VFields) (s : State) : Act := occurs s <| slotV .vxor t.val f s

/-- VSHL (R185): Vector shift left. -/
def execVshl (t : TileIx) (f : VFields) (s : State) : Act := occurs s <| slotV .vshl t.val f s

/-- VSHR (R185): Vector logical shift right. -/
def execVshr (t : TileIx) (f : VFields) (s : State) : Act := occurs s <| slotV .vshr t.val f s

/-- VSRA (R185): Vector arithmetic shift right. -/
def execVsra (t : TileIx) (f : VFields) (s : State) : Act := occurs s <| slotV .vsra t.val f s

/-- VBCAST (R127): One element is broadcast to every element. -/
def execVbcast (t : TileIx) (f : VFields) (s : State) : Act := occurs s <| slotV .vbcast t.val f s

/-- VPERM (R127): Elements are permuted by an index vector taken modulo n. -/
def execVperm (t : TileIx) (f : VFields) (s : State) : Act := occurs s <| slotV .vperm t.val f s

/-- VREDSUM (R183): Balanced-tree sum of all elements into element 0. -/
def execVredsum (t : TileIx) (f : VFields) (s : State) : Act := occurs s <| slotV .vredsum t.val f s

/-- SADD (R127): Scalar addition. -/
def execSadd (t : TileIx) (f : VFields) (s : State) : Act := occurs s <| slotV .sadd t.val f s

/-- SSUB (R127): Scalar subtraction. -/
def execSsub (t : TileIx) (f : VFields) (s : State) : Act := occurs s <| slotV .ssub t.val f s

/-- SMUL (R185): Scalar multiplication, low 64 bits. -/
def execSmul (t : TileIx) (f : VFields) (s : State) : Act := occurs s <| slotV .smul t.val f s

/-- SAND (R127): Scalar AND. -/
def execSand (t : TileIx) (f : VFields) (s : State) : Act := occurs s <| slotV .sand t.val f s

/-- SOR (R127): Scalar OR. -/
def execSor (t : TileIx) (f : VFields) (s : State) : Act := occurs s <| slotV .sor t.val f s

/-- SXOR (R127): Scalar XOR. -/
def execSxor (t : TileIx) (f : VFields) (s : State) : Act := occurs s <| slotV .sxor t.val f s

/-- SSHL (R185): Scalar shift left. -/
def execSshl (t : TileIx) (f : VFields) (s : State) : Act := occurs s <| slotV .sshl t.val f s

/-- SSHR (R185): Scalar logical shift right. -/
def execSshr (t : TileIx) (f : VFields) (s : State) : Act := occurs s <| slotV .sshr t.val f s

/-- SADDI (R127): Scalar add of a sign-extended immediate. -/
def execSaddi (t : TileIx) (f : VFields) (s : State) : Act := occurs s <| slotV .saddi t.val f s

/-- SLI (R127): Scalar load of a sign-extended immediate. -/
def execSli (t : TileIx) (f : VFields) (s : State) : Act := occurs s <| slotV .sli t.val f s

/-- SLUI (R127): Shift the destination left by 14 and OR in the immediate. -/
def execSlui (t : TileIx) (f : VFields) (s : State) : Act := occurs s <| slotV .slui t.val f s

/-- SCMPEQ (R127): Scalar equality written into a predicate. -/
def execScmpeq (t : TileIx) (f : VFields) (s : State) : Act := occurs s <| slotV .scmpeq t.val f s

/-- SCMPLT (R185): Signed scalar less-than written into a predicate. -/
def execScmplt (t : TileIx) (f : VFields) (s : State) : Act := occurs s <| slotV .scmplt t.val f s

/-- SMOVV (R127): A vector element is moved into a scalar register. -/
def execSmovv (t : TileIx) (f : VFields) (s : State) : Act := occurs s <| slotV .smovv t.val f s

/-- SMOVS (R127): A scalar replaces one element of a vector. -/
def execSmovs (t : TileIx) (f : VFields) (s : State) : Act := occurs s <| slotV .smovs t.val f s

/-- SSTAT (R128): A status item such as the bundle number, skew, span, MSTAT or Z is read. -/
def execSstat (t : TileIx) (f : VFields) (s : State) : Act := occurs s <| slotV .sstat t.val f s

/-- PSET (R127): A predicate is set to all ones or all zeros. -/
def execPset (t : TileIx) (f : VFields) (s : State) : Act := occurs s <| slotV .pset t.val f s

/-- PAND (R127): Predicate AND. -/
def execPand (t : TileIx) (f : VFields) (s : State) : Act := occurs s <| slotV .pand t.val f s

/-- POR (R127): Predicate OR. -/
def execPor (t : TileIx) (f : VFields) (s : State) : Act := occurs s <| slotV .por t.val f s

/-- PNOT (R127): Predicate NOT. -/
def execPnot (t : TileIx) (f : VFields) (s : State) : Act := occurs s <| slotV .pnot t.val f s

/-- ANOP (R130): no operation of the A slot. -/
def execAnop (t : TileIx) (f : AFields) (s : State) : Act := occurs s <| slotA .anop t.val f .none s

/-- LD (R130): A 64-byte scratchpad load into a V register. -/
def execLd (t : TileIx) (f : AFields) (u : Upset) (s : State) : Act := occurs s <| slotA .ld t.val f u s

/-- ST (R130): A 64-byte scratchpad store from a V register. -/
def execSt (t : TileIx) (f : AFields) (u : Upset) (s : State) : Act := occurs s <| slotA .st t.val f u s

/-- LDST (R130): A load and a store in one bundle. -/
def execLdst (t : TileIx) (f : AFields) (u : Upset) (s : State) : Act := occurs s <| slotA .ldst t.val f u s

/-- LDS (R130): An 8-byte scratchpad load into a scalar register. -/
def execLds (t : TileIx) (f : AFields) (u : Upset) (s : State) : Act := occurs s <| slotA .lds t.val f u s

/-- STS (R130): An 8-byte scratchpad store from a scalar register. -/
def execSts (t : TileIx) (f : AFields) (u : Upset) (s : State) : Act := occurs s <| slotA .sts t.val f u s

/-- BANKCTL (R60, R130): the stream changes the state of masked banks of its own tile. -/
def execBankctl (t : TileIx) (mask : BitVec 16) (st : BitVec 2) (s : State) : Act := occurs s <|
  slotOp t.val s (fun _ => bankctlFault st) (bankctlEffect mask st)

/-- XNOP (R132, R133): no operation; the consume mask still acts. -/
def execXnop (t : TileIx) (consume : BitVec 4) (s : State) : Act := occurs s <|
  slotOp t.val s (fun _ => none) (fun x s => s.consume x consume)

/-- SEND (R134, R190 to R192): a relay value is sent in each masked direction. -/
def execSend (t : TileIx) (consume dirs : BitVec 4) (src hops : BitVec 7) (s : State) : Act := occurs s <|
  slotOp t.val s (sendFault dirs src hops) (sendEffect consume dirs src hops)

/-- VOTE (R90, R135): the tile contributes to a den-wide vote, whose result lands 2K bundles later. -/
def execVote (t : TileIx) (consume : BitVec 4) (kind : BitVec 3) (src : BitVec 7) (dst : BitVec 6) (s : State) : Act := occurs s <|
  slotOp t.val s (fun _ => voteFault kind src dst) (voteEffect consume kind src dst)

/-- PSETU (R136): a den-uniform predicate is set. -/
def execPsetu (t : TileIx) (consume : BitVec 4) (q : BitVec 2) (value : Bool) (s : State) : Act := occurs s <|
  slotOp t.val s (fun _ => none) (psetuEffect consume q value)

/-- PNOP (R139): no operation of the P slot. -/
def execPnop (t : TileIx) (s : State) : Act := occurs s <| slotOp t.val s (fun _ => none) (fun _ s => s)

/-- ISSUE.V (R139): the pump accepts a descriptor taken from a V register. -/
def execIssueV (t : TileIx) (tag : Fin 16) (lat : BitVec 16) (v : BitVec 6) (s : State) : Act := occurs s <|
  slotOp t.val s (issueFault tag lat none) (issueVEffect tag lat v)

/-- ISSUE.A (R139): the pump accepts a descriptor read from the scratchpad, which may meet an upset (R678). -/
def execIssueA (t : TileIx) (tag : Fin 16) (lat : BitVec 16) (a inc : BitVec 4) (u : Upset) (s : State) : Act := occurs s <|
  slotReads t.val s (fun x => issueFault tag lat (some (x.aAddr a)) x) (fun x => x.aAddr a) u (issueAEffect tag lat a inc)

/-- PORD (R258): an ordering point for the masked tags. -/
def execPord (t : TileIx) (mask : BitVec 16) (s : State) : Act := occurs s <|
  slotOp t.val s (fun _ => none) (pordEffect mask)

end Sys2Proof.Machine
end

