-- ==== Sys2Proof/Machine/Stream.lean ====
section
/-! DEFINITION. Machine/Stream.lean: the bundles as commands (R106, R107, R116, R658): one for each CTL, the empty bundle of
an idle run, the throttle bundle, the drain cycle, and the landing of what is due. -/

namespace Sys2Proof.Machine

open Sys2Proof

/-- NEXT (R106). -/
def execNext (t : TileIx) (u : Upsets) (s : State) : Act := occurs s <| issueStored 0 t.val u s

/-- BR (R106). -/
def execBr (t : TileIx) (u : Upsets) (s : State) : Act := occurs s <| issueStored 1 t.val u s

/-- JMP (R106). -/
def execJmp (t : TileIx) (u : Upsets) (s : State) : Act := occurs s <| issueStored 2 t.val u s

/-- LOOP (R111). -/
def execLoop (t : TileIx) (u : Upsets) (s : State) : Act := occurs s <| issueStored 3 t.val u s

/-- CALL (R113). -/
def execCall (t : TileIx) (u : Upsets) (s : State) : Act := occurs s <| issueStored 4 t.val u s

/-- RET (R113). -/
def execRet (t : TileIx) (u : Upsets) (s : State) : Act := occurs s <| issueStored 5 t.val u s

/-- HALT (R116). -/
def execHalt (t : TileIx) (u : Upsets) (s : State) : Act := occurs s <| issueStored 6 t.val u s

/-- EMPTY_BUNDLE (R107): one empty bundle of an idle run. -/
def execEmptyBundle (t : TileIx) (u : Upsets) (s : State) : Act := occurs s <|
  withIssue s t.val fun slot d x =>
    if x.idle = 0 then .off .noIdleRun
    else if throttled d t.val x then .off .waveOrder
    else issueCycle s slot d t.val x .empty u

/-- THROTTLE_BUNDLE (R144, R658): the origin inserts it by its cycle, and it travels with the wave. -/
def execThrottleBundle (t : TileIx) (u : Upsets) (s : State) : Act := occurs s <|
  withIssue s t.val fun slot d x =>
    if throttled d t.val x then issueCycle s slot d t.val x .throttle u else .off .noThrottle

/-- DRAIN_CYCLE (R116): the pipelines advance and results land; after the last the tile stops. -/
def execDrainCycle (t : TileIx) (s : State) : Act := occurs s <|
  match s.slotOf t.val with
  | none => .off .noDen
  | some slot =>
    let x := s.tile t.val
    if x.phase != .draining || x.frozen.isSome || x.fenced then .off .notDraining
    else if !votesIn (s.den slot) x then .off .voteOpen
    else if clashes x [] then .next (s.tileFault slot t.val 0x0307 (x.present (s.den slot) t.val))
    else
      let s := s.land slot t.val []
      .next ((s.modTile t.val fun y => ({ y.advance with drained := y.drained + 1 }).settleHalt).reportHalt slot t.val)

/-- FIXED_RESULT_LAND (R103): step 2 of the tile's present cycle, ahead of the slots that read it. The checks of step 1 and the
faults of rows 1 to 3 (R739) come first, and something must be due. -/
def execFixedResultLand (t : TileIx) (s : State) : Act := occurs s <|
  withIssue s t.val fun slot d x =>
    let due := (x.landings.any fun l => l.left == 0) || (x.mats.any fun m => m.left == 0) ||
      !(heldResults x (atHalt d t.val x)).isEmpty
    need .nothingLands (due && !x.opened) <| openBundle s slot d t.val x (x.kindNow d t.val) {} .next

end Sys2Proof.Machine
end

