-- ==== Sys2Proof/Machine/Dispatch.lean ====
section
/-! DEFINITION. Machine/Dispatch.lean: the one place where a command meets its meaning, one arm per constructor. -/

namespace Sys2Proof.Machine

open Sys2Proof

def exec (i : Instr) (s : State) : Host.Outcome State Fault Refusal :=
  match i with
  | .next t u => Sys2Proof.Machine.execNext t u s
  | .br t u => Sys2Proof.Machine.execBr t u s
  | .jmp t u => Sys2Proof.Machine.execJmp t u s
  | .loop t u => Sys2Proof.Machine.execLoop t u s
  | .call t u => Sys2Proof.Machine.execCall t u s
  | .ret t u => Sys2Proof.Machine.execRet t u s
  | .halt t u => Sys2Proof.Machine.execHalt t u s
  | .emptyBundle t u => Sys2Proof.Machine.execEmptyBundle t u s
  | .throttleBundle t u => Sys2Proof.Machine.execThrottleBundle t u s
  | .drainCycle t => Sys2Proof.Machine.execDrainCycle t s
  | .fixedResultLand t => Sys2Proof.Machine.execFixedResultLand t s
  | .mnop t f => Sys2Proof.Machine.execMnop t f s
  | .mma t f => Sys2Proof.Machine.execMma t f s
  | .mmaz t f => Sys2Proof.Machine.execMmaz t f s
  | .mzero t f => Sys2Proof.Machine.execMzero t f s
  | .mrd t f => Sys2Proof.Machine.execMrd t f s
  | .vnop t f => Sys2Proof.Machine.execVnop t f s
  | .vadd t f => Sys2Proof.Machine.execVadd t f s
  | .vsub t f => Sys2Proof.Machine.execVsub t f s
  | .vmul t f => Sys2Proof.Machine.execVmul t f s
  | .vfma t f => Sys2Proof.Machine.execVfma t f s
  | .vfms t f => Sys2Proof.Machine.execVfms t f s
  | .vfnma t f => Sys2Proof.Machine.execVfnma t f s
  | .vmin t f => Sys2Proof.Machine.execVmin t f s
  | .vmax t f => Sys2Proof.Machine.execVmax t f s
  | .vabs t f => Sys2Proof.Machine.execVabs t f s
  | .vneg t f => Sys2Proof.Machine.execVneg t f s
  | .vrcp t f => Sys2Proof.Machine.execVrcp t f s
  | .vrsq t f => Sys2Proof.Machine.execVrsq t f s
  | .vcmpeq t f => Sys2Proof.Machine.execVcmpeq t f s
  | .vcmplt t f => Sys2Proof.Machine.execVcmplt t f s
  | .vcmple t f => Sys2Proof.Machine.execVcmple t f s
  | .vcvt t f => Sys2Proof.Machine.execVcvt t f s
  | .vsel t f => Sys2Proof.Machine.execVsel t f s
  | .vcmul t f => Sys2Proof.Machine.execVcmul t f s
  | .vcfma t f => Sys2Proof.Machine.execVcfma t f s
  | .vconj t f => Sys2Proof.Machine.execVconj t f s
  | .viadd t f => Sys2Proof.Machine.execViadd t f s
  | .visub t f => Sys2Proof.Machine.execVisub t f s
  | .vimul t f => Sys2Proof.Machine.execVimul t f s
  | .vand t f => Sys2Proof.Machine.execVand t f s
  | .vor t f => Sys2Proof.Machine.execVor t f s
  | .vxor t f => Sys2Proof.Machine.execVxor t f s
  | .vshl t f => Sys2Proof.Machine.execVshl t f s
  | .vshr t f => Sys2Proof.Machine.execVshr t f s
  | .vsra t f => Sys2Proof.Machine.execVsra t f s
  | .vbcast t f => Sys2Proof.Machine.execVbcast t f s
  | .vperm t f => Sys2Proof.Machine.execVperm t f s
  | .vredsum t f => Sys2Proof.Machine.execVredsum t f s
  | .sadd t f => Sys2Proof.Machine.execSadd t f s
  | .ssub t f => Sys2Proof.Machine.execSsub t f s
  | .smul t f => Sys2Proof.Machine.execSmul t f s
  | .sand t f => Sys2Proof.Machine.execSand t f s
  | .sor t f => Sys2Proof.Machine.execSor t f s
  | .sxor t f => Sys2Proof.Machine.execSxor t f s
  | .sshl t f => Sys2Proof.Machine.execSshl t f s
  | .sshr t f => Sys2Proof.Machine.execSshr t f s
  | .saddi t f => Sys2Proof.Machine.execSaddi t f s
  | .sli t f => Sys2Proof.Machine.execSli t f s
  | .slui t f => Sys2Proof.Machine.execSlui t f s
  | .scmpeq t f => Sys2Proof.Machine.execScmpeq t f s
  | .scmplt t f => Sys2Proof.Machine.execScmplt t f s
  | .smovv t f => Sys2Proof.Machine.execSmovv t f s
  | .smovs t f => Sys2Proof.Machine.execSmovs t f s
  | .sstat t f => Sys2Proof.Machine.execSstat t f s
  | .pset t f => Sys2Proof.Machine.execPset t f s
  | .pand t f => Sys2Proof.Machine.execPand t f s
  | .por t f => Sys2Proof.Machine.execPor t f s
  | .pnot t f => Sys2Proof.Machine.execPnot t f s
  | .anop t f => Sys2Proof.Machine.execAnop t f s
  | .ld t f u => Sys2Proof.Machine.execLd t f u s
  | .st t f u => Sys2Proof.Machine.execSt t f u s
  | .ldst t f u => Sys2Proof.Machine.execLdst t f u s
  | .lds t f u => Sys2Proof.Machine.execLds t f u s
  | .sts t f u => Sys2Proof.Machine.execSts t f u s
  | .bankctl t mask st => Sys2Proof.Machine.execBankctl t mask st s
  | .xnop t consume => Sys2Proof.Machine.execXnop t consume s
  | .send t consume dirs src hops => Sys2Proof.Machine.execSend t consume dirs src hops s
  | .vote t consume kind src dst => Sys2Proof.Machine.execVote t consume kind src dst s
  | .psetu t consume q value => Sys2Proof.Machine.execPsetu t consume q value s
  | .pnop t => Sys2Proof.Machine.execPnop t s
  | .issueV t tag lat v => Sys2Proof.Machine.execIssueV t tag lat v s
  | .issueA t tag lat a inc u => Sys2Proof.Machine.execIssueA t tag lat a inc u s
  | .pord t mask => Sys2Proof.Machine.execPord t mask s
  | .copy t tag f => Sys2Proof.Machine.execCopy t tag f s
  | .gather t tag f => Sys2Proof.Machine.execGather t tag f s
  | .scatter t tag f => Sys2Proof.Machine.execScatter t tag f s
  | .rmw t tag f => Sys2Proof.Machine.execRmw t tag f s
  | .segred t tag f => Sys2Proof.Machine.execSegred t tag f s
  | .stencil t tag f => Sys2Proof.Machine.execStencil t tag f s
  | .spmv t tag f => Sys2Proof.Machine.execSpmv t tag f s
  | .embed t tag f => Sys2Proof.Machine.execEmbed t tag f s
  | .hist t tag f => Sys2Proof.Machine.execHist t tag f s
  | .compress t tag f => Sys2Proof.Machine.execCompress t tag f s
  | .expand t tag f => Sys2Proof.Machine.execExpand t tag f s
  | .convert t tag f => Sys2Proof.Machine.execConvert t tag f s
  | .merge t tag f => Sys2Proof.Machine.execMerge t tag f s
  | .pumpLineRequest t loc k => Sys2Proof.Machine.execPumpLineRequest t loc k s
  | .fillResponse who tag => Sys2Proof.Machine.execFillResponse who tag s
  | .pumpLineResponse t tag own st loc data delayed => Sys2Proof.Machine.execPumpLineResponse t tag own st loc data delayed s
  | .pumpComplete t tag => Sys2Proof.Machine.execPumpComplete t tag s
  | .holdExpiry at_ own => Sys2Proof.Machine.execHoldExpiry at_ own s
  | .pumpOwlExpiry t tag => Sys2Proof.Machine.execPumpOwlExpiry t tag s
  | .pumpTagReset t tag => Sys2Proof.Machine.execPumpTagReset t tag s
  | .relayArrival t d => Sys2Proof.Machine.execRelayArrival t d s
  | .freezeSignal t came => Sys2Proof.Machine.execFreezeSignal t came s
  | .clearReport t came => Sys2Proof.Machine.execClearReport t came s
  | .resumeSignalSend slot waited => Sys2Proof.Machine.execResumeSignalSend slot waited s
  | .resumeSignal t => Sys2Proof.Machine.execResumeSignal t s
  | .resumeCountdownExpiry t => Sys2Proof.Machine.execResumeCountdownExpiry t s
  | .streamOwlExpiry slot frozen => Sys2Proof.Machine.execStreamOwlExpiry slot frozen s
  | .seamFollowEngage p => Sys2Proof.Machine.execSeamFollowEngage p s
  | .seamFollowRelease cycles => Sys2Proof.Machine.execSeamFollowRelease cycles s
  | .seamTraining fails => Sys2Proof.Machine.execSeamTraining fails s
  | .wellAccess a k who bad => Sys2Proof.Machine.execWellAccess a k who bad s
  | .refresh w shaft bank => Sys2Proof.Machine.execRefresh w shaft bank s
  | .patrolScrub w bad => Sys2Proof.Machine.execPatrolScrub w bad s
  | .rowRepair w shaft bank row => Sys2Proof.Machine.execRowRepair w shaft bank row s
  | .remapReq q v => Sys2Proof.Machine.execRemapReq q v s
  | .remapStart w shaft spare => Sys2Proof.Machine.execRemapStart w shaft spare s
  | .remapCopyEnd p => Sys2Proof.Machine.execRemapCopyEnd p s
  | .cisternAccess a k who f => Sys2Proof.Machine.execCisternAccess a k who f s
  | .rollReq q v => Sys2Proof.Machine.execRollReq q v s
  | .rollKeyLoad c => Sys2Proof.Machine.execRollKeyLoad c s
  | .sweepStep c f => Sys2Proof.Machine.execSweepStep c f s
  | .rollEnd => Sys2Proof.Machine.execRollEnd s
  | .rebuild c ix => Sys2Proof.Machine.execRebuild c ix s
  | .rebuildEnd c ok => Sys2Proof.Machine.execRebuildEnd c ok s
  | .regSlot k cls => Sys2Proof.Machine.execRegSlot k cls s
  | .monWindowEnd k => Sys2Proof.Machine.execMonWindowEnd k s
  | .vc0Eject n => Sys2Proof.Machine.execVc0Eject n s
  | .reportMerge r ix j => Sys2Proof.Machine.execReportMerge r ix j s
  | .routeCompute => Sys2Proof.Machine.execRouteCompute s
  | .extGrant q v => Sys2Proof.Machine.execExtGrant q v s
  | .extRevoke q v => Sys2Proof.Machine.execExtRevoke q v s
  | .extResize q v => Sys2Proof.Machine.execExtResize q v s
  | .extInvalidate slot who => Sys2Proof.Machine.execExtInvalidate slot who s
  | .invalidationDone slot => Sys2Proof.Machine.execInvalidationDone slot s
  | .atsInvalidate pasid base len => Sys2Proof.Machine.execAtsInvalidate pasid base len s
  | .atsTranslation pasid page rd wr xlat => Sys2Proof.Machine.execAtsTranslation pasid page rd wr xlat s
  | .winOpen q v => Sys2Proof.Machine.execWinOpen q v s
  | .winClose q v => Sys2Proof.Machine.execWinClose q v s
  | .busyResend l tx => Sys2Proof.Machine.execBusyResend l tx s
  | .windowOwlExpiry l tx => Sys2Proof.Machine.execWindowOwlExpiry l tx s
  | .reserve slot => Sys2Proof.Machine.execReserve slot s
  | .load slot img digestOk => Sys2Proof.Machine.execLoad slot img digestOk s
  | .start slot => Sys2Proof.Machine.execStart slot s
  | .freeze slot ran => Sys2Proof.Machine.execFreeze slot ran s
  | .resume slot waited => Sys2Proof.Machine.execResume slot waited s
  | .save slot f => Sys2Proof.Machine.execSave slot f s
  | .restore slot img digestOk f => Sys2Proof.Machine.execRestore slot img digestOk f s
  | .relocate p => Sys2Proof.Machine.execRelocate p s
  | .reshape slot img digestOk => Sys2Proof.Machine.execReshape slot img digestOk s
  | .release slot => Sys2Proof.Machine.execRelease slot s
  | .copyOut slot ms => Sys2Proof.Machine.execCopyOut slot ms s
  | .cmdComplete slot => Sys2Proof.Machine.execCmdComplete slot s
  | .denFrozen slot => Sys2Proof.Machine.execDenFrozen slot s
  | .settFreeze slot ran => Sys2Proof.Machine.execSettFreeze slot ran s
  | .stepStart slot waited => Sys2Proof.Machine.execStepStart slot waited s
  | .stepEnd slot => Sys2Proof.Machine.execStepEnd slot s
  | .drainEnd slot => Sys2Proof.Machine.execDrainEnd slot s
  | .scrubEnd slot ix f => Sys2Proof.Machine.execScrubEnd slot ix f s
  | .holdAdd q v => Sys2Proof.Machine.execHoldAdd q v s
  | .holdRemove q v => Sys2Proof.Machine.execHoldRemove q v s
  | .bankCtl q v => Sys2Proof.Machine.execBankCtl q v s
  | .saveArea q v => Sys2Proof.Machine.execSaveArea q v s
  | .linkBudget q v => Sys2Proof.Machine.execLinkBudget q v s
  | .guarantee q v => Sys2Proof.Machine.execGuarantee q v s
  | .sdiWindowEnd slot => Sys2Proof.Machine.execSdiWindowEnd slot s
  | .dictRead q => Sys2Proof.Machine.execDictRead q s
  | .dictWrite q v => Sys2Proof.Machine.execDictWrite q v s
  | .dictDescribe q => Sys2Proof.Machine.execDictDescribe q s
  | .dictNext q => Sys2Proof.Machine.execDictNext q s
  | .dictSnapshot q => Sys2Proof.Machine.execDictSnapshot q s
  | .persistCommit ok => Sys2Proof.Machine.execPersistCommit ok s
  | .dictOwlExpiry q => Sys2Proof.Machine.execDictOwlExpiry q s
  | .hifDrqTail p v => Sys2Proof.Machine.execHifDrqTail p v s
  | .hifDrsHead p v => Sys2Proof.Machine.execHifDrsHead p v s
  | .empty p => Sys2Proof.Machine.execEmpty p s
  | .dictSegment l => Sys2Proof.Machine.execDictSegment l s
  | .dictReassemblyTimeout src job msg => Sys2Proof.Machine.execDictReassemblyTimeout src job msg s
  | .mctpControl cmd => Sys2Proof.Machine.execMctpControl cmd s
  | .vendorDictMessage vendorOk bytes => Sys2Proof.Machine.execVendorDictMessage vendorOk bytes s
  | .pldmFirmwareUpdate f => Sys2Proof.Machine.execPldmFirmwareUpdate f s
  | .defaultsRestore q v => Sys2Proof.Machine.execDefaultsRestore q v s
  | .calImport q v sigOk => Sys2Proof.Machine.execCalImport q v sigOk s
  | .calibrationWrite q v => Sys2Proof.Machine.execCalibrationWrite q v s
  | .seamCtl q v => Sys2Proof.Machine.execSeamCtl q v s
  | .submissionDoorbell page v => Sys2Proof.Machine.execSubmissionDoorbell page v s
  | .completionDoorbell page v => Sys2Proof.Machine.execCompletionDoorbell page v s
  | .step q entry batch => Sys2Proof.Machine.execStep q entry batch s
  | .fenceEntry q entry => Sys2Proof.Machine.execFenceEntry q entry s
  | .waitOwlExpiry q => Sys2Proof.Machine.execWaitOwlExpiry q s
  | .completionRecordWrite q => Sys2Proof.Machine.execCompletionRecordWrite q s
  | .queueCreate q v => Sys2Proof.Machine.execQueueCreate q v s
  | .queueStop q v => Sys2Proof.Machine.execQueueStop q v s
  | .queueStart q v => Sys2Proof.Machine.execQueueStart q v s
  | .queueDiscard q v entries => Sys2Proof.Machine.execQueueDiscard q v entries s
  | .queueDestroy q v => Sys2Proof.Machine.execQueueDestroy q v s
  | .fenSignal f v wide => Sys2Proof.Machine.execFenSignal f v wide s
  | .fenSignalAlias f v wide => Sys2Proof.Machine.execFenSignalAlias f v wide s
  | .fenCreate q v => Sys2Proof.Machine.execFenCreate q v s
  | .fenRef q v => Sys2Proof.Machine.execFenRef q v s
  | .fenUnref q v => Sys2Proof.Machine.execFenUnref q v s
  | .fenExport q v => Sys2Proof.Machine.execFenExport q v s
  | .ownerTeardown q v => Sys2Proof.Machine.execOwnerTeardown q v s
  | .aperMap q v => Sys2Proof.Machine.execAperMap q v s
  | .aperUnmap q v => Sys2Proof.Machine.execAperUnmap q v s
  | .apertureAccess off k m => Sys2Proof.Machine.execApertureAccess off k m s
  | .functionLevelReset => Sys2Proof.Machine.execFunctionLevelReset s
  | .d3hotEntry => Sys2Proof.Machine.execD3hotEntry s
  | .d0Return => Sys2Proof.Machine.execD0Return s
  | .perstAssert d3cold => Sys2Proof.Machine.execPerstAssert d3cold s
  | .slotOwner q v => Sys2Proof.Machine.execSlotOwner q v s
  | .linkUp l lanes => Sys2Proof.Machine.execLinkUp l lanes s
  | .linkDown l lane => Sys2Proof.Machine.execLinkDown l lane s
  | .spareSwap l lane => Sys2Proof.Machine.execSpareSwap l lane s
  | .frameReceive l f fcsOk key => Sys2Proof.Machine.execFrameReceive l f fcsOk key s
  | .reqRead l ms => Sys2Proof.Machine.execReqRead l ms s
  | .reqWrite l ms => Sys2Proof.Machine.execReqWrite l ms s
  | .reqRmw l ms => Sys2Proof.Machine.execReqRmw l ms s
  | .pushw l ms => Sys2Proof.Machine.execPushw l ms s
  | .rsp l => Sys2Proof.Machine.execRsp l s
  | .fenceFrame l => Sys2Proof.Machine.execFenceFrame l s
  | .keyx l digest sigOk => Sys2Proof.Machine.execKeyx l digest sigOk s
  | .keyxResend job peer => Sys2Proof.Machine.execKeyxResend job peer s
  | .keyRetainExpiry job peer => Sys2Proof.Machine.execKeyRetainExpiry job peer s
  | .keyend l => Sys2Proof.Machine.execKeyend l s
  | .pcommit l => Sys2Proof.Machine.execPcommit l s
  | .pack l => Sys2Proof.Machine.execPack l s
  | .pdone l => Sys2Proof.Machine.execPdone l s
  | .pushPoll ch ms => Sys2Proof.Machine.execPushPoll ch ms s
  | .pushRetryExpiry ch unit => Sys2Proof.Machine.execPushRetryExpiry ch unit s
  | .linkOwlExpiry l => Sys2Proof.Machine.execLinkOwlExpiry l s
  | .endpointId q v => Sys2Proof.Machine.execEndpointId q v s
  | .routeSet q v => Sys2Proof.Machine.execRouteSet q v s
  | .routeClear q v => Sys2Proof.Machine.execRouteClear q v s
  | .jobCreate q v => Sys2Proof.Machine.execJobCreate q v s
  | .jobMember q v => Sys2Proof.Machine.execJobMember q v s
  | .jobEnd q v => Sys2Proof.Machine.execJobEnd q v s
  | .keyInstall q v => Sys2Proof.Machine.execKeyInstall q v s
  | .fenceSend q v => Sys2Proof.Machine.execFenceSend q v s
  | .pushChCreate q v => Sys2Proof.Machine.execPushChCreate q v s
  | .pushStart q v => Sys2Proof.Machine.execPushStart q v s
  | .retarget q v => Sys2Proof.Machine.execRetarget q v s
  | .pushStop q v => Sys2Proof.Machine.execPushStop q v s
  | .pushDestroy q v => Sys2Proof.Machine.execPushDestroy q v s
  | .logSelect q v => Sys2Proof.Machine.execLogSelect q v s
  | .custodySelect q v => Sys2Proof.Machine.execCustodySelect q v s
  | .pushRelease q v => Sys2Proof.Machine.execPushRelease q v s
  | .logClear q v => Sys2Proof.Machine.execLogClear q v s
  | .linkEnable q v => Sys2Proof.Machine.execLinkEnable q v s
  | .sourceOccurrence n cond => Sys2Proof.Machine.execSourceOccurrence n cond s
  | .notification t => Sys2Proof.Machine.execNotification t s
  | .moderationTimeExpiry t g holdoff => Sys2Proof.Machine.execModerationTimeExpiry t g holdoff s
  | .icClaim t => Sys2Proof.Machine.execIcClaim t s
  | .icComplete t v => Sys2Proof.Machine.execIcComplete t v s
  | .icSrcCfg r v who => Sys2Proof.Machine.execIcSrcCfg r v who s
  | .clr n v => Sys2Proof.Machine.execClr n v s
  | .icThresh t v => Sys2Proof.Machine.execIcThresh t v s
  | .domainSleep d => Sys2Proof.Machine.execDomainSleep d s
  | .domainWake d pmeEn => Sys2Proof.Machine.execDomainWake d pmeEn s
  | .mbxData c v who wide => Sys2Proof.Machine.execMbxData c v who wide s
  | .mbxAck c v => Sys2Proof.Machine.execMbxAck c v s
  | .mbxCfg c v => Sys2Proof.Machine.execMbxCfg c v s
  | .lcDeploy q v => Sys2Proof.Machine.execLcDeploy q v s
  | .lcReturn q v sigOk => Sys2Proof.Machine.execLcReturn q v sigOk s
  | .lcScrap q v => Sys2Proof.Machine.execLcScrap q v s
  | .svnCommit q v => Sys2Proof.Machine.execSvnCommit q v s
  | .tamperEvent ev half ms => Sys2Proof.Machine.execTamperEvent ev half ms s
  | .getMeasurements tr => Sys2Proof.Machine.execGetMeasurements tr s
  | .keyExchange tr => Sys2Proof.Machine.execKeyExchange tr s
  | .endSession id => Sys2Proof.Machine.execEndSession id s
  | .spdmHeartbeatLoss id => Sys2Proof.Machine.execSpdmHeartbeatLoss id s
  | .securedDictMessage id vendorOk bytes => Sys2Proof.Machine.execSecuredDictMessage id vendorOk bytes s
  | .keyProg id stream set => Sys2Proof.Machine.execKeyProg id stream set s
  | .kSetStop id stream set => Sys2Proof.Machine.execKSetStop id stream set s
  | .startInterfaceRequest id slot => Sys2Proof.Machine.execStartInterfaceRequest id slot s
  | .meterFrame f => Sys2Proof.Machine.execMeterFrame f s
  | .meterLinkLost meterSide ms => Sys2Proof.Machine.execMeterLinkLost meterSide ms s
  | .meterPairing digestOk chainOk => Sys2Proof.Machine.execMeterPairing digestOk chainOk s
  | .meterSealOpen => Sys2Proof.Machine.execMeterSealOpen s
  | .periodReceipt => Sys2Proof.Machine.execPeriodReceipt s
  | .unmeteredReceipt gapTicks ms => Sys2Proof.Machine.execUnmeteredReceipt gapTicks ms s
  | .energySample mJ ticks => Sys2Proof.Machine.execEnergySample mJ ticks s
  | .powerEval f => Sys2Proof.Machine.execPowerEval f s
  | .gainCorrection rails => Sys2Proof.Machine.execGainCorrection rails s
  | .droopTrip h tripped deep => Sys2Proof.Machine.execDroopTrip h tripped deep s
  | .stretchDecay h cycles => Sys2Proof.Machine.execStretchDecay h cycles s
  | .stepChangeSettled => Sys2Proof.Machine.execStepChangeSettled s
  | .pwrBrake low => Sys2Proof.Machine.execPwrBrake low s
  | .brakeEnd => Sys2Proof.Machine.execBrakeEnd s
  | .sensorSample g raw => Sys2Proof.Machine.execSensorSample g raw s
  | .thermalLevelTick rise => Sys2Proof.Machine.execThermalLevelTick rise s
  | .tripCooldown => Sys2Proof.Machine.execTripCooldown s
  | .railFault rail => Sys2Proof.Machine.execRailFault rail s
  | .inputSag => Sys2Proof.Machine.execInputSag s
  | .sagEnd => Sys2Proof.Machine.execSagEnd s
  | .inputLoss => Sys2Proof.Machine.execInputLoss s
  | .powerOn sel off => Sys2Proof.Machine.execPowerOn sel off s
  | .regulatorTimeout rail => Sys2Proof.Machine.execRegulatorTimeout rail s
  | .perstDeassert => Sys2Proof.Machine.execPerstDeassert s
  | .romBoot needs => Sys2Proof.Machine.execRomBoot needs s
  | .firmwareRelease sealedBad locks => Sys2Proof.Machine.execFirmwareRelease sealedBad locks s
  | .wellTraining failed repairs => Sys2Proof.Machine.execWellTraining failed repairs s
  | .cisternTraining failed => Sys2Proof.Machine.execCisternTraining failed s
  | .repairMapBuild dead faulty f => Sys2Proof.Machine.execRepairMapBuild dead faulty f s
  | .linkTrainingEnd limit => Sys2Proof.Machine.execLinkTrainingEnd limit s
  | .dictReady ms aon => Sys2Proof.Machine.execDictReady ms aon s
  | .fenceTile q v => Sys2Proof.Machine.execFenceTile q v s
  | .unfenceTile q v => Sys2Proof.Machine.execUnfenceTile q v s
  | .repairApply q v f => Sys2Proof.Machine.execRepairApply q v f s
  | .marchDestructive q v => Sys2Proof.Machine.execMarchDestructive q v s
  | .marchPreserving q v => Sys2Proof.Machine.execMarchPreserving q v s
  | .marchEnd h f => Sys2Proof.Machine.execMarchEnd h f s
  | .denReset q v => Sys2Proof.Machine.execDenReset q v s
  | .engineReset q v => Sys2Proof.Machine.execEngineReset q v s
  | .halfReset q v => Sys2Proof.Machine.execHalfReset q v s
  | .chipReset by_ => Sys2Proof.Machine.execChipReset by_ s
  | .moduleReset q v => Sys2Proof.Machine.execModuleReset q v s
  | .drainLimitExpiry ix ms refused => Sys2Proof.Machine.execDrainLimitExpiry ix ms refused s
  | .escalationOwlExpiry ix ms => Sys2Proof.Machine.execEscalationOwlExpiry ix ms s
  | .returnToService ix ms f => Sys2Proof.Machine.execReturnToService ix ms f s
  | .settHeartbeatExpiry core => Sys2Proof.Machine.execSettHeartbeatExpiry core s
  | .leaseRenewal seam aon => Sys2Proof.Machine.execLeaseRenewal seam aon s
  | .leaseCheck seamLapsed aonLapsed late => Sys2Proof.Machine.execLeaseCheck seamLapsed aonLapsed late s
  | .routerFault p r => Sys2Proof.Machine.execRouterFault p r s
  | .dumpCfg q v => Sys2Proof.Machine.execDumpCfg q v s
  | .lockInterfaceRequest id slot => Sys2Proof.Machine.execLockInterfaceRequest id slot s
  | .stopInterfaceRequest id slot => Sys2Proof.Machine.execStopInterfaceRequest id slot s
  | .kSetGo id stream set => Sys2Proof.Machine.execKSetGo id stream set s
  | .keyUpdate id => Sys2Proof.Machine.execKeyUpdate id s
  | .configurationRequest b => Sys2Proof.Machine.execConfigurationRequest b s
  | .resizableBar log => Sys2Proof.Machine.execResizableBar log s
  | .hifDctl p v => Sys2Proof.Machine.execHifDctl p v s
  | .parityError t => Sys2Proof.Machine.execParityError t s
  | .priorityFlowControl l pause => Sys2Proof.Machine.execPriorityFlowControl l pause s
  | .macMergeVerification l ok => Sys2Proof.Machine.execMacMergeVerification l ok s
  | .msiXVectorControl v mask => Sys2Proof.Machine.execMsiXVectorControl v mask s

end Sys2Proof.Machine
end

