-- ==== Sys2Proof/Safety.lean ====
section
/-! DEFINITION. Safety.lean: what the statements say about a run: a step that completes, the limits of the module that no run may
pass, and which parts of the state a command may change. -/

namespace Sys2Proof.Machine

open Sys2Proof

/-- A command completes: it answers a next state, of which something holds. -/
def Completes (o : Host.Outcome State Fault Refusal) (P : State → Prop) : Prop := ∃ t, o = .next t ∧ P t

/-- A dictionary request stands where the primary Sett executes it next (R448, R461): its operation, its element and its payload. -/
def State.takes (s : State) (q : Req) (op : DictOp) (ix el : Nat) (v : List Byte) : Bool :=
  q.index.toNat == ix && q.element.toNat == el && q.opc.toNat == op.code && v.length == q.len.toNat && s.settServes &&
    s.turnPlace == some (frontPlace q.fe) && s.standsFirst q op v

/-- A dictionary write stands where it is executed, and no check that all elements share refuses it (R451). -/
def State.serves (s : State) (q : Req) (ix el : Nat) (v : List Byte) : Bool :=
  s.takes q .write ix el v && (s.checkReq q .write v true).isNone

/-- A tile of a slot's den can issue its next bundle, or the operations of its present one (R69, R102). -/
def State.issues (s : State) (t : TileIx) (slot : Nat) : Bool :=
  s.slotOf t.val == some slot && issueGuard s slot (s.den slot) t.val (s.tile t.val) == none

/-- A tile as the operations of a slot see it. -/
def State.snap (s : State) (t : TileIx) (slot : Nat) : Snap :=
  { t := t.val, slot := slot, den := s.den slot, tile := s.tile t.val }

/-- A result is in flight to a register of a tile (R103). -/
def State.inFlight (s : State) (t : TileIx) (l : List Landing) : State :=
  s.modTile t.val fun y => { y with landings := y.landings ++ l }

/-- The predicate that governs an operation of the V slot: all ones without predication (R108). -/
def Snap.pred (x : Snap) (f : VFields) : Nat := (f.pred.map fun p => x.tile.preg p.toNat).getD (2 ^ 64 - 1)

/-- The elements that an operation gives from those of its three operands (R124, R151). -/
def Snap.elements (x : Snap) (f : VFields) (g : Nat → Nat → Nat → Nat × FFlags) : List (Nat × FFlags) :=
  let w := (ETy.ofField f.ty.toNat).bits
  (List.range (512 / w)).map fun i =>
    g ((x.vector w f.s1.toNat).getD i 0) ((x.vector w f.s2.toNat).getD i 0) ((x.vector w f.s3.toNat).getD i 0)

/-- A function of floating-point numbers on the elements of a type: on the number, or on each part of a complex one (R178). -/
def onParts (y : ETy) (g : FloatFmt → Nat → Nat → Nat → Nat × FFlags) (a b c : Nat) : Nat × FFlags :=
  match y.fmt with
  | none => (0, {})
  | some t =>
    if y.isComplex then
      let w := y.partBits
      let re := g t (a % 2 ^ w) (b % 2 ^ w) (c % 2 ^ w)
      let im := g t (a / 2 ^ w) (b / 2 ^ w) (c / 2 ^ w)
      (re.1 + 2 ^ w * im.1, re.2.or im.2)
    else g t a b c

/-- A result for a V register (R103, R108, R126, R159): its elements of a width, the bits that the predicate lets through, and the flags
of the elements written. -/
def Snap.vResult (x : Snap) (f : VFields) (left w : Nat) (es : List (Nat × FFlags)) : Landing :=
  { left := left, dest := .v f.vd.toNat, val := BitVec.ofNat 512 (joinElems w (es.map (·.1))),
    mask := BitVec.ofNat 512 (maskBits w (predMask w (512 / w) (x.pred f))),
    vflags := flagsOf (predMask w (512 / w) (x.pred f)) (es.map (·.2)) }

/-- A result for one register of 64 bits, governed by bit 0 of its predicate (R108). -/
def Snap.result (x : Snap) (f : VFields) (left : Nat) (r : Reg) (v : Nat) : Landing :=
  { left := left, dest := r, val := BitVec.ofNat 512 v, mask := if x.pred f % 2 = 1 then BitVec.allOnes 512 else 0 }

/-- What a tile's next bundle is: the stored one it fetches, or an empty one (R107). -/
def Tile.bundleOf (x : Tile) (kind : BundleKind) : Bundle := if kind = .stored then x.fetch else Bundle.empty

/-- Whether a tile's next bundle is its HALT (R116). -/
def Tile.halts (x : Tile) (kind : BundleKind) : Bool := kind == .stored && x.fetch.ctl == 6

/-- The state once every check of step 1 of R102 has passed; none where one has not. The checks are made once for a bundle: an operation
of its slots that ran before has made them. -/
def State.passed (s : State) (t : TileIx) (slot : Nat) (kind : BundleKind) : Option State :=
  let x := s.tile t.val
  if x.opened then some s
  else match step1 s slot (s.den slot) t.val x (x.bundleOf kind) (x.halts kind) [] with
    | .pass pop => some (applyStep1 s t.val (x.halts kind) pop [])
    | _ => none

/-- The state that the slots of a tile's next bundle see, after steps 1 and 2 of R102, where the bundle issues and none of the faults of
those steps arises (R739 rows 1 to 3); none where it does not or one does. -/
def State.opens (s : State) (t : TileIx) (slot : Nat) (kind : BundleKind) : Option State :=
  let x := s.tile t.val
  let held := heldResults x (x.halts kind)
  if !s.issues t slot then none
  else match s.passed t slot kind with
    | none => none
    | some p =>
      if kind = .stored ∧ 0xFFF < x.addr then none
      else if x.opened then some s
      else if kind = .stored ∧ overlayEarly (p.tile t.val) then none
      else if !votesIn (s.den slot) x || clashes (p.tile t.val) held then none
      else some ((p.land slot t.val held).modTile t.val fun y => { y with opened := true })

/-- An operation of a slot can run in a tile's present bundle, and `u` is the state it sees: a stored bundle is due, its checks have passed, what is
due has landed, and its header has no fault (R102, R739 rows 1 to 4). -/
def State.ready (s u : State) (t : TileIx) (slot : Nat) : Bool :=
  (s.tile t.val).kindNow (s.den slot) t.val == .stored && s.opens t slot .stored == some u &&
    (headerFault (s.tile t.val) (s.tile t.val).fetch).isNone

/-- A tile's next bundle issues and none of the faults of R739 arises; `u` is the state that its slots see. -/
def State.clean (s u : State) (t : TileIx) (slot : Nat) (kind : BundleKind) : Bool :=
  let x := s.tile t.val
  s.opens t slot kind == some u &&
    (kind != .stored || ((headerFault x x.fetch).isNone && (slotFault (u.snap t slot) x.fetch).isNone))

/-- The dictionary request that a command is (R448): the request, its operation, its payload. -/
def asRequest : Instr → Option (Req × DictOp × List Byte)
  | .dictRead q => some (q, .read, List.replicate q.len.toNat 0)
  | .dictDescribe q => some (q, .describe, List.replicate q.len.toNat 0)
  | .dictNext q => some (q, .next, List.replicate q.len.toNat 0)
  | .dictSnapshot q => some (q, .snapshot, List.replicate q.len.toNat 0)
  | .calImport q v _ => some (q, .write, v)
  | .lcReturn q v _ => some (q, .write, v)
  | .queueDiscard q v _ => some (q, .write, v)
  | .repairApply q v _ => some (q, .write, v)
  | .chipReset (.request q v) => some (q, .write, v)
  | .remapReq q v | .rollReq q v | .extGrant q v | .extRevoke q v | .extResize q v | .winOpen q v | .winClose q v | .holdAdd q v
  | .holdRemove q v | .bankCtl q v | .saveArea q v | .linkBudget q v | .guarantee q v | .dictWrite q v | .defaultsRestore q v
  | .calibrationWrite q v | .seamCtl q v | .queueCreate q v | .queueStop q v | .queueStart q v | .queueDestroy q v | .fenCreate q v
  | .fenRef q v | .fenUnref q v | .fenExport q v | .ownerTeardown q v | .aperMap q v | .aperUnmap q v | .slotOwner q v
  | .endpointId q v | .routeSet q v | .routeClear q v | .jobCreate q v | .jobMember q v | .jobEnd q v | .keyInstall q v
  | .fenceSend q v | .pushChCreate q v | .pushStart q v | .retarget q v | .pushStop q v | .pushDestroy q v | .logSelect q v
  | .custodySelect q v | .pushRelease q v | .logClear q v | .linkEnable q v | .lcDeploy q v | .lcScrap q v | .svnCommit q v
  | .fenceTile q v | .unfenceTile q v | .marchDestructive q v | .marchPreserving q v | .denReset q v | .engineReset q v
  | .halfReset q v | .moduleReset q v | .dumpCfg q v => some (q, .write, v)
  | _ => none

/-- Whether the role of a request may write the value (R394, R444, R456, R539, R556). -/
def State.permits (s : State) : Instr → Bool
  | .dictWrite q v => writePermit (roleOf q.fe) q.index.toNat q.element.toNat v
  | .winOpen q v => s.mayOpen q.fe v
  | .winClose q v => s.mayClose q.fe (leNat v)
  | .keyInstall q _ => isSecured q.fe
  | .pushRelease q v => match roleOf q.fe with
    | .fabricPeer _ job => s.fab.custody.all fun c => !(parseSel v == some (c.id, c.src)) || c.job == job
    | _ => true
  | _ => true

/-- A state differs from another in what taking a request and answering it touch alone: the dictionary, the interrupt controller, the
fabric and the mesh that carry the response, what is sent, and the free values taken. -/
def State.answeredOnly (s t : State) : Prop :=
  t.pending = s.pending ∧ t.tiles = s.tiles ∧ t.dens = s.dens ∧ t.seam = s.seam ∧ t.host = s.host ∧ t.repair = s.repair ∧
    t.wells = s.wells ∧ t.cisterns = s.cisterns ∧ t.wins = s.wins ∧ t.ctls = s.ctls ∧ t.trust = s.trust ∧ t.meter = s.meter ∧
    t.saves = s.saves ∧ t.chip = s.chip ∧ t.power = s.power

/-- What is scarce in the module, and the queue of commands: the part of the state that the limits below speak of. -/
structure Scarce where
  pending : List Instr
  bar4Log : Nat
  sessions : List Session
  jobs : List Job
  members : List Member
  svnUsed : Nat

/-- The scarce things of a state. -/
def State.scarce (s : State) : Scarce :=
  { pending := s.pending, bar4Log := s.host.bar4Log, sessions := s.trust.sessions, jobs := s.fab.jobs, members := s.fab.members,
    svnUsed := s.trust.svnUsed }

/-- How many sessions a transport has. -/
def Scarce.sessionsOn (x : Scarce) (tr : SpdmTransport) : Nat := (x.sessions.filter (·.tr == tr)).length

/-- The limits of the module: BAR4 has a size that its capability offers (R482), each transport at most four sessions (R600), at most 64
jobs live (R532), with at most 8,192 member entries (R532), and at most 32 fuse increments used (R599). -/
def Scarce.within (x : Scarce) : Prop :=
  36 ≤ x.bar4Log ∧ x.bar4Log ≤ 42 ∧ x.sessionsOn .doe ≤ 4 ∧ x.sessionsOn .mctp ≤ 4 ∧ x.jobs.length ≤ 64 ∧ x.members.length ≤ 8192 ∧
    x.svnUsed ≤ 32

/-- A state within the limits. -/
def State.Limits (s : State) : Prop := s.scarce.within

/-- The commands that may change the saved state whose layout the spec leaves open. -/
def changesSaves : Instr → Bool
  | .save .. | .perstAssert .. | .railFault .. | .inputLoss | .drainLimitExpiry .. => true
  | _ => false

/-- The commands that may change the windows. -/
def changesWindows : Instr → Bool
  | .winOpen .. | .winClose .. | .drainEnd .. | .perstAssert .. | .jobEnd .. | .railFault .. | .inputLoss | .drainLimitExpiry .. => true
  | _ => false

/-- The commands that may change the controllers' regulation. -/
def changesControllers : Instr → Bool
  | .pumpLineResponse .. | .regSlot .. | .monWindowEnd .. | .guarantee .. | .apertureAccess .. | .perstAssert .. | .reqRead .. |
    .reqWrite .. | .reqRmw .. | .pushw .. | .railFault .. | .inputLoss | .drainLimitExpiry .. | .returnToService .. => true
  | _ => false

/-- The commands that may change the seam. -/
def changesSeam : Instr → Bool
  | .next .. | .br .. | .jmp .. | .loop .. | .call .. | .ret .. | .halt .. | .emptyBundle .. | .throttleBundle .. |
    .fixedResultLand .. | .mnop .. | .mma .. | .mmaz .. | .mzero .. | .mrd .. | .vnop .. | .vadd .. | .vsub .. | .vmul .. |
    .vfma .. | .vfms .. | .vfnma .. | .vmin .. | .vmax .. | .vabs .. | .vneg .. | .vrcp .. | .vrsq .. | .vcmpeq .. | .vcmplt .. |
    .vcmple .. | .vcvt .. | .vsel .. | .vcmul .. | .vcfma .. | .vconj .. | .viadd .. | .visub .. | .vimul .. | .vand .. |
    .vor .. | .vxor .. | .vshl .. | .vshr .. | .vsra .. | .vbcast .. | .vperm .. | .vredsum .. | .sadd .. | .ssub .. | .smul .. |
    .sand .. | .sor .. | .sxor .. | .sshl .. | .sshr .. | .saddi .. | .sli .. | .slui .. | .scmpeq .. | .scmplt .. | .smovv .. |
    .smovs .. | .sstat .. | .pset .. | .pand .. | .por .. | .pnot .. | .anop .. | .ld .. | .st .. | .ldst .. | .lds .. | .sts .. |
    .bankctl .. | .xnop .. | .send .. | .vote .. | .psetu .. | .pnop .. | .issueV .. | .issueA .. | .pord .. |
    .resumeSignalSend .. | .streamOwlExpiry .. | .seamFollowEngage .. | .seamFollowRelease .. | .seamTraining .. | .freeze .. |
    .save .. | .restore .. | .relocate .. | .release .. | .denFrozen .. | .settFreeze .. | .stepEnd .. | .drainEnd .. |
    .seamCtl .. | .ownerTeardown .. | .functionLevelReset | .d3hotEntry | .perstAssert .. | .railFault .. | .inputLoss |
    .drainLimitExpiry .. | .returnToService .. => true
  | _ => false

/-- The commands that may change the root of trust. -/
def changesTrust : Instr → Bool
  | .release .. | .mctpControl .. | .pldmFirmwareUpdate .. | .ownerTeardown .. | .functionLevelReset | .perstAssert .. |
    .lcDeploy .. | .lcReturn .. | .lcScrap .. | .svnCommit .. | .tamperEvent .. | .keyExchange .. | .endSession .. |
    .spdmHeartbeatLoss .. | .keyProg .. | .kSetStop .. | .startInterfaceRequest .. | .railFault .. | .inputLoss | .romBoot .. |
    .firmwareRelease .. | .halfReset .. | .drainLimitExpiry .. | .escalationOwlExpiry .. | .returnToService .. |
    .lockInterfaceRequest .. | .stopInterfaceRequest .. | .kSetGo .. | .keyUpdate .. => true
  | _ => false

/-- The commands that may change the Meter. -/
def changesMeter : Instr → Bool
  | .cmdComplete .. | .drainEnd .. | .scrubEnd .. | .holdAdd .. | .holdRemove .. | .bankCtl .. | .saveArea .. | .linkBudget .. |
    .guarantee .. | .perstAssert .. | .meterFrame .. | .meterLinkLost .. | .meterPairing .. | .meterSealOpen | .periodReceipt |
    .unmeteredReceipt .. | .energySample .. | .railFault .. | .inputLoss | .powerOn .. | .drainLimitExpiry .. => true
  | _ => false

/-- The commands that may change the chip's bring-up. -/
def changesChip : Instr → Bool
  | .perstAssert .. | .lcDeploy .. | .lcReturn .. | .lcScrap .. | .tamperEvent .. | .sensorSample .. | .railFault .. |
    .inputLoss | .powerOn .. | .regulatorTimeout .. | .perstDeassert | .romBoot .. | .firmwareRelease .. | .wellTraining .. |
    .cisternTraining .. | .repairMapBuild .. | .linkTrainingEnd .. | .dictReady .. | .chipReset .. | .drainLimitExpiry .. |
    .escalationOwlExpiry .. | .leaseCheck .. => true
  | _ => false

/-- The commands that may change the power manager. -/
def changesPower : Instr → Bool
  | .reserve .. | .perstAssert .. | .powerEval .. | .gainCorrection .. | .droopTrip .. | .stretchDecay .. | .stepChangeSettled |
    .pwrBrake .. | .brakeEnd | .sensorSample .. | .thermalLevelTick .. | .railFault .. | .inputSag | .sagEnd | .inputLoss |
    .romBoot .. | .dictReady .. | .drainLimitExpiry .. => true
  | _ => false

/-- The commands that may change the wells. -/
def changesWells : Instr → Bool
  | .copy .. | .gather .. | .scatter .. | .rmw .. | .segred .. | .stencil .. | .spmv .. | .embed .. | .hist .. | .compress .. |
    .expand .. | .convert .. | .merge .. | .wellAccess .. | .refresh .. | .patrolScrub .. | .rowRepair .. | .remapReq .. |
    .remapStart .. | .remapCopyEnd .. | .busyResend .. | .windowOwlExpiry .. | .load .. | .save .. | .restore .. | .relocate .. |
    .reshape .. | .copyOut .. | .scrubEnd .. | .persistCommit .. | .defaultsRestore .. | .calImport .. | .calibrationWrite .. |
    .apertureAccess .. | .perstAssert .. | .reqRead .. | .reqWrite .. | .reqRmw .. | .pushw .. | .rsp .. | .keyx .. |
    .keyxResend .. | .keyend .. | .pack .. | .pdone .. | .pushPoll .. | .pushRetryExpiry .. | .jobEnd .. | .keyInstall .. |
    .pushChCreate .. | .pushStart .. | .pushStop .. | .pushDestroy .. | .logClear .. | .tamperEvent .. | .railFault .. |
    .inputLoss | .wellTraining .. | .halfReset .. | .drainLimitExpiry .. | .escalationOwlExpiry .. | .returnToService .. => true
  | _ => false

/-- The commands that may change the reservoir. -/
def changesReservoir : Instr → Bool
  | .copy .. | .gather .. | .scatter .. | .rmw .. | .segred .. | .stencil .. | .spmv .. | .embed .. | .hist .. | .compress .. |
    .expand .. | .convert .. | .merge .. | .cisternAccess .. | .rollKeyLoad .. | .sweepStep .. | .rollEnd | .rebuild .. |
    .rebuildEnd .. | .busyResend .. | .windowOwlExpiry .. | .load .. | .save .. | .restore .. | .relocate .. | .reshape .. |
    .copyOut .. | .scrubEnd .. | .apertureAccess .. | .perstAssert .. | .reqRead .. | .reqWrite .. | .reqRmw .. | .pushw .. |
    .rsp .. | .keyx .. | .keyxResend .. | .keyend .. | .pack .. | .pdone .. | .pushPoll .. | .pushRetryExpiry .. | .jobEnd .. |
    .keyInstall .. | .pushChCreate .. | .pushStart .. | .pushStop .. | .pushDestroy .. | .logClear .. | .lcDeploy .. |
    .lcReturn .. | .lcScrap .. | .tamperEvent .. | .railFault .. | .inputLoss | .cisternTraining .. | .drainLimitExpiry .. => true
  | _ => false

/-- The commands that may change the tiles. -/
def changesTiles : Instr → Bool
  | .pumpTagReset .. | .seamFollowEngage .. | .seamFollowRelease .. | .seamTraining .. | .wellAccess .. | .refresh .. |
    .patrolScrub .. | .rowRepair .. | .remapReq .. | .rollReq .. | .rollKeyLoad .. | .rollEnd | .rebuild .. | .rebuildEnd .. |
    .regSlot .. | .monWindowEnd .. | .vc0Eject .. | .reportMerge .. | .routeCompute | .extGrant .. | .extRevoke .. |
    .extResize .. | .invalidationDone .. | .atsInvalidate .. | .winOpen .. | .winClose .. | .reserve .. | .start .. |
    .cmdComplete .. | .stepEnd .. | .holdAdd .. | .holdRemove .. | .saveArea .. | .linkBudget .. | .guarantee .. |
    .sdiWindowEnd .. | .dictRead .. | .dictWrite .. | .dictDescribe .. | .dictNext .. | .dictSnapshot .. | .dictOwlExpiry .. |
    .hifDrqTail .. | .hifDrsHead .. | .empty .. | .dictSegment .. | .dictReassemblyTimeout .. | .mctpControl .. |
    .vendorDictMessage .. | .pldmFirmwareUpdate .. | .seamCtl .. | .submissionDoorbell .. | .completionDoorbell .. | .step .. |
    .fenceEntry .. | .waitOwlExpiry .. | .completionRecordWrite .. | .queueCreate .. | .queueStop .. | .queueStart .. |
    .queueDiscard .. | .queueDestroy .. | .fenSignal .. | .fenSignalAlias .. | .fenCreate .. | .fenRef .. | .fenUnref .. |
    .fenExport .. | .aperMap .. | .aperUnmap .. | .d0Return | .slotOwner .. | .linkUp .. | .linkDown .. | .spareSwap .. |
    .frameReceive .. | .fenceFrame .. | .keyRetainExpiry .. | .pcommit .. | .linkOwlExpiry .. | .endpointId .. | .routeSet .. |
    .routeClear .. | .jobCreate .. | .jobMember .. | .fenceSend .. | .retarget .. | .logSelect .. | .custodySelect .. |
    .pushRelease .. | .linkEnable .. | .sourceOccurrence .. | .notification .. | .moderationTimeExpiry .. | .icClaim .. |
    .icComplete .. | .icSrcCfg .. | .clr .. | .icThresh .. | .domainSleep .. | .domainWake .. | .mbxData .. | .mbxAck .. |
    .mbxCfg .. | .lcDeploy .. | .lcReturn .. | .lcScrap .. | .svnCommit .. | .getMeasurements .. | .keyExchange .. |
    .endSession .. | .spdmHeartbeatLoss .. | .securedDictMessage .. | .keyProg .. | .kSetStop .. | .startInterfaceRequest .. |
    .meterFrame .. | .meterLinkLost .. | .meterPairing .. | .meterSealOpen | .periodReceipt | .unmeteredReceipt .. |
    .energySample .. | .powerEval .. | .gainCorrection .. | .droopTrip .. | .stretchDecay .. | .stepChangeSettled | .pwrBrake .. |
    .brakeEnd | .thermalLevelTick .. | .tripCooldown | .inputSag | .sagEnd | .powerOn .. | .regulatorTimeout .. | .perstDeassert |
    .romBoot .. | .firmwareRelease .. | .wellTraining .. | .cisternTraining .. | .linkTrainingEnd .. | .dictReady .. |
    .marchDestructive .. | .marchPreserving .. | .engineReset .. | .chipReset .. | .moduleReset .. | .settHeartbeatExpiry .. |
    .leaseRenewal .. | .routerFault .. | .dumpCfg .. | .lockInterfaceRequest .. | .stopInterfaceRequest .. | .kSetGo .. |
    .keyUpdate .. | .configurationRequest .. | .resizableBar .. | .hifDctl .. | .priorityFlowControl .. |
    .macMergeVerification .. | .msiXVectorControl .. => false
  | _ => true

/-- The commands that may change the slots. -/
def changesDens : Instr → Bool
  | .pumpLineRequest .. | .fillResponse .. | .pumpLineResponse .. | .holdExpiry .. | .pumpTagReset .. | .seamFollowEngage .. |
    .seamFollowRelease .. | .seamTraining .. | .wellAccess .. | .refresh .. | .patrolScrub .. | .rowRepair .. | .remapReq .. |
    .rollReq .. | .rollKeyLoad .. | .rollEnd | .rebuild .. | .rebuildEnd .. | .reportMerge .. | .routeCompute |
    .atsInvalidate .. | .atsTranslation .. | .winOpen .. | .winClose .. | .bankCtl .. | .dictRead .. | .dictDescribe .. |
    .dictNext .. | .dictSnapshot .. | .persistCommit .. | .dictOwlExpiry .. | .hifDrqTail .. | .hifDrsHead .. | .empty .. |
    .dictSegment .. | .dictReassemblyTimeout .. | .mctpControl .. | .vendorDictMessage .. | .pldmFirmwareUpdate .. |
    .defaultsRestore .. | .calImport .. | .calibrationWrite .. | .seamCtl .. | .submissionDoorbell .. | .completionDoorbell .. |
    .step .. | .fenceEntry .. | .waitOwlExpiry .. | .completionRecordWrite .. | .queueCreate .. | .queueStop .. | .queueStart .. |
    .queueDiscard .. | .fenSignal .. | .fenSignalAlias .. | .fenCreate .. | .fenRef .. | .fenUnref .. | .fenExport .. |
    .aperMap .. | .aperUnmap .. | .d0Return | .slotOwner .. | .linkUp .. | .linkDown .. | .spareSwap .. | .frameReceive .. |
    .fenceFrame .. | .keyRetainExpiry .. | .pcommit .. | .linkOwlExpiry .. | .endpointId .. | .routeSet .. | .routeClear .. |
    .jobCreate .. | .jobMember .. | .fenceSend .. | .retarget .. | .logSelect .. | .custodySelect .. | .pushRelease .. |
    .linkEnable .. | .sourceOccurrence .. | .notification .. | .moderationTimeExpiry .. | .icClaim .. | .icComplete .. |
    .icSrcCfg .. | .clr .. | .icThresh .. | .domainSleep .. | .domainWake .. | .mbxData .. | .mbxAck .. | .mbxCfg .. |
    .lcDeploy .. | .lcReturn .. | .lcScrap .. | .svnCommit .. | .getMeasurements .. | .keyExchange .. | .endSession .. |
    .spdmHeartbeatLoss .. | .securedDictMessage .. | .keyProg .. | .kSetStop .. | .startInterfaceRequest .. | .meterFrame .. |
    .meterLinkLost .. | .meterPairing .. | .meterSealOpen | .periodReceipt | .unmeteredReceipt .. | .energySample .. |
    .gainCorrection .. | .droopTrip .. | .stretchDecay .. | .stepChangeSettled | .brakeEnd | .thermalLevelTick .. |
    .tripCooldown | .sagEnd | .powerOn .. | .regulatorTimeout .. | .perstDeassert | .romBoot .. | .firmwareRelease .. |
    .wellTraining .. | .cisternTraining .. | .repairMapBuild .. | .linkTrainingEnd .. | .unfenceTile .. | .repairApply .. |
    .marchDestructive .. | .marchPreserving .. | .engineReset .. | .chipReset .. | .moduleReset .. | .returnToService .. |
    .settHeartbeatExpiry .. | .leaseRenewal .. | .routerFault .. | .dumpCfg .. | .lockInterfaceRequest .. |
    .stopInterfaceRequest .. | .kSetGo .. | .keyUpdate .. | .configurationRequest .. | .resizableBar .. | .hifDctl .. |
    .priorityFlowControl .. | .macMergeVerification .. | .msiXVectorControl .. => false
  | _ => true

/-- The commands that may change the fabric. -/
def changesFabric : Instr → Bool
  | .next .. | .br .. | .jmp .. | .loop .. | .call .. | .ret .. | .halt .. | .emptyBundle .. | .throttleBundle .. | .anop .. |
    .ld .. | .st .. | .ldst .. | .lds .. | .sts .. | .pumpLineRequest .. | .fillResponse .. | .holdExpiry .. | .remapReq .. |
    .rollReq .. | .extGrant .. | .extRevoke .. | .extResize .. | .extInvalidate .. | .invalidationDone .. | .winOpen .. |
    .winClose .. | .busyResend .. | .windowOwlExpiry .. | .save .. | .restore .. | .relocate .. | .release .. | .copyOut .. |
    .denFrozen .. | .drainEnd .. | .holdAdd .. | .holdRemove .. | .bankCtl .. | .saveArea .. | .linkBudget .. | .guarantee .. |
    .dictRead .. | .dictWrite .. | .dictDescribe .. | .dictNext .. | .dictSnapshot .. | .persistCommit .. | .dictOwlExpiry .. |
    .dictSegment .. | .vendorDictMessage .. | .defaultsRestore .. | .calImport .. | .calibrationWrite .. | .seamCtl .. |
    .queueCreate .. | .queueStop .. | .queueStart .. | .queueDiscard .. | .queueDestroy .. | .fenCreate .. | .fenRef .. |
    .fenUnref .. | .fenExport .. | .ownerTeardown .. | .aperMap .. | .aperUnmap .. | .apertureAccess .. | .perstAssert .. |
    .slotOwner .. | .linkUp .. | .linkDown .. | .spareSwap .. | .frameReceive .. | .reqRead .. | .reqWrite .. | .reqRmw .. |
    .pushw .. | .rsp .. | .fenceFrame .. | .keyx .. | .keyxResend .. | .keyRetainExpiry .. | .keyend .. | .pcommit .. | .pack .. |
    .pdone .. | .pushPoll .. | .pushRetryExpiry .. | .endpointId .. | .routeSet .. | .routeClear .. | .jobCreate .. |
    .jobMember .. | .jobEnd .. | .keyInstall .. | .fenceSend .. | .pushChCreate .. | .pushStart .. | .retarget .. | .pushStop .. |
    .pushDestroy .. | .logSelect .. | .custodySelect .. | .pushRelease .. | .logClear .. | .linkEnable .. | .lcDeploy .. |
    .lcReturn .. | .lcScrap .. | .svnCommit .. | .tamperEvent .. | .securedDictMessage .. | .railFault .. | .inputLoss |
    .fenceTile .. | .unfenceTile .. | .repairApply .. | .marchDestructive .. | .marchPreserving .. | .denReset .. |
    .engineReset .. | .halfReset .. | .chipReset .. | .moduleReset .. | .drainLimitExpiry .. | .dumpCfg .. |
    .priorityFlowControl .. => true
  | _ => false

/-- The commands that may change the host port. -/
def changesHost : Instr → Bool
  | .fillResponse .. | .pumpTagReset .. | .resumeSignalSend .. | .resumeSignal .. | .resumeCountdownExpiry .. |
    .seamFollowEngage .. | .seamFollowRelease .. | .seamTraining .. | .wellAccess .. | .refresh .. | .patrolScrub .. |
    .rowRepair .. | .remapReq .. | .rollReq .. | .rollKeyLoad .. | .rollEnd | .rebuild .. | .rebuildEnd .. | .regSlot .. |
    .monWindowEnd .. | .vc0Eject .. | .reportMerge .. | .routeCompute | .extGrant .. | .extRevoke .. | .extResize .. |
    .extInvalidate .. | .invalidationDone .. | .winOpen .. | .winClose .. | .reserve .. | .start .. | .freeze .. |
    .settFreeze .. | .drainEnd .. | .holdAdd .. | .holdRemove .. | .bankCtl .. | .saveArea .. | .linkBudget .. | .guarantee .. |
    .sdiWindowEnd .. | .dictRead .. | .dictWrite .. | .dictDescribe .. | .dictNext .. | .dictSnapshot .. | .persistCommit .. |
    .dictOwlExpiry .. | .hifDrqTail .. | .hifDrsHead .. | .empty .. | .dictSegment .. | .dictReassemblyTimeout .. |
    .mctpControl .. | .vendorDictMessage .. | .pldmFirmwareUpdate .. | .defaultsRestore .. | .calImport .. |
    .calibrationWrite .. | .seamCtl .. | .linkUp .. | .linkDown .. | .spareSwap .. | .frameReceive .. | .keyRetainExpiry .. |
    .linkOwlExpiry .. | .endpointId .. | .routeSet .. | .routeClear .. | .jobCreate .. | .jobMember .. | .fenceSend .. |
    .retarget .. | .logSelect .. | .custodySelect .. | .pushRelease .. | .linkEnable .. | .sourceOccurrence .. |
    .notification .. | .moderationTimeExpiry .. | .icClaim .. | .icComplete .. | .icSrcCfg .. | .clr .. | .icThresh .. |
    .domainSleep .. | .domainWake .. | .mbxData .. | .mbxAck .. | .mbxCfg .. | .lcDeploy .. | .lcReturn .. | .lcScrap .. |
    .svnCommit .. | .getMeasurements .. | .keyExchange .. | .endSession .. | .spdmHeartbeatLoss .. | .securedDictMessage .. |
    .keyProg .. | .kSetStop .. | .startInterfaceRequest .. | .meterFrame .. | .meterLinkLost .. | .meterPairing .. |
    .meterSealOpen | .periodReceipt | .unmeteredReceipt .. | .energySample .. | .powerEval .. | .gainCorrection .. |
    .droopTrip .. | .stretchDecay .. | .stepChangeSettled | .pwrBrake .. | .brakeEnd | .thermalLevelTick .. | .tripCooldown |
    .inputSag | .sagEnd | .powerOn .. | .regulatorTimeout .. | .perstDeassert | .romBoot .. | .firmwareRelease .. |
    .wellTraining .. | .cisternTraining .. | .repairMapBuild .. | .linkTrainingEnd .. | .dictReady .. | .unfenceTile .. |
    .repairApply .. | .marchDestructive .. | .marchPreserving .. | .engineReset .. | .chipReset .. | .moduleReset .. |
    .returnToService .. | .settHeartbeatExpiry .. | .leaseRenewal .. | .routerFault .. | .dumpCfg .. | .lockInterfaceRequest .. |
    .stopInterfaceRequest .. | .kSetGo .. | .keyUpdate .. | .hifDctl .. | .priorityFlowControl .. | .macMergeVerification .. |
    .msiXVectorControl .. => false
  | _ => true

/-- The commands that may change fences, repair and resets. -/
def changesRepair : Instr → Bool
  | .pumpLineRequest .. | .fillResponse .. | .pumpLineResponse .. | .holdExpiry .. | .resumeSignalSend .. | .resumeSignal .. |
    .resumeCountdownExpiry .. | .seamFollowEngage .. | .seamFollowRelease .. | .seamTraining .. | .wellAccess .. | .refresh .. |
    .patrolScrub .. | .rowRepair .. | .remapReq .. | .rollReq .. | .rollKeyLoad .. | .rollEnd | .rebuild .. | .rebuildEnd .. |
    .regSlot .. | .monWindowEnd .. | .vc0Eject .. | .reportMerge .. | .extGrant .. | .extRevoke .. | .extResize .. |
    .extInvalidate .. | .invalidationDone .. | .atsInvalidate .. | .atsTranslation .. | .winOpen .. | .winClose .. | .reserve .. |
    .start .. | .freeze .. | .resume .. | .cmdComplete .. | .denFrozen .. | .settFreeze .. | .stepStart .. | .stepEnd .. |
    .drainEnd .. | .holdAdd .. | .holdRemove .. | .bankCtl .. | .saveArea .. | .linkBudget .. | .guarantee .. | .sdiWindowEnd .. |
    .dictRead .. | .dictWrite .. | .dictDescribe .. | .dictNext .. | .dictSnapshot .. | .dictOwlExpiry .. | .hifDrqTail .. |
    .hifDrsHead .. | .empty .. | .dictSegment .. | .dictReassemblyTimeout .. | .mctpControl .. | .vendorDictMessage .. |
    .pldmFirmwareUpdate .. | .seamCtl .. | .submissionDoorbell .. | .completionDoorbell .. | .step .. | .fenceEntry .. |
    .waitOwlExpiry .. | .completionRecordWrite .. | .queueCreate .. | .queueStop .. | .queueStart .. | .queueDiscard .. |
    .queueDestroy .. | .fenSignal .. | .fenSignalAlias .. | .fenCreate .. | .fenRef .. | .fenUnref .. | .fenExport .. |
    .ownerTeardown .. | .aperMap .. | .aperUnmap .. | .functionLevelReset | .d3hotEntry | .d0Return | .slotOwner .. | .linkUp .. |
    .linkDown .. | .spareSwap .. | .frameReceive .. | .fenceFrame .. | .keyRetainExpiry .. | .pcommit .. | .endpointId .. |
    .routeSet .. | .routeClear .. | .jobCreate .. | .jobMember .. | .fenceSend .. | .retarget .. | .logSelect .. |
    .custodySelect .. | .pushRelease .. | .linkEnable .. | .sourceOccurrence .. | .notification .. | .moderationTimeExpiry .. |
    .icClaim .. | .icComplete .. | .icSrcCfg .. | .clr .. | .icThresh .. | .domainSleep .. | .domainWake .. | .mbxData .. |
    .mbxAck .. | .mbxCfg .. | .lcDeploy .. | .lcReturn .. | .lcScrap .. | .svnCommit .. | .getMeasurements .. | .keyExchange .. |
    .endSession .. | .spdmHeartbeatLoss .. | .securedDictMessage .. | .keyProg .. | .kSetStop .. | .startInterfaceRequest .. |
    .meterFrame .. | .meterLinkLost .. | .meterPairing .. | .meterSealOpen | .periodReceipt | .unmeteredReceipt .. |
    .energySample .. | .powerEval .. | .gainCorrection .. | .droopTrip .. | .stretchDecay .. | .stepChangeSettled | .pwrBrake .. |
    .brakeEnd | .thermalLevelTick .. | .inputSag | .sagEnd | .powerOn .. | .regulatorTimeout .. | .perstDeassert |
    .firmwareRelease .. | .wellTraining .. | .cisternTraining .. | .linkTrainingEnd .. | .dumpCfg .. | .lockInterfaceRequest .. |
    .stopInterfaceRequest .. | .kSetGo .. | .keyUpdate .. | .configurationRequest .. | .resizableBar .. | .hifDctl .. |
    .priorityFlowControl .. | .macMergeVerification .. | .msiXVectorControl .. => false
  | _ => true

/-- The commands that may change the dictionary. -/
def changesDict : Instr → Bool
  | .drainCycle .. | .pumpComplete .. | .holdExpiry .. | .pumpOwlExpiry .. | .pumpTagReset .. | .relayArrival .. |
    .freezeSignal .. | .clearReport .. | .resumeSignalSend .. | .resumeSignal .. | .resumeCountdownExpiry .. |
    .streamOwlExpiry .. | .seamFollowEngage .. | .seamFollowRelease .. | .seamTraining .. | .refresh .. | .remapStart .. |
    .rollKeyLoad .. | .rebuild .. | .routeCompute | .extInvalidate .. | .reserve .. | .start .. | .freeze .. | .resume .. |
    .release .. | .cmdComplete .. | .denFrozen .. | .settFreeze .. | .stepStart .. | .stepEnd .. | .drainEnd .. |
    .sdiWindowEnd .. | .mctpControl .. | .step .. | .fenceEntry .. | .waitOwlExpiry .. | .completionRecordWrite .. |
    .fenSignal .. | .fenSignalAlias .. | .d3hotEntry | .d0Return | .fenceFrame .. | .keyRetainExpiry .. | .pcommit .. |
    .linkOwlExpiry .. | .sourceOccurrence .. | .notification .. | .moderationTimeExpiry .. | .icClaim .. | .icComplete .. |
    .icSrcCfg .. | .clr .. | .icThresh .. | .domainSleep .. | .domainWake .. | .mbxData .. | .mbxAck .. | .mbxCfg .. |
    .getMeasurements .. | .keyExchange .. | .endSession .. | .spdmHeartbeatLoss .. | .keyProg .. | .kSetStop .. |
    .startInterfaceRequest .. | .periodReceipt | .energySample .. | .gainCorrection .. | .stepChangeSettled | .brakeEnd |
    .thermalLevelTick .. | .tripCooldown | .sagEnd | .perstDeassert | .linkTrainingEnd .. | .settHeartbeatExpiry .. |
    .leaseRenewal .. | .leaseCheck .. | .routerFault .. | .lockInterfaceRequest .. | .stopInterfaceRequest .. | .kSetGo .. |
    .keyUpdate .. | .configurationRequest .. | .resizableBar .. | .parityError .. | .priorityFlowControl .. |
    .msiXVectorControl .. => false
  | _ => true

/-- The commands that may change the interrupt controller. -/
def changesInterrupts : Instr → Bool
  | .pumpLineRequest .. | .fillResponse .. | .pumpLineResponse .. | .holdExpiry .. | .pumpTagReset .. | .resumeSignalSend .. |
    .resumeSignal .. | .resumeCountdownExpiry .. | .seamFollowEngage .. | .seamFollowRelease .. | .seamTraining .. | .refresh .. |
    .rowRepair .. | .rollKeyLoad .. | .rebuild .. | .vc0Eject .. | .reportMerge .. | .routeCompute | .extInvalidate .. |
    .atsInvalidate .. | .atsTranslation .. | .reserve .. | .start .. | .freeze .. | .resume .. | .settFreeze .. | .stepStart .. |
    .stepEnd .. | .drainEnd .. | .hifDrqTail .. | .hifDrsHead .. | .empty .. | .dictReassemblyTimeout .. | .mctpControl .. |
    .submissionDoorbell .. | .completionDoorbell .. | .step .. | .fenceEntry .. | .waitOwlExpiry .. | .fenSignal .. |
    .fenSignalAlias .. | .d3hotEntry | .frameReceive .. | .fenceFrame .. | .keyRetainExpiry .. | .linkOwlExpiry .. |
    .getMeasurements .. | .keyProg .. | .kSetStop .. | .startInterfaceRequest .. | .periodReceipt | .energySample .. |
    .stretchDecay .. | .stepChangeSettled | .brakeEnd | .tripCooldown | .regulatorTimeout .. | .perstDeassert | .wellTraining .. |
    .cisternTraining .. | .linkTrainingEnd .. | .settHeartbeatExpiry .. | .routerFault .. | .lockInterfaceRequest .. |
    .stopInterfaceRequest .. | .kSetGo .. | .keyUpdate .. | .configurationRequest .. | .resizableBar .. | .hifDctl .. |
    .priorityFlowControl .. | .macMergeVerification .. => false
  | _ => true

/-- The commands that may change the mesh. -/
def changesMesh : Instr → Bool
  | .next .. | .br .. | .jmp .. | .loop .. | .call .. | .ret .. | .halt .. | .emptyBundle .. | .throttleBundle .. |
    .drainCycle .. | .anop .. | .ld .. | .st .. | .ldst .. | .lds .. | .sts .. | .copy .. | .gather .. | .scatter .. | .rmw .. |
    .segred .. | .stencil .. | .spmv .. | .embed .. | .hist .. | .compress .. | .expand .. | .convert .. | .merge .. |
    .pumpLineRequest .. | .fillResponse .. | .pumpLineResponse .. | .wellAccess .. | .patrolScrub .. | .remapReq .. |
    .remapStart .. | .remapCopyEnd .. | .cisternAccess .. | .rollReq .. | .sweepStep .. | .rebuildEnd .. | .vc0Eject .. |
    .reportMerge .. | .extGrant .. | .extRevoke .. | .extResize .. | .extInvalidate .. | .invalidationDone .. | .winOpen .. |
    .winClose .. | .busyResend .. | .windowOwlExpiry .. | .load .. | .freeze .. | .resume .. | .save .. | .restore .. |
    .relocate .. | .reshape .. | .copyOut .. | .settFreeze .. | .stepStart .. | .drainEnd .. | .scrubEnd .. | .holdAdd .. |
    .holdRemove .. | .bankCtl .. | .saveArea .. | .linkBudget .. | .guarantee .. | .dictRead .. | .dictWrite .. |
    .dictDescribe .. | .dictNext .. | .dictSnapshot .. | .persistCommit .. | .dictOwlExpiry .. | .dictSegment .. |
    .vendorDictMessage .. | .defaultsRestore .. | .calImport .. | .calibrationWrite .. | .seamCtl .. | .queueCreate .. |
    .queueStop .. | .queueStart .. | .queueDiscard .. | .queueDestroy .. | .fenCreate .. | .fenRef .. | .fenUnref .. |
    .fenExport .. | .ownerTeardown .. | .aperMap .. | .aperUnmap .. | .apertureAccess .. | .perstAssert .. | .slotOwner .. |
    .linkUp .. | .linkDown .. | .spareSwap .. | .reqRead .. | .reqWrite .. | .reqRmw .. | .pushw .. | .rsp .. | .fenceFrame .. |
    .keyx .. | .keyxResend .. | .keyend .. | .pack .. | .pdone .. | .pushPoll .. | .pushRetryExpiry .. | .endpointId .. |
    .routeSet .. | .routeClear .. | .jobCreate .. | .jobMember .. | .jobEnd .. | .keyInstall .. | .fenceSend .. |
    .pushChCreate .. | .pushStart .. | .retarget .. | .pushStop .. | .pushDestroy .. | .logSelect .. | .custodySelect .. |
    .pushRelease .. | .logClear .. | .linkEnable .. | .notification .. | .lcDeploy .. | .lcReturn .. | .lcScrap .. |
    .svnCommit .. | .tamperEvent .. | .securedDictMessage .. | .railFault .. | .inputLoss | .repairMapBuild .. | .fenceTile .. |
    .unfenceTile .. | .repairApply .. | .marchDestructive .. | .marchPreserving .. | .denReset .. | .engineReset .. |
    .halfReset .. | .chipReset .. | .moduleReset .. | .drainLimitExpiry .. | .leaseRenewal .. | .dumpCfg .. => true
  | _ => false

end Sys2Proof.Machine
end

