-- ==== Sys2Proof/Certificates/Slice0/Obligations.lean ====
section
/-! DEFINITION. Certificates/Slice0/Obligations.lean: the statements for the provers. A statement names the rules it comes from, and the
log entries of those choices of the model that its clauses rest on. -/

open Sys2Proof Sys2Proof.Machine

/-- A step runs the command at the front of the queue on the state with the rest of the queue; on an empty queue a cycle of the mesh passes,
and nothing but the mesh changes (DESIGN CHOICE, log entry 1). Every command of every state answers a next state: none stops the module.
It rests on choices of the model too: log entries 1 and 188. -/
def Obligations.StepRunsFront : Prop :=
  (∀ (s : State) (c : Instr) (rest : List Instr), step { s with pending := c :: rest } = exec c { s with pending := rest }) ∧
  (∀ s : State, s.pending = [] → step s = .next { s with mesh := s.mesh.cycle s.repair s.seam.off }) ∧
  (∀ (c : Instr) (s : State), Completes (exec c s) fun _ => True)

/-- What the spec's tables give for reset (R315, R468, R560, R578, R581, R670): elements at their defaults, groups with COUNT 1, domains with
MODE 1, memory that lists nothing, no den, no job, no session; and it is within the limits of the module (R482, R532, R599, R600). It
rests on choices of the model too: log entry 5. -/
def Obligations.ResetState : Prop :=
  (State.reset.reg 0x0110 3 = 100 ∧ State.reset.reg 0x0110 5 = 1 ∧ State.reset.reg 0x0210 0 = 3200 ∧ State.reset.reg 0x0210 1 = 3900 ∧
    State.reset.reg 0x0210 2 = 2 ∧ State.reset.reg 0x0210 3 = 26 ∧ State.reset.reg 0x0340 5 = 32 ∧ State.reset.reg 0x1100 0 = 0 ∧
    State.reset.reg 0x1100 1 = 0x88B5 ∧ State.reset.reg 0x1100 2 = 8 ∧ State.reset.reg 0x1100 3 = 64 ∧ State.reset.reg 0x1100 4 = 20 ∧
    State.reset.reg 0x1100 5 = 8) ∧
  (∀ g, g < 64 → State.reset.ic.grp g = (1, 0, 0)) ∧
  (∀ d, d < 5 → (State.reset.ic.dom d).retain = true ∧ (State.reset.ic.dom d).asleep = false) ∧
  (∀ n, State.reset.well n = {} ∧ State.reset.cis n = {} ∧ (State.reset.den n).phase = .free) ∧
  State.reset.fab.jobs = [] ∧ State.reset.trust.sessions = [] ∧ State.reset.Limits

/-- No step passes the limits of the module (R482, R532, R599, R600): BAR4 keeps a size that its capability offers, a transport has at most
four sessions, at most 64 jobs live with at most 8,192 member entries, and at most 32 fuse increments are used. -/
def Obligations.StepKeepsLimits : Prop :=
  ∀ s t : State, s.Limits → step s = .next t → t.Limits

/-- What a command leaves as it is, in the memories and the dens (R57, R224, R290, R318, R344, R384): the wells, the reservoir, the tiles with
their registers and scratchpads, the slots, the windows and the saved state change only by the commands listed for each. -/
def Obligations.FrameOfMemory : Prop :=
  ∀ (c : Instr) (s t : State), exec c s = .next t →
    (changesWells c = false → t.wells = s.wells) ∧ (changesReservoir c = false → t.cisterns = s.cisterns) ∧
    (changesTiles c = false → t.tiles = s.tiles) ∧ (changesDens c = false → t.dens = s.dens) ∧
    (changesWindows c = false → t.wins = s.wins) ∧ (changesSaves c = false → t.saves = s.saves)

/-- What a command leaves as it is, in the units of the module: no command changes the queue of those that wait (only a step takes one), and
each unit changes only by the commands listed for it. It rests on choices of the model too: log entry 1. -/
def Obligations.FrameOfUnits : Prop :=
  ∀ (c : Instr) (s t : State), exec c s = .next t → t.pending = s.pending ∧
    (changesSeam c = false → t.seam = s.seam) ∧ (changesControllers c = false → t.ctls = s.ctls) ∧
    (changesFabric c = false → t.fab = s.fab) ∧ (changesHost c = false → t.host = s.host) ∧
    (changesDict c = false → t.dict = s.dict) ∧ (changesInterrupts c = false → t.ic = s.ic) ∧
    (changesRepair c = false → t.repair = s.repair) ∧ (changesTrust c = false → t.trust = s.trust) ∧
    (changesMeter c = false → t.meter = s.meter) ∧ (changesPower c = false → t.power = s.power) ∧
    (changesChip c = false → t.chip = s.chip) ∧ (changesMesh c = false → t.mesh = s.mesh)

/-- A dictionary request that a check of R451 refuses has no effect but its count and its response (R449, R451, R462); while it does not stand
where requests are executed (R461), its command changes nothing. -/
def Obligations.RefusedRequests : Prop :=
  ∀ (c : Instr) (s t : State) (q : Req) (op : DictOp) (v : List Byte) (code : Code), asRequest c = some (q, op, v) →
    s.checkReq q op v (s.permits c) = some code → exec c s = .next t →
    t = s ∨ (t = (s.beginReq q v).reply s.dict.nextId q code [] ∧ s.answeredOnly t)

/-- The elements that are registers with a range (R315, R468, R560, R670, R687): a write outside it answers RANGE and changes nothing, one
inside it is the element's new value, committed to flash. -/
def Obligations.RangedElements : Prop :=
  ∀ r ∈ [(0x0110, 3, 10, 10000), (0x0110, 5, 0, 1), (0x0200, 1, 0, 7), (0x0210, 2, 1, 10), (0x0210, 3, 8, 26), (0x0340, 5, 8, 4096),
      (0x1100, 2, 1, 64), (0x1100, 3, 1, 384), (0x1100, 4, 5, 10000), (0x1100, 5, 1, 64), (0x2300, 1, 10, 10000),
      (0x3000, 0, 100, 10000000), (0x3000, 1, 10, 1000000), (0x3000, 2, 10, 100000), (0x3000, 3, 1, 1000), (0x3000, 4, 2, 100), (0x3000, 5, 2, 20)],
    ∀ (s : State) (id : Nat) (v : List Byte),
      (leNat v < r.2.2.1 ∨ r.2.2.2 < leNat v → writeElem id r.1 r.2.1 v s = (.now kRange [], s)) ∧
      (r.2.2.1 ≤ leNat v → leNat v ≤ r.2.2.2 → (writeElem id r.1 r.2.1 v s).2.reg r.1 r.2.1 = leNat v ∧
        ∀ ix el, ix < 0x10000 → el < 256 → (ix, el) ≠ (r.1, r.2.1) → (writeElem id r.1 r.2.1 v s).2.reg ix el = s.reg ix el)

/-- A well line's memory (R219, R224, R225): after a write its bytes are those written, every other byte of every well and of the rest of
memory is as before, and a read changes no byte. -/
def Obligations.WellMemory : Prop :=
  ∀ (s t : State) (a : BitVec 41) (who : Agent) (n line : Nat), n = a.toNat / 2 ^ 37 % 16 → line = a.toNat % 2 ^ 37 / 64 →
    (∀ bad, exec (.wellAccess a .read who bad) s = .next t →
      (∀ m b, kget 0 (t.well m).data b = kget 0 (s.well m).data b) ∧ t.tiles = s.tiles ∧ t.cisterns = s.cisterns) ∧
    (∀ bad off bs, off + bs.length ≤ 64 → exec (.wellAccess a (.write off bs) who bad) s = .next t →
      (∀ m b, m ≠ n ∨ b < 64 * line + off ∨ 64 * line + off + bs.length ≤ b →
        kget 0 (t.well m).data b = kget 0 (s.well m).data b) ∧ t.tiles = s.tiles ∧ t.cisterns = s.cisterns) ∧
    (∀ off bs, off + bs.length ≤ 64 → s.reg (0x300 + n) 0 = 1 → ¬ (s.well n).lost.contains (line / 2 ^ 22) →
      kget 0 (s.well n).bad line = 0 → Completes (exec (.wellAccess a (.write off bs) who 0) s) fun r =>
        ∀ i (h : i < bs.length), kget 0 (r.well n).data (64 * line + off + i) = bs[i])

/-- A reservoir line's memory (R283, R290): after a write that no page work precedes, the line reads as what was there with the bytes written,
and every other line of the reservoir as before. -/
def Obligations.ReservoirMemory : Prop :=
  ∀ (s : State) (a : BitVec 42) (who : Agent) (c line : Nat) (l : List Byte) (k : Access), c = a.toNat / 2 ^ 37 % 32 →
    line = a.toNat % 2 ^ 37 / 64 → 64 * line < cisBytes → s.reg 0x340 8 ≠ 1 → s.reg (0x320 + c) 0 = 1 →
    (((s.cis c).fenced ++ (s.cis c).rebuilding ++ (s.cis c).retired).any fun r => r.start ≤ 64 * line && 64 * line < r.start + r.len) =
      false → kget false (s.cis c).corrupt line = false → (s.cis c).new = none → kget 0 (s.cis c).minor line < 127 → accessFits k →
    accessLine k ((s.cis c).lineBytes line) = some l → l.length = 64 → Completes (exec (.cisternAccess a k who {}) s) fun r =>
      (r.cis c).lineBytes line = l ∧ (∀ x, x ≠ line → (r.cis c).lineBytes x = (s.cis c).lineBytes x) ∧
      (∀ d, d ≠ c → r.cis d = s.cis d) ∧ r.wells = s.wells ∧ r.tiles = s.tiles

/-- What the scratchpad keeps (R57, R130): once a store of bytes under a mask is in it, each byte that the mask lets through is the one
stored, and every other byte of the scratchpad is as before. -/
def Obligations.ScratchpadBytes : Prop :=
  ∀ (m : KMap Byte) (a mask : Nat) (bs : List Byte),
    (∀ i (h : i < bs.length), mask.testBit i → kget 0 (spadPut m a mask bs) (a + i) = bs[i]) ∧
    (∀ i, i < bs.length → mask.testBit i = false → kget 0 (spadPut m a mask bs) (a + i) = kget 0 m (a + i)) ∧
    (∀ b, b < a ∨ a + bs.length ≤ b → kget 0 (spadPut m a mask bs) b = kget 0 m b) ∧
    (kcanon 0 m = true → kcanon 0 (spadPut m a mask bs) = true)

/-- The bundles whose CTL continues or leaves the run of addresses (R106, R107, R111, R113, R116): with no fault and nothing waited for, `x`
is the tile before the bundle, `b` the bundle, and `u` the state that its slots see. Every one advances the bundle number by one and
records its address. It rests on choices of the model too: log entry 148. -/
def Obligations.StreamControl : Prop :=
  ∀ (s u : State) (t : TileIx) (slot : Nat) (x : Tile) (b : Bundle), x = s.tile t.val → b = x.fetch → x.idle = 0 →
    throttled (s.den slot) t.val x = false → s.clean u t slot .stored → b.ctl < 7 →
    (b.ctl = 0 → Completes (exec (.next t {}) s) fun r =>
      (r.tile t.val).bundle = x.bundle + 1 ∧ (r.tile t.val).last = x.addr ∧ (r.tile t.val).idle = b.arg ∧
      ((∀ l, x.loops.head? = some l → l.last ≠ x.addr) → (r.tile t.val).addr = x.addr + 1 ∧ (r.tile t.val).loops = x.loops) ∧
      (∀ l ls, x.loops = l :: ls → l.last = x.addr →
        (1 < l.left → (r.tile t.val).addr = l.first ∧ (r.tile t.val).loops = { l with left := l.left - 1 } :: ls) ∧
        (l.left ≤ 1 → (r.tile t.val).addr = x.addr + 1 ∧ (r.tile t.val).loops = ls))) ∧
    (b.ctl = 1 → Completes (exec (.br t {}) s) fun r =>
      (r.tile t.val).bundle = x.bundle + 1 ∧ (r.tile t.val).last = x.addr ∧
      (((u.tile t.val).preg (12 + b.arg % 4)).testBit 0 = b.arg.testBit 2 →
        (r.tile t.val).addr = b.target ∧ (r.tile t.val).idle = 1 ∧
        (r.tile t.val).loops = x.loops.filter fun l => l.first ≤ b.target && b.target ≤ l.last) ∧
      (((u.tile t.val).preg (12 + b.arg % 4)).testBit 0 ≠ b.arg.testBit 2 →
        (r.tile t.val).addr = x.addr + 1 ∧ (r.tile t.val).idle = 0 ∧ (r.tile t.val).loops = x.loops)) ∧
    (b.ctl = 2 → Completes (exec (.jmp t {}) s) fun r =>
      (r.tile t.val).bundle = x.bundle + 1 ∧ (r.tile t.val).last = x.addr ∧ (r.tile t.val).addr = b.target ∧
      (r.tile t.val).idle = 1 ∧ (r.tile t.val).loops = x.loops.filter fun l => l.first ≤ b.target && b.target ≤ l.last) ∧
    (b.ctl = 3 → Completes (exec (.loop t {}) s) fun r =>
      (r.tile t.val).bundle = x.bundle + 1 ∧ (r.tile t.val).last = x.addr ∧ (r.tile t.val).addr = x.addr + 1 ∧
      (r.tile t.val).loops = { first := x.addr + 1, last := b.target, left := b.times } :: x.loops) ∧
    (b.ctl = 4 → Completes (exec (.call t {}) s) fun r =>
      (r.tile t.val).bundle = x.bundle + 1 ∧ (r.tile t.val).last = x.addr ∧ (r.tile t.val).addr = b.target ∧
      (r.tile t.val).idle = 1 ∧ (r.tile t.val).calls = (x.addr + 1) :: x.calls) ∧
    (b.ctl = 5 → ∀ c cs, x.calls = c :: cs → Completes (exec (.ret t {}) s) fun r =>
      (r.tile t.val).bundle = x.bundle + 1 ∧ (r.tile t.val).last = x.addr ∧ (r.tile t.val).addr = c ∧
      (r.tile t.val).idle = 1 ∧ (r.tile t.val).calls = cs) ∧
    (b.ctl = 6 → Completes (exec (.halt t {}) s) fun r =>
      (r.tile t.val).bundle = x.bundle + 1 ∧ (r.tile t.val).last = x.addr ∧
      ((r.tile t.val).phase = .draining ∨ (r.tile t.val).phase = .stopped) ∧ (r.den slot).nextAddr = x.addr + 1 ∧
      (r.den slot).wave.halt = some x.bundle)

/-- The cycles of a tile that issue no stored bundle (R53, R103, R107, R116, R658): an empty bundle of an idle run, a throttle bundle, a drain
cycle, and the landing of what is due. `landed x y` says what lands: each due result of the fixed-latency pipelines stands in its
register, under its mask, and each due matrix result in its block; the others come one bundle (`n` = 1) nearer. It rests on choices of the
model too: log entries 148 and 189. -/
def Obligations.StreamCycles : Prop :=
  let bits (y : Tile) : Reg → Nat := fun
    | .s i => y.sreg i
    | .a i => y.areg i
    | .p i => y.preg i
    | .v i => y.vreg i
  let width : Reg → Nat := fun
    | .v _ => 512
    | _ => 64
  let landed (n : Nat) (x y : Tile) : Prop :=
    (∀ l ∈ x.landings, l.left = 0 → l.vote = none → ∀ j < width l.dest,
      (bits y l.dest).testBit j = if l.mask.getLsbD j then l.val.getLsbD j else (bits x l.dest).testBit j) ∧
    (∀ m ∈ x.mats, m.left = 0 → m.superseded = false →
      (kget {} y.acc m.td).cells = (landMatrix m (kget {} x.acc m.td).cells).cells) ∧
    y.landings = (x.landings.filter (·.left != 0)).map (fun l => { l with left := l.left - n }) ∧
    y.mats = (x.mats.filter (·.left != 0)).map (fun m => { m with left := m.left - n })
  (∀ (s u : State) (t : TileIx) (slot : Nat) (x : Tile), x = s.tile t.val → x.opened = false → x.idle ≠ 0 →
    throttled (s.den slot) t.val x = false → s.clean u t slot .empty →
    Completes (exec (.emptyBundle t {}) s) fun r => landed 1 x (r.tile t.val) ∧ (r.tile t.val).bundle = x.bundle + 1 ∧
      (r.tile t.val).opened = false ∧ (r.tile t.val).idle = x.idle - 1 ∧ (r.tile t.val).addr = x.addr ∧
      (r.tile t.val).last = x.last ∧ (r.tile t.val).spad = x.spad) ∧
  (∀ (s u : State) (t : TileIx) (slot : Nat) (x : Tile), x = s.tile t.val → x.opened = false →
    throttled (s.den slot) t.val x = true → s.clean u t slot .throttle →
    Completes (exec (.throttleBundle t {}) s) fun r => landed 1 x (r.tile t.val) ∧ (r.tile t.val).bundle = x.bundle + 1 ∧
      (r.tile t.val).opened = false ∧ (r.tile t.val).idle = x.idle ∧ (r.tile t.val).addr = x.addr ∧
      (r.tile t.val).last = x.last ∧ (r.tile t.val).spad = x.spad) ∧
  (∀ (s : State) (t : TileIx) (slot : Nat) (x : Tile), s.slotOf t.val = some slot → x = s.tile t.val → x.phase = .draining →
    x.frozen = none → x.fenced = false → votesIn (s.den slot) x → clashes x [] = false →
    Completes (exec (.drainCycle t) s) fun r => landed 1 x (r.tile t.val) ∧ (r.tile t.val).bundle = x.bundle ∧
      (r.tile t.val).addr = x.addr ∧ (r.tile t.val).pump.tags = x.pump.tags ∧ r.seam.fifos = s.seam.fifos ∧
      (r.tile t.val).drained = x.drained + 1 ∧
      ((r.tile t.val).phase = .stopped ↔ (r.tile t.val).landings = [] ∧ (r.tile t.val).mats = []) ∧
      ((r.tile t.val).phase = .stopped → (r.tile t.val).loops = [] ∧ (r.tile t.val).calls = [])) ∧
  (∀ (s u : State) (t : TileIx) (slot : Nat) (x : Tile), x = s.tile t.val → x.opened = false →
    s.opens t slot (x.kindNow (s.den slot) t.val) = some u →
    (x.landings.any fun l => l.left == 0) || (x.mats.any fun m => m.left == 0) || !(heldResults x (atHalt (s.den slot) t.val x)).isEmpty →
    Completes (exec (.fixedResultLand t) s) fun r => landed 0 x (r.tile t.val) ∧
      (∀ g ∈ heldResults x (atHalt (s.den slot) t.val x), bits (r.tile t.val) g.1 = g.2.toNat % 2 ^ width g.1) ∧
      (r.tile t.val).opened ∧ (r.tile t.val).bundle = x.bundle ∧ (r.tile t.val).addr = x.addr ∧ (r.tile t.val).idle = x.idle)

/-- The M slot (R119, R123, R164): an operation whose fields are legal, with the unit free, goes in flight and sets its block's mode; MZERO
and MMAZ supersede the operations before them. It rests on choices of the model too: log entries 148, 151 and 189. -/
def Obligations.MatrixSlot : Prop :=
  (∀ (s u : State) (t : TileIx) (slot : Nat) (f : MFields), s.ready u t slot → MOp.mnop.bad f = false → exec (.mnop t f) s = .next u) ∧
  (∀ (s u : State) (t : TileIx) (slot : Nat) (f : MFields) (m : MatFmt), s.ready u t slot → MOp.mma.bad f = false →
    (u.tile t.val).matBusy = 0 → matFmt f.fmt.toNat = some m →
    (kget {} (u.tile t.val).acc f.td.toNat).mode = .zero ∨ (kget {} (u.tile t.val).acc f.td.toNat).mode = m.mode →
    exec (.mma t f) s = .next (u.modTile t.val fun y =>
      { y with acc := kput {} y.acc f.td.toNat { kget {} y.acc f.td.toNat with mode := m.mode },
               mats := y.mats ++ [MOp.mma.inFlight f (u.snap t slot)], matBusy := matOcc f.fmt.toNat f.tgt.toNat })) ∧
  (∀ (s u : State) (t : TileIx) (slot : Nat) (f : MFields) (m : MatFmt), s.ready u t slot → MOp.mmaz.bad f = false →
    (u.tile t.val).matBusy = 0 → matFmt f.fmt.toNat = some m →
    exec (.mmaz t f) s = .next (u.modTile t.val fun y =>
      { y with acc := kput {} y.acc f.td.toNat { kget {} y.acc f.td.toNat with mode := m.mode },
               mats := (y.mats.map fun o => if o.td = f.td.toNat then { o with superseded := true } else o) ++
                 [MOp.mmaz.inFlight f (u.snap t slot)],
               matBusy := matOcc f.fmt.toNat f.tgt.toNat })) ∧
  (∀ (s u : State) (t : TileIx) (slot : Nat) (f : MFields), s.ready u t slot → MOp.mzero.bad f = false → (u.tile t.val).matBusy = 0 →
    exec (.mzero t f) s = .next (u.modTile t.val fun y =>
      { y with acc := kput {} y.acc f.td.toNat { kget {} y.acc f.td.toNat with mode := .zero },
               mats := (y.mats.map fun o => if o.td = f.td.toNat then { o with superseded := true } else o) ++
                 [{ left := 1, td := f.td.toNat, kind := .mzero }],
               matBusy := 1 })) ∧
  (∀ (s u : State) (t : TileIx) (slot : Nat) (f : MFields), s.ready u t slot → MOp.mrd.bad f = false →
    exec (.mrd t f) s = .next (u.inFlight t [mrdLanding f (u.snap t slot)]))

/-- The floating-point and sign operations of the V slot (R127, R178, R179, R181): the elements of the result, the flags they raise, and the
bundle at which they land. `y` is the element type. It rests on choices of the model too: log entries 148 and 149. -/
def Obligations.VectorFloat : Prop :=
  ∀ (s u : State) (t : TileIx) (slot : Nat) (f : VFields) (y : ETy) (x : Snap) (r : Rnd), s.ready u t slot → (u.tile t.val).vecBusy = 0 →
    y = ETy.ofField f.ty.toNat → x = u.snap t slot → r = Rnd.ofField f.rnd.toNat →
    (VOp.vadd.bad f = false → exec (.vadd t f) s = .next (u.inFlight t [x.vResult f 4 y.bits
      (x.elements f (onParts y fun m a b _ => m.op2 r (fAdd r) a b))])) ∧
    (VOp.vsub.bad f = false → exec (.vsub t f) s = .next (u.inFlight t [x.vResult f 4 y.bits
      (x.elements f (onParts y fun m a b _ => m.op2 r (fun u v => fAdd r u v.neg) a b))])) ∧
    (VOp.vmul.bad f = false → exec (.vmul t f) s = .next (u.inFlight t [x.vResult f 4 y.bits
      (x.elements f (onParts y fun m a b _ => m.op2 r fMul a b))])) ∧
    (VOp.vfma.bad f = false → exec (.vfma t f) s = .next (u.inFlight t [x.vResult f 4 y.bits
      (x.elements f (onParts y fun m a b c => m.fma r false false a b c))])) ∧
    (VOp.vfms.bad f = false → exec (.vfms t f) s = .next (u.inFlight t [x.vResult f 4 y.bits
      (x.elements f (onParts y fun m a b c => m.fma r false true a b c))])) ∧
    (VOp.vfnma.bad f = false → exec (.vfnma t f) s = .next (u.inFlight t [x.vResult f 4 y.bits
      (x.elements f (onParts y fun m a b c => m.fma r true false a b c))])) ∧
    (VOp.vneg.bad f = false → exec (.vneg t f) s = .next (u.inFlight t [x.vResult f 2 y.bits
      (x.elements f (onParts y fun m a _ _ => (m.absNeg true a, {})))])) ∧
    (VOp.vrcp.bad f = false → exec (.vrcp t f) s = .next (u.inFlight t [x.vResult f 6 y.bits
      (x.elements f (onParts y fun m a _ _ => m.rcp a))])) ∧
    (VOp.vrsq.bad f = false → exec (.vrsq t f) s = .next (u.inFlight t [x.vResult f 6 y.bits
      (x.elements f (onParts y fun m a _ _ => m.rsq a))])) ∧
    (VOp.vmin.bad f = false → exec (.vmin t f) s = .next (u.inFlight t [x.vResult f 2 y.bits
      (x.elements f fun a b c => if y.fmt.isSome then onParts y (fun m a b _ => m.minMax false a b) a b c
        else (if sextNat y.bits a ≤ sextNat y.bits b then a else b, {}))])) ∧
    (VOp.vmax.bad f = false → exec (.vmax t f) s = .next (u.inFlight t [x.vResult f 2 y.bits
      (x.elements f fun a b c => if y.fmt.isSome then onParts y (fun m a b _ => m.minMax true a b) a b c
        else (if sextNat y.bits a ≥ sextNat y.bits b then a else b, {}))])) ∧
    (VOp.vabs.bad f = false → exec (.vabs t f) s = .next (u.inFlight t [x.vResult f 2 y.bits
      (x.elements f fun a b c => if y.fmt.isSome then onParts y (fun m a _ _ => (m.absNeg false a, {})) a b c
        else (wrapInt y.bits (sextNat y.bits a).natAbs, {}))]))

/-- The vector comparisons (R180): one bit for every byte of each element, in a predicate register two bundles later; quiet, on numbers or on
signed integers. It rests on choices of the model too: log entry 148. -/
def Obligations.VectorCompare : Prop :=
  ∀ (s u : State) (t : TileIx) (slot : Nat) (f : VFields) (y : ETy) (x : Snap) (m : List Bool), s.ready u t slot →
    (u.tile t.val).vecBusy = 0 → y = ETy.ofField f.ty.toNat → x = u.snap t slot → m = predMask y.bits (512 / y.bits) (x.pred f) →
    let cmp (k : FCmp) (int : Int → Int → Bool) (a b : Nat) : Bool × FFlags :=
      match y.fmt with
      | some w => w.cmp k a b
      | none => (int (sextNat y.bits a) (sextNat y.bits b), {})
    let bits (g : Nat → Nat → Bool × FFlags) : Landing :=
      let es := (List.range (512 / y.bits)).map fun i =>
        g ((x.vector y.bits f.s1.toNat).getD i 0) ((x.vector y.bits f.s2.toNat).getD i 0)
      { left := 2, dest := .p f.vd.toNat, val := BitVec.ofNat 512 (maskBits (y.bits / 8) (es.map (·.1))),
        mask := BitVec.ofNat 512 (maskBits (y.bits / 8) m), vflags := flagsOf m (es.map (·.2)) }
    (VOp.vcmpeq.bad f = false → exec (.vcmpeq t f) s = .next (u.inFlight t [bits (cmp .eq fun a b => a == b)])) ∧
    (VOp.vcmplt.bad f = false → exec (.vcmplt t f) s = .next (u.inFlight t [bits (cmp .lt fun a b => a < b)])) ∧
    (VOp.vcmple.bad f = false → exec (.vcmple t f) s = .next (u.inFlight t [bits (cmp .le fun a b => a ≤ b)]))

/-- Conversions, selections, moves, sums and complex products of the V slot (R127, R182, R183, R184). VCMUL and VCFMA hold the vector unit for
two bundles. It rests on choices of the model too: log entries 148 and 203. -/
def Obligations.VectorElements : Prop :=
  ∀ (s u : State) (t : TileIx) (slot : Nat) (f : VFields) (y : ETy) (x : Snap) (r : Rnd), s.ready u t slot → (u.tile t.val).vecBusy = 0 →
    y = ETy.ofField f.ty.toNat → x = u.snap t slot → r = Rnd.ofField f.rnd.toNat →
    let a := x.vector y.bits f.s1.toNat
    let b := x.vector y.bits f.s2.toNat
    let n := 512 / y.bits
    (VOp.vnop.bad f = false → exec (.vnop t f) s = .next (u.inFlight t [])) ∧
    (VOp.vcvt.bad f = false → ∀ z, z = ETy.ofField (f.s3.toNat % 8) →
      exec (.vcvt t f) s = .next (u.inFlight t [x.vResult f 3 z.bits ((List.range (512 / z.bits)).map fun i =>
        if i < n then convertElem y z r (a.getD i 0) else (0, {}))])) ∧
    (VOp.vsel.bad f = false → exec (.vsel t f) s = .next (u.inFlight t [x.vResult f 1 y.bits ((List.range n).map fun i =>
      (if (x.tile.preg (f.s3.toNat % 16)).testBit (y.bits / 8 * i) then a.getD i 0 else b.getD i 0, {}))])) ∧
    (VOp.vbcast.bad f = false → exec (.vbcast t f) s = .next (u.inFlight t [x.vResult f 2 y.bits
      (List.replicate n (a.getD f.s2.toNat 0, {}))])) ∧
    (VOp.vperm.bad f = false → exec (.vperm t f) s = .next (u.inFlight t [x.vResult f 2 y.bits
      (b.map fun i => (a.getD (i % n) 0, {}))])) ∧
    (VOp.vredsum.bad f = false → exec (.vredsum t f) s = .next (u.inFlight t [x.vResult f 8 y.bits ((List.range n).map fun i =>
      if i = 0 then ((sumTree y r (Nat.log2 n) a).1.headD 0, (sumTree y r (Nat.log2 n) a).2) else (0, {}))])) ∧
    (VOp.vconj.bad f = false → ∀ m, y.fmt = some m →
      exec (.vconj t f) s = .next (u.inFlight t [x.vResult f 1 y.bits (x.elements f fun a _ _ => (complexConj m y.partBits a, {}))])) ∧
    (VOp.vcmul.bad f = false → ∀ m, y.fmt = some m →
      exec (.vcmul t f) s = .next (u.modTile t.val fun z => { z with vecBusy := 2, landings := z.landings ++
        [x.vResult f 6 y.bits (x.elements f fun a b _ => complexMul m r y.partBits a b none)] })) ∧
    (VOp.vcfma.bad f = false → ∀ m, y.fmt = some m →
      exec (.vcfma t f) s = .next (u.modTile t.val fun z => { z with vecBusy := 2, landings := z.landings ++
        [x.vResult f 6 y.bits (x.elements f fun a b c => complexMul m r y.partBits a b (some c))] }))

/-- The integer and logic operations of the V slot, element by element (R127, R185): `e i` is element `i` of what lands, `a i` and `b i` those
of the operands. Sums, differences and products wrap, shift counts are taken modulo the width, VSRA keeps the sign. It rests on choices of
the model too: log entry 148. -/
def Obligations.VectorInteger : Prop :=
  ∀ (s u : State) (t : TileIx) (slot : Nat) (f : VFields) (x : Snap) (w : Nat), s.ready u t slot → (u.tile t.val).vecBusy = 0 →
    x = u.snap t slot → w = (ETy.ofField f.ty.toNat).bits →
    let a (i : Nat) : Nat := (x.vector w f.s1.toNat).getD i 0
    let b (i : Nat) : Nat := (x.vector w f.s2.toNat).getD i 0
    let lands (c : Instr) (left : Nat) (g : Nat → Nat → Nat) : Prop :=
      ∃ l : Landing, exec c s = .next (u.inFlight t [l]) ∧ l.left = left ∧ l.dest = .v f.vd.toNat ∧ l.vflags = {} ∧
        l.mask = BitVec.ofNat 512 (maskBits w (predMask w (512 / w) (x.pred f))) ∧ ∀ i < 512 / w, bitsOf l.val.toNat (w * i) w = g (a i) (b i)
    (VOp.viadd.bad f = false → lands (.viadd t f) 1 fun a b => (a + b) % 2 ^ w) ∧
    (VOp.visub.bad f = false → lands (.visub t f) 1 fun a b => (a + (2 ^ w - b)) % 2 ^ w) ∧
    (VOp.vimul.bad f = false → lands (.vimul t f) 3 fun a b => a * b % 2 ^ w) ∧
    (VOp.vand.bad f = false → lands (.vand t f) 1 fun a b => a &&& b) ∧
    (VOp.vor.bad f = false → lands (.vor t f) 1 fun a b => a ||| b) ∧
    (VOp.vxor.bad f = false → lands (.vxor t f) 1 fun a b => a ^^^ b) ∧
    (VOp.vshl.bad f = false → lands (.vshl t f) 1 fun a b => a * 2 ^ (b % w) % 2 ^ w) ∧
    (VOp.vshr.bad f = false → lands (.vshr t f) 1 fun a b => a / 2 ^ (b % w)) ∧
    (VOp.vsra.bad f = false → lands (.vsra t f) 1 fun a b => wrapInt w (sextNat w a / (2 ^ (b % w) : Nat)))

/-- The scalar operations of the V slot (R108, R127, R128, R185): what lands, and when, in the S or A register that VD names, under bit 0 of
the governing predicate; SMOVS replaces one element of a V register; and those that give a predicate from scalars or predicates, all 64
bits one bundle later. Sums, differences and products wrap, shift counts are taken modulo 64, the immediate of 14 bits is sign-extended.
(An S or A register named by SMOVV has its one element; another element of it is a free value, the model's choice.) It rests on choices of
the model too: log entries 148, 174 and 175. -/
def Obligations.ScalarSlot : Prop :=
  ∀ (s u : State) (t : TileIx) (slot : Nat) (f : VFields) (x : Snap) (a b p q imm : Nat) (d : Reg), s.ready u t slot →
    x = u.snap t slot → a = x.scalar f.s1.toNat → b = x.scalar f.s2.toNat → p = x.tile.preg (f.s1.toNat % 16) →
    q = x.tile.preg (f.s2.toNat % 16) → imm = f.s2.toNat * 2 ^ 7 + f.s3.toNat →
    d = (if f.vd.toNat < 0x20 then .s f.vd.toNat else .a (f.vd.toNat - 0x20)) →
    let lands (c : Instr) (left : Nat) (r : Reg) (v : Nat) : Prop :=
      ∃ l : Landing, exec c s = .next (u.inFlight t [l]) ∧ l.left = left ∧ l.dest = r ∧ l.vote = none ∧ l.vflags = {} ∧ l.mflags = {} ∧
        l.val.toNat = v ∧ l.mask = (if x.pred f % 2 = 1 then BitVec.allOnes 512 else 0)
    let gives (c : Instr) (v : Nat) : Prop := lands c 1 (.p f.vd.toNat) v
    (VOp.sadd.bad f = false → lands (.sadd t f) 1 d ((a + b) % 2 ^ 64)) ∧
    (VOp.ssub.bad f = false → lands (.ssub t f) 1 d ((a + (2 ^ 64 - b)) % 2 ^ 64)) ∧
    (VOp.smul.bad f = false → lands (.smul t f) 3 d (a * b % 2 ^ 64)) ∧
    (VOp.sand.bad f = false → lands (.sand t f) 1 d (a &&& b)) ∧
    (VOp.sor.bad f = false → lands (.sor t f) 1 d (a ||| b)) ∧
    (VOp.sxor.bad f = false → lands (.sxor t f) 1 d (a ^^^ b)) ∧
    (VOp.sshl.bad f = false → lands (.sshl t f) 1 d (a * 2 ^ (b % 64) % 2 ^ 64)) ∧
    (VOp.sshr.bad f = false → lands (.sshr t f) 1 d (a / 2 ^ (b % 64))) ∧
    (VOp.saddi.bad f = false → lands (.saddi t f) 1 d ((a + if imm < 2 ^ 13 then imm else imm + (2 ^ 64 - 2 ^ 14)) % 2 ^ 64)) ∧
    (VOp.sli.bad f = false → lands (.sli t f) 1 d (if imm < 2 ^ 13 then imm else imm + (2 ^ 64 - 2 ^ 14))) ∧
    (VOp.slui.bad f = false → lands (.slui t f) 1 d ((x.old d * 2 ^ 14 % 2 ^ 64) ||| imm)) ∧
    (VOp.smovv.bad f = false →
      (f.s1.toNat < 0x40 → lands (.smovv t f) 2 d (x.tile.vreg f.s1.toNat / 2 ^ (64 * (f.s2.toNat % 8)) % 2 ^ 64)) ∧
      (0x40 ≤ f.s1.toNat → f.s1.toNat < 0x50 ∨ f.s2.toNat % 8 = 0 → lands (.smovv t f) 2 d a) ∧
      (0x50 ≤ f.s1.toNat → f.s2.toNat % 8 ≠ 0 → ∃ v, lands (.smovv t f) 2 d v)) ∧
    (VOp.smovs.bad f = false → (u.tile t.val).vecBusy = 0 →
      ∃ l : Landing, exec (.smovs t f) s = .next (u.inFlight t [l]) ∧ l.left = 2 ∧ l.dest = .v f.vd.toNat ∧ l.vflags = {} ∧
        l.mask = BitVec.ofNat 512 (maskBits 64 (predMask 64 8 (x.pred f))) ∧
        ∀ i < 8, bitsOf l.val.toNat (64 * i) 64 = if i = f.s2.toNat % 8 then a else bitsOf (x.tile.vreg f.vd.toNat) (64 * i) 64) ∧
    (VOp.sstat.bad f = false →
      (f.s1.toNat = 0 → lands (.sstat t f) 1 d (x.tile.bundle % 2 ^ 48)) ∧
      (f.s1.toNat = 1 → lands (.sstat t f) 1 d (colOf t.val + 256 * rowOf t.val)) ∧
      (f.s1.toNat = 2 → lands (.sstat t f) 1 d (x.den.rect.skew t.val)) ∧
      (f.s1.toNat = 3 → x.den.rect.span < 2 ^ 64 → lands (.sstat t f) 1 d x.den.rect.span) ∧
      (f.s1.toNat = 4 → lands (.sstat t f) 1 d x.tile.mstat.toNat) ∧ (f.s1.toNat = 5 → lands (.sstat t f) 1 d (x.den.wave.z % 2 ^ 64))) ∧
    (VOp.scmpeq.bad f = false → gives (.scmpeq t f) (if a = b then 2 ^ 64 - 1 else 0)) ∧
    (VOp.scmplt.bad f = false → gives (.scmplt t f) (if sextNat 64 a < sextNat 64 b then 2 ^ 64 - 1 else 0)) ∧
    (VOp.pset.bad f = false → gives (.pset t f) (if f.s1.toNat % 2 = 1 then 2 ^ 64 - 1 else 0)) ∧
    (VOp.pand.bad f = false → gives (.pand t f) (p &&& q)) ∧
    (VOp.por.bad f = false → gives (.por t f) (p ||| q)) ∧
    (VOp.pnot.bad f = false → gives (.pnot t f) (2 ^ 64 - 1 - p))

/-- The A slot (R58, R60, R130, R131): a load lands three bundles later and reads through the store buffer; a store takes effect at once, but
for that of an LDST whose two addresses meet in one half of the banks, which waits in the store buffer; post-increments land one bundle
later; BANKCTL changes the masked banks. Bytes of a store that a pump operation in flight uses get no defined value (R256). It rests on
choices of the model too: log entries 148, 152 and 165. -/
def Obligations.AddressSlot : Prop :=
  ∀ (s u : State) (t : TileIx) (slot : Nat) (f : AFields) (x : Snap) (la sa : Nat), s.ready u t slot → x = u.snap t slot →
    la = x.tile.areg f.la.toNat % 2 ^ 19 → sa = x.tile.areg f.sa.toNat % 2 ^ 19 →
    let load (n : Nat) (r : Reg) : Landing :=
      { left := 3, dest := r, val := BitVec.ofNat 512 (leNat (x.tile.spadRead la n)), mask := BitVec.allOnes 512 }
    let mask := match f.pred with | some p => x.tile.preg p.toNat | none => 2 ^ 64 - 1
    let store (z : State) (n v : Nat) : State :=
      (z.modTile t.val fun y => { y.flush with spad := spadPut y.flush.spad sa mask (toLE n v) }).storeClash t.val sa n mask
    (aFault .anop f x = none → exec (.anop t f) s = .next (u.inFlight t [])) ∧
    (aFault .ld f x = none → exec (.ld t f .none) s =
      .next (u.inFlight t (load 64 (.v f.lv.toNat) :: incLanding x f.la f.linc.toInt 64))) ∧
    (aFault .lds f x = none → exec (.lds t f .none) s =
      .next (u.inFlight t (load 8 (.s f.lv.toNat) :: incLanding x f.la f.linc.toInt 8))) ∧
    (aFault .st f x = none → exec (.st t f .none) s =
      .next (store (u.inFlight t (incLanding x f.sa f.sinc.toInt 64)) 64 (x.tile.vreg f.sv.toNat))) ∧
    (aFault .sts f x = none → exec (.sts t f .none) s =
      .next (store (u.inFlight t (incLanding x f.sa f.sinc.toInt 8)) 8 (x.tile.sreg f.sv.toNat))) ∧
    (aFault .ldst f x = none →
      let z := u.inFlight t (load 64 (.v f.lv.toNat) :: (incLanding x f.la f.linc.toInt 64 ++ incLanding x f.sa f.sinc.toInt 64))
      exec (.ldst t f .none) s = .next (if la / 64 % 2 = sa / 64 % 2
        then (z.modTile t.val fun y =>
          { y.flush with storeBuf := some (sa, toLE 64 (x.tile.vreg f.sv.toNat), BitVec.ofNat 64 mask) }).storeClash t.val sa 64 mask
        else store z 64 (x.tile.vreg f.sv.toNat))) ∧
    (∀ (banks : BitVec 16) (st : BitVec 2), st ≠ 3 → exec (.bankctl t banks st) s = .next (u.modTile t.val fun y =>
      (List.range 16).foldl (fun y b => if banks.toNat.testBit b then y.setBank b st.toNat else y) y))

/-- The X slot (R90, R132 to R136, R190): a bundle's consume mask frees the oldest values of latches, a SEND puts its value on its way in each
masked direction, a VOTE adds the tile's contribution and its result lands 2K bundles later, a PSETU lands one bundle later. It rests on
choices of the model too: log entries 24, 148 and 171. -/
def Obligations.ExchangeSlot : Prop :=
  ∀ (s u : State) (t : TileIx) (slot : Nat) (x : Snap) (consume : BitVec 4), s.ready u t slot → x = u.snap t slot →
    exec (.xnop t consume) s = .next (u.consume x consume) ∧
    (∀ (dirs : BitVec 4) (src hops : BitVec 7), sendFault dirs src hops x = none →
      exec (.send t consume dirs src hops) s = .next ((u.modDen slot fun d =>
        { d with wave := (maskDirs dirs).foldl (fun w dir => sendOne x hops.toNat (x.sendVal src.toNat).val w dir) d.wave }).consume x
          consume)) ∧
    (∀ (kind : BitVec 3) (src : BitVec 7) (dst : BitVec 6), kind.toNat < 2 → src.toNat < 16 → 12 ≤ dst.toNat → dst.toNat ≤ 15 →
      (∀ v ∈ x.den.wave.votes, v.bundle ≠ x.tile.bundle) →
      exec (.vote t consume kind src dst) s = .next (((u.modDen slot fun d =>
        { d with wave := { d.wave with votes := d.wave.votes ++
          [{ bundle := x.tile.bundle, kind := kind.toNat, acc := BitVec.ofNat 32 (x.tile.preg src.toNat % 2), count := 1 }] } }).inFlight t
            [{ left := 2 * x.den.rect.span, dest := .p dst.toNat, val := 0, mask := BitVec.allOnes 512,
               vote := some x.tile.bundle }]).consume x consume)) ∧
    (∀ (kind : BitVec 3) (src : BitVec 7) (dst : BitVec 6), 2 ≤ kind.toNat → kind.toNat < 5 → 0x50 ≤ src.toNat → src.toNat < 0x70 →
      dst.toNat < 0x20 → (∀ v ∈ x.den.wave.votes, v.bundle ≠ x.tile.bundle) →
      exec (.vote t consume kind src dst) s = .next (((u.modDen slot fun d =>
        { d with wave := { d.wave with votes := d.wave.votes ++
          [{ bundle := x.tile.bundle, kind := kind.toNat, acc := BitVec.ofNat 32 (x.scalar src.toNat), count := 1 }] } }).inFlight t
            [{ left := 2 * x.den.rect.span, dest := .s dst.toNat, val := 0, mask := BitVec.allOnes 512,
               vote := some x.tile.bundle }]).consume x consume)) ∧
    (∀ (q : BitVec 2) (v : Bool), exec (.psetu t consume q v) s = .next ((u.inFlight t
      [{ left := 1, dest := .p (12 + q.toNat), val := if v then BitVec.allOnes 512 else 0, mask := BitVec.allOnes 512 }]).consume x consume))

/-- The P slot (R139, R140, R236, R258): the pump accepts a descriptor that passes its checks on a free tag, due LAT bundles on; ISSUE.A reads
it from the scratchpad and steps its address register by lines; PORD notes the operations in flight on the masked tags. It rests on
choices of the model too: log entries 148, 170, 201, 202 and 205. -/
def Obligations.PumpSlot : Prop :=
  ∀ (s u : State) (t : TileIx) (slot : Nat) (x : Snap), s.ready u t slot → x = u.snap t slot →
    exec (.pnop t) s = .next u ∧
    (∀ (tag : Fin 16) (lat : BitVec 16) (v : BitVec 6) (bs : List Byte), lat ≠ 0 → kget none x.tile.pump.tags tag.val = none →
      bs = toLE 64 (x.tile.vreg v.toNat) → (Desc.of bs).check = none → (Desc.of bs).count ≠ 0 →
      Completes (exec (.issueV t tag lat v) s) fun r => ∃ op, kget none (r.tile t.val).pump.tags tag.val = some op ∧ op.desc = bs ∧
        op.due = x.tile.bundle + lat.toNat ∧ op.status = none ∧ op.after = x.tile.pump.notes ∧
        (r.tile t.val).landings = x.tile.landings) ∧
    (∀ (tag : Fin 16) (lat : BitVec 16) (a inc : BitVec 4) (bs : List Byte), lat ≠ 0 → x.aAddr a % 64 = 0 →
      x.tile.banksReady (x.aAddr a) 64 → kget none x.tile.pump.tags tag.val = none → bs = x.tile.spadRead (x.aAddr a) 64 →
      (Desc.of bs).check = none → (Desc.of bs).count ≠ 0 →
      Completes (exec (.issueA t tag lat a inc .none) s) fun r => ∃ op, kget none (r.tile t.val).pump.tags tag.val = some op ∧
        op.desc = bs ∧ op.due = x.tile.bundle + lat.toNat ∧ op.status = none ∧ op.after = x.tile.pump.notes ∧
        (r.tile t.val).landings = x.tile.landings ++ incLanding x a inc.toNat 64) ∧
    (∀ (mask : BitVec 16), Completes (exec (.pord t mask) s) fun r => ∀ k < 16, (r.tile t.val).pump.notes.getLsbD k =
      (x.tile.pump.notes.getLsbD k || (mask.getLsbD k && x.tile.pump.tags.any fun (j, o) =>
        j == k && (match o with | some op => op.status.isNone | none => false))))

/-- Doorbells and submission entries (R485, R486, R491 to R497): an entry with nothing to wait for is ready or completes, one whose fence has
not come waits on it, and a wait that runs out ends with TIMEOUT; a record is written and its queue goes on, or stops with its status. It
rests on choices of the model too: log entries 74 and 78. -/
def Obligations.HostQueues : Prop :=
  (∀ (s : State) (page : SlotIx) (v : BitVec 32) (q i : Nat), q = v.toNat % 4096 → i = v.toNat / 2 ^ 16 → bitsOf v.toNat 12 4 = 0 →
    (s.queue q).phase ≠ .disabled → (s.queue q).slot = page.val →
    (ringMove (2 ^ (s.queue q).sqLog) (s.queue q).sqTail i
        (((s.queue q).sqHead + 2 ^ (s.queue q).sqLog - (s.queue q).sqTail + 2 ^ (s.queue q).sqLog - 1) % 2 ^ (s.queue q).sqLog) = true →
      exec (.submissionDoorbell page v) s = .next (s.setQueue q { s.queue q with sqTail := i })) ∧
    (2 ^ (s.queue q).sqLog ≤ i → exec (.submissionDoorbell page v) s = .next ((s.bump 0x1200 2).stopQueue q (some kRange)))) ∧
  (∀ (s : State) (page : SlotIx) (v : BitVec 32) (q i : Nat), q = v.toNat % 4096 → i = v.toNat / 2 ^ 16 → bitsOf v.toNat 12 4 = 1 →
    (s.queue q).phase ≠ .disabled → (s.queue q).slot = page.val →
    (ringMove (2 ^ (s.queue q).cqLog) (s.queue q).cqHead i
        (((s.queue q).cqTail + 2 ^ (s.queue q).cqLog - (s.queue q).cqHead) % 2 ^ (s.queue q).cqLog) = true →
      exec (.completionDoorbell page v) s = .next (s.setQueue q { s.queue q with cqHead := i })) ∧
    (2 ^ (s.queue q).cqLog ≤ i → exec (.completionDoorbell page v) s = .next ((s.bump 0x1200 2).stopQueue q (some kRange)))) ∧
  (∀ (s : State) (q : QIx) (bs : List Byte), s.takesEntry q.val → bs.length = 64 → (parseEntry bs).valid → (parseEntry bs).ben = false →
    (parseEntry bs).op = 1 →
    ((parseEntry bs).wen = false → Completes (exec (.step q (.data bs) .refused) s) fun r =>
      (r.queue q.val).cur = some { entry := parseEntry bs, index := (s.queue q.val).sqHead, batch := [], phase := .ready } ∧
      (r.queue q.val).sqHead = ((s.queue q.val).sqHead + 1) % 2 ^ (s.queue q.val).sqLog) ∧
    ((parseEntry bs).wen = true → (s.fence (parseEntry bs).wfen).live → (s.fence (parseEntry bs).wfen).abandoned = false →
      waitMet (s.fence (parseEntry bs).wfen).value.toNat (parseEntry bs).w1 = false →
      (s.fence (parseEntry bs).wfen).refs.length + (s.fence (parseEntry bs).wfen).waiters.length < 255 →
      Completes (exec (.step q (.data bs) .refused) s) fun r =>
        (r.queue q.val).cur = some { entry := parseEntry bs, index := (s.queue q.val).sqHead, batch := [], phase := .waiting } ∧
        (r.fence (parseEntry bs).wfen).waiters = (s.fence (parseEntry bs).wfen).waiters ++ [q.val])) ∧
  (∀ (s : State) (q : QIx) (bs : List Byte), s.takesEntry q.val → bs.length = 64 → (parseEntry bs).valid → (parseEntry bs).op = 2 →
    (parseEntry bs).wen = false →
    Completes (exec (.fenceEntry q (.data bs)) s) fun r => (r.queue q.val).cur = some
      { entry := parseEntry bs, index := (s.queue q.val).sqHead, batch := [],
        phase := .done kOk 0 0 0 (s.den (s.queue q.val).slot).stepCount }) ∧
  (∀ (s : State) (q : QIx) (c : Cur), (s.queue q.val).cur = some c → c.phase = .waiting → (s.queue q.val).waitOwl ≠ 0 →
    Completes (exec (.waitOwlExpiry q) s) fun r => (r.queue q.val).cur =
      some { c with phase := .done kTimeout 0 0 0 (s.den (s.queue q.val).slot).stepCount }) ∧
  (∀ (s : State) (q : QIx) (c : Cur) (st badCode : Code) (flags : BitVec 16) (badIx t : Nat) (steps : BitVec 64),
    (s.queue q.val).cur = some c → c.phase = .done st flags badIx badCode steps →
    t = ((s.queue q.val).cqTail + 1) % 2 ^ (s.queue q.val).cqLog → t ≠ (s.queue q.val).cqHead →
    Completes (exec (.completionRecordWrite q) s) fun r => (r.queue q.val).cur = none ∧ (r.queue q.val).cqTail = t ∧
      r.outbox = .hostWrite (s.queue q.val).ringPasid ((s.queue q.val).cqBase + 32 * (s.queue q.val).cqTail)
        (recordBytes (s.queue q.val).first c).2 false :: s.outbox ∧
      (st = kOk → (r.queue q.val).phase = (s.queue q.val).phase) ∧
      (st ≠ kOk → (r.queue q.val).phase = .stopped ∧ (r.queue q.val).lastStatus = st))

/-- Fences (R495 to R500). A signal that advances the value, at a fence that is neither FREE nor ABANDONED, by a 64-bit write with its upper
bits zero, gives the fence that value (or the fence, with no reference left, returns to FREE); any other adds 1 to FEN_STALE and does
nothing else. Through the alias a fence exported to PCI Express hears the same, and no other does. The four dictionary writes create,
reference, release and export a fence; each answers TYPE to a handle of another class. -/
def Obligations.Fences : Prop :=
  (∀ (s : State) (f : FenIx) (v : BitVec 64) (wide : Bool) (d : Nat), d = (v.toNat + 2 ^ 40 - (s.fence f.val).value.toNat) % 2 ^ 40 →
    (wide = true → v.toNat < 2 ^ 40 → (s.fence f.val).live → (s.fence f.val).abandoned = false → 1 ≤ d → d ≤ 2 ^ 39 - 1 →
      Completes (exec (.fenSignal f v wide) s) fun r => (r.fence f.val).live = true →
        (r.fence f.val).value.toNat = v.toNat ∧ (r.fence f.val).stale = (s.fence f.val).stale) ∧
    (wide = false ∨ 2 ^ 40 ≤ v.toNat ∨ (s.fence f.val).live = false ∨ (s.fence f.val).abandoned = true ∨ d = 0 ∨ 2 ^ 39 ≤ d →
      exec (.fenSignal f v wide) s = .next (s.setFence f.val { s.fence f.val with stale := bvInc (s.fence f.val).stale })) ∧
    ((s.fence f.val).pci → exec (.fenSignalAlias f v wide) s = .next (s.signalFence f.val v.toNat wide)) ∧
    ((s.fence f.val).pci = false →
      exec (.fenSignalAlias f v wide) s = .next (s.setFence f.val { s.fence f.val with stale := bvInc (s.fence f.val).stale }))) ∧
  (∀ (s s' : State) (q : Req) (v : List Byte) (n : Nat), s.serves q 0x1220 0 v → s' = s.beginReq q v → n = natAt v 0 3 → n ≤ 65535 →
    natAt v 3 1 = 2 → natAt v 4 4 = 0 → natAt v 12 4 = 0 → natAt v 16 8 < 2 ^ 40 → (s'.fence n).live = false →
    exec (.fenCreate q v) s = .next ((s'.setFence n
      { live := true, value := BitVec.ofNat 40 (natAt v 16 8), creator := natAt v 8 4, refs := [natAt v 8 4],
        gen := (s'.fence n).gen + 1 }).reply s.dict.nextId q kOk [])) ∧
  (∀ (s s' : State) (q : Req) (v : List Byte) (n : Nat), s.serves q 0x1220 1 v → s' = s.beginReq q v → s'.fenceNamed v = .ok n →
    natAt v 12 4 = 0 → (s'.fence n).live → (s'.fence n).abandoned = false → (s'.fence n).refs.length + (s'.fence n).waiters.length < 255 →
    exec (.fenRef q v) s =
      .next ((s'.setFence n { s'.fence n with refs := (s'.fence n).refs ++ [natAt v 8 4] }).reply s.dict.nextId q kOk [])) ∧
  (∀ (s s' : State) (q : Req) (v : List Byte) (n : Nat), s.serves q 0x1220 2 v → s' = s.beginReq q v → s'.fenceNamed v = .ok n →
    natAt v 12 4 = 0 → (s'.fence n).refs.contains (natAt v 8 4) →
    exec (.fenUnref q v) s =
      .next ((s'.setFence n ({ s'.fence n with refs := (s'.fence n).refs.erase (natAt v 8 4) }).settle).reply s.dict.nextId q kOk [])) ∧
  (∀ (s s' : State) (q : Req) (v : List Byte) (n : Nat), s.serves q 0x1220 3 v → s' = s.beginReq q v → s'.fenceNamed v = .ok n →
    natAt v 8 1 ≤ 3 → natAt v 9 3 = 0 → (s'.fence n).live →
    exec (.fenExport q v) s = .next ((s'.setFence n { s'.fence n with
      pci := (natAt v 8 1).testBit 0, fabric := (natAt v 8 1).testBit 1, job := BitVec.ofNat 32 (natAt v 12 4) }).reply
        s.dict.nextId q kOk [])) ∧
  (∀ (s s' : State) (q : Req) (v : List Byte) (cmd : Req → List Byte → Instr) (el : Nat),
    (cmd, el) ∈ [(Instr.fenCreate, 0), (.fenRef, 1), (.fenUnref, 2), (.fenExport, 3)] → s.serves q 0x1220 el v → s' = s.beginReq q v →
    natAt v 3 1 ≠ 2 → exec (cmd q v) s = .next (s'.reply s.dict.nextId q kType []))

/-- The queues' dictionary writes (R487 to R490). It rests on choices of the model too: log entry 79. -/
def Obligations.QueueRequests : Prop :=
  (∀ (s s' : State) (q : Req) (v : List Byte) (n : Nat), s.serves q 0x1210 0 v → s' = s.beginReq q v → n = natAt v 0 3 → n ≤ 4095 →
    natAt v 3 1 = 1 → natAt v 4 4 = 0 → natAt v 9 1 = 0 → natAt v 26 6 = 0 → natAt v 48 16 = 0 →
    (natAt v 10 2 ≤ 255 ∨ natAt v 10 2 = 0xFFFF) → 4 ≤ natAt v 24 1 → natAt v 24 1 ≤ 15 → 4 ≤ natAt v 25 1 → natAt v 25 1 ≤ 15 →
    natAt v 16 8 % 4096 = 0 → natAt v 32 8 % 4096 = 0 → bitsOf (natAt v 40 4) 20 11 = 0 → natAt v 44 4 ≤ 3600000 →
    natAt v 12 4 = s'.owner (natAt v 8 1) → (s'.queue n).phase = .disabled → noQueues (s'.den (natAt v 8 1)) = false →
    exec (.queueCreate q v) s = .next ((s'.setQueue n
      { phase := .active, slot := natAt v 8 1, gen := (s'.queue n).gen + 1, source := natAt v 10 2, owner := natAt v 12 4,
        sqBase := natAt v 16 8, sqLog := natAt v 24 1, cqBase := natAt v 32 8, cqLog := natAt v 25 1,
        pasid := BitVec.ofNat 32 (natAt v 40 4), waitOwl := natAt v 44 4 }).reply s.dict.nextId q kOk [])) ∧
  (∀ (s s' : State) (q : Req) (v : List Byte) (n : Nat), s.serves q 0x1210 1 v → s' = s.beginReq q v → n = natAt v 0 3 → n ≤ 4095 →
    natAt v 3 1 = 1 → natAt v 4 4 = (s'.queue n).gen.toNat → natAt v 9 7 = 0 →
    (natAt v 8 1 = 1 → (s'.queue n).phase = .active →
      exec (.queueStop q v) s = .next ((s'.stopQueue n none).reply s.dict.nextId q kOk [])) ∧
    (natAt v 8 1 = 2 → (s'.queue n).phase = .stopped → noQueues (s'.den (s'.queue n).slot) = false →
      exec (.queueStart q v) s = .next ((s'.setQueue n { s'.queue n with phase := .active }).reply s.dict.nextId q kOk [])) ∧
    (natAt v 8 1 = 3 → (s.queue n).phase = .stopped → (s.queue n).sqTail = (s.queue n).sqHead → 
      exec (.queueDiscard q v []) s = .next ((s'.setQueue n { s'.queue n with sqHead := (s'.queue n).sqTail }).reply
        s.dict.nextId q kOk []))) ∧
  (∀ (s s' : State) (q : Req) (v : List Byte) (n : Nat), s.serves q 0x1210 2 v → s' = s.beginReq q v → n = natAt v 0 3 → n ≤ 4095 →
    natAt v 3 1 = 1 → natAt v 4 4 = (s'.queue n).gen.toNat → (s'.queue n).phase = .stopped →
    exec (.queueDestroy q v) s = .next ((s'.disableQueue n).reply s.dict.nextId q kOk []))

/-- Owners, the aperture, the PCI Express function and the registers of a ring page (R452 to R454, R481, R482, R501 to R506, R584). A ring
pointer moves within its ring and not past its opposite, or stops the page; EMPTY, while the page is disabled, clears its pointers. It
rests on choices of the model too: log entries 75, 80, 138, 185 and 199. -/
def Obligations.HostPort : Prop :=
  (∀ (s s' : State) (q : Req) (v : List Byte) (slot : SlotIx), s.serves q 0x1201 slot.val v → s' = s.beginReq q v →
    exec (.slotOwner q v) s = .next (({ s' with host := { s'.host with owners := kput 0 s'.host.owners slot.val (leNat v) } } :
      State).reply s.dict.nextId q kOk [])) ∧
  (∀ (s s' : State) (q : Req) (v : List Byte), s.serves q 0x1240 0 v → s' = s.beginReq q v → natAt v 0 4 ≠ 0 → natAt v 4 1 ≤ 1 →
    natAt v 5 3 = 0 →
    exec (.ownerTeardown q v) s = .next ((s'.teardown (natAt v 0 4) (natAt v 4 1 == 1)).reply s.dict.nextId q kOk [])) ∧
  (∀ (s s' : State) (q : Req) (v : List Byte) (slot off len base : Nat) (a : Aper), s.serves q 0x1230 0 v → s' = s.beginReq q v →
    slot = natAt v 2 1 → off = natAt v 8 8 → len = natAt v 16 8 → base = natAt v 24 8 → natAt v 0 2 ≤ 1023 → natAt v 3 1 ≤ 3 →
    off ≠ 0 → off % 0x10000 = 0 → len ≠ 0 → len % 0x10000 = 0 → base ≠ 0 → base % 0x10000 = 0 → off + len ≤ 2 ^ s'.host.bar4Log →
    kget none s'.host.apers (natAt v 0 2) = none → ¬ s'.tdiLocked slot → revokePhase (s'.den slot) →
    s'.host.apers = [] →
    a = { slot := slot, rd := (natAt v 3 1).testBit 0, wr := (natAt v 3 1).testBit 1, owner := natAt v 4 4, off := off, len := len,
          base := base } →
    exec (.aperMap q v) s = .next (
      ({ s' with host := { s'.host with apers := kput none s'.host.apers (natAt v 0 2) (some a) } } : State).reply
        s.dict.nextId q kOk [])) ∧
  (∀ (s s' : State) (q : Req) (v : List Byte) (a : Aper), s.serves q 0x1230 1 v → s' = s.beginReq q v →
    kget none s'.host.apers (leNat v) = some a →
    exec (.aperUnmap q v) s = .next (({ s' with host := { s'.host with apers := kput none s'.host.apers (leNat v) none } } :
      State).reply s.dict.nextId q kOk [])) ∧
  (∀ (s s' r : State) (off : BitVec 42) (t : Target) (data : List Byte), off.toNat % 64 = 0 → s.aperture off.toNat .read = (some t, s') →
    (s'.haul .hostDma (s'.memEnd t) s'.hostEnd 0 1).access t .read { loc := 0 } = (kOk, data, r) →
    exec (.apertureAccess off .read { loc := 0 }) s = .next ((r.keepDma (r.aperSlot off.toNat) t).emit (.aperture (some data)))) ∧
  (∀ (s s' r : State) (off : BitVec 42) (t : Target) (o : Nat) (data bs : List Byte) (c : Code), off.toNat % 64 = 0 →
    o + data.length ≤ 64 → data ≠ [] → s.aperture off.toNat (.write o data) = (some t, s') →
    (s'.haul .hostDma s'.hostEnd (s'.memEnd t) 0 1).access t (.write o data) { loc := 0 } = (c, bs, r) →
    exec (.apertureAccess off (.write o data) { loc := 0 }) s = .next (r.keepDma (r.aperSlot off.toNat) t)) ∧
  (∀ (s s' : State) (off : BitVec 42) (m : LineMeet), off.toNat % 64 = 0 → s.aperture off.toNat .read = (none, s') →
    exec (.apertureAccess off .read m) s = .next ((s'.bump 0x1200 3).refusedRead.emit (.aperture none))) ∧
  (∀ (s s' : State) (off : BitVec 42) (o : Nat) (data : List Byte) (m : LineMeet), off.toNat % 64 = 0 → o + data.length ≤ 64 → data ≠ [] →
    s.aperture off.toNat (.write o data) = (none, s') → exec (.apertureAccess off (.write o data) m) s = .next (s'.bump 0x1200 3)) ∧
  (∀ (s : State), Completes (exec .functionLevelReset s) fun r => r.host.memEnable = false ∧ r.host.atsEnable = false ∧ r.host.apers = [] ∧
    r.host.owners = [] ∧
    (∀ n, (r.queue n).phase = .disabled) ∧ ∀ n, (r.fence n).live = false) ∧
  (∀ (s : State), s.host.d3hot = false → Completes (exec .d3hotEntry s) fun r => r.host.d3hot = true) ∧
  (∀ (s : State), s.host.d3hot = true → Completes (exec .d0Return s) fun r => r.host.d3hot = false ∧
    (r.ic.dom 0).asleep = false ∧ (r.ic.dom 0).wake = false) ∧
  (∀ (s : State) (b : ConfigBits),
    (s.dict.ready = false → exec (.configurationRequest b) s = .next (s.emit (.config false))) ∧
    (∀ r : State, s.dict.ready = true → r = { s with host := { s.host with
        memEnable := b.mse.getD s.host.memEnable,
        atsEnable := b.ats.getD s.host.atsEnable,
        atc := if b.ats = some false then [] else s.host.atc,
        maxPayload := (b.mps.map (·.val)).getD s.host.maxPayload, maxRead := (b.mrrs.map (·.val)).getD s.host.maxRead,
        aerUnc := (b.aerClear.map fun p => s.host.aerUnc &&& ~~~p.1).getD s.host.aerUnc,
        aerCor := (b.aerClear.map fun p => s.host.aerCor &&& ~~~p.2).getD s.host.aerCor } } →
      exec (.configurationRequest b) s = .next (r.emit (.config true (b.read.map r.cfgRead))))) ∧
  (∀ (s : State) (log : BitVec 6),
    (s.host.memEnable = false → 36 ≤ log.toNat → log.toNat ≤ 42 →
      exec (.resizableBar log) s = .next { s with host := { s.host with bar4Log := log.toNat } }) ∧
    (s.host.memEnable = true ∨ log.toNat < 36 ∨ 42 < log.toNat → exec (.resizableBar log) s = .next s)) ∧
  (∀ (s : State) (p : PageIx) (v : BitVec 32), (s.page p.val).overrun = false →
    (ringMove 512 (s.page p.val).drqTail v.toNat (((s.page p.val).drqHead + 512 - (s.page p.val).drqTail + 511) % 512) = true →
      exec (.hifDrqTail p v) s = .next (s.setPage p.val { s.page p.val with drqTail := v.toNat })) ∧
    (512 ≤ v.toNat → exec (.hifDrqTail p v) s = .next (s.setPage p.val { s.page p.val with overrun := true })) ∧
    (ringMove 448 (s.page p.val).drsHead v.toNat (((s.page p.val).drsTail + 448 - (s.page p.val).drsHead) % 448) = true →
      exec (.hifDrsHead p v) s = .next (s.setPage p.val { s.page p.val with drsHead := v.toNat })) ∧
    (448 ≤ v.toNat → exec (.hifDrsHead p v) s = .next (s.setPage p.val { s.page p.val with overrun := true }))) ∧
  (∀ (s : State) (p : PageIx), (s.page p.val).overrun = true →
    ∀ v, exec (.hifDrqTail p v) s = .next s ∧ exec (.hifDrsHead p v) s = .next s) ∧
  (∀ (s : State) (p : PageIx), ((s.page p.val).enable = true → exec (.empty p) s = .next s) ∧
    ((s.page p.val).enable = false → Completes (exec (.empty p) s) fun r => r.page p.val = { irqEn := (s.page p.val).irqEn })) ∧
  (∀ (s : State) (p : PageIx) (v : BitVec 32), Completes (exec (.hifDctl p v) s) fun r =>
    (r.page p.val).enable = v.getLsbD 0 ∧ (r.page p.val).irqEn = v.getLsbD 1 ∧
    (v.getLsbD 2 = false ∨ (s.page p.val).enable = true →
      (r.page p.val).drqTail = (s.page p.val).drqTail ∧ (r.page p.val).overrun = (s.page p.val).overrun) ∧
    (v.getLsbD 2 = true → (s.page p.val).enable = false → (r.page p.val).drqTail = 0 ∧ (r.page p.val).overrun = false))

/-- Grants, revokes and resizes of extents (R324, R334, R335), each for a write that passes the checks all elements share: `s'` is the state
once the request has left its front end. A grant enters the directory in VBASE order and a growth has its new length at once; a shrink and
a revoke change the directory at once too, while their response waits for the reports of every recipient. It rests on choices of the model
too: log entry 53. -/
def Obligations.ExtentRequests : Prop :=
  (∀ (s s' : State) (q : Req) (v : List Byte) (e : Extent), s.serves q 0x0C00 0 v → s' = s.beginReq q v →
    natAt v 1 7 = 0 → parseExtent (v.drop 8) = some e → grantPhase (s'.den (natAt v 0 1)) → ¬ s'.tdiLocked (natAt v 0 1) →
    s'.checkEntry (natAt v 0 1) e none = none →
    exec (.extGrant q v) s = .next ((s'.addExtent (natAt v 0 1) e).reply s.dict.nextId q kOk [])) ∧
  (∀ (s s' : State) (q : Req) (v : List Byte) (e : Extent), s.serves q 0x0C00 1 v → s' = s.beginReq q v →
    natAt v 1 7 = 0 → revokePhase (s'.den (natAt v 0 1)) → ¬ s'.tdiLocked (natAt v 0 1) →
    (s'.den (natAt v 0 1)).extents.find? (·.vbase == natAt v 8 8) = some e →
    exec (.extRevoke q v) s =
      .next ((s'.startInval (natAt v 0 1) e 0 (some s.dict.nextId)).await s.dict.nextId q)) ∧
  (∀ (s s' : State) (q : Req) (v : List Byte) (e : Extent), s.serves q 0x0C00 2 v → s' = s.beginReq q v →
    natAt v 1 7 = 0 → natAt v 8 8 + natAt v 16 8 ≤ 2 ^ 56 →
    natAt v 16 8 % 4096 = 0 → natAt v 16 8 ≠ 0 → ¬ s'.tdiLocked (natAt v 0 1) →
    (s'.den (natAt v 0 1)).extents.find? (·.vbase == natAt v 8 8) = some e →
    (natAt v 16 8 < e.len → revokePhase (s'.den (natAt v 0 1)) →
      exec (.extResize q v) s =
        .next ((s'.startInval (natAt v 0 1) e (natAt v 16 8) (some s.dict.nextId)).await s.dict.nextId q)) ∧
    (natAt v 16 8 = e.len → revokePhase (s'.den (natAt v 0 1)) →
      exec (.extResize q v) s = .next (s'.reply s.dict.nextId q kOk [])) ∧
    (e.len < natAt v 16 8 → grantPhase (s'.den (natAt v 0 1)) → ({ e with len := natAt v 16 8 } : Extent).inSpace →
      s'.checkEntry (natAt v 0 1) { e with len := natAt v 16 8 } (some (natAt v 8 8)) = none →
      exec (.extResize q v) s = .next ((s'.modDen (natAt v 0 1) fun d => { d with
        extents := d.extents.map fun x => if x = e then { e with len := natAt v 16 8 } else x }).reply s.dict.nextId q kOk []))) ∧
  (∀ (s s' : State) (q : Req) (v : List Byte) (e : WinEntry), s.serves q 0x0C01 0 v → s' = s.beginReq q v →
    natAt v 0 2 < 4096 → natAt v 2 6 = 0 → parseWindow (v.drop 8) = some e →
    s.mayOpen q.fe v →
    s'.window (natAt v 0 2) = none → ¬ s'.tdiRefuses q.fe e.slot → revokePhase (s'.den e.slot) → (s'.job e.job).isSome →
    exec (.winOpen q v) s =
      .next (({ s' with wins := kput none s'.wins (natAt v 0 2) (some e) } : State).reply s.dict.nextId q kOk [])) ∧
  (∀ (s s' : State) (q : Req) (v : List Byte) (e : WinEntry), s.serves q 0x0C01 1 v → s' = s.beginReq q v →
    leNat v < 4096 → s'.window (leNat v) = some e → s.mayClose q.fe (leNat v) →
    ¬ s'.tdiRefuses q.fe e.slot → revokePhase (s'.den e.slot) →
    exec (.winClose q v) s =
      .next (({ s' with wins := kput none s'.wins (leNat v) none } : State).reply s.dict.nextId q kOk []))

/-- Holdings, banks, the save area, budgets and guarantees of a slot (R389, R391, R435, R412, R424, R375), and the requests of wells and
reservoir (R279, R298): `s'` is the state once the request has left its front end. It rests on choices of the model too: log entries 62
and 144. -/
def Obligations.DenElementRequests : Prop :=
  (∀ (s s' : State) (q : Req) (v : List Byte) (slot : SlotIx) (r : PRange), s.serves q (0x0800 + slot.val) 0x09 v → s' = s.beginReq q v →
    parseHolding v = some r → grantPhase (s'.den slot.val) → ¬ s'.tdiLocked slot.val → ¬ s'.rangeFenced r → ¬ s'.occupied r none →
    ¬ s'.rangeBad r → (s'.den slot.val).holdings.length < 64 →
    exec (.holdAdd q v) s = .next (((s'.modDen slot.val fun d => { d with holdings := d.holdings ++ [r] }).noteChange slot.val).reply
      s.dict.nextId q kOk [])) ∧
  (∀ (s s' : State) (q : Req) (v : List Byte) (slot : SlotIx) (r : PRange) (i : Nat), s.serves q (0x0800 + slot.val) 0x0A v →
    s' = s.beginReq q v → parseHolding v = some r → (s'.den slot.val).holdings.findIdx? (· == r) = some i → revokePhase (s'.den slot.val) →
    ¬ s'.tdiLocked slot.val → ¬ (s'.den slot.val).targets r → ¬ (s'.den slot.val).pools.contains i → natAt (s'.den slot.val).saveArea 0 1 ≠ 2 →
    exec (.holdRemove q v) s = .next (((s'.modDen slot.val fun d =>
      { d with holdings := d.holdings.eraseIdx i, scrubs := d.scrubs ++ [.range r], pools := d.pools.map (shiftIx i) }).noteChange
        slot.val).reply s.dict.nextId q kOk [])) ∧
  (∀ (s s' : State) (q : Req) (v : List Byte) (slot : SlotIx) (t : Nat), s.serves q (0x0800 + slot.val) 0x15 v → s' = s.beginReq q v →
    natAt v 2 2 ≠ 0 → natAt v 4 1 ≤ 2 → natAt v 5 3 = 0 → (s'.den slot.val).phase = .loaded ∨ (s'.den slot.val).phase = .frozen →
    natAt v 0 2 ≠ 0xFFFF → (s'.den slot.val).rect.tiles[natAt v 0 2]? = some t →
    exec (.bankCtl q v) s = .next (((s'.modTile t fun x =>
      ((((List.range 16).filter (natAt v 2 2).testBit).foldl (fun (x : Tile) b => x.setBank b (natAt v 4 1)) x).ageBanks 4208
        ((List.range 16).filter (natAt v 2 2).testBit).contains)).noteChange
        slot.val).reply s.dict.nextId q kOk [])) ∧
  (∀ (s s' : State) (q : Req) (v : List Byte) (slot : SlotIx), s.serves q (0x0800 + slot.val) 0x0C v → s' = s.beginReq q v →
    natAt v 0 1 = 1 → natAt v 1 1 = 0 → natAt v 2 6 = 0 → v.length = 16 → natAt v 8 8 % 0x10000 = 0 → natAt v 8 8 + 0xD0000 ≤ 2 ^ 28 →
    (s'.den slot.val).image.shaftUse ≤ natAt v 8 8 → ¬ s'.tdiLocked slot.val →
    exec (.saveArea q v) s =
      .next (((s'.modDen slot.val fun d => { d with saveArea := v }).noteChange slot.val).reply s.dict.nextId q kOk [])) ∧
  (∀ (s s' : State) (q : Req) (v : List Byte) (slot : SlotIx), s.serves q (0x0800 + slot.val) 0x0D v → s' = s.beginReq q v →
    grantPhase (s'.den slot.val) → (∀ l < 32, natAt v (2 * l) 2 ≤ 384) →
    (∀ l < 32, s'.budgetSum l slot.val + natAt v (2 * l) 2 ≤ 384) →
    exec (.linkBudget q v) s = .next (((s'.modDen slot.val fun d =>
      { d with linkBudget := (List.range 32).foldl (fun m l => kput 0 m l (natAt v (2 * l) 2)) [] }).noteChange slot.val).reply
        s.dict.nextId q kOk [])) ∧
  (∀ (s s' : State) (q : Req) (v : List Byte) (slot : SlotIx) (k : CtlIx), s.serves q (0x2200 + k.val) slot.val v → s' = s.beginReq q v →
    grantPhase (s'.den slot.val) → leNat v ≠ kget 0 (s'.den slot.val).guarantees k.val →
    s'.guarSum k.val - kget 0 (s'.den slot.val).guarantees k.val + leNat v + s'.reg (0x2100 + k.val) 4 ≤ 256 →
    exec (.guarantee q v) s = .next ((((s'.setCtl k.val { s'.ctl k.val with
        balance := kmod 0 (s'.ctl k.val).balance slot.val (clampBal (s'.balLim k.val)) }).modDen slot.val fun d =>
      { d with guarantees := kput 0 d.guarantees k.val (leNat v) }).noteChange slot.val).reply s.dict.nextId q kOk [])) ∧
  (∀ (s s' : State) (q : Req) (v : List Byte) (w : WellIx), s.serves q (0x0300 + w.val) 0x0C v → s' = s.beginReq q v → leNat v ≤ 511 →
    ¬ (s'.well w.val).spares.any (fun p => p.2 == leNat v) → (s'.well w.val).copying = none → (s'.well w.val).wanted = [] →
    (s'.well w.val).freeSpare ≠ none →
    exec (.remapReq q v) s = .next ((s'.setWell w.val ((s'.well w.val).want (leNat v))).reply s.dict.nextId q kOk [])) ∧
  (∀ (s s' : State) (q : Req) (v : List Byte), s.serves q 0x0340 4 v → s' = s.beginReq q v → leNat v = 1 → s'.reg 0x0340 3 ≠ 1 →
    exec (.rollReq q v) s = .next (s'.startRoll.reply s.dict.nextId q kOk []))

/-- The den commands of R395, each on its command in flight: RESERVE, LOAD, START, FREEZE, RESUME, SAVE, RESTORE, RELOCATE, RESHAPE, RELEASE,
COPY_OUT; `c` is the command and `d` its slot. It rests on choices of the model too: log entries 139, 140 and 179. -/
def Obligations.DenCommands : Prop :=
  (∀ (s : State) (i : SlotIx) (c : DenCmd) (q : Rect), (s.den i.val).working 1 = some c → (s.den i.val).phase ≠ .faulted →
    parseRect (c.a1 % 2 ^ 32) = some q → s.placeCheck q none none = none →
    Completes (exec (.reserve i) s) fun t => (t.den i.val).phase = .reserved ∧ (t.den i.val).rect = q ∧
      (t.den i.val).cmd = some { c with result := some kOk } ∧ (t.den i.val).slipCyc = 0 ∧ (t.den i.val).slipCnt = 0 ∧
      (t.den i.val).bundle = 0 ∧ (t.den i.val).causes = [] ∧ (t.den i.val).misses = 0 ∧ (t.den i.val).stepFlags = 0 ∧
      (t.den i.val).fp64Counts = [] ∧ ∀ n, n ≠ i.val → t.den n = s.den n) ∧
  (∀ (s s' : State) (i : SlotIx) (c : DenCmd) (img : HostRead) (ok : Bool) (g : Image) (sh : Shape), (s.den i.val).working 2 = some c →
    s' = s.askImage (s.den i.val) c.a1 c.a2 →
    (s.den i.val).phase ≠ .faulted → imageSays img ok → readImage img c.a2 = .ok g →
    (g.shapes.find? fun sh => sh.w == (s.den i.val).rect.w && sh.h == (s.den i.val).rect.h) = some sh →
    s'.fitFails i.val (s.den i.val).rect g sh = none →
    exec (.load i img ok) s =
      .next (((s'.install i.val g sh).modDen i.val fun d => { d with phase := .loaded }).cmdResult i.val kOk)) ∧
  (∀ (s : State) (i : SlotIx) (c : DenCmd), (s.den i.val).working 3 = some c → (s.den i.val).phase ≠ .faulted →
    exec (.start i) s = .next ((s.modDen i.val fun d => { d with phase := .running }).cmdResult i.val kOk)) ∧
  (∀ (s : State) (i : SlotIx) (c : DenCmd) (ran : Nat), (s.den i.val).working 4 = some c → (s.den i.val).phase = .running →
    (s.den i.val).wave.stopping = false →
    exec (.freeze i ran) s =
      .next ((s.say (2 + s.settCore) .command s.settEnd (s.tileEnd (s.den i.val).rect.origin) i.val 4).stopWave i.val ran)) ∧
  (∀ (s : State) (i : SlotIx) (c : DenCmd) (waited : Nat), (s.den i.val).working 5 = some c → (s.den i.val).phase ≠ .faulted →
    (s.den i.val).restored = false →
    Completes (exec (.resume i waited) s) fun t => (t.den i.val).phase = .running ∧
      (t.den i.val).cmd = some { c with result := some kOk } ∧ (t.den i.val).wave.z = (s.den i.val).wave.z ∧
      (t.den i.val).slipCyc = (s.den i.val).slipCyc ∧ (t.den i.val).slipCnt = (s.den i.val).slipCnt) ∧
  (∀ (s s' : State) (i : SlotIx) (c : DenCmd) (f : SaveFacts) (k : Code), (s.den i.val).working 6 = some c → s.denQuiet i.val →
    s.allStill i.val → f.unc = none → s.writeSave f.meets i.val (c.a1 == 1) = (k, s') →
    exec (.save i f) s = .next (s'.cmdResult i.val k)) ∧
  (∀ (s u s' w : State) (i : SlotIx) (c : DenCmd) (img : HostRead) (ok : Bool) (f : SaveFacts) (g : Image) (kind hdr kind' hdr' : Nat)
    (places recs : List Nat) (h : List Byte) (sh : Shape) (sv : Saved), (s.den i.val).working 7 = some c →
    u = s.askImage (s.den i.val) c.a1 c.a2 → imageSays img ok → readImage img c.a2 = .ok g → (s.den i.val).savePlaces 0 = some (kind, hdr, places) →
    u.areaRead f.meets kind 257 hdr 256 = (kOk, h, s') →
    (g.shapes.find? fun sh => sh.ix == natAt h 4 1 && sh.w == (s.den i.val).rect.w && sh.h == (s.den i.val).rect.h) = some sh →
    natAt h 0 2 = 1 → natAt h 0x30 32 = g.digest.toNat → s'.fitFails i.val (s.den i.val).rect g sh = none →
    (s.den i.val).savePlaces (natAt h 0x50 4) = some (kind', hdr', recs) →
    (((s.den i.val).rect.tiles.zip recs).foldl (fun (s : State) p => s.haulRecord i.val kind p.1 p.2 false) s').findSave f.meets kind recs
      h = (kOk, some sv, w) →
    exec (.restore i img ok f) s = .next ((((w.loadSave i.val g sh sv).emptyCaches i.val).modDen i.val fun d =>
      { d with phase := .frozen }).cmdResult i.val kOk)) ∧
  (∀ (s : State) (i : SlotIx) (n : Nat) (ms : List LineMeet) (c : DenCmd) (q : Rect) (es : List Extent), (s.den i.val).working 8 = some c →
    (s.den i.val).phase ≠ .faulted → q = { (s.den i.val).rect with bc := bitsOf c.a1 0 5, br := bitsOf c.a1 8 4 } →
    s.placeCheck q (some i.val) (some (s.den i.val).image.seamCol) = none → ¬ q.tiles.any (s.den i.val).rect.has →
    allSome ((s.den i.val).extents.map fun e => if e.onShafts (s.den i.val).rect.tiles then carried (s.den i.val).rect q e else some e) =
      some es →
    (s.den i.val).moving = none → c.a1.testBit 32 = false → Completes (exec (.relocate { slot := i, shafts := n, meets := ms }) s) fun t =>
      (t.den i.val).rect = q ∧ (t.den i.val).extents = es ∧ (t.den i.val).moving = none ∧
      (t.den i.val).scrubs = (s.den i.val).scrubs ++ (s.den i.val).rect.tiles.map ScrubUnit.shaft ∧
      ∃ x, (t.den i.val).cmd = some x ∧ x.result = some kOk) ∧
  (∀ (s : State) (i : SlotIx) (n : Nat) (ms : List LineMeet) (c : DenCmd) (q : Rect) (m : Move) (es : List Extent),
    (s.den i.val).working 8 = some c → (s.den i.val).phase ≠ .faulted → (s.den i.val).moving = some m →
    q = { (s.den i.val).rect with bc := bitsOf c.a1 0 5, br := bitsOf c.a1 8 4 } →
    allSome ((s.den i.val).extents.map fun e => if e.onShafts (s.den i.val).rect.tiles then carried (s.den i.val).rect q e else some e) =
      some es → exec (.relocate { slot := i, shafts := n, meets := ms }) s = .next (s.moveOn i.val c m n ms es)) ∧
  (∀ (s s' : State) (i : SlotIx) (c : DenCmd) (img : HostRead) (ok : Bool) (q : Rect) (g : Image) (sh : Shape),
    (s.den i.val).working 9 = some c → s' = s.askImage (s.den i.val) c.a1 (c.a2 % 2 ^ 32) → (s.den i.val).phase ≠ .faulted →
    imageSays img ok →
    parseRect (bitsOf c.a2 32 32) = some q →
    s.placeCheck q (some i.val) (some (s.den i.val).image.seamCol) = none →
    ¬ ((s.den i.val).extents.any fun e => e.onShafts ((s.den i.val).rect.tiles.filter fun t => !q.has t)) →
    readImage img (c.a2 % 2 ^ 32) = .ok g → (g.shapes.find? fun sh => sh.w == q.w && sh.h == q.h) = some sh →
    s'.fitFails i.val q g sh = none →
    Completes (exec (.reshape i img ok) s) fun t => (t.den i.val).phase = .loaded ∧
      ∃ x, (t.den i.val).cmd = some x ∧ x.result = some kOk) ∧
  (∀ (s : State) (i : SlotIx) (c : DenCmd), (s.den i.val).working 10 = some c → revokePhase (s.den i.val) →
    exec (.release i) s = .next (s.beginRelease i.val)) ∧
  (∀ (s : State) (i : SlotIx) (c : DenCmd) (w : WinEntry) (h : PRange), (s.den i.val).working 11 = some c →
    (s.den i.val).holdings[c.a1]? = some h → s.window c.a2 = some w → s.winCheck i.val c.a2 0 0 .write = none →
    (h.len ≤ c.sent → ¬ (s.fab.links.any fun p => p.2.txs.any fun t => t.slot == i.val && t.who == .copyOut (s.den i.val).cmdSeq.toNat) →
      ∀ ms, exec (.copyOut i ms) s = .next (s.cmdResult i.val kOk)) ∧
    (c.sent < h.len → ∀ ms, exec (.copyOut i ms) s = .next (s.copySend ms i.val c.a2 w h 400)))

/-- What happens to a slot of itself (R394, R408, R430, R433, R405, R406, R407, R409): a command completes, a den stands frozen, the Sett
freezes one, a step starts (or its batch is refused, or its leaves go first) and ends, a drain and a scrub end, an SDI window ends. It
rests on choices of the model too: log entries 54 and 63. -/
def Obligations.DenEvents : Prop :=
  (∀ (s u : State) (i : SlotIx) (c : DenCmd) (r : Code), (s.den i.val).cmd = some c → c.result = some r →
    u = (s.modDen i.val fun d => { d with cmd := d.release, release := none, cmdResult := r, cmdSeq := d.cmdSeq + 1 }) →
    exec (.cmdComplete i) s =
      .next (((if c.fen then u.signalFence c.fence c.fval else u).raise (514 + i.val)).noteChange i.val)) ∧
  (∀ (s : State) (i : SlotIx), (s.den i.val).phase = .running → (s.den i.val).wave.stopping → s.allStill i.val → s.denQuiet i.val →
    s.pushQuiet i.val → Completes (exec (.denFrozen i) s) fun t => (t.den i.val).phase = .frozen) ∧
  (∀ (s : State) (i : SlotIx) (ran : Nat), (s.den i.val).phase = .running → (s.den i.val).wave.stopping = false →
    exec (.settFreeze i ran) s = .next (((s.say (2 + s.settCore) .command s.settEnd (s.tileEnd (s.den i.val).rect.origin) i.val 4).modDen
      i.val fun d => { d with settFreeze := true }).stopWave i.val ran)) ∧
  (∀ (s : State) (i : SlotIx) (waited n : Nat) (c : Cur), (s.den i.val).phase = .running → (s.den i.val).wave.stopping = false →
    (s.den i.val).stepActive = false → ((s.den i.val).rect.tiles.all fun t => (s.tile t).phase == .stopped) →
    s.turnQueue i.val = some n → (s.queue n).cur = some c → c.left = false →
    (c.batch = [] → Completes (exec (.stepStart i waited) s) fun t => (t.den i.val).stepActive = true ∧
      (t.den i.val).stepQueue = some n ∧ (t.queue n).cur = some { c with phase := .running } ∧ (t.den i.val).reshapeReady = false) ∧
    (∀ k j, s.admitBatch i.val (batchOf c.batch) = .error (j, k) → exec (.stepStart i waited) s =
      .next ((s.reportMembers i.val (((batchOf c.batch).drop j).take 1) k).endEntry n kBatchRefused j k)) ∧
    (∀ t, s.admitBatch i.val (batchOf c.batch) = .ok t → (s.den i.val).leaves (batchOf c.batch) = [] → exec (.stepStart i waited) s =
      .next ((t.reportMembers i.val (batchOf c.batch) kOk).startStep i.val n waited c)) ∧
    (∀ t u, s.admitBatch i.val (batchOf c.batch) = .ok t → (s.den i.val).leaves (batchOf c.batch) ≠ [] →
      u = ((s.den i.val).leaves (batchOf c.batch)).foldl (fun (s : State) x => s.startInval i.val x 0 none) s →
      exec (.stepStart i waited) s = .next (u.setQueue n { u.queue n with cur := some { c with left := true } }))) ∧
  (∀ (s : State) (i : SlotIx), (s.den i.val).phase = .running → s.stepOver i.val →
    Completes (exec (.stepEnd i) s) fun t => (t.den i.val).stepActive = false ∧ (t.den i.val).stepQueue = none ∧
      (t.den i.val).stepCount = bvInc (s.den i.val).stepCount) ∧
  (∀ (s : State) (i : SlotIx), (s.den i.val).phase = .draining → s.allStill i.val → s.denQuiet i.val →
    ((s.den i.val).extents ≠ [] → Completes (exec (.drainEnd i) s) fun t => (t.den i.val).phase = .draining ∧
      t = (s.den i.val).extents.foldl (fun (s : State) e => s.startInval i.val e 0 none)
        { s with wins := s.wins.filter fun p => match p.2 with | some e => e.slot != i.val | none => false }) ∧
    ((s.den i.val).extents = [] → (s.den i.val).invals = [] → Completes (exec (.drainEnd i) s) fun t =>
      (t.den i.val).phase = .scrubbing ∧ (t.den i.val).extents = [] ∧
      (t.den i.val).guarantees = [] ∧ (t.den i.val).linkBudget = [] ∧
      (t.den i.val).scrubs = (s.den i.val).scrubs ++ ((s.den i.val).rect.tiles.map ScrubUnit.shaft ++
        (s.den i.val).holdings.map ScrubUnit.range))) ∧
  (∀ (s : State) (i : SlotIx) (n tl : Nat), (s.den i.val).scrubs[n]? = some (.shaft tl) → s.reg (0x300 + wellOf tl) 0 ≠ 2 →
    tl < 8192 →
    Completes (exec (.scrubEnd i n {}) s) fun t => (t.den i.val).scrubs = (s.den i.val).scrubs.eraseIdx n ∧
      ((s.den i.val).phase = .scrubbing → (s.den i.val).scrubs.length = 1 → (t.den i.val).phase = .free)) ∧
  (∀ (s : State) (i : SlotIx), (s.den i.val).phase ≠ .free → (s.den i.val).winBundles ≠ 0 →
    (s.den i.val).sdiWin.toNat ≤ (s.den i.val).winBundles →
    Completes (exec (.sdiWindowEnd i) s) fun t => (t.den i.val).winBundles = 0 ∧
      (t.den i.val).sdi = BitVec.ofNat 32 (min 0xFFFFFFFF (65536 * (s.den i.val).winAttr / (s.den i.val).sdiWin.toNat)) ∧
      (t.den i.val).sdiMisses = BitVec.ofNat 32 (s.den i.val).winMisses)

/-- The dictionary's own operations (R448, R449): a read gives the element's bytes, a write does the element's own work, DESCRIBE gives its
descriptor where the role has access to it, NEXT the next element there is, SNAPSHOT all that the role reads. It rests on choices of the
model too: log entries 98 and 112. -/
def Obligations.DictionaryRequests : Prop :=
  (∀ (s s' : State) (q : Req) (ix el : Nat), s.takes q .read ix el [] → s.checkReq q .read [] true = none → s' = s.beginReq q [] →
    exec (.dictRead q) s = .next (({ s' with fresh := s'.fresh + 1 } : State).reply s.dict.nextId q kOk (s'.readElem q.fe ix el))) ∧
  (∀ (s s' : State) (q : Req) (ix el : Nat) (v : List Byte), s.takes q .write ix el v → ownRow ix el = false →
    s.checkReq q .write v (writePermit (roleOf q.fe) ix el v) = none → s' = s.beginReq q v →
    exec (.dictWrite q v) s = .next (finishReq s.dict.nextId q (writeElem s.dict.nextId ix el v s'))) ∧
  (∀ (s s' : State) (q : Req) (v : List Byte) (d : SlotIx), s.takes q .write (0x0800 + d.val) 0x06 v →
    s.checkReq q .write v (writePermit (roleOf q.fe) (0x0800 + d.val) 0x06 v) = none → s' = s.beginReq q v → leNat v ≤ 7 →
    grantPhase (s'.den d.val) → exec (.dictWrite q v) s =
      .next ((s'.modDen d.val fun x => { x with powerClass := leNat v }).reply s.dict.nextId q kOk [])) ∧
  (∀ (s s' : State) (q : Req) (ix el : Nat), s.takes q .describe ix el [] → s.checkReq q .describe [] true = none → s' = s.beginReq q [] →
    (∀ (e : Nat) (row : ElemRow), ((s'.visible (roleOf q.fe) ix).find? fun p => p.1 == el) = some (e, row) → exec (.dictDescribe q) s =
      .next (s'.reply s.dict.nextId q kOk (toLE 8 (row.ty + 2 ^ 16 * row.lmax + 2 ^ 32 * row.acc + 2 ^ 52 * row.pers)))) ∧
    (((s'.visible (roleOf q.fe) ix).find? fun p => p.1 == el) = none → exec (.dictDescribe q) s =
      .next (s'.reply s.dict.nextId q kNoElement []))) ∧
  (∀ (s s' : State) (q : Req) (ix el i e : Nat), s.takes q .next ix el [] → s.checkReq q .next [] true = none → s' = s.beginReq q [] →
    s'.nextElem (roleOf q.fe) ix el = some (i, e) →
    exec (.dictNext q) s = .next (s'.reply s.dict.nextId q kOk (toLE 2 i ++ toLE 1 e ++ [0]))) ∧
  (∀ (s s' : State) (q : Req) (ix : Nat), s.takes q .snapshot ix 0 [] → s.checkReq q .snapshot [] true = none → s' = s.beginReq q [] →
    (s'.snapshot q.fe ix).length ≤ 4096 → exec (.dictSnapshot q) s =
      .next (({ s' with fresh := s'.fresh + 1 } : State).reply s.dict.nextId q kOk (s'.snapshot q.fe ix)))

/-- What keeps the dictionary (R446, R465, R469, R472 to R477, R211): a commit ends, or fails and leaves the old values; an expired owl
answers TIMEOUT; defaults come back; the calibration set is written and imported; FOLLOW is written. It rests on choices of the model too:
log entries 101, 103, 109, 110 and 111. -/
def Obligations.DictionaryUpkeep : Prop :=
  (∀ (s : State) (id : Nat) (c : Commit) (rest : List Commit), s.dict.commits = c :: rest → c.id = some id →
    exec (.persistCommit true) s =
      .next ((({ s with dict := { s.dict with commits := rest } } : State).bump 0x0110 4).answer id kOk) ∧
    exec (.persistCommit false) s =
      .next ((c.old.foldl State.undo ({ s with dict := { s.dict with commits := rest } } : State)).answer id 0x0B02)) ∧
  (∀ (s : State) (q : Req) (r : Resp), s.dict.waiting.find? (·.q == q) = some r →
    exec (.dictOwlExpiry q) s = .next ((s.bump 0x0110 2).answer r.id kTimeout)) ∧
  (∀ (s : State) (q : Req) (v : List Byte), s.serves q 0x0110 6 v → leNat v ≠ 0 → (s.dens.any fun p => p.2.phase != .free) = false →
    Completes (exec (.defaultsRestore q v) s) fun r => r.repair.hostFenced = [] ∧
      ∀ ix el, ix < 0x1000 → el < 256 → defaultsKeep (elemKey ix el) = false → r.reg ix el = ({} : Dict).reg ix el) ∧
  (∀ (s s' : State) (q : Req) (v : List Byte) (new old : List (Nat × Nat × List Byte)), s.serves q 0x02BF 3 v → s' = s.beginReq q v →
    natAt v 0 2 = 1 → natAt v 2 2 = 0 → natAt v 4 4 = v.length → (∀ i < 32, natAt v (24 + i) 1 = 0) → natAt v 56 2 = 1924 →
    natAt v 58 6 = 0 → v.length = 64 + 1924 + 2 + natAt v 1988 2 + 384 → bytesAt v 8 16 = bytesAt (s'.dict.blob 0x0000 2) 0 16 →
    new = cutElems calElems (bytesAt v 64 1924) ++ [(0x02BF, 0, toLE 4 0), (0x02BF, 1, trimZeros (bytesAt v 8 16))] →
    old = new.map (fun o => if o.1 = 0x02BF ∧ o.2.1 = 1 then (0x02BF, 1, s'.dict.blob 0x02BF 1) else (o.1, o.2.1, s'.stored o.1 o.2.1)) →
    exec (.calImport q v true) s = .next (finishReq s.dict.nextId q (persist s.dict.nextId old (old != new)
      (new.foldl (fun (s : State) o => s.putBytes o.1 o.2.1 o.2.2) s'))) ∧
    exec (.calImport q v false) s = .next (s'.reply s.dict.nextId q 0x0B04 [])) ∧
  (∀ (s s' : State) (q : Req) (v : List Byte) (i : Fin 4) (el org : Nat), s.serves q (0x0280 + i.val) el v → s' = s.beginReq q v →
    (calRange (0x0280 + i.val) el v = false → exec (.calibrationWrite q v) s = .next (s'.reply s.dict.nextId q kRange [])) ∧
    (calRange (0x0280 + i.val) el v → s'.stored (0x0280 + i.val) el ≠ v → org = s'.reg 0x02BF 0 →
      exec (.calibrationWrite q v) s = .next (finishReq s.dict.nextId q (persist s.dict.nextId
        [(0x0280 + i.val, el, s'.stored (0x0280 + i.val) el), (0x02BF, 0, toLE 4 org)] true
        ((s'.putBytes (0x0280 + i.val) el v).setReg 0x02BF 0 (if org.testBit i.val then org else org + 2 ^ i.val)))))) ∧
  (∀ (s s' : State) (q : Req) (v : List Byte), s.serves q 0x0410 0 v → s' = s.beginReq q v →
    (leNat v = 0 → exec (.seamCtl q v) s =
      .next (({ s' with seam := { s'.seam with follow := false } } : State).reply s.dict.nextId q kOk [])) ∧
    (leNat v = 1 → s'.seam.follow = false → exec (.seamCtl q v) s =
      .next (({ s' with seam := { s'.seam with follow := true, p := 0, dpeak := 0 } } : State).reply s.dict.nextId q kOk [])))

/-- The management bus and firmware update (R458 to R460, R598): the addresses are assigned, the message types, versions and PLDM discovery
answered, a dictionary message is queued with role tray, an image goes to the bank that does not run and becomes the next to boot if it
verifies and is not a rollback. It rests on choices of the model too: log entries 127 and 200. -/
def Obligations.ManagementBus : Prop :=
  (∀ (s : State), s.aonRuns →
    (∀ e, exec (.mctpControl (.setEid e)) s =
      .next (({ s with trust := { s.trust with eid := e.toNat } } : State).emit (.mctp [e]))) ∧
    exec (.mctpControl .getEid) s = .next (s.emit (.mctp [BitVec.ofNat 8 s.trust.eid])) ∧
    (s.settBooted → exec (.mctpControl .getTypes) s = .next (s.emit (.mctp [0x00, 0x01, 0x05, 0x7E]))) ∧
    (s.chip.phase = .recovery → exec (.mctpControl .getTypes) s = .next (s.emit (.mctp [0x00, 0x01]))) ∧
    (∀ a, exec (.mctpControl (.dynamicAddress a)) s = .next { s with trust := { s.trust with dynAddr := a } }) ∧
    (∀ t, s.mctpTypes.contains t → exec (.mctpControl (.getVersion t)) s = .next (s.emit (.mctp [0x00, 0x01, 0xF1, 0xF3, 0xF1, 0x00]))) ∧
    (∀ t, s.mctpTypes.contains t = false → exec (.mctpControl (.getVersion t)) s = .next (s.emit (.mctp [0x80]))) ∧
    (s.pldmServes →
      (∀ t, exec (.mctpControl (.pldmSetTid t)) s =
        .next (({ s with trust := { s.trust with tid := t.toNat } } : State).emit (.mctp [0x00]))) ∧
      exec (.mctpControl .pldmGetTid) s = .next (s.emit (.mctp [0x00, BitVec.ofNat 8 s.trust.tid])) ∧
      exec (.mctpControl .pldmTypes) s = .next (s.emit (.mctp ([0x00] ++ toLE 8 0x21))))) ∧
  (∀ (s : State) (bytes : List Byte), s.settBooted →
    exec (.vendorDictMessage true bytes) s = .next (s.queueMsg .tray 8 bytes) ∧
    exec (.vendorDictMessage false bytes) s = .next (s.deliver (parseMsg .tray bytes).2.1 0x0B03 [])) ∧
  (∀ (s : State) (f : FwImage), s.settBooted → Completes (exec (.pldmFirmwareUpdate f) s) fun r =>
    (s.chip.runsB = false → r.trust.bankB = { version := f.version, svn := f.svn, sigOk := f.sigOk, digest := f.digest } ∧
      r.trust.bankA = s.trust.bankA) ∧
    (s.chip.runsB = true → r.trust.bankA = { version := f.version, svn := f.svn, sigOk := f.sigOk, digest := f.digest } ∧
      r.trust.bankB = s.trust.bankB) ∧
    (f.sigOk → s.reg 0x1801 4 ≤ f.svn → r.trust.activeB = !s.chip.runsB ∧ r.reg 0x1801 1 = 0 ∧ r.reg 0x0000 5 = f.version) ∧
    (f.sigOk = false → r.trust.activeB = s.chip.runsB ∧ r.reg 0x1801 1 = 0x0F04) ∧
    (f.sigOk → f.svn < s.reg 0x1801 4 → r.trust.activeB = s.chip.runsB ∧ r.reg 0x1801 1 = 0x0F05) ∧
    r.outbox = .applyComplete (f.sigOk && decide (s.reg 0x1801 4 ≤ f.svn)) :: s.outbox)

/-- A frame arrives (R513, R518, R520): one that an FCS check, its form, its pair key, its incarnations, its tag or its packet number refuses
is dropped and counted, as is a control frame with a reserved byte set and a bulk frame for which the receive buffer has no room; one for
another endpoint goes on; a KEYX, and any other that passes, stands before its engine, opened; the packet number of an authentic frame is
taken, and a request beyond the engine's 384 is answered BUSY. The blocks of FEC_CORR corrected before it are a free count (log 197). It
rests on choices of the model too: log entries 44, 184, 194 and 197. -/
def Obligations.FrameArrival : Prop :=
  ∀ (s s0 : State) (l : LinkIx) (f : Frame), s.linkUp l.val → s0 = s.fecCount l.val →
    (∀ key, exec (.frameReceive l f false key) s = .next (s0.bump (0x1000 + l.val) 0x0A)) ∧
    (f.etype.toNat = s.reg 0x1100 1 → f.dmac = macOf s.endpoint l.val →
      (frameWellFormed f = false ∨ s.endpoint = 0 → ∀ key, exec (.frameReceive l f true key) s = .next (s0.bump (0x1000 + l.val) 0x0E)) ∧
      (frameWellFormed f → s.endpoint ≠ 0 → frameDst f ≠ s.endpoint → ∀ key,
        exec (.frameReceive l f true key) s = .next (s0.forward l.val f)) ∧
      (frameWellFormed f → s.endpoint ≠ 0 → frameDst f = s.endpoint →
        (frameKind f = 4 → ∀ key,
          (controlZero f → exec (.frameReceive l f true key) s = .next (s0.putRx l.val f)) ∧
          (controlZero f = false → exec (.frameReceive l f true key) s = .next (s0.bump (0x1000 + l.val) 0x0E))) ∧
        (frameKind f ≠ 4 → s.pair (frameJob f) (frameSrc f) = none →
          ∀ key, exec (.frameReceive l f true key) s = .next (s0.bump (0x1000 + l.val) 0x0B)) ∧
        (∀ (k : Pair) (j : Job), frameKind f ≠ 4 → s.pair (frameJob f) (frameSrc f) = some k → k.live → s.job (frameJob f) = some j →
          (j.compat = false → hdrField f 160 32 ≠ s.incarnation % 2 ^ 32 ∨ hdrField f 128 32 ≠ k.inc.toNat % 2 ^ 32 →
            ∀ key, exec (.frameReceive l f true key) s = .next (s0.bump (0x1000 + l.val) 0x0C)) ∧
          (j.compat ∨ hdrField f 160 32 = s.incarnation % 2 ^ 32 ∧ hdrField f 128 32 = k.inc.toNat % 2 ^ 32 →
            (k.opens f = .none → k.rx.takes (hdrField f 192 64) →
              exec (.frameReceive l f true .none) s = .next (s0.bump (0x1000 + l.val) 0x0B)) ∧
            (∀ (g : Frame), frameOpened f k.rxKey = some g →
              (k.rx.takes (hdrField f 192 64) = false →
                exec (.frameReceive l f true .live) s = .next (s0.bump (0x1000 + l.val) 0x0D)) ∧
              (∀ s', k.rx.takes (hdrField f 192 64) →
                s' = s0.modPair (frameJob f) (frameSrc f) (fun k => { k with rx := k.rx.note (hdrField f 192 64) }) →
                (controlZero g = false → exec (.frameReceive l f true .live) s = .next (s'.bump (0x1000 + l.val) 0x0E)) ∧
                (controlZero g → frameKind g = 0 → 384 ≤ (s.link l.val).inbound s.endpoint →
                  exec (.frameReceive l f true .live) s = .next (s'.respond l.val g kBusy [])) ∧
                (controlZero g → frameKind g ≠ 0 ∨ (s.link l.val).inbound s.endpoint < 384 →
                  exec (.frameReceive l f true .live) s = .next (s'.putRx l.val g)))))))) ∧
    (hdrField f 8 1 = 1 ∨ (s.link l.val).bulkBytes s.endpoint + frameSize f ≤ 2 ^ 20 →
      ((s.putRx l.val f).link l.val).rx = (s.link l.val).rx ++ [f]) ∧
    (hdrField f 8 1 = 0 → 2 ^ 20 < (s.link l.val).bulkBytes s.endpoint + frameSize f →
      s.putRx l.val f = s.bump (0x1000 + l.val) 0x0E)

/-- Window requests at the receiver (R345, R346): a request that fails a check is refused and counted; one that passes runs its accesses and
is answered, and one from another endpoint keeps its place where a waiting den's request was delayed. The request taken is the first that
waits for no translation and no copy. It rests on choices of the model too: log entry 136. -/
def Obligations.InboundRequests : Prop :=
  let serves (cmd : LinkIx → List LineMeet → Instr) (opc : Nat) (kind : LineKind) (acts : Frame → List (Nat × Access))
      (answers : Frame → Bool) : Prop :=
    ∀ (s s1 : State) (l : LinkIx) (ms : List LineMeet) (f : Frame), s.nextRequest opc l.val kind acts = some (f, s1) →
      (∀ c, s1.inboundCheck f (64 * (acts f).length) kind = .error c →
        exec (cmd l ms) s = .next ((s1.bump 0x0C01 3).respond l.val f c [])) ∧
      (∀ (e : WinEntry) (work : List (Nat × Access)) (s2 : State), s1.inboundCheck f (64 * (acts f).length) kind = .ok e →
        work = (acts f).map (fun (i, k) => (e.base + frameOff f + 64 * i, k)) →
        (∀ c, s1.inboundLines l.val e.slot kind (work.map (·.1)) = (some c, s2) →
          exec (cmd l ms) s = .next (((s2.engineSpend l.val e.slot (work.map (·.1))).bump 0x0C01 3).respond l.val f c [])) ∧
        (∀ (c : Code) (bs : List Byte) (s3 : State), s1.inboundLines l.val e.slot kind (work.map (·.1)) = (none, s2) →
          (s2.engineSpend l.val e.slot (work.map (·.1))).inboundRun l.val e.slot kind ms work [] = (c, bs, s3) →
          ∀ (con : Bool) (t : State), s3.keepPlace l.val e.slot (work.map (·.1)) = (con, t) →
            exec (cmd l ms) s = .next ((if frameSrc f = s3.endpoint then { t with fab := s3.fab } else t).respond
              l.val f c (if c = kOk ∧ answers f then bs else []) con)))
  serves .reqRead 0 .read frameReads (fun _ => true) ∧ serves .reqWrite 1 .write frameWrites (fun _ => false) ∧
  serves .reqRmw 2 .rmw frameRmw (fun f => decide (6 ≤ bitsOf (frameArg f) 0 3)) ∧ serves .pushw 3 .write frameWrites (fun _ => false)

/-- Transactions at the sender (R347, R348, R545, R687): a response ends its transaction, after BUSY it is sent again, and an expiry ends it
with TIMEOUT and makes its pair SUSPECT. It rests on choices of the model too: log entries 42 and 134. -/
def Obligations.SenderTransactions : Prop :=
  (∀ (s s1 : State) (l : LinkIx) (f : Frame) (t : Tx), s.takeRx l.val (fun f => frameKind f == 1) = some (f, s1) →
    (s1.link l.val).txs.find? (fun t => t.tag == frameTag f && t.job == frameJob f && t.peer == frameSrc f) = some t →
    (f.payload.length ≠ (if frameArg f = 0 then rspBytes t.msg else 0) → exec (.rsp l) s = .next (s1.bump (0x1000 + l.val) 0x0E)) ∧
    (f.payload = [] → frameArg f = kBusy.toNat → exec (.rsp l) s = .next (s1.modLink l.val fun x => { x with
      txs := updFirst (fun t => t.tag == frameTag f && t.job == frameJob f && t.peer == frameSrc f) (fun t => { t with busy := true })
        x.txs })) ∧
    (f.payload.length = (if frameArg f = 0 then rspBytes t.msg else 0) → frameArg f ≠ kBusy.toNat → exec (.rsp l) s =
      .next ((s1.endTx l.val t (BitVec.ofNat 16 (frameArg f)) f.payload f.contended).dropOld t.job t.peer).retryWaiting)) ∧
  (∀ (s : State) (l : LinkIx) (tx : Nat) (t : Tx), ((s.link l.val).txs.find? fun t => t.tag == tx && t.busy) = some t →
    (∀ c, s.linkTo t.peer t.job t.msg.rwin (.den t.slot) = .error c →
      exec (.busyResend l tx) s = .next (s.endTx l.val t c []).retryWaiting) ∧
    (∀ (o : Nat) (mac : BitVec 48), s.linkTo t.peer t.job t.msg.rwin (.den t.slot) = .ok (o, mac) →
      (o ≠ l.val → t.peer ≠ s.endpoint → s.linkRoom o t.slot = false → exec (.busyResend l tx) s = .next s) ∧
      (∀ (u : Tx) (s2 r : State) (k : Pair), o = l.val ∨ t.peer = s.endpoint ∨ s.linkRoom o t.slot →
        (s.bump 0x0C01 4).moveTx l.val o { t with busy := false } = (u, s2) → s2.pair u.job u.peer = some k →
        (s2.modLink o fun x => { x with txs := updFirst (·.tag == u.tag) (fun t => { t with busy := false, gen := k.gen }) x.txs }).sendOn
          o mac u.job u.peer (.den u.slot) false true u.msg = .ok r →
        exec (.busyResend l tx) s = .next r))) ∧
  (∀ (s : State) (l : LinkIx) (tx : Nat) (t : Tx), (s.link l.val).txs.find? (·.tag == tx) = some t →
    (s.txWaits l.val t = false → exec (.windowOwlExpiry l tx) s = .next (((s.endTx l.val t kTimeout []).dropOld t.job t.peer).modPair
      t.job t.peer fun k => if k.gen = t.gen then { k with suspect := k.live } else k).retryWaiting) ∧
    (s.txWaits l.val t →
      exec (.windowOwlExpiry l tx) s = .next ((s.endTx l.val t kTimeout []).dropOld t.job t.peer).retryWaiting))

/-- Fence frames, fences sent to peers, and dictionary messages over the fabric (R455 to R459, R498, R529). It rests on choices of the model
too: log entries 40 and 45. -/
def Obligations.FabricMessages : Prop :=
  (∀ (s s1 s2 : State) (l : LinkIx) (f : Frame) (n v : Nat), s.takeRx l.val (fun f => frameKind f == 2) = some (f, s1) →
    n = natAt f.payload 0 2 → v = bitsOf (natAt f.payload 8 8) 0 40 →
    s2 = s1.say (16 + l.val) .fence (s1.floorEnd (l.val / 2) 0) s1.hostEnd 0 n →
    ((s2.fence n).live → (s2.fence n).fabric → (s2.fence n).job.toNat = frameJob f →
      exec (.fenceFrame l) s = .next (s2.signalFence n v)) ∧
    ((s2.fence n).live = false ∨ (s2.fence n).fabric = false ∨ (s2.fence n).job.toNat ≠ frameJob f →
      exec (.fenceFrame l) s = .next (s2.setFence n { s2.fence n with stale := bvInc (s2.fence n).stale }))) ∧
  (∀ (s s' r : State) (q : Req) (v : List Byte) (l : Nat) (route : Route), s.serves q 0x1100 6 v → s' = s.beginReq q v → natAt v 3 1 = 0 → natAt v 10 6 = 0 →
    natAt v 16 8 < 2 ^ 40 → (s'.job (natAt v 4 4)).isSome → natAt v 0 3 = s'.endpoint ∨ s'.isMember (natAt v 4 4) (natAt v 0 3) →
    s'.sendMsg (natAt v 4 4) (natAt v 0 3) .engine
      { kind := 2, payload := toLE 2 (natAt v 8 2) ++ List.replicate 6 0 ++ toLE 8 (natAt v 16 8) } = .ok r →
    s'.pickLink (natAt v 0 3) (natAt v 4 4) 0 .engine = .ok (l, route) → exec (.fenceSend q v) s =
      .next ((r.say 1 .fence s'.hostEnd (s'.floorEnd (l / 2) 0) 0 (natAt v 8 2)).reply s.dict.nextId q kOk [])) ∧
  (∀ (s s1 : State) (l : LinkIx) (f : Frame), s.takeRx l.val (fun f => frameKind f == 3) = some (f, s1) → s1.dict.reassembly = [] →
    (natAt f.payload 3 1 = 1 → natAt f.payload 2 1 = 0 → s1.reg 0x0110 5 ≠ 0 → exec (.dictSegment l) s =
      .next ((s1.say (16 + l.val) .frame (s1.floorEnd (l.val / 2) 0) s1.settEnd 0 (natAt f.payload 0 2)).queueMsg
        (.fabric (BitVec.ofNat 24 (frameSrc f)) (BitVec.ofNat 32 (frameJob f))) 64 (f.payload.drop 8))) ∧
    (∀ r : Reassembly, 1 < natAt f.payload 3 1 → natAt f.payload 3 1 ≤ 17 → natAt f.payload 2 1 < natAt f.payload 3 1 →
      r = { src := BitVec.ofNat 24 (frameSrc f), job := BitVec.ofNat 32 (frameJob f), msg := BitVec.ofNat 16 (natAt f.payload 0 2),
            total := natAt f.payload 3 1, segs := [(natAt f.payload 2 1, f.payload.drop 8)] } →
      exec (.dictSegment l) s = .next { s1 with dict := { s1.dict with reassembly := [r] } })) ∧
  (∀ (s : State) (src : BitVec 24) (job : BitVec 32) (msg : BitVec 16) (l : Nat) (route : Route),
    (s.dict.reassembly.any fun r => r.src == src && r.job == job && r.msg == msg) →
    s.pickLink src.toNat job.toNat 0 .engine = .ok (l, route) →
    exec (.dictReassemblyTimeout src job msg) s = .next (({ s with dict := { s.dict with
      reassembly := s.dict.reassembly.filter fun r => !(r.src == src && r.job == job && r.msg == msg) } } : State).bump
        (0x1000 + l) 0x0E))

/-- Pair keys (R534 to R541, R545): a KEYX that fails a check is counted and raises its source; a request that passes is answered and makes
the pair's two keys from the shared secret, and the answer to one's own makes the same two the other way round; an unanswered one is sent
again as it stood, four times in all; KEY_INSTALL gives a compatibility job's keys; KEYEND ends the pair. (The order of the signed text is
the model's, log 195.) It rests on choices of the model too: log entries 128 and 195. -/
def Obligations.PairKeys : Prop :=
  (∀ (s s1 : State) (l : LinkIx) (d : BitVec 256) (ok : Bool) (f : Frame) (asked : List Byte),
    s.takeRx l.val (fun f => frameKind f == 4) = some (f, s1) → d.toNat = sha256 (keyxModulus f.payload) →
    asked = (if natAt f.payload 0 1 = 2 then keyxNonce (((s1.pair (frameJob f) (frameSrc f)).bind (·.agr)).getD {}).payload else []) →
    ok = pssVerify (keyxModulus f.payload) (keyxSigned f.payload (frameDst f) (frameSrc f) (frameJob f) asked)
      (keyxSignature f.payload) →
    ((s1.fab.members.any fun m => m.job == frameJob f && m.peer == frameSrc f && m.digest == d) = false ∨ ok = false ∨
      s1.job (frameJob f) = none ∨ s1.reg 0x0001 0 = 4 →
      exec (.keyx l d ok) s = .next ((s1.bump 0x1110 7).raise 1684)) ∧
    (∀ (j : Job) (inc : BitVec 64), ok → (s1.fab.members.any fun m => m.job == frameJob f && m.peer == frameSrc f && m.digest == d) →
      s1.job (frameJob f) = some j → s1.reg 0x0001 0 ≠ 4 → inc = BitVec.ofNat 64 (natAt f.payload 4 8) →
      (j.compat → exec (.keyx l d ok) s = .next ((s1.bump 0x1110 7).raise 1684)) ∧
      (j.compat = false → (s1.fab.keys.find? fun k => k.peer == frameSrc f && k.known) = none →
        (∀ (p : List Byte) (x : Nat) (s2 : State) (first last : BitVec 256), natAt f.payload 0 1 = 1 →
          s1.pair (frameJob f) (frameSrc f) = none → s1.fab.keys.length < 8192 →
          s1.newKeyx (frameJob f) (frameSrc f) 2 (keyxNonce f.payload) = (p, x, s2) →
          agreedKeys (sharedSecret x f.payload) (frameJob f) (frameSrc f, natAt f.payload 4 8, keyxNonce f.payload)
            (s1.endpoint, natAt p 4 8, keyxNonce p) = (first, last) →
          exec (.keyx l d ok) s = .next ((s2.sendKeyx (frameJob f) (frameSrc f) p).newKeys (frameJob f) (frameSrc f) inc true last first)) ∧
        (∀ (k : Pair) (a : Agreement) (first last : BitVec 256), natAt f.payload 0 1 = 2 →
          s1.pair (frameJob f) (frameSrc f) = some k → k.known = false → k.agr = some a →
          agreedKeys (sharedSecret a.private_ f.payload) (frameJob f) (s1.endpoint, natAt a.payload 4 8, keyxNonce a.payload)
            (frameSrc f, natAt f.payload 4 8, keyxNonce f.payload) = (first, last) →
          exec (.keyx l d ok) s = .next (s1.newKeys (frameJob f) (frameSrc f) inc false first last))))) ∧
  (∀ (s : State) (job : BitVec 32) (peer : BitVec 24) (k : Pair) (a : Agreement), s.pair job.toNat peer.toNat = some k →
    k.agr = some a →
    (a.tries < 4 → exec (.keyxResend job peer) s =
      .next ((s.modPair job.toNat peer.toNat fun k => { k with agr := some { a with tries := a.tries + 1 } }).sendKeyx
        job.toNat peer.toNat a.payload)) ∧
    (4 ≤ a.tries → exec (.keyxResend job peer) s = .next (s.failAgree job.toNat peer.toNat))) ∧
  (∀ (s : State) (job : BitVec 32) (peer : BitVec 24) (k : Pair) (o : OldKey), s.pair job.toNat peer.toNat = some k → k.old = some o →
    o.timed → exec (.keyRetainExpiry job peer) s = .next (s.modPair job.toNat peer.toNat fun k => { k with old := none })) ∧
  (∀ (s s1 : State) (l : LinkIx) (f : Frame), s.takeRx l.val (fun f => frameKind f == 5) = some (f, s1) →
    exec (.keyend l) s = .next (s1.endPair (frameJob f) (frameSrc f) false)) ∧
  (∀ (s s' : State) (q : Req) (v : List Byte) (j : Job), s.serves q 0x1110 3 v → (∃ id, q.fe = .secured id) → s' = s.beginReq q v →
    natAt v 7 1 = 0 → s'.job (natAt v 0 4) = some j → j.compat → s'.isMember (natAt v 0 4) (natAt v 4 3) → s'.fab.keys.length < 8192 →
    exec (.keyInstall q v) s = .next (((s'.newKeys (natAt v 0 4) (natAt v 4 3) 0 false (BitVec.ofNat 256 (natAt v 8 32))
      (BitVec.ofNat 256 (natAt v 40 32))).modPair (natAt v 0 4) (natAt v 4 3) fun k => { k with old := none }).reply
        s.dict.nextId q kOk []))

/-- Endpoint, routes, jobs and links, written through the dictionary (R522, R523, R532, R540, R559). It rests on choices of the model too: log
entry 71. -/
def Obligations.FabricElements : Prop :=
  (∀ (s s' : State) (q : Req) (v : List Byte), s.serves q 0x1100 0 v → s' = s.beginReq q v → leNat v ≠ 0 → leNat v ≤ 0xFFFFFE →
    s'.fab.jobs = [] →
    exec (.endpointId q v) s = .next (finishReq s.dict.nextId q (persistReg s.dict.nextId 0x1100 0 (leNat v) s'))) ∧
  (∀ (s s' : State) (q : Req) (v : List Byte) (r : Route), s.serves q 0x1101 0 v → s' = s.beginReq q v → natAt v 0 2 ≤ 1023 →
    natAt v 2 1 ≤ 1 → natAt v 11 1 = 0 → natAt v 15 1 = 0 → natAt v 19 1 = 0 →
    r = { plink := natAt v 3 1, links := BitVec.ofNat 32 (natAt v 4 4), value := natAt v 8 3, mask := natAt v 12 3,
          via := natAt v 16 3 } →
    (natAt v 2 1 = 1 →
      exec (.routeSet q v) s = .next ((s'.setRoute (natAt v 0 2) (some r)).reply s.dict.nextId q kOk [])) ∧
    (natAt v 2 1 = 0 → exec (.routeSet q v) s = .next ((s'.setRoute (natAt v 0 2) none).reply s.dict.nextId q kOk []))) ∧
  (∀ (s s' : State) (q : Req) (v : List Byte), s.serves q 0x1101 1 v → s' = s.beginReq q v →
    (leNat v ≤ 1023 → exec (.routeClear q v) s = .next ((s'.setRoute (leNat v) none).reply s.dict.nextId q kOk [])) ∧
    (1023 < leNat v → exec (.routeClear q v) s = .next (s'.reply s.dict.nextId q kRange []))) ∧
  (∀ (s s' : State) (q : Req) (v : List Byte), s.serves q 0x1110 0 v → s' = s.beginReq q v → natAt v 0 4 ≠ 0 → natAt v 4 4 ≤ 1 →
    (s'.job (natAt v 0 4)).isSome = false → s'.endpoint ≠ 0 →
    (s'.fab.jobs.length < 64 → exec (.jobCreate q v) s = .next ((({ s' with fab := { s'.fab with
      jobs := s'.fab.jobs ++ [{ id := natAt v 0 4, compat := natAt v 4 4 == 1 }] } } : State).setReg 0x1110 4
        (s'.fab.jobs.length + 1)).reply s.dict.nextId q kOk [])) ∧
    (64 ≤ s'.fab.jobs.length → exec (.jobCreate q v) s = .next (s'.reply s.dict.nextId q kNoResource []))) ∧
  (∀ (s s' : State) (q : Req) (v : List Byte) (j : Job) (rest : List Member) (m : Member), s.serves q 0x1110 1 v → s' = s.beginReq q v →
    natAt v 4 3 ≠ 0 → natAt v 4 3 ≠ 0xFFFFFF → natAt v 7 1 = 0 → s'.job (natAt v 0 4) = some j → j.compat = false →
    rest = s'.fab.members.filter (fun m => !(m.job == natAt v 0 4 && m.peer == natAt v 4 3)) → rest.length < 8192 →
    m = { job := natAt v 0 4, peer := natAt v 4 3, digest := BitVec.ofNat 256 (natAt v 8 32) } →
    exec (.jobMember q v) s = .next (({ s' with fab := { s'.fab with members := rest ++ [m] } } : State).reply s.dict.nextId q kOk [])) ∧
  (∀ (s s' : State) (q : Req) (v : List Byte) (j : Job), s.serves q 0x1110 2 v → s' = s.beginReq q v → s'.job (leNat v) = some j →
    exec (.jobEnd q v) s = .next ((s'.endJob (leNat v)).reply s.dict.nextId q kOk [])) ∧
  (∀ (s s' : State) (q : Req) (v : List Byte) (l : LinkIx) (r : Ans × State), s.serves q (0x1000 + l.val) 1 v → s' = s.beginReq q v →
    r = persistReg s.dict.nextId (0x1000 + l.val) 1 (leNat v) s' →
    exec (.linkEnable q v) s = .next (finishReq s.dict.nextId q (r.1, r.2.linkEnabled l.val (leNat v == 1))))

/-- Push channels and custody, written through the dictionary (R547, R551, R555 to R558). It rests on choices of the model too: log entries 70
and 196. -/
def Obligations.PushElements : Prop :=
  (∀ (s s' : State) (q : Req) (v : List Byte) (x : Chan), s.serves q 0x1120 0 v → s' = s.beginReq q v → natAt v 0 1 ≤ 63 →
    natAt v 2 2 ≤ 4095 → natAt v 4 4 = 0 → natAt v 17 7 = 0 → natAt v 44 4 = 0 → 4 ≤ natAt v 16 1 → natAt v 16 1 ≤ 12 →
    50 ≤ natAt v 40 4 → natAt v 40 4 ≤ 100000 → natAt v 8 8 % 64 = 0 → natAt v 24 8 % 8 = 0 → natAt v 32 8 % 8 = 0 →
    natAt v 8 8 < 2 ^ 56 → natAt v 24 8 < 2 ^ 56 → natAt v 32 8 < 2 ^ 56 → grantPhase (s'.den (natAt v 1 1)) →
    s'.chan (natAt v 0 1) = none → s'.chanWindow (natAt v 1 1) (natAt v 2 2) = none →
    (s'.den (natAt v 1 1)).covers .read 65 (natAt v 8 8) (64 * 2 ^ natAt v 16 1) = none →
    (s'.den (natAt v 1 1)).covers .read 1 (natAt v 24 8) 1 = none → (s'.den (natAt v 1 1)).covers .write 1 (natAt v 32 8) 1 = none →
    x = { slot := natAt v 1 1, win := natAt v 2 2, ring := natAt v 8 8, ringLog := natAt v 16 1, tailw := natAt v 24 8,
          donew := natAt v 32 8, poll := natAt v 40 4 } →
    exec (.pushChCreate q v) s = .next (((s'.setChan (natAt v 0 1) (some x)).noteDone (natAt v 0 1)).reply s.dict.nextId q kOk [])) ∧
  (∀ (s s' : State) (q : Req) (v : List Byte) (c : Nat) (x : Chan), s.serves q 0x1120 1 v → s' = s.beginReq q v → c = natAt v 0 1 →
    c ≤ 63 → s'.chan c = some x →
    (∀ w, natAt v 1 1 = 1 → natAt v 2 2 = 0 → x.phase ≠ .running → s'.window x.win = some w → exec (.pushStart q v) s =
      .next (((s'.setChan c (some { x with
        phase := .running, status := 0, stuck := none,
        units := x.units.map fun u => if u.failed.isSome then
          { u with failed := none, sent := 0, got := 0, phase := .sending, attempt := u.attempt + 1, win := x.win, job := w.job, peer := w.peer }
          else u })).noteDone c).reply s.dict.nextId q kOk [])) ∧
    (natAt v 1 1 = 2 → natAt v 2 2 ≤ 4095 → x.phase ≠ .running → s'.chanWindow x.slot (natAt v 2 2) = none →
      exec (.retarget q v) s = .next ((s'.setChan c (some { x with win := natAt v 2 2 })).reply s.dict.nextId q kOk [])) ∧
    (natAt v 1 1 = 3 → natAt v 2 2 = 0 → x.phase = .running → exec (.pushStop q v) s =
      .next (((s'.setChan c (some { x with phase := .stopped })).noteDone c).reply s.dict.nextId q kOk [])) ∧
    (natAt v 1 1 = 4 → natAt v 2 2 = 0 → x.phase ≠ .running → exec (.pushDestroy q v) s =
      .next ((s'.setChan c none).freedLogs.reply s.dict.nextId q kOk []))) ∧
  (∀ (s s' : State) (q : Req) (v : List Byte) (e : LogEntry) (k : BitVec 64 × Nat), s.serves q 0x1120 2 v → s' = s.beginReq q v →
    natAt v 11 5 = 0 → k = (BitVec.ofNat 64 (natAt v 0 8), natAt v 8 3) →
    s'.logEntry k.1 k.2 = some e →
    exec (.logSelect q v) s = .next (({ s' with fab := { s'.fab with logSel := kput none s'.fab.logSel (frontPlace q.fe) (some k) } } :
      State).reply s.dict.nextId q (if e.lost then kCustodyLost else kOk) [])) ∧
  (∀ (s s' : State) (q : Req) (v : List Byte) (c : Custody) (k : BitVec 64 × Nat), s.serves q 0x1120 4 v → s' = s.beginReq q v →
    natAt v 11 5 = 0 → k = (BitVec.ofNat 64 (natAt v 0 8), natAt v 8 3) →
    s'.custodyEntry k.1 k.2 = some c →
    exec (.custodySelect q v) s = .next (({ s' with fab := { s'.fab with
      custodySel := kput none s'.fab.custodySel (frontPlace q.fe) (some k) } } : State).reply s.dict.nextId q kOk [])) ∧
  (∀ (s s' : State) (q : Req) (v : List Byte) (c : Custody) (hit : Custody → Bool), s.serves q 0x1120 6 v →
    (∃ p, q.fe = .page p) → s' = s.beginReq q v → natAt v 11 5 = 0 →
    hit = (fun c => c.id == BitVec.ofNat 64 (natAt v 0 8) && c.src == natAt v 8 3) → s'.fab.custody.find? hit = some c →
    exec (.pushRelease q v) s = .next ((({ s' with fab := { s'.fab with custody := s'.fab.custody.filter fun c => !hit c } } :
      State).sendCustody c.job c.src 8 (toLE 8 c.id.toNat ++ List.replicate 8 0)).reply s.dict.nextId q kOk [])) ∧
  (∀ (s s' : State) (q : Req) (v : List Byte) (hit : LogEntry → Bool), s.serves q 0x1120 7 v → s' = s.beginReq q v → natAt v 11 5 = 0 →
    hit = (fun e => e.id == BitVec.ofNat 64 (natAt v 0 8) && e.peer == natAt v 8 3) → s'.fab.logs.any hit →
    exec (.logClear q v) s = .next ((({ s' with fab := { s'.fab with logs := s'.fab.logs.filter fun e => !hit e } } :
      State).freedLogs).reply s.dict.nextId q kOk []))

/-- Custody frames and the channels at work (R550 to R557). It rests on choices of the model too: log entries 133, 135, 196, 210 and 211. -/
def Obligations.CustodyEvents : Prop :=
  (∀ (s s1 : State) (l : LinkIx) (f : Frame) (w : WinEntry) (id : BitVec 64) (epoch : Nat),
    s.takeRx l.val (fun f => frameKind f == 6) = some (f, s1) → s1.inboundCheck f (natAt f.payload 16 8) .write = .ok w →
    id = BitVec.ofNat 64 (natAt f.payload 0 8) → epoch = natAt f.payload 8 4 → bitsOf (natAt f.payload 12 4) 0 1 = 0 →
    (∀ c, (s1.fab.custody.find? fun c => c.id == id && c.src == frameSrc f) = some c → epoch < c.epoch →
      exec (.pcommit l) s = .next (s1.sendCustody (frameJob f) (frameSrc f) 7
        (toLE 8 id.toNat ++ toLE 4 c.epoch ++ toLE 2 kOk.toNat ++ [0, 0]))) ∧
    (∀ c : Custody, (s1.fab.custody.find? fun c => c.id == id && c.src == frameSrc f) = none → s1.fab.custody.length < 4096 →
      c = { id := id, src := frameSrc f, job := frameJob f, epoch := epoch + 1, inc := BitVec.ofNat 32 (hdrField f 128 32),
            win := frameRwin f } →
      exec (.pcommit l) s = .next ((({ s1 with fab := { s1.fab with custody := s1.fab.custody ++ [c] } } : State).raise
        1683).sendCustody (frameJob f) (frameSrc f) 7 (toLE 8 id.toNat ++ toLE 4 (epoch + 1) ++ toLE 2 kOk.toNat ++ [0, 0])))) ∧
  (∀ (s s1 : State) (l : LinkIx) (f : Frame) (c : Fin 64) (x : Chan) (u : PushUnit) (n : Nat),
    s.takeRx l.val (fun f => frameKind f == 7) = some (f, s1) → kkeys s1.fab.chans = [c.val] → s1.chan c.val = some x →
    (x.units.find? fun u => u.id == BitVec.ofNat 64 (natAt f.payload 0 8) && u.job == frameJob f && u.peer == frameSrc f &&
      u.phase != .acked) = some u →
    (natAt f.payload 12 2 ≠ 0 → natAt f.payload 12 2 < 2 ^ 16 → u.failed = none → u.phase = .committed n →
      exec (.pack l) s = .next (s1.failUnit c.val u.n (BitVec.ofNat 16 (natAt f.payload 12 2)))) ∧
    (natAt f.payload 12 2 = 0 → natAt f.payload 8 4 ≤ u.epoch → exec (.pack l) s = .next s1) ∧
    (∀ (k : Pair) (e : LogEntry), natAt f.payload 12 2 = 0 → u.epoch < natAt f.payload 8 4 →
      u.failed = none ∧ u.phase = .committed n ∨ s1.fab.logs.length < 4096 → frameSrc f ≠ s1.endpoint →
      s1.pair (frameJob f) (frameSrc f) = some k →
      e = { id := BitVec.ofNat 64 (natAt f.payload 0 8), peer := frameSrc f, job := frameJob f, epoch := natAt f.payload 8 4,
            inc := k.inc.truncate 32 } →
      exec (.pack l) s = .next (((({ s1 with fab := { s1.fab with logs := s1.fab.logs ++ [e] } } : State).modChan c.val fun x =>
        (x.modUnit u.n fun u => { u with phase := .acked, failed := none }).advance 64).noteDone c.val).freedLogs))) ∧
  (∀ (s s1 : State) (l : LinkIx) (f : Frame) (mine : LogEntry → Bool), s.takeRx l.val (fun f => frameKind f == 8) = some (f, s1) →
    mine = (fun e => e.id == BitVec.ofNat 64 (natAt f.payload 0 8) && e.peer == frameSrc f) →
    (natAt f.payload 8 2 = 0 → exec (.pdone l) s =
      .next ({ s1 with fab := { s1.fab with logs := s1.fab.logs.filter fun e => !mine e } } : State).freedLogs) ∧
    (natAt f.payload 8 2 ≠ 0 → exec (.pdone l) s = .next (s1.loseLog mine))) ∧
  (∀ (s r : State) (c : Fin 64) (x : Chan) (ms : List LineMeet) (bs : List Byte), s.chan c.val = some x →
    (x.phase ≠ .running → exec (.pushPoll c ms) s = .next (s.sendUnits c.val ms)) ∧
    (x.phase = .running → (s.den x.slot).phase = .running → (s.den x.slot).settFreeze = false → (s.den x.slot).cmd = none →
      s.engineReady (s.chanLink x) x.slot (x.tailw / 64 * 64) →
      s.engineAccess (s.chanLink x) x.slot (x.tailw / 64 * 64) .read .read (meetAt ms (x.tailw / 64 * 64)) = (kOk, bs, r) →
      (2 ^ x.ringLog < (natAt bs (x.tailw % 64) 4 + 2 ^ 32 - x.done) % 2 ^ 32 →
        exec (.pushPoll c ms) s = .next (r.holdChan c.val fun x => { x with status := kRange })) ∧
      ((natAt bs (x.tailw % 64) 4 + 2 ^ 32 - x.done) % 2 ^ 32 ≤ 2 ^ x.ringLog →
        exec (.pushPoll c ms) s = .next ((r.takeUnits c.val (natAt bs (x.tailw % 64) 4) ms 4).sendUnits c.val ms)))) ∧
  (∀ (s : State) (c : Fin 64) (x : Chan) (unit : BitVec 32) (u : PushUnit) (n : Nat), s.chan c.val = some x →
    (x.units.find? fun u => u.n == unit.toNat && u.failed.isNone) = some u → u.phase = .committed n →
    (n < s.reg 0x1100 5 → exec (.pushRetryExpiry c unit) s = .next (s.sendCommit c.val x u)) ∧
    (s.reg 0x1100 5 ≤ n → exec (.pushRetryExpiry c unit) s = .next (s.failUnit c.val u.n kTimeout)))

/-- The state of a link (R509 to R512, R521, R528, R559): training ends, a link goes down, a failing lane moves to the spare, the bulk PCP
pauses, preemption is verified. It rests on choices of the model too: log entries 194 and 209. -/
def Obligations.LinkState : Prop :=
  (∀ (s : State) (l : LinkIx) (lanes : BitVec 9), s.reg (0x1000 + l.val) 0 = 1 ∨ s.reg (0x1000 + l.val) 0 = 3 →
    s.reg (0x1000 + l.val) 1 = 1 → popCount 9 lanes.toNat = 8 → lanes.getLsbD 8 = false ∨ s.reg (0x1000 + l.val) 3 = 1 →
    (s.link l.val).spareUsed = false ∨ lanes.getLsbD (s.link l.val).lostLane = false →
    Completes (exec (.linkUp l lanes) s) fun r => r.reg (0x1000 + l.val) 0 = 2 ∧ r.reg (0x1000 + l.val) 4 = lanes.toNat ∧
      (r.link l.val).spareUsed = lanes.getLsbD 8) ∧
  (∀ (s : State) (l : LinkIx) (lane : Option (Fin 9)), s.reg (0x1000 + l.val) 0 = 2 →
    (∀ k, lane = some k → (s.reg (0x1000 + l.val) 4).testBit k.val) → Completes (exec (.linkDown l lane) s) fun r =>
    r.reg (0x1000 + l.val) 4 = 0 ∧ r.reg (0x1000 + l.val) 5 = 0 ∧ (r.link l.val).held = [] ∧
    (lane = none ∨ (s.link l.val).spareUsed = false ∨ s.reg (0x1000 + l.val) 3 ≠ 1 → r.reg (0x1000 + l.val) 0 = 3) ∧
    (lane ≠ none → s.reg (0x1000 + l.val) 3 = 1 → (r.link l.val).spareUsed) ∧
    (lane ≠ none → (s.link l.val).spareUsed → s.reg (0x1000 + l.val) 3 = 1 →
      r.reg (0x1000 + l.val) 0 = 4 ∧ (r.link l.val).unavailable)) ∧
  (∀ (s : State) (l : LinkIx) (lane : Fin 8), s.reg (0x1000 + l.val) 0 = 2 → s.reg (0x1000 + l.val) 3 = 1 →
    (s.reg (0x1000 + l.val) 4).testBit lane.val → Completes (exec (.spareSwap l lane) s) fun r =>
      ((s.link l.val).spareUsed = false → r.reg (0x1000 + l.val) 0 = 2 ∧ (r.link l.val).spareUsed ∧
        r.reg (0x1000 + l.val) 4 = s.reg (0x1000 + l.val) 4 - 2 ^ lane.val + 2 ^ 8) ∧
      ((s.link l.val).spareUsed → r.reg (0x1000 + l.val) 0 = 4 ∧ (r.link l.val).unavailable)) ∧
  (∀ (s : State) (l : LinkIx), s.reg (0x1000 + l.val) 0 = 2 →
    exec (.priorityFlowControl l true) s = .next (s.modLink l.val fun x => { x with paused := true }) ∧
    (∀ h, (s.link l.val).held = [h] → h.by_ = .engine → h.frame.payload.length ≤ 4010 → exec (.priorityFlowControl l false) s =
      .next ((s.modLink l.val fun x => { x with paused := false, held := [] }).emit (.frame l.val h.frame)))) ∧
  (∀ (s : State) (l : LinkIx), s.reg (0x1000 + l.val) 0 = 2 →
    exec (.macMergeVerification l none) s = .next (s.setReg (0x1000 + l.val) 5 1) ∧
    exec (.macMergeVerification l (some true)) s = .next (s.setReg (0x1000 + l.val) 5 2) ∧
    exec (.macMergeVerification l (some false)) s = .next (s.setReg (0x1000 + l.val) 5 0))

/-- Occurrences, notifications, claims and completes (R567, R569 to R575, R577, R579). It rests on choices of the model too: log entry 10. -/
def Obligations.InterruptDelivery : Prop :=
  (∀ (s : State) (n : Fin 2048) (cond : Bool), n.val ≠ 0 → n.val ≤ 2004 → Completes (exec (.sourceOccurrence n cond) s) fun r =>
    (levelSource n.val = false → (s.ic.src n.val).act = false →
      r.ic.src n.val = { s.ic.src n.val with pend := true, occ := satAdd 8 (s.ic.src n.val).occ 1 }) ∧
    (levelSource n.val = false → (s.ic.src n.val).act = true →
      r.ic.src n.val = { s.ic.src n.val with repend := true, occ := satAdd 8 (s.ic.src n.val).occ 1 }) ∧
    (levelSource n.val → (s.ic.src n.val).cond = false → cond = true → (s.ic.src n.val).act = false →
      r.ic.src n.val = { s.ic.src n.val with cond := true, pend := true, occ := satAdd 8 (s.ic.src n.val).occ 1 }) ∧
    (levelSource n.val → (s.ic.src n.val).cond = true → cond = false →
      r.ic.src n.val = { s.ic.src n.val with cond := false, pend := false }) ∧
    ∀ m, m ≠ n.val → r.ic.src m = s.ic.src m) ∧
  (∀ (s : State) (t : TgtIx), s.ic.notifiable t.val → Completes (exec (.notification t) s) fun r =>
    (r.ic.tgt t.val).notified = true ∧ (r.ic.tgt t.val).noted = s.ic.best (s.ic.dueSources t.val) ∧ r.ic.srcs = s.ic.srcs ∧
    (t.val < 2048 → kget false s.ic.unmasked t.val = true → s.ic.fnMask = false → r.outbox = .msix t.val :: s.outbox) ∧
    (t.val < 2048 → kget false s.ic.unmasked t.val = false ∨ s.ic.fnMask = true →
      r.outbox = s.outbox ∧ kget false r.ic.pba t.val = true) ∧
    (2048 ≤ t.val → r.outbox = s.outbox ∧ r.ic.pba = s.ic.pba)) ∧
  (∀ (s : State) (t : TgtIx) (g : Fin 64), (s.ic.dom (domainOf t.val)).asleep = false →
    ((s.ic.mod t.val g.val).last = .running → exec (.moderationTimeExpiry t g true) s =
      .next { s with ic := s.ic.setMod t.val g.val { s.ic.mod t.val g.val with last := .passed } }) ∧
    ((s.ic.mod t.val g.val).first ≠ .passed → exec (.moderationTimeExpiry t g false) s =
      .next { s with ic := s.ic.setMod t.val g.val { s.ic.mod t.val g.val with first := .passed } })) ∧
  (∀ (s : State) (t : TgtIx),
    (∀ n, s.ic.best (s.ic.claimables t.val) = some n → Completes (exec (.icClaim t) s) fun r =>
      r.outbox = .claimed t.val n :: s.outbox ∧
      r.ic.src n = { s.ic.src n with pend := false, act := true, owner := t.val, occ := 0 } ∧
      (r.ic.tgt t.val).stack = (n, (s.ic.src n).prio) :: (s.ic.tgt t.val).stack ∧ (r.ic.tgt t.val).notified = false ∧
      ∀ m, m ≠ n → r.ic.src m = s.ic.src m) ∧
    (s.ic.best (s.ic.claimables t.val) = none → Completes (exec (.icClaim t) s) fun r => r.ic.srcs = s.ic.srcs ∧
      r.outbox = .claimed t.val (match (s.ic.tgt t.val).noted, (s.ic.tgt t.val).notedEnd with
        | some _, some .lost => 0x7FF | some _, some .withdrawn => 0x7FE | _, _ => 0) :: s.outbox)) ∧
  (∀ (s : State) (t : TgtIx) (v : BitVec 32) (n : Nat), n = v.toNat % 2048 →
    ((s.ic.src n).act → (s.ic.src n).owner = t.val → Completes (exec (.icComplete t v) s) fun r =>
      (r.ic.src n).act = false ∧ (r.ic.src n).pend = (if levelSource n then (s.ic.src n).cond else (s.ic.src n).repend) ∧
      (r.ic.tgt t.val).stack = dropFirst (fun p => p.1 == n) (s.ic.tgt t.val).stack) ∧
    ((s.ic.src n).act = false ∨ (s.ic.src n).owner ≠ t.val →
      exec (.icComplete t v) s = .next { s with ic := { s.ic with badComplete := bvInc s.ic.badComplete } }))

/-- The registers of the interrupt controller, the MSI-X table and sleep (R566 to R568, R572, R576 to R578, R580 to R583). A host write to the
IC_SRC_CFG of a source whose LOCK is 1 changes nothing and is counted; the firmware's release, before the dictionary is ready, sets LOCK
on the sources it handles. -/
def Obligations.InterruptRegisters : Prop :=
  (∀ (s : State) (n : Fin 2048) (v : BitVec 64) (c : Fin 4), n.val ≠ 0 → n.val ≤ 2045 →
    ((s.ic.src n.val).locked → exec (.icSrcCfg (.source n) v .host) s =
      .next { s with ic := { s.ic with lockedWrites := bvInc s.ic.lockedWrites } }) ∧
    ((s.ic.src n.val).locked = false → Completes (exec (.icSrcCfg (.source n) v .host) s) fun r =>
      (r.ic.src n.val).cfg = v &&& 0x00000000FFFF3F0F) ∧
    Completes (exec (.icSrcCfg (.source n) v (.sett c)) s) fun r => (r.ic.src n.val).cfg = v &&& 0x00000001FFFF3F0F) ∧
  (∀ (s : State) (g : Fin 64) (v : BitVec 64) (w : Writer), Completes (exec (.icSrcCfg (.group g) v w) s) fun r =>
    r.ic.grp g.val = (max 1 (bitsOf v.toNat 0 8), bitsOf v.toNat 8 16, bitsOf v.toNat 24 16)) ∧
  (∀ (s : State) (d : Fin 5) (v : BitVec 64) (w : Writer), exec (.icSrcCfg (.domain d) v w) s =
    .next { s with ic := s.ic.setDom d.val { s.ic.dom d.val with retain := v.toNat.testBit 0 } }) ∧
  (∀ (s : State) (n : Fin 2048) (v : BitVec 64), v.toNat.testBit 32 → n.val ≠ 0 → n.val ≤ 2045 →
    (levelSource n.val = false → Completes (exec (.clr n v) s) fun r => r.ic.src n.val = { s.ic.src n.val with pend := false }) ∧
    (levelSource n.val → exec (.clr n v) s = .next s)) ∧
  (∀ (s : State) (t : TgtIx) (v : BitVec 32), Completes (exec (.icThresh t v) s) fun r =>
    (r.ic.tgt t.val).thresh = v.toNat % 16 ∧ (r.ic.tgt t.val).stack = (s.ic.tgt t.val).stack ∧ r.ic.srcs = s.ic.srcs) ∧
  (∀ (s : State) (d : Fin 5), (s.ic.dom d.val).asleep = false → d.val = 0 → s.host.d3hot = true →
    Completes (exec (.domainSleep d) s) fun r => (r.ic.dom d.val).asleep = true) ∧
  (∀ (s : State) (d : Fin 5), (s.ic.dom d.val).asleep = false → d.val ≠ 0 → (s.ic.dom d.val).retain = true →
    exec (.domainSleep d) s = .next { s with ic := s.ic.setDom d.val { s.ic.dom d.val with asleep := true, wake := false } }) ∧
  (∀ (s : State) (d : Fin 5) (pme : Bool), (s.ic.dom d.val).asleep → (s.ic.dom d.val).wake →
    Completes (exec (.domainWake d pme) s) fun r => (r.ic.dom d.val).wake = false ∧ (r.ic.dom d.val).asleep = (d.val == 0) ∧
      r.ic.wakes = bvInc s.ic.wakes ∧ r.outbox = if d.val = 0 ∧ pme then .pme :: s.outbox else s.outbox) ∧
  (∀ (s : State) (v : Fin 2048) (mask : Bool), Completes (exec (.msiXVectorControl (some v) mask) s) fun r =>
    kget false r.ic.unmasked v.val = !mask ∧
    (mask = false → s.ic.fnMask = false → kget false s.ic.pba v.val = true →
      r.outbox = .msix v.val :: s.outbox ∧ kget false r.ic.pba v.val = false) ∧
    (mask = true ∨ s.ic.fnMask = true ∨ kget false s.ic.pba v.val = false → r.outbox = s.outbox ∧ r.ic.pba = s.ic.pba)) ∧
  (∀ (s : State), exec (.msiXVectorControl none true) s = .next { s with ic := { s.ic with fnMask := true } } ∧
    (∀ v, s.ic.pba = [(v, true)] → kget false s.ic.unmasked v = true → Completes (exec (.msiXVectorControl none false) s) fun r =>
      r.ic.fnMask = false ∧ r.ic.pba = [] ∧ r.outbox = .msix v :: s.outbox)) ∧
  (∀ (s : State) (locks : List (Fin 2048)), s.chip.phase = .boot 1 → s.power.trip = false → s.trust.activeB = false →
    s.trust.bankA.sigOk = true → s.reg 0x1801 4 ≤ s.trust.bankA.svn → s.dict.ready = false →
    Completes (exec (.firmwareRelease [] locks) s) fun r => r.dict.ready = false ∧ ∀ n ∈ locks, (r.ic.src n.val).locked = true)

/-- The mailboxes (R585 to R588): a word of eight bytes is taken by a channel that is not FULL and raises its level source; any other write is
discarded and counted. A write to MBX_ACK while FULL is 1 clears FULL, sets ACKD, records the code and raises the acknowledged source; one
while FULL is 0 changes nothing and is counted; a write to MBX_CFG while FULL is 1 changes nothing. -/
def Obligations.Mailboxes : Prop :=
  (∀ (s : State) (c : Fin 64) (v : BitVec 64) (w : Writer),
    ((s.ic.box c.val).full = false → Completes (exec (.mbxData c v w true) s) fun r =>
      r.ic.box c.val = { s.ic.box c.val with data := v, full := true, ackd := false, ovf := false, seq := (s.ic.box c.val).seq + 1,
                                             wsrc := writerCode w } ∧
      r.ic.mbxAccepted = bvInc s.ic.mbxAccepted ∧ (r.ic.src (1685 + c.val)).cond = true ∧
      ∀ m, m ≠ c.val → r.ic.box m = s.ic.box m) ∧
    ((s.ic.box c.val).full = true → ∀ wide, Completes (exec (.mbxData c v w wide) s) fun r =>
      r.ic.box c.val = { s.ic.box c.val with ovf := true } ∧ r.ic.mbxOverflows = bvInc s.ic.mbxOverflows ∧ r.ic.srcs = s.ic.srcs) ∧
    Completes (exec (.mbxData c v w false) s) fun r =>
      r.ic.box c.val = { s.ic.box c.val with ovf := true } ∧ r.ic.mbxOverflows = bvInc s.ic.mbxOverflows ∧ r.ic.srcs = s.ic.srcs) ∧
  (∀ (s : State) (c : Fin 64) (v : BitVec 32),
    ((s.ic.box c.val).full = true → Completes (exec (.mbxAck c v) s) fun r =>
      r.ic.box c.val = { s.ic.box c.val with full := false, ackd := true, ackCode := v.truncate 16 } ∧
      (r.ic.src (1685 + c.val)).cond = false ∧ ((s.ic.src (1749 + c.val)).act = false → (r.ic.src (1749 + c.val)).pend = true) ∧
      ((s.ic.src (1749 + c.val)).act = true → (r.ic.src (1749 + c.val)).repend = true)) ∧
    ((s.ic.box c.val).full = false →
      exec (.mbxAck c v) s = .next { s with ic := { s.ic with mbxStrayAcks := bvInc s.ic.mbxStrayAcks } })) ∧
  (∀ (s : State) (c : Fin 64) (v : BitVec 32),
    ((s.ic.box c.val).full = false → exec (.mbxCfg c v) s =
      .next { s with ic := s.ic.setBox c.val { s.ic.box c.val with rxdom := v.toNat % 8 } }) ∧
    ((s.ic.box c.val).full = true → exec (.mbxCfg c v) s = .next s))

/-- The pump operations (R240, R245 to R253, R255, R257, R268): an operation in flight, not behind an ordering point, takes up its accesses
where it left them. With no error met and nothing wanted from beyond the chip it is done; an error ends it; a line of a window or of host
memory that it needs is noted; and it keeps its place where others come between. It rests on choices of the model too: log entry 30. -/
def Obligations.PumpOperations : Prop :=
  (∀ (s : State) (t : TileIx) (tag : Fin 16) (f : PumpFacts) (slot : Nat) (op : TagOp) (d : Desc),
    s.slotOf t.val = some slot → kget none (s.tile t.val).pump.tags tag.val = some op → d = Desc.of op.desc → op.done = false →
    op.status = none → op.err = none → op.after = 0 →
    let run : PumpRun := { s := s, slot := slot, t := t.val, tag := tag.val, op := op, meets := f.meets, order := f.order, replay := op.trace,
                           left := f.accesses, sends := op.sends }
    let takes (c : Instr) (work : PM Unit) : Prop :=
      (∀ r, work.run run = (.ok (), r) → exec c s = .next (r.s.setTag r.t r.tag (some { r.leave op with
        done := true, trace := [],
        result := if d.dkind = 1 then some (.v (d.w2 % 64), BitVec.ofNat 512 (leNat (memRead r.reg 0 64))) else none }))) ∧
      (∀ r e loc, work.run run = (.error (.error e loc), r) → exec c s =
        .next ((r.s.setTag r.t r.tag (some { r.leave op with done := true, trace := [] })).pumpError r.t r.tag e loc)) ∧
      (∀ r va, work.run run = (.error (.want va), r) →
        exec c s = .next (r.s.setTag r.t r.tag (some { r.leave op with want := some va }))) ∧
      (∀ r, work.run run = (.error .wait, r) → exec c s = .next (r.s.setTag r.t r.tag (some (r.leave op))))
    (d.op = 1 → takes (.copy t tag f) (evalCopy d)) ∧ (d.op = 2 → takes (.gather t tag f) (evalGather d)) ∧
    (d.op = 3 → takes (.scatter t tag f) (evalScatter d)) ∧ (d.op = 4 → takes (.rmw t tag f) (evalRmw d)) ∧
    (d.op = 5 → takes (.segred t tag f) (evalSegred d)) ∧ (d.op = 6 → takes (.stencil t tag f) (evalStencil d)) ∧
    (d.op = 7 → takes (.spmv t tag f) (evalSpmv d)) ∧ (d.op = 8 → takes (.embed t tag f) (evalEmbed d)) ∧
    (d.op = 9 → takes (.hist t tag f) (evalHist d)) ∧ (d.op = 10 → takes (.compress t tag f) (evalCompress d)) ∧
    (d.op = 11 → takes (.expand t tag f) (evalExpand d)) ∧ (d.op = 12 → takes (.convert t tag f) (evalConvert d)) ∧
    (d.op = 13 → takes (.merge t tag f) (evalMerge d)))

/-- The life of a pump operation and of its line requests (R221, R230, R258, R259, R271, R327, R330, R331, R378, R431, R687). A request that
finds its extent runs on the chip or stops without the right; one that misses asks for a fill; a response frees its slot, or keeps it for
the delay that a waiting den's grant has given, and carries the mark of it. It rests on choices of the model too: log entries 30, 136, 137
and 191. -/
def Obligations.PumpLines : Prop :=
  (∀ (s s0 : State) (t : TileIx) (slot tag : Nat) (loc : BitVec 64) (k : LineAsk) (op : TagOp), s.slotOf t.val = some slot →
    (s.tile t.val).pump.remote.find? (fun y => y.via == .kept && y.loc == loc && y.kind == k.kind) = none →
    (s.tile t.val).turn t.val loc.toNat = some tag → (s.tile t.val).keeps tag (locAddr loc.toNat) = false →
    kget none (s.tile t.val).pump.tags tag = some op → s0 = s.modTile t.val (fun x => x.served tag) →
    (locKind loc.toNat = 0 → (s.tile t.val).pump.room true →
      exec (.pumpLineRequest t loc k) s =
        .next (s0.chipLine slot t.val tag loc k.kind true (.well (ownAddr t.val (locAddr loc.toNat))))) ∧
    (locKind loc.toNat = 2 → s0.pumpHit t.val (locAddr loc.toNat) = none → (s.tile t.val).pump.misses.length < 4 →
      exec (.pumpLineRequest t loc k) s = .next (s0.pumpAsks slot t.val tag (locAddr loc.toNat))) ∧
    (∀ (e : Extent) (s2 : State) (right : LineKind), locKind loc.toNat = 2 →
      s0.pumpHit t.val (locAddr loc.toNat) = some (e, s2) →
      right = (if k.kind = .read ∧ op.needsLine (locAddr loc.toNat) then .write else k.kind) →
      (e.allows right = false → exec (.pumpLineRequest t loc k) s = .next (s2.pumpError t.val tag kExtRights loc.toNat)) ∧
      (∀ a, e.allows right → k.more.val = 0 → e.target (locAddr loc.toNat) = .well a ∨ e.target (locAddr loc.toNat) = .cistern a →
        (s.tile t.val).pump.room ((e.target (locAddr loc.toNat)).own t.val) 1 →
        exec (.pumpLineRequest t loc k) s =
          .next (s2.chipLine slot t.val tag loc k.kind ((e.target (locAddr loc.toNat)).own t.val) (e.target (locAddr loc.toNat)))))) ∧
  (∀ (s : State) (t : TileIx) (tag : Fin 16) (slot : Nat) (m : MissSlot) (e : Extent), s.slotOf t.val = some slot →
    (s.tile t.val).pump.misses.find? (·.tag == tag.val) = some m → (s.den slot).lookup m.va = some e →
    Completes (exec (.fillResponse (.pump t) tag) s) fun r =>
      (r.tile t.val).pump.cache = cacheFill 16 e (s.tile t.val).pump.cache ∧
      (r.tile t.val).pump.misses = (s.tile t.val).pump.misses.filter (·.tag != tag.val)) ∧
  (∀ (s : State) (t : TileIx) (tag : Fin 16) (own : Bool) (slot : Nat) (loc : BitVec 64) (z : LineSlot) (c : Code) (data : List Byte)
    (h : HoldMark), s.slotOf t.val = some slot →
    (if own then (s.tile t.val).pump.own else (s.tile t.val).pump.remote).find?
      (fun y => y.tag == tag.val && y.loc == loc && y.hold.isNone && y.via != .kept) = some z →
    z.via = .chip → z.waits (s.tile t.val) = none → (s.takeMark slot (s.lineCtl slot t.val loc)).1 = h →
    Completes (exec (.pumpLineResponse t tag own c loc data h.contended) s) fun r =>
      let after (l : List LineSlot) : List LineSlot :=
        if h.ns = 0 then dropFirst (fun y => y.tag == tag.val && y.loc == loc && y.hold.isNone && y.via != .kept) l
        else updFirst (fun y => y.tag == tag.val && y.loc == loc && y.hold.isNone && y.via != .kept) (fun y => { y with hold := some h.ns }) l
      (r.tile t.val).pump.own = (if own then after (s.tile t.val).pump.own else (s.tile t.val).pump.own) ∧
      (r.tile t.val).pump.remote = (if own then (s.tile t.val).pump.remote else after (s.tile t.val).pump.remote) ∧
      (h.contended → ∀ op, kget none (r.tile t.val).pump.tags tag.val = some op → op.contended)) ∧
  (∀ (s : State) (t : TileIx), ((s.tile t.val).pump.remote.any fun z => z.hold.isSome) →
    Completes (exec (.holdExpiry (.pump t) false) s) fun r => (r.tile t.val).pump =
      { (s.tile t.val).pump with remote := dropFirst (fun z => z.hold.isSome) (s.tile t.val).pump.remote }) ∧
  (∀ (s : State) (t : TileIx), ((s.tile t.val).pump.own.any fun z => z.hold.isSome) →
    Completes (exec (.holdExpiry (.pump t) true) s) fun r => (r.tile t.val).pump =
      { (s.tile t.val).pump with own := dropFirst (fun z => z.hold.isSome) (s.tile t.val).pump.own }) ∧
  (∀ (s : State) (l : LinkIx) (own : Bool), (s.link l.val).places ≠ [] →
    Completes (exec (.holdExpiry (.link l) own) s) fun r => (r.link l.val).places = (s.link l.val).places.drop 1) ∧
  (∀ (s : State) (own : Bool), s.host.places ≠ [] →
    Completes (exec (.holdExpiry .host own) s) fun r => r.host.places = s.host.places.drop 1) ∧
  (∀ (s : State) (t : TileIx) (tag : Fin 16) (op : TagOp), kget none (s.tile t.val).pump.tags tag.val = some op → op.status = none →
    (s.tile t.val).linesOut tag.val = false →
    (op.err = none → op.done → op.sends = [] → Completes (exec (.pumpComplete t tag) s) fun r =>
      ∃ o, kget none (r.tile t.val).pump.tags tag.val = some o ∧ o.status = some kOk ∧ ¬ tag.val ∈ (r.tile t.val).pump.order) ∧
    (∀ c loc, op.err = some (c, loc) → Completes (exec (.pumpComplete t tag) s) fun r =>
      ∃ o, kget none (r.tile t.val).pump.tags tag.val = some o ∧ o.status = some c ∧ o.failLoc = BitVec.ofNat 64 loc)) ∧
  (∀ (s : State) (t : TileIx) (tag : Fin 16) (op : TagOp), kget none (s.tile t.val).pump.tags tag.val = some op → op.status = none →
    Completes (exec (.pumpOwlExpiry t tag) s) fun r =>
      ∃ o, kget none (r.tile t.val).pump.tags tag.val = some o ∧ o.status = some (op.err.elim kTimeout (·.1))) ∧
  (∀ (s : State) (t : TileIx) (tag : Fin 16) (op : TagOp) (c : Code), kget none (s.tile t.val).pump.tags tag.val = some op →
    op.status = some c → c ≠ kOk → (s.tile t.val).linesOut tag.val →
    exec (.pumpTagReset t tag) s = .next (s.beginReset (.engine (.pump t.val)) kTimeout))

/-- Relay arrivals, freezes, clear reports, resumes, the stream owl and the seam (R55, R79 to R89, R95, R96, R209 to R214): what each does to
its tile or den; follow engages with P and is released; a crossing that trains with more failing wires than it has spares is out of
service. It rests on choices of the model too: log entries 111, 168, 172 and 173. -/
def Obligations.SlipEvents : Prop :=
  (∀ (s : State) (t : TileIx) (d : Dir) (slot : Nat) (v : RelayVal), s.slotOf t.val = some slot →
    (s.den slot).wave.transit.find? (nextIn (s.den slot).wave t.val d) = some v → v.ready ≤ (s.tile t.val).bundle →
    (s.tile t.val).fenced = false → (kget [] (s.tile t.val).latches (dirIx d)).length < 4 →
    Completes (exec (.relayArrival t d) s) fun r =>
      kget [] (r.tile t.val).latches (dirIx d) = kget [] (s.tile t.val).latches (dirIx d) ++ [{ val := v.val }] ∧
      (r.den slot).wave.transit = dropFirst (nextIn (s.den slot).wave t.val d) (s.den slot).wave.transit) ∧
  (∀ (s : State) (t : TileIx) (came : Dir) (slot : Nat) (g : Signal), s.slotOf t.val = some slot →
    (s.den slot).wave.signals.find? (fun g => g.dest == t.val && g.came == came && g.sig == .freeze) = some g →
    (s.tile t.val).frozen = none → (s.den slot).wave.toResume.contains t.val = false →
    g.at' ≤ (s.den slot).cycle t.val (s.tile t.val) →
    Completes (exec (.freezeSignal t came) s) fun r => ∃ f, (r.tile t.val).frozen = some f ∧ f.source = none ∧ f.since = g.at') ∧
  (∀ (s : State) (t : TileIx) (slot : Nat) (g : Signal) (f : Frozen), s.slotOf t.val = some slot →
    (s.den slot).wave.signals.find? (fun g => g.dest == t.val && g.came == .east &&
      (match g.sig with | .clear => true | .error _ _ _ => true | _ => false)) = some g → g.sig = .clear →
    (s.tile t.val).frozen = some f →
    Completes (exec (.clearReport t .east) s) fun r => ∃ f', (r.tile t.val).frozen = some f' ∧ f'.east = some g.at' ∧
      f'.since = f.since ∧ f'.south = f.south) ∧
  (∀ (s : State) (i : SlotIx) (waited a b : Nat), (s.den i.val).phase = .running → (s.den i.val).wave.stopping = false →
    (s.den i.val).wave.sources ≠ [] → (s.den i.val).wave.clearAt = some a → (s.den i.val).wave.freezeAt = some b → a ≤ b + waited →
    Completes (exec (.resumeSignalSend i waited) s) fun r =>
      (r.den i.val).wave.z = (s.den i.val).wave.z + (2 * (s.den i.val).rect.span + waited) ∧
      (r.den i.val).slipCyc = slipAdd 0 (2 * (s.den i.val).rect.span + waited) (s.den i.val).slipCyc ∧
      (r.den i.val).slipCnt = slipAdd 0 1 (s.den i.val).slipCnt ∧ (r.den i.val).wave.sources = [] ∧ (r.den i.val).wave.resuming = true) ∧
  (∀ (s : State) (t : TileIx) (slot n : Nat) (f : Frozen), s.slotOf t.val = some slot → (s.tile t.val).frozen = some f →
    f.resumed = false → (s.den slot).wave.toResume.contains t.val → (s.den slot).rect.next t.val .west = some n →
    (s.den slot).wave.toResume.contains n = false →
    exec (.resumeSignal t) s = .next ((s.modDen slot fun d =>
      { d with wave := { d.wave with toResume := d.wave.toResume.erase t.val } }).setTile t.val { s.tile t.val with frozen := some { f with resumed := true } })) ∧
  (∀ (s : State) (t : TileIx) (slot : Nat) (f : Frozen), s.slotOf t.val = some slot → (s.tile t.val).frozen = some f →
    f.resumed = true → (s.den slot).wave.transit = [] →
    Completes (exec (.resumeCountdownExpiry t) s) fun r => (r.tile t.val).frozen = none ∧
      (r.tile t.val).bundle = (s.tile t.val).bundle) ∧
  (∀ (s : State) (i : SlotIx) (frozen : Nat), (s.den i.val).phase = .running → (s.den i.val).wave.stopping = false →
    ((s.den i.val).rect.tiles.any fun t => (s.tile t).frozen.any fun f => !f.resumed) →
    ((s.den i.val).wave.sources ≠ [] → Completes (exec (.streamOwlExpiry i frozen) s) fun r =>
      (r.den i.val).phase = .faulted ∧ (r.den i.val).faultCode = 0x000C ∧
      (r.den i.val).slipCyc = slipAdd 0 frozen (s.den i.val).slipCyc ∧ (r.den i.val).slipCnt = slipAdd 0 1 (s.den i.val).slipCnt) ∧
    ((s.den i.val).wave.sources = [] → (s.den i.val).wave.ended.1 ≠ [] → Completes (exec (.streamOwlExpiry i frozen) s) fun r =>
      (r.den i.val).phase = .faulted ∧ (r.den i.val).faultCode = 0x000C ∧
      (r.den i.val).slipCyc = slipAdd (s.den i.val).wave.ended.2 frozen (s.den i.val).slipCyc)) ∧
  (∀ (s : State) (p : Rat) (d : Int), d = Int.tdiv p.num p.den → s.seam.trained →
    (s.seam.follow → s.seam.stretched = none → d ≠ 0 → d.natAbs ≤ 2 → exec (.seamFollowEngage p) s = .next { s with seam := { s.seam with
      p := p, dpeak := min 255 (max s.seam.dpeak d.natAbs), stretched := some (if 0 < p then .east else .west),
      followCnt := BitVec.ofNat 64 (min (2 ^ 64 - 1) (s.seam.followCnt.toNat + 1)) } }) ∧
    (s.seam.follow = false ∨ d = 0 ∨ (s.seam.stretched ≠ none ∧ d.natAbs ≤ 2) → (s.seam.stretched = some .east → 0 < p) →
      (s.seam.stretched = some .west → p < 0) → exec (.seamFollowEngage p) s = .next { s with seam := { s.seam with
      p := p, dpeak := min 255 (max s.seam.dpeak d.natAbs) } })) ∧
  (∀ (s : State) (cycles : Nat) (h : Half), s.seam.stretched = some h →
    exec (.seamFollowRelease cycles) s = .next { s with seam := { s.seam with
      p := 0, stretched := none, followCyc := BitVec.ofNat 64 (min (2 ^ 64 - 1) (s.seam.followCyc.toNat + cycles)) } }) ∧
  (∀ (s : State) (row : Fin 64) (relay eastward : Bool) (wires : Nat), s.chip.phase = .boot 2 ∨ s.chip.phase = .boot 3 →
    s.seam.trained = false →
    Completes (exec (.seamTraining [{ row := row, relay := relay, eastward := eastward, wires := wires }]) s) fun r =>
      r.seam.trained = true ∧ r.seam.fifos = [] ∧ r.seam.p = 0 ∧
      (∀ j < 64, r.seam.relayUp.getLsbD j = !(relay && decide (8 < wires) && decide (j = row.val))) ∧
      (∀ j < 64, r.seam.meshUp.getLsbD j = !(!relay && decide (4 < wires) && decide (j = row.val))))

/-- The wells (R224 to R228, R273 to R278): a line access in a well in service, the refresh, the patrol, a row repair and a shaft's remap. It
rests on choices of the model too: log entries 9, 178 and 206. -/
def Obligations.WellEvents : Prop :=
  (∀ (s : State) (a : BitVec 41) (who : Agent) (n line : Nat), n = a.toNat / 2 ^ 37 % 16 → line = a.toNat % 2 ^ 37 / 64 →
    s.reg (0x300 + n) 0 = 1 → ¬ (s.well n).lost.contains (line / 2 ^ 22) → kget 0 (s.well n).bad line = 0 →
    exec (.wellAccess a .read who 0) s = .next (s.emit (.line who kOk (memRead (s.well n).data (64 * line) 64)))) ∧
  (∀ (s : State) (a : BitVec 41) (k : Access) (who : Agent) (n line : Nat) (l : List Byte), n = a.toNat / 2 ^ 37 % 16 →
    line = a.toNat % 2 ^ 37 / 64 → s.reg (0x300 + n) 0 = 1 → ¬ (s.well n).lost.contains (line / 2 ^ 22) →
    kget 0 (s.well n).bad line = 0 → accessFits k → accessLine k (memRead (s.well n).data (64 * line) 64) = some l →
    Completes (exec (.wellAccess a k who 0) s) fun r => (r.well n).data = memWrite (s.well n).data (64 * line) l ∧
      (∀ m, m ≠ n → r.well m = s.well m) ∧
      r.outbox = .line who kOk (accessAnswer k (memRead (s.well n).data (64 * line) 64)) :: s.outbox) ∧
  (∀ (s : State) (w : WellIx) (shaft : Fin 512) (bank : Fin 64), s.reg (0x300 + w.val) 0 = 1 →
    Completes (exec (.refresh w shaft bank) s) fun r =>
      kget 0 (r.well w.val).refresh (64 * shaft.val + bank.val) = (kget 0 (s.well w.val).refresh (64 * shaft.val + bank.val) + 1) % 2048 ∧
      (r.well w.val).data = (s.well w.val).data) ∧
  (∀ (s : State) (w : WellIx) (bad : Nat), s.reg (0x300 + w.val) 0 = 1 →
    Completes (exec (.patrolScrub w bad) s) fun r => r.reg (0x300 + w.val) 0x0B = (s.reg (0x300 + w.val) 0x0B + 1) % 2 ^ 31 ∧
      (r.well w.val).data = (s.well w.val).data) ∧
  (∀ (s : State) (w : WellIx) (shaft : Fin 512) (bank : Fin 64) (row : Fin 2048) (b : Nat), b = 64 * shaft.val + bank.val →
    4 ≤ (kget [] (s.well w.val).corrected (2048 * b + row.val)).length →
    (kget 0 (s.well w.val).rowsUsed b < 32 → Completes (exec (.rowRepair w shaft bank row) s) fun r =>
      kget 0 (r.well w.val).rowsUsed b = kget 0 (s.well w.val).rowsUsed b + 1 ∧
      r.reg (0x300 + w.val) 8 = sparesMin (r.well w.val).rowsUsed 32 ∧ (r.well w.val).data = (s.well w.val).data) ∧
    (32 ≤ kget 0 (s.well w.val).rowsUsed b → (s.well w.val).lost.contains shaft.val = false → (s.well w.val).copying = none →
      Completes (exec (.rowRepair w shaft bank row) s) fun r => (r.well w.val).wanted.contains shaft.val)) ∧
  (∀ (s : State) (w : WellIx) (shaft : Fin 512) (sp : Fin 16), (s.well w.val).wanted.contains shaft.val → (s.well w.val).copying = none →
    ((s.well w.val).spareFree sp.val → Completes (exec (.remapStart w shaft sp) s) fun r =>
      (r.well w.val).copying = some { shaft := shaft.val, spare := sp.val } ∧
      (r.well w.val).wanted = (s.well w.val).wanted.filter (· != shaft.val)) ∧
    ((s.well w.val).freeSpare = none → Completes (exec (.remapStart w shaft sp) s) fun r => (r.well w.val).lost.contains shaft.val)) ∧
  (∀ (s : State) (w : WellIx) (c : Remap) (lines : Nat), (s.well w.val).copying = some c →
    (∀ l, 2 ^ 22 * c.shaft + c.next ≤ l → l < 2 ^ 22 * (c.shaft + 1) → kget 0 (s.well w.val).bad l < 2) →
    (c.next + lines < 2 ^ 22 → Completes (exec (.remapCopyEnd { well := w, lines := lines }) s) fun r =>
      (r.well w.val).copying = some { c with next := c.next + lines } ∧ (r.well w.val).data = (s.well w.val).data) ∧
    (2 ^ 22 ≤ c.next + lines → Completes (exec (.remapCopyEnd { well := w, lines := lines }) s) fun r => (r.well w.val).copying = none ∧
      kget 0xFFFF (r.well w.val).spares c.spare = c.shaft ∧ (r.well w.val).data = (s.well w.val).data))

/-- The reservoir (R290, R297 to R302, R307, R308): a line access in a cistern in service, a controller's part of a key epoch roll and its
end, and the rebuild of a fenced range. It rests on choices of the model too: log entries 9, 128, 180, 181 and 208. -/
def Obligations.ReservoirEvents : Prop :=
  (∀ (s : State) (a : BitVec 42) (who : Agent) (c off : Nat), c = a.toNat / 2 ^ 37 % 32 → off = a.toNat % 2 ^ 37 / 64 * 64 → off < cisBytes →
    s.reg 0x340 8 ≠ 1 → s.reg (0x320 + c) 0 = 1 →
    (((s.cis c).fenced ++ (s.cis c).rebuilding ++ (s.cis c).retired).any fun r => r.start ≤ off && off < r.start + r.len) = false →
    kget false (s.cis c).corrupt (off / 64) = false →
    Completes (exec (.cisternAccess a .read who {}) s) (fun r => (r.cis c).data = (s.cis c).data ∧ r.outbox = .line who kOk
      (if kget 0 (s.cis c).minor (off / 64) = 0 then List.replicate 64 0 else memRead (s.cis c).data off 64) :: s.outbox) ∧
    (∀ k l, accessFits k → (s.cis c).new = none → kget 0 (s.cis c).minor (off / 64) < 127 →
      accessLine k (if kget 0 (s.cis c).minor (off / 64) = 0 then List.replicate 64 0 else memRead (s.cis c).data off 64) = some l →
      Completes (exec (.cisternAccess a k who {}) s) fun r => (r.cis c).data = memWrite (s.cis c).data off l ∧
        kget 0 (r.cis c).minor (off / 64) = kget 0 (s.cis c).minor (off / 64) + 1)) ∧
  (∀ (s : State) (c : CisIx), s.reg 0x340 3 = 1 → (s.cis c.val).new = none → (s.cis c.val).swept = false →
    Completes (exec (.rollKeyLoad c) s) fun r => (r.cis c.val).new = some (!(s.cis c.val).live) ∧
      (if (s.cis c.val).live then (r.cis c.val).key0 = some s.rollKey.1 ∧ (r.cis c.val).key1 = (s.cis c.val).key1
        else (r.cis c.val).key1 = some s.rollKey.1 ∧ (r.cis c.val).key0 = (s.cis c.val).key0) ∧
      (r.cis c.val).sweepRegion = 0 ∧ (r.cis c.val).sweepPage = 0 ∧ (r.cis c.val).data = (s.cis c.val).data) ∧
  (∀ (s : State) (c : CisIx) (n : Bool) (x : Cistern) (page : Nat), x = s.cis c.val → x.new = some n → x.swept = false →
    page = 2 ^ 18 * x.sweepRegion + x.sweepPage →
    (s.sweepSkips c.val page → exec (.sweepStep c {}) s = .next (s.setCis c.val (x.advance n))) ∧
    (s.sweepSkips c.val page = false → kget false x.moved page = false → x.firstBad page none = none →
      Completes (exec (.sweepStep c {}) s) fun r => (r.cis c.val).data = x.data ∧ kget 0 (r.cis c.val).major page = 0 ∧
        (∀ l < 64, kget 0 (r.cis c.val).minor (64 * page + l) = if kget 0 x.minor (64 * page + l) = 0 then 0 else 1) ∧
        (r.cis c.val).sweepPage = (x.advance n).sweepPage ∧ (r.cis c.val).sweepRegion = (x.advance n).sweepRegion ∧
        (r.cis c.val).swept = (x.advance n).swept)) ∧
  (∀ (s : State), s.reg 0x340 3 = 1 → (∀ c < 32, (s.cis c).swept) →
    Completes (exec .rollEnd s) fun r => r.reg 0x340 3 = 0 ∧
      ∀ c < 32, (r.cis c).new = none ∧ (r.cis c).swept = false ∧
        (if (s.cis c).new.getD false then (r.cis c).key0 = none ∧ (r.cis c).key1 = (s.cis c).key1
          else (r.cis c).key1 = none ∧ (r.cis c).key0 = (s.cis c).key0)) ∧
  (∀ (s : State) (c : CisIx) (i : Nat) (g : CRange), (s.cis c.val).fenced[i]? = some g →
    ¬ (s.dens.any fun p => p.2.extents.any fun e => e.kind == 2 && overlaps e.tbase e.len (2 ^ 37 * c.val + g.start) g.len) →
    exec (.rebuild c i) s = .next (s.setCis c.val { s.cis c.val with
      fenced := (s.cis c.val).fenced.eraseIdx i, rebuilding := (s.cis c.val).rebuilding ++ [g] })) ∧
  (∀ (s : State) (c : CisIx) (g : CRange) (gs : List CRange), (s.cis c.val).rebuilding = g :: gs →
    Completes (exec (.rebuildEnd c true) s) (fun r => (r.cis c.val).rebuilding = gs ∧ (r.cis c.val).fenced = (s.cis c.val).fenced ∧
      ∀ k v, (k, v) ∈ (r.cis c.val).minor → k < g.start / 64 ∨ g.start / 64 + g.len / 64 ≤ k) ∧
    Completes (exec (.rebuildEnd c false) s) fun r => (r.cis c.val).rebuilding = gs ∧
      (r.cis c.val).retired = (s.cis c.val).retired ++ [g])

/-- The regulated controllers and the mesh (R364, R368, R370, R371 to R377, R382): a slot given to the waiting den of positive balance, one
taken by a refresh, the end of a window, an ejection, a merge of reports, and the routes. It rests on choices of the model too: log
entries 50, 52, 136, 147 and 183. -/
def Obligations.RegulationEvents : Prop :=
  (∀ (s s' : State) (k : CtlIx) (u : SlotUse), u.refresh → s.reg 0x2300 0 ≠ 1 → u.level ≤ queueDepth k.val → oneSave u →
    (k.val < 16 ∨ u.port = 0 ∧ u.elsewhere = [] ∧ u.rtElsewhere = []) →
    s' = s.setCtl k.val { s.ctl k.val with levels := kput 0 (s.ctl k.val).levels u.port.val u.level } →
    exec (.regSlot k u) s = .next (s'.setReg (0x2100 + k.val) 0 ((s'.ctl k.val).levels.foldl (fun m x => max m x.2) 0))) ∧
  (∀ (s : State) (k : CtlIx) (n : SlotIx) (level b : Nat), s.reg 0x2300 0 ≠ 1 → level ≤ queueDepth k.val →
    kget 0 (s.ctl k.val).balance n.val = (b : Int) → 0 < b + s.guar k.val n.val → (b : Int) + s.guar k.val n.val < s.balLim k.val →
    Completes (exec (.regSlot k { dens := [n], level := level }) s) fun r =>
      (r.ctl k.val).slots = (s.ctl k.val).slots + 1 ∧
      kget 0 (r.ctl k.val).balance n.val = clampBal (s.balLim k.val) ((b : Int) + s.guar k.val n.val - 256) ∧
      kget 0 (r.den n.val).slots k.val = bvInc (kget 0 (s.den n.val).slots k.val)) ∧
  (∀ (s : State) (k : CtlIx), s.reg 0x2300 0 = 0 → (s.ctl k.val).starved = [] →
    exec (.monWindowEnd k) s = .next (s.setCtl k.val { s.ctl k.val with slots := 0, starved := [] })) ∧
  (∀ (s : State) (i time : Nat) (f : Flit), s.mesh.arrived[i]? = some (time, f) → time ≤ s.mesh.clock → f.vc = 0 →
    ((s.mesh.arrived.take i).any fun p => p.2.vc == 0 && p.2.src == f.src && p.2.dst == f.dst) = false →
    Completes (exec (.vc0Eject i) s) fun r =>
      r.reg 0x2300 3 = max (s.reg 0x2300 3) (BitVec.ofNat 16 time - f.stamp).toNat ∧ r.mesh.arrived = s.mesh.arrived.eraseIdx i) ∧
  (∀ (s : State) (here : Fin 8448) (i j : Nat) (a b : Nat × Nat), s.mesh.joinable here.val i j = some (a, b) →
    exec (.reportMerge here i j) s = .next (({ s with mesh := s.mesh.join a b } : State).bump 0x2300 4)) ∧
  (∀ (s : State), s.repair.routesStale → s.mesh.idle →
    Completes (exec .routeCompute s) fun r => r.repair.unreachable = s.repair.lostRouters ∧ r.repair.routesStale = false) ∧
  (∀ (s : State) (i : SlotIx) (who : Agent) (v : Inval), (s.den i.val).invals.find? (fun v => v.left.contains who) = some v →
    (s.agentBusy who v.old → exec (.extInvalidate i who) s = .next (s.dropEntry who i.val v.old)) ∧
    (¬ s.agentBusy who v.old → exec (.extInvalidate i who) s = .next (((s.dropEntry who i.val v.old).modDen i.val fun d =>
      { d with invals := updFirst (fun v => v.left.contains who) (fun v => { v with left := v.left.filter (· != who) }) d.invals }).reportInval
        i.val v.seq who))) ∧
  (∀ (s : State) (i : SlotIx) (v : Inval) (vs : List Inval), (s.den i.val).invals = v :: vs → v.left = [] → v.got = v.expect →
    Completes (exec (.invalidationDone i) s) fun r => (r.den i.val).invals = vs) ∧
  (∀ (s : State) (pasid : BitVec 20) (base : BitVec 64) (len : Nat),
    Completes (exec (.atsInvalidate pasid base len) s) fun r =>
      (∀ e ∈ r.host.atc, e ∈ s.host.atc ∧ ¬ (e.pasid = pasid.toNat ∧ overlaps (4096 * e.page) 4096 base.toNat len)) ∧
      (s.host.atsHolds = [] → (∀ t z, z ∈ (s.tile t).pump.remote → z.via ≠ .host) →
        r.outbox = .atsDone pasid.toNat base.toNat :: s.outbox)) ∧
  (∀ (s : State) (pasid : BitVec 20) (page xlat : BitVec 64) (rd wr : Bool), rd || wr →
    (s.host.atsWaits.any fun w => w.pasid == pasid.toNat && w.page == page.toNat) →
    Completes (exec (.atsTranslation pasid page rd wr xlat) s) fun r =>
      r.host.atc = (({ pasid := pasid.toNat, page := page.toNat, rd := rd, wr := wr, xlat := xlat.toNat } : AtcEntry) ::
        s.host.atc).take 2048)

/-- The Meter (R624 to R642): frames, a lost link, pairing, the seal, receipts, and the energy that it counts. It rests on choices of the
model too: log entries 121, 122 and 123. -/
def Obligations.MeterCommands : Prop :=
  (∀ (s : State) (k : MeterKind), s.meter.powered → s.aonRuns →
    (exec (.meterFrame { toMeter := true, kind := k, macOk := false }) s = .next (s.bump 0x1C00 9)) ∧
    (s.meter.keyMeter.isSome → exec (.meterFrame { toMeter := true, kind := .heartbeat, macOk := true }) s =
      .next { s with meter := { s.meter with lastFrame := s.meter.ticks } }) ∧
    (s.meter.keyMeter.isSome → s.meter.resetDue = false → ∀ c rest, s.meter.frames = c :: rest →
      exec (.meterFrame { toMeter := true, kind := .change, macOk := true }) s =
        .next (({ s with meter := { s.meter with lastFrame := s.meter.ticks, frames := rest } } : State).stampChange c)) ∧
    (s.meter.keyMeter.isSome → s.meter.resetDue → exec (.meterFrame { toMeter := true, kind := .reset, macOk := true }) s =
      .next ({ s with meter := { s.meter with lastFrame := s.meter.ticks, resetDue := false } } : State).closeAll) ∧
    (s.meter.keyPkg.isSome → exec (.meterFrame { toMeter := false, kind := .heartbeat, macOk := true }) s =
      .next ({ s with meter := { s.meter with heard := true } } : State).mirror.settleMeter)) ∧
  (∀ (s : State) (ms : BitVec 64), s.meter.powered → s.meter.lostSince = none → s.meter.keyMeter.isSome →
    Completes (exec (.meterLinkLost true ms) s) fun r => r.meter.lostSince = some s.meter.lastFrame ∧ r.meter.keyMeter = none ∧
      ∀ t ∈ r.meter.tenures, t.unmetered = true) ∧
  (∀ (s : State) (ms : BitVec 64), s.meter.up → s.aonRuns → s.meter.gapOpen = false →
    Completes (exec (.meterLinkLost false ms) s) fun r => r.meter.up = false ∧ r.meter.keyPkg = none ∧ r.meter.gapOpen = true ∧
      r.meter.gapStart = ms.toNat ∧ r.meter.gapChanges = 0 ∧
      (s.meter.powered = false ∨ s.meter.sealOpen = false → r.reg 0x1C00 0 = 3)) ∧
  (∀ (s : State) (d c : Bool), s.meter.powered → s.trust.vault.isSome → s.meter.up = false → d = (sha s.modulus == recordedDevid) →
    c = false ∨ d = false → Completes (exec (.meterPairing d c) s) fun r => r.meter.pairFailed = true ∧ r.meter.up = false) ∧
  (∀ (s : State) (x : Meter), x = s.meter → x.powered → s.trust.vault.isSome → s.trust.udsGone = false → x.up = false →
    Completes (exec (.meterPairing true true) s) fun r =>
      (∃ k, r.meter.keyMeter = some k ∧ r.meter.keyPkg = some k) ∧ r.meter.up = true ∧ r.meter.pairFailed = false ∧
      r.meter.resync = x.gapOpen ∧ r.meter.frames = ((kkeys s.dens).filter fun n => (s.den n).phase != .free).map s.changeOf ∧
      (x.sealOpen = false → r.reg 0x1C00 0 = if x.gapOpen then 1 else 2)) ∧
  (∀ (s : State), s.meter.sealOpen = false → Completes (exec .meterSealOpen s) fun r => r.meter.sealOpen = true ∧
    (s.meter.powered → r.reg 0x1C00 0 = 4)) ∧
  (∀ (s : State), s.meter.powered → 1500000000 ≤ s.meter.ticks - s.meter.periodStart → s.meter.tenures.length ≤ 48 →
    Completes (exec .periodReceipt s) fun r => r.meter.periodStart = s.meter.ticks ∧ r.meter.rnum = s.meter.rnum + 1 ∧
      r.meter.unmetered = 0 ∧ (∀ t ∈ r.meter.tenures, t.ints = {}) ∧ r.meter.tenures.length = s.meter.tenures.length) ∧
  (∀ (s : State) (n t0 : Nat) (ms : BitVec 64), s.meter.lostSince = some t0 → s.meter.up → s.meter.resync → s.meter.frames = [] →
    s.meter.ticks - t0 ≤ n → s.meter.tenures = [] → Completes (exec (.unmeteredReceipt n ms) s) fun r =>
      r.meter.lostSince = none ∧ r.meter.resync = false ∧ r.meter.gapOpen = false ∧ r.meter.rnum = s.meter.rnum + 1 ∧
      (s.meter.sealOpen = false → r.reg 0x1C00 0 = 2)) ∧
  (∀ (s : State) (mJ ticks : Nat), s.meter.powered → exec (.energySample mJ ticks) s = .next { s with meter := { s.meter with
    energy := (s.meter.energy + mJ) % 2 ^ 64, ticks := s.meter.ticks + ticks } })

/-- The power manager (R646 to R658, R668): each microsecond's estimate enters the averages, and the level rises while the power is above its
limits; the gain follows the measured power within its clamp; the droop sensors stretch the clock, which returns in steps. It rests on
choices of the model too: log entries 95 and 125. -/
def Obligations.PowerLevels : Prop :=
  (∀ (s : State) (f : PowerFacts) (est : Rat), s.powerRuns → est = ({ s with power := s.power.moveVolts } : State).estimate f →
    Completes (exec (.powerEval f) s) fun r => r.power.volts = s.power.moveVolts.volts ∧
    r.power.hist = (s.power.gain * est :: s.power.hist).take 1000000 ∧ r.power.ests = (est :: s.power.ests).take 50 ∧
    (s.power.brake → r.power.lp = s.power.lp) ∧
    (s.power.brake = false → 97 / 100 * (s.reg 0x0210 1 : Rat) < s.power.gain * est → s.power.lp < 26 →
      4 ≤ s.power.sinceRise → r.power.lp = max (s.power.lp + 1) (s.reg 0x0200 1) ∧ r.power.peak = true) ∧
    (s.power.brake = false → 97 / 100 * (s.reg 0x0210 1 : Rat) < s.power.gain * est → s.power.sinceRise < 4 →
      r.power.lp = max s.power.lp (s.reg 0x0200 1))) ∧
  (∀ (s : State) (rails : List (Rat × Rat)) (meas g : Rat), s.powerRuns → rails.length = 16 → 0 < ratMean s.power.ests →
    meas = (rails.getD 15 (0, 0)).1 * (s.f32 0x0281 15 * (rails.getD 15 (0, 0)).2 + s.f32 0x0281 31) →
    g = s.power.gain + (meas / ratMean s.power.ests - s.power.gain) / 8 → Completes (exec (.gainCorrection rails) s) fun r =>
      r.power.railV = rails.map (·.1) ∧
      (8 / 10 ≤ g → g ≤ 16 / 10 → r.power.gain = g ∧ r.power.clamped = 0) ∧
      (g < 8 / 10 → r.power.gain = 8 / 10 ∧ r.power.clamped = s.power.clamped + 1) ∧
      (16 / 10 < g → r.power.gain = 16 / 10 ∧ r.power.clamped = s.power.clamped + 1)) ∧
  (∀ (s : State) (k : Nat), s.power.rising = some k → s.power.volts = stepVolt k →
    exec .stepChangeSettled s = .next { s with power := { s.power with step := k, rising := none } }) ∧
  (∀ (s : State) (h : Half) (xs : List RailSample), s.powerRuns → (∀ x ∈ xs, blockHalf x.block.val = h) →
    let below (share : Nat) : Prop := ∃ x ∈ xs, (x.uV : Int) * 10000 <
      (1000 * stepVolt s.power.step : Nat) * (10000 - share - 5 * (BitVec.ofNat 8 (natAt (s.dict.blob 0x0283 0) x.block.val 1)).toInt)
    (¬ below 600 → below 400 → exec (.droopTrip h xs false) s = .next (s.setDroop h
      { called := 1, force := max (s.power.droop h).force 1,
        falling := (s.power.droop h).falling && decide (1 < (s.power.droop h).force) })) ∧
    (below 600 → Completes (exec (.droopTrip h xs true) s) fun r => (r.power.droop h).called = 2 ∧
      (r.power.droop h).force = max (s.power.droop h).force 2 ∧
      (∀ b : Nat, b ∈ (r.power.droop h).deep ↔ ∃ x ∈ xs, x.block.val = b ∧ s.droops 600 x = true) ∧
      ((r.power.droop h).deep.all (s.power.droop h).deep.contains → ∀ el, r.reg 0x0200 el = s.reg 0x0200 el)) ∧
    (¬ below 600 → ¬ below 400 → Completes (exec (.droopTrip h xs false) s) fun r => (r.power.droop h).called = 0 ∧
      (r.power.droop h).force = (s.power.droop h).force)) ∧
  (∀ (s : State) (h : Half) (cycles : Nat), (s.power.droop h).called < (s.power.droop h).force →
    (if (s.power.droop h).falling then 32 else 64) ≤ cycles → Completes (exec (.stretchDecay h cycles) s) fun r =>
      (r.power.droop h).force = (s.power.droop h).force - 1 ∧ (r.power.droop h).called = (s.power.droop h).called)

/-- The brake, the input, the rails and temperature (R660 to R666, R725, R729): an edge of the pin brakes at once where the dictionary serves,
a sag does too, and the brake ends when both are over; a rail fault resets what the rail feeds. Readings are kept with their offsets, the
thermal level follows its thresholds, and a chip reset ends a trip. It rests on choices of the model too: log entries 9, 155 and 187. -/
def Obligations.InputsAndTemperature : Prop :=
  (∀ (s : State), s.aonRuns →
    (s.power.pinLow = false → Completes (exec (.pwrBrake true) s) fun r => r.power.pinLow = true ∧
      (s.power.trip = false → s.chip.phase = .ready → r.power.brake = true)) ∧
    (s.power.pinLow = true → exec (.pwrBrake false) s =
      .next (({ s with power := { s.power with pinLow := false } } : State).level 1879 s.power.sag)) ∧
    (s.power.sag = false → Completes (exec .inputSag s) fun r => r.power.sag = true ∧
      (s.power.trip = false → s.chip.phase = .ready → r.power.brake = true))) ∧
  (∀ (s : State), s.power.brake → s.power.pinLow = false → s.power.sag = false →
    exec .brakeEnd s = .next { s with power := { s.power with brake := false } }) ∧
  (∀ (s : State), s.power.sag → Completes (exec .sagEnd s) fun r => r.power.sag = false ∧
    r.power.brake = (s.power.brake && s.power.pinLow)) ∧
  (∀ (s : State), s.aonRuns → Completes (exec .inputLoss s) fun r => r.chip.phase = .dark ∧ r.dict.ready = false ∧ r.dens = [] ∧
    r.trust.vault = none ∧ r.trust.alias_ = none ∧ r.meter.powered = false ∧ r.power = {} ∧ r.repair.resets = []) ∧
  (∀ (s : State) (n : Fin 16), s.aonRuns → s.chip.phase ≠ .rail13 →
    (n.val < 4 → exec (.railFault n) s = .next (((s.bump 0x0250 2).raise (1886 + n.val)).beginHalf .west 0x1102 0x1102)) ∧
    (4 ≤ n.val → n.val < 8 → exec (.railFault n) s =
      .next (((s.bump 0x0250 2).raise (1886 + n.val)).beginHalf .east 0x1102 0x1102)) ∧
    (8 ≤ n.val → n.val < 15 → Completes (exec (.railFault n) s) fun r => r.chip.resequence = true)) ∧
  (∀ (s : State) (raw : List (BitVec 16)), s.aonRuns → s.chip.phase ≠ .rail13 →
    (raw.length = 2 → Completes (exec (.sensorSample .water raw) s) fun r => r.power.inlet = (raw.getD 0 0).toInt ∧
      r.power.outlet = (raw.getD 1 0).toInt) ∧
    (raw.length = 32 → Completes (exec (.sensorSample .cistern raw) s) fun r =>
      r.power.cistern = storeOf (s.readings .cistern raw) ∧ r.power.lt = s.power.lt ∧
      ∀ c < 32, 6080 ≤ (s.readings .cistern raw).getD c 0 → r.power.halved.contains c) ∧
    (raw.length = 512 → hottest (s.readings .die raw) < 6720 → s.power.hotRuns = [] →
      Completes (exec (.sensorSample .die raw) s) fun r => r.power.die = storeOf (s.readings .die raw) ∧ r.power.lt = s.power.lt)) ∧
  (∀ (s : State) (i : Nat), s.powerRuns → i < 512 → s.f32 0x0230 0 < ((kget 0 s.power.die i : Int) : Rat) / 64 →
    Completes (exec (.thermalLevelTick true) s) fun r => r.power.lt = min 26 (s.power.lt + 1)) ∧
  (∀ (s : State), s.powerRuns → (∀ t ∈ s.power.junctions, t ≤ s.f32 0x0230 0 - 3) → (∀ t ∈ s.power.wellTemps, t ≤ s.f32 0x0230 1 - 3) →
    Completes (exec (.thermalLevelTick false) s) fun r => r.power.lt = s.power.lt - 1) ∧
  (∀ (s : State), s.power.trip → s.resetRuns .chip = false → (∀ t ∈ s.power.junctions, t ≤ 90) → (∀ t ∈ s.power.wellTemps, t ≤ 85) →
    exec .tripCooldown s = .next (s.beginReset .chip 0x1101))

/-- Bring-up (R707 to R715, R724): from the supply to a dictionary that answers, step by step. It rests on choices of the model too: log
entries 9, 90 and 187. -/
def Obligations.BringUp : Prop :=
  (∀ (s : State) (sel : Half) (off : Nat), s.chip.phase = .dark → Completes (exec (.powerOn sel off) s) fun r =>
    r.chip.phase = .sequencing 0 ∧ r.chip.primary = (match sel with | .west => 0 | .east => 1) ∧
    r.reg 0x0000 9 = (s.reg 0x0000 9 + 1) % 2 ^ 64 ∧ r.meter.powered = true ∧ r.meter.powerCycles = s.meter.powerCycles + 1) ∧
  (∀ (s : State) (rail : Fin 15),
    (s.chip.phase = .sequencing 0 → exec (.regulatorTimeout rail) s = .next ((s.setPhase (.sequencing 1)).bump 0x0250 2)) ∧
    (s.chip.phase = .sequencing 1 → exec (.regulatorTimeout rail) s = .next ((s.setPhase .rail13).bump 0x0250 2))) ∧
  (∀ (s : State) (n : Nat), s.chip.phase = .sequencing n ∨ s.chip.phase = .held →
    exec .perstDeassert s = .next (({ s with chip := { s.chip with perst := false } } : State).setPhase (.boot 0))) ∧
  (∀ (s : State) (d : Bool),
    (s.chip.phase = .ready → s.resetRuns .chip = false → Completes (exec (.perstAssert d) s) fun r => r.chip.perst = true ∧
      r.repair.resets = s.repair.resets ++ [{ dom := .chip, cause := 0, counted := false }]) ∧
    (∀ n, s.chip.phase = .boot n → s.chip.resequence = false →
      Completes (exec (.perstAssert d) s) fun r => r.chip.perst = true ∧ r.chip.phase = .held)) ∧
  (∀ (s s' : State) (needs : List (Half × SettNeed)) (of_ : Half → List SettNeed), s.chip.phase = .boot 0 → s.power.trip = false →
    of_ = (fun h => (needs.filter fun p => p.1 == h).map (·.2)) → s' = (s.marchSett .west (of_ .west)).marchSett .east (of_ .east) →
    (s'.settShort s.primaryHalf = false → Completes (exec (.romBoot needs) s) fun r => r.chip.phase = .boot 1 ∧
      r.power.gain = 11 / 10 ∧ r.repair.halted = (if s'.settShort s.secondaryHalf then coresOf s.secondaryHalf else []) ∧
      r.trust.vault = some (s.deriveVault (s.trust.bank (s.bootBank.getD s.trust.activeB))) ∧ r.trust.alias_.isSome) ∧
    (s'.settShort s.primaryHalf → Completes (exec (.romBoot needs) s) fun r => r.chip.phase = .recovery)) ∧
  (∀ (s : State), s.chip.phase = .boot 1 → s.power.trip = false →
    (s.trust.activeB = false → s.trust.bankA.sigOk → s.reg 0x1801 4 ≤ s.trust.bankA.svn →
      Completes (exec (.firmwareRelease [] []) s) fun r => r.chip.phase = .boot 2 ∧ r.chip.runsB = false ∧
        r.reg 0x0000 4 = s.trust.bankA.version ∧ r.reg 0x1801 3 = s.trust.bankA.svn) ∧
    (s.trust.bankA.sigOk = false → s.trust.bankB.sigOk = false →
      Completes (exec (.firmwareRelease [] []) s) fun r => r.chip.phase = .recovery)) ∧
  (∀ (s : State) (failed : List WellIx), s.chip.phase = .boot 2 → s.power.trip = false →
    Completes (exec (.wellTraining failed []) s) fun r => r.chip.phase = .boot 3 ∧
      ∀ w : WellIx, r.reg (0x300 + w.val) 0 = (if failed.contains w then 0 else 1) ∧ (r.well w.val).data = []) ∧
  (∀ (s : State) (failed : List CisIx), s.chip.phase = .boot 3 → s.power.trip = false → s.seam.trained →
    Completes (exec (.cisternTraining failed) s) fun r => r.chip.phase = .boot 4 ∧
      ∀ c : CisIx, r.reg (0x320 + c.val) 0 = (if failed.contains c then 2 else 1) ∧ (r.cis c.val).key0.isSome ∧
        (r.cis c.val).key1 = none) ∧
  (∀ (s : State) (dead faulty : List (Fin 132 × Fin 64)) (f : MarchFacts), s.chip.phase = .boot 4 → s.power.trip = false → f.sett = [] →
    Completes (exec (.repairMapBuild dead faulty f) s) fun r => r.chip.phase = .boot 5 ∧
      r.repair.dead = (s.repair.dead ++ dead.map fun p => (p.1.val, p.2.val)).eraseDups ∧ r.repair.routesStale = false ∧
      r.repair.unreachable = r.repair.lostRouters) ∧
  (∀ (s : State), s.chip.phase = .boot 5 → s.power.trip = false →
    exec (.linkTrainingEnd true) s = .next (s.setPhase (.boot 6)) ∧
    ((∀ l < 32, s.reg (0x1000 + l) 0 ≠ 1) → exec (.linkTrainingEnd false) s = .next (s.setPhase (.boot 6)))) ∧
  (∀ (s : State) (ms aon : BitVec 32), s.chip.phase = .boot 6 → s.power.trip = false → Completes (exec (.dictReady ms aon) s) fun r =>
    r.chip.phase = .ready ∧ r.dict.ready = true ∧ r.repair.settServes = true ∧ r.reg 0x0000 0x0A = ms.toNat ∧ r.reg 0x2300 0 = 1)

/-- Fences, repair and the march engines (R679, R681, R682, R685, R686, R694): a fenced tile issues no more, at the host's word or for a
parity error; a fence of the host's is lifted again; a pending repair moves the row half's tiles outward. MCH_RUN starts the engine of its
half, with REG_PHASE held while contents are kept; the end of a run frees the engine. It rests on choices of the model too: log entries
87, 119 and 120. -/
def Obligations.FencesAndRepair : Prop :=
  (∀ (s s' : State) (q : Req) (v : List Byte) (t : Nat), s.serves q 0x0401 0 v → s' = s.beginReq q v → tileOfCoord (leNat v) = some t →
    (s'.repair.hostFenced.contains t = false → exec (.fenceTile q v) s = .next (finishReq s.dict.nextId q (persist s.dict.nextId
      [s'.repair.fenceOld t] true (s'.fenceTile t 0x1201 true {})))) ∧
    (s'.repair.hostFenced.contains t → exec (.fenceTile q v) s = .next (s'.reply s.dict.nextId q kOk []))) ∧
  (∀ (s : State) (t : Nat) (c : Code) (i : FaultInfo) (h : Bool), s.slotOf t = none → ((s.fenceTile t c h i).tile t).fenced = true) ∧
  (∀ (s s' : State) (q : Req) (v : List Byte) (t : Nat), s.serves q 0x0401 1 v → s' = s.beginReq q v → tileOfCoord (leNat v) = some t →
    s'.repair.hostFenced.contains t → (s'.dens.any fun (p : Nat × Den) => p.2.phase != .free && p.2.rect.has t) = false →
    exec (.unfenceTile q v) s = .next (finishReq s.dict.nextId q (persist s.dict.nextId [s'.repair.fenceOld t] true
      (s'.setHostFences (s'.repair.hostFenced.filter (· != t)))))) ∧
  (∀ (s s' : State) (q : Req) (v : List Byte) (key : Nat) (f : MarchFacts), s.serves q 0x0401 3 v → s' = s.beginReq q v →
    bitsOf (leNat v) 6 1 = 0 →
    key = 2 * bitsOf (leNat v) 0 6 + bitsOf (leNat v) 7 1 →
    (s'.repair.firstPending key = none → exec (.repairApply q v f) s = .next (s'.reply s.dict.nextId q kOk [])) ∧
    (∀ p, s'.repair.firstPending key = some p → ((s'.repair.tilesOutward key p).map blockOf).eraseDups.any s'.blockHeld = false →
      exec (.repairApply q v f) s = .next (((s'.marchPlaces (f.needs.filter fun n =>
        n.row.val == key / 2 && (n.col.val < 66) == (key % 2 == 0))).applyRow key).settleWarn.reply s.dict.nextId q kOk []))) ∧
  (∀ (s : State) (t : TileIx), s.chip.phase = .ready → (s.tile t.val).fenced = false →
    exec (.parityError t) s = .next (s.fenceTile t.val 0x1201 false {})) ∧
  (∀ (s s' : State) (q : Req) (v : List Byte) (h : Half) (r : Rect), s.serves q (match h with | .west => 0x0420 | .east => 0x0421) 0 v →
    s' = s.beginReq q v → natAt v 1 1 = 0 → natAt v 6 2 = 0 → parseRect (natAt v 2 4) = some r → r.w ≠ 0 → r.h ≠ 0 → r.br + r.h ≤ 16 →
    r.inHalf h → s'.repair.march h = none →
    (natAt v 0 1 = 0 → r.blocks.any (s'.marchBlocked false) = false → exec (.marchDestructive q v) s =
      .next ((s'.setMarch h (some { preserving := false, blocks := r.blocks, secure := false })).reply s.dict.nextId q kOk [])) ∧
    (natAt v 0 1 = 1 → r.blocks.any (s'.marchBlocked true) = false → exec (.marchPreserving q v) s =
      .next ((s'.setMarch h (some { preserving := true, blocks := r.blocks, secure := false })).holdPhase.reply
        s.dict.nextId q kOk []))) ∧
  (∀ (s : State) (h : Half) (m : March) (f : MarchFacts), s.repair.march h = some m → f.needs = [] → f.sett = [] →
    Completes (exec (.marchEnd h f) s) fun r => r.repair.march h = none ∧
      r.dict.blob (match h with | .west => 0x0420 | .east => 0x0421) 2 =
        toLE 2 (if m.stopped then kCmdCancelled else kOk).toNat ++ List.replicate 14 0) ∧
  (∀ (s s' : State) (q : Req) (v : List Byte), s.serves q 0x3000 6 v → s' = s.beginReq q v → natAt v 0 8 % 4096 = 0 →
    natAt v 8 8 % 4096 = 0 → natAt v 8 8 ≤ 2 ^ 26 → bitsOf (natAt v 16 4) 20 11 = 0 → natAt v 20 2 ≠ 0 → natAt v 20 2 ≤ 8192 →
    natAt v 22 1 ≤ 7 → natAt v 23 9 = 0 → exec (.dumpCfg q v) s =
      .next (({ s' with dict := s'.dict.setBlob 0x3000 6 v } : State).reply s.dict.nextId q kOk []))

/-- Resets begin (R687, R688, R691 to R693, R676): each level by RESET_REQ, the engines' owls, a failing router, and the chip resets that the
chip owes. It rests on choices of the model too: log entries 88, 89, 113 and 116. -/
def Obligations.ResetRequests : Prop :=
  (∀ (s s' : State) (q : Req) (v : List Byte) (d : ResetDom), s.serves q 0x3000 7 v → s' = s.beginReq q v → s'.parseReset v = .ok d →
    (natAt v 0 1 = 1 → ∀ n, d = .den n →
      ((s'.den n).phase = .running ∨ (s'.den n).phase = .frozen →
        exec (.denReset q v) s = .next ((s'.denFault n 0x120A).reply s.dict.nextId q kOk [])) ∧
      ((s'.den n).phase = .faulted → exec (.denReset q v) s =
        .next ((s'.resetDenEngines n 0x120A).reply s.dict.nextId q kOk []))) ∧
    (s'.resetRuns d = false →
      (natAt v 0 1 = 2 → exec (.engineReset q v) s = .next ((s'.beginReset d 0).reply s.dict.nextId q kOk [])) ∧
      (natAt v 0 1 = 3 → ∀ h, d = .half h →
        exec (.halfReset q v) s = .next ((s'.beginHalf h 0 0x1202).reply s.dict.nextId q kOk [])) ∧
      (natAt v 0 1 = 4 → exec (.chipReset (.request q v)) s = .next ((s'.beginReset .chip 0).reply s.dict.nextId q kOk [])) ∧
      (natAt v 0 1 = 5 → exec (.moduleReset q v) s = .next ((s'.beginReset d 0).reply s.dict.nextId q kOk [])))) ∧
  (∀ (s : State) (c : Code), s.chip.due = some c → s.resetRuns .chip = false → exec (.chipReset (.chip c)) s =
    .next (({ s with chip := { s.chip with due := none } } : State).beginReset .chip c)) ∧
  (∀ (s : State) (l : LinkIx), s.linkUp l.val → (s.link l.val).held ≠ [] →
    exec (.linkOwlExpiry l) s = .next (s.beginReset (.engine (.link l.val)) kTimeout)) ∧
  (∀ (s : State) (p : Fin 132) (r : Fin 64), s.chip.phase = .ready → s.repair.dead.contains (p.val, r.val) = false →
    exec (.routerFault p r) s = .next (s.beginReset .chip 0)) ∧
  (∀ (s : State) (c : Fin 4), s.settBooted → s.repair.halted.contains c.val = false →
    (coreHalf c.val ≠ s.primaryHalf → Completes (exec (.settHeartbeatExpiry c) s) fun r => r.resetRuns (.engine (.sett c.val))) ∧
    (coreHalf c.val = s.primaryHalf → Completes (exec (.settHeartbeatExpiry c) s) fun r =>
      r.repair.halted = s.repair.halted ++ [c.val] ∧ r.repair.resets = s.repair.resets))

/-- Resets end (R688 to R690, R717): the drain ends and the domain is reset, a domain returns, or the next level starts. It rests on choices
of the model too: log entries 92 and 114. -/
def Obligations.ResetEnds : Prop :=
  (∀ (s : State) (i : Nat) (x : Reset) (ms : BitVec 32) (refused : Option Nat), s.repair.resets[i]? = some x → x.draining →
    (∀ e, x.dom = .engine e → exec (.drainLimitExpiry i ms refused) s =
      .next ((s.resetEngine e).setReset i { x with draining := false })) ∧
    (∀ h, x.dom = .half h → exec (.drainLimitExpiry i ms refused) s =
      .next (((s.sample x.dom refused).resetHalf h).setReset i { x with draining := false })) ∧
    (∀ n, x.dom = .den n → exec (.drainLimitExpiry i ms refused) s =
      .next (((s.resetDen n x.cause).sample x.dom refused).setReset i { x with draining := false })) ∧
    (x.dom = .module → exec (.drainLimitExpiry i ms refused) s = .next ((s.dropReset i).cycleTray x.cause ms.toNat)) ∧
    (x.dom = .chip → x.counted → 2 ≤ (s.chip.resetTimes.filter fun t => decide (ms.toNat ≤ t + 60000)).length →
      Completes (exec (.drainLimitExpiry i ms refused) s) fun r => r.chip.trayReq = true) ∧
    (x.dom = .chip → x.counted → s.chip.resetTimes = [] → s.chip.resequence = false → s.chip.perst = false →
      Completes (exec (.drainLimitExpiry i ms refused) s) fun r => r.chip.phase = .boot 0 ∧ r.dict.ready = false ∧ r.dens = [] ∧
        r.chip.resetTimes = [ms.toNat])) ∧
  (∀ (s : State) (i : Nat) (x : Reset) (ms : BitVec 32) (f : HalfFacts), s.repair.resets[i]? = some x → x.draining = false →
    (∀ n, x.dom = .den n → exec (.returnToService i ms f) s =
      .next (((s.dropReset i).logReset x.dom x.cause 0 ms.toNat).raise 1947).freePhase) ∧
    (∀ e, x.dom = .engine e → exec (.returnToService i ms f) s =
      .next (((s.dropReset i).logReset x.dom x.cause 0 ms.toNat).raise 1948).freePhase) ∧
    (∀ h, x.dom = .half h → (s.returnHalf h f).settShort h = false → exec (.returnToService i ms f) s =
      .next (((((s.returnHalf h f).dropReset i).logReset x.dom x.cause 0 ms.toNat).raise 1949).freePhase))) ∧
  (∀ (s : State) (i : Nat) (x : Reset) (ms : BitVec 32), s.repair.resets[i]? = some x → s.chip.phase = .ready →
    (∀ h, x.dom = .half h → exec (.escalationOwlExpiry (some i) ms) s =
      .next ((((s.dropReset i).logReset x.dom x.cause 1 ms.toNat).raise 1954).beginReset .chip x.cause)) ∧
    (x.dom = .chip → exec (.escalationOwlExpiry (some i) ms) s =
      .next ((((s.dropReset i).logReset x.dom x.cause 1 ms.toNat).raise 1954).cycleTray x.cause ms.toNat))) ∧
  (∀ (s : State) (n : Nat) (ms : BitVec 32), s.chip.phase = .boot n → s.resetRuns .chip = false →
    exec (.escalationOwlExpiry none ms) s = .next ((s.raise 1954).cycleTray 0 ms.toNat))

/-- The leases (R697 to R702): a renewal keeps its paths live; the secondary faults what lies astride when the seam's path lapses, and fences
the primary when both have. It rests on choices of the model too: log entry 9. -/
def Obligations.Leases : Prop :=
  (∀ (s : State) (seam aon : Bool), s.settBooted → (coresOf s.primaryHalf).any s.repair.halted.contains = false →
    s.resetRuns (.half s.primaryHalf) = false → Completes (exec (.leaseRenewal seam aon) s) fun r =>
      r.repair.leaseCount = s.repair.leaseCount + 1 ∧ r.repair.seamLive = (s.repair.seamLive || seam) ∧
      r.repair.aonLive = (s.repair.aonLive || (aon && !s.repair.fenced)) ∧
      (seam = true → (r.ic.src 1950).cond = false)) ∧
  (∀ (s : State) (a b late : Bool), s.settBooted → s.repair.fenced = false →
    (coresOf s.secondaryHalf).all s.repair.halted.contains = false → s.resetRuns (.half s.secondaryHalf) = false →
    (s.repair.resetting = true → late = false → exec (.leaseCheck a b late) s = .next s) ∧
    (s.repair.resetting = false → a = false → b = false → exec (.leaseCheck a b late) s = .next s) ∧
    (s.repair.resetting = false → a = true → b = true → Completes (exec (.leaseCheck a b late) s) fun r =>
      r.repair.fenced = true ∧ r.chip.due = some 0x1205) ∧
    (s.repair.resetting = false → a = false → b = true → Completes (exec (.leaseCheck a b late) s) fun r =>
      r.repair.aonLive = false ∧ (r.ic.src 1951).cond = true ∧ r.dens = s.dens) ∧
    (s.repair.resetting = false → a = true → b = false → s.dens = [] → Completes (exec (.leaseCheck a b late) s) fun r =>
      r.repair.seamLive = false ∧ (r.ic.src 1950).cond = true))

/-- The life cycle and the fuses (R599, R605 to R609): an accepted LC_REQUEST sets LIFECYCLE, destroys the reservoir and pair keys and owes a
chip reset; one that no transition has is LC_DENIED. A write of 1 to SVN_COMMIT makes SVN_FUSE equal the running image's SVN, unless that
does not exceed it, or the increments are all used; a write of 0 is RANGE; after a commit an image with a lower SVN does not boot. -/
def Obligations.LifeCycle : Prop :=
  (∀ (s s' : State) (q : Req) (v : List Byte), s.serves q 0x0001 1 v → s' = s.beginReq q v → natAt v 1 3 = 0 →
    (s'.dens.any fun p => p.2.phase != .free) = false → s'.fab.jobs = [] → s'.scrubPending = 0 →
    (natAt v 0 1 = 2 → v.length = 8 → natAt v 4 4 = 0 → s'.lifecycle = 1 →
      exec (.lcDeploy q v) s = .next ((s'.changeLife 2).freshNonce.reply s.dict.nextId q kOk [])) ∧
    (natAt v 0 1 = 2 → v.length = 8 → natAt v 4 4 = 0 → s'.lifecycle ≠ 1 → exec (.lcDeploy q v) s =
      .next ((s'.setReg 0x1802 1 kLcDenied.toNat).freshNonce.reply s.dict.nextId q kLcDenied [])) ∧
    (natAt v 0 1 = 3 → 8 ≤ v.length → natAt v 4 4 = 0 → natAt v 10 2 = 0 → natAt v 66 6 = 0 →
      s'.lifecycle = 1 ∨ s'.lifecycle = 2 → s'.containerOk (v.drop 8) true →
      exec (.lcReturn q v true) s = .next ((s'.changeLife 3).freshNonce.reply s.dict.nextId q kOk []) ∧
      exec (.lcReturn q v false) s =
        .next ((s'.setReg 0x1802 1 kLcAuth.toNat).freshNonce.reply s.dict.nextId q kLcAuth [])) ∧
    (natAt v 0 1 = 4 → v.length = 8 → natAt v 4 4 = 0x53435250 → 1 ≤ s'.lifecycle → s'.lifecycle ≤ 3 →
      exec (.lcScrap q v) s = .next ((s'.changeLife 4).freshNonce.reply s.dict.nextId q kOk []))) ∧
  (∀ (s : State) (n : Nat), 2 ≤ n → n ≤ 4 → (s.changeLife n).lifecycle = n ∧ (s.changeLife n).fab.keys = [] ∧
    (∀ c, ((s.changeLife n).cis c).key0 = none ∧ ((s.changeLife n).cis c).key1 = none) ∧ (s.changeLife n).chip.due = some 0 ∧
    (n = 4 → (s.changeLife n).trust.udsGone = true)) ∧
  (∀ (s s' : State) (q : Req) (v : List Byte), s.serves q 0x1801 5 v → s' = s.beginReq q v →
    (leNat v = 0 → exec (.svnCommit q v) s = .next (s'.reply s.dict.nextId q kRange [])) ∧
    (leNat v = 1 → s'.reg 0x1801 3 ≤ s'.reg 0x1801 4 → exec (.svnCommit q v) s = .next (s'.reply s.dict.nextId q kOk [])) ∧
    (leNat v = 1 → s'.reg 0x1801 4 < s'.reg 0x1801 3 → s'.trust.svnUsed = 32 →
      exec (.svnCommit q v) s = .next (s'.reply s.dict.nextId q kNoResource [])) ∧
    (leNat v = 1 → s'.reg 0x1801 4 < s'.reg 0x1801 3 → s'.trust.svnUsed + (s'.reg 0x1801 3 - s'.reg 0x1801 4) ≤ 32 →
      Completes (exec (.svnCommit q v) s) fun r => r.reg 0x1801 4 = s'.reg 0x1801 3 ∧
        ∀ b : FwBank, b.svn < s'.reg 0x1801 3 → r.bankOk b = false))

/-- The tamper response and SPDM (R483, R600 to R604, R612, R613): a tamper event destroys the keys and owes a chip reset; measurements are
answered; a transport has at most four sessions; one on the data-object mailbox carries dictionary messages with role host-admin, IDE key
management and TDISP. It rests on choices of the model too: log entries 84, 85, 127 and 132. -/
def Obligations.TamperAndSessions : Prop :=
  (∀ (s : State) (ev : Fin 5) (half : Fin 3) (ms : BitVec 32), s.aonRuns → s.trust.tampered = false →
    ev.val ≠ 4 ∨ s.lifecycle = 1 ∨ s.lifecycle = 2 ∨ s.lifecycle = 4 →
    Completes (exec (.tamperEvent ev half ms) s) fun r => r.trust.tampered = true ∧ r.trust.vault = none ∧ r.trust.alias_ = none ∧
      r.trust.sessions = [] ∧ r.trust.ide = [] ∧ r.chip.due = some kTamper) ∧
  (∀ (s : State) (tr : SpdmTransport), s.spdmUp tr → s.lifecycle ≠ 4 →
    (Completes (exec (.getMeasurements tr) s) fun r => ∃ sig, sig.length = 384 ∧
      r.outbox = .measurements tr s.measureBlocks sig :: s.outbox) ∧
    ((s.trust.sessions.filter (·.tr == tr)).length < 4 → Completes (exec (.keyExchange tr) s) fun r =>
      (∃ k, r.trust.sessions = s.trust.sessions ++ [{ id := s.trust.nextSession, tr := tr, key := k }]) ∧
      r.trust.nextSession = s.trust.nextSession + 1 ∧ r.outbox = .session s.trust.nextSession :: s.outbox) ∧
    (4 ≤ (s.trust.sessions.filter (·.tr == tr)).length → exec (.keyExchange tr) s = .next (s.emit (.spdmBusy tr)))) ∧
  (∀ (s : State) (tr : SpdmTransport), s.spdmUp tr → s.lifecycle = 4 →
    exec (.getMeasurements tr) s = .next (s.emit (.spdmUnspecified tr)) ∧ exec (.keyExchange tr) s = .next (s.emit (.spdmUnspecified tr))) ∧
  (∀ (s : State) (id : Nat) (x : Session), s.trust.session id = some x →
    exec (.spdmHeartbeatLoss id) s = .next (s.endSession id) ∧
    (s.endSession id).trust.sessions = s.trust.sessions.filter (·.id != id) ∧
    (s.lifecycle ≠ 4 → exec (.endSession id) s = .next (s.endSession id) ∧
      Completes (exec (.keyUpdate id) s) fun r => (∃ k, r.trust = { s.trust with
        sessions := updFirst (·.id == id) (fun x => { x with updates := x.updates + 1, key := k }) s.trust.sessions }) ∧
        r.outbox = .session id :: s.outbox) ∧
    (s.lifecycle = 4 → exec (.endSession id) s = .next (s.emit (.spdmUnspecified x.tr)) ∧
      exec (.keyUpdate id) s = .next (s.emit (.spdmUnspecified x.tr)))) ∧
  (∀ (s : State) (id : Nat) (x : Session), s.trust.session id = some x → x.tr = .doe → s.lifecycle ≠ 4 →
    (∀ bytes, 16 + (parseMsg (.secured id) bytes).2.1.len.toNat ≤ bytes.length → exec (.securedDictMessage id true bytes) s =
      .next { s with dict := { s.dict with queued := s.dict.queued ++ [{ fe := .secured id, bytes := bytes }] } }) ∧
    (∀ bytes, exec (.securedDictMessage id false bytes) s = .next (s.deliver (parseMsg (.secured id) bytes).2.1 0x0B03 [])) ∧
    (∀ (stream : Fin 9) (set : Bool) (k : Nat), k = ideKey stream.val set →
      (Completes (exec (.keyProg id stream set) s) fun r => (∃ x, r.trust = (s.setIde k { kget {} s.trust.ide k with key := some x }).trust) ∧
        r.outbox = .ideKm id true :: s.outbox) ∧
      ((kget {} s.trust.ide k).key ≠ none → exec (.kSetGo id stream set) s =
        .next ((s.setIde k { kget {} s.trust.ide k with active := true }).emit (.ideKm id true))) ∧
      ((kget {} s.trust.ide k).key = none → exec (.kSetGo id stream set) s = .next (s.emit (.ideKm id false))) ∧
      exec (.kSetStop id stream set) s = .next ((s.setIde k {}).emit (.ideKm id true))) ∧
    (∀ (n : SlotIx) (to_ : TdiPhase → State), to_ = (fun p => ({ s with trust := { s.trust with
        tdis := kput .unlocked s.trust.tdis n.val p } } : State).emit (.tdisp id n.val true)) →
      (s.tdi n.val = .unlocked → exec (.lockInterfaceRequest id n) s = .next (to_ .locked)) ∧
      (s.tdi n.val = .locked → (s.den n.val).phase = .loaded ∨ (s.den n.val).phase = .running ∨ (s.den n.val).phase = .frozen →
        exec (.startInterfaceRequest id n) s = .next (to_ .run)) ∧
      (s.tdi n.val ≠ .locked → exec (.startInterfaceRequest id n) s = .next (s.emit (.tdisp id n.val false))) ∧
      exec (.stopInterfaceRequest id n) s = .next (to_ .unlocked)))
end

