-- ==== Sys2Proof/Laws/Maps.lean ====
section
/-! SUPPORT. Laws/Maps.lean: what reading and writing a sparse store does, and that every memory operation keeps the canonical form. -/

namespace Sys2Proof.Laws

open Sys2Proof Sys2Proof.Machine

@[simp] theorem kget_nil {α : Type} (d : α) (i : Nat) : kget d ([] : KMap α) i = d := rfl

theorem kget_kins {α : Type} (d x : α) (m : KMap α) (i j : Nat) : kget d (kins x m i) j = if j = i then x else kget d m j := by
  induction m with
  | nil => simp [kins, kget, eq_comm]
  | cons p m ih =>
    obtain ⟨k, v⟩ := p
    simp only [kins]
    split
    · subst k; simp only [kget]; grind
    · split
      · simp only [kget]; grind
      · simp only [kget, ih]; grind

theorem kget_filter {α : Type} (d : α) (m : KMap α) (p : Nat → Bool) (j : Nat) :
    kget d (m.filter fun q => p q.1) j = if p j then kget d m j else d := by
  induction m with
  | nil => simp [kget]
  | cons q m ih =>
    obtain ⟨k, v⟩ := q
    by_cases hk : p k = true
    · simp only [List.filter_cons, hk, if_true, kget, ih]; grind
    · simp only [List.filter_cons, hk, kget]; grind

theorem kget_kdel {α : Type} (d : α) (m : KMap α) (i j : Nat) : kget d (kdel m i) j = if j = i then d else kget d m j := by
  rw [kdel, kget_filter d m (· != i)]
  by_cases h : j = i <;> simp [h]

/-- A read after a write: the value written at its key, every other key as before. -/
@[simp] theorem kget_kput {α : Type} [DecidableEq α] (d x : α) (m : KMap α) (i j : Nat) :
    kget d (kput d m i x) j = if j = i then x else kget d m j := by
  unfold kput
  split
  · rename_i h; rw [kget_kdel, h]
  · rw [kget_kins]

theorem kget_kput_same {α : Type} [DecidableEq α] (d x : α) (m : KMap α) (i : Nat) : kget d (kput d m i x) i = x := by simp

theorem kget_kput_other {α : Type} [DecidableEq α] (d x : α) (m : KMap α) {i j : Nat} (h : j ≠ i) :
    kget d (kput d m i x) j = kget d m j := by simp [h]

/-- The same where the read has another default. -/
theorem kget_kput_default {α : Type} [DecidableEq α] {d : α} (e x : α) (m : KMap α) (i : Nat) {j : Nat} (h : j ≠ i) :
    kget e (kput d m i x) j = kget e m j := by
  unfold kput
  split
  · rw [kget_kdel, if_neg h]
  · rw [kget_kins, if_neg h]

theorem kget_kmod {α : Type} [DecidableEq α] (d : α) (m : KMap α) (i j : Nat) (f : α → α) :
    kget d (kmod d m i f) j = if j = i then f (kget d m i) else kget d m j := by simp [kmod]

/-- A range that is cleared reads as the default, and nothing else changes. -/
theorem kget_kclear {α : Type} (d : α) (m : KMap α) (a n j : Nat) :
    kget d (kclear m a n) j = if a ≤ j ∧ j < a + n then d else kget d m j := by
  have h := kget_filter d m (fun k => decide (k < a) || decide (a + n ≤ k)) j
  unfold kclear
  simp only [h]
  grind

/-- Bytes written to a store, and no other byte, are read afterwards. -/
theorem kget_memWrite (m : KMap Byte) (a : Nat) (bs : List Byte) (j : Nat) :
    kget 0 (memWrite m a bs) j = if h : a ≤ j ∧ j < a + bs.length then bs[j - a]'(by omega) else kget 0 m j := by
  induction bs generalizing m a with
  | nil => simp [memWrite]
  | cons b bs ih =>
    simp only [memWrite, ih, kget_kput, List.length_cons]
    by_cases h1 : j = a
    · subst j; simp
    · by_cases h2 : a + 1 ≤ j ∧ j < a + 1 + bs.length
      · have h3 : a ≤ j ∧ j < a + (bs.length + 1) := by omega
        obtain ⟨k, rfl⟩ : ∃ k, j = a + 1 + k := ⟨j - (a + 1), by omega⟩
        simp only [h2, h3, and_self, dite_true]
        have h4 : a + 1 + k - a = k + 1 := by omega
        simp [h4]
      · have h3 : ¬ (a ≤ j ∧ j < a + (bs.length + 1)) := by omega
        have h4 : ¬ (a < j ∧ j < a + 1 + bs.length) := by omega
        rw [dif_neg (by omega), dif_neg h3, if_neg h1]

/-! ### The canonical form -/

theorem kcanon_cons {α : Type} [DecidableEq α] (d : α) (k : Nat) (v : α) (m : KMap α) :
    kcanon d ((k, v) :: m) = true ↔ v ≠ d ∧ (∀ p ∈ m, k < p.1) ∧ kcanon d m = true := by
  induction m generalizing k v with
  | nil => simp [kcanon]
  | cons q m ih =>
    obtain ⟨k', v'⟩ := q
    rw [kcanon, Bool.and_eq_true, Bool.and_eq_true, ih]
    simp only [bne_iff_ne, ne_eq, decide_eq_true_eq, List.mem_cons, forall_eq_or_imp]
    constructor
    · rintro ⟨⟨h1, h2⟩, h3, h4, h5⟩
      exact ⟨h1, ⟨h2, fun p hp => Nat.lt_trans h2 (h4 p hp)⟩, h3, h4, h5⟩
    · rintro ⟨h1, ⟨h2, -⟩, h3, h4, h5⟩
      exact ⟨⟨h1, h2⟩, h3, h4, h5⟩

theorem kcanon_filter {α : Type} [DecidableEq α] (d : α) (m : KMap α) (p : Nat × α → Bool) (h : kcanon d m = true) :
    kcanon d (m.filter p) = true := by
  induction m with
  | nil => simpa using h
  | cons q m ih =>
    obtain ⟨k, v⟩ := q
    rw [kcanon_cons] at h
    rw [List.filter_cons]
    split
    · rw [kcanon_cons]
      exact ⟨h.1, fun r hr => h.2.1 r (List.mem_of_mem_filter hr), ih h.2.2⟩
    · exact ih h.2.2

theorem mem_kins {α : Type} {x : α} {m : KMap α} {i : Nat} {p : Nat × α} (h : p ∈ kins x m i) : p = (i, x) ∨ p ∈ m := by
  induction m with
  | nil => simpa [kins] using h
  | cons q m ih =>
    obtain ⟨k, v⟩ := q
    simp only [kins] at h
    split at h
    · simp at h; rcases h with h | h <;> simp [h]
    · split at h
      · simpa using h
      · simp at h
        rcases h with h | h
        · simp [h]
        · rcases ih h with h | h <;> simp [h]

theorem kcanon_kins {α : Type} [DecidableEq α] (d x : α) (m : KMap α) (i : Nat) (hx : x ≠ d) (h : kcanon d m = true) :
    kcanon d (kins x m i) = true := by
  induction m with
  | nil => simp [kins, kcanon, hx]
  | cons q m ih =>
    obtain ⟨k, v⟩ := q
    have hc := h
    rw [kcanon_cons] at h
    obtain ⟨h1, h2, h3⟩ := h
    simp only [kins]
    split
    · subst k; rw [kcanon_cons]; exact ⟨hx, h2, h3⟩
    · split
      · rename_i h4
        rw [kcanon_cons]
        refine ⟨hx, ?_, hc⟩
        intro p hp
        rcases List.mem_cons.mp hp with rfl | hp
        · exact h4
        · exact Nat.lt_trans h4 (h2 p hp)
      · rw [kcanon_cons]
        refine ⟨h1, ?_, ih h3⟩
        intro p hp
        rcases mem_kins hp with rfl | hp
        · simp only; omega
        · exact h2 p hp

/-- A write of one value keeps the canonical form. -/
theorem kcanon_kput {α : Type} [DecidableEq α] (d x : α) (m : KMap α) (i : Nat) (h : kcanon d m = true) :
    kcanon d (kput d m i x) = true := by
  unfold kput
  split
  · exact kcanon_filter d m _ h
  · exact kcanon_kins d x m i ‹_› h

theorem kcanon_kmod {α : Type} [DecidableEq α] (d : α) (m : KMap α) (i : Nat) (f : α → α) (h : kcanon d m = true) :
    kcanon d (kmod d m i f) = true := kcanon_kput d _ m i h

theorem kcanon_kclear {α : Type} [DecidableEq α] (d : α) (m : KMap α) (a n : Nat) (h : kcanon d m = true) :
    kcanon d (kclear m a n) = true := kcanon_filter d m _ h

/-- A write of bytes keeps the canonical form of a memory. -/
theorem wf_memWrite (m : KMap Byte) (a : Nat) (bs : List Byte) (h : Memory.wf m = true) : Memory.wf (memWrite m a bs) = true := by
  induction bs generalizing m a with
  | nil => exact h
  | cons b bs ih => exact ih _ _ (kcanon_kput 0 b m a h)

/-- Clearing a range keeps the canonical form of a memory. -/
theorem wf_kclear (m : KMap Byte) (a n : Nat) (h : Memory.wf m = true) : Memory.wf (kclear m a n) = true := kcanon_kclear 0 m a n h

/-- The memory of every well and every cistern after reset has the canonical form: it lists nothing. -/
theorem reset_memory_wf (n : Nat) : Memory.wf (State.reset.well n).data = true ∧ Memory.wf (State.reset.cis n).data = true :=
  ⟨rfl, rfl⟩

end Sys2Proof.Laws
end

