-- ==== Sys2Proof/Laws/State.lean ====
section
/-! SUPPORT. Laws/State.lean: what each update of one part of the state leaves as it was, and what a read gives after it. -/

namespace Sys2Proof.Laws

open Sys2Proof Sys2Proof.Machine

/-! ### Frames: an update of one part leaves every other part -/

@[simp] theorem setTile_frame (s : State) (t : Nat) (x : Tile) :
    (s.setTile t x).pending = s.pending ∧ (s.setTile t x).fresh = s.fresh ∧ (s.setTile t x).outbox = s.outbox ∧
    (s.setTile t x).dens = s.dens ∧ (s.setTile t x).seam = s.seam ∧ (s.setTile t x).ic = s.ic ∧ (s.setTile t x).dict = s.dict ∧
    (s.setTile t x).host = s.host ∧ (s.setTile t x).repair = s.repair ∧ (s.setTile t x).wells = s.wells ∧
    (s.setTile t x).cisterns = s.cisterns ∧ (s.setTile t x).wins = s.wins ∧ (s.setTile t x).ctls = s.ctls ∧
    (s.setTile t x).fab = s.fab ∧ (s.setTile t x).trust = s.trust ∧ (s.setTile t x).meter = s.meter ∧
    (s.setTile t x).saves = s.saves ∧ (s.setTile t x).chip = s.chip ∧ (s.setTile t x).power = s.power ∧
    (s.setTile t x).mesh = s.mesh :=
  ⟨rfl, rfl, rfl, rfl, rfl, rfl, rfl, rfl, rfl, rfl, rfl, rfl, rfl, rfl, rfl, rfl, rfl, rfl, rfl, rfl⟩

@[simp] theorem modTile_frame (s : State) (t : Nat) (f : Tile → Tile) :
    (s.modTile t f).pending = s.pending ∧ (s.modTile t f).fresh = s.fresh ∧ (s.modTile t f).outbox = s.outbox ∧
    (s.modTile t f).dens = s.dens ∧ (s.modTile t f).seam = s.seam ∧ (s.modTile t f).ic = s.ic ∧ (s.modTile t f).dict = s.dict ∧
    (s.modTile t f).host = s.host ∧ (s.modTile t f).repair = s.repair ∧ (s.modTile t f).wells = s.wells ∧
    (s.modTile t f).cisterns = s.cisterns ∧ (s.modTile t f).wins = s.wins ∧ (s.modTile t f).ctls = s.ctls ∧
    (s.modTile t f).fab = s.fab ∧ (s.modTile t f).trust = s.trust ∧ (s.modTile t f).meter = s.meter ∧
    (s.modTile t f).saves = s.saves ∧ (s.modTile t f).chip = s.chip ∧ (s.modTile t f).power = s.power ∧
    (s.modTile t f).mesh = s.mesh :=
  ⟨rfl, rfl, rfl, rfl, rfl, rfl, rfl, rfl, rfl, rfl, rfl, rfl, rfl, rfl, rfl, rfl, rfl, rfl, rfl, rfl⟩

@[simp] theorem setDen_frame (s : State) (n : Nat) (d : Den) :
    (s.setDen n d).pending = s.pending ∧ (s.setDen n d).fresh = s.fresh ∧ (s.setDen n d).outbox = s.outbox ∧
    (s.setDen n d).tiles = s.tiles ∧ (s.setDen n d).seam = s.seam ∧ (s.setDen n d).ic = s.ic ∧ (s.setDen n d).dict = s.dict ∧
    (s.setDen n d).host = s.host ∧ (s.setDen n d).repair = s.repair ∧ (s.setDen n d).wells = s.wells ∧
    (s.setDen n d).cisterns = s.cisterns ∧ (s.setDen n d).wins = s.wins ∧ (s.setDen n d).ctls = s.ctls ∧
    (s.setDen n d).fab = s.fab ∧ (s.setDen n d).trust = s.trust ∧ (s.setDen n d).meter = s.meter ∧ (s.setDen n d).saves = s.saves ∧
    (s.setDen n d).chip = s.chip ∧ (s.setDen n d).power = s.power ∧ (s.setDen n d).mesh = s.mesh :=
  ⟨rfl, rfl, rfl, rfl, rfl, rfl, rfl, rfl, rfl, rfl, rfl, rfl, rfl, rfl, rfl, rfl, rfl, rfl, rfl, rfl⟩

@[simp] theorem modDen_frame (s : State) (n : Nat) (f : Den → Den) :
    (s.modDen n f).pending = s.pending ∧ (s.modDen n f).fresh = s.fresh ∧ (s.modDen n f).outbox = s.outbox ∧
    (s.modDen n f).tiles = s.tiles ∧ (s.modDen n f).seam = s.seam ∧ (s.modDen n f).ic = s.ic ∧ (s.modDen n f).dict = s.dict ∧
    (s.modDen n f).host = s.host ∧ (s.modDen n f).repair = s.repair ∧ (s.modDen n f).wells = s.wells ∧
    (s.modDen n f).cisterns = s.cisterns ∧ (s.modDen n f).wins = s.wins ∧ (s.modDen n f).ctls = s.ctls ∧
    (s.modDen n f).fab = s.fab ∧ (s.modDen n f).trust = s.trust ∧ (s.modDen n f).meter = s.meter ∧ (s.modDen n f).saves = s.saves ∧
    (s.modDen n f).chip = s.chip ∧ (s.modDen n f).power = s.power ∧ (s.modDen n f).mesh = s.mesh :=
  ⟨rfl, rfl, rfl, rfl, rfl, rfl, rfl, rfl, rfl, rfl, rfl, rfl, rfl, rfl, rfl, rfl, rfl, rfl, rfl, rfl⟩

@[simp] theorem setReg_frame (s : State) (ix el v : Nat) :
    (s.setReg ix el v).pending = s.pending ∧ (s.setReg ix el v).fresh = s.fresh ∧ (s.setReg ix el v).outbox = s.outbox ∧
    (s.setReg ix el v).tiles = s.tiles ∧ (s.setReg ix el v).dens = s.dens ∧ (s.setReg ix el v).seam = s.seam ∧
    (s.setReg ix el v).ic = s.ic ∧ (s.setReg ix el v).host = s.host ∧ (s.setReg ix el v).repair = s.repair ∧
    (s.setReg ix el v).wells = s.wells ∧ (s.setReg ix el v).cisterns = s.cisterns ∧ (s.setReg ix el v).wins = s.wins ∧
    (s.setReg ix el v).ctls = s.ctls ∧ (s.setReg ix el v).fab = s.fab ∧ (s.setReg ix el v).trust = s.trust ∧
    (s.setReg ix el v).meter = s.meter ∧ (s.setReg ix el v).saves = s.saves ∧ (s.setReg ix el v).chip = s.chip ∧
    (s.setReg ix el v).power = s.power ∧ (s.setReg ix el v).mesh = s.mesh :=
  ⟨rfl, rfl, rfl, rfl, rfl, rfl, rfl, rfl, rfl, rfl, rfl, rfl, rfl, rfl, rfl, rfl, rfl, rfl, rfl, rfl⟩

@[simp] theorem bump_frame (s : State) (ix el n : Nat) :
    (s.bump ix el n).pending = s.pending ∧ (s.bump ix el n).fresh = s.fresh ∧ (s.bump ix el n).outbox = s.outbox ∧
    (s.bump ix el n).tiles = s.tiles ∧ (s.bump ix el n).dens = s.dens ∧ (s.bump ix el n).seam = s.seam ∧
    (s.bump ix el n).ic = s.ic ∧ (s.bump ix el n).host = s.host ∧ (s.bump ix el n).repair = s.repair ∧
    (s.bump ix el n).wells = s.wells ∧ (s.bump ix el n).cisterns = s.cisterns ∧ (s.bump ix el n).wins = s.wins ∧
    (s.bump ix el n).ctls = s.ctls ∧ (s.bump ix el n).fab = s.fab ∧ (s.bump ix el n).trust = s.trust ∧
    (s.bump ix el n).meter = s.meter ∧ (s.bump ix el n).saves = s.saves ∧ (s.bump ix el n).chip = s.chip ∧
    (s.bump ix el n).power = s.power ∧ (s.bump ix el n).mesh = s.mesh :=
  ⟨rfl, rfl, rfl, rfl, rfl, rfl, rfl, rfl, rfl, rfl, rfl, rfl, rfl, rfl, rfl, rfl, rfl, rfl, rfl, rfl⟩

@[simp] theorem setPage_frame (s : State) (p : Nat) (x : RingPage) :
    (s.setPage p x).pending = s.pending ∧ (s.setPage p x).fresh = s.fresh ∧ (s.setPage p x).outbox = s.outbox ∧
    (s.setPage p x).tiles = s.tiles ∧ (s.setPage p x).dens = s.dens ∧ (s.setPage p x).seam = s.seam ∧ (s.setPage p x).ic = s.ic ∧
    (s.setPage p x).host = s.host ∧ (s.setPage p x).repair = s.repair ∧ (s.setPage p x).wells = s.wells ∧
    (s.setPage p x).cisterns = s.cisterns ∧ (s.setPage p x).wins = s.wins ∧ (s.setPage p x).ctls = s.ctls ∧
    (s.setPage p x).fab = s.fab ∧ (s.setPage p x).trust = s.trust ∧ (s.setPage p x).meter = s.meter ∧
    (s.setPage p x).saves = s.saves ∧ (s.setPage p x).chip = s.chip ∧ (s.setPage p x).power = s.power ∧
    (s.setPage p x).mesh = s.mesh :=
  ⟨rfl, rfl, rfl, rfl, rfl, rfl, rfl, rfl, rfl, rfl, rfl, rfl, rfl, rfl, rfl, rfl, rfl, rfl, rfl, rfl⟩

@[simp] theorem emit_frame (s : State) (x : Sent) :
    (s.emit x).pending = s.pending ∧ (s.emit x).fresh = s.fresh ∧ (s.emit x).tiles = s.tiles ∧ (s.emit x).dens = s.dens ∧
    (s.emit x).seam = s.seam ∧ (s.emit x).ic = s.ic ∧ (s.emit x).dict = s.dict ∧ (s.emit x).host = s.host ∧
    (s.emit x).repair = s.repair ∧ (s.emit x).wells = s.wells ∧ (s.emit x).cisterns = s.cisterns ∧ (s.emit x).wins = s.wins ∧
    (s.emit x).ctls = s.ctls ∧ (s.emit x).fab = s.fab ∧ (s.emit x).trust = s.trust ∧ (s.emit x).meter = s.meter ∧
    (s.emit x).saves = s.saves ∧ (s.emit x).chip = s.chip ∧ (s.emit x).power = s.power ∧ (s.emit x).mesh = s.mesh :=
  ⟨rfl, rfl, rfl, rfl, rfl, rfl, rfl, rfl, rfl, rfl, rfl, rfl, rfl, rfl, rfl, rfl, rfl, rfl, rfl, rfl⟩

@[simp] theorem raise_frame (s : State) (n : Nat) :
    (s.raise n).pending = s.pending ∧ (s.raise n).fresh = s.fresh ∧ (s.raise n).outbox = s.outbox ∧ (s.raise n).tiles = s.tiles ∧
    (s.raise n).dens = s.dens ∧ (s.raise n).seam = s.seam ∧ (s.raise n).dict = s.dict ∧ (s.raise n).host = s.host ∧
    (s.raise n).repair = s.repair ∧ (s.raise n).wells = s.wells ∧ (s.raise n).cisterns = s.cisterns ∧ (s.raise n).wins = s.wins ∧
    (s.raise n).ctls = s.ctls ∧ (s.raise n).fab = s.fab ∧ (s.raise n).trust = s.trust ∧ (s.raise n).meter = s.meter ∧
    (s.raise n).saves = s.saves ∧ (s.raise n).chip = s.chip ∧ (s.raise n).power = s.power ∧ (s.raise n).mesh = s.mesh :=
  ⟨rfl, rfl, rfl, rfl, rfl, rfl, rfl, rfl, rfl, rfl, rfl, rfl, rfl, rfl, rfl, rfl, rfl, rfl, rfl, rfl⟩

@[simp] theorem level_frame (s : State) (n : Nat) (c : Bool) :
    (s.level n c).pending = s.pending ∧ (s.level n c).fresh = s.fresh ∧ (s.level n c).outbox = s.outbox ∧
    (s.level n c).tiles = s.tiles ∧ (s.level n c).dens = s.dens ∧ (s.level n c).seam = s.seam ∧ (s.level n c).dict = s.dict ∧
    (s.level n c).host = s.host ∧ (s.level n c).repair = s.repair ∧ (s.level n c).wells = s.wells ∧
    (s.level n c).cisterns = s.cisterns ∧ (s.level n c).wins = s.wins ∧ (s.level n c).ctls = s.ctls ∧ (s.level n c).fab = s.fab ∧
    (s.level n c).trust = s.trust ∧ (s.level n c).meter = s.meter ∧ (s.level n c).saves = s.saves ∧ (s.level n c).chip = s.chip ∧
    (s.level n c).power = s.power ∧ (s.level n c).mesh = s.mesh :=
  ⟨rfl, rfl, rfl, rfl, rfl, rfl, rfl, rfl, rfl, rfl, rfl, rfl, rfl, rfl, rfl, rfl, rfl, rfl, rfl, rfl⟩

@[simp] theorem setFence_frame (s : State) (f : Nat) (x : Fence) :
    (s.setFence f x).pending = s.pending ∧ (s.setFence f x).fresh = s.fresh ∧ (s.setFence f x).outbox = s.outbox ∧
    (s.setFence f x).tiles = s.tiles ∧ (s.setFence f x).dens = s.dens ∧ (s.setFence f x).seam = s.seam ∧
    (s.setFence f x).ic = s.ic ∧ (s.setFence f x).dict = s.dict ∧ (s.setFence f x).repair = s.repair ∧
    (s.setFence f x).wells = s.wells ∧ (s.setFence f x).cisterns = s.cisterns ∧ (s.setFence f x).wins = s.wins ∧
    (s.setFence f x).ctls = s.ctls ∧ (s.setFence f x).fab = s.fab ∧ (s.setFence f x).trust = s.trust ∧
    (s.setFence f x).meter = s.meter ∧ (s.setFence f x).saves = s.saves ∧ (s.setFence f x).chip = s.chip ∧
    (s.setFence f x).power = s.power ∧ (s.setFence f x).mesh = s.mesh :=
  ⟨rfl, rfl, rfl, rfl, rfl, rfl, rfl, rfl, rfl, rfl, rfl, rfl, rfl, rfl, rfl, rfl, rfl, rfl, rfl, rfl⟩

@[simp] theorem setQueue_frame (s : State) (q : Nat) (x : Queue) :
    (s.setQueue q x).pending = s.pending ∧ (s.setQueue q x).fresh = s.fresh ∧ (s.setQueue q x).outbox = s.outbox ∧
    (s.setQueue q x).tiles = s.tiles ∧ (s.setQueue q x).dens = s.dens ∧ (s.setQueue q x).seam = s.seam ∧
    (s.setQueue q x).ic = s.ic ∧ (s.setQueue q x).dict = s.dict ∧ (s.setQueue q x).repair = s.repair ∧
    (s.setQueue q x).wells = s.wells ∧ (s.setQueue q x).cisterns = s.cisterns ∧ (s.setQueue q x).wins = s.wins ∧
    (s.setQueue q x).ctls = s.ctls ∧ (s.setQueue q x).fab = s.fab ∧ (s.setQueue q x).trust = s.trust ∧
    (s.setQueue q x).meter = s.meter ∧ (s.setQueue q x).saves = s.saves ∧ (s.setQueue q x).chip = s.chip ∧
    (s.setQueue q x).power = s.power ∧ (s.setQueue q x).mesh = s.mesh :=
  ⟨rfl, rfl, rfl, rfl, rfl, rfl, rfl, rfl, rfl, rfl, rfl, rfl, rfl, rfl, rfl, rfl, rfl, rfl, rfl, rfl⟩

@[simp] theorem setCur_frame (s : State) (q : Nat) (p : CurPhase) :
    (s.setCur q p).pending = s.pending ∧ (s.setCur q p).fresh = s.fresh ∧ (s.setCur q p).outbox = s.outbox ∧
    (s.setCur q p).tiles = s.tiles ∧ (s.setCur q p).dens = s.dens ∧ (s.setCur q p).seam = s.seam ∧ (s.setCur q p).ic = s.ic ∧
    (s.setCur q p).dict = s.dict ∧ (s.setCur q p).repair = s.repair ∧ (s.setCur q p).wells = s.wells ∧
    (s.setCur q p).cisterns = s.cisterns ∧ (s.setCur q p).wins = s.wins ∧ (s.setCur q p).ctls = s.ctls ∧
    (s.setCur q p).fab = s.fab ∧ (s.setCur q p).trust = s.trust ∧ (s.setCur q p).meter = s.meter ∧ (s.setCur q p).saves = s.saves ∧
    (s.setCur q p).chip = s.chip ∧ (s.setCur q p).power = s.power ∧ (s.setCur q p).mesh = s.mesh :=
  ⟨rfl, rfl, rfl, rfl, rfl, rfl, rfl, rfl, rfl, rfl, rfl, rfl, rfl, rfl, rfl, rfl, rfl, rfl, rfl, rfl⟩

@[simp] theorem setWell_frame (s : State) (n : Nat) (x : Well) :
    (s.setWell n x).pending = s.pending ∧ (s.setWell n x).fresh = s.fresh ∧ (s.setWell n x).outbox = s.outbox ∧
    (s.setWell n x).tiles = s.tiles ∧ (s.setWell n x).dens = s.dens ∧ (s.setWell n x).seam = s.seam ∧ (s.setWell n x).ic = s.ic ∧
    (s.setWell n x).dict = s.dict ∧ (s.setWell n x).host = s.host ∧ (s.setWell n x).repair = s.repair ∧
    (s.setWell n x).cisterns = s.cisterns ∧ (s.setWell n x).wins = s.wins ∧ (s.setWell n x).ctls = s.ctls ∧
    (s.setWell n x).fab = s.fab ∧ (s.setWell n x).trust = s.trust ∧ (s.setWell n x).meter = s.meter ∧
    (s.setWell n x).saves = s.saves ∧ (s.setWell n x).chip = s.chip ∧ (s.setWell n x).power = s.power ∧
    (s.setWell n x).mesh = s.mesh :=
  ⟨rfl, rfl, rfl, rfl, rfl, rfl, rfl, rfl, rfl, rfl, rfl, rfl, rfl, rfl, rfl, rfl, rfl, rfl, rfl, rfl⟩

@[simp] theorem setCis_frame (s : State) (n : Nat) (x : Cistern) :
    (s.setCis n x).pending = s.pending ∧ (s.setCis n x).fresh = s.fresh ∧ (s.setCis n x).outbox = s.outbox ∧
    (s.setCis n x).tiles = s.tiles ∧ (s.setCis n x).dens = s.dens ∧ (s.setCis n x).seam = s.seam ∧ (s.setCis n x).ic = s.ic ∧
    (s.setCis n x).dict = s.dict ∧ (s.setCis n x).host = s.host ∧ (s.setCis n x).repair = s.repair ∧
    (s.setCis n x).wells = s.wells ∧ (s.setCis n x).wins = s.wins ∧ (s.setCis n x).ctls = s.ctls ∧ (s.setCis n x).fab = s.fab ∧
    (s.setCis n x).trust = s.trust ∧ (s.setCis n x).meter = s.meter ∧ (s.setCis n x).saves = s.saves ∧
    (s.setCis n x).chip = s.chip ∧ (s.setCis n x).power = s.power ∧ (s.setCis n x).mesh = s.mesh :=
  ⟨rfl, rfl, rfl, rfl, rfl, rfl, rfl, rfl, rfl, rfl, rfl, rfl, rfl, rfl, rfl, rfl, rfl, rfl, rfl, rfl⟩

@[simp] theorem setCtl_frame (s : State) (k : Nat) (x : Ctl) :
    (s.setCtl k x).pending = s.pending ∧ (s.setCtl k x).fresh = s.fresh ∧ (s.setCtl k x).outbox = s.outbox ∧
    (s.setCtl k x).tiles = s.tiles ∧ (s.setCtl k x).dens = s.dens ∧ (s.setCtl k x).seam = s.seam ∧ (s.setCtl k x).ic = s.ic ∧
    (s.setCtl k x).dict = s.dict ∧ (s.setCtl k x).host = s.host ∧ (s.setCtl k x).repair = s.repair ∧
    (s.setCtl k x).wells = s.wells ∧ (s.setCtl k x).cisterns = s.cisterns ∧ (s.setCtl k x).wins = s.wins ∧
    (s.setCtl k x).fab = s.fab ∧ (s.setCtl k x).trust = s.trust ∧ (s.setCtl k x).meter = s.meter ∧ (s.setCtl k x).saves = s.saves ∧
    (s.setCtl k x).chip = s.chip ∧ (s.setCtl k x).power = s.power ∧ (s.setCtl k x).mesh = s.mesh :=
  ⟨rfl, rfl, rfl, rfl, rfl, rfl, rfl, rfl, rfl, rfl, rfl, rfl, rfl, rfl, rfl, rfl, rfl, rfl, rfl, rfl⟩

@[simp] theorem setLink_frame (s : State) (l : Nat) (x : Link) :
    (s.setLink l x).pending = s.pending ∧ (s.setLink l x).fresh = s.fresh ∧ (s.setLink l x).outbox = s.outbox ∧
    (s.setLink l x).tiles = s.tiles ∧ (s.setLink l x).dens = s.dens ∧ (s.setLink l x).seam = s.seam ∧ (s.setLink l x).ic = s.ic ∧
    (s.setLink l x).dict = s.dict ∧ (s.setLink l x).host = s.host ∧ (s.setLink l x).repair = s.repair ∧
    (s.setLink l x).wells = s.wells ∧ (s.setLink l x).cisterns = s.cisterns ∧ (s.setLink l x).wins = s.wins ∧
    (s.setLink l x).ctls = s.ctls ∧ (s.setLink l x).trust = s.trust ∧ (s.setLink l x).meter = s.meter ∧
    (s.setLink l x).saves = s.saves ∧ (s.setLink l x).chip = s.chip ∧ (s.setLink l x).power = s.power ∧
    (s.setLink l x).mesh = s.mesh :=
  ⟨rfl, rfl, rfl, rfl, rfl, rfl, rfl, rfl, rfl, rfl, rfl, rfl, rfl, rfl, rfl, rfl, rfl, rfl, rfl, rfl⟩

@[simp] theorem modLink_frame (s : State) (l : Nat) (f : Link → Link) :
    (s.modLink l f).pending = s.pending ∧ (s.modLink l f).fresh = s.fresh ∧ (s.modLink l f).outbox = s.outbox ∧
    (s.modLink l f).tiles = s.tiles ∧ (s.modLink l f).dens = s.dens ∧ (s.modLink l f).seam = s.seam ∧ (s.modLink l f).ic = s.ic ∧
    (s.modLink l f).dict = s.dict ∧ (s.modLink l f).host = s.host ∧ (s.modLink l f).repair = s.repair ∧
    (s.modLink l f).wells = s.wells ∧ (s.modLink l f).cisterns = s.cisterns ∧ (s.modLink l f).wins = s.wins ∧
    (s.modLink l f).ctls = s.ctls ∧ (s.modLink l f).trust = s.trust ∧ (s.modLink l f).meter = s.meter ∧
    (s.modLink l f).saves = s.saves ∧ (s.modLink l f).chip = s.chip ∧ (s.modLink l f).power = s.power ∧
    (s.modLink l f).mesh = s.mesh :=
  ⟨rfl, rfl, rfl, rfl, rfl, rfl, rfl, rfl, rfl, rfl, rfl, rfl, rfl, rfl, rfl, rfl, rfl, rfl, rfl, rfl⟩

@[simp] theorem setChan_frame (s : State) (c : Nat) (x : Option Chan) :
    (s.setChan c x).pending = s.pending ∧ (s.setChan c x).fresh = s.fresh ∧ (s.setChan c x).outbox = s.outbox ∧
    (s.setChan c x).tiles = s.tiles ∧ (s.setChan c x).dens = s.dens ∧ (s.setChan c x).seam = s.seam ∧ (s.setChan c x).ic = s.ic ∧
    (s.setChan c x).dict = s.dict ∧ (s.setChan c x).host = s.host ∧ (s.setChan c x).repair = s.repair ∧
    (s.setChan c x).wells = s.wells ∧ (s.setChan c x).cisterns = s.cisterns ∧ (s.setChan c x).wins = s.wins ∧
    (s.setChan c x).ctls = s.ctls ∧ (s.setChan c x).trust = s.trust ∧ (s.setChan c x).meter = s.meter ∧
    (s.setChan c x).saves = s.saves ∧ (s.setChan c x).chip = s.chip ∧ (s.setChan c x).power = s.power ∧
    (s.setChan c x).mesh = s.mesh :=
  ⟨rfl, rfl, rfl, rfl, rfl, rfl, rfl, rfl, rfl, rfl, rfl, rfl, rfl, rfl, rfl, rfl, rfl, rfl, rfl, rfl⟩

@[simp] theorem modChan_frame (s : State) (c : Nat) (f : Chan → Chan) :
    (s.modChan c f).pending = s.pending ∧ (s.modChan c f).fresh = s.fresh ∧ (s.modChan c f).outbox = s.outbox ∧
    (s.modChan c f).tiles = s.tiles ∧ (s.modChan c f).dens = s.dens ∧ (s.modChan c f).seam = s.seam ∧ (s.modChan c f).ic = s.ic ∧
    (s.modChan c f).dict = s.dict ∧ (s.modChan c f).host = s.host ∧ (s.modChan c f).repair = s.repair ∧
    (s.modChan c f).wells = s.wells ∧ (s.modChan c f).cisterns = s.cisterns ∧ (s.modChan c f).wins = s.wins ∧
    (s.modChan c f).ctls = s.ctls ∧ (s.modChan c f).trust = s.trust ∧ (s.modChan c f).meter = s.meter ∧
    (s.modChan c f).saves = s.saves ∧ (s.modChan c f).chip = s.chip ∧ (s.modChan c f).power = s.power ∧
    (s.modChan c f).mesh = s.mesh :=
  ⟨rfl, rfl, rfl, rfl, rfl, rfl, rfl, rfl, rfl, rfl, rfl, rfl, rfl, rfl, rfl, rfl, rfl, rfl, rfl, rfl⟩

@[simp] theorem setPhase_frame (s : State) (p : ChipPhase) :
    (s.setPhase p).pending = s.pending ∧ (s.setPhase p).fresh = s.fresh ∧ (s.setPhase p).outbox = s.outbox ∧
    (s.setPhase p).tiles = s.tiles ∧ (s.setPhase p).dens = s.dens ∧ (s.setPhase p).seam = s.seam ∧ (s.setPhase p).ic = s.ic ∧
    (s.setPhase p).dict = s.dict ∧ (s.setPhase p).host = s.host ∧ (s.setPhase p).repair = s.repair ∧
    (s.setPhase p).wells = s.wells ∧ (s.setPhase p).cisterns = s.cisterns ∧ (s.setPhase p).wins = s.wins ∧
    (s.setPhase p).ctls = s.ctls ∧ (s.setPhase p).fab = s.fab ∧ (s.setPhase p).trust = s.trust ∧ (s.setPhase p).meter = s.meter ∧
    (s.setPhase p).saves = s.saves ∧ (s.setPhase p).power = s.power ∧ (s.setPhase p).mesh = s.mesh :=
  ⟨rfl, rfl, rfl, rfl, rfl, rfl, rfl, rfl, rfl, rfl, rfl, rfl, rfl, rfl, rfl, rfl, rfl, rfl, rfl, rfl⟩

@[simp] theorem setDroop_frame (s : State) (h : Half) (d : Droop) :
    (s.setDroop h d).pending = s.pending ∧ (s.setDroop h d).fresh = s.fresh ∧ (s.setDroop h d).outbox = s.outbox ∧
    (s.setDroop h d).tiles = s.tiles ∧ (s.setDroop h d).dens = s.dens ∧ (s.setDroop h d).seam = s.seam ∧
    (s.setDroop h d).ic = s.ic ∧ (s.setDroop h d).dict = s.dict ∧ (s.setDroop h d).host = s.host ∧
    (s.setDroop h d).repair = s.repair ∧ (s.setDroop h d).wells = s.wells ∧ (s.setDroop h d).cisterns = s.cisterns ∧
    (s.setDroop h d).wins = s.wins ∧ (s.setDroop h d).ctls = s.ctls ∧ (s.setDroop h d).fab = s.fab ∧
    (s.setDroop h d).trust = s.trust ∧ (s.setDroop h d).meter = s.meter ∧ (s.setDroop h d).saves = s.saves ∧
    (s.setDroop h d).chip = s.chip ∧ (s.setDroop h d).mesh = s.mesh :=
  ⟨rfl, rfl, rfl, rfl, rfl, rfl, rfl, rfl, rfl, rfl, rfl, rfl, rfl, rfl, rfl, rfl, rfl, rfl, rfl, rfl⟩

@[simp] theorem setMarch_frame (s : State) (h : Half) (m : Option March) :
    (s.setMarch h m).pending = s.pending ∧ (s.setMarch h m).fresh = s.fresh ∧ (s.setMarch h m).outbox = s.outbox ∧
    (s.setMarch h m).tiles = s.tiles ∧ (s.setMarch h m).dens = s.dens ∧ (s.setMarch h m).seam = s.seam ∧
    (s.setMarch h m).ic = s.ic ∧ (s.setMarch h m).dict = s.dict ∧ (s.setMarch h m).host = s.host ∧
    (s.setMarch h m).wells = s.wells ∧ (s.setMarch h m).cisterns = s.cisterns ∧ (s.setMarch h m).wins = s.wins ∧
    (s.setMarch h m).ctls = s.ctls ∧ (s.setMarch h m).fab = s.fab ∧ (s.setMarch h m).trust = s.trust ∧
    (s.setMarch h m).meter = s.meter ∧ (s.setMarch h m).saves = s.saves ∧ (s.setMarch h m).chip = s.chip ∧
    (s.setMarch h m).power = s.power ∧ (s.setMarch h m).mesh = s.mesh :=
  ⟨rfl, rfl, rfl, rfl, rfl, rfl, rfl, rfl, rfl, rfl, rfl, rfl, rfl, rfl, rfl, rfl, rfl, rfl, rfl, rfl⟩

@[simp] theorem setReset_frame (s : State) (i : Nat) (x : Reset) :
    (s.setReset i x).pending = s.pending ∧ (s.setReset i x).fresh = s.fresh ∧ (s.setReset i x).outbox = s.outbox ∧
    (s.setReset i x).tiles = s.tiles ∧ (s.setReset i x).dens = s.dens ∧ (s.setReset i x).seam = s.seam ∧
    (s.setReset i x).ic = s.ic ∧ (s.setReset i x).dict = s.dict ∧ (s.setReset i x).host = s.host ∧
    (s.setReset i x).wells = s.wells ∧ (s.setReset i x).cisterns = s.cisterns ∧ (s.setReset i x).wins = s.wins ∧
    (s.setReset i x).ctls = s.ctls ∧ (s.setReset i x).fab = s.fab ∧ (s.setReset i x).trust = s.trust ∧
    (s.setReset i x).meter = s.meter ∧ (s.setReset i x).saves = s.saves ∧ (s.setReset i x).chip = s.chip ∧
    (s.setReset i x).power = s.power ∧ (s.setReset i x).mesh = s.mesh :=
  ⟨rfl, rfl, rfl, rfl, rfl, rfl, rfl, rfl, rfl, rfl, rfl, rfl, rfl, rfl, rfl, rfl, rfl, rfl, rfl, rfl⟩

@[simp] theorem dropReset_frame (s : State) (i : Nat) :
    (s.dropReset i).pending = s.pending ∧ (s.dropReset i).fresh = s.fresh ∧ (s.dropReset i).outbox = s.outbox ∧
    (s.dropReset i).tiles = s.tiles ∧ (s.dropReset i).dens = s.dens ∧ (s.dropReset i).seam = s.seam ∧ (s.dropReset i).ic = s.ic ∧
    (s.dropReset i).dict = s.dict ∧ (s.dropReset i).host = s.host ∧ (s.dropReset i).wells = s.wells ∧
    (s.dropReset i).cisterns = s.cisterns ∧ (s.dropReset i).wins = s.wins ∧ (s.dropReset i).ctls = s.ctls ∧
    (s.dropReset i).fab = s.fab ∧ (s.dropReset i).trust = s.trust ∧ (s.dropReset i).meter = s.meter ∧
    (s.dropReset i).saves = s.saves ∧ (s.dropReset i).chip = s.chip ∧ (s.dropReset i).power = s.power ∧
    (s.dropReset i).mesh = s.mesh :=
  ⟨rfl, rfl, rfl, rfl, rfl, rfl, rfl, rfl, rfl, rfl, rfl, rfl, rfl, rfl, rfl, rfl, rfl, rfl, rfl, rfl⟩

@[simp] theorem setIde_frame (s : State) (k : Nat) (x : IdeSet) :
    (s.setIde k x).pending = s.pending ∧ (s.setIde k x).fresh = s.fresh ∧ (s.setIde k x).outbox = s.outbox ∧
    (s.setIde k x).tiles = s.tiles ∧ (s.setIde k x).dens = s.dens ∧ (s.setIde k x).seam = s.seam ∧ (s.setIde k x).ic = s.ic ∧
    (s.setIde k x).dict = s.dict ∧ (s.setIde k x).host = s.host ∧ (s.setIde k x).repair = s.repair ∧
    (s.setIde k x).wells = s.wells ∧ (s.setIde k x).cisterns = s.cisterns ∧ (s.setIde k x).wins = s.wins ∧
    (s.setIde k x).ctls = s.ctls ∧ (s.setIde k x).fab = s.fab ∧ (s.setIde k x).meter = s.meter ∧ (s.setIde k x).saves = s.saves ∧
    (s.setIde k x).chip = s.chip ∧ (s.setIde k x).power = s.power ∧ (s.setIde k x).mesh = s.mesh :=
  ⟨rfl, rfl, rfl, rfl, rfl, rfl, rfl, rfl, rfl, rfl, rfl, rfl, rfl, rfl, rfl, rfl, rfl, rfl, rfl, rfl⟩

/-! ### What an update writes, and what a read gives after it -/

@[simp] theorem setTile_tiles (s : State) (t : Nat) (x : Tile) : (s.setTile t x).tiles = kput {} s.tiles t x := rfl
@[simp] theorem setDen_dens (s : State) (n : Nat) (d : Den) : (s.setDen n d).dens = kput {} s.dens n d := rfl
@[simp] theorem setReg_dict (s : State) (ix el v : Nat) : (s.setReg ix el v).dict = s.dict.setReg ix el v := rfl
@[simp] theorem bump_dict (s : State) (ix el n : Nat) : (s.bump ix el n).dict = s.dict.bump ix el n := rfl
@[simp] theorem emit_outbox (s : State) (x : Sent) : (s.emit x).outbox = x :: s.outbox := rfl
@[simp] theorem raise_ic (s : State) (n : Nat) : (s.raise n).ic = s.ic.occur n true := rfl
@[simp] theorem level_ic (s : State) (n : Nat) (c : Bool) : (s.level n c).ic = s.ic.occur n c := rfl
@[simp] theorem setWell_wells (s : State) (n : Nat) (x : Well) : (s.setWell n x).wells = kput {} s.wells n x := rfl
@[simp] theorem setCis_cisterns (s : State) (n : Nat) (x : Cistern) : (s.setCis n x).cisterns = kput {} s.cisterns n x := rfl
@[simp] theorem setCtl_ctls (s : State) (k : Nat) (x : Ctl) : (s.setCtl k x).ctls = kput {} s.ctls k x := rfl
@[simp] theorem setPhase_phase (s : State) (p : ChipPhase) : (s.setPhase p).chip.phase = p := rfl

/-- A tile after a tile is set: the one set, every other as before. -/
@[simp] theorem setTile_tile (s : State) (t u : Nat) (x : Tile) : (s.setTile t x).tile u = if u = t then x else s.tile u := by
  simp [State.tile, State.setTile]

@[simp] theorem modTile_tile (s : State) (t u : Nat) (f : Tile → Tile) :
    (s.modTile t f).tile u = if u = t then f (s.tile t) else s.tile u := by
  simp [State.modTile]

@[simp] theorem setDen_den (s : State) (n m : Nat) (d : Den) : (s.setDen n d).den m = if m = n then d else s.den m := by
  simp [State.den, State.setDen]

@[simp] theorem modDen_den (s : State) (n m : Nat) (f : Den → Den) :
    (s.modDen n f).den m = if m = n then f (s.den n) else s.den m := by
  simp [State.modDen]

@[simp] theorem setWell_well (s : State) (n m : Nat) (x : Well) : (s.setWell n x).well m = if m = n then x else s.well m := by
  simp [State.well, State.setWell]

@[simp] theorem setCis_cis (s : State) (n m : Nat) (x : Cistern) : (s.setCis n x).cis m = if m = n then x else s.cis m := by
  simp [State.cis, State.setCis]

@[simp] theorem setCtl_ctl (s : State) (k j : Nat) (x : Ctl) : (s.setCtl k x).ctl j = if j = k then x else s.ctl j := by
  simp [State.ctl, State.setCtl]

@[simp] theorem setFence_fence (s : State) (f g : Nat) (x : Fence) : (s.setFence f x).fence g = if g = f then x else s.fence g := by
  simp [State.fence, State.setFence]

@[simp] theorem setQueue_queue (s : State) (q r : Nat) (x : Queue) : (s.setQueue q x).queue r = if r = q then x else s.queue r := by
  simp [State.queue, State.setQueue]

@[simp] theorem setPage_page (s : State) (p r : Nat) (x : RingPage) : (s.setPage p x).page r = if r = p then x else s.page r := by
  simp [State.page, State.setPage]

@[simp] theorem setLink_link (s : State) (l m : Nat) (x : Link) : (s.setLink l x).link m = if m = l then x else s.link m := by
  simp [State.link, State.setLink]

@[simp] theorem modLink_link (s : State) (l m : Nat) (f : Link → Link) :
    (s.modLink l f).link m = if m = l then f (s.link l) else s.link m := by
  simp [State.modLink]

@[simp] theorem setChan_chan (s : State) (c d : Nat) (x : Option Chan) : (s.setChan c x).chan d = if d = c then x else s.chan d := by
  simp [State.chan, State.setChan]

/-- A register of the dictionary after one is written: the one written, every other as before. -/
theorem setReg_reg (s : State) {ix el jx fl : Nat} (v : Nat) (h : el < 256) (h' : fl < 256) :
    (s.setReg ix el v).reg jx fl = if jx = ix ∧ fl = el then v else s.reg jx fl := by
  have hk : elemKey jx fl = elemKey ix el ↔ jx = ix ∧ fl = el := by unfold elemKey; omega
  by_cases hx : jx = ix ∧ fl = el
  · obtain ⟨rfl, rfl⟩ := hx
    simp [State.reg, State.setReg, Dict.reg, Dict.setReg]
  · rw [if_neg hx]
    exact kget_kput_default _ _ _ _ (fun e => hx (hk.mp e))

/-- What no register write changes. -/
@[simp] theorem setReg_dict_rest (s : State) (ix el v : Nat) :
    (s.setReg ix el v).dict.pages = s.dict.pages ∧ (s.setReg ix el v).dict.nextId = s.dict.nextId ∧
    (s.setReg ix el v).dict.ready = s.dict.ready ∧ (s.setReg ix el v).dict.blobs = s.dict.blobs := ⟨rfl, rfl, rfl, rfl⟩

end Sys2Proof.Laws
end

