-- ==== Sys2Proof/Laws/Frames.lean ====
section
/-! SUPPORT. Laws/Frames.lean: what the shared operations leave as it was, whatever they do to the rest: for each, every part of the state
that it does not touch. -/

namespace Sys2Proof.Laws

open Sys2Proof Sys2Proof.Machine

theorem foldl_keeps {α β : Type} (F : State → β) (f : State → α → State) (l : List α) (s : State) (h : ∀ s a, F (f s a) = F s) :
    F (l.foldl f s) = F s := by
  induction l generalizing s with
  | nil => rfl
  | cons a l ih => simp [ih, h]

theorem snd_of_eq {α β : Type} {p : α × β} {a : α} {b : β} (h : p = (a, b)) : b = p.2 := by rw [h]
theorem snd2_of_eq {α β γ : Type} {p : α × β × γ} {a : α} {b : β} {c : γ} (h : p = (a, b, c)) : c = p.2.2 := by rw [h]

@[simp] theorem foldl_pending {α : Type} (f : State → α → State) (l : List α) (s : State) (h : ∀ s a, (f s a).pending = s.pending) :
    (l.foldl f s).pending = s.pending := foldl_keeps State.pending f l s h
@[simp] theorem foldl_fresh {α : Type} (f : State → α → State) (l : List α) (s : State) (h : ∀ s a, (f s a).fresh = s.fresh) :
    (l.foldl f s).fresh = s.fresh := foldl_keeps State.fresh f l s h
@[simp] theorem foldl_outbox {α : Type} (f : State → α → State) (l : List α) (s : State) (h : ∀ s a, (f s a).outbox = s.outbox) :
    (l.foldl f s).outbox = s.outbox := foldl_keeps State.outbox f l s h
@[simp] theorem foldl_tiles {α : Type} (f : State → α → State) (l : List α) (s : State) (h : ∀ s a, (f s a).tiles = s.tiles) :
    (l.foldl f s).tiles = s.tiles := foldl_keeps State.tiles f l s h
@[simp] theorem foldl_dens {α : Type} (f : State → α → State) (l : List α) (s : State) (h : ∀ s a, (f s a).dens = s.dens) :
    (l.foldl f s).dens = s.dens := foldl_keeps State.dens f l s h
@[simp] theorem foldl_seam {α : Type} (f : State → α → State) (l : List α) (s : State) (h : ∀ s a, (f s a).seam = s.seam) :
    (l.foldl f s).seam = s.seam := foldl_keeps State.seam f l s h
@[simp] theorem foldl_ic {α : Type} (f : State → α → State) (l : List α) (s : State) (h : ∀ s a, (f s a).ic = s.ic) :
    (l.foldl f s).ic = s.ic := foldl_keeps State.ic f l s h
@[simp] theorem foldl_dict {α : Type} (f : State → α → State) (l : List α) (s : State) (h : ∀ s a, (f s a).dict = s.dict) :
    (l.foldl f s).dict = s.dict := foldl_keeps State.dict f l s h
@[simp] theorem foldl_host {α : Type} (f : State → α → State) (l : List α) (s : State) (h : ∀ s a, (f s a).host = s.host) :
    (l.foldl f s).host = s.host := foldl_keeps State.host f l s h
@[simp] theorem foldl_repair {α : Type} (f : State → α → State) (l : List α) (s : State) (h : ∀ s a, (f s a).repair = s.repair) :
    (l.foldl f s).repair = s.repair := foldl_keeps State.repair f l s h
@[simp] theorem foldl_wells {α : Type} (f : State → α → State) (l : List α) (s : State) (h : ∀ s a, (f s a).wells = s.wells) :
    (l.foldl f s).wells = s.wells := foldl_keeps State.wells f l s h
@[simp] theorem foldl_cisterns {α : Type} (f : State → α → State) (l : List α) (s : State) (h : ∀ s a, (f s a).cisterns = s.cisterns) :
    (l.foldl f s).cisterns = s.cisterns := foldl_keeps State.cisterns f l s h
@[simp] theorem foldl_wins {α : Type} (f : State → α → State) (l : List α) (s : State) (h : ∀ s a, (f s a).wins = s.wins) :
    (l.foldl f s).wins = s.wins := foldl_keeps State.wins f l s h
@[simp] theorem foldl_ctls {α : Type} (f : State → α → State) (l : List α) (s : State) (h : ∀ s a, (f s a).ctls = s.ctls) :
    (l.foldl f s).ctls = s.ctls := foldl_keeps State.ctls f l s h
@[simp] theorem foldl_fab {α : Type} (f : State → α → State) (l : List α) (s : State) (h : ∀ s a, (f s a).fab = s.fab) :
    (l.foldl f s).fab = s.fab := foldl_keeps State.fab f l s h
@[simp] theorem foldl_trust {α : Type} (f : State → α → State) (l : List α) (s : State) (h : ∀ s a, (f s a).trust = s.trust) :
    (l.foldl f s).trust = s.trust := foldl_keeps State.trust f l s h
@[simp] theorem foldl_meter {α : Type} (f : State → α → State) (l : List α) (s : State) (h : ∀ s a, (f s a).meter = s.meter) :
    (l.foldl f s).meter = s.meter := foldl_keeps State.meter f l s h
@[simp] theorem foldl_saves {α : Type} (f : State → α → State) (l : List α) (s : State) (h : ∀ s a, (f s a).saves = s.saves) :
    (l.foldl f s).saves = s.saves := foldl_keeps State.saves f l s h
@[simp] theorem foldl_chip {α : Type} (f : State → α → State) (l : List α) (s : State) (h : ∀ s a, (f s a).chip = s.chip) :
    (l.foldl f s).chip = s.chip := foldl_keeps State.chip f l s h
@[simp] theorem foldl_power {α : Type} (f : State → α → State) (l : List α) (s : State) (h : ∀ s a, (f s a).power = s.power) :
    (l.foldl f s).power = s.power := foldl_keeps State.power f l s h
@[simp] theorem foldl_mesh {α : Type} (f : State → α → State) (l : List α) (s : State) (h : ∀ s a, (f s a).mesh = s.mesh) :
    (l.foldl f s).mesh = s.mesh := foldl_keeps State.mesh f l s h

@[simp] theorem endEntry_frame (s : State) (q : Nat) (status : Code) (badIx : Nat) (badCode : Code) :
    (State.endEntry s q status badIx badCode).pending = s.pending ∧ (State.endEntry s q status badIx badCode).fresh = s.fresh ∧
    (State.endEntry s q status badIx badCode).outbox = s.outbox ∧ (State.endEntry s q status badIx badCode).tiles = s.tiles ∧
    (State.endEntry s q status badIx badCode).dens = s.dens ∧ (State.endEntry s q status badIx badCode).seam = s.seam ∧
    (State.endEntry s q status badIx badCode).ic = s.ic ∧ (State.endEntry s q status badIx badCode).dict = s.dict ∧
    (State.endEntry s q status badIx badCode).repair = s.repair ∧ (State.endEntry s q status badIx badCode).wells = s.wells ∧
    (State.endEntry s q status badIx badCode).cisterns = s.cisterns ∧ (State.endEntry s q status badIx badCode).wins = s.wins ∧
    (State.endEntry s q status badIx badCode).ctls = s.ctls ∧ (State.endEntry s q status badIx badCode).fab = s.fab ∧
    (State.endEntry s q status badIx badCode).trust = s.trust ∧ (State.endEntry s q status badIx badCode).meter = s.meter ∧
    (State.endEntry s q status badIx badCode).saves = s.saves ∧ (State.endEntry s q status badIx badCode).chip = s.chip ∧
    (State.endEntry s q status badIx badCode).power = s.power ∧ (State.endEntry s q status badIx badCode).mesh = s.mesh := by
  exact ⟨rfl, rfl, rfl, rfl, rfl, rfl, rfl, rfl, rfl, rfl, rfl, rfl, rfl, rfl, rfl, rfl, rfl, rfl, rfl, rfl⟩

@[simp] theorem dropWait_frame (s : State) (q : Nat) :
    (State.dropWait s q).pending = s.pending ∧ (State.dropWait s q).fresh = s.fresh ∧ (State.dropWait s q).outbox = s.outbox ∧
    (State.dropWait s q).tiles = s.tiles ∧ (State.dropWait s q).dens = s.dens ∧ (State.dropWait s q).seam = s.seam ∧
    (State.dropWait s q).ic = s.ic ∧ (State.dropWait s q).dict = s.dict ∧ (State.dropWait s q).repair = s.repair ∧
    (State.dropWait s q).wells = s.wells ∧ (State.dropWait s q).cisterns = s.cisterns ∧ (State.dropWait s q).wins = s.wins ∧
    (State.dropWait s q).ctls = s.ctls ∧ (State.dropWait s q).fab = s.fab ∧ (State.dropWait s q).trust = s.trust ∧
    (State.dropWait s q).meter = s.meter ∧ (State.dropWait s q).saves = s.saves ∧ (State.dropWait s q).chip = s.chip ∧
    (State.dropWait s q).power = s.power ∧ (State.dropWait s q).mesh = s.mesh := by
  unfold State.dropWait; (repeat' split) <;> simp

@[simp] theorem untake_frame (s : State) (q : Nat) :
    (State.untake s q).pending = s.pending ∧ (State.untake s q).fresh = s.fresh ∧ (State.untake s q).outbox = s.outbox ∧
    (State.untake s q).tiles = s.tiles ∧ (State.untake s q).dens = s.dens ∧ (State.untake s q).seam = s.seam ∧
    (State.untake s q).ic = s.ic ∧ (State.untake s q).dict = s.dict ∧ (State.untake s q).repair = s.repair ∧
    (State.untake s q).wells = s.wells ∧ (State.untake s q).cisterns = s.cisterns ∧ (State.untake s q).wins = s.wins ∧
    (State.untake s q).ctls = s.ctls ∧ (State.untake s q).fab = s.fab ∧ (State.untake s q).trust = s.trust ∧
    (State.untake s q).meter = s.meter ∧ (State.untake s q).saves = s.saves ∧ (State.untake s q).chip = s.chip ∧
    (State.untake s q).power = s.power ∧ (State.untake s q).mesh = s.mesh := by
  unfold State.untake; (repeat' split) <;> simp

@[simp] theorem stopQueue_frame (s : State) (q : Nat) (status : Option Code) :
    (State.stopQueue s q status).pending = s.pending ∧ (State.stopQueue s q status).fresh = s.fresh ∧
    (State.stopQueue s q status).outbox = s.outbox ∧ (State.stopQueue s q status).tiles = s.tiles ∧
    (State.stopQueue s q status).dens = s.dens ∧ (State.stopQueue s q status).seam = s.seam ∧
    (State.stopQueue s q status).ic = s.ic ∧ (State.stopQueue s q status).dict = s.dict ∧
    (State.stopQueue s q status).repair = s.repair ∧ (State.stopQueue s q status).wells = s.wells ∧
    (State.stopQueue s q status).cisterns = s.cisterns ∧ (State.stopQueue s q status).wins = s.wins ∧
    (State.stopQueue s q status).ctls = s.ctls ∧ (State.stopQueue s q status).fab = s.fab ∧
    (State.stopQueue s q status).trust = s.trust ∧ (State.stopQueue s q status).meter = s.meter ∧
    (State.stopQueue s q status).saves = s.saves ∧ (State.stopQueue s q status).chip = s.chip ∧
    (State.stopQueue s q status).power = s.power ∧ (State.stopQueue s q status).mesh = s.mesh := by
  simp [State.stopQueue]

@[simp] theorem waitDone_frame (s : State) (q : Nat) :
    (State.waitDone s q).pending = s.pending ∧ (State.waitDone s q).fresh = s.fresh ∧ (State.waitDone s q).outbox = s.outbox ∧
    (State.waitDone s q).tiles = s.tiles ∧ (State.waitDone s q).dens = s.dens ∧ (State.waitDone s q).seam = s.seam ∧
    (State.waitDone s q).ic = s.ic ∧ (State.waitDone s q).dict = s.dict ∧ (State.waitDone s q).repair = s.repair ∧
    (State.waitDone s q).wells = s.wells ∧ (State.waitDone s q).cisterns = s.cisterns ∧ (State.waitDone s q).wins = s.wins ∧
    (State.waitDone s q).ctls = s.ctls ∧ (State.waitDone s q).fab = s.fab ∧ (State.waitDone s q).trust = s.trust ∧
    (State.waitDone s q).meter = s.meter ∧ (State.waitDone s q).saves = s.saves ∧ (State.waitDone s q).chip = s.chip ∧
    (State.waitDone s q).power = s.power ∧ (State.waitDone s q).mesh = s.mesh := by
  unfold State.waitDone; (repeat' split) <;> simp

@[simp] theorem wakeWaits_frame (s : State) (f : Nat) :
    (State.wakeWaits s f).pending = s.pending ∧ (State.wakeWaits s f).fresh = s.fresh ∧ (State.wakeWaits s f).outbox = s.outbox ∧
    (State.wakeWaits s f).tiles = s.tiles ∧ (State.wakeWaits s f).dens = s.dens ∧ (State.wakeWaits s f).seam = s.seam ∧
    (State.wakeWaits s f).ic = s.ic ∧ (State.wakeWaits s f).dict = s.dict ∧ (State.wakeWaits s f).repair = s.repair ∧
    (State.wakeWaits s f).wells = s.wells ∧ (State.wakeWaits s f).cisterns = s.cisterns ∧ (State.wakeWaits s f).wins = s.wins ∧
    (State.wakeWaits s f).ctls = s.ctls ∧ (State.wakeWaits s f).fab = s.fab ∧ (State.wakeWaits s f).trust = s.trust ∧
    (State.wakeWaits s f).meter = s.meter ∧ (State.wakeWaits s f).saves = s.saves ∧ (State.wakeWaits s f).chip = s.chip ∧
    (State.wakeWaits s f).power = s.power ∧ (State.wakeWaits s f).mesh = s.mesh := by
  simp [State.wakeWaits]

@[simp] theorem signalFence_frame (s : State) (f v : Nat) (wide : Bool) :
    (State.signalFence s f v wide).pending = s.pending ∧ (State.signalFence s f v wide).fresh = s.fresh ∧
    (State.signalFence s f v wide).outbox = s.outbox ∧ (State.signalFence s f v wide).tiles = s.tiles ∧
    (State.signalFence s f v wide).dens = s.dens ∧ (State.signalFence s f v wide).seam = s.seam ∧
    (State.signalFence s f v wide).ic = s.ic ∧ (State.signalFence s f v wide).dict = s.dict ∧
    (State.signalFence s f v wide).repair = s.repair ∧ (State.signalFence s f v wide).wells = s.wells ∧
    (State.signalFence s f v wide).cisterns = s.cisterns ∧ (State.signalFence s f v wide).wins = s.wins ∧
    (State.signalFence s f v wide).ctls = s.ctls ∧ (State.signalFence s f v wide).fab = s.fab ∧
    (State.signalFence s f v wide).trust = s.trust ∧ (State.signalFence s f v wide).meter = s.meter ∧
    (State.signalFence s f v wide).saves = s.saves ∧ (State.signalFence s f v wide).chip = s.chip ∧
    (State.signalFence s f v wide).power = s.power ∧ (State.signalFence s f v wide).mesh = s.mesh := by
  unfold State.signalFence; dsimp only; split <;> simp

@[simp] theorem signal_frame (s : State) (slot : Nat) (l : List Signal) :
    (State.signal s slot l).pending = s.pending ∧ (State.signal s slot l).fresh = s.fresh ∧
    (State.signal s slot l).outbox = s.outbox ∧ (State.signal s slot l).tiles = s.tiles ∧ (State.signal s slot l).seam = s.seam ∧
    (State.signal s slot l).ic = s.ic ∧ (State.signal s slot l).dict = s.dict ∧ (State.signal s slot l).host = s.host ∧
    (State.signal s slot l).repair = s.repair ∧ (State.signal s slot l).wells = s.wells ∧
    (State.signal s slot l).cisterns = s.cisterns ∧ (State.signal s slot l).wins = s.wins ∧ (State.signal s slot l).ctls = s.ctls ∧
    (State.signal s slot l).fab = s.fab ∧ (State.signal s slot l).trust = s.trust ∧ (State.signal s slot l).meter = s.meter ∧
    (State.signal s slot l).saves = s.saves ∧ (State.signal s slot l).chip = s.chip ∧ (State.signal s slot l).power = s.power ∧
    (State.signal s slot l).mesh = s.mesh := by
  exact ⟨rfl, rfl, rfl, rfl, rfl, rfl, rfl, rfl, rfl, rfl, rfl, rfl, rfl, rfl, rfl, rfl, rfl, rfl, rfl, rfl⟩

@[simp] theorem freezeTile_frame (s : State) (slot t : Nat) (source : Option (Nat × Nat)) (cyc : Nat) (from_ : Option Dir) :
    (State.freezeTile s slot t source cyc from_).pending = s.pending ∧
    (State.freezeTile s slot t source cyc from_).fresh = s.fresh ∧ (State.freezeTile s slot t source cyc from_).outbox = s.outbox ∧
    (State.freezeTile s slot t source cyc from_).seam = s.seam ∧ (State.freezeTile s slot t source cyc from_).ic = s.ic ∧
    (State.freezeTile s slot t source cyc from_).dict = s.dict ∧ (State.freezeTile s slot t source cyc from_).host = s.host ∧
    (State.freezeTile s slot t source cyc from_).repair = s.repair ∧ (State.freezeTile s slot t source cyc from_).wells = s.wells ∧
    (State.freezeTile s slot t source cyc from_).cisterns = s.cisterns ∧
    (State.freezeTile s slot t source cyc from_).wins = s.wins ∧ (State.freezeTile s slot t source cyc from_).ctls = s.ctls ∧
    (State.freezeTile s slot t source cyc from_).fab = s.fab ∧ (State.freezeTile s slot t source cyc from_).trust = s.trust ∧
    (State.freezeTile s slot t source cyc from_).meter = s.meter ∧ (State.freezeTile s slot t source cyc from_).saves = s.saves ∧
    (State.freezeTile s slot t source cyc from_).chip = s.chip ∧ (State.freezeTile s slot t source cyc from_).power = s.power ∧
    (State.freezeTile s slot t source cyc from_).mesh = s.mesh := by
  unfold State.freezeTile; dsimp only; split <;> simp

@[simp] theorem failStep_frame (s : State) (slot : Nat) (code : Code) :
    (State.failStep s slot code).pending = s.pending ∧ (State.failStep s slot code).fresh = s.fresh ∧
    (State.failStep s slot code).outbox = s.outbox ∧ (State.failStep s slot code).tiles = s.tiles ∧
    (State.failStep s slot code).seam = s.seam ∧ (State.failStep s slot code).ic = s.ic ∧
    (State.failStep s slot code).dict = s.dict ∧ (State.failStep s slot code).repair = s.repair ∧
    (State.failStep s slot code).wells = s.wells ∧ (State.failStep s slot code).cisterns = s.cisterns ∧
    (State.failStep s slot code).wins = s.wins ∧ (State.failStep s slot code).ctls = s.ctls ∧
    (State.failStep s slot code).fab = s.fab ∧ (State.failStep s slot code).trust = s.trust ∧
    (State.failStep s slot code).meter = s.meter ∧ (State.failStep s slot code).saves = s.saves ∧
    (State.failStep s slot code).chip = s.chip ∧ (State.failStep s slot code).power = s.power ∧
    (State.failStep s slot code).mesh = s.mesh := by
  unfold State.failStep; dsimp only; (repeat' split) <;> simp

@[simp] theorem beginReset_frame (s : State) (d : ResetDom) (c : Code) :
    (State.beginReset s d c).pending = s.pending ∧ (State.beginReset s d c).fresh = s.fresh ∧
    (State.beginReset s d c).outbox = s.outbox ∧ (State.beginReset s d c).tiles = s.tiles ∧ (State.beginReset s d c).dens = s.dens ∧
    (State.beginReset s d c).seam = s.seam ∧ (State.beginReset s d c).ic = s.ic ∧ (State.beginReset s d c).dict = s.dict ∧
    (State.beginReset s d c).host = s.host ∧ (State.beginReset s d c).wells = s.wells ∧
    (State.beginReset s d c).cisterns = s.cisterns ∧ (State.beginReset s d c).wins = s.wins ∧
    (State.beginReset s d c).ctls = s.ctls ∧ (State.beginReset s d c).fab = s.fab ∧ (State.beginReset s d c).trust = s.trust ∧
    (State.beginReset s d c).meter = s.meter ∧ (State.beginReset s d c).saves = s.saves ∧ (State.beginReset s d c).chip = s.chip ∧
    (State.beginReset s d c).power = s.power ∧ (State.beginReset s d c).mesh = s.mesh := by
  unfold State.beginReset; split <;> simp

@[simp] theorem cmdResult_frame (s : State) (slot : Nat) (c : Code) :
    (State.cmdResult s slot c).pending = s.pending ∧ (State.cmdResult s slot c).fresh = s.fresh ∧
    (State.cmdResult s slot c).outbox = s.outbox ∧ (State.cmdResult s slot c).tiles = s.tiles ∧
    (State.cmdResult s slot c).seam = s.seam ∧ (State.cmdResult s slot c).ic = s.ic ∧ (State.cmdResult s slot c).dict = s.dict ∧
    (State.cmdResult s slot c).host = s.host ∧ (State.cmdResult s slot c).repair = s.repair ∧
    (State.cmdResult s slot c).wells = s.wells ∧ (State.cmdResult s slot c).cisterns = s.cisterns ∧
    (State.cmdResult s slot c).wins = s.wins ∧ (State.cmdResult s slot c).ctls = s.ctls ∧ (State.cmdResult s slot c).fab = s.fab ∧
    (State.cmdResult s slot c).trust = s.trust ∧ (State.cmdResult s slot c).meter = s.meter ∧
    (State.cmdResult s slot c).saves = s.saves ∧ (State.cmdResult s slot c).chip = s.chip ∧
    (State.cmdResult s slot c).power = s.power ∧ (State.cmdResult s slot c).mesh = s.mesh := by
  exact ⟨rfl, rfl, rfl, rfl, rfl, rfl, rfl, rfl, rfl, rfl, rfl, rfl, rfl, rfl, rfl, rfl, rfl, rfl, rfl, rfl⟩

@[simp] theorem enterFaulted_frame (s : State) (slot : Nat) (code : Code) (i : FaultInfo) (ladder : Bool) :
    (State.enterFaulted s slot code i ladder).pending = s.pending ∧ (State.enterFaulted s slot code i ladder).fresh = s.fresh ∧
    (State.enterFaulted s slot code i ladder).outbox = s.outbox ∧ (State.enterFaulted s slot code i ladder).tiles = s.tiles ∧
    (State.enterFaulted s slot code i ladder).seam = s.seam ∧ (State.enterFaulted s slot code i ladder).dict = s.dict ∧
    (State.enterFaulted s slot code i ladder).wells = s.wells ∧ (State.enterFaulted s slot code i ladder).cisterns = s.cisterns ∧
    (State.enterFaulted s slot code i ladder).wins = s.wins ∧ (State.enterFaulted s slot code i ladder).ctls = s.ctls ∧
    (State.enterFaulted s slot code i ladder).fab = s.fab ∧ (State.enterFaulted s slot code i ladder).trust = s.trust ∧
    (State.enterFaulted s slot code i ladder).meter = s.meter ∧ (State.enterFaulted s slot code i ladder).saves = s.saves ∧
    (State.enterFaulted s slot code i ladder).chip = s.chip ∧ (State.enterFaulted s slot code i ladder).power = s.power ∧
    (State.enterFaulted s slot code i ladder).mesh = s.mesh := by
  unfold State.enterFaulted; dsimp only; (repeat' split) <;> simp

@[simp] theorem tileFault_frame (s : State) (slot t : Nat) (code : Code) (i : FaultInfo) :
    (State.tileFault s slot t code i).pending = s.pending ∧ (State.tileFault s slot t code i).fresh = s.fresh ∧
    (State.tileFault s slot t code i).outbox = s.outbox ∧ (State.tileFault s slot t code i).seam = s.seam ∧
    (State.tileFault s slot t code i).dict = s.dict ∧ (State.tileFault s slot t code i).wells = s.wells ∧
    (State.tileFault s slot t code i).cisterns = s.cisterns ∧ (State.tileFault s slot t code i).wins = s.wins ∧
    (State.tileFault s slot t code i).ctls = s.ctls ∧ (State.tileFault s slot t code i).fab = s.fab ∧
    (State.tileFault s slot t code i).trust = s.trust ∧ (State.tileFault s slot t code i).meter = s.meter ∧
    (State.tileFault s slot t code i).saves = s.saves ∧ (State.tileFault s slot t code i).chip = s.chip ∧
    (State.tileFault s slot t code i).power = s.power ∧ (State.tileFault s slot t code i).mesh = s.mesh := by
  simp [State.tileFault]

@[simp] theorem denFault_frame (s : State) (slot : Nat) (code : Code) (ladder : Bool) :
    (State.denFault s slot code ladder).pending = s.pending ∧ (State.denFault s slot code ladder).fresh = s.fresh ∧
    (State.denFault s slot code ladder).outbox = s.outbox ∧ (State.denFault s slot code ladder).seam = s.seam ∧
    (State.denFault s slot code ladder).dict = s.dict ∧ (State.denFault s slot code ladder).wells = s.wells ∧
    (State.denFault s slot code ladder).cisterns = s.cisterns ∧ (State.denFault s slot code ladder).wins = s.wins ∧
    (State.denFault s slot code ladder).ctls = s.ctls ∧ (State.denFault s slot code ladder).fab = s.fab ∧
    (State.denFault s slot code ladder).trust = s.trust ∧ (State.denFault s slot code ladder).meter = s.meter ∧
    (State.denFault s slot code ladder).saves = s.saves ∧ (State.denFault s slot code ladder).chip = s.chip ∧
    (State.denFault s slot code ladder).power = s.power ∧ (State.denFault s slot code ladder).mesh = s.mesh := by
  unfold State.denFault; dsimp only; split <;> simp

@[simp] theorem faultAny_frame (s : State) (slot : Nat) (code : Code) (ladder : Bool) :
    (State.faultAny s slot code ladder).pending = s.pending ∧ (State.faultAny s slot code ladder).fresh = s.fresh ∧
    (State.faultAny s slot code ladder).outbox = s.outbox ∧ (State.faultAny s slot code ladder).seam = s.seam ∧
    (State.faultAny s slot code ladder).dict = s.dict ∧ (State.faultAny s slot code ladder).wells = s.wells ∧
    (State.faultAny s slot code ladder).cisterns = s.cisterns ∧ (State.faultAny s slot code ladder).wins = s.wins ∧
    (State.faultAny s slot code ladder).ctls = s.ctls ∧ (State.faultAny s slot code ladder).fab = s.fab ∧
    (State.faultAny s slot code ladder).trust = s.trust ∧ (State.faultAny s slot code ladder).meter = s.meter ∧
    (State.faultAny s slot code ladder).saves = s.saves ∧ (State.faultAny s slot code ladder).chip = s.chip ∧
    (State.faultAny s slot code ladder).power = s.power ∧ (State.faultAny s slot code ladder).mesh = s.mesh := by
  unfold State.faultAny; dsimp only; (repeat' split) <;> simp

@[simp] theorem say_frame (s : State) (agent : Nat) (kind : PacketKind) (src dst : Option MeshEnd) (slot tag : Nat) (lines : Nat) (data : List Byte) :
    (State.say s agent kind src dst slot tag lines data).pending = s.pending ∧
    (State.say s agent kind src dst slot tag lines data).fresh = s.fresh ∧
    (State.say s agent kind src dst slot tag lines data).outbox = s.outbox ∧
    (State.say s agent kind src dst slot tag lines data).tiles = s.tiles ∧
    (State.say s agent kind src dst slot tag lines data).dens = s.dens ∧
    (State.say s agent kind src dst slot tag lines data).seam = s.seam ∧
    (State.say s agent kind src dst slot tag lines data).ic = s.ic ∧
    (State.say s agent kind src dst slot tag lines data).dict = s.dict ∧
    (State.say s agent kind src dst slot tag lines data).host = s.host ∧
    (State.say s agent kind src dst slot tag lines data).repair = s.repair ∧
    (State.say s agent kind src dst slot tag lines data).wells = s.wells ∧
    (State.say s agent kind src dst slot tag lines data).cisterns = s.cisterns ∧
    (State.say s agent kind src dst slot tag lines data).wins = s.wins ∧
    (State.say s agent kind src dst slot tag lines data).ctls = s.ctls ∧
    (State.say s agent kind src dst slot tag lines data).fab = s.fab ∧
    (State.say s agent kind src dst slot tag lines data).trust = s.trust ∧
    (State.say s agent kind src dst slot tag lines data).meter = s.meter ∧
    (State.say s agent kind src dst slot tag lines data).saves = s.saves ∧
    (State.say s agent kind src dst slot tag lines data).chip = s.chip ∧
    (State.say s agent kind src dst slot tag lines data).power = s.power := by
  exact ⟨rfl, rfl, rfl, rfl, rfl, rfl, rfl, rfl, rfl, rfl, rfl, rfl, rfl, rfl, rfl, rfl, rfl, rfl, rfl, rfl⟩

@[simp] theorem sayFill_frame (s : State) (slot : Nat) (who : Agent) (tag va : Nat) (ask : Bool) :
    (State.sayFill s slot who tag va ask).pending = s.pending ∧ (State.sayFill s slot who tag va ask).fresh = s.fresh ∧
    (State.sayFill s slot who tag va ask).outbox = s.outbox ∧ (State.sayFill s slot who tag va ask).tiles = s.tiles ∧
    (State.sayFill s slot who tag va ask).dens = s.dens ∧ (State.sayFill s slot who tag va ask).seam = s.seam ∧
    (State.sayFill s slot who tag va ask).ic = s.ic ∧ (State.sayFill s slot who tag va ask).dict = s.dict ∧
    (State.sayFill s slot who tag va ask).host = s.host ∧ (State.sayFill s slot who tag va ask).repair = s.repair ∧
    (State.sayFill s slot who tag va ask).wells = s.wells ∧ (State.sayFill s slot who tag va ask).cisterns = s.cisterns ∧
    (State.sayFill s slot who tag va ask).wins = s.wins ∧ (State.sayFill s slot who tag va ask).ctls = s.ctls ∧
    (State.sayFill s slot who tag va ask).fab = s.fab ∧ (State.sayFill s slot who tag va ask).trust = s.trust ∧
    (State.sayFill s slot who tag va ask).meter = s.meter ∧ (State.sayFill s slot who tag va ask).saves = s.saves ∧
    (State.sayFill s slot who tag va ask).chip = s.chip ∧ (State.sayFill s slot who tag va ask).power = s.power := by
  unfold State.sayFill; split <;> simp

@[simp] theorem haul_frame (s : State) (kind : PacketKind) (src dst : Option MeshEnd) (slot lines : Nat) :
    (State.haul s kind src dst slot lines).pending = s.pending ∧ (State.haul s kind src dst slot lines).fresh = s.fresh ∧
    (State.haul s kind src dst slot lines).outbox = s.outbox ∧ (State.haul s kind src dst slot lines).tiles = s.tiles ∧
    (State.haul s kind src dst slot lines).dens = s.dens ∧ (State.haul s kind src dst slot lines).seam = s.seam ∧
    (State.haul s kind src dst slot lines).ic = s.ic ∧ (State.haul s kind src dst slot lines).dict = s.dict ∧
    (State.haul s kind src dst slot lines).host = s.host ∧ (State.haul s kind src dst slot lines).repair = s.repair ∧
    (State.haul s kind src dst slot lines).wells = s.wells ∧ (State.haul s kind src dst slot lines).cisterns = s.cisterns ∧
    (State.haul s kind src dst slot lines).wins = s.wins ∧ (State.haul s kind src dst slot lines).ctls = s.ctls ∧
    (State.haul s kind src dst slot lines).fab = s.fab ∧ (State.haul s kind src dst slot lines).trust = s.trust ∧
    (State.haul s kind src dst slot lines).meter = s.meter ∧ (State.haul s kind src dst slot lines).saves = s.saves ∧
    (State.haul s kind src dst slot lines).chip = s.chip ∧ (State.haul s kind src dst slot lines).power = s.power := by
  unfold State.haul; split <;> simp

@[simp] theorem askEnd_frame (s : State) (k : LineKind) (src dst : Option MeshEnd) (slot : Nat) :
    (State.askEnd s k src dst slot).pending = s.pending ∧ (State.askEnd s k src dst slot).fresh = s.fresh ∧
    (State.askEnd s k src dst slot).outbox = s.outbox ∧ (State.askEnd s k src dst slot).tiles = s.tiles ∧
    (State.askEnd s k src dst slot).dens = s.dens ∧ (State.askEnd s k src dst slot).seam = s.seam ∧
    (State.askEnd s k src dst slot).ic = s.ic ∧ (State.askEnd s k src dst slot).dict = s.dict ∧
    (State.askEnd s k src dst slot).host = s.host ∧ (State.askEnd s k src dst slot).repair = s.repair ∧
    (State.askEnd s k src dst slot).wells = s.wells ∧ (State.askEnd s k src dst slot).cisterns = s.cisterns ∧
    (State.askEnd s k src dst slot).wins = s.wins ∧ (State.askEnd s k src dst slot).ctls = s.ctls ∧
    (State.askEnd s k src dst slot).fab = s.fab ∧ (State.askEnd s k src dst slot).trust = s.trust ∧
    (State.askEnd s k src dst slot).meter = s.meter ∧ (State.askEnd s k src dst slot).saves = s.saves ∧
    (State.askEnd s k src dst slot).chip = s.chip ∧ (State.askEnd s k src dst slot).power = s.power := by
  exact ⟨rfl, rfl, rfl, rfl, rfl, rfl, rfl, rfl, rfl, rfl, rfl, rfl, rfl, rfl, rfl, rfl, rfl, rfl, rfl, rfl⟩

@[simp] theorem raiseAt_frame (s : State) (agent floor n : Nat) :
    (State.raiseAt s agent floor n).pending = s.pending ∧ (State.raiseAt s agent floor n).fresh = s.fresh ∧
    (State.raiseAt s agent floor n).outbox = s.outbox ∧ (State.raiseAt s agent floor n).tiles = s.tiles ∧
    (State.raiseAt s agent floor n).dens = s.dens ∧ (State.raiseAt s agent floor n).seam = s.seam ∧
    (State.raiseAt s agent floor n).dict = s.dict ∧ (State.raiseAt s agent floor n).host = s.host ∧
    (State.raiseAt s agent floor n).repair = s.repair ∧ (State.raiseAt s agent floor n).wells = s.wells ∧
    (State.raiseAt s agent floor n).cisterns = s.cisterns ∧ (State.raiseAt s agent floor n).wins = s.wins ∧
    (State.raiseAt s agent floor n).ctls = s.ctls ∧ (State.raiseAt s agent floor n).fab = s.fab ∧
    (State.raiseAt s agent floor n).trust = s.trust ∧ (State.raiseAt s agent floor n).meter = s.meter ∧
    (State.raiseAt s agent floor n).saves = s.saves ∧ (State.raiseAt s agent floor n).chip = s.chip ∧
    (State.raiseAt s agent floor n).power = s.power := by
  exact ⟨rfl, rfl, rfl, rfl, rfl, rfl, rfl, rfl, rfl, rfl, rfl, rfl, rfl, rfl, rfl, rfl, rfl, rfl, rfl⟩

@[simp] theorem faultAll_frame (s : State) (c : Code) (ds : List Nat) :
    (State.faultAll s c ds).pending = s.pending ∧ (State.faultAll s c ds).fresh = s.fresh ∧
    (State.faultAll s c ds).outbox = s.outbox ∧ (State.faultAll s c ds).seam = s.seam ∧ (State.faultAll s c ds).dict = s.dict ∧
    (State.faultAll s c ds).wells = s.wells ∧ (State.faultAll s c ds).cisterns = s.cisterns ∧
    (State.faultAll s c ds).wins = s.wins ∧ (State.faultAll s c ds).ctls = s.ctls ∧ (State.faultAll s c ds).fab = s.fab ∧
    (State.faultAll s c ds).trust = s.trust ∧ (State.faultAll s c ds).meter = s.meter ∧ (State.faultAll s c ds).saves = s.saves ∧
    (State.faultAll s c ds).chip = s.chip ∧ (State.faultAll s c ds).power = s.power ∧ (State.faultAll s c ds).mesh = s.mesh := by
  simp [State.faultAll]

@[simp] theorem lineRead_frame (s : State) (n line b : Nat) :
    (State.lineRead s n line b).2.pending = s.pending ∧ (State.lineRead s n line b).2.fresh = s.fresh ∧
    (State.lineRead s n line b).2.outbox = s.outbox ∧ (State.lineRead s n line b).2.tiles = s.tiles ∧
    (State.lineRead s n line b).2.dens = s.dens ∧ (State.lineRead s n line b).2.seam = s.seam ∧
    (State.lineRead s n line b).2.host = s.host ∧ (State.lineRead s n line b).2.repair = s.repair ∧
    (State.lineRead s n line b).2.cisterns = s.cisterns ∧ (State.lineRead s n line b).2.wins = s.wins ∧
    (State.lineRead s n line b).2.ctls = s.ctls ∧ (State.lineRead s n line b).2.fab = s.fab ∧
    (State.lineRead s n line b).2.trust = s.trust ∧ (State.lineRead s n line b).2.meter = s.meter ∧
    (State.lineRead s n line b).2.saves = s.saves ∧ (State.lineRead s n line b).2.chip = s.chip ∧
    (State.lineRead s n line b).2.power = s.power := by
  unfold State.lineRead; (repeat' split) <;> simp

@[simp] theorem wellAccess_frame (s : State) (a : Nat) (k : Access) (bad : Nat) :
    (State.wellAccess s a k bad).2.2.pending = s.pending ∧ (State.wellAccess s a k bad).2.2.fresh = s.fresh ∧
    (State.wellAccess s a k bad).2.2.outbox = s.outbox ∧ (State.wellAccess s a k bad).2.2.tiles = s.tiles ∧
    (State.wellAccess s a k bad).2.2.dens = s.dens ∧ (State.wellAccess s a k bad).2.2.seam = s.seam ∧
    (State.wellAccess s a k bad).2.2.host = s.host ∧ (State.wellAccess s a k bad).2.2.repair = s.repair ∧
    (State.wellAccess s a k bad).2.2.cisterns = s.cisterns ∧ (State.wellAccess s a k bad).2.2.wins = s.wins ∧
    (State.wellAccess s a k bad).2.2.ctls = s.ctls ∧ (State.wellAccess s a k bad).2.2.fab = s.fab ∧
    (State.wellAccess s a k bad).2.2.trust = s.trust ∧ (State.wellAccess s a k bad).2.2.meter = s.meter ∧
    (State.wellAccess s a k bad).2.2.saves = s.saves ∧ (State.wellAccess s a k bad).2.2.chip = s.chip ∧
    (State.wellAccess s a k bad).2.2.power = s.power := by
  unfold State.wellAccess; dsimp only; (repeat' split) <;> simp

@[simp] theorem faultUsers_frame (s : State) (c : Nat) (r : CRange) :
    (State.faultUsers s c r).pending = s.pending ∧ (State.faultUsers s c r).fresh = s.fresh ∧
    (State.faultUsers s c r).outbox = s.outbox ∧ (State.faultUsers s c r).seam = s.seam ∧ (State.faultUsers s c r).dict = s.dict ∧
    (State.faultUsers s c r).wells = s.wells ∧ (State.faultUsers s c r).cisterns = s.cisterns ∧
    (State.faultUsers s c r).wins = s.wins ∧ (State.faultUsers s c r).ctls = s.ctls ∧ (State.faultUsers s c r).fab = s.fab ∧
    (State.faultUsers s c r).trust = s.trust ∧ (State.faultUsers s c r).meter = s.meter ∧ (State.faultUsers s c r).saves = s.saves ∧
    (State.faultUsers s c r).chip = s.chip ∧ (State.faultUsers s c r).power = s.power ∧ (State.faultUsers s c r).mesh = s.mesh := by
  simp [State.faultUsers]

@[simp] theorem fenceCistern_frame (s : State) (c : Nat) :
    (State.fenceCistern s c).pending = s.pending ∧ (State.fenceCistern s c).fresh = s.fresh ∧
    (State.fenceCistern s c).outbox = s.outbox ∧ (State.fenceCistern s c).seam = s.seam ∧ (State.fenceCistern s c).wells = s.wells ∧
    (State.fenceCistern s c).cisterns = s.cisterns ∧ (State.fenceCistern s c).wins = s.wins ∧
    (State.fenceCistern s c).ctls = s.ctls ∧ (State.fenceCistern s c).fab = s.fab ∧ (State.fenceCistern s c).trust = s.trust ∧
    (State.fenceCistern s c).meter = s.meter ∧ (State.fenceCistern s c).saves = s.saves ∧ (State.fenceCistern s c).chip = s.chip ∧
    (State.fenceCistern s c).power = s.power := by
  simp [State.fenceCistern]

@[simp] theorem fenceRange_frame (s : State) (c : Nat) (r : CRange) :
    (State.fenceRange s c r).pending = s.pending ∧ (State.fenceRange s c r).fresh = s.fresh ∧
    (State.fenceRange s c r).outbox = s.outbox ∧ (State.fenceRange s c r).seam = s.seam ∧ (State.fenceRange s c r).wells = s.wells ∧
    (State.fenceRange s c r).wins = s.wins ∧ (State.fenceRange s c r).ctls = s.ctls ∧ (State.fenceRange s c r).fab = s.fab ∧
    (State.fenceRange s c r).trust = s.trust ∧ (State.fenceRange s c r).meter = s.meter ∧ (State.fenceRange s c r).saves = s.saves ∧
    (State.fenceRange s c r).chip = s.chip ∧ (State.fenceRange s c r).power = s.power := by
  unfold State.fenceRange; dsimp only; split <;> simp

@[simp] theorem startRoll_frame (s : State) :
    (State.startRoll s).pending = s.pending ∧ (State.startRoll s).fresh = s.fresh ∧ (State.startRoll s).outbox = s.outbox ∧
    (State.startRoll s).tiles = s.tiles ∧ (State.startRoll s).dens = s.dens ∧ (State.startRoll s).seam = s.seam ∧
    (State.startRoll s).host = s.host ∧ (State.startRoll s).repair = s.repair ∧ (State.startRoll s).wells = s.wells ∧
    (State.startRoll s).cisterns = s.cisterns ∧ (State.startRoll s).wins = s.wins ∧ (State.startRoll s).ctls = s.ctls ∧
    (State.startRoll s).fab = s.fab ∧ (State.startRoll s).trust = s.trust ∧ (State.startRoll s).meter = s.meter ∧
    (State.startRoll s).saves = s.saves ∧ (State.startRoll s).chip = s.chip ∧ (State.startRoll s).power = s.power ∧
    (State.startRoll s).mesh = s.mesh := by
  unfold State.startRoll; split <;> simp

@[simp] theorem integrity_frame (s : State) (c line : Nat) :
    (State.integrity s c line).pending = s.pending ∧ (State.integrity s c line).fresh = s.fresh ∧
    (State.integrity s c line).outbox = s.outbox ∧ (State.integrity s c line).tiles = s.tiles ∧
    (State.integrity s c line).dens = s.dens ∧ (State.integrity s c line).seam = s.seam ∧ (State.integrity s c line).host = s.host ∧
    (State.integrity s c line).repair = s.repair ∧ (State.integrity s c line).wells = s.wells ∧
    (State.integrity s c line).cisterns = s.cisterns ∧ (State.integrity s c line).wins = s.wins ∧
    (State.integrity s c line).ctls = s.ctls ∧ (State.integrity s c line).fab = s.fab ∧ (State.integrity s c line).trust = s.trust ∧
    (State.integrity s c line).meter = s.meter ∧ (State.integrity s c line).saves = s.saves ∧
    (State.integrity s c line).chip = s.chip ∧ (State.integrity s c line).power = s.power := by
  simp [State.integrity]

@[simp] theorem readPage_frame (s : State) (c page : Nat) (except_ : Option Nat) (f : CisFacts) :
    (State.readPage s c page except_ f).2.pending = s.pending ∧ (State.readPage s c page except_ f).2.fresh = s.fresh ∧
    (State.readPage s c page except_ f).2.outbox = s.outbox ∧ (State.readPage s c page except_ f).2.tiles = s.tiles ∧
    (State.readPage s c page except_ f).2.dens = s.dens ∧ (State.readPage s c page except_ f).2.seam = s.seam ∧
    (State.readPage s c page except_ f).2.ic = s.ic ∧ (State.readPage s c page except_ f).2.host = s.host ∧
    (State.readPage s c page except_ f).2.repair = s.repair ∧ (State.readPage s c page except_ f).2.wells = s.wells ∧
    (State.readPage s c page except_ f).2.wins = s.wins ∧ (State.readPage s c page except_ f).2.ctls = s.ctls ∧
    (State.readPage s c page except_ f).2.fab = s.fab ∧ (State.readPage s c page except_ f).2.trust = s.trust ∧
    (State.readPage s c page except_ f).2.meter = s.meter ∧ (State.readPage s c page except_ f).2.saves = s.saves ∧
    (State.readPage s c page except_ f).2.chip = s.chip ∧ (State.readPage s c page except_ f).2.power = s.power ∧
    (State.readPage s c page except_ f).2.mesh = s.mesh := by
  unfold State.readPage; dsimp only; split <;> simp

@[simp] theorem cisWrite_frame (s : State) (c line : Nat) (full : Bool) (new : List Byte) (f : CisFacts) :
    (State.cisWrite s c line full new f).2.pending = s.pending ∧ (State.cisWrite s c line full new f).2.fresh = s.fresh ∧
    (State.cisWrite s c line full new f).2.outbox = s.outbox ∧ (State.cisWrite s c line full new f).2.tiles = s.tiles ∧
    (State.cisWrite s c line full new f).2.dens = s.dens ∧ (State.cisWrite s c line full new f).2.seam = s.seam ∧
    (State.cisWrite s c line full new f).2.host = s.host ∧ (State.cisWrite s c line full new f).2.repair = s.repair ∧
    (State.cisWrite s c line full new f).2.wells = s.wells ∧ (State.cisWrite s c line full new f).2.wins = s.wins ∧
    (State.cisWrite s c line full new f).2.ctls = s.ctls ∧ (State.cisWrite s c line full new f).2.fab = s.fab ∧
    (State.cisWrite s c line full new f).2.trust = s.trust ∧ (State.cisWrite s c line full new f).2.meter = s.meter ∧
    (State.cisWrite s c line full new f).2.saves = s.saves ∧ (State.cisWrite s c line full new f).2.chip = s.chip ∧
    (State.cisWrite s c line full new f).2.power = s.power := by
  unfold State.cisWrite; dsimp only; (repeat' split) <;> (first | (simp; done) | (have e := snd_of_eq ‹_ = (_, _)›; subst e; simp))

@[simp] theorem verifyPath_frame (s : State) (c off level : Nat) (f : CisFacts) :
    (State.verifyPath s c off level f).2.pending = s.pending ∧ (State.verifyPath s c off level f).2.fresh = s.fresh ∧
    (State.verifyPath s c off level f).2.outbox = s.outbox ∧ (State.verifyPath s c off level f).2.seam = s.seam ∧
    (State.verifyPath s c off level f).2.wells = s.wells ∧ (State.verifyPath s c off level f).2.wins = s.wins ∧
    (State.verifyPath s c off level f).2.ctls = s.ctls ∧ (State.verifyPath s c off level f).2.fab = s.fab ∧
    (State.verifyPath s c off level f).2.trust = s.trust ∧ (State.verifyPath s c off level f).2.meter = s.meter ∧
    (State.verifyPath s c off level f).2.saves = s.saves ∧ (State.verifyPath s c off level f).2.chip = s.chip ∧
    (State.verifyPath s c off level f).2.power = s.power := by
  unfold State.verifyPath; dsimp only; split <;> simp

@[simp] theorem evictItem_frame (s : State) (c : Nat) (f : CisFacts) (i : CacheItem) :
    (State.evictItem s c f i).pending = s.pending ∧ (State.evictItem s c f i).fresh = s.fresh ∧
    (State.evictItem s c f i).outbox = s.outbox ∧ (State.evictItem s c f i).seam = s.seam ∧
    (State.evictItem s c f i).wells = s.wells ∧ (State.evictItem s c f i).wins = s.wins ∧ (State.evictItem s c f i).ctls = s.ctls ∧
    (State.evictItem s c f i).fab = s.fab ∧ (State.evictItem s c f i).trust = s.trust ∧ (State.evictItem s c f i).meter = s.meter ∧
    (State.evictItem s c f i).saves = s.saves ∧ (State.evictItem s c f i).chip = s.chip ∧ (State.evictItem s c f i).power = s.power := by
  unfold State.evictItem; dsimp only; (repeat' split) <;> (first | (simp; done) | (have e := snd_of_eq ‹_ = (_, _)›; subst e; simp))

@[simp] theorem trimCache_frame (s : State) (c : Nat) (f : CisFacts) (y0 : Nat) :
    (State.trimCache s c f y0).pending = s.pending ∧ (State.trimCache s c f y0).fresh = s.fresh ∧
    (State.trimCache s c f y0).outbox = s.outbox ∧ (State.trimCache s c f y0).seam = s.seam ∧
    (State.trimCache s c f y0).wells = s.wells ∧ (State.trimCache s c f y0).wins = s.wins ∧
    (State.trimCache s c f y0).ctls = s.ctls ∧ (State.trimCache s c f y0).fab = s.fab ∧ (State.trimCache s c f y0).trust = s.trust ∧
    (State.trimCache s c f y0).meter = s.meter ∧ (State.trimCache s c f y0).saves = s.saves ∧
    (State.trimCache s c f y0).chip = s.chip ∧ (State.trimCache s c f y0).power = s.power := by
  induction y0 generalizing s with
  | zero => simp [State.trimCache]
  | succ n ih => (simp only [State.trimCache]; (repeat' split) <;> simp [ih])

@[simp] theorem evictAll_frame (s : State) (c : Nat) (f : CisFacts) :
    (State.evictAll s c f).pending = s.pending ∧ (State.evictAll s c f).fresh = s.fresh ∧ (State.evictAll s c f).outbox = s.outbox ∧
    (State.evictAll s c f).seam = s.seam ∧ (State.evictAll s c f).wells = s.wells ∧ (State.evictAll s c f).wins = s.wins ∧
    (State.evictAll s c f).ctls = s.ctls ∧ (State.evictAll s c f).fab = s.fab ∧ (State.evictAll s c f).trust = s.trust ∧
    (State.evictAll s c f).meter = s.meter ∧ (State.evictAll s c f).saves = s.saves ∧ (State.evictAll s c f).chip = s.chip ∧
    (State.evictAll s c f).power = s.power := by
  simp [State.evictAll]

@[simp] theorem repairRoot_frame (s : State) (c : Nat) :
    (State.repairRoot s c).pending = s.pending ∧ (State.repairRoot s c).fresh = s.fresh ∧ (State.repairRoot s c).outbox = s.outbox ∧
    (State.repairRoot s c).tiles = s.tiles ∧ (State.repairRoot s c).dens = s.dens ∧ (State.repairRoot s c).seam = s.seam ∧
    (State.repairRoot s c).ic = s.ic ∧ (State.repairRoot s c).host = s.host ∧ (State.repairRoot s c).repair = s.repair ∧
    (State.repairRoot s c).wells = s.wells ∧ (State.repairRoot s c).wins = s.wins ∧ (State.repairRoot s c).ctls = s.ctls ∧
    (State.repairRoot s c).fab = s.fab ∧ (State.repairRoot s c).trust = s.trust ∧ (State.repairRoot s c).meter = s.meter ∧
    (State.repairRoot s c).saves = s.saves ∧ (State.repairRoot s c).chip = s.chip ∧ (State.repairRoot s c).power = s.power ∧
    (State.repairRoot s c).mesh = s.mesh := by
  exact ⟨rfl, rfl, rfl, rfl, rfl, rfl, rfl, rfl, rfl, rfl, rfl, rfl, rfl, rfl, rfl, rfl, rfl, rfl, rfl⟩

@[simp] theorem cisServe_frame (s : State) (c line : Nat) (k : Access) (f : CisFacts) :
    (State.cisServe s c line k f).2.2.pending = s.pending ∧ (State.cisServe s c line k f).2.2.fresh = s.fresh ∧
    (State.cisServe s c line k f).2.2.outbox = s.outbox ∧ (State.cisServe s c line k f).2.2.seam = s.seam ∧
    (State.cisServe s c line k f).2.2.wells = s.wells ∧ (State.cisServe s c line k f).2.2.wins = s.wins ∧
    (State.cisServe s c line k f).2.2.ctls = s.ctls ∧ (State.cisServe s c line k f).2.2.fab = s.fab ∧
    (State.cisServe s c line k f).2.2.trust = s.trust ∧ (State.cisServe s c line k f).2.2.meter = s.meter ∧
    (State.cisServe s c line k f).2.2.saves = s.saves ∧ (State.cisServe s c line k f).2.2.chip = s.chip ∧
    (State.cisServe s c line k f).2.2.power = s.power := by
  unfold State.cisServe; dsimp only; (repeat' split) <;> simp

@[simp] theorem cisAccess_frame (s : State) (a : Nat) (k : Access) (f : CisFacts) :
    (State.cisAccess s a k f).2.2.pending = s.pending ∧ (State.cisAccess s a k f).2.2.fresh = s.fresh ∧
    (State.cisAccess s a k f).2.2.outbox = s.outbox ∧ (State.cisAccess s a k f).2.2.seam = s.seam ∧
    (State.cisAccess s a k f).2.2.wells = s.wells ∧ (State.cisAccess s a k f).2.2.wins = s.wins ∧
    (State.cisAccess s a k f).2.2.ctls = s.ctls ∧ (State.cisAccess s a k f).2.2.fab = s.fab ∧
    (State.cisAccess s a k f).2.2.trust = s.trust ∧ (State.cisAccess s a k f).2.2.meter = s.meter ∧
    (State.cisAccess s a k f).2.2.saves = s.saves ∧ (State.cisAccess s a k f).2.2.chip = s.chip ∧
    (State.cisAccess s a k f).2.2.power = s.power := by
  simp only [State.cisAccess]; (repeat' split) <;> first | (simp; done) | (have e := snd_of_eq ‹_ = (_, _)›; subst e; simp; done) | (have e := snd_of_eq ‹_ = (_, _)›; subst e; (repeat' split) <;> simp)

@[simp] theorem pumpMiss_frame (s : State) (t tag va : Nat) :
    (State.pumpMiss s t tag va).pending = s.pending ∧ (State.pumpMiss s t tag va).fresh = s.fresh ∧
    (State.pumpMiss s t tag va).outbox = s.outbox ∧ (State.pumpMiss s t tag va).dens = s.dens ∧
    (State.pumpMiss s t tag va).seam = s.seam ∧ (State.pumpMiss s t tag va).ic = s.ic ∧ (State.pumpMiss s t tag va).dict = s.dict ∧
    (State.pumpMiss s t tag va).host = s.host ∧ (State.pumpMiss s t tag va).repair = s.repair ∧
    (State.pumpMiss s t tag va).wells = s.wells ∧ (State.pumpMiss s t tag va).cisterns = s.cisterns ∧
    (State.pumpMiss s t tag va).wins = s.wins ∧ (State.pumpMiss s t tag va).ctls = s.ctls ∧
    (State.pumpMiss s t tag va).fab = s.fab ∧ (State.pumpMiss s t tag va).trust = s.trust ∧
    (State.pumpMiss s t tag va).meter = s.meter ∧ (State.pumpMiss s t tag va).saves = s.saves ∧
    (State.pumpMiss s t tag va).chip = s.chip ∧ (State.pumpMiss s t tag va).power = s.power ∧
    (State.pumpMiss s t tag va).mesh = s.mesh := by
  exact ⟨rfl, rfl, rfl, rfl, rfl, rfl, rfl, rfl, rfl, rfl, rfl, rfl, rfl, rfl, rfl, rfl, rfl, rfl, rfl, rfl⟩

@[simp] theorem takeMark_frame (s : State) (slot : Nat) (c : Option Nat) :
    (State.takeMark s slot c).2.pending = s.pending ∧ (State.takeMark s slot c).2.fresh = s.fresh ∧
    (State.takeMark s slot c).2.outbox = s.outbox ∧ (State.takeMark s slot c).2.tiles = s.tiles ∧
    (State.takeMark s slot c).2.dens = s.dens ∧ (State.takeMark s slot c).2.seam = s.seam ∧ (State.takeMark s slot c).2.ic = s.ic ∧
    (State.takeMark s slot c).2.dict = s.dict ∧ (State.takeMark s slot c).2.host = s.host ∧
    (State.takeMark s slot c).2.repair = s.repair ∧ (State.takeMark s slot c).2.wells = s.wells ∧
    (State.takeMark s slot c).2.cisterns = s.cisterns ∧ (State.takeMark s slot c).2.wins = s.wins ∧
    (State.takeMark s slot c).2.fab = s.fab ∧ (State.takeMark s slot c).2.trust = s.trust ∧
    (State.takeMark s slot c).2.meter = s.meter ∧ (State.takeMark s slot c).2.saves = s.saves ∧
    (State.takeMark s slot c).2.chip = s.chip ∧ (State.takeMark s slot c).2.power = s.power ∧
    (State.takeMark s slot c).2.mesh = s.mesh := by
  unfold State.takeMark; dsimp only; (repeat' split) <;> simp

@[simp] theorem mEffect_frame (o : MOp) (f : MFields) (x : Snap) (s : State) :
    (mEffect o f x s).pending = s.pending ∧ (mEffect o f x s).fresh = s.fresh ∧ (mEffect o f x s).outbox = s.outbox ∧
    (mEffect o f x s).dens = s.dens ∧ (mEffect o f x s).seam = s.seam ∧ (mEffect o f x s).ic = s.ic ∧
    (mEffect o f x s).dict = s.dict ∧ (mEffect o f x s).host = s.host ∧ (mEffect o f x s).repair = s.repair ∧
    (mEffect o f x s).wells = s.wells ∧ (mEffect o f x s).cisterns = s.cisterns ∧ (mEffect o f x s).wins = s.wins ∧
    (mEffect o f x s).ctls = s.ctls ∧ (mEffect o f x s).fab = s.fab ∧ (mEffect o f x s).trust = s.trust ∧
    (mEffect o f x s).meter = s.meter ∧ (mEffect o f x s).saves = s.saves ∧ (mEffect o f x s).chip = s.chip ∧
    (mEffect o f x s).power = s.power ∧ (mEffect o f x s).mesh = s.mesh := by
  unfold mEffect; split <;> simp

@[simp] theorem vEffect_frame (o : VOp) (f : VFields) (x : Snap) (s : State) :
    (vEffect o f x s).pending = s.pending ∧ (vEffect o f x s).fresh = s.fresh ∧ (vEffect o f x s).outbox = s.outbox ∧
    (vEffect o f x s).dens = s.dens ∧ (vEffect o f x s).seam = s.seam ∧ (vEffect o f x s).ic = s.ic ∧
    (vEffect o f x s).dict = s.dict ∧ (vEffect o f x s).host = s.host ∧ (vEffect o f x s).repair = s.repair ∧
    (vEffect o f x s).wells = s.wells ∧ (vEffect o f x s).cisterns = s.cisterns ∧ (vEffect o f x s).wins = s.wins ∧
    (vEffect o f x s).ctls = s.ctls ∧ (vEffect o f x s).fab = s.fab ∧ (vEffect o f x s).trust = s.trust ∧
    (vEffect o f x s).meter = s.meter ∧ (vEffect o f x s).saves = s.saves ∧ (vEffect o f x s).chip = s.chip ∧
    (vEffect o f x s).power = s.power ∧ (vEffect o f x s).mesh = s.mesh := by
  exact ⟨rfl, rfl, rfl, rfl, rfl, rfl, rfl, rfl, rfl, rfl, rfl, rfl, rfl, rfl, rfl, rfl, rfl, rfl, rfl, rfl⟩

@[simp] theorem storeClash_frame (s : State) (t a n mask : Nat) :
    (State.storeClash s t a n mask).pending = s.pending ∧ (State.storeClash s t a n mask).dens = s.dens ∧
    (State.storeClash s t a n mask).seam = s.seam ∧ (State.storeClash s t a n mask).host = s.host ∧
    (State.storeClash s t a n mask).repair = s.repair ∧ (State.storeClash s t a n mask).wells = s.wells ∧
    (State.storeClash s t a n mask).cisterns = s.cisterns ∧ (State.storeClash s t a n mask).wins = s.wins ∧
    (State.storeClash s t a n mask).ctls = s.ctls ∧ (State.storeClash s t a n mask).trust = s.trust ∧
    (State.storeClash s t a n mask).meter = s.meter ∧ (State.storeClash s t a n mask).saves = s.saves ∧
    (State.storeClash s t a n mask).chip = s.chip ∧ (State.storeClash s t a n mask).power = s.power := by
  unfold State.storeClash; dsimp only; split <;> simp

@[simp] theorem aEffect_frame (o : AOp) (f : AFields) (x : Snap) (s : State) :
    (aEffect o f x s).pending = s.pending ∧ (aEffect o f x s).dens = s.dens ∧ (aEffect o f x s).seam = s.seam ∧
    (aEffect o f x s).host = s.host ∧ (aEffect o f x s).repair = s.repair ∧ (aEffect o f x s).wells = s.wells ∧
    (aEffect o f x s).cisterns = s.cisterns ∧ (aEffect o f x s).wins = s.wins ∧ (aEffect o f x s).ctls = s.ctls ∧
    (aEffect o f x s).trust = s.trust ∧ (aEffect o f x s).meter = s.meter ∧ (aEffect o f x s).saves = s.saves ∧
    (aEffect o f x s).chip = s.chip ∧ (aEffect o f x s).power = s.power := by
  unfold aEffect; (repeat' split) <;> simp

@[simp] theorem bankctlEffect_frame (mask : BitVec 16) (st : BitVec 2) (x : Snap) (s : State) :
    (bankctlEffect mask st x s).pending = s.pending ∧ (bankctlEffect mask st x s).fresh = s.fresh ∧
    (bankctlEffect mask st x s).outbox = s.outbox ∧ (bankctlEffect mask st x s).dens = s.dens ∧
    (bankctlEffect mask st x s).seam = s.seam ∧ (bankctlEffect mask st x s).ic = s.ic ∧ (bankctlEffect mask st x s).dict = s.dict ∧
    (bankctlEffect mask st x s).host = s.host ∧ (bankctlEffect mask st x s).repair = s.repair ∧
    (bankctlEffect mask st x s).wells = s.wells ∧ (bankctlEffect mask st x s).cisterns = s.cisterns ∧
    (bankctlEffect mask st x s).wins = s.wins ∧ (bankctlEffect mask st x s).ctls = s.ctls ∧
    (bankctlEffect mask st x s).fab = s.fab ∧ (bankctlEffect mask st x s).trust = s.trust ∧
    (bankctlEffect mask st x s).meter = s.meter ∧ (bankctlEffect mask st x s).saves = s.saves ∧
    (bankctlEffect mask st x s).chip = s.chip ∧ (bankctlEffect mask st x s).power = s.power ∧
    (bankctlEffect mask st x s).mesh = s.mesh := by
  exact ⟨rfl, rfl, rfl, rfl, rfl, rfl, rfl, rfl, rfl, rfl, rfl, rfl, rfl, rfl, rfl, rfl, rfl, rfl, rfl, rfl⟩

@[simp] theorem consume_frame (s : State) (x : Snap) (m : BitVec 4) :
    (State.consume s x m).pending = s.pending ∧ (State.consume s x m).fresh = s.fresh ∧ (State.consume s x m).outbox = s.outbox ∧
    (State.consume s x m).dens = s.dens ∧ (State.consume s x m).seam = s.seam ∧ (State.consume s x m).ic = s.ic ∧
    (State.consume s x m).dict = s.dict ∧ (State.consume s x m).host = s.host ∧ (State.consume s x m).repair = s.repair ∧
    (State.consume s x m).wells = s.wells ∧ (State.consume s x m).cisterns = s.cisterns ∧ (State.consume s x m).wins = s.wins ∧
    (State.consume s x m).ctls = s.ctls ∧ (State.consume s x m).fab = s.fab ∧ (State.consume s x m).trust = s.trust ∧
    (State.consume s x m).meter = s.meter ∧ (State.consume s x m).saves = s.saves ∧ (State.consume s x m).chip = s.chip ∧
    (State.consume s x m).power = s.power ∧ (State.consume s x m).mesh = s.mesh := by
  exact ⟨rfl, rfl, rfl, rfl, rfl, rfl, rfl, rfl, rfl, rfl, rfl, rfl, rfl, rfl, rfl, rfl, rfl, rfl, rfl, rfl⟩

@[simp] theorem sendEffect_frame (consume dirs : BitVec 4) (src hops : BitVec 7) (x : Snap) (s : State) :
    (sendEffect consume dirs src hops x s).pending = s.pending ∧ (sendEffect consume dirs src hops x s).fresh = s.fresh ∧
    (sendEffect consume dirs src hops x s).outbox = s.outbox ∧ (sendEffect consume dirs src hops x s).seam = s.seam ∧
    (sendEffect consume dirs src hops x s).ic = s.ic ∧ (sendEffect consume dirs src hops x s).dict = s.dict ∧
    (sendEffect consume dirs src hops x s).host = s.host ∧ (sendEffect consume dirs src hops x s).repair = s.repair ∧
    (sendEffect consume dirs src hops x s).wells = s.wells ∧ (sendEffect consume dirs src hops x s).cisterns = s.cisterns ∧
    (sendEffect consume dirs src hops x s).wins = s.wins ∧ (sendEffect consume dirs src hops x s).ctls = s.ctls ∧
    (sendEffect consume dirs src hops x s).fab = s.fab ∧ (sendEffect consume dirs src hops x s).trust = s.trust ∧
    (sendEffect consume dirs src hops x s).meter = s.meter ∧ (sendEffect consume dirs src hops x s).saves = s.saves ∧
    (sendEffect consume dirs src hops x s).chip = s.chip ∧ (sendEffect consume dirs src hops x s).power = s.power ∧
    (sendEffect consume dirs src hops x s).mesh = s.mesh := by
  exact ⟨rfl, rfl, rfl, rfl, rfl, rfl, rfl, rfl, rfl, rfl, rfl, rfl, rfl, rfl, rfl, rfl, rfl, rfl, rfl⟩

@[simp] theorem voteEffect_frame (consume : BitVec 4) (kind : BitVec 3) (src : BitVec 7) (dst : BitVec 6) (x : Snap) (s : State) :
    (voteEffect consume kind src dst x s).pending = s.pending ∧ (voteEffect consume kind src dst x s).fresh = s.fresh ∧
    (voteEffect consume kind src dst x s).outbox = s.outbox ∧ (voteEffect consume kind src dst x s).seam = s.seam ∧
    (voteEffect consume kind src dst x s).ic = s.ic ∧ (voteEffect consume kind src dst x s).dict = s.dict ∧
    (voteEffect consume kind src dst x s).host = s.host ∧ (voteEffect consume kind src dst x s).repair = s.repair ∧
    (voteEffect consume kind src dst x s).wells = s.wells ∧ (voteEffect consume kind src dst x s).cisterns = s.cisterns ∧
    (voteEffect consume kind src dst x s).wins = s.wins ∧ (voteEffect consume kind src dst x s).ctls = s.ctls ∧
    (voteEffect consume kind src dst x s).fab = s.fab ∧ (voteEffect consume kind src dst x s).trust = s.trust ∧
    (voteEffect consume kind src dst x s).meter = s.meter ∧ (voteEffect consume kind src dst x s).saves = s.saves ∧
    (voteEffect consume kind src dst x s).chip = s.chip ∧ (voteEffect consume kind src dst x s).power = s.power ∧
    (voteEffect consume kind src dst x s).mesh = s.mesh := by
  exact ⟨rfl, rfl, rfl, rfl, rfl, rfl, rfl, rfl, rfl, rfl, rfl, rfl, rfl, rfl, rfl, rfl, rfl, rfl, rfl⟩

@[simp] theorem psetuEffect_frame (consume : BitVec 4) (q : BitVec 2) (value : Bool) (x : Snap) (s : State) :
    (psetuEffect consume q value x s).pending = s.pending ∧ (psetuEffect consume q value x s).fresh = s.fresh ∧
    (psetuEffect consume q value x s).outbox = s.outbox ∧ (psetuEffect consume q value x s).dens = s.dens ∧
    (psetuEffect consume q value x s).seam = s.seam ∧ (psetuEffect consume q value x s).ic = s.ic ∧
    (psetuEffect consume q value x s).dict = s.dict ∧ (psetuEffect consume q value x s).host = s.host ∧
    (psetuEffect consume q value x s).repair = s.repair ∧ (psetuEffect consume q value x s).wells = s.wells ∧
    (psetuEffect consume q value x s).cisterns = s.cisterns ∧ (psetuEffect consume q value x s).wins = s.wins ∧
    (psetuEffect consume q value x s).ctls = s.ctls ∧ (psetuEffect consume q value x s).fab = s.fab ∧
    (psetuEffect consume q value x s).trust = s.trust ∧ (psetuEffect consume q value x s).meter = s.meter ∧
    (psetuEffect consume q value x s).saves = s.saves ∧ (psetuEffect consume q value x s).chip = s.chip ∧
    (psetuEffect consume q value x s).power = s.power ∧ (psetuEffect consume q value x s).mesh = s.mesh := by
  exact ⟨rfl, rfl, rfl, rfl, rfl, rfl, rfl, rfl, rfl, rfl, rfl, rfl, rfl, rfl, rfl, rfl, rfl, rfl, rfl, rfl⟩

@[simp] theorem acceptDesc_frame (tag : Fin 16) (lat : BitVec 16) (bs : List Byte) (x : Snap) (s : State) :
    (acceptDesc tag lat bs x s).pending = s.pending ∧ (acceptDesc tag lat bs x s).fresh = s.fresh ∧
    (acceptDesc tag lat bs x s).outbox = s.outbox ∧ (acceptDesc tag lat bs x s).dens = s.dens ∧
    (acceptDesc tag lat bs x s).seam = s.seam ∧ (acceptDesc tag lat bs x s).ic = s.ic ∧ (acceptDesc tag lat bs x s).dict = s.dict ∧
    (acceptDesc tag lat bs x s).host = s.host ∧ (acceptDesc tag lat bs x s).repair = s.repair ∧
    (acceptDesc tag lat bs x s).wells = s.wells ∧ (acceptDesc tag lat bs x s).cisterns = s.cisterns ∧
    (acceptDesc tag lat bs x s).wins = s.wins ∧ (acceptDesc tag lat bs x s).ctls = s.ctls ∧
    (acceptDesc tag lat bs x s).fab = s.fab ∧ (acceptDesc tag lat bs x s).trust = s.trust ∧
    (acceptDesc tag lat bs x s).meter = s.meter ∧ (acceptDesc tag lat bs x s).saves = s.saves ∧
    (acceptDesc tag lat bs x s).chip = s.chip ∧ (acceptDesc tag lat bs x s).power = s.power ∧
    (acceptDesc tag lat bs x s).mesh = s.mesh := by
  exact ⟨rfl, rfl, rfl, rfl, rfl, rfl, rfl, rfl, rfl, rfl, rfl, rfl, rfl, rfl, rfl, rfl, rfl, rfl, rfl, rfl⟩

@[simp] theorem issueVEffect_frame (tag : Fin 16) (lat : BitVec 16) (v : BitVec 6) (x : Snap) (s : State) :
    (issueVEffect tag lat v x s).pending = s.pending ∧ (issueVEffect tag lat v x s).fresh = s.fresh ∧
    (issueVEffect tag lat v x s).outbox = s.outbox ∧ (issueVEffect tag lat v x s).dens = s.dens ∧
    (issueVEffect tag lat v x s).seam = s.seam ∧ (issueVEffect tag lat v x s).ic = s.ic ∧
    (issueVEffect tag lat v x s).dict = s.dict ∧ (issueVEffect tag lat v x s).host = s.host ∧
    (issueVEffect tag lat v x s).repair = s.repair ∧ (issueVEffect tag lat v x s).wells = s.wells ∧
    (issueVEffect tag lat v x s).cisterns = s.cisterns ∧ (issueVEffect tag lat v x s).wins = s.wins ∧
    (issueVEffect tag lat v x s).ctls = s.ctls ∧ (issueVEffect tag lat v x s).fab = s.fab ∧
    (issueVEffect tag lat v x s).trust = s.trust ∧ (issueVEffect tag lat v x s).meter = s.meter ∧
    (issueVEffect tag lat v x s).saves = s.saves ∧ (issueVEffect tag lat v x s).chip = s.chip ∧
    (issueVEffect tag lat v x s).power = s.power ∧ (issueVEffect tag lat v x s).mesh = s.mesh := by
  exact ⟨rfl, rfl, rfl, rfl, rfl, rfl, rfl, rfl, rfl, rfl, rfl, rfl, rfl, rfl, rfl, rfl, rfl, rfl, rfl, rfl⟩

@[simp] theorem issueAEffect_frame (tag : Fin 16) (lat : BitVec 16) (a inc : BitVec 4) (x : Snap) (s : State) :
    (issueAEffect tag lat a inc x s).pending = s.pending ∧ (issueAEffect tag lat a inc x s).fresh = s.fresh ∧
    (issueAEffect tag lat a inc x s).outbox = s.outbox ∧ (issueAEffect tag lat a inc x s).dens = s.dens ∧
    (issueAEffect tag lat a inc x s).seam = s.seam ∧ (issueAEffect tag lat a inc x s).ic = s.ic ∧
    (issueAEffect tag lat a inc x s).dict = s.dict ∧ (issueAEffect tag lat a inc x s).host = s.host ∧
    (issueAEffect tag lat a inc x s).repair = s.repair ∧ (issueAEffect tag lat a inc x s).wells = s.wells ∧
    (issueAEffect tag lat a inc x s).cisterns = s.cisterns ∧ (issueAEffect tag lat a inc x s).wins = s.wins ∧
    (issueAEffect tag lat a inc x s).ctls = s.ctls ∧ (issueAEffect tag lat a inc x s).fab = s.fab ∧
    (issueAEffect tag lat a inc x s).trust = s.trust ∧ (issueAEffect tag lat a inc x s).meter = s.meter ∧
    (issueAEffect tag lat a inc x s).saves = s.saves ∧ (issueAEffect tag lat a inc x s).chip = s.chip ∧
    (issueAEffect tag lat a inc x s).power = s.power ∧ (issueAEffect tag lat a inc x s).mesh = s.mesh := by
  exact ⟨rfl, rfl, rfl, rfl, rfl, rfl, rfl, rfl, rfl, rfl, rfl, rfl, rfl, rfl, rfl, rfl, rfl, rfl, rfl, rfl⟩

@[simp] theorem pordEffect_frame (mask : BitVec 16) (x : Snap) (s : State) :
    (pordEffect mask x s).pending = s.pending ∧ (pordEffect mask x s).fresh = s.fresh ∧ (pordEffect mask x s).outbox = s.outbox ∧
    (pordEffect mask x s).dens = s.dens ∧ (pordEffect mask x s).seam = s.seam ∧ (pordEffect mask x s).ic = s.ic ∧
    (pordEffect mask x s).dict = s.dict ∧ (pordEffect mask x s).host = s.host ∧ (pordEffect mask x s).repair = s.repair ∧
    (pordEffect mask x s).wells = s.wells ∧ (pordEffect mask x s).cisterns = s.cisterns ∧ (pordEffect mask x s).wins = s.wins ∧
    (pordEffect mask x s).ctls = s.ctls ∧ (pordEffect mask x s).fab = s.fab ∧ (pordEffect mask x s).trust = s.trust ∧
    (pordEffect mask x s).meter = s.meter ∧ (pordEffect mask x s).saves = s.saves ∧ (pordEffect mask x s).chip = s.chip ∧
    (pordEffect mask x s).power = s.power ∧ (pordEffect mask x s).mesh = s.mesh := by
  exact ⟨rfl, rfl, rfl, rfl, rfl, rfl, rfl, rfl, rfl, rfl, rfl, rfl, rfl, rfl, rfl, rfl, rfl, rfl, rfl, rfl⟩

@[simp] theorem sendPending_frame (s : State) (v : Nat) :
    (State.sendPending s v).pending = s.pending ∧ (State.sendPending s v).fresh = s.fresh ∧
    (State.sendPending s v).tiles = s.tiles ∧ (State.sendPending s v).dens = s.dens ∧ (State.sendPending s v).seam = s.seam ∧
    (State.sendPending s v).dict = s.dict ∧ (State.sendPending s v).host = s.host ∧ (State.sendPending s v).repair = s.repair ∧
    (State.sendPending s v).wells = s.wells ∧ (State.sendPending s v).cisterns = s.cisterns ∧
    (State.sendPending s v).wins = s.wins ∧ (State.sendPending s v).ctls = s.ctls ∧ (State.sendPending s v).fab = s.fab ∧
    (State.sendPending s v).trust = s.trust ∧ (State.sendPending s v).meter = s.meter ∧ (State.sendPending s v).saves = s.saves ∧
    (State.sendPending s v).chip = s.chip ∧ (State.sendPending s v).power = s.power ∧ (State.sendPending s v).mesh = s.mesh := by
  unfold State.sendPending; split <;> simp

@[simp] theorem settleWarn_frame (s : State) :
    (State.settleWarn s).pending = s.pending ∧ (State.settleWarn s).fresh = s.fresh ∧ (State.settleWarn s).outbox = s.outbox ∧
    (State.settleWarn s).tiles = s.tiles ∧ (State.settleWarn s).dens = s.dens ∧ (State.settleWarn s).seam = s.seam ∧
    (State.settleWarn s).dict = s.dict ∧ (State.settleWarn s).host = s.host ∧ (State.settleWarn s).repair = s.repair ∧
    (State.settleWarn s).wells = s.wells ∧ (State.settleWarn s).cisterns = s.cisterns ∧ (State.settleWarn s).wins = s.wins ∧
    (State.settleWarn s).ctls = s.ctls ∧ (State.settleWarn s).fab = s.fab ∧ (State.settleWarn s).trust = s.trust ∧
    (State.settleWarn s).meter = s.meter ∧ (State.settleWarn s).saves = s.saves ∧ (State.settleWarn s).chip = s.chip ∧
    (State.settleWarn s).power = s.power ∧ (State.settleWarn s).mesh = s.mesh := by
  exact ⟨rfl, rfl, rfl, rfl, rfl, rfl, rfl, rfl, rfl, rfl, rfl, rfl, rfl, rfl, rfl, rfl, rfl, rfl, rfl, rfl⟩

@[simp] theorem holdPhase_frame (s : State) :
    (State.holdPhase s).pending = s.pending ∧ (State.holdPhase s).fresh = s.fresh ∧ (State.holdPhase s).outbox = s.outbox ∧
    (State.holdPhase s).tiles = s.tiles ∧ (State.holdPhase s).dens = s.dens ∧ (State.holdPhase s).seam = s.seam ∧
    (State.holdPhase s).ic = s.ic ∧ (State.holdPhase s).host = s.host ∧ (State.holdPhase s).wells = s.wells ∧
    (State.holdPhase s).cisterns = s.cisterns ∧ (State.holdPhase s).wins = s.wins ∧ (State.holdPhase s).ctls = s.ctls ∧
    (State.holdPhase s).fab = s.fab ∧ (State.holdPhase s).trust = s.trust ∧ (State.holdPhase s).meter = s.meter ∧
    (State.holdPhase s).saves = s.saves ∧ (State.holdPhase s).chip = s.chip ∧ (State.holdPhase s).power = s.power ∧
    (State.holdPhase s).mesh = s.mesh := by
  unfold State.holdPhase; split <;> simp

@[simp] theorem freePhase_frame (s : State) :
    (State.freePhase s).pending = s.pending ∧ (State.freePhase s).fresh = s.fresh ∧ (State.freePhase s).outbox = s.outbox ∧
    (State.freePhase s).tiles = s.tiles ∧ (State.freePhase s).dens = s.dens ∧ (State.freePhase s).seam = s.seam ∧
    (State.freePhase s).ic = s.ic ∧ (State.freePhase s).host = s.host ∧ (State.freePhase s).wells = s.wells ∧
    (State.freePhase s).cisterns = s.cisterns ∧ (State.freePhase s).wins = s.wins ∧ (State.freePhase s).ctls = s.ctls ∧
    (State.freePhase s).fab = s.fab ∧ (State.freePhase s).trust = s.trust ∧ (State.freePhase s).meter = s.meter ∧
    (State.freePhase s).saves = s.saves ∧ (State.freePhase s).chip = s.chip ∧ (State.freePhase s).power = s.power ∧
    (State.freePhase s).mesh = s.mesh := by
  unfold State.freePhase; dsimp only; (repeat' split) <;> simp

@[simp] theorem fenceTile_frame (s : State) (t : Nat) (code : Code) (byHost : Bool) (i : FaultInfo) :
    (State.fenceTile s t code byHost i).pending = s.pending ∧ (State.fenceTile s t code byHost i).fresh = s.fresh ∧
    (State.fenceTile s t code byHost i).outbox = s.outbox ∧ (State.fenceTile s t code byHost i).seam = s.seam ∧
    (State.fenceTile s t code byHost i).dict = s.dict ∧ (State.fenceTile s t code byHost i).wells = s.wells ∧
    (State.fenceTile s t code byHost i).cisterns = s.cisterns ∧ (State.fenceTile s t code byHost i).wins = s.wins ∧
    (State.fenceTile s t code byHost i).ctls = s.ctls ∧ (State.fenceTile s t code byHost i).fab = s.fab ∧
    (State.fenceTile s t code byHost i).trust = s.trust ∧ (State.fenceTile s t code byHost i).meter = s.meter ∧
    (State.fenceTile s t code byHost i).saves = s.saves ∧ (State.fenceTile s t code byHost i).chip = s.chip ∧
    (State.fenceTile s t code byHost i).power = s.power ∧ (State.fenceTile s t code byHost i).mesh = s.mesh := by
  unfold State.fenceTile; dsimp only; (repeat' split) <;> simp

@[simp] theorem applyRow_frame (s : State) (key : Nat) :
    (State.applyRow s key).pending = s.pending ∧ (State.applyRow s key).fresh = s.fresh ∧ (State.applyRow s key).outbox = s.outbox ∧
    (State.applyRow s key).dens = s.dens ∧ (State.applyRow s key).seam = s.seam ∧ (State.applyRow s key).dict = s.dict ∧
    (State.applyRow s key).host = s.host ∧ (State.applyRow s key).wells = s.wells ∧ (State.applyRow s key).cisterns = s.cisterns ∧
    (State.applyRow s key).wins = s.wins ∧ (State.applyRow s key).ctls = s.ctls ∧ (State.applyRow s key).fab = s.fab ∧
    (State.applyRow s key).trust = s.trust ∧ (State.applyRow s key).meter = s.meter ∧ (State.applyRow s key).saves = s.saves ∧
    (State.applyRow s key).chip = s.chip ∧ (State.applyRow s key).power = s.power ∧ (State.applyRow s key).mesh = s.mesh := by
  unfold State.applyRow; split <;> simp

@[simp] theorem computeRoutes_frame (s : State) :
    (State.computeRoutes s).pending = s.pending ∧ (State.computeRoutes s).fresh = s.fresh ∧
    (State.computeRoutes s).outbox = s.outbox ∧ (State.computeRoutes s).tiles = s.tiles ∧ (State.computeRoutes s).dens = s.dens ∧
    (State.computeRoutes s).seam = s.seam ∧ (State.computeRoutes s).ic = s.ic ∧ (State.computeRoutes s).dict = s.dict ∧
    (State.computeRoutes s).host = s.host ∧ (State.computeRoutes s).wells = s.wells ∧
    (State.computeRoutes s).cisterns = s.cisterns ∧ (State.computeRoutes s).wins = s.wins ∧ (State.computeRoutes s).ctls = s.ctls ∧
    (State.computeRoutes s).fab = s.fab ∧ (State.computeRoutes s).trust = s.trust ∧ (State.computeRoutes s).meter = s.meter ∧
    (State.computeRoutes s).saves = s.saves ∧ (State.computeRoutes s).chip = s.chip ∧ (State.computeRoutes s).power = s.power ∧
    (State.computeRoutes s).mesh = s.mesh := by
  exact ⟨rfl, rfl, rfl, rfl, rfl, rfl, rfl, rfl, rfl, rfl, rfl, rfl, rfl, rfl, rfl, rfl, rfl, rfl, rfl, rfl⟩

@[simp] theorem deriveKeys_frame (s : State) (b : FwBank) :
    (State.deriveKeys s b).pending = s.pending ∧ (State.deriveKeys s b).fresh = s.fresh ∧ (State.deriveKeys s b).outbox = s.outbox ∧
    (State.deriveKeys s b).tiles = s.tiles ∧ (State.deriveKeys s b).dens = s.dens ∧ (State.deriveKeys s b).seam = s.seam ∧
    (State.deriveKeys s b).ic = s.ic ∧ (State.deriveKeys s b).dict = s.dict ∧ (State.deriveKeys s b).host = s.host ∧
    (State.deriveKeys s b).repair = s.repair ∧ (State.deriveKeys s b).wells = s.wells ∧
    (State.deriveKeys s b).cisterns = s.cisterns ∧ (State.deriveKeys s b).wins = s.wins ∧ (State.deriveKeys s b).ctls = s.ctls ∧
    (State.deriveKeys s b).fab = s.fab ∧ (State.deriveKeys s b).meter = s.meter ∧ (State.deriveKeys s b).saves = s.saves ∧
    (State.deriveKeys s b).chip = s.chip ∧ (State.deriveKeys s b).power = s.power ∧ (State.deriveKeys s b).mesh = s.mesh := by
  exact ⟨rfl, rfl, rfl, rfl, rfl, rfl, rfl, rfl, rfl, rfl, rfl, rfl, rfl, rfl, rfl, rfl, rfl, rfl, rfl, rfl⟩

@[simp] theorem clearCdi_frame (s : State) :
    (State.clearCdi s).pending = s.pending ∧ (State.clearCdi s).fresh = s.fresh ∧ (State.clearCdi s).outbox = s.outbox ∧
    (State.clearCdi s).tiles = s.tiles ∧ (State.clearCdi s).dens = s.dens ∧ (State.clearCdi s).seam = s.seam ∧
    (State.clearCdi s).ic = s.ic ∧ (State.clearCdi s).dict = s.dict ∧ (State.clearCdi s).host = s.host ∧
    (State.clearCdi s).repair = s.repair ∧ (State.clearCdi s).wells = s.wells ∧ (State.clearCdi s).cisterns = s.cisterns ∧
    (State.clearCdi s).wins = s.wins ∧ (State.clearCdi s).ctls = s.ctls ∧ (State.clearCdi s).fab = s.fab ∧
    (State.clearCdi s).meter = s.meter ∧ (State.clearCdi s).saves = s.saves ∧ (State.clearCdi s).chip = s.chip ∧
    (State.clearCdi s).power = s.power ∧ (State.clearCdi s).mesh = s.mesh := by
  exact ⟨rfl, rfl, rfl, rfl, rfl, rfl, rfl, rfl, rfl, rfl, rfl, rfl, rfl, rfl, rfl, rfl, rfl, rfl, rfl, rfl⟩

@[simp] theorem modPair_frame (s : State) (job peer : Nat) (f : Pair → Pair) :
    (State.modPair s job peer f).pending = s.pending ∧ (State.modPair s job peer f).fresh = s.fresh ∧
    (State.modPair s job peer f).outbox = s.outbox ∧ (State.modPair s job peer f).tiles = s.tiles ∧
    (State.modPair s job peer f).dens = s.dens ∧ (State.modPair s job peer f).seam = s.seam ∧
    (State.modPair s job peer f).ic = s.ic ∧ (State.modPair s job peer f).dict = s.dict ∧
    (State.modPair s job peer f).host = s.host ∧ (State.modPair s job peer f).repair = s.repair ∧
    (State.modPair s job peer f).wells = s.wells ∧ (State.modPair s job peer f).cisterns = s.cisterns ∧
    (State.modPair s job peer f).wins = s.wins ∧ (State.modPair s job peer f).ctls = s.ctls ∧
    (State.modPair s job peer f).trust = s.trust ∧ (State.modPair s job peer f).meter = s.meter ∧
    (State.modPair s job peer f).saves = s.saves ∧ (State.modPair s job peer f).chip = s.chip ∧
    (State.modPair s job peer f).power = s.power ∧ (State.modPair s job peer f).mesh = s.mesh := by
  exact ⟨rfl, rfl, rfl, rfl, rfl, rfl, rfl, rfl, rfl, rfl, rfl, rfl, rfl, rfl, rfl, rfl, rfl, rfl, rfl, rfl⟩

@[simp] theorem transmit_frame (s : State) (l : Nat) (by_ : SendBy) (f : Frame) :
    (State.transmit s l by_ f).pending = s.pending ∧ (State.transmit s l by_ f).fresh = s.fresh ∧
    (State.transmit s l by_ f).tiles = s.tiles ∧ (State.transmit s l by_ f).dens = s.dens ∧
    (State.transmit s l by_ f).seam = s.seam ∧ (State.transmit s l by_ f).ic = s.ic ∧ (State.transmit s l by_ f).dict = s.dict ∧
    (State.transmit s l by_ f).host = s.host ∧ (State.transmit s l by_ f).repair = s.repair ∧
    (State.transmit s l by_ f).wells = s.wells ∧ (State.transmit s l by_ f).cisterns = s.cisterns ∧
    (State.transmit s l by_ f).wins = s.wins ∧ (State.transmit s l by_ f).ctls = s.ctls ∧
    (State.transmit s l by_ f).trust = s.trust ∧ (State.transmit s l by_ f).meter = s.meter ∧
    (State.transmit s l by_ f).saves = s.saves ∧ (State.transmit s l by_ f).chip = s.chip ∧
    (State.transmit s l by_ f).power = s.power ∧ (State.transmit s l by_ f).mesh = s.mesh := by
  unfold State.transmit; dsimp only; (repeat' split) <;> simp

@[simp] theorem sealFrame_frame (s : State) (l : Nat) (dmac : BitVec 48) (exp : Bool) (job peer : Nat) (m : Msg) :
    (State.sealFrame s l dmac exp job peer m).2.pending = s.pending ∧ (State.sealFrame s l dmac exp job peer m).2.fresh = s.fresh ∧
    (State.sealFrame s l dmac exp job peer m).2.outbox = s.outbox ∧ (State.sealFrame s l dmac exp job peer m).2.tiles = s.tiles ∧
    (State.sealFrame s l dmac exp job peer m).2.dens = s.dens ∧ (State.sealFrame s l dmac exp job peer m).2.seam = s.seam ∧
    (State.sealFrame s l dmac exp job peer m).2.ic = s.ic ∧ (State.sealFrame s l dmac exp job peer m).2.dict = s.dict ∧
    (State.sealFrame s l dmac exp job peer m).2.host = s.host ∧ (State.sealFrame s l dmac exp job peer m).2.repair = s.repair ∧
    (State.sealFrame s l dmac exp job peer m).2.wells = s.wells ∧
    (State.sealFrame s l dmac exp job peer m).2.cisterns = s.cisterns ∧ (State.sealFrame s l dmac exp job peer m).2.wins = s.wins ∧
    (State.sealFrame s l dmac exp job peer m).2.ctls = s.ctls ∧ (State.sealFrame s l dmac exp job peer m).2.trust = s.trust ∧
    (State.sealFrame s l dmac exp job peer m).2.meter = s.meter ∧ (State.sealFrame s l dmac exp job peer m).2.saves = s.saves ∧
    (State.sealFrame s l dmac exp job peer m).2.chip = s.chip ∧ (State.sealFrame s l dmac exp job peer m).2.power = s.power ∧
    (State.sealFrame s l dmac exp job peer m).2.mesh = s.mesh := by
  unfold State.sealFrame; split <;> simp

@[simp] theorem freeBytes_frame (s : State) (n : Nat) :
    (State.freeBytes s n).2.pending = s.pending ∧ (State.freeBytes s n).2.outbox = s.outbox ∧
    (State.freeBytes s n).2.tiles = s.tiles ∧ (State.freeBytes s n).2.dens = s.dens ∧ (State.freeBytes s n).2.seam = s.seam ∧
    (State.freeBytes s n).2.ic = s.ic ∧ (State.freeBytes s n).2.dict = s.dict ∧ (State.freeBytes s n).2.host = s.host ∧
    (State.freeBytes s n).2.repair = s.repair ∧ (State.freeBytes s n).2.wells = s.wells ∧
    (State.freeBytes s n).2.cisterns = s.cisterns ∧ (State.freeBytes s n).2.wins = s.wins ∧ (State.freeBytes s n).2.ctls = s.ctls ∧
    (State.freeBytes s n).2.fab = s.fab ∧ (State.freeBytes s n).2.trust = s.trust ∧ (State.freeBytes s n).2.meter = s.meter ∧
    (State.freeBytes s n).2.saves = s.saves ∧ (State.freeBytes s n).2.chip = s.chip ∧ (State.freeBytes s n).2.power = s.power ∧
    (State.freeBytes s n).2.mesh = s.mesh := by
  exact ⟨rfl, rfl, rfl, rfl, rfl, rfl, rfl, rfl, rfl, rfl, rfl, rfl, rfl, rfl, rfl, rfl, rfl, rfl, rfl, rfl⟩

@[simp] theorem newKeyx_frame (s : State) (job peer step : Nat) (asked : List Byte) :
    (State.newKeyx s job peer step asked).2.2.pending = s.pending ∧ (State.newKeyx s job peer step asked).2.2.outbox = s.outbox ∧
    (State.newKeyx s job peer step asked).2.2.tiles = s.tiles ∧ (State.newKeyx s job peer step asked).2.2.dens = s.dens ∧
    (State.newKeyx s job peer step asked).2.2.seam = s.seam ∧ (State.newKeyx s job peer step asked).2.2.ic = s.ic ∧
    (State.newKeyx s job peer step asked).2.2.dict = s.dict ∧ (State.newKeyx s job peer step asked).2.2.host = s.host ∧
    (State.newKeyx s job peer step asked).2.2.repair = s.repair ∧ (State.newKeyx s job peer step asked).2.2.wells = s.wells ∧
    (State.newKeyx s job peer step asked).2.2.cisterns = s.cisterns ∧ (State.newKeyx s job peer step asked).2.2.wins = s.wins ∧
    (State.newKeyx s job peer step asked).2.2.ctls = s.ctls ∧ (State.newKeyx s job peer step asked).2.2.fab = s.fab ∧
    (State.newKeyx s job peer step asked).2.2.trust = s.trust ∧ (State.newKeyx s job peer step asked).2.2.meter = s.meter ∧
    (State.newKeyx s job peer step asked).2.2.saves = s.saves ∧ (State.newKeyx s job peer step asked).2.2.chip = s.chip ∧
    (State.newKeyx s job peer step asked).2.2.power = s.power ∧ (State.newKeyx s job peer step asked).2.2.mesh = s.mesh := by
  unfold State.newKeyx; dsimp only; (repeat' split) <;> first | (simp; done) | (have e := snd_of_eq ‹_ = (_, _)›; subst e; simp; done) | (have e := snd2_of_eq ‹_ = (_, _, _)›; subst e; simp)

@[simp] theorem sendKeyx_frame (s : State) (job peer : Nat) (payload : List Byte) :
    (State.sendKeyx s job peer payload).pending = s.pending ∧ (State.sendKeyx s job peer payload).fresh = s.fresh ∧
    (State.sendKeyx s job peer payload).tiles = s.tiles ∧ (State.sendKeyx s job peer payload).dens = s.dens ∧
    (State.sendKeyx s job peer payload).seam = s.seam ∧ (State.sendKeyx s job peer payload).ic = s.ic ∧
    (State.sendKeyx s job peer payload).dict = s.dict ∧ (State.sendKeyx s job peer payload).host = s.host ∧
    (State.sendKeyx s job peer payload).repair = s.repair ∧ (State.sendKeyx s job peer payload).wells = s.wells ∧
    (State.sendKeyx s job peer payload).cisterns = s.cisterns ∧ (State.sendKeyx s job peer payload).wins = s.wins ∧
    (State.sendKeyx s job peer payload).ctls = s.ctls ∧ (State.sendKeyx s job peer payload).trust = s.trust ∧
    (State.sendKeyx s job peer payload).meter = s.meter ∧ (State.sendKeyx s job peer payload).saves = s.saves ∧
    (State.sendKeyx s job peer payload).chip = s.chip ∧ (State.sendKeyx s job peer payload).power = s.power ∧
    (State.sendKeyx s job peer payload).mesh = s.mesh := by
  unfold State.sendKeyx; split <;> simp

@[simp] theorem turnAround_frame (s : State) (job : Nat) (exp : Bool) (m : Msg) :
    (State.turnAround s job exp m).pending = s.pending ∧ (State.turnAround s job exp m).fresh = s.fresh ∧
    (State.turnAround s job exp m).outbox = s.outbox ∧ (State.turnAround s job exp m).tiles = s.tiles ∧
    (State.turnAround s job exp m).dens = s.dens ∧ (State.turnAround s job exp m).seam = s.seam ∧
    (State.turnAround s job exp m).ic = s.ic ∧ (State.turnAround s job exp m).dict = s.dict ∧
    (State.turnAround s job exp m).host = s.host ∧ (State.turnAround s job exp m).repair = s.repair ∧
    (State.turnAround s job exp m).wells = s.wells ∧ (State.turnAround s job exp m).cisterns = s.cisterns ∧
    (State.turnAround s job exp m).wins = s.wins ∧ (State.turnAround s job exp m).ctls = s.ctls ∧
    (State.turnAround s job exp m).trust = s.trust ∧ (State.turnAround s job exp m).meter = s.meter ∧
    (State.turnAround s job exp m).saves = s.saves ∧ (State.turnAround s job exp m).chip = s.chip ∧
    (State.turnAround s job exp m).power = s.power ∧ (State.turnAround s job exp m).mesh = s.mesh := by
  (simp [State.turnAround])

theorem agree_frame {s t : State} {job peer : Nat} (h : s.agree job peer = .ok t) :
    t.pending = s.pending ∧ t.tiles = s.tiles ∧ t.dens = s.dens ∧ t.seam = s.seam ∧ t.ic = s.ic ∧ t.dict = s.dict ∧
    t.host = s.host ∧ t.repair = s.repair ∧ t.wells = s.wells ∧ t.cisterns = s.cisterns ∧ t.wins = s.wins ∧ t.ctls = s.ctls ∧
    t.trust = s.trust ∧ t.meter = s.meter ∧ t.saves = s.saves ∧ t.chip = s.chip ∧ t.power = s.power ∧ t.mesh = s.mesh := by
  unfold State.agree at h
  (repeat' split at h) <;> simp at h <;> subst h <;>
    first | (simp; done) | (have e := snd2_of_eq ‹s.newKeyx job peer 1 [] = (_, _, _)›; subst e; simp)

theorem sendOn_frame {s t : State} {l : Nat} {dmac : BitVec 48} {job peer : Nat} {by_ : SendBy} {exp tx fixed : Bool} {m : Msg}
    (h : s.sendOn l dmac job peer by_ exp tx m fixed = .ok t) :
    t.pending = s.pending ∧ t.tiles = s.tiles ∧ t.dens = s.dens ∧ t.seam = s.seam ∧ t.ic = s.ic ∧ t.dict = s.dict ∧
    t.host = s.host ∧ t.repair = s.repair ∧ t.wells = s.wells ∧ t.cisterns = s.cisterns ∧ t.wins = s.wins ∧ t.ctls = s.ctls ∧
    t.trust = s.trust ∧ t.meter = s.meter ∧ t.saves = s.saves ∧ t.chip = s.chip ∧ t.power = s.power ∧ t.mesh = s.mesh := by
  unfold State.sendOn at h
  split at h
  · cases h
  · split at h
    · simp only [Except.ok.injEq] at h; subst h; simp
    · dsimp only at h
      generalize hl : (_ || _ : Bool) = live at h
      cases live with
      | true =>
        simp only [if_true] at h
        simp only [Except.ok.injEq] at h; subst h; simp
      | false =>
        simp only [Bool.false_eq_true, if_false] at h
        split_ifs at h with hc
        all_goals
          cases ha : s.agree job peer with
          | error c => (rw [ha] at h; cases h)
          | ok u =>
            rw [ha] at h
            simp only [bind, Except.bind, Except.ok.injEq] at h
            subst h
            have := agree_frame ha
            simpa using this

theorem sendMsg_frame {s t : State} {job peer : Nat} {by_ : SendBy} {m : Msg} (h : s.sendMsg job peer by_ m = .ok t) :
    t.pending = s.pending ∧ t.tiles = s.tiles ∧ t.dens = s.dens ∧ t.seam = s.seam ∧ t.ic = s.ic ∧ t.dict = s.dict ∧
    t.host = s.host ∧ t.repair = s.repair ∧ t.wells = s.wells ∧ t.cisterns = s.cisterns ∧ t.wins = s.wins ∧ t.ctls = s.ctls ∧
    t.trust = s.trust ∧ t.meter = s.meter ∧ t.saves = s.saves ∧ t.chip = s.chip ∧ t.power = s.power ∧ t.mesh = s.mesh := by
  unfold State.sendMsg at h
  split at h
  · cases h
  · split at h
    · simp only [Except.ok.injEq] at h; subst h; simp
    · split at h
      · cases h
      · exact sendOn_frame h

theorem startTx_frame {s t : State} {slot : Nat} {w : WinEntry} {who : TxFor} {msg : Msg} (h : s.startTx slot w who msg = .sent t) :
    t.pending = s.pending ∧ t.tiles = s.tiles ∧ t.dens = s.dens ∧ t.seam = s.seam ∧ t.ic = s.ic ∧ t.dict = s.dict ∧
    t.host = s.host ∧ t.repair = s.repair ∧ t.wells = s.wells ∧ t.cisterns = s.cisterns ∧ t.wins = s.wins ∧ t.ctls = s.ctls ∧
    t.trust = s.trust ∧ t.meter = s.meter ∧ t.saves = s.saves ∧ t.chip = s.chip ∧ t.power = s.power ∧ t.mesh = s.mesh := by
  unfold State.startTx at h
  split at h
  · cases h
  · split at h
    · cases h
    · dsimp only at h
      split at h
      · cases h
      · split at h
        · cases h
        · rename_i hs
          simp only [TxStart.sent.injEq] at h
          subst h
          simpa using sendOn_frame hs

@[simp] theorem sendDict_frame (s : State) (peer job : Nat) (bs : List Byte) :
    (s.sendDict peer job bs).pending = s.pending ∧ (s.sendDict peer job bs).tiles = s.tiles ∧
    (s.sendDict peer job bs).dens = s.dens ∧ (s.sendDict peer job bs).seam = s.seam ∧ (s.sendDict peer job bs).ic = s.ic ∧
    (s.sendDict peer job bs).dict = s.dict ∧ (s.sendDict peer job bs).host = s.host ∧ (s.sendDict peer job bs).repair = s.repair ∧
    (s.sendDict peer job bs).wells = s.wells ∧ (s.sendDict peer job bs).cisterns = s.cisterns ∧
    (s.sendDict peer job bs).wins = s.wins ∧ (s.sendDict peer job bs).ctls = s.ctls ∧ (s.sendDict peer job bs).trust = s.trust ∧
    (s.sendDict peer job bs).meter = s.meter ∧ (s.sendDict peer job bs).saves = s.saves ∧ (s.sendDict peer job bs).chip = s.chip ∧
    (s.sendDict peer job bs).power = s.power ∧ (s.sendDict peer job bs).mesh = s.mesh := by
  unfold State.sendDict
  dsimp only
  refine ⟨?_, ?_, ?_, ?_, ?_, ?_, ?_, ?_, ?_, ?_, ?_, ?_, ?_, ?_, ?_, ?_, ?_, ?_⟩
  · exact (foldl_pending _ _ _ fun s a => by split <;> first | rfl | simp [sendMsg_frame ‹_›]).trans rfl
  · exact (foldl_tiles _ _ _ fun s a => by split <;> first | rfl | simp [sendMsg_frame ‹_›]).trans rfl
  · exact (foldl_dens _ _ _ fun s a => by split <;> first | rfl | simp [sendMsg_frame ‹_›]).trans rfl
  · exact (foldl_seam _ _ _ fun s a => by split <;> first | rfl | simp [sendMsg_frame ‹_›]).trans rfl
  · exact (foldl_ic _ _ _ fun s a => by split <;> first | rfl | simp [sendMsg_frame ‹_›]).trans rfl
  · exact (foldl_dict _ _ _ fun s a => by split <;> first | rfl | simp [sendMsg_frame ‹_›]).trans rfl
  · exact (foldl_host _ _ _ fun s a => by split <;> first | rfl | simp [sendMsg_frame ‹_›]).trans rfl
  · exact (foldl_repair _ _ _ fun s a => by split <;> first | rfl | simp [sendMsg_frame ‹_›]).trans rfl
  · exact (foldl_wells _ _ _ fun s a => by split <;> first | rfl | simp [sendMsg_frame ‹_›]).trans rfl
  · exact (foldl_cisterns _ _ _ fun s a => by split <;> first | rfl | simp [sendMsg_frame ‹_›]).trans rfl
  · exact (foldl_wins _ _ _ fun s a => by split <;> first | rfl | simp [sendMsg_frame ‹_›]).trans rfl
  · exact (foldl_ctls _ _ _ fun s a => by split <;> first | rfl | simp [sendMsg_frame ‹_›]).trans rfl
  · exact (foldl_trust _ _ _ fun s a => by split <;> first | rfl | simp [sendMsg_frame ‹_›]).trans rfl
  · exact (foldl_meter _ _ _ fun s a => by split <;> first | rfl | simp [sendMsg_frame ‹_›]).trans rfl
  · exact (foldl_saves _ _ _ fun s a => by split <;> first | rfl | simp [sendMsg_frame ‹_›]).trans rfl
  · exact (foldl_chip _ _ _ fun s a => by split <;> first | rfl | simp [sendMsg_frame ‹_›]).trans rfl
  · exact (foldl_power _ _ _ fun s a => by split <;> first | rfl | simp [sendMsg_frame ‹_›]).trans rfl
  · exact (foldl_mesh _ _ _ fun s a => by split <;> first | rfl | simp [sendMsg_frame ‹_›]).trans rfl

@[simp] theorem setLinkState_frame (s : State) (l st : Nat) :
    (State.setLinkState s l st).pending = s.pending ∧ (State.setLinkState s l st).fresh = s.fresh ∧
    (State.setLinkState s l st).outbox = s.outbox ∧ (State.setLinkState s l st).tiles = s.tiles ∧
    (State.setLinkState s l st).dens = s.dens ∧ (State.setLinkState s l st).seam = s.seam ∧
    (State.setLinkState s l st).host = s.host ∧ (State.setLinkState s l st).repair = s.repair ∧
    (State.setLinkState s l st).wells = s.wells ∧ (State.setLinkState s l st).cisterns = s.cisterns ∧
    (State.setLinkState s l st).wins = s.wins ∧ (State.setLinkState s l st).ctls = s.ctls ∧
    (State.setLinkState s l st).fab = s.fab ∧ (State.setLinkState s l st).trust = s.trust ∧
    (State.setLinkState s l st).meter = s.meter ∧ (State.setLinkState s l st).saves = s.saves ∧
    (State.setLinkState s l st).chip = s.chip ∧ (State.setLinkState s l st).power = s.power := by
  unfold State.setLinkState; split <;> simp

@[simp] theorem setEngCache_frame (s : State) (e : Nat) (l : List (Nat × Extent)) :
    (State.setEngCache s e l).pending = s.pending ∧ (State.setEngCache s e l).fresh = s.fresh ∧
    (State.setEngCache s e l).outbox = s.outbox ∧ (State.setEngCache s e l).tiles = s.tiles ∧
    (State.setEngCache s e l).dens = s.dens ∧ (State.setEngCache s e l).seam = s.seam ∧ (State.setEngCache s e l).ic = s.ic ∧
    (State.setEngCache s e l).dict = s.dict ∧ (State.setEngCache s e l).host = s.host ∧
    (State.setEngCache s e l).repair = s.repair ∧ (State.setEngCache s e l).wells = s.wells ∧
    (State.setEngCache s e l).cisterns = s.cisterns ∧ (State.setEngCache s e l).wins = s.wins ∧
    (State.setEngCache s e l).ctls = s.ctls ∧ (State.setEngCache s e l).trust = s.trust ∧
    (State.setEngCache s e l).meter = s.meter ∧ (State.setEngCache s e l).saves = s.saves ∧
    (State.setEngCache s e l).chip = s.chip ∧ (State.setEngCache s e l).power = s.power ∧ (State.setEngCache s e l).mesh = s.mesh := by
  exact ⟨rfl, rfl, rfl, rfl, rfl, rfl, rfl, rfl, rfl, rfl, rfl, rfl, rfl, rfl, rfl, rfl, rfl, rfl, rfl, rfl⟩

@[simp] theorem setEngMisses_frame (s : State) (e : Nat) (l : List EngMiss) :
    (State.setEngMisses s e l).pending = s.pending ∧ (State.setEngMisses s e l).fresh = s.fresh ∧
    (State.setEngMisses s e l).outbox = s.outbox ∧ (State.setEngMisses s e l).tiles = s.tiles ∧
    (State.setEngMisses s e l).dens = s.dens ∧ (State.setEngMisses s e l).seam = s.seam ∧ (State.setEngMisses s e l).ic = s.ic ∧
    (State.setEngMisses s e l).dict = s.dict ∧ (State.setEngMisses s e l).host = s.host ∧
    (State.setEngMisses s e l).repair = s.repair ∧ (State.setEngMisses s e l).wells = s.wells ∧
    (State.setEngMisses s e l).cisterns = s.cisterns ∧ (State.setEngMisses s e l).wins = s.wins ∧
    (State.setEngMisses s e l).ctls = s.ctls ∧ (State.setEngMisses s e l).trust = s.trust ∧
    (State.setEngMisses s e l).meter = s.meter ∧ (State.setEngMisses s e l).saves = s.saves ∧
    (State.setEngMisses s e l).chip = s.chip ∧ (State.setEngMisses s e l).power = s.power ∧ (State.setEngMisses s e l).mesh = s.mesh := by
  exact ⟨rfl, rfl, rfl, rfl, rfl, rfl, rfl, rfl, rfl, rfl, rfl, rfl, rfl, rfl, rfl, rfl, rfl, rfl, rfl, rfl⟩

@[simp] theorem engineFill_frame (s : State) (e slot : Nat) (x : Extent) :
    (State.engineFill s e slot x).pending = s.pending ∧ (State.engineFill s e slot x).fresh = s.fresh ∧
    (State.engineFill s e slot x).outbox = s.outbox ∧ (State.engineFill s e slot x).tiles = s.tiles ∧
    (State.engineFill s e slot x).dens = s.dens ∧ (State.engineFill s e slot x).seam = s.seam ∧
    (State.engineFill s e slot x).ic = s.ic ∧ (State.engineFill s e slot x).dict = s.dict ∧
    (State.engineFill s e slot x).host = s.host ∧ (State.engineFill s e slot x).repair = s.repair ∧
    (State.engineFill s e slot x).wells = s.wells ∧ (State.engineFill s e slot x).cisterns = s.cisterns ∧
    (State.engineFill s e slot x).wins = s.wins ∧ (State.engineFill s e slot x).ctls = s.ctls ∧
    (State.engineFill s e slot x).trust = s.trust ∧ (State.engineFill s e slot x).meter = s.meter ∧
    (State.engineFill s e slot x).saves = s.saves ∧ (State.engineFill s e slot x).chip = s.chip ∧
    (State.engineFill s e slot x).power = s.power ∧ (State.engineFill s e slot x).mesh = s.mesh := by
  unfold State.engineFill; dsimp only; split <;> simp

@[simp] theorem engineLookup_frame (s : State) (e slot va : Nat) :
    (State.engineLookup s e slot va).2.pending = s.pending ∧ (State.engineLookup s e slot va).2.fresh = s.fresh ∧
    (State.engineLookup s e slot va).2.outbox = s.outbox ∧ (State.engineLookup s e slot va).2.tiles = s.tiles ∧
    (State.engineLookup s e slot va).2.dens = s.dens ∧ (State.engineLookup s e slot va).2.seam = s.seam ∧
    (State.engineLookup s e slot va).2.ic = s.ic ∧ (State.engineLookup s e slot va).2.host = s.host ∧
    (State.engineLookup s e slot va).2.repair = s.repair ∧ (State.engineLookup s e slot va).2.wells = s.wells ∧
    (State.engineLookup s e slot va).2.cisterns = s.cisterns ∧ (State.engineLookup s e slot va).2.wins = s.wins ∧
    (State.engineLookup s e slot va).2.ctls = s.ctls ∧ (State.engineLookup s e slot va).2.trust = s.trust ∧
    (State.engineLookup s e slot va).2.meter = s.meter ∧ (State.engineLookup s e slot va).2.saves = s.saves ∧
    (State.engineLookup s e slot va).2.chip = s.chip ∧ (State.engineLookup s e slot va).2.power = s.power := by
  have hit : ∀ p : Extent × State, s.engineHit e slot va = some p → p.2 = { s with fab := p.2.fab } := by
    intro p h
    unfold State.engineHit at h
    dsimp only at h
    obtain ⟨x, -, rfl⟩ := Option.map_eq_some_iff.mp h
    rfl
  unfold State.engineLookup
  cases h : s.engineHit e slot va with
  | some p =>
    have := hit p h
    obtain ⟨x, u⟩ := p
    dsimp only at this ⊢
    rw [this]
    repeat' constructor
  | none =>
    dsimp only
    split
    · simp
    · split <;> simp

@[simp] theorem engineMiss_frame (s : State) (e slot va : Nat) :
    (State.engineMiss s e slot va).pending = s.pending ∧ (State.engineMiss s e slot va).fresh = s.fresh ∧
    (State.engineMiss s e slot va).outbox = s.outbox ∧ (State.engineMiss s e slot va).tiles = s.tiles ∧
    (State.engineMiss s e slot va).dens = s.dens ∧ (State.engineMiss s e slot va).seam = s.seam ∧
    (State.engineMiss s e slot va).ic = s.ic ∧ (State.engineMiss s e slot va).dict = s.dict ∧
    (State.engineMiss s e slot va).host = s.host ∧ (State.engineMiss s e slot va).repair = s.repair ∧
    (State.engineMiss s e slot va).wells = s.wells ∧ (State.engineMiss s e slot va).cisterns = s.cisterns ∧
    (State.engineMiss s e slot va).wins = s.wins ∧ (State.engineMiss s e slot va).ctls = s.ctls ∧
    (State.engineMiss s e slot va).trust = s.trust ∧ (State.engineMiss s e slot va).meter = s.meter ∧
    (State.engineMiss s e slot va).saves = s.saves ∧ (State.engineMiss s e slot va).chip = s.chip ∧
    (State.engineMiss s e slot va).power = s.power ∧ (State.engineMiss s e slot va).mesh = s.mesh := by
  unfold State.engineMiss; dsimp only; split <;> simp

@[simp] theorem engineSpend_frame (s : State) (e slot : Nat) (vas : List Nat) :
    (State.engineSpend s e slot vas).pending = s.pending ∧ (State.engineSpend s e slot vas).fresh = s.fresh ∧
    (State.engineSpend s e slot vas).outbox = s.outbox ∧ (State.engineSpend s e slot vas).tiles = s.tiles ∧
    (State.engineSpend s e slot vas).dens = s.dens ∧ (State.engineSpend s e slot vas).seam = s.seam ∧
    (State.engineSpend s e slot vas).ic = s.ic ∧ (State.engineSpend s e slot vas).dict = s.dict ∧
    (State.engineSpend s e slot vas).host = s.host ∧ (State.engineSpend s e slot vas).repair = s.repair ∧
    (State.engineSpend s e slot vas).wells = s.wells ∧ (State.engineSpend s e slot vas).cisterns = s.cisterns ∧
    (State.engineSpend s e slot vas).wins = s.wins ∧ (State.engineSpend s e slot vas).ctls = s.ctls ∧
    (State.engineSpend s e slot vas).trust = s.trust ∧ (State.engineSpend s e slot vas).meter = s.meter ∧
    (State.engineSpend s e slot vas).saves = s.saves ∧ (State.engineSpend s e slot vas).chip = s.chip ∧
    (State.engineSpend s e slot vas).power = s.power ∧ (State.engineSpend s e slot vas).mesh = s.mesh := by
  exact ⟨rfl, rfl, rfl, rfl, rfl, rfl, rfl, rfl, rfl, rfl, rfl, rfl, rfl, rfl, rfl, rfl, rfl, rfl, rfl, rfl⟩

@[simp] theorem access_frame (s : State) (x : Target) (k : Access) (m : LineMeet) :
    (State.access s x k m).2.2.pending = s.pending ∧ (State.access s x k m).2.2.fresh = s.fresh ∧
    (State.access s x k m).2.2.outbox = s.outbox ∧ (State.access s x k m).2.2.seam = s.seam ∧
    (State.access s x k m).2.2.wins = s.wins ∧ (State.access s x k m).2.2.ctls = s.ctls ∧ (State.access s x k m).2.2.fab = s.fab ∧
    (State.access s x k m).2.2.trust = s.trust ∧ (State.access s x k m).2.2.meter = s.meter ∧
    (State.access s x k m).2.2.saves = s.saves ∧ (State.access s x k m).2.2.chip = s.chip ∧
    (State.access s x k m).2.2.power = s.power := by
  unfold State.access; split <;> simp

@[simp] theorem engineAccess_frame (s : State) (l slot line : Nat) (kind : LineKind) (k : Access) (m : LineMeet) (push : Bool) :
    (State.engineAccess s l slot line kind k m push).2.2.pending = s.pending ∧
    (State.engineAccess s l slot line kind k m push).2.2.fresh = s.fresh ∧
    (State.engineAccess s l slot line kind k m push).2.2.outbox = s.outbox ∧
    (State.engineAccess s l slot line kind k m push).2.2.seam = s.seam ∧
    (State.engineAccess s l slot line kind k m push).2.2.wins = s.wins ∧
    (State.engineAccess s l slot line kind k m push).2.2.ctls = s.ctls ∧
    (State.engineAccess s l slot line kind k m push).2.2.trust = s.trust ∧
    (State.engineAccess s l slot line kind k m push).2.2.meter = s.meter ∧
    (State.engineAccess s l slot line kind k m push).2.2.saves = s.saves ∧
    (State.engineAccess s l slot line kind k m push).2.2.chip = s.chip ∧
    (State.engineAccess s l slot line kind k m push).2.2.power = s.power := by
  unfold State.engineAccess; (repeat' split) <;> (first | (simp; done) | (have e := snd_of_eq ‹_ = (_, _)›; subst e; simp))

@[simp] theorem engineRead_frame (s : State) (l slot : Nat) (ms : List LineMeet) (y0 : Nat) (y1 : Nat) (y2 : List Byte) :
    (State.engineRead s l slot ms y0 y1 y2).2.2.pending = s.pending ∧ (State.engineRead s l slot ms y0 y1 y2).2.2.fresh = s.fresh ∧
    (State.engineRead s l slot ms y0 y1 y2).2.2.outbox = s.outbox ∧ (State.engineRead s l slot ms y0 y1 y2).2.2.seam = s.seam ∧
    (State.engineRead s l slot ms y0 y1 y2).2.2.wins = s.wins ∧ (State.engineRead s l slot ms y0 y1 y2).2.2.ctls = s.ctls ∧
    (State.engineRead s l slot ms y0 y1 y2).2.2.trust = s.trust ∧ (State.engineRead s l slot ms y0 y1 y2).2.2.meter = s.meter ∧
    (State.engineRead s l slot ms y0 y1 y2).2.2.saves = s.saves ∧ (State.engineRead s l slot ms y0 y1 y2).2.2.chip = s.chip ∧
    (State.engineRead s l slot ms y0 y1 y2).2.2.power = s.power := by
  induction y0 generalizing s y1 y2 with
  | zero => simp [State.engineRead]
  | succ n ih => (simp only [State.engineRead]; (repeat' split) <;> simp [ih])

@[simp] theorem writeDone_frame (s : State) (c : Nat) :
    (State.writeDone s c).2.pending = s.pending ∧ (State.writeDone s c).2.fresh = s.fresh ∧
    (State.writeDone s c).2.outbox = s.outbox ∧ (State.writeDone s c).2.seam = s.seam ∧ (State.writeDone s c).2.wins = s.wins ∧
    (State.writeDone s c).2.ctls = s.ctls ∧ (State.writeDone s c).2.trust = s.trust ∧ (State.writeDone s c).2.meter = s.meter ∧
    (State.writeDone s c).2.saves = s.saves ∧ (State.writeDone s c).2.chip = s.chip ∧ (State.writeDone s c).2.power = s.power := by
  unfold State.writeDone; split <;> simp

@[simp] theorem holdChan_frame (s : State) (c : Nat) (f : Chan → Chan) :
    (State.holdChan s c f).pending = s.pending ∧ (State.holdChan s c f).fresh = s.fresh ∧ (State.holdChan s c f).outbox = s.outbox ∧
    (State.holdChan s c f).seam = s.seam ∧ (State.holdChan s c f).wins = s.wins ∧ (State.holdChan s c f).ctls = s.ctls ∧
    (State.holdChan s c f).trust = s.trust ∧ (State.holdChan s c f).meter = s.meter ∧ (State.holdChan s c f).saves = s.saves ∧
    (State.holdChan s c f).chip = s.chip ∧ (State.holdChan s c f).power = s.power := by
  unfold State.holdChan; (repeat' split) <;> simp

@[simp] theorem holdAt_frame (s : State) (c : Nat) (st : Code) :
    (State.holdAt s c st).pending = s.pending ∧ (State.holdAt s c st).fresh = s.fresh ∧ (State.holdAt s c st).outbox = s.outbox ∧
    (State.holdAt s c st).seam = s.seam ∧ (State.holdAt s c st).wins = s.wins ∧ (State.holdAt s c st).ctls = s.ctls ∧
    (State.holdAt s c st).trust = s.trust ∧ (State.holdAt s c st).meter = s.meter ∧ (State.holdAt s c st).saves = s.saves ∧
    (State.holdAt s c st).chip = s.chip ∧ (State.holdAt s c st).power = s.power := by
  simp [State.holdAt]

@[simp] theorem noteDone_frame (s : State) (c : Nat) :
    (State.noteDone s c).pending = s.pending ∧ (State.noteDone s c).fresh = s.fresh ∧ (State.noteDone s c).outbox = s.outbox ∧
    (State.noteDone s c).seam = s.seam ∧ (State.noteDone s c).wins = s.wins ∧ (State.noteDone s c).ctls = s.ctls ∧
    (State.noteDone s c).trust = s.trust ∧ (State.noteDone s c).meter = s.meter ∧ (State.noteDone s c).saves = s.saves ∧
    (State.noteDone s c).chip = s.chip ∧ (State.noteDone s c).power = s.power := by
  unfold State.noteDone; dsimp only; split <;> simp

@[simp] theorem failUnit_frame (s : State) (c n : Nat) (st : Code) :
    (State.failUnit s c n st).pending = s.pending ∧ (State.failUnit s c n st).fresh = s.fresh ∧
    (State.failUnit s c n st).outbox = s.outbox ∧ (State.failUnit s c n st).seam = s.seam ∧
    (State.failUnit s c n st).wins = s.wins ∧ (State.failUnit s c n st).ctls = s.ctls ∧ (State.failUnit s c n st).trust = s.trust ∧
    (State.failUnit s c n st).meter = s.meter ∧ (State.failUnit s c n st).saves = s.saves ∧
    (State.failUnit s c n st).chip = s.chip ∧ (State.failUnit s c n st).power = s.power := by
  unfold State.failUnit; split <;> simp

@[simp] theorem sendCommit_frame (s : State) (c : Nat) (x : Chan) (u : PushUnit) :
    (State.sendCommit s c x u).pending = s.pending ∧ (State.sendCommit s c x u).seam = s.seam ∧
    (State.sendCommit s c x u).wins = s.wins ∧ (State.sendCommit s c x u).ctls = s.ctls ∧
    (State.sendCommit s c x u).trust = s.trust ∧ (State.sendCommit s c x u).meter = s.meter ∧
    (State.sendCommit s c x u).saves = s.saves ∧ (State.sendCommit s c x u).chip = s.chip ∧
    (State.sendCommit s c x u).power = s.power := by
  unfold State.sendCommit; dsimp only; (repeat' split) <;> first | (simp; done) | simp [sendMsg_frame ‹_›]

@[simp] theorem runCommits_frame (s : State) (c : Nat) :
    (State.runCommits s c).pending = s.pending ∧ (State.runCommits s c).seam = s.seam ∧ (State.runCommits s c).wins = s.wins ∧
    (State.runCommits s c).ctls = s.ctls ∧ (State.runCommits s c).trust = s.trust ∧ (State.runCommits s c).meter = s.meter ∧
    (State.runCommits s c).saves = s.saves ∧ (State.runCommits s c).chip = s.chip ∧ (State.runCommits s c).power = s.power := by
  unfold State.runCommits; split <;> simp (disch := (intros; split <;> simp))

@[simp] theorem freedLogs_frame (s : State) :
    (State.freedLogs s).pending = s.pending ∧ (State.freedLogs s).seam = s.seam ∧ (State.freedLogs s).wins = s.wins ∧
    (State.freedLogs s).ctls = s.ctls ∧ (State.freedLogs s).trust = s.trust ∧ (State.freedLogs s).meter = s.meter ∧
    (State.freedLogs s).saves = s.saves ∧ (State.freedLogs s).chip = s.chip ∧ (State.freedLogs s).power = s.power := by
  simp [State.freedLogs]

@[simp] theorem pushEnd_frame (s : State) (c n attempt bytes : Nat) (st : Code) :
    (State.pushEnd s c n attempt bytes st).pending = s.pending ∧ (State.pushEnd s c n attempt bytes st).seam = s.seam ∧
    (State.pushEnd s c n attempt bytes st).wins = s.wins ∧ (State.pushEnd s c n attempt bytes st).ctls = s.ctls ∧
    (State.pushEnd s c n attempt bytes st).trust = s.trust ∧ (State.pushEnd s c n attempt bytes st).meter = s.meter ∧
    (State.pushEnd s c n attempt bytes st).saves = s.saves ∧ (State.pushEnd s c n attempt bytes st).chip = s.chip ∧
    (State.pushEnd s c n attempt bytes st).power = s.power := by
  unfold State.pushEnd; (repeat' split) <;> simp

@[simp] theorem endTx_frame (s : State) (l : Nat) (x : Tx) (st : Code) (data : List Byte) (delayed : Bool) :
    (State.endTx s l x st data delayed).pending = s.pending ∧ (State.endTx s l x st data delayed).seam = s.seam ∧
    (State.endTx s l x st data delayed).wins = s.wins ∧ (State.endTx s l x st data delayed).ctls = s.ctls ∧
    (State.endTx s l x st data delayed).trust = s.trust ∧ (State.endTx s l x st data delayed).meter = s.meter ∧
    (State.endTx s l x st data delayed).saves = s.saves ∧ (State.endTx s l x st data delayed).chip = s.chip ∧
    (State.endTx s l x st data delayed).power = s.power := by
  unfold State.endTx; dsimp only; (repeat' split) <;> simp

@[simp] theorem endTxs_frame (s : State) (p : Nat → Tx → Bool) (st : Code) :
    (State.endTxs s p st).pending = s.pending ∧ (State.endTxs s p st).seam = s.seam ∧ (State.endTxs s p st).wins = s.wins ∧
    (State.endTxs s p st).ctls = s.ctls ∧ (State.endTxs s p st).trust = s.trust ∧ (State.endTxs s p st).meter = s.meter ∧
    (State.endTxs s p st).saves = s.saves ∧ (State.endTxs s p st).chip = s.chip ∧ (State.endTxs s p st).power = s.power := by
  simp [State.endTxs]

@[simp] theorem dropOld_frame (s : State) (job peer : Nat) :
    (State.dropOld s job peer).pending = s.pending ∧ (State.dropOld s job peer).fresh = s.fresh ∧
    (State.dropOld s job peer).outbox = s.outbox ∧ (State.dropOld s job peer).tiles = s.tiles ∧
    (State.dropOld s job peer).dens = s.dens ∧ (State.dropOld s job peer).seam = s.seam ∧ (State.dropOld s job peer).ic = s.ic ∧
    (State.dropOld s job peer).dict = s.dict ∧ (State.dropOld s job peer).host = s.host ∧
    (State.dropOld s job peer).repair = s.repair ∧ (State.dropOld s job peer).wells = s.wells ∧
    (State.dropOld s job peer).cisterns = s.cisterns ∧ (State.dropOld s job peer).wins = s.wins ∧
    (State.dropOld s job peer).ctls = s.ctls ∧ (State.dropOld s job peer).trust = s.trust ∧
    (State.dropOld s job peer).meter = s.meter ∧ (State.dropOld s job peer).saves = s.saves ∧
    (State.dropOld s job peer).chip = s.chip ∧ (State.dropOld s job peer).power = s.power ∧ (State.dropOld s job peer).mesh = s.mesh := by
  exact ⟨rfl, rfl, rfl, rfl, rfl, rfl, rfl, rfl, rfl, rfl, rfl, rfl, rfl, rfl, rfl, rfl, rfl, rfl, rfl, rfl⟩

@[simp] theorem endUnits_frame (s : State) (job peer : Nat) (keep : Bool) (c : Nat) :
    (State.endUnits s job peer keep c).pending = s.pending ∧ (State.endUnits s job peer keep c).fresh = s.fresh ∧
    (State.endUnits s job peer keep c).outbox = s.outbox ∧ (State.endUnits s job peer keep c).seam = s.seam ∧
    (State.endUnits s job peer keep c).wins = s.wins ∧ (State.endUnits s job peer keep c).ctls = s.ctls ∧
    (State.endUnits s job peer keep c).trust = s.trust ∧ (State.endUnits s job peer keep c).meter = s.meter ∧
    (State.endUnits s job peer keep c).saves = s.saves ∧ (State.endUnits s job peer keep c).chip = s.chip ∧
    (State.endUnits s job peer keep c).power = s.power := by
  unfold State.endUnits; split <;> simp

@[simp] theorem dropHeld_frame (s : State) (job peer : Nat) :
    (State.dropHeld s job peer).pending = s.pending ∧ (State.dropHeld s job peer).fresh = s.fresh ∧
    (State.dropHeld s job peer).outbox = s.outbox ∧ (State.dropHeld s job peer).tiles = s.tiles ∧
    (State.dropHeld s job peer).dens = s.dens ∧ (State.dropHeld s job peer).seam = s.seam ∧ (State.dropHeld s job peer).ic = s.ic ∧
    (State.dropHeld s job peer).dict = s.dict ∧ (State.dropHeld s job peer).host = s.host ∧
    (State.dropHeld s job peer).repair = s.repair ∧ (State.dropHeld s job peer).wells = s.wells ∧
    (State.dropHeld s job peer).cisterns = s.cisterns ∧ (State.dropHeld s job peer).wins = s.wins ∧
    (State.dropHeld s job peer).ctls = s.ctls ∧ (State.dropHeld s job peer).trust = s.trust ∧
    (State.dropHeld s job peer).meter = s.meter ∧ (State.dropHeld s job peer).saves = s.saves ∧
    (State.dropHeld s job peer).chip = s.chip ∧ (State.dropHeld s job peer).power = s.power ∧
    (State.dropHeld s job peer).mesh = s.mesh := by
  simp [State.dropHeld]

@[simp] theorem cutDict_frame (s : State) (job peer : Nat) :
    (State.cutDict s job peer).pending = s.pending ∧ (State.cutDict s job peer).fresh = s.fresh ∧
    (State.cutDict s job peer).outbox = s.outbox ∧ (State.cutDict s job peer).tiles = s.tiles ∧
    (State.cutDict s job peer).dens = s.dens ∧ (State.cutDict s job peer).seam = s.seam ∧ (State.cutDict s job peer).ic = s.ic ∧
    (State.cutDict s job peer).host = s.host ∧ (State.cutDict s job peer).repair = s.repair ∧
    (State.cutDict s job peer).wells = s.wells ∧ (State.cutDict s job peer).cisterns = s.cisterns ∧
    (State.cutDict s job peer).wins = s.wins ∧ (State.cutDict s job peer).ctls = s.ctls ∧ (State.cutDict s job peer).fab = s.fab ∧
    (State.cutDict s job peer).trust = s.trust ∧ (State.cutDict s job peer).meter = s.meter ∧
    (State.cutDict s job peer).saves = s.saves ∧ (State.cutDict s job peer).chip = s.chip ∧
    (State.cutDict s job peer).power = s.power ∧ (State.cutDict s job peer).mesh = s.mesh := by
  exact ⟨rfl, rfl, rfl, rfl, rfl, rfl, rfl, rfl, rfl, rfl, rfl, rfl, rfl, rfl, rfl, rfl, rfl, rfl, rfl, rfl⟩

@[simp] theorem endPair_frame (s : State) (job peer : Nat) (keep : Bool) :
    (State.endPair s job peer keep).pending = s.pending ∧ (State.endPair s job peer keep).seam = s.seam ∧
    (State.endPair s job peer keep).wins = s.wins ∧ (State.endPair s job peer keep).ctls = s.ctls ∧
    (State.endPair s job peer keep).trust = s.trust ∧ (State.endPair s job peer keep).meter = s.meter ∧
    (State.endPair s job peer keep).saves = s.saves ∧ (State.endPair s job peer keep).chip = s.chip ∧
    (State.endPair s job peer keep).power = s.power := by
  unfold State.endPair; dsimp only; (repeat' split) <;> simp

@[simp] theorem failCommit_frame (s : State) (job peer id : Nat) (code : Code) (c : Nat) :
    (State.failCommit s job peer id code c).pending = s.pending ∧ (State.failCommit s job peer id code c).fresh = s.fresh ∧
    (State.failCommit s job peer id code c).outbox = s.outbox ∧ (State.failCommit s job peer id code c).seam = s.seam ∧
    (State.failCommit s job peer id code c).wins = s.wins ∧ (State.failCommit s job peer id code c).ctls = s.ctls ∧
    (State.failCommit s job peer id code c).trust = s.trust ∧ (State.failCommit s job peer id code c).meter = s.meter ∧
    (State.failCommit s job peer id code c).saves = s.saves ∧ (State.failCommit s job peer id code c).chip = s.chip ∧
    (State.failCommit s job peer id code c).power = s.power := by
  unfold State.failCommit; (repeat' split) <;> simp

@[simp] theorem failWaiter_frame (s : State) (code : Code) (w : Waiter) :
    (State.failWaiter s code w).pending = s.pending ∧ (State.failWaiter s code w).seam = s.seam ∧
    (State.failWaiter s code w).wins = s.wins ∧ (State.failWaiter s code w).ctls = s.ctls ∧
    (State.failWaiter s code w).trust = s.trust ∧ (State.failWaiter s code w).meter = s.meter ∧
    (State.failWaiter s code w).saves = s.saves ∧ (State.failWaiter s code w).chip = s.chip ∧
    (State.failWaiter s code w).power = s.power := by
  unfold State.failWaiter; (repeat' split) <;> simp

@[simp] theorem failAgree_frame (s : State) (job peer : Nat) :
    (State.failAgree s job peer).pending = s.pending ∧ (State.failAgree s job peer).seam = s.seam ∧
    (State.failAgree s job peer).wins = s.wins ∧ (State.failAgree s job peer).ctls = s.ctls ∧
    (State.failAgree s job peer).trust = s.trust ∧ (State.failAgree s job peer).meter = s.meter ∧
    (State.failAgree s job peer).saves = s.saves ∧ (State.failAgree s job peer).chip = s.chip ∧
    (State.failAgree s job peer).power = s.power := by
  simp [State.failAgree]

@[simp] theorem moveTx_frame (s : State) (l l' : Nat) (t : Tx) :
    (State.moveTx s l l' t).2.pending = s.pending ∧ (State.moveTx s l l' t).2.fresh = s.fresh ∧
    (State.moveTx s l l' t).2.outbox = s.outbox ∧ (State.moveTx s l l' t).2.tiles = s.tiles ∧
    (State.moveTx s l l' t).2.dens = s.dens ∧ (State.moveTx s l l' t).2.seam = s.seam ∧ (State.moveTx s l l' t).2.ic = s.ic ∧
    (State.moveTx s l l' t).2.dict = s.dict ∧ (State.moveTx s l l' t).2.host = s.host ∧
    (State.moveTx s l l' t).2.repair = s.repair ∧ (State.moveTx s l l' t).2.wells = s.wells ∧
    (State.moveTx s l l' t).2.cisterns = s.cisterns ∧ (State.moveTx s l l' t).2.wins = s.wins ∧
    (State.moveTx s l l' t).2.ctls = s.ctls ∧ (State.moveTx s l l' t).2.trust = s.trust ∧
    (State.moveTx s l l' t).2.meter = s.meter ∧ (State.moveTx s l l' t).2.saves = s.saves ∧
    (State.moveTx s l l' t).2.chip = s.chip ∧ (State.moveTx s l l' t).2.power = s.power ∧ (State.moveTx s l l' t).2.mesh = s.mesh := by
  unfold State.moveTx; dsimp only; (repeat' split) <;> first | (simp; done) | (have e := snd_of_eq ‹_ = (_, _)›; subst e; simp; done) | (have e := snd2_of_eq ‹_ = (_, _, _)›; subst e; simp)

@[simp] theorem dropWaiter_frame (s : State) (w : Waiter) :
    (State.dropWaiter s w).pending = s.pending ∧ (State.dropWaiter s w).fresh = s.fresh ∧ (State.dropWaiter s w).outbox = s.outbox ∧
    (State.dropWaiter s w).tiles = s.tiles ∧ (State.dropWaiter s w).dens = s.dens ∧ (State.dropWaiter s w).seam = s.seam ∧
    (State.dropWaiter s w).ic = s.ic ∧ (State.dropWaiter s w).dict = s.dict ∧ (State.dropWaiter s w).host = s.host ∧
    (State.dropWaiter s w).repair = s.repair ∧ (State.dropWaiter s w).wells = s.wells ∧
    (State.dropWaiter s w).cisterns = s.cisterns ∧ (State.dropWaiter s w).wins = s.wins ∧ (State.dropWaiter s w).ctls = s.ctls ∧
    (State.dropWaiter s w).trust = s.trust ∧ (State.dropWaiter s w).meter = s.meter ∧ (State.dropWaiter s w).saves = s.saves ∧
    (State.dropWaiter s w).chip = s.chip ∧ (State.dropWaiter s w).power = s.power ∧ (State.dropWaiter s w).mesh = s.mesh := by
  exact ⟨rfl, rfl, rfl, rfl, rfl, rfl, rfl, rfl, rfl, rfl, rfl, rfl, rfl, rfl, rfl, rfl, rfl, rfl, rfl, rfl⟩

@[simp] theorem newIncarnation_frame (s : State) (peer : Nat) (old : BitVec 64) :
    (State.newIncarnation s peer old).pending = s.pending ∧ (State.newIncarnation s peer old).seam = s.seam ∧
    (State.newIncarnation s peer old).wins = s.wins ∧ (State.newIncarnation s peer old).ctls = s.ctls ∧
    (State.newIncarnation s peer old).trust = s.trust ∧ (State.newIncarnation s peer old).meter = s.meter ∧
    (State.newIncarnation s peer old).saves = s.saves ∧ (State.newIncarnation s peer old).chip = s.chip ∧
    (State.newIncarnation s peer old).power = s.power := by
  unfold State.newIncarnation; dsimp only; split <;> simp

@[simp] theorem askLine_frame (s : State) (slot t tag : Nat) (k : LineKind) (lines : Nat) (x : Target) (data : List Byte) :
    (State.askLine s slot t tag k lines x data).pending = s.pending ∧ (State.askLine s slot t tag k lines x data).fresh = s.fresh ∧
    (State.askLine s slot t tag k lines x data).outbox = s.outbox ∧ (State.askLine s slot t tag k lines x data).tiles = s.tiles ∧
    (State.askLine s slot t tag k lines x data).dens = s.dens ∧ (State.askLine s slot t tag k lines x data).seam = s.seam ∧
    (State.askLine s slot t tag k lines x data).ic = s.ic ∧ (State.askLine s slot t tag k lines x data).dict = s.dict ∧
    (State.askLine s slot t tag k lines x data).host = s.host ∧ (State.askLine s slot t tag k lines x data).repair = s.repair ∧
    (State.askLine s slot t tag k lines x data).wells = s.wells ∧
    (State.askLine s slot t tag k lines x data).cisterns = s.cisterns ∧ (State.askLine s slot t tag k lines x data).wins = s.wins ∧
    (State.askLine s slot t tag k lines x data).ctls = s.ctls ∧ (State.askLine s slot t tag k lines x data).fab = s.fab ∧
    (State.askLine s slot t tag k lines x data).trust = s.trust ∧ (State.askLine s slot t tag k lines x data).meter = s.meter ∧
    (State.askLine s slot t tag k lines x data).saves = s.saves ∧ (State.askLine s slot t tag k lines x data).chip = s.chip ∧
    (State.askLine s slot t tag k lines x data).power = s.power := by
  exact ⟨rfl, rfl, rfl, rfl, rfl, rfl, rfl, rfl, rfl, rfl, rfl, rfl, rfl, rfl, rfl, rfl, rfl, rfl, rfl, rfl⟩

@[simp] theorem pumpAsks_frame (s : State) (slot t tag va : Nat) :
    (State.pumpAsks s slot t tag va).pending = s.pending ∧ (State.pumpAsks s slot t tag va).fresh = s.fresh ∧
    (State.pumpAsks s slot t tag va).outbox = s.outbox ∧ (State.pumpAsks s slot t tag va).dens = s.dens ∧
    (State.pumpAsks s slot t tag va).seam = s.seam ∧ (State.pumpAsks s slot t tag va).ic = s.ic ∧
    (State.pumpAsks s slot t tag va).dict = s.dict ∧ (State.pumpAsks s slot t tag va).host = s.host ∧
    (State.pumpAsks s slot t tag va).repair = s.repair ∧ (State.pumpAsks s slot t tag va).wells = s.wells ∧
    (State.pumpAsks s slot t tag va).cisterns = s.cisterns ∧ (State.pumpAsks s slot t tag va).wins = s.wins ∧
    (State.pumpAsks s slot t tag va).ctls = s.ctls ∧ (State.pumpAsks s slot t tag va).fab = s.fab ∧
    (State.pumpAsks s slot t tag va).trust = s.trust ∧ (State.pumpAsks s slot t tag va).meter = s.meter ∧
    (State.pumpAsks s slot t tag va).saves = s.saves ∧ (State.pumpAsks s slot t tag va).chip = s.chip ∧
    (State.pumpAsks s slot t tag va).power = s.power := by
  unfold State.pumpAsks; split <;> simp

@[simp] theorem reportStop_frame (s : State) (slot t : Nat) :
    (State.reportStop s slot t).pending = s.pending ∧ (State.reportStop s slot t).fresh = s.fresh ∧
    (State.reportStop s slot t).outbox = s.outbox ∧ (State.reportStop s slot t).tiles = s.tiles ∧
    (State.reportStop s slot t).seam = s.seam ∧ (State.reportStop s slot t).ic = s.ic ∧ (State.reportStop s slot t).dict = s.dict ∧
    (State.reportStop s slot t).host = s.host ∧ (State.reportStop s slot t).repair = s.repair ∧
    (State.reportStop s slot t).wells = s.wells ∧ (State.reportStop s slot t).cisterns = s.cisterns ∧
    (State.reportStop s slot t).wins = s.wins ∧ (State.reportStop s slot t).ctls = s.ctls ∧
    (State.reportStop s slot t).fab = s.fab ∧ (State.reportStop s slot t).trust = s.trust ∧
    (State.reportStop s slot t).meter = s.meter ∧ (State.reportStop s slot t).saves = s.saves ∧
    (State.reportStop s slot t).chip = s.chip ∧ (State.reportStop s slot t).power = s.power := by
  unfold State.reportStop; split <;> simp

@[simp] theorem tellAll_frame (s : State) (slot seq : Nat) (whos : List Agent) :
    (State.tellAll s slot seq whos).pending = s.pending ∧ (State.tellAll s slot seq whos).fresh = s.fresh ∧
    (State.tellAll s slot seq whos).outbox = s.outbox ∧ (State.tellAll s slot seq whos).tiles = s.tiles ∧
    (State.tellAll s slot seq whos).dens = s.dens ∧ (State.tellAll s slot seq whos).seam = s.seam ∧
    (State.tellAll s slot seq whos).ic = s.ic ∧ (State.tellAll s slot seq whos).dict = s.dict ∧
    (State.tellAll s slot seq whos).host = s.host ∧ (State.tellAll s slot seq whos).repair = s.repair ∧
    (State.tellAll s slot seq whos).wells = s.wells ∧ (State.tellAll s slot seq whos).cisterns = s.cisterns ∧
    (State.tellAll s slot seq whos).wins = s.wins ∧ (State.tellAll s slot seq whos).ctls = s.ctls ∧
    (State.tellAll s slot seq whos).fab = s.fab ∧ (State.tellAll s slot seq whos).trust = s.trust ∧
    (State.tellAll s slot seq whos).meter = s.meter ∧ (State.tellAll s slot seq whos).saves = s.saves ∧
    (State.tellAll s slot seq whos).chip = s.chip ∧ (State.tellAll s slot seq whos).power = s.power := by
  simp [State.tellAll]

@[simp] theorem reportInval_frame (s : State) (slot seq : Nat) (who : Agent) :
    (State.reportInval s slot seq who).pending = s.pending ∧ (State.reportInval s slot seq who).fresh = s.fresh ∧
    (State.reportInval s slot seq who).outbox = s.outbox ∧ (State.reportInval s slot seq who).tiles = s.tiles ∧
    (State.reportInval s slot seq who).seam = s.seam ∧ (State.reportInval s slot seq who).ic = s.ic ∧
    (State.reportInval s slot seq who).dict = s.dict ∧ (State.reportInval s slot seq who).host = s.host ∧
    (State.reportInval s slot seq who).repair = s.repair ∧ (State.reportInval s slot seq who).wells = s.wells ∧
    (State.reportInval s slot seq who).cisterns = s.cisterns ∧ (State.reportInval s slot seq who).wins = s.wins ∧
    (State.reportInval s slot seq who).ctls = s.ctls ∧ (State.reportInval s slot seq who).fab = s.fab ∧
    (State.reportInval s slot seq who).trust = s.trust ∧ (State.reportInval s slot seq who).meter = s.meter ∧
    (State.reportInval s slot seq who).saves = s.saves ∧ (State.reportInval s slot seq who).chip = s.chip ∧
    (State.reportInval s slot seq who).power = s.power := by
  unfold State.reportInval; split <;> simp

@[simp] theorem hear_frame (s : State) (f : Flit) :
    (State.hear s f).pending = s.pending ∧ (State.hear s f).fresh = s.fresh ∧ (State.hear s f).outbox = s.outbox ∧
    (State.hear s f).tiles = s.tiles ∧ (State.hear s f).seam = s.seam ∧ (State.hear s f).ic = s.ic ∧
    (State.hear s f).dict = s.dict ∧ (State.hear s f).host = s.host ∧ (State.hear s f).repair = s.repair ∧
    (State.hear s f).wells = s.wells ∧ (State.hear s f).cisterns = s.cisterns ∧ (State.hear s f).wins = s.wins ∧
    (State.hear s f).ctls = s.ctls ∧ (State.hear s f).fab = s.fab ∧ (State.hear s f).trust = s.trust ∧
    (State.hear s f).meter = s.meter ∧ (State.hear s f).saves = s.saves ∧ (State.hear s f).chip = s.chip ∧
    (State.hear s f).power = s.power ∧ (State.hear s f).mesh = s.mesh := by
  unfold State.hear; split <;> simp

@[simp] theorem tick_frame (s : State) :
    (State.tick s).pending = s.pending ∧ (State.tick s).fresh = s.fresh ∧ (State.tick s).outbox = s.outbox ∧
    (State.tick s).tiles = s.tiles ∧ (State.tick s).dens = s.dens ∧ (State.tick s).seam = s.seam ∧ (State.tick s).ic = s.ic ∧
    (State.tick s).dict = s.dict ∧ (State.tick s).host = s.host ∧ (State.tick s).repair = s.repair ∧
    (State.tick s).wells = s.wells ∧ (State.tick s).cisterns = s.cisterns ∧ (State.tick s).wins = s.wins ∧
    (State.tick s).ctls = s.ctls ∧ (State.tick s).fab = s.fab ∧ (State.tick s).trust = s.trust ∧ (State.tick s).meter = s.meter ∧
    (State.tick s).saves = s.saves ∧ (State.tick s).chip = s.chip ∧ (State.tick s).power = s.power := by
  exact ⟨rfl, rfl, rfl, rfl, rfl, rfl, rfl, rfl, rfl, rfl, rfl, rfl, rfl, rfl, rfl, rfl, rfl, rfl, rfl, rfl⟩

@[simp] theorem slipAt_frame (s : State) (slot t cause tag : Nat) :
    (slipAt s slot t cause tag).pending = s.pending ∧ (slipAt s slot t cause tag).fresh = s.fresh ∧
    (slipAt s slot t cause tag).outbox = s.outbox ∧ (slipAt s slot t cause tag).seam = s.seam ∧
    (slipAt s slot t cause tag).ic = s.ic ∧ (slipAt s slot t cause tag).dict = s.dict ∧ (slipAt s slot t cause tag).host = s.host ∧
    (slipAt s slot t cause tag).repair = s.repair ∧ (slipAt s slot t cause tag).wells = s.wells ∧
    (slipAt s slot t cause tag).cisterns = s.cisterns ∧ (slipAt s slot t cause tag).wins = s.wins ∧
    (slipAt s slot t cause tag).ctls = s.ctls ∧ (slipAt s slot t cause tag).fab = s.fab ∧
    (slipAt s slot t cause tag).trust = s.trust ∧ (slipAt s slot t cause tag).meter = s.meter ∧
    (slipAt s slot t cause tag).saves = s.saves ∧ (slipAt s slot t cause tag).chip = s.chip ∧
    (slipAt s slot t cause tag).power = s.power ∧ (slipAt s slot t cause tag).mesh = s.mesh := by
  simp [slipAt]

@[simp] theorem popSeam_frame (s : State) (t : Nat) (pop : Option (Nat × SeamSlot)) (u : List Upset) :
    (State.popSeam s t pop u).pending = s.pending ∧ (State.popSeam s t pop u).fresh = s.fresh ∧
    (State.popSeam s t pop u).outbox = s.outbox ∧ (State.popSeam s t pop u).dens = s.dens ∧ (State.popSeam s t pop u).ic = s.ic ∧
    (State.popSeam s t pop u).dict = s.dict ∧ (State.popSeam s t pop u).host = s.host ∧
    (State.popSeam s t pop u).repair = s.repair ∧ (State.popSeam s t pop u).wells = s.wells ∧
    (State.popSeam s t pop u).cisterns = s.cisterns ∧ (State.popSeam s t pop u).wins = s.wins ∧
    (State.popSeam s t pop u).ctls = s.ctls ∧ (State.popSeam s t pop u).fab = s.fab ∧ (State.popSeam s t pop u).trust = s.trust ∧
    (State.popSeam s t pop u).meter = s.meter ∧ (State.popSeam s t pop u).saves = s.saves ∧
    (State.popSeam s t pop u).chip = s.chip ∧ (State.popSeam s t pop u).power = s.power ∧ (State.popSeam s t pop u).mesh = s.mesh := by
  unfold State.popSeam; split <;> simp

@[simp] theorem applyStep1_frame (s : State) (t : Nat) (halt : Bool) (pop : Option (Nat × SeamSlot)) (u : List Upset) :
    (applyStep1 s t halt pop u).pending = s.pending ∧ (applyStep1 s t halt pop u).fresh = s.fresh ∧
    (applyStep1 s t halt pop u).outbox = s.outbox ∧ (applyStep1 s t halt pop u).dens = s.dens ∧
    (applyStep1 s t halt pop u).ic = s.ic ∧ (applyStep1 s t halt pop u).dict = s.dict ∧ (applyStep1 s t halt pop u).host = s.host ∧
    (applyStep1 s t halt pop u).repair = s.repair ∧ (applyStep1 s t halt pop u).wells = s.wells ∧
    (applyStep1 s t halt pop u).cisterns = s.cisterns ∧ (applyStep1 s t halt pop u).wins = s.wins ∧
    (applyStep1 s t halt pop u).ctls = s.ctls ∧ (applyStep1 s t halt pop u).fab = s.fab ∧
    (applyStep1 s t halt pop u).trust = s.trust ∧ (applyStep1 s t halt pop u).meter = s.meter ∧
    (applyStep1 s t halt pop u).saves = s.saves ∧ (applyStep1 s t halt pop u).chip = s.chip ∧
    (applyStep1 s t halt pop u).power = s.power ∧ (applyStep1 s t halt pop u).mesh = s.mesh := by
  simp [applyStep1]

@[simp] theorem reportError_frame (s : State) (slot t : Nat) (code : Code) (src tag : Nat) :
    (State.reportError s slot t code src tag).pending = s.pending ∧ (State.reportError s slot t code src tag).fresh = s.fresh ∧
    (State.reportError s slot t code src tag).outbox = s.outbox ∧ (State.reportError s slot t code src tag).seam = s.seam ∧
    (State.reportError s slot t code src tag).dict = s.dict ∧ (State.reportError s slot t code src tag).wells = s.wells ∧
    (State.reportError s slot t code src tag).cisterns = s.cisterns ∧ (State.reportError s slot t code src tag).wins = s.wins ∧
    (State.reportError s slot t code src tag).ctls = s.ctls ∧ (State.reportError s slot t code src tag).fab = s.fab ∧
    (State.reportError s slot t code src tag).trust = s.trust ∧ (State.reportError s slot t code src tag).meter = s.meter ∧
    (State.reportError s slot t code src tag).saves = s.saves ∧ (State.reportError s slot t code src tag).chip = s.chip ∧
    (State.reportError s slot t code src tag).power = s.power ∧ (State.reportError s slot t code src tag).mesh = s.mesh := by
  unfold State.reportError; dsimp only; (repeat' split) <;> simp

@[simp] theorem settleTile_frame (s : State) (slot t : Nat) :
    (State.settleTile s slot t).pending = s.pending ∧ (State.settleTile s slot t).fresh = s.fresh ∧
    (State.settleTile s slot t).outbox = s.outbox ∧ (State.settleTile s slot t).seam = s.seam ∧
    (State.settleTile s slot t).dict = s.dict ∧ (State.settleTile s slot t).wells = s.wells ∧
    (State.settleTile s slot t).cisterns = s.cisterns ∧ (State.settleTile s slot t).wins = s.wins ∧
    (State.settleTile s slot t).ctls = s.ctls ∧ (State.settleTile s slot t).fab = s.fab ∧
    (State.settleTile s slot t).trust = s.trust ∧ (State.settleTile s slot t).meter = s.meter ∧
    (State.settleTile s slot t).saves = s.saves ∧ (State.settleTile s slot t).chip = s.chip ∧
    (State.settleTile s slot t).power = s.power ∧ (State.settleTile s slot t).mesh = s.mesh := by
  unfold State.settleTile; dsimp only; (repeat' split) <;> simp

@[simp] theorem settleAcross_frame (s : State) (slot t : Nat) :
    (State.settleAcross s slot t).pending = s.pending ∧ (State.settleAcross s slot t).fresh = s.fresh ∧
    (State.settleAcross s slot t).outbox = s.outbox ∧ (State.settleAcross s slot t).seam = s.seam ∧
    (State.settleAcross s slot t).dict = s.dict ∧ (State.settleAcross s slot t).wells = s.wells ∧
    (State.settleAcross s slot t).cisterns = s.cisterns ∧ (State.settleAcross s slot t).wins = s.wins ∧
    (State.settleAcross s slot t).ctls = s.ctls ∧ (State.settleAcross s slot t).fab = s.fab ∧
    (State.settleAcross s slot t).trust = s.trust ∧ (State.settleAcross s slot t).meter = s.meter ∧
    (State.settleAcross s slot t).saves = s.saves ∧ (State.settleAcross s slot t).chip = s.chip ∧
    (State.settleAcross s slot t).power = s.power ∧ (State.settleAcross s slot t).mesh = s.mesh := by
  unfold State.settleAcross; dsimp only; (repeat' split) <;> simp

@[simp] theorem land_frame (s : State) (slot t : Nat) (held : List (Reg × BitVec 512)) :
    (State.land s slot t held).pending = s.pending ∧ (State.land s slot t held).fresh = s.fresh ∧
    (State.land s slot t held).outbox = s.outbox ∧ (State.land s slot t held).seam = s.seam ∧ (State.land s slot t held).ic = s.ic ∧
    (State.land s slot t held).dict = s.dict ∧ (State.land s slot t held).host = s.host ∧
    (State.land s slot t held).repair = s.repair ∧ (State.land s slot t held).wells = s.wells ∧
    (State.land s slot t held).cisterns = s.cisterns ∧ (State.land s slot t held).wins = s.wins ∧
    (State.land s slot t held).ctls = s.ctls ∧ (State.land s slot t held).fab = s.fab ∧ (State.land s slot t held).trust = s.trust ∧
    (State.land s slot t held).meter = s.meter ∧ (State.land s slot t held).saves = s.saves ∧
    (State.land s slot t held).chip = s.chip ∧ (State.land s slot t held).power = s.power ∧ (State.land s slot t held).mesh = s.mesh := by
  unfold State.land; dsimp only; split <;> simp

@[simp] theorem slotEffect_frame (x : Snap) (b : Bundle) (s : State) :
    (slotEffect x b s).pending = s.pending ∧ (slotEffect x b s).seam = s.seam ∧ (slotEffect x b s).host = s.host ∧
    (slotEffect x b s).repair = s.repair ∧ (slotEffect x b s).wells = s.wells ∧ (slotEffect x b s).cisterns = s.cisterns ∧
    (slotEffect x b s).wins = s.wins ∧ (slotEffect x b s).ctls = s.ctls ∧ (slotEffect x b s).trust = s.trust ∧
    (slotEffect x b s).meter = s.meter ∧ (slotEffect x b s).saves = s.saves ∧ (slotEffect x b s).chip = s.chip ∧
    (slotEffect x b s).power = s.power := by
  unfold slotEffect; (repeat' split) <;> simp

@[simp] theorem reportHalt_frame (s : State) (slot t : Nat) :
    (State.reportHalt s slot t).pending = s.pending ∧ (State.reportHalt s slot t).fresh = s.fresh ∧
    (State.reportHalt s slot t).outbox = s.outbox ∧ (State.reportHalt s slot t).tiles = s.tiles ∧
    (State.reportHalt s slot t).seam = s.seam ∧ (State.reportHalt s slot t).ic = s.ic ∧ (State.reportHalt s slot t).dict = s.dict ∧
    (State.reportHalt s slot t).host = s.host ∧ (State.reportHalt s slot t).repair = s.repair ∧
    (State.reportHalt s slot t).wells = s.wells ∧ (State.reportHalt s slot t).cisterns = s.cisterns ∧
    (State.reportHalt s slot t).wins = s.wins ∧ (State.reportHalt s slot t).ctls = s.ctls ∧
    (State.reportHalt s slot t).fab = s.fab ∧ (State.reportHalt s slot t).trust = s.trust ∧
    (State.reportHalt s slot t).meter = s.meter ∧ (State.reportHalt s slot t).saves = s.saves ∧
    (State.reportHalt s slot t).chip = s.chip ∧ (State.reportHalt s slot t).power = s.power := by
  unfold State.reportHalt; split <;> simp

@[simp] theorem endBundle_frame (s : State) (slot t : Nat) :
    (State.endBundle s slot t).pending = s.pending ∧ (State.endBundle s slot t).fresh = s.fresh ∧
    (State.endBundle s slot t).outbox = s.outbox ∧ (State.endBundle s slot t).dict = s.dict ∧
    (State.endBundle s slot t).wells = s.wells ∧ (State.endBundle s slot t).cisterns = s.cisterns ∧
    (State.endBundle s slot t).wins = s.wins ∧ (State.endBundle s slot t).ctls = s.ctls ∧ (State.endBundle s slot t).fab = s.fab ∧
    (State.endBundle s slot t).trust = s.trust ∧ (State.endBundle s slot t).meter = s.meter ∧
    (State.endBundle s slot t).saves = s.saves ∧ (State.endBundle s slot t).chip = s.chip ∧
    (State.endBundle s slot t).power = s.power := by
  unfold State.endBundle; dsimp only; (repeat' split) <;> simp

@[simp] theorem corrected_frame (s : State) (u : Upset) (el : Nat) :
    (State.corrected s u el).pending = s.pending ∧ (State.corrected s u el).fresh = s.fresh ∧
    (State.corrected s u el).outbox = s.outbox ∧ (State.corrected s u el).tiles = s.tiles ∧ (State.corrected s u el).dens = s.dens ∧
    (State.corrected s u el).seam = s.seam ∧ (State.corrected s u el).ic = s.ic ∧ (State.corrected s u el).host = s.host ∧
    (State.corrected s u el).repair = s.repair ∧ (State.corrected s u el).wells = s.wells ∧
    (State.corrected s u el).cisterns = s.cisterns ∧ (State.corrected s u el).wins = s.wins ∧
    (State.corrected s u el).ctls = s.ctls ∧ (State.corrected s u el).fab = s.fab ∧ (State.corrected s u el).trust = s.trust ∧
    (State.corrected s u el).meter = s.meter ∧ (State.corrected s u el).saves = s.saves ∧ (State.corrected s u el).chip = s.chip ∧
    (State.corrected s u el).power = s.power ∧ (State.corrected s u el).mesh = s.mesh := by
  unfold State.corrected; split <;> simp

@[simp] theorem uncorrectable_frame (s : State) (t : Nat) (el array : Nat) (code : Code) (i : FaultInfo) :
    (State.uncorrectable s t el array code i).pending = s.pending ∧ (State.uncorrectable s t el array code i).fresh = s.fresh ∧
    (State.uncorrectable s t el array code i).outbox = s.outbox ∧ (State.uncorrectable s t el array code i).seam = s.seam ∧
    (State.uncorrectable s t el array code i).wells = s.wells ∧ (State.uncorrectable s t el array code i).cisterns = s.cisterns ∧
    (State.uncorrectable s t el array code i).wins = s.wins ∧ (State.uncorrectable s t el array code i).ctls = s.ctls ∧
    (State.uncorrectable s t el array code i).fab = s.fab ∧ (State.uncorrectable s t el array code i).trust = s.trust ∧
    (State.uncorrectable s t el array code i).meter = s.meter ∧ (State.uncorrectable s t el array code i).saves = s.saves ∧
    (State.uncorrectable s t el array code i).chip = s.chip ∧ (State.uncorrectable s t el array code i).power = s.power ∧
    (State.uncorrectable s t el array code i).mesh = s.mesh := by
  unfold State.uncorrectable; dsimp only; split <;> simp

@[simp] theorem setTag_frame (s : State) (t tag : Nat) (op : Option TagOp) :
    (State.setTag s t tag op).pending = s.pending ∧ (State.setTag s t tag op).fresh = s.fresh ∧
    (State.setTag s t tag op).outbox = s.outbox ∧ (State.setTag s t tag op).dens = s.dens ∧
    (State.setTag s t tag op).seam = s.seam ∧ (State.setTag s t tag op).ic = s.ic ∧ (State.setTag s t tag op).dict = s.dict ∧
    (State.setTag s t tag op).host = s.host ∧ (State.setTag s t tag op).repair = s.repair ∧
    (State.setTag s t tag op).wells = s.wells ∧ (State.setTag s t tag op).cisterns = s.cisterns ∧
    (State.setTag s t tag op).wins = s.wins ∧ (State.setTag s t tag op).ctls = s.ctls ∧ (State.setTag s t tag op).fab = s.fab ∧
    (State.setTag s t tag op).trust = s.trust ∧ (State.setTag s t tag op).meter = s.meter ∧
    (State.setTag s t tag op).saves = s.saves ∧ (State.setTag s t tag op).chip = s.chip ∧
    (State.setTag s t tag op).power = s.power ∧ (State.setTag s t tag op).mesh = s.mesh := by
  exact ⟨rfl, rfl, rfl, rfl, rfl, rfl, rfl, rfl, rfl, rfl, rfl, rfl, rfl, rfl, rfl, rfl, rfl, rfl, rfl, rfl⟩

@[simp] theorem modTag_frame (s : State) (t tag : Nat) (f : TagOp → TagOp) :
    (State.modTag s t tag f).pending = s.pending ∧ (State.modTag s t tag f).fresh = s.fresh ∧
    (State.modTag s t tag f).outbox = s.outbox ∧ (State.modTag s t tag f).dens = s.dens ∧ (State.modTag s t tag f).seam = s.seam ∧
    (State.modTag s t tag f).ic = s.ic ∧ (State.modTag s t tag f).dict = s.dict ∧ (State.modTag s t tag f).host = s.host ∧
    (State.modTag s t tag f).repair = s.repair ∧ (State.modTag s t tag f).wells = s.wells ∧
    (State.modTag s t tag f).cisterns = s.cisterns ∧ (State.modTag s t tag f).wins = s.wins ∧
    (State.modTag s t tag f).ctls = s.ctls ∧ (State.modTag s t tag f).fab = s.fab ∧ (State.modTag s t tag f).trust = s.trust ∧
    (State.modTag s t tag f).meter = s.meter ∧ (State.modTag s t tag f).saves = s.saves ∧ (State.modTag s t tag f).chip = s.chip ∧
    (State.modTag s t tag f).power = s.power ∧ (State.modTag s t tag f).mesh = s.mesh := by
  exact ⟨rfl, rfl, rfl, rfl, rfl, rfl, rfl, rfl, rfl, rfl, rfl, rfl, rfl, rfl, rfl, rfl, rfl, rfl, rfl, rfl⟩

@[simp] theorem pumpError_frame (s : State) (t tag : Nat) (c : Code) (loc : Nat) :
    (State.pumpError s t tag c loc).pending = s.pending ∧ (State.pumpError s t tag c loc).fresh = s.fresh ∧
    (State.pumpError s t tag c loc).outbox = s.outbox ∧ (State.pumpError s t tag c loc).dens = s.dens ∧
    (State.pumpError s t tag c loc).seam = s.seam ∧ (State.pumpError s t tag c loc).ic = s.ic ∧
    (State.pumpError s t tag c loc).dict = s.dict ∧ (State.pumpError s t tag c loc).host = s.host ∧
    (State.pumpError s t tag c loc).repair = s.repair ∧ (State.pumpError s t tag c loc).wells = s.wells ∧
    (State.pumpError s t tag c loc).cisterns = s.cisterns ∧ (State.pumpError s t tag c loc).wins = s.wins ∧
    (State.pumpError s t tag c loc).ctls = s.ctls ∧ (State.pumpError s t tag c loc).fab = s.fab ∧
    (State.pumpError s t tag c loc).trust = s.trust ∧ (State.pumpError s t tag c loc).meter = s.meter ∧
    (State.pumpError s t tag c loc).saves = s.saves ∧ (State.pumpError s t tag c loc).chip = s.chip ∧
    (State.pumpError s t tag c loc).power = s.power ∧ (State.pumpError s t tag c loc).mesh = s.mesh := by
  exact ⟨rfl, rfl, rfl, rfl, rfl, rfl, rfl, rfl, rfl, rfl, rfl, rfl, rfl, rfl, rfl, rfl, rfl, rfl, rfl, rfl⟩

@[simp] theorem atsAsk_frame (s : State) (pasid page : Nat) (who : Agent) (tag : Nat) :
    (State.atsAsk s pasid page who tag).pending = s.pending ∧ (State.atsAsk s pasid page who tag).fresh = s.fresh ∧
    (State.atsAsk s pasid page who tag).tiles = s.tiles ∧ (State.atsAsk s pasid page who tag).dens = s.dens ∧
    (State.atsAsk s pasid page who tag).seam = s.seam ∧ (State.atsAsk s pasid page who tag).ic = s.ic ∧
    (State.atsAsk s pasid page who tag).repair = s.repair ∧ (State.atsAsk s pasid page who tag).wells = s.wells ∧
    (State.atsAsk s pasid page who tag).cisterns = s.cisterns ∧ (State.atsAsk s pasid page who tag).wins = s.wins ∧
    (State.atsAsk s pasid page who tag).ctls = s.ctls ∧ (State.atsAsk s pasid page who tag).fab = s.fab ∧
    (State.atsAsk s pasid page who tag).trust = s.trust ∧ (State.atsAsk s pasid page who tag).meter = s.meter ∧
    (State.atsAsk s pasid page who tag).saves = s.saves ∧ (State.atsAsk s pasid page who tag).chip = s.chip ∧
    (State.atsAsk s pasid page who tag).power = s.power ∧ (State.atsAsk s pasid page who tag).mesh = s.mesh := by
  unfold State.atsAsk; (repeat' split) <;> simp

@[simp] theorem putSlot_frame (s : State) (t : Nat) (own : Bool) (z : LineSlot) :
    (State.putSlot s t own z).pending = s.pending ∧ (State.putSlot s t own z).fresh = s.fresh ∧
    (State.putSlot s t own z).outbox = s.outbox ∧ (State.putSlot s t own z).dens = s.dens ∧
    (State.putSlot s t own z).seam = s.seam ∧ (State.putSlot s t own z).ic = s.ic ∧ (State.putSlot s t own z).dict = s.dict ∧
    (State.putSlot s t own z).host = s.host ∧ (State.putSlot s t own z).repair = s.repair ∧
    (State.putSlot s t own z).wells = s.wells ∧ (State.putSlot s t own z).cisterns = s.cisterns ∧
    (State.putSlot s t own z).wins = s.wins ∧ (State.putSlot s t own z).ctls = s.ctls ∧ (State.putSlot s t own z).fab = s.fab ∧
    (State.putSlot s t own z).trust = s.trust ∧ (State.putSlot s t own z).meter = s.meter ∧
    (State.putSlot s t own z).saves = s.saves ∧ (State.putSlot s t own z).chip = s.chip ∧
    (State.putSlot s t own z).power = s.power ∧ (State.putSlot s t own z).mesh = s.mesh := by
  exact ⟨rfl, rfl, rfl, rfl, rfl, rfl, rfl, rfl, rfl, rfl, rfl, rfl, rfl, rfl, rfl, rfl, rfl, rfl, rfl, rfl⟩

@[simp] theorem windowLine_frame (s : State) (slot t tag : Nat) (loc : BitVec 64) (k right : LineKind) (w off size : Nat) (z : Option LineSend) (m : Msg) :
    (State.windowLine s slot t tag loc k right w off size z m).pending = s.pending ∧
    (State.windowLine s slot t tag loc k right w off size z m).dens = s.dens ∧
    (State.windowLine s slot t tag loc k right w off size z m).seam = s.seam ∧
    (State.windowLine s slot t tag loc k right w off size z m).ic = s.ic ∧
    (State.windowLine s slot t tag loc k right w off size z m).dict = s.dict ∧
    (State.windowLine s slot t tag loc k right w off size z m).host = s.host ∧
    (State.windowLine s slot t tag loc k right w off size z m).repair = s.repair ∧
    (State.windowLine s slot t tag loc k right w off size z m).wells = s.wells ∧
    (State.windowLine s slot t tag loc k right w off size z m).cisterns = s.cisterns ∧
    (State.windowLine s slot t tag loc k right w off size z m).wins = s.wins ∧
    (State.windowLine s slot t tag loc k right w off size z m).ctls = s.ctls ∧
    (State.windowLine s slot t tag loc k right w off size z m).trust = s.trust ∧
    (State.windowLine s slot t tag loc k right w off size z m).meter = s.meter ∧
    (State.windowLine s slot t tag loc k right w off size z m).saves = s.saves ∧
    (State.windowLine s slot t tag loc k right w off size z m).chip = s.chip ∧
    (State.windowLine s slot t tag loc k right w off size z m).power = s.power := by
  unfold State.windowLine; split <;> first | (simp; done) | (split <;> first | (simp; done) | (split <;> first | (simp; done) | simp [startTx_frame ‹_›]))

@[simp] theorem hostLine_frame (s : State) (slot t tag : Nat) (loc : BitVec 64) (k : LineKind) (a : Nat) (z : Option LineSend) :
    (State.hostLine s slot t tag loc k a z).pending = s.pending ∧ (State.hostLine s slot t tag loc k a z).fresh = s.fresh ∧
    (State.hostLine s slot t tag loc k a z).dens = s.dens ∧ (State.hostLine s slot t tag loc k a z).seam = s.seam ∧
    (State.hostLine s slot t tag loc k a z).ic = s.ic ∧ (State.hostLine s slot t tag loc k a z).repair = s.repair ∧
    (State.hostLine s slot t tag loc k a z).wells = s.wells ∧ (State.hostLine s slot t tag loc k a z).cisterns = s.cisterns ∧
    (State.hostLine s slot t tag loc k a z).wins = s.wins ∧ (State.hostLine s slot t tag loc k a z).ctls = s.ctls ∧
    (State.hostLine s slot t tag loc k a z).fab = s.fab ∧ (State.hostLine s slot t tag loc k a z).trust = s.trust ∧
    (State.hostLine s slot t tag loc k a z).meter = s.meter ∧ (State.hostLine s slot t tag loc k a z).saves = s.saves ∧
    (State.hostLine s slot t tag loc k a z).chip = s.chip ∧ (State.hostLine s slot t tag loc k a z).power = s.power := by
  unfold State.hostLine; dsimp only; (repeat' split) <;> simp

@[simp] theorem chipLine_frame (s : State) (slot t tag : Nat) (loc : BitVec 64) (k : LineKind) (own : Bool) (x : Target) :
    (State.chipLine s slot t tag loc k own x).pending = s.pending ∧ (State.chipLine s slot t tag loc k own x).fresh = s.fresh ∧
    (State.chipLine s slot t tag loc k own x).outbox = s.outbox ∧ (State.chipLine s slot t tag loc k own x).dens = s.dens ∧
    (State.chipLine s slot t tag loc k own x).seam = s.seam ∧ (State.chipLine s slot t tag loc k own x).ic = s.ic ∧
    (State.chipLine s slot t tag loc k own x).dict = s.dict ∧ (State.chipLine s slot t tag loc k own x).host = s.host ∧
    (State.chipLine s slot t tag loc k own x).repair = s.repair ∧ (State.chipLine s slot t tag loc k own x).wells = s.wells ∧
    (State.chipLine s slot t tag loc k own x).cisterns = s.cisterns ∧ (State.chipLine s slot t tag loc k own x).wins = s.wins ∧
    (State.chipLine s slot t tag loc k own x).ctls = s.ctls ∧ (State.chipLine s slot t tag loc k own x).fab = s.fab ∧
    (State.chipLine s slot t tag loc k own x).trust = s.trust ∧ (State.chipLine s slot t tag loc k own x).meter = s.meter ∧
    (State.chipLine s slot t tag loc k own x).saves = s.saves ∧ (State.chipLine s slot t tag loc k own x).chip = s.chip ∧
    (State.chipLine s slot t tag loc k own x).power = s.power := by
  exact ⟨rfl, rfl, rfl, rfl, rfl, rfl, rfl, rfl, rfl, rfl, rfl, rfl, rfl, rfl, rfl, rfl, rfl, rfl, rfl⟩

@[simp] theorem popSend_frame (s : State) (t tag n : Nat) :
    (State.popSend s t tag n).pending = s.pending ∧ (State.popSend s t tag n).fresh = s.fresh ∧
    (State.popSend s t tag n).outbox = s.outbox ∧ (State.popSend s t tag n).dens = s.dens ∧
    (State.popSend s t tag n).seam = s.seam ∧ (State.popSend s t tag n).ic = s.ic ∧ (State.popSend s t tag n).dict = s.dict ∧
    (State.popSend s t tag n).host = s.host ∧ (State.popSend s t tag n).repair = s.repair ∧
    (State.popSend s t tag n).wells = s.wells ∧ (State.popSend s t tag n).cisterns = s.cisterns ∧
    (State.popSend s t tag n).wins = s.wins ∧ (State.popSend s t tag n).ctls = s.ctls ∧ (State.popSend s t tag n).fab = s.fab ∧
    (State.popSend s t tag n).trust = s.trust ∧ (State.popSend s t tag n).meter = s.meter ∧
    (State.popSend s t tag n).saves = s.saves ∧ (State.popSend s t tag n).chip = s.chip ∧
    (State.popSend s t tag n).power = s.power ∧ (State.popSend s t tag n).mesh = s.mesh := by
  exact ⟨rfl, rfl, rfl, rfl, rfl, rfl, rfl, rfl, rfl, rfl, rfl, rfl, rfl, rfl, rfl, rfl, rfl, rfl, rfl, rfl⟩

@[simp] theorem settleAts_frame (s : State) :
    (State.settleAts s).pending = s.pending ∧ (State.settleAts s).fresh = s.fresh ∧ (State.settleAts s).tiles = s.tiles ∧
    (State.settleAts s).dens = s.dens ∧ (State.settleAts s).seam = s.seam ∧ (State.settleAts s).ic = s.ic ∧
    (State.settleAts s).dict = s.dict ∧ (State.settleAts s).repair = s.repair ∧ (State.settleAts s).wells = s.wells ∧
    (State.settleAts s).cisterns = s.cisterns ∧ (State.settleAts s).wins = s.wins ∧ (State.settleAts s).ctls = s.ctls ∧
    (State.settleAts s).fab = s.fab ∧ (State.settleAts s).trust = s.trust ∧ (State.settleAts s).meter = s.meter ∧
    (State.settleAts s).saves = s.saves ∧ (State.settleAts s).chip = s.chip ∧ (State.settleAts s).power = s.power ∧
    (State.settleAts s).mesh = s.mesh := by
  unfold State.settleAts; dsimp only; split <;> simp

@[simp] theorem answers_frame (s : State) (slot t tag : Nat) (z : LineSlot) (data : List Byte) :
    (State.answers s slot t tag z data).pending = s.pending ∧ (State.answers s slot t tag z data).fresh = s.fresh ∧
    (State.answers s slot t tag z data).outbox = s.outbox ∧ (State.answers s slot t tag z data).tiles = s.tiles ∧
    (State.answers s slot t tag z data).dens = s.dens ∧ (State.answers s slot t tag z data).seam = s.seam ∧
    (State.answers s slot t tag z data).ic = s.ic ∧ (State.answers s slot t tag z data).dict = s.dict ∧
    (State.answers s slot t tag z data).host = s.host ∧ (State.answers s slot t tag z data).repair = s.repair ∧
    (State.answers s slot t tag z data).wells = s.wells ∧ (State.answers s slot t tag z data).cisterns = s.cisterns ∧
    (State.answers s slot t tag z data).wins = s.wins ∧ (State.answers s slot t tag z data).ctls = s.ctls ∧
    (State.answers s slot t tag z data).fab = s.fab ∧ (State.answers s slot t tag z data).trust = s.trust ∧
    (State.answers s slot t tag z data).meter = s.meter ∧ (State.answers s slot t tag z data).saves = s.saves ∧
    (State.answers s slot t tag z data).chip = s.chip ∧ (State.answers s slot t tag z data).power = s.power := by
  exact ⟨rfl, rfl, rfl, rfl, rfl, rfl, rfl, rfl, rfl, rfl, rfl, rfl, rfl, rfl, rfl, rfl, rfl, rfl, rfl, rfl⟩

@[simp] theorem completeTag_frame (s : State) (t tag : Nat) (c : Code) (loc : Nat) :
    (State.completeTag s t tag c loc).pending = s.pending ∧ (State.completeTag s t tag c loc).fresh = s.fresh ∧
    (State.completeTag s t tag c loc).outbox = s.outbox ∧ (State.completeTag s t tag c loc).seam = s.seam ∧
    (State.completeTag s t tag c loc).dict = s.dict ∧ (State.completeTag s t tag c loc).wells = s.wells ∧
    (State.completeTag s t tag c loc).cisterns = s.cisterns ∧ (State.completeTag s t tag c loc).wins = s.wins ∧
    (State.completeTag s t tag c loc).ctls = s.ctls ∧ (State.completeTag s t tag c loc).fab = s.fab ∧
    (State.completeTag s t tag c loc).trust = s.trust ∧ (State.completeTag s t tag c loc).meter = s.meter ∧
    (State.completeTag s t tag c loc).saves = s.saves ∧ (State.completeTag s t tag c loc).chip = s.chip ∧
    (State.completeTag s t tag c loc).power = s.power ∧ (State.completeTag s t tag c loc).mesh = s.mesh := by
  unfold State.completeTag; dsimp only; split <;> simp

@[simp] theorem ringHolds_frame (s : State) (q : Req) (v : List Byte) :
    (State.ringHolds s q v).pending = s.pending ∧ (State.ringHolds s q v).fresh = s.fresh ∧
    (State.ringHolds s q v).outbox = s.outbox ∧ (State.ringHolds s q v).tiles = s.tiles ∧ (State.ringHolds s q v).dens = s.dens ∧
    (State.ringHolds s q v).seam = s.seam ∧ (State.ringHolds s q v).ic = s.ic ∧ (State.ringHolds s q v).host = s.host ∧
    (State.ringHolds s q v).repair = s.repair ∧ (State.ringHolds s q v).wells = s.wells ∧
    (State.ringHolds s q v).cisterns = s.cisterns ∧ (State.ringHolds s q v).wins = s.wins ∧ (State.ringHolds s q v).ctls = s.ctls ∧
    (State.ringHolds s q v).fab = s.fab ∧ (State.ringHolds s q v).trust = s.trust ∧ (State.ringHolds s q v).meter = s.meter ∧
    (State.ringHolds s q v).saves = s.saves ∧ (State.ringHolds s q v).chip = s.chip ∧ (State.ringHolds s q v).power = s.power ∧
    (State.ringHolds s q v).mesh = s.mesh := by
  unfold State.ringHolds; (repeat' split) <;> simp

@[simp] theorem takeReq_frame (s : State) (q : Req) :
    (State.takeReq s q).pending = s.pending ∧ (State.takeReq s q).fresh = s.fresh ∧ (State.takeReq s q).outbox = s.outbox ∧
    (State.takeReq s q).tiles = s.tiles ∧ (State.takeReq s q).dens = s.dens ∧ (State.takeReq s q).seam = s.seam ∧
    (State.takeReq s q).ic = s.ic ∧ (State.takeReq s q).host = s.host ∧ (State.takeReq s q).repair = s.repair ∧
    (State.takeReq s q).wells = s.wells ∧ (State.takeReq s q).cisterns = s.cisterns ∧ (State.takeReq s q).wins = s.wins ∧
    (State.takeReq s q).ctls = s.ctls ∧ (State.takeReq s q).fab = s.fab ∧ (State.takeReq s q).trust = s.trust ∧
    (State.takeReq s q).meter = s.meter ∧ (State.takeReq s q).saves = s.saves ∧ (State.takeReq s q).chip = s.chip ∧
    (State.takeReq s q).power = s.power := by
  unfold State.takeReq; split <;> simp

@[simp] theorem sayFrame_frame (s : State) (dst : Option MeshEnd) (tag : Nat) :
    (State.sayFrame s dst tag).pending = s.pending ∧ (State.sayFrame s dst tag).fresh = s.fresh ∧
    (State.sayFrame s dst tag).outbox = s.outbox ∧ (State.sayFrame s dst tag).tiles = s.tiles ∧
    (State.sayFrame s dst tag).dens = s.dens ∧ (State.sayFrame s dst tag).seam = s.seam ∧ (State.sayFrame s dst tag).ic = s.ic ∧
    (State.sayFrame s dst tag).dict = s.dict ∧ (State.sayFrame s dst tag).host = s.host ∧
    (State.sayFrame s dst tag).repair = s.repair ∧ (State.sayFrame s dst tag).wells = s.wells ∧
    (State.sayFrame s dst tag).cisterns = s.cisterns ∧ (State.sayFrame s dst tag).wins = s.wins ∧
    (State.sayFrame s dst tag).ctls = s.ctls ∧ (State.sayFrame s dst tag).fab = s.fab ∧ (State.sayFrame s dst tag).trust = s.trust ∧
    (State.sayFrame s dst tag).meter = s.meter ∧ (State.sayFrame s dst tag).saves = s.saves ∧
    (State.sayFrame s dst tag).chip = s.chip ∧ (State.sayFrame s dst tag).power = s.power := by
  exact ⟨rfl, rfl, rfl, rfl, rfl, rfl, rfl, rfl, rfl, rfl, rfl, rfl, rfl, rfl, rfl, rfl, rfl, rfl, rfl, rfl⟩

@[simp] theorem deliver_frame (s : State) (q : Req) (c : Code) (v : List Byte) :
    (State.deliver s q c v).pending = s.pending ∧ (State.deliver s q c v).tiles = s.tiles ∧ (State.deliver s q c v).dens = s.dens ∧
    (State.deliver s q c v).seam = s.seam ∧ (State.deliver s q c v).host = s.host ∧ (State.deliver s q c v).repair = s.repair ∧
    (State.deliver s q c v).wells = s.wells ∧ (State.deliver s q c v).cisterns = s.cisterns ∧
    (State.deliver s q c v).wins = s.wins ∧ (State.deliver s q c v).ctls = s.ctls ∧ (State.deliver s q c v).trust = s.trust ∧
    (State.deliver s q c v).meter = s.meter ∧ (State.deliver s q c v).saves = s.saves ∧ (State.deliver s q c v).chip = s.chip ∧
    (State.deliver s q c v).power = s.power := by
  unfold State.deliver; dsimp only; (repeat' split) <;> first | (simp; done) | (have e := snd_of_eq ‹_ = (_, _)›; subst e; simp; done) | (have e := snd2_of_eq ‹_ = (_, _, _)›; subst e; simp)

@[simp] theorem deliverNext_frame (s : State) (q : Req) (c : Code) (v : List Byte) :
    (State.deliverNext s q c v).pending = s.pending ∧ (State.deliverNext s q c v).tiles = s.tiles ∧
    (State.deliverNext s q c v).dens = s.dens ∧ (State.deliverNext s q c v).seam = s.seam ∧
    (State.deliverNext s q c v).host = s.host ∧ (State.deliverNext s q c v).repair = s.repair ∧
    (State.deliverNext s q c v).wells = s.wells ∧ (State.deliverNext s q c v).cisterns = s.cisterns ∧
    (State.deliverNext s q c v).wins = s.wins ∧ (State.deliverNext s q c v).ctls = s.ctls ∧
    (State.deliverNext s q c v).trust = s.trust ∧ (State.deliverNext s q c v).meter = s.meter ∧
    (State.deliverNext s q c v).saves = s.saves ∧ (State.deliverNext s q c v).chip = s.chip ∧
    (State.deliverNext s q c v).power = s.power := by
  unfold State.deliverNext; dsimp only; (repeat' split) <;> first | (simp; done) | (have e := snd_of_eq ‹_ = (_, _)›; subst e; simp; done) | (have e := snd2_of_eq ‹_ = (_, _, _)›; subst e; simp)

theorem foldl_fst_keeps {α β γ : Type} (F : State → β) (f : State × γ → α → State × γ) (l : List α) (p : State × γ)
    (h : ∀ p a, F (f p a).1 = F p.1) : F (l.foldl f p).1 = F p.1 := by
  induction l generalizing p with
  | nil => rfl
  | cons a l ih => simp [ih, h]

@[simp] theorem flush_frame (s : State) :
    s.flush.pending = s.pending ∧ s.flush.tiles = s.tiles ∧ s.flush.dens = s.dens ∧ s.flush.seam = s.seam ∧ s.flush.host = s.host ∧
    s.flush.repair = s.repair ∧ s.flush.wells = s.wells ∧ s.flush.cisterns = s.cisterns ∧ s.flush.wins = s.wins ∧
    s.flush.ctls = s.ctls ∧ s.flush.trust = s.trust ∧ s.flush.meter = s.meter ∧ s.flush.saves = s.saves ∧ s.flush.chip = s.chip ∧
    s.flush.power = s.power := by
  unfold State.flush
  dsimp only
  refine ⟨?_, ?_, ?_, ?_, ?_, ?_, ?_, ?_, ?_, ?_, ?_, ?_, ?_, ?_, ?_⟩
  · exact (foldl_fst_keeps State.pending _ _ _ fun p a => by (repeat' split) <;> simp).trans rfl
  · exact (foldl_fst_keeps State.tiles _ _ _ fun p a => by (repeat' split) <;> simp).trans rfl
  · exact (foldl_fst_keeps State.dens _ _ _ fun p a => by (repeat' split) <;> simp).trans rfl
  · exact (foldl_fst_keeps State.seam _ _ _ fun p a => by (repeat' split) <;> simp).trans rfl
  · exact (foldl_fst_keeps State.host _ _ _ fun p a => by (repeat' split) <;> simp).trans rfl
  · exact (foldl_fst_keeps State.repair _ _ _ fun p a => by (repeat' split) <;> simp).trans rfl
  · exact (foldl_fst_keeps State.wells _ _ _ fun p a => by (repeat' split) <;> simp).trans rfl
  · exact (foldl_fst_keeps State.cisterns _ _ _ fun p a => by (repeat' split) <;> simp).trans rfl
  · exact (foldl_fst_keeps State.wins _ _ _ fun p a => by (repeat' split) <;> simp).trans rfl
  · exact (foldl_fst_keeps State.ctls _ _ _ fun p a => by (repeat' split) <;> simp).trans rfl
  · exact (foldl_fst_keeps State.trust _ _ _ fun p a => by (repeat' split) <;> simp).trans rfl
  · exact (foldl_fst_keeps State.meter _ _ _ fun p a => by (repeat' split) <;> simp).trans rfl
  · exact (foldl_fst_keeps State.saves _ _ _ fun p a => by (repeat' split) <;> simp).trans rfl
  · exact (foldl_fst_keeps State.chip _ _ _ fun p a => by (repeat' split) <;> simp).trans rfl
  · exact (foldl_fst_keeps State.power _ _ _ fun p a => by (repeat' split) <;> simp).trans rfl

@[simp] theorem answer_frame (s : State) (id : Nat) (c : Code) (v : List Byte) :
    (State.answer s id c v).pending = s.pending ∧ (State.answer s id c v).tiles = s.tiles ∧ (State.answer s id c v).dens = s.dens ∧
    (State.answer s id c v).seam = s.seam ∧ (State.answer s id c v).host = s.host ∧ (State.answer s id c v).repair = s.repair ∧
    (State.answer s id c v).wells = s.wells ∧ (State.answer s id c v).cisterns = s.cisterns ∧
    (State.answer s id c v).wins = s.wins ∧ (State.answer s id c v).ctls = s.ctls ∧ (State.answer s id c v).trust = s.trust ∧
    (State.answer s id c v).meter = s.meter ∧ (State.answer s id c v).saves = s.saves ∧ (State.answer s id c v).chip = s.chip ∧
    (State.answer s id c v).power = s.power := by
  unfold State.answer; dsimp only; (repeat' split) <;> simp

@[simp] theorem beginReq_frame (s : State) (q : Req) (v : List Byte) :
    (State.beginReq s q v).pending = s.pending ∧ (State.beginReq s q v).fresh = s.fresh ∧ (State.beginReq s q v).outbox = s.outbox ∧
    (State.beginReq s q v).tiles = s.tiles ∧ (State.beginReq s q v).dens = s.dens ∧ (State.beginReq s q v).seam = s.seam ∧
    (State.beginReq s q v).ic = s.ic ∧ (State.beginReq s q v).host = s.host ∧ (State.beginReq s q v).repair = s.repair ∧
    (State.beginReq s q v).wells = s.wells ∧ (State.beginReq s q v).cisterns = s.cisterns ∧ (State.beginReq s q v).wins = s.wins ∧
    (State.beginReq s q v).ctls = s.ctls ∧ (State.beginReq s q v).fab = s.fab ∧ (State.beginReq s q v).trust = s.trust ∧
    (State.beginReq s q v).meter = s.meter ∧ (State.beginReq s q v).saves = s.saves ∧ (State.beginReq s q v).chip = s.chip ∧
    (State.beginReq s q v).power = s.power := by
  simp [State.beginReq]

@[simp] theorem reply_frame (s : State) (id : Nat) (q : Req) (c : Code) (v : List Byte) :
    (State.reply s id q c v).pending = s.pending ∧ (State.reply s id q c v).tiles = s.tiles ∧
    (State.reply s id q c v).dens = s.dens ∧ (State.reply s id q c v).seam = s.seam ∧ (State.reply s id q c v).host = s.host ∧
    (State.reply s id q c v).repair = s.repair ∧ (State.reply s id q c v).wells = s.wells ∧
    (State.reply s id q c v).cisterns = s.cisterns ∧ (State.reply s id q c v).wins = s.wins ∧
    (State.reply s id q c v).ctls = s.ctls ∧ (State.reply s id q c v).trust = s.trust ∧ (State.reply s id q c v).meter = s.meter ∧
    (State.reply s id q c v).saves = s.saves ∧ (State.reply s id q c v).chip = s.chip ∧ (State.reply s id q c v).power = s.power := by
  unfold State.reply; dsimp only; (repeat' split) <;> simp

@[simp] theorem await_frame (s : State) (id : Nat) (q : Req) :
    (State.await s id q).pending = s.pending ∧ (State.await s id q).tiles = s.tiles ∧ (State.await s id q).dens = s.dens ∧
    (State.await s id q).seam = s.seam ∧ (State.await s id q).host = s.host ∧ (State.await s id q).repair = s.repair ∧
    (State.await s id q).wells = s.wells ∧ (State.await s id q).cisterns = s.cisterns ∧ (State.await s id q).wins = s.wins ∧
    (State.await s id q).ctls = s.ctls ∧ (State.await s id q).trust = s.trust ∧ (State.await s id q).meter = s.meter ∧
    (State.await s id q).saves = s.saves ∧ (State.await s id q).chip = s.chip ∧ (State.await s id q).power = s.power := by
  unfold State.await; dsimp only; (repeat' split) <;> simp

@[simp] theorem refuse_frame (c : Code) (s : State) :
    (refuse c s).2.pending = s.pending ∧ (refuse c s).2.fresh = s.fresh ∧ (refuse c s).2.outbox = s.outbox ∧
    (refuse c s).2.tiles = s.tiles ∧ (refuse c s).2.dens = s.dens ∧ (refuse c s).2.seam = s.seam ∧ (refuse c s).2.ic = s.ic ∧
    (refuse c s).2.dict = s.dict ∧ (refuse c s).2.host = s.host ∧ (refuse c s).2.repair = s.repair ∧
    (refuse c s).2.wells = s.wells ∧ (refuse c s).2.cisterns = s.cisterns ∧ (refuse c s).2.wins = s.wins ∧
    (refuse c s).2.ctls = s.ctls ∧ (refuse c s).2.fab = s.fab ∧ (refuse c s).2.trust = s.trust ∧ (refuse c s).2.meter = s.meter ∧
    (refuse c s).2.saves = s.saves ∧ (refuse c s).2.chip = s.chip ∧ (refuse c s).2.power = s.power ∧ (refuse c s).2.mesh = s.mesh := by
  exact ⟨rfl, rfl, rfl, rfl, rfl, rfl, rfl, rfl, rfl, rfl, rfl, rfl, rfl, rfl, rfl, rfl, rfl, rfl, rfl, rfl, rfl⟩

@[simp] theorem done_frame (s : State) :
    (done s).2.pending = s.pending ∧ (done s).2.fresh = s.fresh ∧ (done s).2.outbox = s.outbox ∧ (done s).2.tiles = s.tiles ∧
    (done s).2.dens = s.dens ∧ (done s).2.seam = s.seam ∧ (done s).2.ic = s.ic ∧ (done s).2.dict = s.dict ∧
    (done s).2.host = s.host ∧ (done s).2.repair = s.repair ∧ (done s).2.wells = s.wells ∧ (done s).2.cisterns = s.cisterns ∧
    (done s).2.wins = s.wins ∧ (done s).2.ctls = s.ctls ∧ (done s).2.fab = s.fab ∧ (done s).2.trust = s.trust ∧
    (done s).2.meter = s.meter ∧ (done s).2.saves = s.saves ∧ (done s).2.chip = s.chip ∧ (done s).2.power = s.power ∧
    (done s).2.mesh = s.mesh := by
  exact ⟨rfl, rfl, rfl, rfl, rfl, rfl, rfl, rfl, rfl, rfl, rfl, rfl, rfl, rfl, rfl, rfl, rfl, rfl, rfl, rfl, rfl⟩

@[simp] theorem persist_frame (id : Nat) (old : List (Nat × Nat × List Byte)) (changed : Bool) (s : State) :
    (persist id old changed s).2.pending = s.pending ∧ (persist id old changed s).2.fresh = s.fresh ∧
    (persist id old changed s).2.outbox = s.outbox ∧ (persist id old changed s).2.tiles = s.tiles ∧
    (persist id old changed s).2.dens = s.dens ∧ (persist id old changed s).2.seam = s.seam ∧
    (persist id old changed s).2.ic = s.ic ∧ (persist id old changed s).2.host = s.host ∧
    (persist id old changed s).2.repair = s.repair ∧ (persist id old changed s).2.wells = s.wells ∧
    (persist id old changed s).2.cisterns = s.cisterns ∧ (persist id old changed s).2.wins = s.wins ∧
    (persist id old changed s).2.ctls = s.ctls ∧ (persist id old changed s).2.fab = s.fab ∧
    (persist id old changed s).2.trust = s.trust ∧ (persist id old changed s).2.meter = s.meter ∧
    (persist id old changed s).2.saves = s.saves ∧ (persist id old changed s).2.chip = s.chip ∧
    (persist id old changed s).2.power = s.power ∧ (persist id old changed s).2.mesh = s.mesh := by
  unfold persist; split <;> simp

@[simp] theorem persistReg_frame (id ix el v : Nat) (s : State) :
    (persistReg id ix el v s).2.pending = s.pending ∧ (persistReg id ix el v s).2.fresh = s.fresh ∧
    (persistReg id ix el v s).2.outbox = s.outbox ∧ (persistReg id ix el v s).2.tiles = s.tiles ∧
    (persistReg id ix el v s).2.dens = s.dens ∧ (persistReg id ix el v s).2.seam = s.seam ∧ (persistReg id ix el v s).2.ic = s.ic ∧
    (persistReg id ix el v s).2.host = s.host ∧ (persistReg id ix el v s).2.repair = s.repair ∧
    (persistReg id ix el v s).2.wells = s.wells ∧ (persistReg id ix el v s).2.cisterns = s.cisterns ∧
    (persistReg id ix el v s).2.wins = s.wins ∧ (persistReg id ix el v s).2.ctls = s.ctls ∧
    (persistReg id ix el v s).2.fab = s.fab ∧ (persistReg id ix el v s).2.trust = s.trust ∧
    (persistReg id ix el v s).2.meter = s.meter ∧ (persistReg id ix el v s).2.saves = s.saves ∧
    (persistReg id ix el v s).2.chip = s.chip ∧ (persistReg id ix el v s).2.power = s.power ∧
    (persistReg id ix el v s).2.mesh = s.mesh := by
  simp [persistReg]

@[simp] theorem addExtent_frame (s : State) (slot : Nat) (e : Extent) :
    (State.addExtent s slot e).pending = s.pending ∧ (State.addExtent s slot e).fresh = s.fresh ∧
    (State.addExtent s slot e).outbox = s.outbox ∧ (State.addExtent s slot e).tiles = s.tiles ∧
    (State.addExtent s slot e).seam = s.seam ∧ (State.addExtent s slot e).ic = s.ic ∧ (State.addExtent s slot e).dict = s.dict ∧
    (State.addExtent s slot e).host = s.host ∧ (State.addExtent s slot e).repair = s.repair ∧
    (State.addExtent s slot e).wells = s.wells ∧ (State.addExtent s slot e).cisterns = s.cisterns ∧
    (State.addExtent s slot e).wins = s.wins ∧ (State.addExtent s slot e).ctls = s.ctls ∧ (State.addExtent s slot e).fab = s.fab ∧
    (State.addExtent s slot e).trust = s.trust ∧ (State.addExtent s slot e).meter = s.meter ∧
    (State.addExtent s slot e).saves = s.saves ∧ (State.addExtent s slot e).chip = s.chip ∧
    (State.addExtent s slot e).power = s.power ∧ (State.addExtent s slot e).mesh = s.mesh := by
  exact ⟨rfl, rfl, rfl, rfl, rfl, rfl, rfl, rfl, rfl, rfl, rfl, rfl, rfl, rfl, rfl, rfl, rfl, rfl, rfl, rfl⟩

@[simp] theorem startInval_frame (s : State) (slot : Nat) (old : Extent) (newLen : Nat) (resp : Option Nat) :
    (State.startInval s slot old newLen resp).pending = s.pending ∧ (State.startInval s slot old newLen resp).fresh = s.fresh ∧
    (State.startInval s slot old newLen resp).outbox = s.outbox ∧ (State.startInval s slot old newLen resp).tiles = s.tiles ∧
    (State.startInval s slot old newLen resp).seam = s.seam ∧ (State.startInval s slot old newLen resp).ic = s.ic ∧
    (State.startInval s slot old newLen resp).dict = s.dict ∧ (State.startInval s slot old newLen resp).host = s.host ∧
    (State.startInval s slot old newLen resp).repair = s.repair ∧ (State.startInval s slot old newLen resp).wells = s.wells ∧
    (State.startInval s slot old newLen resp).cisterns = s.cisterns ∧ (State.startInval s slot old newLen resp).wins = s.wins ∧
    (State.startInval s slot old newLen resp).ctls = s.ctls ∧ (State.startInval s slot old newLen resp).fab = s.fab ∧
    (State.startInval s slot old newLen resp).trust = s.trust ∧ (State.startInval s slot old newLen resp).meter = s.meter ∧
    (State.startInval s slot old newLen resp).saves = s.saves ∧ (State.startInval s slot old newLen resp).chip = s.chip ∧
    (State.startInval s slot old newLen resp).power = s.power := by
  simp [State.startInval]

@[simp] theorem dropEntry_frame (s : State) (who : Agent) (slot : Nat) (e : Extent) :
    (State.dropEntry s who slot e).pending = s.pending ∧ (State.dropEntry s who slot e).fresh = s.fresh ∧
    (State.dropEntry s who slot e).outbox = s.outbox ∧ (State.dropEntry s who slot e).dens = s.dens ∧
    (State.dropEntry s who slot e).seam = s.seam ∧ (State.dropEntry s who slot e).ic = s.ic ∧
    (State.dropEntry s who slot e).dict = s.dict ∧ (State.dropEntry s who slot e).host = s.host ∧
    (State.dropEntry s who slot e).repair = s.repair ∧ (State.dropEntry s who slot e).wells = s.wells ∧
    (State.dropEntry s who slot e).cisterns = s.cisterns ∧ (State.dropEntry s who slot e).wins = s.wins ∧
    (State.dropEntry s who slot e).ctls = s.ctls ∧ (State.dropEntry s who slot e).trust = s.trust ∧
    (State.dropEntry s who slot e).meter = s.meter ∧ (State.dropEntry s who slot e).saves = s.saves ∧
    (State.dropEntry s who slot e).chip = s.chip ∧ (State.dropEntry s who slot e).power = s.power ∧
    (State.dropEntry s who slot e).mesh = s.mesh := by
  unfold State.dropEntry; split <;> simp

@[simp] theorem recordSlip_frame (s : State) (slot : Nat) (sources : List SlipSource) (l : Nat) (old : Option Nat) :
    (State.recordSlip s slot sources l old).pending = s.pending ∧ (State.recordSlip s slot sources l old).fresh = s.fresh ∧
    (State.recordSlip s slot sources l old).outbox = s.outbox ∧ (State.recordSlip s slot sources l old).tiles = s.tiles ∧
    (State.recordSlip s slot sources l old).ic = s.ic ∧ (State.recordSlip s slot sources l old).dict = s.dict ∧
    (State.recordSlip s slot sources l old).host = s.host ∧ (State.recordSlip s slot sources l old).repair = s.repair ∧
    (State.recordSlip s slot sources l old).wells = s.wells ∧ (State.recordSlip s slot sources l old).cisterns = s.cisterns ∧
    (State.recordSlip s slot sources l old).wins = s.wins ∧ (State.recordSlip s slot sources l old).ctls = s.ctls ∧
    (State.recordSlip s slot sources l old).fab = s.fab ∧ (State.recordSlip s slot sources l old).trust = s.trust ∧
    (State.recordSlip s slot sources l old).meter = s.meter ∧ (State.recordSlip s slot sources l old).saves = s.saves ∧
    (State.recordSlip s slot sources l old).chip = s.chip ∧ (State.recordSlip s slot sources l old).power = s.power ∧
    (State.recordSlip s slot sources l old).mesh = s.mesh := by
  unfold State.recordSlip; dsimp only; split <;> simp

@[simp] theorem sendResume_frame (s : State) (slot : Nat) (ended : List SlipSource × Nat) :
    (State.sendResume s slot ended).pending = s.pending ∧ (State.sendResume s slot ended).fresh = s.fresh ∧
    (State.sendResume s slot ended).outbox = s.outbox ∧ (State.sendResume s slot ended).seam = s.seam ∧
    (State.sendResume s slot ended).ic = s.ic ∧ (State.sendResume s slot ended).dict = s.dict ∧
    (State.sendResume s slot ended).host = s.host ∧ (State.sendResume s slot ended).repair = s.repair ∧
    (State.sendResume s slot ended).wells = s.wells ∧ (State.sendResume s slot ended).cisterns = s.cisterns ∧
    (State.sendResume s slot ended).wins = s.wins ∧ (State.sendResume s slot ended).ctls = s.ctls ∧
    (State.sendResume s slot ended).fab = s.fab ∧ (State.sendResume s slot ended).trust = s.trust ∧
    (State.sendResume s slot ended).meter = s.meter ∧ (State.sendResume s slot ended).saves = s.saves ∧
    (State.sendResume s slot ended).chip = s.chip ∧ (State.sendResume s slot ended).power = s.power ∧
    (State.sendResume s slot ended).mesh = s.mesh := by
  exact ⟨rfl, rfl, rfl, rfl, rfl, rfl, rfl, rfl, rfl, rfl, rfl, rfl, rfl, rfl, rfl, rfl, rfl, rfl, rfl⟩

@[simp] theorem wakeBanks_frame (s : State) (slot n : Nat) :
    (State.wakeBanks s slot n).pending = s.pending ∧ (State.wakeBanks s slot n).fresh = s.fresh ∧
    (State.wakeBanks s slot n).outbox = s.outbox ∧ (State.wakeBanks s slot n).dens = s.dens ∧
    (State.wakeBanks s slot n).seam = s.seam ∧ (State.wakeBanks s slot n).ic = s.ic ∧ (State.wakeBanks s slot n).dict = s.dict ∧
    (State.wakeBanks s slot n).host = s.host ∧ (State.wakeBanks s slot n).repair = s.repair ∧
    (State.wakeBanks s slot n).wells = s.wells ∧ (State.wakeBanks s slot n).cisterns = s.cisterns ∧
    (State.wakeBanks s slot n).wins = s.wins ∧ (State.wakeBanks s slot n).ctls = s.ctls ∧ (State.wakeBanks s slot n).fab = s.fab ∧
    (State.wakeBanks s slot n).trust = s.trust ∧ (State.wakeBanks s slot n).meter = s.meter ∧
    (State.wakeBanks s slot n).saves = s.saves ∧ (State.wakeBanks s slot n).chip = s.chip ∧
    (State.wakeBanks s slot n).power = s.power ∧ (State.wakeBanks s slot n).mesh = s.mesh := by
  exact ⟨rfl, rfl, rfl, rfl, rfl, rfl, rfl, rfl, rfl, rfl, rfl, rfl, rfl, rfl, rfl, rfl, rfl, rfl, rfl, rfl⟩

@[simp] theorem noteChange_frame (s : State) (slot : Nat) :
    (State.noteChange s slot).pending = s.pending ∧ (State.noteChange s slot).fresh = s.fresh ∧
    (State.noteChange s slot).outbox = s.outbox ∧ (State.noteChange s slot).tiles = s.tiles ∧
    (State.noteChange s slot).dens = s.dens ∧ (State.noteChange s slot).seam = s.seam ∧ (State.noteChange s slot).ic = s.ic ∧
    (State.noteChange s slot).dict = s.dict ∧ (State.noteChange s slot).host = s.host ∧
    (State.noteChange s slot).repair = s.repair ∧ (State.noteChange s slot).wells = s.wells ∧
    (State.noteChange s slot).cisterns = s.cisterns ∧ (State.noteChange s slot).wins = s.wins ∧
    (State.noteChange s slot).ctls = s.ctls ∧ (State.noteChange s slot).fab = s.fab ∧ (State.noteChange s slot).trust = s.trust ∧
    (State.noteChange s slot).saves = s.saves ∧ (State.noteChange s slot).chip = s.chip ∧
    (State.noteChange s slot).power = s.power ∧ (State.noteChange s slot).mesh = s.mesh := by
  unfold State.noteChange; dsimp only; split <;> simp

@[simp] theorem cutSlip_frame (s : State) (slot ran : Nat) :
    (State.cutSlip s slot ran).pending = s.pending ∧ (State.cutSlip s slot ran).fresh = s.fresh ∧
    (State.cutSlip s slot ran).outbox = s.outbox ∧ (State.cutSlip s slot ran).tiles = s.tiles ∧
    (State.cutSlip s slot ran).ic = s.ic ∧ (State.cutSlip s slot ran).dict = s.dict ∧ (State.cutSlip s slot ran).host = s.host ∧
    (State.cutSlip s slot ran).repair = s.repair ∧ (State.cutSlip s slot ran).wells = s.wells ∧
    (State.cutSlip s slot ran).cisterns = s.cisterns ∧ (State.cutSlip s slot ran).wins = s.wins ∧
    (State.cutSlip s slot ran).ctls = s.ctls ∧ (State.cutSlip s slot ran).fab = s.fab ∧ (State.cutSlip s slot ran).trust = s.trust ∧
    (State.cutSlip s slot ran).meter = s.meter ∧ (State.cutSlip s slot ran).saves = s.saves ∧
    (State.cutSlip s slot ran).chip = s.chip ∧ (State.cutSlip s slot ran).power = s.power ∧ (State.cutSlip s slot ran).mesh = s.mesh := by
  unfold State.cutSlip; dsimp only; split <;> simp

@[simp] theorem stopWave_frame (s : State) (slot ran : Nat) :
    (State.stopWave s slot ran).pending = s.pending ∧ (State.stopWave s slot ran).fresh = s.fresh ∧
    (State.stopWave s slot ran).outbox = s.outbox ∧ (State.stopWave s slot ran).ic = s.ic ∧
    (State.stopWave s slot ran).dict = s.dict ∧ (State.stopWave s slot ran).host = s.host ∧
    (State.stopWave s slot ran).repair = s.repair ∧ (State.stopWave s slot ran).wells = s.wells ∧
    (State.stopWave s slot ran).cisterns = s.cisterns ∧ (State.stopWave s slot ran).wins = s.wins ∧
    (State.stopWave s slot ran).ctls = s.ctls ∧ (State.stopWave s slot ran).fab = s.fab ∧
    (State.stopWave s slot ran).trust = s.trust ∧ (State.stopWave s slot ran).meter = s.meter ∧
    (State.stopWave s slot ran).saves = s.saves ∧ (State.stopWave s slot ran).chip = s.chip ∧
    (State.stopWave s slot ran).power = s.power ∧ (State.stopWave s slot ran).mesh = s.mesh := by
  unfold State.stopWave; dsimp only; (repeat' split) <;> simp

@[simp] theorem emptyCaches_frame (s : State) (slot : Nat) :
    (State.emptyCaches s slot).pending = s.pending ∧ (State.emptyCaches s slot).fresh = s.fresh ∧
    (State.emptyCaches s slot).outbox = s.outbox ∧ (State.emptyCaches s slot).dens = s.dens ∧
    (State.emptyCaches s slot).seam = s.seam ∧ (State.emptyCaches s slot).ic = s.ic ∧ (State.emptyCaches s slot).dict = s.dict ∧
    (State.emptyCaches s slot).host = s.host ∧ (State.emptyCaches s slot).repair = s.repair ∧
    (State.emptyCaches s slot).wells = s.wells ∧ (State.emptyCaches s slot).cisterns = s.cisterns ∧
    (State.emptyCaches s slot).wins = s.wins ∧ (State.emptyCaches s slot).ctls = s.ctls ∧
    (State.emptyCaches s slot).trust = s.trust ∧ (State.emptyCaches s slot).meter = s.meter ∧
    (State.emptyCaches s slot).saves = s.saves ∧ (State.emptyCaches s slot).chip = s.chip ∧
    (State.emptyCaches s slot).power = s.power ∧ (State.emptyCaches s slot).mesh = s.mesh := by
  simp [State.emptyCaches]

@[simp] theorem endStep_frame (s : State) (slot : Nat) :
    (State.endStep s slot).pending = s.pending ∧ (State.endStep s slot).fresh = s.fresh ∧ (State.endStep s slot).outbox = s.outbox ∧
    (State.endStep s slot).tiles = s.tiles ∧ (State.endStep s slot).ic = s.ic ∧ (State.endStep s slot).dict = s.dict ∧
    (State.endStep s slot).repair = s.repair ∧ (State.endStep s slot).wells = s.wells ∧
    (State.endStep s slot).cisterns = s.cisterns ∧ (State.endStep s slot).wins = s.wins ∧ (State.endStep s slot).ctls = s.ctls ∧
    (State.endStep s slot).fab = s.fab ∧ (State.endStep s slot).trust = s.trust ∧ (State.endStep s slot).meter = s.meter ∧
    (State.endStep s slot).saves = s.saves ∧ (State.endStep s slot).chip = s.chip ∧ (State.endStep s slot).power = s.power ∧
    (State.endStep s slot).mesh = s.mesh := by
  unfold State.endStep; dsimp only; split <;> simp

@[simp] theorem zeroShaft_frame (s : State) (t : Nat) :
    (State.zeroShaft s t).pending = s.pending ∧ (State.zeroShaft s t).fresh = s.fresh ∧ (State.zeroShaft s t).outbox = s.outbox ∧
    (State.zeroShaft s t).tiles = s.tiles ∧ (State.zeroShaft s t).dens = s.dens ∧ (State.zeroShaft s t).seam = s.seam ∧
    (State.zeroShaft s t).ic = s.ic ∧ (State.zeroShaft s t).dict = s.dict ∧ (State.zeroShaft s t).host = s.host ∧
    (State.zeroShaft s t).repair = s.repair ∧ (State.zeroShaft s t).cisterns = s.cisterns ∧ (State.zeroShaft s t).wins = s.wins ∧
    (State.zeroShaft s t).ctls = s.ctls ∧ (State.zeroShaft s t).fab = s.fab ∧ (State.zeroShaft s t).trust = s.trust ∧
    (State.zeroShaft s t).meter = s.meter ∧ (State.zeroShaft s t).saves = s.saves ∧ (State.zeroShaft s t).chip = s.chip ∧
    (State.zeroShaft s t).power = s.power ∧ (State.zeroShaft s t).mesh = s.mesh := by
  exact ⟨rfl, rfl, rfl, rfl, rfl, rfl, rfl, rfl, rfl, rfl, rfl, rfl, rfl, rfl, rfl, rfl, rfl, rfl, rfl, rfl⟩

@[simp] theorem areaLine_frame (s : State) (ms : List LineMeet) (kind a : Nat) (k : Access) :
    (State.areaLine s ms kind a k).2.2.pending = s.pending ∧ (State.areaLine s ms kind a k).2.2.fresh = s.fresh ∧
    (State.areaLine s ms kind a k).2.2.outbox = s.outbox ∧ (State.areaLine s ms kind a k).2.2.seam = s.seam ∧
    (State.areaLine s ms kind a k).2.2.wins = s.wins ∧ (State.areaLine s ms kind a k).2.2.ctls = s.ctls ∧
    (State.areaLine s ms kind a k).2.2.fab = s.fab ∧ (State.areaLine s ms kind a k).2.2.trust = s.trust ∧
    (State.areaLine s ms kind a k).2.2.meter = s.meter ∧ (State.areaLine s ms kind a k).2.2.saves = s.saves ∧
    (State.areaLine s ms kind a k).2.2.chip = s.chip ∧ (State.areaLine s ms kind a k).2.2.power = s.power := by
  unfold State.areaLine; split <;> simp

@[simp] theorem areaWrite_frame (s : State) (ms : List LineMeet) (kind : Nat) (y0 : Nat) (y1 : Nat) (y2 : List Byte) :
    (State.areaWrite s ms kind y0 y1 y2).2.pending = s.pending ∧ (State.areaWrite s ms kind y0 y1 y2).2.fresh = s.fresh ∧
    (State.areaWrite s ms kind y0 y1 y2).2.outbox = s.outbox ∧ (State.areaWrite s ms kind y0 y1 y2).2.seam = s.seam ∧
    (State.areaWrite s ms kind y0 y1 y2).2.wins = s.wins ∧ (State.areaWrite s ms kind y0 y1 y2).2.ctls = s.ctls ∧
    (State.areaWrite s ms kind y0 y1 y2).2.fab = s.fab ∧ (State.areaWrite s ms kind y0 y1 y2).2.trust = s.trust ∧
    (State.areaWrite s ms kind y0 y1 y2).2.meter = s.meter ∧ (State.areaWrite s ms kind y0 y1 y2).2.saves = s.saves ∧
    (State.areaWrite s ms kind y0 y1 y2).2.chip = s.chip ∧ (State.areaWrite s ms kind y0 y1 y2).2.power = s.power := by
  induction y0 generalizing s y1 y2 with
  | zero => simp [State.areaWrite]
  | succ n ih => (simp only [State.areaWrite]; (repeat' split) <;> simp [ih])

@[simp] theorem areaRead_frame (s : State) (ms : List LineMeet) (kind : Nat) (y0 : Nat) (y1 : Nat) (y2 : Nat) :
    (State.areaRead s ms kind y0 y1 y2).2.2.pending = s.pending ∧ (State.areaRead s ms kind y0 y1 y2).2.2.fresh = s.fresh ∧
    (State.areaRead s ms kind y0 y1 y2).2.2.outbox = s.outbox ∧ (State.areaRead s ms kind y0 y1 y2).2.2.seam = s.seam ∧
    (State.areaRead s ms kind y0 y1 y2).2.2.wins = s.wins ∧ (State.areaRead s ms kind y0 y1 y2).2.2.ctls = s.ctls ∧
    (State.areaRead s ms kind y0 y1 y2).2.2.fab = s.fab ∧ (State.areaRead s ms kind y0 y1 y2).2.2.trust = s.trust ∧
    (State.areaRead s ms kind y0 y1 y2).2.2.meter = s.meter ∧ (State.areaRead s ms kind y0 y1 y2).2.2.saves = s.saves ∧
    (State.areaRead s ms kind y0 y1 y2).2.2.chip = s.chip ∧ (State.areaRead s ms kind y0 y1 y2).2.2.power = s.power := by
  induction y0 generalizing s y1 y2 with
  | zero => simp [State.areaRead]
  | succ n ih => (simp only [State.areaRead]; (repeat' split) <;> simp [ih])

@[simp] theorem refuseFit_frame (s : State) (slot : Nat) (c : Code) (i : Option Nat) :
    (State.refuseFit s slot c i).pending = s.pending ∧ (State.refuseFit s slot c i).outbox = s.outbox ∧
    (State.refuseFit s slot c i).tiles = s.tiles ∧ (State.refuseFit s slot c i).seam = s.seam ∧
    (State.refuseFit s slot c i).ic = s.ic ∧ (State.refuseFit s slot c i).dict = s.dict ∧
    (State.refuseFit s slot c i).host = s.host ∧ (State.refuseFit s slot c i).repair = s.repair ∧
    (State.refuseFit s slot c i).wells = s.wells ∧ (State.refuseFit s slot c i).cisterns = s.cisterns ∧
    (State.refuseFit s slot c i).wins = s.wins ∧ (State.refuseFit s slot c i).ctls = s.ctls ∧
    (State.refuseFit s slot c i).fab = s.fab ∧ (State.refuseFit s slot c i).trust = s.trust ∧
    (State.refuseFit s slot c i).meter = s.meter ∧ (State.refuseFit s slot c i).saves = s.saves ∧
    (State.refuseFit s slot c i).chip = s.chip ∧ (State.refuseFit s slot c i).power = s.power ∧
    (State.refuseFit s slot c i).mesh = s.mesh := by
  exact ⟨rfl, rfl, rfl, rfl, rfl, rfl, rfl, rfl, rfl, rfl, rfl, rfl, rfl, rfl, rfl, rfl, rfl, rfl, rfl⟩

@[simp] theorem writeInit_frame (s : State) (tiles : List Nat) (e : InitData) :
    (State.writeInit s tiles e).pending = s.pending ∧ (State.writeInit s tiles e).fresh = s.fresh ∧
    (State.writeInit s tiles e).outbox = s.outbox ∧ (State.writeInit s tiles e).seam = s.seam ∧
    (State.writeInit s tiles e).wins = s.wins ∧ (State.writeInit s tiles e).ctls = s.ctls ∧
    (State.writeInit s tiles e).fab = s.fab ∧ (State.writeInit s tiles e).trust = s.trust ∧
    (State.writeInit s tiles e).meter = s.meter ∧ (State.writeInit s tiles e).saves = s.saves ∧
    (State.writeInit s tiles e).chip = s.chip ∧ (State.writeInit s tiles e).power = s.power := by
  unfold State.writeInit; (repeat' split) <;> simp

@[simp] theorem install_frame (s : State) (slot : Nat) (g : Image) (sh : Shape) :
    (State.install s slot g sh).pending = s.pending ∧ (State.install s slot g sh).fresh = s.fresh ∧
    (State.install s slot g sh).outbox = s.outbox ∧ (State.install s slot g sh).seam = s.seam ∧
    (State.install s slot g sh).wins = s.wins ∧ (State.install s slot g sh).ctls = s.ctls ∧
    (State.install s slot g sh).fab = s.fab ∧ (State.install s slot g sh).trust = s.trust ∧
    (State.install s slot g sh).meter = s.meter ∧ (State.install s slot g sh).saves = s.saves ∧
    (State.install s slot g sh).chip = s.chip ∧ (State.install s slot g sh).power = s.power := by
  simp [State.install]

@[simp] theorem haulRecord_frame (s : State) (slot kind t base : Nat) (out : Bool) :
    (State.haulRecord s slot kind t base out).pending = s.pending ∧ (State.haulRecord s slot kind t base out).fresh = s.fresh ∧
    (State.haulRecord s slot kind t base out).outbox = s.outbox ∧ (State.haulRecord s slot kind t base out).tiles = s.tiles ∧
    (State.haulRecord s slot kind t base out).dens = s.dens ∧ (State.haulRecord s slot kind t base out).seam = s.seam ∧
    (State.haulRecord s slot kind t base out).ic = s.ic ∧ (State.haulRecord s slot kind t base out).dict = s.dict ∧
    (State.haulRecord s slot kind t base out).host = s.host ∧ (State.haulRecord s slot kind t base out).repair = s.repair ∧
    (State.haulRecord s slot kind t base out).wells = s.wells ∧ (State.haulRecord s slot kind t base out).cisterns = s.cisterns ∧
    (State.haulRecord s slot kind t base out).wins = s.wins ∧ (State.haulRecord s slot kind t base out).ctls = s.ctls ∧
    (State.haulRecord s slot kind t base out).fab = s.fab ∧ (State.haulRecord s slot kind t base out).trust = s.trust ∧
    (State.haulRecord s slot kind t base out).meter = s.meter ∧ (State.haulRecord s slot kind t base out).saves = s.saves ∧
    (State.haulRecord s slot kind t base out).chip = s.chip ∧ (State.haulRecord s slot kind t base out).power = s.power := by
  unfold State.haulRecord; (repeat' split) <;> simp

@[simp] theorem dropFrame_frame (s : State) (l el : Nat) :
    (State.dropFrame s l el).pending = s.pending ∧ (State.dropFrame s l el).fresh = s.fresh ∧
    (State.dropFrame s l el).outbox = s.outbox ∧ (State.dropFrame s l el).tiles = s.tiles ∧ (State.dropFrame s l el).dens = s.dens ∧
    (State.dropFrame s l el).seam = s.seam ∧ (State.dropFrame s l el).ic = s.ic ∧ (State.dropFrame s l el).host = s.host ∧
    (State.dropFrame s l el).repair = s.repair ∧ (State.dropFrame s l el).wells = s.wells ∧
    (State.dropFrame s l el).cisterns = s.cisterns ∧ (State.dropFrame s l el).wins = s.wins ∧
    (State.dropFrame s l el).ctls = s.ctls ∧ (State.dropFrame s l el).fab = s.fab ∧ (State.dropFrame s l el).trust = s.trust ∧
    (State.dropFrame s l el).meter = s.meter ∧ (State.dropFrame s l el).saves = s.saves ∧ (State.dropFrame s l el).chip = s.chip ∧
    (State.dropFrame s l el).power = s.power ∧ (State.dropFrame s l el).mesh = s.mesh := by
  exact ⟨rfl, rfl, rfl, rfl, rfl, rfl, rfl, rfl, rfl, rfl, rfl, rfl, rfl, rfl, rfl, rfl, rfl, rfl, rfl, rfl⟩

@[simp] theorem forward_frame (s : State) (l : Nat) (f : Frame) :
    (State.forward s l f).pending = s.pending ∧ (State.forward s l f).fresh = s.fresh ∧ (State.forward s l f).tiles = s.tiles ∧
    (State.forward s l f).dens = s.dens ∧ (State.forward s l f).seam = s.seam ∧ (State.forward s l f).ic = s.ic ∧
    (State.forward s l f).host = s.host ∧ (State.forward s l f).repair = s.repair ∧ (State.forward s l f).wells = s.wells ∧
    (State.forward s l f).cisterns = s.cisterns ∧ (State.forward s l f).wins = s.wins ∧ (State.forward s l f).ctls = s.ctls ∧
    (State.forward s l f).trust = s.trust ∧ (State.forward s l f).meter = s.meter ∧ (State.forward s l f).saves = s.saves ∧
    (State.forward s l f).chip = s.chip ∧ (State.forward s l f).power = s.power ∧ (State.forward s l f).mesh = s.mesh := by
  unfold State.forward; dsimp only; (repeat' split) <;> simp

@[simp] theorem respond_frame (s : State) (l : Nat) (f : Frame) (st : Code) (data : List Byte) (contended : Bool) :
    (State.respond s l f st data contended).pending = s.pending ∧ (State.respond s l f st data contended).tiles = s.tiles ∧
    (State.respond s l f st data contended).dens = s.dens ∧ (State.respond s l f st data contended).seam = s.seam ∧
    (State.respond s l f st data contended).ic = s.ic ∧ (State.respond s l f st data contended).dict = s.dict ∧
    (State.respond s l f st data contended).host = s.host ∧ (State.respond s l f st data contended).repair = s.repair ∧
    (State.respond s l f st data contended).wells = s.wells ∧ (State.respond s l f st data contended).cisterns = s.cisterns ∧
    (State.respond s l f st data contended).wins = s.wins ∧ (State.respond s l f st data contended).ctls = s.ctls ∧
    (State.respond s l f st data contended).trust = s.trust ∧ (State.respond s l f st data contended).meter = s.meter ∧
    (State.respond s l f st data contended).saves = s.saves ∧ (State.respond s l f st data contended).chip = s.chip ∧
    (State.respond s l f st data contended).power = s.power ∧ (State.respond s l f st data contended).mesh = s.mesh := by
  unfold State.respond; dsimp only; (repeat' split) <;> first | (simp; done) | simp [sendOn_frame ‹_›]

@[simp] theorem settlePause_frame (s : State) (l : Nat) :
    (State.settlePause s l).pending = s.pending ∧ (State.settlePause s l).fresh = s.fresh ∧
    (State.settlePause s l).tiles = s.tiles ∧ (State.settlePause s l).dens = s.dens ∧ (State.settlePause s l).seam = s.seam ∧
    (State.settlePause s l).ic = s.ic ∧ (State.settlePause s l).dict = s.dict ∧ (State.settlePause s l).host = s.host ∧
    (State.settlePause s l).repair = s.repair ∧ (State.settlePause s l).wells = s.wells ∧
    (State.settlePause s l).cisterns = s.cisterns ∧ (State.settlePause s l).wins = s.wins ∧ (State.settlePause s l).ctls = s.ctls ∧
    (State.settlePause s l).trust = s.trust ∧ (State.settlePause s l).meter = s.meter ∧ (State.settlePause s l).saves = s.saves ∧
    (State.settlePause s l).chip = s.chip ∧ (State.settlePause s l).power = s.power ∧ (State.settlePause s l).mesh = s.mesh := by
  unfold State.settlePause; dsimp only; split <;> simp

@[simp] theorem putRx_frame (s : State) (l : Nat) (f : Frame) :
    (State.putRx s l f).pending = s.pending ∧ (State.putRx s l f).fresh = s.fresh ∧ (State.putRx s l f).tiles = s.tiles ∧
    (State.putRx s l f).dens = s.dens ∧ (State.putRx s l f).seam = s.seam ∧ (State.putRx s l f).ic = s.ic ∧
    (State.putRx s l f).host = s.host ∧ (State.putRx s l f).repair = s.repair ∧ (State.putRx s l f).wells = s.wells ∧
    (State.putRx s l f).cisterns = s.cisterns ∧ (State.putRx s l f).wins = s.wins ∧ (State.putRx s l f).ctls = s.ctls ∧
    (State.putRx s l f).trust = s.trust ∧ (State.putRx s l f).meter = s.meter ∧ (State.putRx s l f).saves = s.saves ∧
    (State.putRx s l f).chip = s.chip ∧ (State.putRx s l f).power = s.power ∧ (State.putRx s l f).mesh = s.mesh := by
  unfold State.putRx; split <;> simp

@[simp] theorem fecCount_frame (s : State) (l : Nat) :
    (State.fecCount s l).pending = s.pending ∧ (State.fecCount s l).outbox = s.outbox ∧ (State.fecCount s l).tiles = s.tiles ∧
    (State.fecCount s l).dens = s.dens ∧ (State.fecCount s l).seam = s.seam ∧ (State.fecCount s l).ic = s.ic ∧
    (State.fecCount s l).host = s.host ∧ (State.fecCount s l).repair = s.repair ∧ (State.fecCount s l).wells = s.wells ∧
    (State.fecCount s l).cisterns = s.cisterns ∧ (State.fecCount s l).wins = s.wins ∧ (State.fecCount s l).ctls = s.ctls ∧
    (State.fecCount s l).fab = s.fab ∧ (State.fecCount s l).trust = s.trust ∧ (State.fecCount s l).meter = s.meter ∧
    (State.fecCount s l).saves = s.saves ∧ (State.fecCount s l).chip = s.chip ∧ (State.fecCount s l).power = s.power ∧
    (State.fecCount s l).mesh = s.mesh := by
  exact ⟨rfl, rfl, rfl, rfl, rfl, rfl, rfl, rfl, rfl, rfl, rfl, rfl, rfl, rfl, rfl, rfl, rfl, rfl, rfl⟩

@[simp] theorem inboundLine_frame (s : State) (l slot line : Nat) (kind : LineKind) :
    (State.inboundLine s l slot line kind).2.pending = s.pending ∧ (State.inboundLine s l slot line kind).2.fresh = s.fresh ∧
    (State.inboundLine s l slot line kind).2.outbox = s.outbox ∧ (State.inboundLine s l slot line kind).2.tiles = s.tiles ∧
    (State.inboundLine s l slot line kind).2.dens = s.dens ∧ (State.inboundLine s l slot line kind).2.seam = s.seam ∧
    (State.inboundLine s l slot line kind).2.ic = s.ic ∧ (State.inboundLine s l slot line kind).2.host = s.host ∧
    (State.inboundLine s l slot line kind).2.repair = s.repair ∧ (State.inboundLine s l slot line kind).2.wells = s.wells ∧
    (State.inboundLine s l slot line kind).2.cisterns = s.cisterns ∧ (State.inboundLine s l slot line kind).2.wins = s.wins ∧
    (State.inboundLine s l slot line kind).2.ctls = s.ctls ∧ (State.inboundLine s l slot line kind).2.trust = s.trust ∧
    (State.inboundLine s l slot line kind).2.meter = s.meter ∧ (State.inboundLine s l slot line kind).2.saves = s.saves ∧
    (State.inboundLine s l slot line kind).2.chip = s.chip ∧ (State.inboundLine s l slot line kind).2.power = s.power := by
  unfold State.inboundLine; (repeat' split) <;> (first | (simp; done) | (have e := snd_of_eq ‹_ = (_, _)›; subst e; simp))

@[simp] theorem inboundLines_frame (s : State) (l slot : Nat) (kind : LineKind) (y0 : List Nat) :
    (State.inboundLines s l slot kind y0).2.pending = s.pending ∧ (State.inboundLines s l slot kind y0).2.fresh = s.fresh ∧
    (State.inboundLines s l slot kind y0).2.outbox = s.outbox ∧ (State.inboundLines s l slot kind y0).2.tiles = s.tiles ∧
    (State.inboundLines s l slot kind y0).2.dens = s.dens ∧ (State.inboundLines s l slot kind y0).2.seam = s.seam ∧
    (State.inboundLines s l slot kind y0).2.ic = s.ic ∧ (State.inboundLines s l slot kind y0).2.host = s.host ∧
    (State.inboundLines s l slot kind y0).2.repair = s.repair ∧ (State.inboundLines s l slot kind y0).2.wells = s.wells ∧
    (State.inboundLines s l slot kind y0).2.cisterns = s.cisterns ∧ (State.inboundLines s l slot kind y0).2.wins = s.wins ∧
    (State.inboundLines s l slot kind y0).2.ctls = s.ctls ∧ (State.inboundLines s l slot kind y0).2.trust = s.trust ∧
    (State.inboundLines s l slot kind y0).2.meter = s.meter ∧ (State.inboundLines s l slot kind y0).2.saves = s.saves ∧
    (State.inboundLines s l slot kind y0).2.chip = s.chip ∧ (State.inboundLines s l slot kind y0).2.power = s.power := by
  induction y0 generalizing s with
  | nil => simp [State.inboundLines]
  | cons a l ih => (simp only [State.inboundLines]; split <;> (have e := snd_of_eq ‹_ = (_, _)›; subst e; simp [ih]))

@[simp] theorem inboundRun_frame (s : State) (l slot : Nat) (kind : LineKind) (ms : List LineMeet) (y0 : List (Nat × Access)) (y1 : List Byte) :
    (State.inboundRun s l slot kind ms y0 y1).2.2.pending = s.pending ∧
    (State.inboundRun s l slot kind ms y0 y1).2.2.fresh = s.fresh ∧
    (State.inboundRun s l slot kind ms y0 y1).2.2.outbox = s.outbox ∧ (State.inboundRun s l slot kind ms y0 y1).2.2.seam = s.seam ∧
    (State.inboundRun s l slot kind ms y0 y1).2.2.wins = s.wins ∧ (State.inboundRun s l slot kind ms y0 y1).2.2.ctls = s.ctls ∧
    (State.inboundRun s l slot kind ms y0 y1).2.2.trust = s.trust ∧ (State.inboundRun s l slot kind ms y0 y1).2.2.meter = s.meter ∧
    (State.inboundRun s l slot kind ms y0 y1).2.2.saves = s.saves ∧ (State.inboundRun s l slot kind ms y0 y1).2.2.chip = s.chip ∧
    (State.inboundRun s l slot kind ms y0 y1).2.2.power = s.power := by
  induction y0 generalizing s y1 with
  | nil => simp [State.inboundRun]
  | cons a l ih => (simp only [State.inboundRun]; (repeat' split) <;> simp [ih])

@[simp] theorem fabricSignal_frame (s : State) (job f v : Nat) :
    (State.fabricSignal s job f v).pending = s.pending ∧ (State.fabricSignal s job f v).fresh = s.fresh ∧
    (State.fabricSignal s job f v).outbox = s.outbox ∧ (State.fabricSignal s job f v).tiles = s.tiles ∧
    (State.fabricSignal s job f v).dens = s.dens ∧ (State.fabricSignal s job f v).seam = s.seam ∧
    (State.fabricSignal s job f v).ic = s.ic ∧ (State.fabricSignal s job f v).dict = s.dict ∧
    (State.fabricSignal s job f v).repair = s.repair ∧ (State.fabricSignal s job f v).wells = s.wells ∧
    (State.fabricSignal s job f v).cisterns = s.cisterns ∧ (State.fabricSignal s job f v).wins = s.wins ∧
    (State.fabricSignal s job f v).ctls = s.ctls ∧ (State.fabricSignal s job f v).fab = s.fab ∧
    (State.fabricSignal s job f v).trust = s.trust ∧ (State.fabricSignal s job f v).meter = s.meter ∧
    (State.fabricSignal s job f v).saves = s.saves ∧ (State.fabricSignal s job f v).chip = s.chip ∧
    (State.fabricSignal s job f v).power = s.power ∧ (State.fabricSignal s job f v).mesh = s.mesh := by
  unfold State.fabricSignal; dsimp only; split <;> simp

@[simp] theorem queueMsg_frame (s : State) (fe : FrontEnd) (limit : Nat) (bs : List Byte) :
    (State.queueMsg s fe limit bs).pending = s.pending ∧ (State.queueMsg s fe limit bs).tiles = s.tiles ∧
    (State.queueMsg s fe limit bs).dens = s.dens ∧ (State.queueMsg s fe limit bs).seam = s.seam ∧
    (State.queueMsg s fe limit bs).host = s.host ∧ (State.queueMsg s fe limit bs).repair = s.repair ∧
    (State.queueMsg s fe limit bs).wells = s.wells ∧ (State.queueMsg s fe limit bs).cisterns = s.cisterns ∧
    (State.queueMsg s fe limit bs).wins = s.wins ∧ (State.queueMsg s fe limit bs).ctls = s.ctls ∧
    (State.queueMsg s fe limit bs).trust = s.trust ∧ (State.queueMsg s fe limit bs).meter = s.meter ∧
    (State.queueMsg s fe limit bs).saves = s.saves ∧ (State.queueMsg s fe limit bs).chip = s.chip ∧
    (State.queueMsg s fe limit bs).power = s.power := by
  unfold State.queueMsg; dsimp only; (repeat' split) <;> first | (simp; done) | (have e := snd_of_eq ‹_ = (_, _)›; subst e; simp; done) | (have e := snd2_of_eq ‹_ = (_, _, _)›; subst e; simp)

@[simp] theorem sendCustody_frame (s : State) (job peer kind : Nat) (body : List Byte) :
    (State.sendCustody s job peer kind body).pending = s.pending ∧ (State.sendCustody s job peer kind body).tiles = s.tiles ∧
    (State.sendCustody s job peer kind body).dens = s.dens ∧ (State.sendCustody s job peer kind body).seam = s.seam ∧
    (State.sendCustody s job peer kind body).ic = s.ic ∧ (State.sendCustody s job peer kind body).dict = s.dict ∧
    (State.sendCustody s job peer kind body).host = s.host ∧ (State.sendCustody s job peer kind body).repair = s.repair ∧
    (State.sendCustody s job peer kind body).wells = s.wells ∧ (State.sendCustody s job peer kind body).cisterns = s.cisterns ∧
    (State.sendCustody s job peer kind body).wins = s.wins ∧ (State.sendCustody s job peer kind body).ctls = s.ctls ∧
    (State.sendCustody s job peer kind body).trust = s.trust ∧ (State.sendCustody s job peer kind body).meter = s.meter ∧
    (State.sendCustody s job peer kind body).saves = s.saves ∧ (State.sendCustody s job peer kind body).chip = s.chip ∧
    (State.sendCustody s job peer kind body).power = s.power ∧ (State.sendCustody s job peer kind body).mesh = s.mesh := by
  unfold State.sendCustody; split <;> first | (simp; done) | simp [sendMsg_frame ‹_›]

@[simp] theorem loseLog_frame (s : State) (hit : LogEntry → Bool) :
    (State.loseLog s hit).pending = s.pending ∧ (State.loseLog s hit).fresh = s.fresh ∧ (State.loseLog s hit).outbox = s.outbox ∧
    (State.loseLog s hit).tiles = s.tiles ∧ (State.loseLog s hit).dens = s.dens ∧ (State.loseLog s hit).seam = s.seam ∧
    (State.loseLog s hit).host = s.host ∧ (State.loseLog s hit).repair = s.repair ∧ (State.loseLog s hit).wells = s.wells ∧
    (State.loseLog s hit).cisterns = s.cisterns ∧ (State.loseLog s hit).wins = s.wins ∧ (State.loseLog s hit).ctls = s.ctls ∧
    (State.loseLog s hit).trust = s.trust ∧ (State.loseLog s hit).meter = s.meter ∧ (State.loseLog s hit).saves = s.saves ∧
    (State.loseLog s hit).chip = s.chip ∧ (State.loseLog s hit).power = s.power ∧ (State.loseLog s hit).mesh = s.mesh := by
  unfold State.loseLog; split <;> simp

@[simp] theorem takeUnits_frame (s : State) (c tail : Nat) (ms : List LineMeet) (y0 : Nat) :
    (State.takeUnits s c tail ms y0).pending = s.pending ∧ (State.takeUnits s c tail ms y0).fresh = s.fresh ∧
    (State.takeUnits s c tail ms y0).outbox = s.outbox ∧ (State.takeUnits s c tail ms y0).seam = s.seam ∧
    (State.takeUnits s c tail ms y0).wins = s.wins ∧ (State.takeUnits s c tail ms y0).ctls = s.ctls ∧
    (State.takeUnits s c tail ms y0).trust = s.trust ∧ (State.takeUnits s c tail ms y0).meter = s.meter ∧
    (State.takeUnits s c tail ms y0).saves = s.saves ∧ (State.takeUnits s c tail ms y0).chip = s.chip ∧
    (State.takeUnits s c tail ms y0).power = s.power := by
  induction y0 generalizing s with
  | zero => simp [State.takeUnits]
  | succ n ih => (simp only [State.takeUnits]; (repeat' split) <;> simp [ih])

@[simp] theorem linkDown_frame (s : State) (l st : Nat) :
    (State.linkDown s l st).pending = s.pending ∧ (State.linkDown s l st).fresh = s.fresh ∧
    (State.linkDown s l st).outbox = s.outbox ∧ (State.linkDown s l st).tiles = s.tiles ∧ (State.linkDown s l st).dens = s.dens ∧
    (State.linkDown s l st).seam = s.seam ∧ (State.linkDown s l st).host = s.host ∧ (State.linkDown s l st).repair = s.repair ∧
    (State.linkDown s l st).wells = s.wells ∧ (State.linkDown s l st).cisterns = s.cisterns ∧
    (State.linkDown s l st).wins = s.wins ∧ (State.linkDown s l st).ctls = s.ctls ∧ (State.linkDown s l st).trust = s.trust ∧
    (State.linkDown s l st).meter = s.meter ∧ (State.linkDown s l st).saves = s.saves ∧ (State.linkDown s l st).chip = s.chip ∧
    (State.linkDown s l st).power = s.power := by
  simp [State.linkDown]

@[simp] theorem linkSpent_frame (s : State) (l : Nat) :
    (State.linkSpent s l).pending = s.pending ∧ (State.linkSpent s l).fresh = s.fresh ∧ (State.linkSpent s l).outbox = s.outbox ∧
    (State.linkSpent s l).tiles = s.tiles ∧ (State.linkSpent s l).dens = s.dens ∧ (State.linkSpent s l).seam = s.seam ∧
    (State.linkSpent s l).host = s.host ∧ (State.linkSpent s l).repair = s.repair ∧ (State.linkSpent s l).wells = s.wells ∧
    (State.linkSpent s l).cisterns = s.cisterns ∧ (State.linkSpent s l).wins = s.wins ∧ (State.linkSpent s l).ctls = s.ctls ∧
    (State.linkSpent s l).trust = s.trust ∧ (State.linkSpent s l).meter = s.meter ∧ (State.linkSpent s l).saves = s.saves ∧
    (State.linkSpent s l).chip = s.chip ∧ (State.linkSpent s l).power = s.power := by
  simp [State.linkSpent]

@[simp] theorem noteSpares_frame (s : State) (w : Nat) :
    (State.noteSpares s w).pending = s.pending ∧ (State.noteSpares s w).fresh = s.fresh ∧ (State.noteSpares s w).outbox = s.outbox ∧
    (State.noteSpares s w).tiles = s.tiles ∧ (State.noteSpares s w).dens = s.dens ∧ (State.noteSpares s w).seam = s.seam ∧
    (State.noteSpares s w).ic = s.ic ∧ (State.noteSpares s w).host = s.host ∧ (State.noteSpares s w).repair = s.repair ∧
    (State.noteSpares s w).wells = s.wells ∧ (State.noteSpares s w).cisterns = s.cisterns ∧ (State.noteSpares s w).wins = s.wins ∧
    (State.noteSpares s w).ctls = s.ctls ∧ (State.noteSpares s w).fab = s.fab ∧ (State.noteSpares s w).trust = s.trust ∧
    (State.noteSpares s w).meter = s.meter ∧ (State.noteSpares s w).saves = s.saves ∧ (State.noteSpares s w).chip = s.chip ∧
    (State.noteSpares s w).power = s.power ∧ (State.noteSpares s w).mesh = s.mesh := by
  exact ⟨rfl, rfl, rfl, rfl, rfl, rfl, rfl, rfl, rfl, rfl, rfl, rfl, rfl, rfl, rfl, rfl, rfl, rfl, rfl, rfl⟩

@[simp] theorem repairWells_frame (s : State) (l : List WellRepair) :
    (State.repairWells s l).pending = s.pending ∧ (State.repairWells s l).fresh = s.fresh ∧
    (State.repairWells s l).outbox = s.outbox ∧ (State.repairWells s l).tiles = s.tiles ∧ (State.repairWells s l).dens = s.dens ∧
    (State.repairWells s l).seam = s.seam ∧ (State.repairWells s l).ic = s.ic ∧ (State.repairWells s l).host = s.host ∧
    (State.repairWells s l).repair = s.repair ∧ (State.repairWells s l).cisterns = s.cisterns ∧
    (State.repairWells s l).wins = s.wins ∧ (State.repairWells s l).ctls = s.ctls ∧ (State.repairWells s l).fab = s.fab ∧
    (State.repairWells s l).trust = s.trust ∧ (State.repairWells s l).meter = s.meter ∧ (State.repairWells s l).saves = s.saves ∧
    (State.repairWells s l).chip = s.chip ∧ (State.repairWells s l).power = s.power ∧ (State.repairWells s l).mesh = s.mesh := by
  simp [State.repairWells]

@[simp] theorem loseShaft_frame (s : State) (w sh : Nat) :
    (State.loseShaft s w sh).pending = s.pending ∧ (State.loseShaft s w sh).fresh = s.fresh ∧
    (State.loseShaft s w sh).outbox = s.outbox ∧ (State.loseShaft s w sh).seam = s.seam ∧ (State.loseShaft s w sh).dict = s.dict ∧
    (State.loseShaft s w sh).cisterns = s.cisterns ∧ (State.loseShaft s w sh).wins = s.wins ∧
    (State.loseShaft s w sh).ctls = s.ctls ∧ (State.loseShaft s w sh).fab = s.fab ∧ (State.loseShaft s w sh).trust = s.trust ∧
    (State.loseShaft s w sh).meter = s.meter ∧ (State.loseShaft s w sh).saves = s.saves ∧ (State.loseShaft s w sh).chip = s.chip ∧
    (State.loseShaft s w sh).power = s.power := by
  simp [State.loseShaft]

@[simp] theorem loseLine_frame (s : State) (w sh line : Nat) :
    (State.loseLine s w sh line).pending = s.pending ∧ (State.loseLine s w sh line).fresh = s.fresh ∧
    (State.loseLine s w sh line).outbox = s.outbox ∧ (State.loseLine s w sh line).seam = s.seam ∧
    (State.loseLine s w sh line).cisterns = s.cisterns ∧ (State.loseLine s w sh line).wins = s.wins ∧
    (State.loseLine s w sh line).ctls = s.ctls ∧ (State.loseLine s w sh line).fab = s.fab ∧
    (State.loseLine s w sh line).trust = s.trust ∧ (State.loseLine s w sh line).meter = s.meter ∧
    (State.loseLine s w sh line).saves = s.saves ∧ (State.loseLine s w sh line).chip = s.chip ∧
    (State.loseLine s w sh line).power = s.power := by
  simp [State.loseLine]

@[simp] theorem copyLines_frame (s : State) (w : Nat) (c : Remap) (upto : Nat) (unreadable : List Nat) :
    (State.copyLines s w c upto unreadable).pending = s.pending ∧ (State.copyLines s w c upto unreadable).fresh = s.fresh ∧
    (State.copyLines s w c upto unreadable).outbox = s.outbox ∧ (State.copyLines s w c upto unreadable).seam = s.seam ∧
    (State.copyLines s w c upto unreadable).cisterns = s.cisterns ∧ (State.copyLines s w c upto unreadable).wins = s.wins ∧
    (State.copyLines s w c upto unreadable).ctls = s.ctls ∧ (State.copyLines s w c upto unreadable).fab = s.fab ∧
    (State.copyLines s w c upto unreadable).trust = s.trust ∧ (State.copyLines s w c upto unreadable).meter = s.meter ∧
    (State.copyLines s w c upto unreadable).saves = s.saves ∧ (State.copyLines s w c upto unreadable).chip = s.chip ∧
    (State.copyLines s w c upto unreadable).power = s.power := by
  simp [State.copyLines]

@[simp] theorem writeCmd_frame (s : State) (slot : Nat) (v : List Byte) :
    (State.writeCmd s slot v).2.pending = s.pending ∧ (State.writeCmd s slot v).2.fresh = s.fresh ∧
    (State.writeCmd s slot v).2.outbox = s.outbox ∧ (State.writeCmd s slot v).2.tiles = s.tiles ∧
    (State.writeCmd s slot v).2.seam = s.seam ∧ (State.writeCmd s slot v).2.ic = s.ic ∧ (State.writeCmd s slot v).2.dict = s.dict ∧
    (State.writeCmd s slot v).2.host = s.host ∧ (State.writeCmd s slot v).2.repair = s.repair ∧
    (State.writeCmd s slot v).2.wells = s.wells ∧ (State.writeCmd s slot v).2.cisterns = s.cisterns ∧
    (State.writeCmd s slot v).2.wins = s.wins ∧ (State.writeCmd s slot v).2.ctls = s.ctls ∧
    (State.writeCmd s slot v).2.fab = s.fab ∧ (State.writeCmd s slot v).2.trust = s.trust ∧
    (State.writeCmd s slot v).2.meter = s.meter ∧ (State.writeCmd s slot v).2.saves = s.saves ∧
    (State.writeCmd s slot v).2.chip = s.chip ∧ (State.writeCmd s slot v).2.power = s.power ∧
    (State.writeCmd s slot v).2.mesh = s.mesh := by
  unfold State.writeCmd; split <;> simp

@[simp] theorem askImage_frame (s : State) (d : Den) (a len : Nat) :
    (State.askImage s d a len).pending = s.pending ∧ (State.askImage s d a len).fresh = s.fresh ∧
    (State.askImage s d a len).tiles = s.tiles ∧ (State.askImage s d a len).dens = s.dens ∧
    (State.askImage s d a len).seam = s.seam ∧ (State.askImage s d a len).ic = s.ic ∧ (State.askImage s d a len).dict = s.dict ∧
    (State.askImage s d a len).host = s.host ∧ (State.askImage s d a len).repair = s.repair ∧
    (State.askImage s d a len).wells = s.wells ∧ (State.askImage s d a len).cisterns = s.cisterns ∧
    (State.askImage s d a len).wins = s.wins ∧ (State.askImage s d a len).ctls = s.ctls ∧ (State.askImage s d a len).fab = s.fab ∧
    (State.askImage s d a len).trust = s.trust ∧ (State.askImage s d a len).meter = s.meter ∧
    (State.askImage s d a len).saves = s.saves ∧ (State.askImage s d a len).chip = s.chip ∧
    (State.askImage s d a len).power = s.power ∧ (State.askImage s d a len).mesh = s.mesh := by
  exact ⟨rfl, rfl, rfl, rfl, rfl, rfl, rfl, rfl, rfl, rfl, rfl, rfl, rfl, rfl, rfl, rfl, rfl, rfl, rfl, rfl⟩

@[simp] theorem takeRestored_frame (s : State) (q : Nat) :
    (State.takeRestored s q).pending = s.pending ∧ (State.takeRestored s q).outbox = s.outbox ∧
    (State.takeRestored s q).tiles = s.tiles ∧ (State.takeRestored s q).dens = s.dens ∧ (State.takeRestored s q).seam = s.seam ∧
    (State.takeRestored s q).ic = s.ic ∧ (State.takeRestored s q).dict = s.dict ∧ (State.takeRestored s q).repair = s.repair ∧
    (State.takeRestored s q).wells = s.wells ∧ (State.takeRestored s q).cisterns = s.cisterns ∧
    (State.takeRestored s q).wins = s.wins ∧ (State.takeRestored s q).ctls = s.ctls ∧ (State.takeRestored s q).fab = s.fab ∧
    (State.takeRestored s q).trust = s.trust ∧ (State.takeRestored s q).meter = s.meter ∧ (State.takeRestored s q).saves = s.saves ∧
    (State.takeRestored s q).chip = s.chip ∧ (State.takeRestored s q).power = s.power ∧ (State.takeRestored s q).mesh = s.mesh := by
  simp [State.takeRestored]

@[simp] theorem copyShafts_frame (s : State) (ms : List LineMeet) (a b : Rect) (bytes : Nat) (y0 : List Nat) :
    (State.copyShafts s ms a b bytes y0).2.pending = s.pending ∧ (State.copyShafts s ms a b bytes y0).2.fresh = s.fresh ∧
    (State.copyShafts s ms a b bytes y0).2.outbox = s.outbox ∧ (State.copyShafts s ms a b bytes y0).2.seam = s.seam ∧
    (State.copyShafts s ms a b bytes y0).2.wins = s.wins ∧ (State.copyShafts s ms a b bytes y0).2.ctls = s.ctls ∧
    (State.copyShafts s ms a b bytes y0).2.fab = s.fab ∧ (State.copyShafts s ms a b bytes y0).2.trust = s.trust ∧
    (State.copyShafts s ms a b bytes y0).2.meter = s.meter ∧ (State.copyShafts s ms a b bytes y0).2.saves = s.saves ∧
    (State.copyShafts s ms a b bytes y0).2.chip = s.chip ∧ (State.copyShafts s ms a b bytes y0).2.power = s.power := by
  induction y0 generalizing s with
  | nil => simp [State.copyShafts]
  | cons a l ih => (simp only [State.copyShafts]; (repeat' split) <;> simp [ih])

@[simp] theorem endMove_frame (s : State) (slot : Nat) (q : Rect) (es : List Extent) :
    (State.endMove s slot q es).pending = s.pending ∧ (State.endMove s slot q es).fresh = s.fresh ∧
    (State.endMove s slot q es).outbox = s.outbox ∧ (State.endMove s slot q es).ic = s.ic ∧
    (State.endMove s slot q es).dict = s.dict ∧ (State.endMove s slot q es).host = s.host ∧
    (State.endMove s slot q es).repair = s.repair ∧ (State.endMove s slot q es).wells = s.wells ∧
    (State.endMove s slot q es).cisterns = s.cisterns ∧ (State.endMove s slot q es).wins = s.wins ∧
    (State.endMove s slot q es).ctls = s.ctls ∧ (State.endMove s slot q es).trust = s.trust ∧
    (State.endMove s slot q es).meter = s.meter ∧ (State.endMove s slot q es).saves = s.saves ∧
    (State.endMove s slot q es).chip = s.chip ∧ (State.endMove s slot q es).power = s.power := by
  simp [State.endMove]

@[simp] theorem dropMove_frame (s : State) (slot : Nat) :
    (State.dropMove s slot).pending = s.pending ∧ (State.dropMove s slot).fresh = s.fresh ∧
    (State.dropMove s slot).outbox = s.outbox ∧ (State.dropMove s slot).tiles = s.tiles ∧ (State.dropMove s slot).seam = s.seam ∧
    (State.dropMove s slot).ic = s.ic ∧ (State.dropMove s slot).dict = s.dict ∧ (State.dropMove s slot).host = s.host ∧
    (State.dropMove s slot).repair = s.repair ∧ (State.dropMove s slot).wells = s.wells ∧
    (State.dropMove s slot).cisterns = s.cisterns ∧ (State.dropMove s slot).wins = s.wins ∧ (State.dropMove s slot).ctls = s.ctls ∧
    (State.dropMove s slot).fab = s.fab ∧ (State.dropMove s slot).trust = s.trust ∧ (State.dropMove s slot).meter = s.meter ∧
    (State.dropMove s slot).saves = s.saves ∧ (State.dropMove s slot).chip = s.chip ∧ (State.dropMove s slot).power = s.power ∧
    (State.dropMove s slot).mesh = s.mesh := by
  exact ⟨rfl, rfl, rfl, rfl, rfl, rfl, rfl, rfl, rfl, rfl, rfl, rfl, rfl, rfl, rfl, rfl, rfl, rfl, rfl, rfl⟩

@[simp] theorem moveOn_frame (s : State) (slot : Nat) (c : DenCmd) (m : Move) (n : Nat) (ms : List LineMeet) (es : List Extent) :
    (State.moveOn s slot c m n ms es).pending = s.pending ∧ (State.moveOn s slot c m n ms es).fresh = s.fresh ∧
    (State.moveOn s slot c m n ms es).outbox = s.outbox ∧ (State.moveOn s slot c m n ms es).wins = s.wins ∧
    (State.moveOn s slot c m n ms es).ctls = s.ctls ∧ (State.moveOn s slot c m n ms es).trust = s.trust ∧
    (State.moveOn s slot c m n ms es).meter = s.meter ∧ (State.moveOn s slot c m n ms es).saves = s.saves ∧
    (State.moveOn s slot c m n ms es).chip = s.chip ∧ (State.moveOn s slot c m n ms es).power = s.power := by
  unfold State.moveOn; dsimp only; (repeat' split) <;> simp

@[simp] theorem dropApers_frame (s : State) (slot : Nat) :
    (State.dropApers s slot).pending = s.pending ∧ (State.dropApers s slot).fresh = s.fresh ∧
    (State.dropApers s slot).outbox = s.outbox ∧ (State.dropApers s slot).tiles = s.tiles ∧ (State.dropApers s slot).dens = s.dens ∧
    (State.dropApers s slot).seam = s.seam ∧ (State.dropApers s slot).ic = s.ic ∧ (State.dropApers s slot).dict = s.dict ∧
    (State.dropApers s slot).repair = s.repair ∧ (State.dropApers s slot).wells = s.wells ∧
    (State.dropApers s slot).cisterns = s.cisterns ∧ (State.dropApers s slot).wins = s.wins ∧
    (State.dropApers s slot).ctls = s.ctls ∧ (State.dropApers s slot).fab = s.fab ∧ (State.dropApers s slot).trust = s.trust ∧
    (State.dropApers s slot).meter = s.meter ∧ (State.dropApers s slot).saves = s.saves ∧ (State.dropApers s slot).chip = s.chip ∧
    (State.dropApers s slot).power = s.power ∧ (State.dropApers s slot).mesh = s.mesh := by
  exact ⟨rfl, rfl, rfl, rfl, rfl, rfl, rfl, rfl, rfl, rfl, rfl, rfl, rfl, rfl, rfl, rfl, rfl, rfl, rfl, rfl⟩

@[simp] theorem stopQueues_frame (s : State) (slot : Nat) :
    (State.stopQueues s slot).pending = s.pending ∧ (State.stopQueues s slot).fresh = s.fresh ∧
    (State.stopQueues s slot).outbox = s.outbox ∧ (State.stopQueues s slot).tiles = s.tiles ∧
    (State.stopQueues s slot).dens = s.dens ∧ (State.stopQueues s slot).seam = s.seam ∧ (State.stopQueues s slot).ic = s.ic ∧
    (State.stopQueues s slot).dict = s.dict ∧ (State.stopQueues s slot).repair = s.repair ∧
    (State.stopQueues s slot).wells = s.wells ∧ (State.stopQueues s slot).cisterns = s.cisterns ∧
    (State.stopQueues s slot).wins = s.wins ∧ (State.stopQueues s slot).ctls = s.ctls ∧ (State.stopQueues s slot).fab = s.fab ∧
    (State.stopQueues s slot).trust = s.trust ∧ (State.stopQueues s slot).meter = s.meter ∧
    (State.stopQueues s slot).saves = s.saves ∧ (State.stopQueues s slot).chip = s.chip ∧
    (State.stopQueues s slot).power = s.power ∧ (State.stopQueues s slot).mesh = s.mesh := by
  unfold State.stopQueues; dsimp only; (repeat' split) <;> simp (disch := (intros; (repeat' split) <;> simp [*]))

@[simp] theorem loseCustody_frame (s : State) (slot : Nat) :
    (State.loseCustody s slot).pending = s.pending ∧ (State.loseCustody s slot).tiles = s.tiles ∧
    (State.loseCustody s slot).dens = s.dens ∧ (State.loseCustody s slot).seam = s.seam ∧ (State.loseCustody s slot).ic = s.ic ∧
    (State.loseCustody s slot).dict = s.dict ∧ (State.loseCustody s slot).host = s.host ∧
    (State.loseCustody s slot).repair = s.repair ∧ (State.loseCustody s slot).wells = s.wells ∧
    (State.loseCustody s slot).cisterns = s.cisterns ∧ (State.loseCustody s slot).wins = s.wins ∧
    (State.loseCustody s slot).ctls = s.ctls ∧ (State.loseCustody s slot).trust = s.trust ∧
    (State.loseCustody s slot).meter = s.meter ∧ (State.loseCustody s slot).saves = s.saves ∧
    (State.loseCustody s slot).chip = s.chip ∧ (State.loseCustody s slot).power = s.power ∧ (State.loseCustody s slot).mesh = s.mesh := by
  simp [State.loseCustody]

@[simp] theorem dropChans_frame (s : State) (slot : Nat) :
    (State.dropChans s slot).pending = s.pending ∧ (State.dropChans s slot).fresh = s.fresh ∧
    (State.dropChans s slot).outbox = s.outbox ∧ (State.dropChans s slot).tiles = s.tiles ∧ (State.dropChans s slot).dens = s.dens ∧
    (State.dropChans s slot).seam = s.seam ∧ (State.dropChans s slot).ic = s.ic ∧ (State.dropChans s slot).dict = s.dict ∧
    (State.dropChans s slot).host = s.host ∧ (State.dropChans s slot).repair = s.repair ∧ (State.dropChans s slot).wells = s.wells ∧
    (State.dropChans s slot).cisterns = s.cisterns ∧ (State.dropChans s slot).wins = s.wins ∧
    (State.dropChans s slot).ctls = s.ctls ∧ (State.dropChans s slot).trust = s.trust ∧ (State.dropChans s slot).meter = s.meter ∧
    (State.dropChans s slot).saves = s.saves ∧ (State.dropChans s slot).chip = s.chip ∧ (State.dropChans s slot).power = s.power ∧
    (State.dropChans s slot).mesh = s.mesh := by
  exact ⟨rfl, rfl, rfl, rfl, rfl, rfl, rfl, rfl, rfl, rfl, rfl, rfl, rfl, rfl, rfl, rfl, rfl, rfl, rfl, rfl⟩

@[simp] theorem tdiError_frame (s : State) (slot : Nat) :
    (State.tdiError s slot).pending = s.pending ∧ (State.tdiError s slot).fresh = s.fresh ∧
    (State.tdiError s slot).outbox = s.outbox ∧ (State.tdiError s slot).tiles = s.tiles ∧ (State.tdiError s slot).dens = s.dens ∧
    (State.tdiError s slot).seam = s.seam ∧ (State.tdiError s slot).dict = s.dict ∧ (State.tdiError s slot).host = s.host ∧
    (State.tdiError s slot).repair = s.repair ∧ (State.tdiError s slot).wells = s.wells ∧
    (State.tdiError s slot).cisterns = s.cisterns ∧ (State.tdiError s slot).wins = s.wins ∧ (State.tdiError s slot).ctls = s.ctls ∧
    (State.tdiError s slot).fab = s.fab ∧ (State.tdiError s slot).meter = s.meter ∧ (State.tdiError s slot).saves = s.saves ∧
    (State.tdiError s slot).chip = s.chip ∧ (State.tdiError s slot).power = s.power ∧ (State.tdiError s slot).mesh = s.mesh := by
  unfold State.tdiError; split <;> simp

@[simp] theorem stopMarch_frame (s : State) (slot : Nat) :
    (State.stopMarch s slot).pending = s.pending ∧ (State.stopMarch s slot).fresh = s.fresh ∧
    (State.stopMarch s slot).outbox = s.outbox ∧ (State.stopMarch s slot).tiles = s.tiles ∧ (State.stopMarch s slot).dens = s.dens ∧
    (State.stopMarch s slot).seam = s.seam ∧ (State.stopMarch s slot).ic = s.ic ∧ (State.stopMarch s slot).dict = s.dict ∧
    (State.stopMarch s slot).host = s.host ∧ (State.stopMarch s slot).wells = s.wells ∧
    (State.stopMarch s slot).cisterns = s.cisterns ∧ (State.stopMarch s slot).wins = s.wins ∧
    (State.stopMarch s slot).ctls = s.ctls ∧ (State.stopMarch s slot).fab = s.fab ∧ (State.stopMarch s slot).trust = s.trust ∧
    (State.stopMarch s slot).meter = s.meter ∧ (State.stopMarch s slot).saves = s.saves ∧ (State.stopMarch s slot).chip = s.chip ∧
    (State.stopMarch s slot).power = s.power ∧ (State.stopMarch s slot).mesh = s.mesh := by
  exact ⟨rfl, rfl, rfl, rfl, rfl, rfl, rfl, rfl, rfl, rfl, rfl, rfl, rfl, rfl, rfl, rfl, rfl, rfl, rfl, rfl⟩

@[simp] theorem beginRelease_frame (s : State) (slot : Nat) :
    (State.beginRelease s slot).pending = s.pending ∧ (State.beginRelease s slot).dict = s.dict ∧
    (State.beginRelease s slot).wells = s.wells ∧ (State.beginRelease s slot).cisterns = s.cisterns ∧
    (State.beginRelease s slot).wins = s.wins ∧ (State.beginRelease s slot).ctls = s.ctls ∧
    (State.beginRelease s slot).meter = s.meter ∧ (State.beginRelease s slot).saves = s.saves ∧
    (State.beginRelease s slot).chip = s.chip ∧ (State.beginRelease s slot).power = s.power ∧
    (State.beginRelease s slot).mesh = s.mesh := by
  unfold State.beginRelease; dsimp only; split <;> simp

@[simp] theorem scrubShaftFail_frame (s : State) (t : Nat) :
    (State.scrubShaftFail s t).pending = s.pending ∧ (State.scrubShaftFail s t).fresh = s.fresh ∧
    (State.scrubShaftFail s t).outbox = s.outbox ∧ (State.scrubShaftFail s t).seam = s.seam ∧
    (State.scrubShaftFail s t).cisterns = s.cisterns ∧ (State.scrubShaftFail s t).wins = s.wins ∧
    (State.scrubShaftFail s t).ctls = s.ctls ∧ (State.scrubShaftFail s t).fab = s.fab ∧ (State.scrubShaftFail s t).trust = s.trust ∧
    (State.scrubShaftFail s t).meter = s.meter ∧ (State.scrubShaftFail s t).saves = s.saves ∧
    (State.scrubShaftFail s t).chip = s.chip ∧ (State.scrubShaftFail s t).power = s.power := by
  unfold State.scrubShaftFail; dsimp only; split <;> simp

@[simp] theorem scrubPageFail_frame (s : State) (a : Nat) :
    (State.scrubPageFail s a).pending = s.pending ∧ (State.scrubPageFail s a).fresh = s.fresh ∧
    (State.scrubPageFail s a).outbox = s.outbox ∧ (State.scrubPageFail s a).tiles = s.tiles ∧
    (State.scrubPageFail s a).dens = s.dens ∧ (State.scrubPageFail s a).seam = s.seam ∧ (State.scrubPageFail s a).host = s.host ∧
    (State.scrubPageFail s a).repair = s.repair ∧ (State.scrubPageFail s a).wells = s.wells ∧
    (State.scrubPageFail s a).wins = s.wins ∧ (State.scrubPageFail s a).ctls = s.ctls ∧ (State.scrubPageFail s a).fab = s.fab ∧
    (State.scrubPageFail s a).trust = s.trust ∧ (State.scrubPageFail s a).meter = s.meter ∧
    (State.scrubPageFail s a).saves = s.saves ∧ (State.scrubPageFail s a).chip = s.chip ∧ (State.scrubPageFail s a).power = s.power := by
  simp [State.scrubPageFail]

@[simp] theorem zeroCis_frame (s : State) (ms : List LineMeet) (r : PRange) :
    (State.zeroCis s ms r).pending = s.pending ∧ (State.zeroCis s ms r).fresh = s.fresh ∧ (State.zeroCis s ms r).outbox = s.outbox ∧
    (State.zeroCis s ms r).seam = s.seam ∧ (State.zeroCis s ms r).wins = s.wins ∧ (State.zeroCis s ms r).ctls = s.ctls ∧
    (State.zeroCis s ms r).fab = s.fab ∧ (State.zeroCis s ms r).trust = s.trust ∧ (State.zeroCis s ms r).meter = s.meter ∧
    (State.zeroCis s ms r).saves = s.saves ∧ (State.zeroCis s ms r).chip = s.chip ∧ (State.zeroCis s ms r).power = s.power := by
  simp [State.zeroCis]

@[simp] theorem reportMembers_frame (s : State) (slot : Nat) (es : List (Option Batch)) (c : Code) :
    (State.reportMembers s slot es c).pending = s.pending ∧ (State.reportMembers s slot es c).fresh = s.fresh ∧
    (State.reportMembers s slot es c).tiles = s.tiles ∧ (State.reportMembers s slot es c).dens = s.dens ∧
    (State.reportMembers s slot es c).seam = s.seam ∧ (State.reportMembers s slot es c).ic = s.ic ∧
    (State.reportMembers s slot es c).dict = s.dict ∧ (State.reportMembers s slot es c).host = s.host ∧
    (State.reportMembers s slot es c).repair = s.repair ∧ (State.reportMembers s slot es c).wells = s.wells ∧
    (State.reportMembers s slot es c).cisterns = s.cisterns ∧ (State.reportMembers s slot es c).wins = s.wins ∧
    (State.reportMembers s slot es c).ctls = s.ctls ∧ (State.reportMembers s slot es c).fab = s.fab ∧
    (State.reportMembers s slot es c).trust = s.trust ∧ (State.reportMembers s slot es c).meter = s.meter ∧
    (State.reportMembers s slot es c).saves = s.saves ∧ (State.reportMembers s slot es c).chip = s.chip ∧
    (State.reportMembers s slot es c).power = s.power ∧ (State.reportMembers s slot es c).mesh = s.mesh := by
  unfold State.reportMembers; simp (disch := (intros; split <;> simp))

@[simp] theorem startStep_frame (s : State) (slot q waited : Nat) (c : Cur) :
    (State.startStep s slot q waited c).pending = s.pending ∧ (State.startStep s slot q waited c).fresh = s.fresh ∧
    (State.startStep s slot q waited c).outbox = s.outbox ∧ (State.startStep s slot q waited c).seam = s.seam ∧
    (State.startStep s slot q waited c).ic = s.ic ∧ (State.startStep s slot q waited c).dict = s.dict ∧
    (State.startStep s slot q waited c).repair = s.repair ∧ (State.startStep s slot q waited c).wells = s.wells ∧
    (State.startStep s slot q waited c).cisterns = s.cisterns ∧ (State.startStep s slot q waited c).wins = s.wins ∧
    (State.startStep s slot q waited c).ctls = s.ctls ∧ (State.startStep s slot q waited c).fab = s.fab ∧
    (State.startStep s slot q waited c).trust = s.trust ∧ (State.startStep s slot q waited c).meter = s.meter ∧
    (State.startStep s slot q waited c).saves = s.saves ∧ (State.startStep s slot q waited c).chip = s.chip ∧
    (State.startStep s slot q waited c).power = s.power := by
  simp [State.startStep]

@[simp] theorem doorbellDrop_frame (s : State) :
    (State.doorbellDrop s).pending = s.pending ∧ (State.doorbellDrop s).fresh = s.fresh ∧ (State.doorbellDrop s).outbox = s.outbox ∧
    (State.doorbellDrop s).tiles = s.tiles ∧ (State.doorbellDrop s).dens = s.dens ∧ (State.doorbellDrop s).seam = s.seam ∧
    (State.doorbellDrop s).ic = s.ic ∧ (State.doorbellDrop s).host = s.host ∧ (State.doorbellDrop s).repair = s.repair ∧
    (State.doorbellDrop s).wells = s.wells ∧ (State.doorbellDrop s).cisterns = s.cisterns ∧ (State.doorbellDrop s).wins = s.wins ∧
    (State.doorbellDrop s).ctls = s.ctls ∧ (State.doorbellDrop s).fab = s.fab ∧ (State.doorbellDrop s).trust = s.trust ∧
    (State.doorbellDrop s).meter = s.meter ∧ (State.doorbellDrop s).saves = s.saves ∧ (State.doorbellDrop s).chip = s.chip ∧
    (State.doorbellDrop s).power = s.power ∧ (State.doorbellDrop s).mesh = s.mesh := by
  exact ⟨rfl, rfl, rfl, rfl, rfl, rfl, rfl, rfl, rfl, rfl, rfl, rfl, rfl, rfl, rfl, rfl, rfl, rfl, rfl, rfl⟩

@[simp] theorem doorbell_frame (page v : Nat) (kindOk : Bool) (move : Queue → Nat → Option Queue) (s : State) :
    (doorbell page v kindOk move s).pending = s.pending ∧ (doorbell page v kindOk move s).fresh = s.fresh ∧
    (doorbell page v kindOk move s).outbox = s.outbox ∧ (doorbell page v kindOk move s).tiles = s.tiles ∧
    (doorbell page v kindOk move s).dens = s.dens ∧ (doorbell page v kindOk move s).seam = s.seam ∧
    (doorbell page v kindOk move s).ic = s.ic ∧ (doorbell page v kindOk move s).repair = s.repair ∧
    (doorbell page v kindOk move s).wells = s.wells ∧ (doorbell page v kindOk move s).cisterns = s.cisterns ∧
    (doorbell page v kindOk move s).wins = s.wins ∧ (doorbell page v kindOk move s).ctls = s.ctls ∧
    (doorbell page v kindOk move s).fab = s.fab ∧ (doorbell page v kindOk move s).trust = s.trust ∧
    (doorbell page v kindOk move s).meter = s.meter ∧ (doorbell page v kindOk move s).saves = s.saves ∧
    (doorbell page v kindOk move s).chip = s.chip ∧ (doorbell page v kindOk move s).power = s.power ∧
    (doorbell page v kindOk move s).mesh = s.mesh := by
  unfold doorbell; dsimp only; (repeat' split) <;> simp

@[simp] theorem entryGo_frame (s : State) (q : Nat) :
    (State.entryGo s q).pending = s.pending ∧ (State.entryGo s q).fresh = s.fresh ∧ (State.entryGo s q).outbox = s.outbox ∧
    (State.entryGo s q).tiles = s.tiles ∧ (State.entryGo s q).dens = s.dens ∧ (State.entryGo s q).seam = s.seam ∧
    (State.entryGo s q).ic = s.ic ∧ (State.entryGo s q).dict = s.dict ∧ (State.entryGo s q).repair = s.repair ∧
    (State.entryGo s q).wells = s.wells ∧ (State.entryGo s q).cisterns = s.cisterns ∧ (State.entryGo s q).wins = s.wins ∧
    (State.entryGo s q).ctls = s.ctls ∧ (State.entryGo s q).fab = s.fab ∧ (State.entryGo s q).trust = s.trust ∧
    (State.entryGo s q).meter = s.meter ∧ (State.entryGo s q).saves = s.saves ∧ (State.entryGo s q).chip = s.chip ∧
    (State.entryGo s q).power = s.power ∧ (State.entryGo s q).mesh = s.mesh := by
  simp [State.entryGo]

@[simp] theorem entryWait_frame (s : State) (q : Nat) (e : Entry) :
    (State.entryWait s q e).pending = s.pending ∧ (State.entryWait s q e).fresh = s.fresh ∧
    (State.entryWait s q e).outbox = s.outbox ∧ (State.entryWait s q e).tiles = s.tiles ∧ (State.entryWait s q e).dens = s.dens ∧
    (State.entryWait s q e).seam = s.seam ∧ (State.entryWait s q e).ic = s.ic ∧ (State.entryWait s q e).dict = s.dict ∧
    (State.entryWait s q e).repair = s.repair ∧ (State.entryWait s q e).wells = s.wells ∧
    (State.entryWait s q e).cisterns = s.cisterns ∧ (State.entryWait s q e).wins = s.wins ∧ (State.entryWait s q e).ctls = s.ctls ∧
    (State.entryWait s q e).fab = s.fab ∧ (State.entryWait s q e).trust = s.trust ∧ (State.entryWait s q e).meter = s.meter ∧
    (State.entryWait s q e).saves = s.saves ∧ (State.entryWait s q e).chip = s.chip ∧ (State.entryWait s q e).power = s.power ∧
    (State.entryWait s q e).mesh = s.mesh := by
  unfold State.entryWait; dsimp only; (repeat' split) <;> simp

@[simp] theorem takeEntry_frame (s : State) (q : Nat) (bs : Option (List Byte)) (batch : HostRead) :
    (State.takeEntry s q bs batch).pending = s.pending ∧ (State.takeEntry s q bs batch).fresh = s.fresh ∧
    (State.takeEntry s q bs batch).tiles = s.tiles ∧ (State.takeEntry s q bs batch).dens = s.dens ∧
    (State.takeEntry s q bs batch).seam = s.seam ∧ (State.takeEntry s q bs batch).ic = s.ic ∧
    (State.takeEntry s q bs batch).dict = s.dict ∧ (State.takeEntry s q bs batch).repair = s.repair ∧
    (State.takeEntry s q bs batch).wells = s.wells ∧ (State.takeEntry s q bs batch).cisterns = s.cisterns ∧
    (State.takeEntry s q bs batch).wins = s.wins ∧ (State.takeEntry s q bs batch).ctls = s.ctls ∧
    (State.takeEntry s q bs batch).fab = s.fab ∧ (State.takeEntry s q bs batch).trust = s.trust ∧
    (State.takeEntry s q bs batch).meter = s.meter ∧ (State.takeEntry s q bs batch).saves = s.saves ∧
    (State.takeEntry s q bs batch).chip = s.chip ∧ (State.takeEntry s q bs batch).power = s.power ∧
    (State.takeEntry s q bs batch).mesh = s.mesh := by
  unfold State.takeEntry; dsimp only; (repeat' split) <;> simp

@[simp] theorem disableQueue_frame (s : State) (q : Nat) :
    (State.disableQueue s q).pending = s.pending ∧ (State.disableQueue s q).fresh = s.fresh ∧
    (State.disableQueue s q).outbox = s.outbox ∧ (State.disableQueue s q).tiles = s.tiles ∧ (State.disableQueue s q).seam = s.seam ∧
    (State.disableQueue s q).ic = s.ic ∧ (State.disableQueue s q).dict = s.dict ∧ (State.disableQueue s q).repair = s.repair ∧
    (State.disableQueue s q).wells = s.wells ∧ (State.disableQueue s q).cisterns = s.cisterns ∧
    (State.disableQueue s q).wins = s.wins ∧ (State.disableQueue s q).ctls = s.ctls ∧ (State.disableQueue s q).fab = s.fab ∧
    (State.disableQueue s q).trust = s.trust ∧ (State.disableQueue s q).meter = s.meter ∧ (State.disableQueue s q).saves = s.saves ∧
    (State.disableQueue s q).chip = s.chip ∧ (State.disableQueue s q).power = s.power ∧ (State.disableQueue s q).mesh = s.mesh := by
  simp [State.disableQueue]

@[simp] theorem discardEntry_frame (s : State) (q index : Nat) (r : HostRead) :
    (State.discardEntry s q index r).pending = s.pending ∧ (State.discardEntry s q index r).tiles = s.tiles ∧
    (State.discardEntry s q index r).dens = s.dens ∧ (State.discardEntry s q index r).seam = s.seam ∧
    (State.discardEntry s q index r).ic = s.ic ∧ (State.discardEntry s q index r).dict = s.dict ∧
    (State.discardEntry s q index r).repair = s.repair ∧ (State.discardEntry s q index r).wells = s.wells ∧
    (State.discardEntry s q index r).cisterns = s.cisterns ∧ (State.discardEntry s q index r).wins = s.wins ∧
    (State.discardEntry s q index r).ctls = s.ctls ∧ (State.discardEntry s q index r).fab = s.fab ∧
    (State.discardEntry s q index r).trust = s.trust ∧ (State.discardEntry s q index r).meter = s.meter ∧
    (State.discardEntry s q index r).saves = s.saves ∧ (State.discardEntry s q index r).chip = s.chip ∧
    (State.discardEntry s q index r).power = s.power ∧ (State.discardEntry s q index r).mesh = s.mesh := by
  unfold State.discardEntry; split <;> simp

@[simp] theorem emptyPage_frame (s : State) (p : Nat) :
    (State.emptyPage s p).pending = s.pending ∧ (State.emptyPage s p).fresh = s.fresh ∧ (State.emptyPage s p).outbox = s.outbox ∧
    (State.emptyPage s p).tiles = s.tiles ∧ (State.emptyPage s p).dens = s.dens ∧ (State.emptyPage s p).seam = s.seam ∧
    (State.emptyPage s p).ic = s.ic ∧ (State.emptyPage s p).host = s.host ∧ (State.emptyPage s p).repair = s.repair ∧
    (State.emptyPage s p).wells = s.wells ∧ (State.emptyPage s p).cisterns = s.cisterns ∧ (State.emptyPage s p).wins = s.wins ∧
    (State.emptyPage s p).ctls = s.ctls ∧ (State.emptyPage s p).fab = s.fab ∧ (State.emptyPage s p).trust = s.trust ∧
    (State.emptyPage s p).meter = s.meter ∧ (State.emptyPage s p).saves = s.saves ∧ (State.emptyPage s p).chip = s.chip ∧
    (State.emptyPage s p).power = s.power ∧ (State.emptyPage s p).mesh = s.mesh := by
  exact ⟨rfl, rfl, rfl, rfl, rfl, rfl, rfl, rfl, rfl, rfl, rfl, rfl, rfl, rfl, rfl, rfl, rfl, rfl, rfl, rfl⟩

@[simp] theorem abandonFence_frame (s : State) (f : Nat) :
    (State.abandonFence s f).pending = s.pending ∧ (State.abandonFence s f).fresh = s.fresh ∧
    (State.abandonFence s f).outbox = s.outbox ∧ (State.abandonFence s f).tiles = s.tiles ∧ (State.abandonFence s f).dens = s.dens ∧
    (State.abandonFence s f).seam = s.seam ∧ (State.abandonFence s f).ic = s.ic ∧ (State.abandonFence s f).dict = s.dict ∧
    (State.abandonFence s f).repair = s.repair ∧ (State.abandonFence s f).wells = s.wells ∧
    (State.abandonFence s f).cisterns = s.cisterns ∧ (State.abandonFence s f).wins = s.wins ∧
    (State.abandonFence s f).ctls = s.ctls ∧ (State.abandonFence s f).fab = s.fab ∧ (State.abandonFence s f).trust = s.trust ∧
    (State.abandonFence s f).meter = s.meter ∧ (State.abandonFence s f).saves = s.saves ∧ (State.abandonFence s f).chip = s.chip ∧
    (State.abandonFence s f).power = s.power ∧ (State.abandonFence s f).mesh = s.mesh := by
  simp [State.abandonFence]

@[simp] theorem forceRelease_frame (s : State) (slot : Nat) :
    (State.forceRelease s slot).pending = s.pending ∧ (State.forceRelease s slot).fresh = s.fresh ∧
    (State.forceRelease s slot).outbox = s.outbox ∧ (State.forceRelease s slot).tiles = s.tiles ∧
    (State.forceRelease s slot).seam = s.seam ∧ (State.forceRelease s slot).ic = s.ic ∧ (State.forceRelease s slot).dict = s.dict ∧
    (State.forceRelease s slot).host = s.host ∧ (State.forceRelease s slot).repair = s.repair ∧
    (State.forceRelease s slot).wells = s.wells ∧ (State.forceRelease s slot).cisterns = s.cisterns ∧
    (State.forceRelease s slot).wins = s.wins ∧ (State.forceRelease s slot).ctls = s.ctls ∧
    (State.forceRelease s slot).fab = s.fab ∧ (State.forceRelease s slot).trust = s.trust ∧
    (State.forceRelease s slot).meter = s.meter ∧ (State.forceRelease s slot).saves = s.saves ∧
    (State.forceRelease s slot).chip = s.chip ∧ (State.forceRelease s slot).power = s.power ∧
    (State.forceRelease s slot).mesh = s.mesh := by
  simp [State.forceRelease]

@[simp] theorem freezeBySett_frame (s : State) (slot : Nat) :
    (State.freezeBySett s slot).pending = s.pending ∧ (State.freezeBySett s slot).fresh = s.fresh ∧
    (State.freezeBySett s slot).outbox = s.outbox ∧ (State.freezeBySett s slot).ic = s.ic ∧
    (State.freezeBySett s slot).dict = s.dict ∧ (State.freezeBySett s slot).host = s.host ∧
    (State.freezeBySett s slot).repair = s.repair ∧ (State.freezeBySett s slot).wells = s.wells ∧
    (State.freezeBySett s slot).cisterns = s.cisterns ∧ (State.freezeBySett s slot).wins = s.wins ∧
    (State.freezeBySett s slot).ctls = s.ctls ∧ (State.freezeBySett s slot).fab = s.fab ∧
    (State.freezeBySett s slot).trust = s.trust ∧ (State.freezeBySett s slot).meter = s.meter ∧
    (State.freezeBySett s slot).saves = s.saves ∧ (State.freezeBySett s slot).chip = s.chip ∧
    (State.freezeBySett s slot).power = s.power ∧ (State.freezeBySett s slot).mesh = s.mesh := by
  unfold State.freezeBySett; dsimp only; split <;> simp

@[simp] theorem tearSlot_frame (s : State) (keep : Bool) (slot : Nat) :
    (State.tearSlot s keep slot).pending = s.pending ∧ (State.tearSlot s keep slot).fresh = s.fresh ∧
    (State.tearSlot s keep slot).outbox = s.outbox ∧ (State.tearSlot s keep slot).dict = s.dict ∧
    (State.tearSlot s keep slot).repair = s.repair ∧ (State.tearSlot s keep slot).wells = s.wells ∧
    (State.tearSlot s keep slot).cisterns = s.cisterns ∧ (State.tearSlot s keep slot).wins = s.wins ∧
    (State.tearSlot s keep slot).ctls = s.ctls ∧ (State.tearSlot s keep slot).fab = s.fab ∧
    (State.tearSlot s keep slot).meter = s.meter ∧ (State.tearSlot s keep slot).saves = s.saves ∧
    (State.tearSlot s keep slot).chip = s.chip ∧ (State.tearSlot s keep slot).power = s.power ∧
    (State.tearSlot s keep slot).mesh = s.mesh := by
  unfold State.tearSlot; split <;> simp

@[simp] theorem teardown_frame (s : State) (owner : Nat) (keep : Bool) :
    (State.teardown s owner keep).pending = s.pending ∧ (State.teardown s owner keep).fresh = s.fresh ∧
    (State.teardown s owner keep).outbox = s.outbox ∧ (State.teardown s owner keep).repair = s.repair ∧
    (State.teardown s owner keep).wells = s.wells ∧ (State.teardown s owner keep).cisterns = s.cisterns ∧
    (State.teardown s owner keep).wins = s.wins ∧ (State.teardown s owner keep).ctls = s.ctls ∧
    (State.teardown s owner keep).fab = s.fab ∧ (State.teardown s owner keep).meter = s.meter ∧
    (State.teardown s owner keep).saves = s.saves ∧ (State.teardown s owner keep).chip = s.chip ∧
    (State.teardown s owner keep).power = s.power ∧ (State.teardown s owner keep).mesh = s.mesh := by
  simp [State.teardown]

@[simp] theorem aperture_frame (s : State) (off : Nat) (k : Access) :
    (State.aperture s off k).2.pending = s.pending ∧ (State.aperture s off k).2.fresh = s.fresh ∧
    (State.aperture s off k).2.outbox = s.outbox ∧ (State.aperture s off k).2.tiles = s.tiles ∧
    (State.aperture s off k).2.dens = s.dens ∧ (State.aperture s off k).2.seam = s.seam ∧ (State.aperture s off k).2.ic = s.ic ∧
    (State.aperture s off k).2.host = s.host ∧ (State.aperture s off k).2.repair = s.repair ∧
    (State.aperture s off k).2.wells = s.wells ∧ (State.aperture s off k).2.cisterns = s.cisterns ∧
    (State.aperture s off k).2.wins = s.wins ∧ (State.aperture s off k).2.ctls = s.ctls ∧
    (State.aperture s off k).2.trust = s.trust ∧ (State.aperture s off k).2.meter = s.meter ∧
    (State.aperture s off k).2.saves = s.saves ∧ (State.aperture s off k).2.chip = s.chip ∧
    (State.aperture s off k).2.power = s.power := by
  unfold State.aperture; dsimp only; (repeat' split) <;> first | (simp; done) | (have e := snd_of_eq ‹_ = (_, _)›; subst e; simp; done) | (have e := snd2_of_eq ‹_ = (_, _, _)›; subst e; simp)

@[simp] theorem refusedRead_frame (s : State) :
    (State.refusedRead s).pending = s.pending ∧ (State.refusedRead s).fresh = s.fresh ∧ (State.refusedRead s).outbox = s.outbox ∧
    (State.refusedRead s).tiles = s.tiles ∧ (State.refusedRead s).dens = s.dens ∧ (State.refusedRead s).seam = s.seam ∧
    (State.refusedRead s).ic = s.ic ∧ (State.refusedRead s).dict = s.dict ∧ (State.refusedRead s).repair = s.repair ∧
    (State.refusedRead s).wells = s.wells ∧ (State.refusedRead s).cisterns = s.cisterns ∧ (State.refusedRead s).wins = s.wins ∧
    (State.refusedRead s).ctls = s.ctls ∧ (State.refusedRead s).fab = s.fab ∧ (State.refusedRead s).trust = s.trust ∧
    (State.refusedRead s).meter = s.meter ∧ (State.refusedRead s).saves = s.saves ∧ (State.refusedRead s).chip = s.chip ∧
    (State.refusedRead s).power = s.power ∧ (State.refusedRead s).mesh = s.mesh := by
  exact ⟨rfl, rfl, rfl, rfl, rfl, rfl, rfl, rfl, rfl, rfl, rfl, rfl, rfl, rfl, rfl, rfl, rfl, rfl, rfl, rfl⟩

@[simp] theorem keepDma_frame (s : State) (slot : Nat) (t : Target) :
    (State.keepDma s slot t).pending = s.pending ∧ (State.keepDma s slot t).fresh = s.fresh ∧
    (State.keepDma s slot t).outbox = s.outbox ∧ (State.keepDma s slot t).tiles = s.tiles ∧ (State.keepDma s slot t).dens = s.dens ∧
    (State.keepDma s slot t).seam = s.seam ∧ (State.keepDma s slot t).ic = s.ic ∧ (State.keepDma s slot t).dict = s.dict ∧
    (State.keepDma s slot t).repair = s.repair ∧ (State.keepDma s slot t).wells = s.wells ∧
    (State.keepDma s slot t).cisterns = s.cisterns ∧ (State.keepDma s slot t).wins = s.wins ∧ (State.keepDma s slot t).fab = s.fab ∧
    (State.keepDma s slot t).trust = s.trust ∧ (State.keepDma s slot t).meter = s.meter ∧ (State.keepDma s slot t).saves = s.saves ∧
    (State.keepDma s slot t).chip = s.chip ∧ (State.keepDma s slot t).power = s.power ∧ (State.keepDma s slot t).mesh = s.mesh := by
  unfold State.keepDma; dsimp only; (repeat' split) <;> first | (simp; done) | (have e := snd_of_eq ‹_ = (_, _)›; subst e; simp; done) | (have e := snd2_of_eq ‹_ = (_, _, _)›; subst e; simp)

@[simp] theorem setRoute_frame (s : State) (i : Nat) (r : Option Route) :
    (State.setRoute s i r).pending = s.pending ∧ (State.setRoute s i r).fresh = s.fresh ∧ (State.setRoute s i r).outbox = s.outbox ∧
    (State.setRoute s i r).tiles = s.tiles ∧ (State.setRoute s i r).dens = s.dens ∧ (State.setRoute s i r).seam = s.seam ∧
    (State.setRoute s i r).ic = s.ic ∧ (State.setRoute s i r).host = s.host ∧ (State.setRoute s i r).repair = s.repair ∧
    (State.setRoute s i r).wells = s.wells ∧ (State.setRoute s i r).cisterns = s.cisterns ∧ (State.setRoute s i r).wins = s.wins ∧
    (State.setRoute s i r).ctls = s.ctls ∧ (State.setRoute s i r).trust = s.trust ∧ (State.setRoute s i r).meter = s.meter ∧
    (State.setRoute s i r).saves = s.saves ∧ (State.setRoute s i r).chip = s.chip ∧ (State.setRoute s i r).power = s.power ∧
    (State.setRoute s i r).mesh = s.mesh := by
  exact ⟨rfl, rfl, rfl, rfl, rfl, rfl, rfl, rfl, rfl, rfl, rfl, rfl, rfl, rfl, rfl, rfl, rfl, rfl, rfl⟩

@[simp] theorem sendKeyend_frame (s : State) (k : Pair) :
    (State.sendKeyend s k).pending = s.pending ∧ (State.sendKeyend s k).fresh = s.fresh ∧ (State.sendKeyend s k).tiles = s.tiles ∧
    (State.sendKeyend s k).dens = s.dens ∧ (State.sendKeyend s k).seam = s.seam ∧ (State.sendKeyend s k).ic = s.ic ∧
    (State.sendKeyend s k).dict = s.dict ∧ (State.sendKeyend s k).host = s.host ∧ (State.sendKeyend s k).repair = s.repair ∧
    (State.sendKeyend s k).wells = s.wells ∧ (State.sendKeyend s k).cisterns = s.cisterns ∧ (State.sendKeyend s k).wins = s.wins ∧
    (State.sendKeyend s k).ctls = s.ctls ∧ (State.sendKeyend s k).trust = s.trust ∧ (State.sendKeyend s k).meter = s.meter ∧
    (State.sendKeyend s k).saves = s.saves ∧ (State.sendKeyend s k).chip = s.chip ∧ (State.sendKeyend s k).power = s.power ∧
    (State.sendKeyend s k).mesh = s.mesh := by
  unfold State.sendKeyend; dsimp only; (repeat' split) <;> simp

@[simp] theorem endJob_frame (s : State) (job : Nat) :
    (State.endJob s job).pending = s.pending ∧ (State.endJob s job).seam = s.seam ∧ (State.endJob s job).ctls = s.ctls ∧
    (State.endJob s job).trust = s.trust ∧ (State.endJob s job).meter = s.meter ∧ (State.endJob s job).saves = s.saves ∧
    (State.endJob s job).chip = s.chip ∧ (State.endJob s job).power = s.power := by
  simp [State.endJob]

@[simp] theorem linkEnabled_frame (s : State) (l : Nat) (on : Bool) :
    (State.linkEnabled s l on).pending = s.pending ∧ (State.linkEnabled s l on).fresh = s.fresh ∧
    (State.linkEnabled s l on).outbox = s.outbox ∧ (State.linkEnabled s l on).tiles = s.tiles ∧
    (State.linkEnabled s l on).dens = s.dens ∧ (State.linkEnabled s l on).seam = s.seam ∧ (State.linkEnabled s l on).host = s.host ∧
    (State.linkEnabled s l on).repair = s.repair ∧ (State.linkEnabled s l on).wells = s.wells ∧
    (State.linkEnabled s l on).cisterns = s.cisterns ∧ (State.linkEnabled s l on).wins = s.wins ∧
    (State.linkEnabled s l on).ctls = s.ctls ∧ (State.linkEnabled s l on).trust = s.trust ∧
    (State.linkEnabled s l on).meter = s.meter ∧ (State.linkEnabled s l on).saves = s.saves ∧
    (State.linkEnabled s l on).chip = s.chip ∧ (State.linkEnabled s l on).power = s.power := by
  unfold State.linkEnabled; dsimp only; (repeat' split) <;> simp

@[simp] theorem setHostFences_frame (s : State) (l : List Nat) :
    (State.setHostFences s l).pending = s.pending ∧ (State.setHostFences s l).fresh = s.fresh ∧
    (State.setHostFences s l).outbox = s.outbox ∧ (State.setHostFences s l).dens = s.dens ∧
    (State.setHostFences s l).seam = s.seam ∧ (State.setHostFences s l).ic = s.ic ∧ (State.setHostFences s l).dict = s.dict ∧
    (State.setHostFences s l).host = s.host ∧ (State.setHostFences s l).wells = s.wells ∧
    (State.setHostFences s l).cisterns = s.cisterns ∧ (State.setHostFences s l).wins = s.wins ∧
    (State.setHostFences s l).ctls = s.ctls ∧ (State.setHostFences s l).fab = s.fab ∧ (State.setHostFences s l).trust = s.trust ∧
    (State.setHostFences s l).meter = s.meter ∧ (State.setHostFences s l).saves = s.saves ∧
    (State.setHostFences s l).chip = s.chip ∧ (State.setHostFences s l).power = s.power ∧ (State.setHostFences s l).mesh = s.mesh := by
  simp [State.setHostFences]

@[simp] theorem marchSett_frame (s : State) (h : Half) (l : List SettNeed) :
    (State.marchSett s h l).pending = s.pending ∧ (State.marchSett s h l).fresh = s.fresh ∧
    (State.marchSett s h l).outbox = s.outbox ∧ (State.marchSett s h l).tiles = s.tiles ∧ (State.marchSett s h l).dens = s.dens ∧
    (State.marchSett s h l).seam = s.seam ∧ (State.marchSett s h l).ic = s.ic ∧ (State.marchSett s h l).host = s.host ∧
    (State.marchSett s h l).wells = s.wells ∧ (State.marchSett s h l).cisterns = s.cisterns ∧
    (State.marchSett s h l).wins = s.wins ∧ (State.marchSett s h l).ctls = s.ctls ∧ (State.marchSett s h l).fab = s.fab ∧
    (State.marchSett s h l).trust = s.trust ∧ (State.marchSett s h l).meter = s.meter ∧ (State.marchSett s h l).saves = s.saves ∧
    (State.marchSett s h l).chip = s.chip ∧ (State.marchSett s h l).power = s.power ∧ (State.marchSett s h l).mesh = s.mesh := by
  unfold State.marchSett; dsimp only; (repeat' split) <;> simp (disch := (intros; (repeat' split) <;> simp [*]))

@[simp] theorem marchFault_frame (s : State) (t n : Nat) :
    (State.marchFault s t n).pending = s.pending ∧ (State.marchFault s t n).fresh = s.fresh ∧
    (State.marchFault s t n).outbox = s.outbox ∧ (State.marchFault s t n).seam = s.seam ∧ (State.marchFault s t n).dict = s.dict ∧
    (State.marchFault s t n).wells = s.wells ∧ (State.marchFault s t n).cisterns = s.cisterns ∧
    (State.marchFault s t n).wins = s.wins ∧ (State.marchFault s t n).ctls = s.ctls ∧ (State.marchFault s t n).fab = s.fab ∧
    (State.marchFault s t n).trust = s.trust ∧ (State.marchFault s t n).meter = s.meter ∧ (State.marchFault s t n).saves = s.saves ∧
    (State.marchFault s t n).chip = s.chip ∧ (State.marchFault s t n).power = s.power ∧ (State.marchFault s t n).mesh = s.mesh := by
  unfold State.marchFault; dsimp only; (repeat' split) <;> simp

@[simp] theorem dropReservoirKeys_frame (s : State) :
    (State.dropReservoirKeys s).pending = s.pending ∧ (State.dropReservoirKeys s).fresh = s.fresh ∧
    (State.dropReservoirKeys s).outbox = s.outbox ∧ (State.dropReservoirKeys s).tiles = s.tiles ∧
    (State.dropReservoirKeys s).dens = s.dens ∧ (State.dropReservoirKeys s).seam = s.seam ∧ (State.dropReservoirKeys s).ic = s.ic ∧
    (State.dropReservoirKeys s).host = s.host ∧ (State.dropReservoirKeys s).repair = s.repair ∧
    (State.dropReservoirKeys s).wells = s.wells ∧ (State.dropReservoirKeys s).wins = s.wins ∧
    (State.dropReservoirKeys s).ctls = s.ctls ∧ (State.dropReservoirKeys s).fab = s.fab ∧
    (State.dropReservoirKeys s).trust = s.trust ∧ (State.dropReservoirKeys s).meter = s.meter ∧
    (State.dropReservoirKeys s).saves = s.saves ∧ (State.dropReservoirKeys s).chip = s.chip ∧
    (State.dropReservoirKeys s).power = s.power ∧ (State.dropReservoirKeys s).mesh = s.mesh := by
  simp [State.dropReservoirKeys]

@[simp] theorem dropPairKeys_frame (s : State) :
    (State.dropPairKeys s).pending = s.pending ∧ (State.dropPairKeys s).fresh = s.fresh ∧ (State.dropPairKeys s).outbox = s.outbox ∧
    (State.dropPairKeys s).tiles = s.tiles ∧ (State.dropPairKeys s).dens = s.dens ∧ (State.dropPairKeys s).seam = s.seam ∧
    (State.dropPairKeys s).ic = s.ic ∧ (State.dropPairKeys s).dict = s.dict ∧ (State.dropPairKeys s).host = s.host ∧
    (State.dropPairKeys s).repair = s.repair ∧ (State.dropPairKeys s).wells = s.wells ∧
    (State.dropPairKeys s).cisterns = s.cisterns ∧ (State.dropPairKeys s).wins = s.wins ∧ (State.dropPairKeys s).ctls = s.ctls ∧
    (State.dropPairKeys s).trust = s.trust ∧ (State.dropPairKeys s).meter = s.meter ∧ (State.dropPairKeys s).saves = s.saves ∧
    (State.dropPairKeys s).chip = s.chip ∧ (State.dropPairKeys s).power = s.power ∧ (State.dropPairKeys s).mesh = s.mesh := by
  exact ⟨rfl, rfl, rfl, rfl, rfl, rfl, rfl, rfl, rfl, rfl, rfl, rfl, rfl, rfl, rfl, rfl, rfl, rfl, rfl, rfl⟩

@[simp] theorem stopLinks_frame (s : State) :
    (State.stopLinks s).pending = s.pending ∧ (State.stopLinks s).fresh = s.fresh ∧ (State.stopLinks s).outbox = s.outbox ∧
    (State.stopLinks s).tiles = s.tiles ∧ (State.stopLinks s).dens = s.dens ∧ (State.stopLinks s).seam = s.seam ∧
    (State.stopLinks s).ic = s.ic ∧ (State.stopLinks s).dict = s.dict ∧ (State.stopLinks s).host = s.host ∧
    (State.stopLinks s).repair = s.repair ∧ (State.stopLinks s).wells = s.wells ∧ (State.stopLinks s).cisterns = s.cisterns ∧
    (State.stopLinks s).wins = s.wins ∧ (State.stopLinks s).ctls = s.ctls ∧ (State.stopLinks s).trust = s.trust ∧
    (State.stopLinks s).meter = s.meter ∧ (State.stopLinks s).saves = s.saves ∧ (State.stopLinks s).chip = s.chip ∧
    (State.stopLinks s).power = s.power ∧ (State.stopLinks s).mesh = s.mesh := by
  exact ⟨rfl, rfl, rfl, rfl, rfl, rfl, rfl, rfl, rfl, rfl, rfl, rfl, rfl, rfl, rfl, rfl, rfl, rfl, rfl, rfl⟩

@[simp] theorem endSession_frame (s : State) (id : Nat) :
    (State.endSession s id).pending = s.pending ∧ (State.endSession s id).fresh = s.fresh ∧
    (State.endSession s id).tiles = s.tiles ∧ (State.endSession s id).dens = s.dens ∧ (State.endSession s id).seam = s.seam ∧
    (State.endSession s id).dict = s.dict ∧ (State.endSession s id).host = s.host ∧ (State.endSession s id).repair = s.repair ∧
    (State.endSession s id).wells = s.wells ∧ (State.endSession s id).cisterns = s.cisterns ∧
    (State.endSession s id).wins = s.wins ∧ (State.endSession s id).ctls = s.ctls ∧ (State.endSession s id).fab = s.fab ∧
    (State.endSession s id).meter = s.meter ∧ (State.endSession s id).saves = s.saves ∧ (State.endSession s id).chip = s.chip ∧
    (State.endSession s id).power = s.power ∧ (State.endSession s id).mesh = s.mesh := by
  exact ⟨rfl, rfl, rfl, rfl, rfl, rfl, rfl, rfl, rfl, rfl, rfl, rfl, rfl, rfl, rfl, rfl, rfl, rfl⟩

@[simp] theorem wipeSram_frame (s : State) :
    (State.wipeSram s).pending = s.pending ∧ (State.wipeSram s).fresh = s.fresh ∧ (State.wipeSram s).tiles = s.tiles ∧
    (State.wipeSram s).dens = s.dens ∧ (State.wipeSram s).seam = s.seam ∧ (State.wipeSram s).dict = s.dict ∧
    (State.wipeSram s).host = s.host ∧ (State.wipeSram s).repair = s.repair ∧ (State.wipeSram s).wells = s.wells ∧
    (State.wipeSram s).cisterns = s.cisterns ∧ (State.wipeSram s).wins = s.wins ∧ (State.wipeSram s).ctls = s.ctls ∧
    (State.wipeSram s).fab = s.fab ∧ (State.wipeSram s).meter = s.meter ∧ (State.wipeSram s).saves = s.saves ∧
    (State.wipeSram s).chip = s.chip ∧ (State.wipeSram s).power = s.power ∧ (State.wipeSram s).mesh = s.mesh := by
  unfold State.wipeSram; simp

@[simp] theorem freshNonce_frame (s : State) :
    (State.freshNonce s).pending = s.pending ∧ (State.freshNonce s).outbox = s.outbox ∧ (State.freshNonce s).tiles = s.tiles ∧
    (State.freshNonce s).dens = s.dens ∧ (State.freshNonce s).seam = s.seam ∧ (State.freshNonce s).ic = s.ic ∧
    (State.freshNonce s).host = s.host ∧ (State.freshNonce s).repair = s.repair ∧ (State.freshNonce s).wells = s.wells ∧
    (State.freshNonce s).cisterns = s.cisterns ∧ (State.freshNonce s).wins = s.wins ∧ (State.freshNonce s).ctls = s.ctls ∧
    (State.freshNonce s).fab = s.fab ∧ (State.freshNonce s).trust = s.trust ∧ (State.freshNonce s).meter = s.meter ∧
    (State.freshNonce s).saves = s.saves ∧ (State.freshNonce s).chip = s.chip ∧ (State.freshNonce s).power = s.power ∧
    (State.freshNonce s).mesh = s.mesh := by
  exact ⟨rfl, rfl, rfl, rfl, rfl, rfl, rfl, rfl, rfl, rfl, rfl, rfl, rfl, rfl, rfl, rfl, rfl, rfl, rfl⟩

@[simp] theorem eraseSealed_frame (s : State) :
    (State.eraseSealed s).pending = s.pending ∧ (State.eraseSealed s).fresh = s.fresh ∧ (State.eraseSealed s).outbox = s.outbox ∧
    (State.eraseSealed s).tiles = s.tiles ∧ (State.eraseSealed s).dens = s.dens ∧ (State.eraseSealed s).seam = s.seam ∧
    (State.eraseSealed s).ic = s.ic ∧ (State.eraseSealed s).host = s.host ∧ (State.eraseSealed s).repair = s.repair ∧
    (State.eraseSealed s).wells = s.wells ∧ (State.eraseSealed s).cisterns = s.cisterns ∧ (State.eraseSealed s).wins = s.wins ∧
    (State.eraseSealed s).ctls = s.ctls ∧ (State.eraseSealed s).fab = s.fab ∧ (State.eraseSealed s).trust = s.trust ∧
    (State.eraseSealed s).meter = s.meter ∧ (State.eraseSealed s).saves = s.saves ∧ (State.eraseSealed s).chip = s.chip ∧
    (State.eraseSealed s).power = s.power ∧ (State.eraseSealed s).mesh = s.mesh := by
  exact ⟨rfl, rfl, rfl, rfl, rfl, rfl, rfl, rfl, rfl, rfl, rfl, rfl, rfl, rfl, rfl, rfl, rfl, rfl, rfl, rfl⟩

@[simp] theorem changeLife_frame (s : State) (to_ : Nat) :
    (State.changeLife s to_).pending = s.pending ∧ (State.changeLife s to_).fresh = s.fresh ∧
    (State.changeLife s to_).outbox = s.outbox ∧ (State.changeLife s to_).tiles = s.tiles ∧ (State.changeLife s to_).dens = s.dens ∧
    (State.changeLife s to_).seam = s.seam ∧ (State.changeLife s to_).host = s.host ∧ (State.changeLife s to_).repair = s.repair ∧
    (State.changeLife s to_).wells = s.wells ∧ (State.changeLife s to_).wins = s.wins ∧ (State.changeLife s to_).ctls = s.ctls ∧
    (State.changeLife s to_).meter = s.meter ∧ (State.changeLife s to_).saves = s.saves ∧ (State.changeLife s to_).power = s.power ∧
    (State.changeLife s to_).mesh = s.mesh := by
  unfold State.changeLife; split <;> simp

@[simp] theorem logReset_frame (s : State) (d : ResetDom) (cause : Code) (outcome ms : Nat) :
    (State.logReset s d cause outcome ms).pending = s.pending ∧ (State.logReset s d cause outcome ms).fresh = s.fresh ∧
    (State.logReset s d cause outcome ms).outbox = s.outbox ∧ (State.logReset s d cause outcome ms).tiles = s.tiles ∧
    (State.logReset s d cause outcome ms).dens = s.dens ∧ (State.logReset s d cause outcome ms).seam = s.seam ∧
    (State.logReset s d cause outcome ms).host = s.host ∧ (State.logReset s d cause outcome ms).repair = s.repair ∧
    (State.logReset s d cause outcome ms).wells = s.wells ∧ (State.logReset s d cause outcome ms).cisterns = s.cisterns ∧
    (State.logReset s d cause outcome ms).wins = s.wins ∧ (State.logReset s d cause outcome ms).ctls = s.ctls ∧
    (State.logReset s d cause outcome ms).fab = s.fab ∧ (State.logReset s d cause outcome ms).trust = s.trust ∧
    (State.logReset s d cause outcome ms).meter = s.meter ∧ (State.logReset s d cause outcome ms).saves = s.saves ∧
    (State.logReset s d cause outcome ms).chip = s.chip ∧ (State.logReset s d cause outcome ms).power = s.power ∧
    (State.logReset s d cause outcome ms).mesh = s.mesh := by
  exact ⟨rfl, rfl, rfl, rfl, rfl, rfl, rfl, rfl, rfl, rfl, rfl, rfl, rfl, rfl, rfl, rfl, rfl, rfl, rfl⟩

@[simp] theorem raiseEnd_frame (s : State) (d : ResetDom) :
    (State.raiseEnd s d).pending = s.pending ∧ (State.raiseEnd s d).fresh = s.fresh ∧ (State.raiseEnd s d).outbox = s.outbox ∧
    (State.raiseEnd s d).tiles = s.tiles ∧ (State.raiseEnd s d).dens = s.dens ∧ (State.raiseEnd s d).seam = s.seam ∧
    (State.raiseEnd s d).dict = s.dict ∧ (State.raiseEnd s d).host = s.host ∧ (State.raiseEnd s d).repair = s.repair ∧
    (State.raiseEnd s d).wells = s.wells ∧ (State.raiseEnd s d).cisterns = s.cisterns ∧ (State.raiseEnd s d).wins = s.wins ∧
    (State.raiseEnd s d).ctls = s.ctls ∧ (State.raiseEnd s d).fab = s.fab ∧ (State.raiseEnd s d).trust = s.trust ∧
    (State.raiseEnd s d).meter = s.meter ∧ (State.raiseEnd s d).saves = s.saves ∧ (State.raiseEnd s d).chip = s.chip ∧
    (State.raiseEnd s d).power = s.power ∧ (State.raiseEnd s d).mesh = s.mesh := by
  unfold State.raiseEnd; split <;> simp

@[simp] theorem resetDenEngines_frame (s : State) (slot : Nat) (cause : Code) :
    (State.resetDenEngines s slot cause).pending = s.pending ∧ (State.resetDenEngines s slot cause).fresh = s.fresh ∧
    (State.resetDenEngines s slot cause).outbox = s.outbox ∧ (State.resetDenEngines s slot cause).tiles = s.tiles ∧
    (State.resetDenEngines s slot cause).dens = s.dens ∧ (State.resetDenEngines s slot cause).seam = s.seam ∧
    (State.resetDenEngines s slot cause).ic = s.ic ∧ (State.resetDenEngines s slot cause).dict = s.dict ∧
    (State.resetDenEngines s slot cause).host = s.host ∧ (State.resetDenEngines s slot cause).wells = s.wells ∧
    (State.resetDenEngines s slot cause).cisterns = s.cisterns ∧ (State.resetDenEngines s slot cause).wins = s.wins ∧
    (State.resetDenEngines s slot cause).ctls = s.ctls ∧ (State.resetDenEngines s slot cause).fab = s.fab ∧
    (State.resetDenEngines s slot cause).trust = s.trust ∧ (State.resetDenEngines s slot cause).meter = s.meter ∧
    (State.resetDenEngines s slot cause).saves = s.saves ∧ (State.resetDenEngines s slot cause).chip = s.chip ∧
    (State.resetDenEngines s slot cause).power = s.power ∧ (State.resetDenEngines s slot cause).mesh = s.mesh := by
  simp [State.resetDenEngines]

@[simp] theorem resetPump_frame (s : State) (t : Nat) (c : Code) :
    (State.resetPump s t c).pending = s.pending ∧ (State.resetPump s t c).fresh = s.fresh ∧
    (State.resetPump s t c).outbox = s.outbox ∧ (State.resetPump s t c).seam = s.seam ∧ (State.resetPump s t c).dict = s.dict ∧
    (State.resetPump s t c).wells = s.wells ∧ (State.resetPump s t c).cisterns = s.cisterns ∧
    (State.resetPump s t c).wins = s.wins ∧ (State.resetPump s t c).ctls = s.ctls ∧ (State.resetPump s t c).fab = s.fab ∧
    (State.resetPump s t c).trust = s.trust ∧ (State.resetPump s t c).meter = s.meter ∧ (State.resetPump s t c).saves = s.saves ∧
    (State.resetPump s t c).chip = s.chip ∧ (State.resetPump s t c).power = s.power ∧ (State.resetPump s t c).mesh = s.mesh := by
  simp [State.resetPump]

@[simp] theorem standStill_frame (s : State) (slot : Nat) :
    (State.standStill s slot).pending = s.pending ∧ (State.standStill s slot).fresh = s.fresh ∧
    (State.standStill s slot).outbox = s.outbox ∧ (State.standStill s slot).seam = s.seam ∧ (State.standStill s slot).ic = s.ic ∧
    (State.standStill s slot).dict = s.dict ∧ (State.standStill s slot).host = s.host ∧
    (State.standStill s slot).repair = s.repair ∧ (State.standStill s slot).wells = s.wells ∧
    (State.standStill s slot).cisterns = s.cisterns ∧ (State.standStill s slot).wins = s.wins ∧
    (State.standStill s slot).ctls = s.ctls ∧ (State.standStill s slot).fab = s.fab ∧ (State.standStill s slot).trust = s.trust ∧
    (State.standStill s slot).meter = s.meter ∧ (State.standStill s slot).saves = s.saves ∧
    (State.standStill s slot).chip = s.chip ∧ (State.standStill s slot).power = s.power ∧ (State.standStill s slot).mesh = s.mesh := by
  simp [State.standStill]

@[simp] theorem resetDen_frame (s : State) (slot : Nat) (c : Code) :
    (State.resetDen s slot c).pending = s.pending ∧ (State.resetDen s slot c).fresh = s.fresh ∧
    (State.resetDen s slot c).outbox = s.outbox ∧ (State.resetDen s slot c).seam = s.seam ∧
    (State.resetDen s slot c).dict = s.dict ∧ (State.resetDen s slot c).wells = s.wells ∧
    (State.resetDen s slot c).cisterns = s.cisterns ∧ (State.resetDen s slot c).wins = s.wins ∧
    (State.resetDen s slot c).ctls = s.ctls ∧ (State.resetDen s slot c).fab = s.fab ∧ (State.resetDen s slot c).trust = s.trust ∧
    (State.resetDen s slot c).meter = s.meter ∧ (State.resetDen s slot c).saves = s.saves ∧
    (State.resetDen s slot c).chip = s.chip ∧ (State.resetDen s slot c).power = s.power ∧ (State.resetDen s slot c).mesh = s.mesh := by
  simp [State.resetDen]

@[simp] theorem dropHostLines_frame (s : State) (t : Nat) :
    (State.dropHostLines s t).pending = s.pending ∧ (State.dropHostLines s t).fresh = s.fresh ∧
    (State.dropHostLines s t).outbox = s.outbox ∧ (State.dropHostLines s t).dens = s.dens ∧
    (State.dropHostLines s t).seam = s.seam ∧ (State.dropHostLines s t).ic = s.ic ∧ (State.dropHostLines s t).dict = s.dict ∧
    (State.dropHostLines s t).host = s.host ∧ (State.dropHostLines s t).repair = s.repair ∧
    (State.dropHostLines s t).wells = s.wells ∧ (State.dropHostLines s t).cisterns = s.cisterns ∧
    (State.dropHostLines s t).wins = s.wins ∧ (State.dropHostLines s t).ctls = s.ctls ∧ (State.dropHostLines s t).fab = s.fab ∧
    (State.dropHostLines s t).trust = s.trust ∧ (State.dropHostLines s t).meter = s.meter ∧
    (State.dropHostLines s t).saves = s.saves ∧ (State.dropHostLines s t).chip = s.chip ∧
    (State.dropHostLines s t).power = s.power ∧ (State.dropHostLines s t).mesh = s.mesh := by
  simp [State.dropHostLines]

@[simp] theorem dropEngine_frame (s : State) (e : Nat) :
    (State.dropEngine s e).pending = s.pending ∧ (State.dropEngine s e).fresh = s.fresh ∧ (State.dropEngine s e).outbox = s.outbox ∧
    (State.dropEngine s e).tiles = s.tiles ∧ (State.dropEngine s e).dens = s.dens ∧ (State.dropEngine s e).seam = s.seam ∧
    (State.dropEngine s e).ic = s.ic ∧ (State.dropEngine s e).dict = s.dict ∧ (State.dropEngine s e).host = s.host ∧
    (State.dropEngine s e).repair = s.repair ∧ (State.dropEngine s e).wells = s.wells ∧
    (State.dropEngine s e).cisterns = s.cisterns ∧ (State.dropEngine s e).wins = s.wins ∧ (State.dropEngine s e).ctls = s.ctls ∧
    (State.dropEngine s e).trust = s.trust ∧ (State.dropEngine s e).meter = s.meter ∧ (State.dropEngine s e).saves = s.saves ∧
    (State.dropEngine s e).chip = s.chip ∧ (State.dropEngine s e).power = s.power ∧ (State.dropEngine s e).mesh = s.mesh := by
  exact ⟨rfl, rfl, rfl, rfl, rfl, rfl, rfl, rfl, rfl, rfl, rfl, rfl, rfl, rfl, rfl, rfl, rfl, rfl, rfl, rfl⟩

@[simp] theorem resetHalf_frame (s : State) (h : Half) :
    (State.resetHalf s h).pending = s.pending ∧ (State.resetHalf s h).fresh = s.fresh ∧ (State.resetHalf s h).outbox = s.outbox ∧
    (State.resetHalf s h).ic = s.ic ∧ (State.resetHalf s h).dict = s.dict ∧ (State.resetHalf s h).host = s.host ∧
    (State.resetHalf s h).repair = s.repair ∧ (State.resetHalf s h).wells = s.wells ∧ (State.resetHalf s h).cisterns = s.cisterns ∧
    (State.resetHalf s h).wins = s.wins ∧ (State.resetHalf s h).ctls = s.ctls ∧ (State.resetHalf s h).fab = s.fab ∧
    (State.resetHalf s h).trust = s.trust ∧ (State.resetHalf s h).meter = s.meter ∧ (State.resetHalf s h).saves = s.saves ∧
    (State.resetHalf s h).chip = s.chip ∧ (State.resetHalf s h).power = s.power ∧ (State.resetHalf s h).mesh = s.mesh := by
  simp [State.resetHalf]

@[simp] theorem setDomModes_frame (s : State) :
    (State.setDomModes s).pending = s.pending ∧ (State.setDomModes s).fresh = s.fresh ∧ (State.setDomModes s).outbox = s.outbox ∧
    (State.setDomModes s).tiles = s.tiles ∧ (State.setDomModes s).dens = s.dens ∧ (State.setDomModes s).seam = s.seam ∧
    (State.setDomModes s).dict = s.dict ∧ (State.setDomModes s).host = s.host ∧ (State.setDomModes s).repair = s.repair ∧
    (State.setDomModes s).wells = s.wells ∧ (State.setDomModes s).cisterns = s.cisterns ∧ (State.setDomModes s).wins = s.wins ∧
    (State.setDomModes s).ctls = s.ctls ∧ (State.setDomModes s).fab = s.fab ∧ (State.setDomModes s).trust = s.trust ∧
    (State.setDomModes s).meter = s.meter ∧ (State.setDomModes s).saves = s.saves ∧ (State.setDomModes s).chip = s.chip ∧
    (State.setDomModes s).power = s.power ∧ (State.setDomModes s).mesh = s.mesh := by
  simp [State.setDomModes]

@[simp] theorem putBytes_frame (s : State) (ix el : Nat) (bs : List Byte) :
    (State.putBytes s ix el bs).pending = s.pending ∧ (State.putBytes s ix el bs).fresh = s.fresh ∧
    (State.putBytes s ix el bs).outbox = s.outbox ∧ (State.putBytes s ix el bs).dens = s.dens ∧
    (State.putBytes s ix el bs).seam = s.seam ∧ (State.putBytes s ix el bs).ic = s.ic ∧ (State.putBytes s ix el bs).host = s.host ∧
    (State.putBytes s ix el bs).cisterns = s.cisterns ∧ (State.putBytes s ix el bs).wins = s.wins ∧
    (State.putBytes s ix el bs).ctls = s.ctls ∧ (State.putBytes s ix el bs).fab = s.fab ∧
    (State.putBytes s ix el bs).trust = s.trust ∧ (State.putBytes s ix el bs).meter = s.meter ∧
    (State.putBytes s ix el bs).saves = s.saves ∧ (State.putBytes s ix el bs).chip = s.chip ∧
    (State.putBytes s ix el bs).power = s.power ∧ (State.putBytes s ix el bs).mesh = s.mesh := by
  unfold State.putBytes; (repeat' split) <;> simp

@[simp] theorem advanceIncarnation_frame (s : State) :
    (State.advanceIncarnation s).pending = s.pending ∧ (State.advanceIncarnation s).fresh = s.fresh ∧
    (State.advanceIncarnation s).outbox = s.outbox ∧ (State.advanceIncarnation s).tiles = s.tiles ∧
    (State.advanceIncarnation s).dens = s.dens ∧ (State.advanceIncarnation s).seam = s.seam ∧
    (State.advanceIncarnation s).ic = s.ic ∧ (State.advanceIncarnation s).host = s.host ∧
    (State.advanceIncarnation s).repair = s.repair ∧ (State.advanceIncarnation s).wells = s.wells ∧
    (State.advanceIncarnation s).cisterns = s.cisterns ∧ (State.advanceIncarnation s).wins = s.wins ∧
    (State.advanceIncarnation s).ctls = s.ctls ∧ (State.advanceIncarnation s).fab = s.fab ∧
    (State.advanceIncarnation s).trust = s.trust ∧ (State.advanceIncarnation s).meter = s.meter ∧
    (State.advanceIncarnation s).saves = s.saves ∧ (State.advanceIncarnation s).chip = s.chip ∧
    (State.advanceIncarnation s).power = s.power ∧ (State.advanceIncarnation s).mesh = s.mesh := by
  exact ⟨rfl, rfl, rfl, rfl, rfl, rfl, rfl, rfl, rfl, rfl, rfl, rfl, rfl, rfl, rfl, rfl, rfl, rfl, rfl, rfl⟩

@[simp] theorem cycleTray_frame (s : State) (cause : Code) (ms : Nat) :
    (State.cycleTray s cause ms).pending = s.pending ∧ (State.cycleTray s cause ms).fresh = s.fresh ∧
    (State.cycleTray s cause ms).outbox = s.outbox ∧ (State.cycleTray s cause ms).tiles = s.tiles ∧
    (State.cycleTray s cause ms).dens = s.dens ∧ (State.cycleTray s cause ms).seam = s.seam ∧
    (State.cycleTray s cause ms).host = s.host ∧ (State.cycleTray s cause ms).repair = s.repair ∧
    (State.cycleTray s cause ms).wells = s.wells ∧ (State.cycleTray s cause ms).cisterns = s.cisterns ∧
    (State.cycleTray s cause ms).wins = s.wins ∧ (State.cycleTray s cause ms).ctls = s.ctls ∧
    (State.cycleTray s cause ms).fab = s.fab ∧ (State.cycleTray s cause ms).trust = s.trust ∧
    (State.cycleTray s cause ms).meter = s.meter ∧ (State.cycleTray s cause ms).saves = s.saves ∧
    (State.cycleTray s cause ms).power = s.power ∧ (State.cycleTray s cause ms).mesh = s.mesh := by
  simp [State.cycleTray]

@[simp] theorem lapse_frame (s : State) (seam : Bool) :
    (State.lapse s seam).pending = s.pending ∧ (State.lapse s seam).fresh = s.fresh ∧ (State.lapse s seam).outbox = s.outbox ∧
    (State.lapse s seam).tiles = s.tiles ∧ (State.lapse s seam).dens = s.dens ∧ (State.lapse s seam).seam = s.seam ∧
    (State.lapse s seam).dict = s.dict ∧ (State.lapse s seam).host = s.host ∧ (State.lapse s seam).wells = s.wells ∧
    (State.lapse s seam).cisterns = s.cisterns ∧ (State.lapse s seam).wins = s.wins ∧ (State.lapse s seam).ctls = s.ctls ∧
    (State.lapse s seam).fab = s.fab ∧ (State.lapse s seam).trust = s.trust ∧ (State.lapse s seam).meter = s.meter ∧
    (State.lapse s seam).saves = s.saves ∧ (State.lapse s seam).chip = s.chip ∧ (State.lapse s seam).power = s.power ∧
    (State.lapse s seam).mesh = s.mesh := by
  unfold State.lapse; split <;> simp

@[simp] theorem settleMeter_frame (s : State) :
    (State.settleMeter s).pending = s.pending ∧ (State.settleMeter s).fresh = s.fresh ∧ (State.settleMeter s).outbox = s.outbox ∧
    (State.settleMeter s).tiles = s.tiles ∧ (State.settleMeter s).dens = s.dens ∧ (State.settleMeter s).seam = s.seam ∧
    (State.settleMeter s).host = s.host ∧ (State.settleMeter s).repair = s.repair ∧ (State.settleMeter s).wells = s.wells ∧
    (State.settleMeter s).cisterns = s.cisterns ∧ (State.settleMeter s).wins = s.wins ∧ (State.settleMeter s).ctls = s.ctls ∧
    (State.settleMeter s).fab = s.fab ∧ (State.settleMeter s).trust = s.trust ∧ (State.settleMeter s).meter = s.meter ∧
    (State.settleMeter s).saves = s.saves ∧ (State.settleMeter s).chip = s.chip ∧ (State.settleMeter s).power = s.power ∧
    (State.settleMeter s).mesh = s.mesh := by
  simp [State.settleMeter]

@[simp] theorem issuePart_frame (s : State) (kind part parts start end_ flags unm : Nat) (entries : List (List Byte)) :
    (State.issuePart s kind part parts start end_ flags unm entries).pending = s.pending ∧
    (State.issuePart s kind part parts start end_ flags unm entries).outbox = s.outbox ∧
    (State.issuePart s kind part parts start end_ flags unm entries).tiles = s.tiles ∧
    (State.issuePart s kind part parts start end_ flags unm entries).dens = s.dens ∧
    (State.issuePart s kind part parts start end_ flags unm entries).seam = s.seam ∧
    (State.issuePart s kind part parts start end_ flags unm entries).ic = s.ic ∧
    (State.issuePart s kind part parts start end_ flags unm entries).dict = s.dict ∧
    (State.issuePart s kind part parts start end_ flags unm entries).host = s.host ∧
    (State.issuePart s kind part parts start end_ flags unm entries).repair = s.repair ∧
    (State.issuePart s kind part parts start end_ flags unm entries).wells = s.wells ∧
    (State.issuePart s kind part parts start end_ flags unm entries).cisterns = s.cisterns ∧
    (State.issuePart s kind part parts start end_ flags unm entries).wins = s.wins ∧
    (State.issuePart s kind part parts start end_ flags unm entries).ctls = s.ctls ∧
    (State.issuePart s kind part parts start end_ flags unm entries).fab = s.fab ∧
    (State.issuePart s kind part parts start end_ flags unm entries).trust = s.trust ∧
    (State.issuePart s kind part parts start end_ flags unm entries).saves = s.saves ∧
    (State.issuePart s kind part parts start end_ flags unm entries).chip = s.chip ∧
    (State.issuePart s kind part parts start end_ flags unm entries).power = s.power ∧
    (State.issuePart s kind part parts start end_ flags unm entries).mesh = s.mesh := by
  unfold State.issuePart; dsimp only; split <;> simp

@[simp] theorem issue_frame (s : State) (kind start end_ flags unm : Nat) (entries : List (List Byte)) :
    (State.issue s kind start end_ flags unm entries).pending = s.pending ∧
    (State.issue s kind start end_ flags unm entries).outbox = s.outbox ∧
    (State.issue s kind start end_ flags unm entries).tiles = s.tiles ∧
    (State.issue s kind start end_ flags unm entries).dens = s.dens ∧
    (State.issue s kind start end_ flags unm entries).seam = s.seam ∧ (State.issue s kind start end_ flags unm entries).ic = s.ic ∧
    (State.issue s kind start end_ flags unm entries).dict = s.dict ∧
    (State.issue s kind start end_ flags unm entries).host = s.host ∧
    (State.issue s kind start end_ flags unm entries).repair = s.repair ∧
    (State.issue s kind start end_ flags unm entries).wells = s.wells ∧
    (State.issue s kind start end_ flags unm entries).cisterns = s.cisterns ∧
    (State.issue s kind start end_ flags unm entries).wins = s.wins ∧
    (State.issue s kind start end_ flags unm entries).ctls = s.ctls ∧
    (State.issue s kind start end_ flags unm entries).fab = s.fab ∧
    (State.issue s kind start end_ flags unm entries).trust = s.trust ∧
    (State.issue s kind start end_ flags unm entries).saves = s.saves ∧
    (State.issue s kind start end_ flags unm entries).chip = s.chip ∧
    (State.issue s kind start end_ flags unm entries).power = s.power ∧
    (State.issue s kind start end_ flags unm entries).mesh = s.mesh := by
  simp [State.issue]

@[simp] theorem closeTenure_frame (s : State) (t : Tenure) :
    (State.closeTenure s t).pending = s.pending ∧ (State.closeTenure s t).outbox = s.outbox ∧
    (State.closeTenure s t).tiles = s.tiles ∧ (State.closeTenure s t).dens = s.dens ∧ (State.closeTenure s t).seam = s.seam ∧
    (State.closeTenure s t).ic = s.ic ∧ (State.closeTenure s t).dict = s.dict ∧ (State.closeTenure s t).host = s.host ∧
    (State.closeTenure s t).repair = s.repair ∧ (State.closeTenure s t).wells = s.wells ∧
    (State.closeTenure s t).cisterns = s.cisterns ∧ (State.closeTenure s t).wins = s.wins ∧ (State.closeTenure s t).ctls = s.ctls ∧
    (State.closeTenure s t).fab = s.fab ∧ (State.closeTenure s t).trust = s.trust ∧ (State.closeTenure s t).saves = s.saves ∧
    (State.closeTenure s t).chip = s.chip ∧ (State.closeTenure s t).power = s.power ∧ (State.closeTenure s t).mesh = s.mesh := by
  simp [State.closeTenure]

@[simp] theorem stampChange_frame (s : State) (c : Change) :
    (State.stampChange s c).pending = s.pending ∧ (State.stampChange s c).outbox = s.outbox ∧
    (State.stampChange s c).tiles = s.tiles ∧ (State.stampChange s c).dens = s.dens ∧ (State.stampChange s c).seam = s.seam ∧
    (State.stampChange s c).ic = s.ic ∧ (State.stampChange s c).dict = s.dict ∧ (State.stampChange s c).host = s.host ∧
    (State.stampChange s c).repair = s.repair ∧ (State.stampChange s c).wells = s.wells ∧
    (State.stampChange s c).cisterns = s.cisterns ∧ (State.stampChange s c).wins = s.wins ∧ (State.stampChange s c).ctls = s.ctls ∧
    (State.stampChange s c).fab = s.fab ∧ (State.stampChange s c).trust = s.trust ∧ (State.stampChange s c).saves = s.saves ∧
    (State.stampChange s c).chip = s.chip ∧ (State.stampChange s c).power = s.power ∧ (State.stampChange s c).mesh = s.mesh := by
  unfold State.stampChange; dsimp only; (repeat' split) <;> simp

@[simp] theorem closeAll_frame (s : State) :
    (State.closeAll s).pending = s.pending ∧ (State.closeAll s).outbox = s.outbox ∧ (State.closeAll s).tiles = s.tiles ∧
    (State.closeAll s).dens = s.dens ∧ (State.closeAll s).seam = s.seam ∧ (State.closeAll s).ic = s.ic ∧
    (State.closeAll s).dict = s.dict ∧ (State.closeAll s).host = s.host ∧ (State.closeAll s).repair = s.repair ∧
    (State.closeAll s).wells = s.wells ∧ (State.closeAll s).cisterns = s.cisterns ∧ (State.closeAll s).wins = s.wins ∧
    (State.closeAll s).ctls = s.ctls ∧ (State.closeAll s).fab = s.fab ∧ (State.closeAll s).trust = s.trust ∧
    (State.closeAll s).saves = s.saves ∧ (State.closeAll s).chip = s.chip ∧ (State.closeAll s).power = s.power ∧
    (State.closeAll s).mesh = s.mesh := by
  simp [State.closeAll]

@[simp] theorem meterOn_frame (s : State) (off : Nat) :
    (State.meterOn s off).pending = s.pending ∧ (State.meterOn s off).outbox = s.outbox ∧ (State.meterOn s off).tiles = s.tiles ∧
    (State.meterOn s off).dens = s.dens ∧ (State.meterOn s off).seam = s.seam ∧ (State.meterOn s off).host = s.host ∧
    (State.meterOn s off).repair = s.repair ∧ (State.meterOn s off).wells = s.wells ∧ (State.meterOn s off).cisterns = s.cisterns ∧
    (State.meterOn s off).wins = s.wins ∧ (State.meterOn s off).ctls = s.ctls ∧ (State.meterOn s off).fab = s.fab ∧
    (State.meterOn s off).trust = s.trust ∧ (State.meterOn s off).saves = s.saves ∧ (State.meterOn s off).chip = s.chip ∧
    (State.meterOn s off).power = s.power ∧ (State.meterOn s off).mesh = s.mesh := by
  simp [State.meterOn]

@[simp] theorem applyLevel_frame (s : State) :
    (State.applyLevel s).pending = s.pending ∧ (State.applyLevel s).fresh = s.fresh ∧ (State.applyLevel s).outbox = s.outbox ∧
    (State.applyLevel s).tiles = s.tiles ∧ (State.applyLevel s).seam = s.seam ∧ (State.applyLevel s).host = s.host ∧
    (State.applyLevel s).repair = s.repair ∧ (State.applyLevel s).wells = s.wells ∧ (State.applyLevel s).cisterns = s.cisterns ∧
    (State.applyLevel s).wins = s.wins ∧ (State.applyLevel s).ctls = s.ctls ∧ (State.applyLevel s).fab = s.fab ∧
    (State.applyLevel s).trust = s.trust ∧ (State.applyLevel s).meter = s.meter ∧ (State.applyLevel s).saves = s.saves ∧
    (State.applyLevel s).chip = s.chip ∧ (State.applyLevel s).mesh = s.mesh := by
  unfold State.applyLevel; dsimp only; split <;> simp

@[simp] theorem endChipReset_frame (s : State) (ms : Nat) :
    (State.endChipReset s ms).pending = s.pending ∧ (State.endChipReset s ms).fresh = s.fresh ∧
    (State.endChipReset s ms).outbox = s.outbox ∧ (State.endChipReset s ms).tiles = s.tiles ∧
    (State.endChipReset s ms).dens = s.dens ∧ (State.endChipReset s ms).seam = s.seam ∧ (State.endChipReset s ms).host = s.host ∧
    (State.endChipReset s ms).wells = s.wells ∧ (State.endChipReset s ms).cisterns = s.cisterns ∧
    (State.endChipReset s ms).wins = s.wins ∧ (State.endChipReset s ms).ctls = s.ctls ∧ (State.endChipReset s ms).fab = s.fab ∧
    (State.endChipReset s ms).trust = s.trust ∧ (State.endChipReset s ms).meter = s.meter ∧
    (State.endChipReset s ms).saves = s.saves ∧ (State.endChipReset s ms).chip = s.chip ∧
    (State.endChipReset s ms).power = s.power ∧ (State.endChipReset s ms).mesh = s.mesh := by
  unfold State.endChipReset; split <;> simp

@[simp] theorem trainPcie_frame (s : State) :
    (State.trainPcie s).pending = s.pending ∧ (State.trainPcie s).outbox = s.outbox ∧ (State.trainPcie s).tiles = s.tiles ∧
    (State.trainPcie s).dens = s.dens ∧ (State.trainPcie s).seam = s.seam ∧ (State.trainPcie s).ic = s.ic ∧
    (State.trainPcie s).host = s.host ∧ (State.trainPcie s).repair = s.repair ∧ (State.trainPcie s).wells = s.wells ∧
    (State.trainPcie s).cisterns = s.cisterns ∧ (State.trainPcie s).wins = s.wins ∧ (State.trainPcie s).ctls = s.ctls ∧
    (State.trainPcie s).fab = s.fab ∧ (State.trainPcie s).trust = s.trust ∧ (State.trainPcie s).meter = s.meter ∧
    (State.trainPcie s).saves = s.saves ∧ (State.trainPcie s).chip = s.chip ∧ (State.trainPcie s).power = s.power ∧
    (State.trainPcie s).mesh = s.mesh := by
  exact ⟨rfl, rfl, rfl, rfl, rfl, rfl, rfl, rfl, rfl, rfl, rfl, rfl, rfl, rfl, rfl, rfl, rfl, rfl, rfl⟩

@[simp] theorem brakeOn_frame (s : State) :
    (State.brakeOn s).pending = s.pending ∧ (State.brakeOn s).fresh = s.fresh ∧ (State.brakeOn s).outbox = s.outbox ∧
    (State.brakeOn s).tiles = s.tiles ∧ (State.brakeOn s).seam = s.seam ∧ (State.brakeOn s).host = s.host ∧
    (State.brakeOn s).repair = s.repair ∧ (State.brakeOn s).wells = s.wells ∧ (State.brakeOn s).cisterns = s.cisterns ∧
    (State.brakeOn s).wins = s.wins ∧ (State.brakeOn s).ctls = s.ctls ∧ (State.brakeOn s).fab = s.fab ∧
    (State.brakeOn s).trust = s.trust ∧ (State.brakeOn s).meter = s.meter ∧ (State.brakeOn s).saves = s.saves ∧
    (State.brakeOn s).chip = s.chip ∧ (State.brakeOn s).mesh = s.mesh := by
  unfold State.brakeOn; dsimp only; (repeat' split) <;> simp

@[simp] theorem thermalTrip_frame (s : State) :
    (State.thermalTrip s).pending = s.pending ∧ (State.thermalTrip s).fresh = s.fresh ∧ (State.thermalTrip s).outbox = s.outbox ∧
    (State.thermalTrip s).seam = s.seam ∧ (State.thermalTrip s).wells = s.wells ∧ (State.thermalTrip s).cisterns = s.cisterns ∧
    (State.thermalTrip s).wins = s.wins ∧ (State.thermalTrip s).ctls = s.ctls ∧ (State.thermalTrip s).fab = s.fab ∧
    (State.thermalTrip s).trust = s.trust ∧ (State.thermalTrip s).meter = s.meter ∧ (State.thermalTrip s).saves = s.saves ∧
    (State.thermalTrip s).mesh = s.mesh := by
  unfold State.thermalTrip; split <;> simp

@[simp] theorem setLt_frame (s : State) (n : Nat) :
    (State.setLt s n).pending = s.pending ∧ (State.setLt s n).fresh = s.fresh ∧ (State.setLt s n).outbox = s.outbox ∧
    (State.setLt s n).tiles = s.tiles ∧ (State.setLt s n).dens = s.dens ∧ (State.setLt s n).seam = s.seam ∧
    (State.setLt s n).dict = s.dict ∧ (State.setLt s n).host = s.host ∧ (State.setLt s n).repair = s.repair ∧
    (State.setLt s n).wells = s.wells ∧ (State.setLt s n).cisterns = s.cisterns ∧ (State.setLt s n).wins = s.wins ∧
    (State.setLt s n).ctls = s.ctls ∧ (State.setLt s n).fab = s.fab ∧ (State.setLt s n).trust = s.trust ∧
    (State.setLt s n).meter = s.meter ∧ (State.setLt s n).saves = s.saves ∧ (State.setLt s n).chip = s.chip ∧
    (State.setLt s n).mesh = s.mesh := by
  exact ⟨rfl, rfl, rfl, rfl, rfl, rfl, rfl, rfl, rfl, rfl, rfl, rfl, rfl, rfl, rfl, rfl, rfl, rfl, rfl⟩

@[simp] theorem wellTemp_frame (s : State) (w : Nat) (l : List Int) :
    (State.wellTemp s w l).pending = s.pending ∧ (State.wellTemp s w l).fresh = s.fresh ∧ (State.wellTemp s w l).outbox = s.outbox ∧
    (State.wellTemp s w l).tiles = s.tiles ∧ (State.wellTemp s w l).dens = s.dens ∧ (State.wellTemp s w l).seam = s.seam ∧
    (State.wellTemp s w l).ic = s.ic ∧ (State.wellTemp s w l).host = s.host ∧ (State.wellTemp s w l).repair = s.repair ∧
    (State.wellTemp s w l).wells = s.wells ∧ (State.wellTemp s w l).cisterns = s.cisterns ∧ (State.wellTemp s w l).wins = s.wins ∧
    (State.wellTemp s w l).ctls = s.ctls ∧ (State.wellTemp s w l).fab = s.fab ∧ (State.wellTemp s w l).trust = s.trust ∧
    (State.wellTemp s w l).meter = s.meter ∧ (State.wellTemp s w l).saves = s.saves ∧ (State.wellTemp s w l).chip = s.chip ∧
    (State.wellTemp s w l).power = s.power ∧ (State.wellTemp s w l).mesh = s.mesh := by
  unfold State.wellTemp; dsimp only; (repeat' split) <;> simp

@[simp] theorem cisTemp_frame (s : State) (c : Nat) (h : Int) :
    (State.cisTemp s c h).pending = s.pending ∧ (State.cisTemp s c h).fresh = s.fresh ∧ (State.cisTemp s c h).outbox = s.outbox ∧
    (State.cisTemp s c h).tiles = s.tiles ∧ (State.cisTemp s c h).dens = s.dens ∧ (State.cisTemp s c h).seam = s.seam ∧
    (State.cisTemp s c h).ic = s.ic ∧ (State.cisTemp s c h).host = s.host ∧ (State.cisTemp s c h).repair = s.repair ∧
    (State.cisTemp s c h).wells = s.wells ∧ (State.cisTemp s c h).cisterns = s.cisterns ∧ (State.cisTemp s c h).wins = s.wins ∧
    (State.cisTemp s c h).ctls = s.ctls ∧ (State.cisTemp s c h).fab = s.fab ∧ (State.cisTemp s c h).trust = s.trust ∧
    (State.cisTemp s c h).meter = s.meter ∧ (State.cisTemp s c h).saves = s.saves ∧ (State.cisTemp s c h).chip = s.chip ∧
    (State.cisTemp s c h).mesh = s.mesh := by
  exact ⟨rfl, rfl, rfl, rfl, rfl, rfl, rfl, rfl, rfl, rfl, rfl, rfl, rfl, rfl, rfl, rfl, rfl, rfl, rfl⟩

@[simp] theorem ranged_frame (lo hi id ix el : Nat) (v : List Byte) (s : State) :
    (ranged lo hi id ix el v s).2.pending = s.pending ∧ (ranged lo hi id ix el v s).2.fresh = s.fresh ∧
    (ranged lo hi id ix el v s).2.outbox = s.outbox ∧ (ranged lo hi id ix el v s).2.tiles = s.tiles ∧
    (ranged lo hi id ix el v s).2.dens = s.dens ∧ (ranged lo hi id ix el v s).2.seam = s.seam ∧
    (ranged lo hi id ix el v s).2.ic = s.ic ∧ (ranged lo hi id ix el v s).2.host = s.host ∧
    (ranged lo hi id ix el v s).2.repair = s.repair ∧ (ranged lo hi id ix el v s).2.wells = s.wells ∧
    (ranged lo hi id ix el v s).2.cisterns = s.cisterns ∧ (ranged lo hi id ix el v s).2.wins = s.wins ∧
    (ranged lo hi id ix el v s).2.ctls = s.ctls ∧ (ranged lo hi id ix el v s).2.fab = s.fab ∧
    (ranged lo hi id ix el v s).2.trust = s.trust ∧ (ranged lo hi id ix el v s).2.meter = s.meter ∧
    (ranged lo hi id ix el v s).2.saves = s.saves ∧ (ranged lo hi id ix el v s).2.chip = s.chip ∧
    (ranged lo hi id ix el v s).2.power = s.power ∧ (ranged lo hi id ix el v s).2.mesh = s.mesh := by
  unfold ranged; split <;> simp

@[simp] theorem rangedF32_frame (lo hi : Rat) (id ix el : Nat) (v : List Byte) (s : State) :
    (rangedF32 lo hi id ix el v s).2.pending = s.pending ∧ (rangedF32 lo hi id ix el v s).2.fresh = s.fresh ∧
    (rangedF32 lo hi id ix el v s).2.outbox = s.outbox ∧ (rangedF32 lo hi id ix el v s).2.tiles = s.tiles ∧
    (rangedF32 lo hi id ix el v s).2.dens = s.dens ∧ (rangedF32 lo hi id ix el v s).2.seam = s.seam ∧
    (rangedF32 lo hi id ix el v s).2.ic = s.ic ∧ (rangedF32 lo hi id ix el v s).2.host = s.host ∧
    (rangedF32 lo hi id ix el v s).2.repair = s.repair ∧ (rangedF32 lo hi id ix el v s).2.wells = s.wells ∧
    (rangedF32 lo hi id ix el v s).2.cisterns = s.cisterns ∧ (rangedF32 lo hi id ix el v s).2.wins = s.wins ∧
    (rangedF32 lo hi id ix el v s).2.ctls = s.ctls ∧ (rangedF32 lo hi id ix el v s).2.fab = s.fab ∧
    (rangedF32 lo hi id ix el v s).2.trust = s.trust ∧ (rangedF32 lo hi id ix el v s).2.meter = s.meter ∧
    (rangedF32 lo hi id ix el v s).2.saves = s.saves ∧ (rangedF32 lo hi id ix el v s).2.chip = s.chip ∧
    (rangedF32 lo hi id ix el v s).2.power = s.power ∧ (rangedF32 lo hi id ix el v s).2.mesh = s.mesh := by
  unfold rangedF32; split <;> simp

@[simp] theorem writeChip_frame (id ix el : Nat) (v : List Byte) (s : State) :
    (writeChip id ix el v s).2.pending = s.pending ∧ (writeChip id ix el v s).2.fresh = s.fresh ∧
    (writeChip id ix el v s).2.outbox = s.outbox ∧ (writeChip id ix el v s).2.tiles = s.tiles ∧
    (writeChip id ix el v s).2.dens = s.dens ∧ (writeChip id ix el v s).2.seam = s.seam ∧ (writeChip id ix el v s).2.ic = s.ic ∧
    (writeChip id ix el v s).2.host = s.host ∧ (writeChip id ix el v s).2.repair = s.repair ∧
    (writeChip id ix el v s).2.wells = s.wells ∧ (writeChip id ix el v s).2.cisterns = s.cisterns ∧
    (writeChip id ix el v s).2.wins = s.wins ∧ (writeChip id ix el v s).2.ctls = s.ctls ∧ (writeChip id ix el v s).2.fab = s.fab ∧
    (writeChip id ix el v s).2.trust = s.trust ∧ (writeChip id ix el v s).2.meter = s.meter ∧
    (writeChip id ix el v s).2.saves = s.saves ∧ (writeChip id ix el v s).2.chip = s.chip ∧
    (writeChip id ix el v s).2.power = s.power ∧ (writeChip id ix el v s).2.mesh = s.mesh := by
  unfold writeChip; dsimp only; (repeat' split) <;> simp

@[simp] theorem writeDenElem_frame (slot el : Nat) (v : List Byte) (s : State) :
    (writeDenElem slot el v s).2.pending = s.pending ∧ (writeDenElem slot el v s).2.fresh = s.fresh ∧
    (writeDenElem slot el v s).2.outbox = s.outbox ∧ (writeDenElem slot el v s).2.tiles = s.tiles ∧
    (writeDenElem slot el v s).2.seam = s.seam ∧ (writeDenElem slot el v s).2.ic = s.ic ∧
    (writeDenElem slot el v s).2.dict = s.dict ∧ (writeDenElem slot el v s).2.host = s.host ∧
    (writeDenElem slot el v s).2.repair = s.repair ∧ (writeDenElem slot el v s).2.wells = s.wells ∧
    (writeDenElem slot el v s).2.cisterns = s.cisterns ∧ (writeDenElem slot el v s).2.wins = s.wins ∧
    (writeDenElem slot el v s).2.ctls = s.ctls ∧ (writeDenElem slot el v s).2.fab = s.fab ∧
    (writeDenElem slot el v s).2.trust = s.trust ∧ (writeDenElem slot el v s).2.meter = s.meter ∧
    (writeDenElem slot el v s).2.saves = s.saves ∧ (writeDenElem slot el v s).2.chip = s.chip ∧
    (writeDenElem slot el v s).2.power = s.power ∧ (writeDenElem slot el v s).2.mesh = s.mesh := by
  unfold writeDenElem; dsimp only; (repeat' split) <;> simp

@[simp] theorem writeLinkElem_frame (id ix el : Nat) (v : List Byte) (s : State) :
    (writeLinkElem id ix el v s).2.pending = s.pending ∧ (writeLinkElem id ix el v s).2.fresh = s.fresh ∧
    (writeLinkElem id ix el v s).2.outbox = s.outbox ∧ (writeLinkElem id ix el v s).2.tiles = s.tiles ∧
    (writeLinkElem id ix el v s).2.dens = s.dens ∧ (writeLinkElem id ix el v s).2.seam = s.seam ∧
    (writeLinkElem id ix el v s).2.ic = s.ic ∧ (writeLinkElem id ix el v s).2.host = s.host ∧
    (writeLinkElem id ix el v s).2.repair = s.repair ∧ (writeLinkElem id ix el v s).2.wells = s.wells ∧
    (writeLinkElem id ix el v s).2.cisterns = s.cisterns ∧ (writeLinkElem id ix el v s).2.wins = s.wins ∧
    (writeLinkElem id ix el v s).2.ctls = s.ctls ∧ (writeLinkElem id ix el v s).2.fab = s.fab ∧
    (writeLinkElem id ix el v s).2.trust = s.trust ∧ (writeLinkElem id ix el v s).2.meter = s.meter ∧
    (writeLinkElem id ix el v s).2.saves = s.saves ∧ (writeLinkElem id ix el v s).2.chip = s.chip ∧
    (writeLinkElem id ix el v s).2.power = s.power ∧ (writeLinkElem id ix el v s).2.mesh = s.mesh := by
  unfold writeLinkElem; dsimp only; (repeat' split) <;> simp

@[simp] theorem writeFabric_frame (id el : Nat) (v : List Byte) (s : State) :
    (writeFabric id el v s).2.pending = s.pending ∧ (writeFabric id el v s).2.fresh = s.fresh ∧
    (writeFabric id el v s).2.outbox = s.outbox ∧ (writeFabric id el v s).2.tiles = s.tiles ∧
    (writeFabric id el v s).2.dens = s.dens ∧ (writeFabric id el v s).2.seam = s.seam ∧ (writeFabric id el v s).2.ic = s.ic ∧
    (writeFabric id el v s).2.host = s.host ∧ (writeFabric id el v s).2.repair = s.repair ∧
    (writeFabric id el v s).2.wells = s.wells ∧ (writeFabric id el v s).2.cisterns = s.cisterns ∧
    (writeFabric id el v s).2.wins = s.wins ∧ (writeFabric id el v s).2.ctls = s.ctls ∧ (writeFabric id el v s).2.fab = s.fab ∧
    (writeFabric id el v s).2.trust = s.trust ∧ (writeFabric id el v s).2.meter = s.meter ∧
    (writeFabric id el v s).2.saves = s.saves ∧ (writeFabric id el v s).2.chip = s.chip ∧
    (writeFabric id el v s).2.power = s.power ∧ (writeFabric id el v s).2.mesh = s.mesh := by
  unfold writeFabric; dsimp only; (repeat' split) <;> simp

@[simp] theorem writeDomSleep_frame (id : Nat) (v : List Byte) (s : State) :
    (writeDomSleep id v s).2.pending = s.pending ∧ (writeDomSleep id v s).2.fresh = s.fresh ∧
    (writeDomSleep id v s).2.outbox = s.outbox ∧ (writeDomSleep id v s).2.tiles = s.tiles ∧ (writeDomSleep id v s).2.dens = s.dens ∧
    (writeDomSleep id v s).2.seam = s.seam ∧ (writeDomSleep id v s).2.host = s.host ∧ (writeDomSleep id v s).2.repair = s.repair ∧
    (writeDomSleep id v s).2.wells = s.wells ∧ (writeDomSleep id v s).2.cisterns = s.cisterns ∧
    (writeDomSleep id v s).2.wins = s.wins ∧ (writeDomSleep id v s).2.ctls = s.ctls ∧ (writeDomSleep id v s).2.fab = s.fab ∧
    (writeDomSleep id v s).2.trust = s.trust ∧ (writeDomSleep id v s).2.meter = s.meter ∧ (writeDomSleep id v s).2.saves = s.saves ∧
    (writeDomSleep id v s).2.chip = s.chip ∧ (writeDomSleep id v s).2.power = s.power ∧ (writeDomSleep id v s).2.mesh = s.mesh := by
  unfold writeDomSleep; split <;> simp

@[simp] theorem writeReg_frame (id ix el : Nat) (v : List Byte) (s : State) :
    (writeReg id ix el v s).2.pending = s.pending ∧ (writeReg id ix el v s).2.fresh = s.fresh ∧
    (writeReg id ix el v s).2.outbox = s.outbox ∧ (writeReg id ix el v s).2.tiles = s.tiles ∧
    (writeReg id ix el v s).2.dens = s.dens ∧ (writeReg id ix el v s).2.seam = s.seam ∧ (writeReg id ix el v s).2.ic = s.ic ∧
    (writeReg id ix el v s).2.host = s.host ∧ (writeReg id ix el v s).2.repair = s.repair ∧
    (writeReg id ix el v s).2.wells = s.wells ∧ (writeReg id ix el v s).2.cisterns = s.cisterns ∧
    (writeReg id ix el v s).2.wins = s.wins ∧ (writeReg id ix el v s).2.ctls = s.ctls ∧ (writeReg id ix el v s).2.fab = s.fab ∧
    (writeReg id ix el v s).2.trust = s.trust ∧ (writeReg id ix el v s).2.meter = s.meter ∧
    (writeReg id ix el v s).2.saves = s.saves ∧ (writeReg id ix el v s).2.chip = s.chip ∧
    (writeReg id ix el v s).2.power = s.power ∧ (writeReg id ix el v s).2.mesh = s.mesh := by
  unfold writeReg; dsimp only; (repeat' split) <;> simp

@[simp] theorem writeSlow_frame (slot el : Nat) (v : List Byte) (s : State) :
    (writeSlow slot el v s).2.pending = s.pending ∧ (writeSlow slot el v s).2.fresh = s.fresh ∧
    (writeSlow slot el v s).2.outbox = s.outbox ∧ (writeSlow slot el v s).2.tiles = s.tiles ∧
    (writeSlow slot el v s).2.seam = s.seam ∧ (writeSlow slot el v s).2.ic = s.ic ∧ (writeSlow slot el v s).2.dict = s.dict ∧
    (writeSlow slot el v s).2.host = s.host ∧ (writeSlow slot el v s).2.repair = s.repair ∧
    (writeSlow slot el v s).2.wells = s.wells ∧ (writeSlow slot el v s).2.cisterns = s.cisterns ∧
    (writeSlow slot el v s).2.wins = s.wins ∧ (writeSlow slot el v s).2.ctls = s.ctls ∧ (writeSlow slot el v s).2.fab = s.fab ∧
    (writeSlow slot el v s).2.trust = s.trust ∧ (writeSlow slot el v s).2.meter = s.meter ∧
    (writeSlow slot el v s).2.saves = s.saves ∧ (writeSlow slot el v s).2.chip = s.chip ∧
    (writeSlow slot el v s).2.power = s.power ∧ (writeSlow slot el v s).2.mesh = s.mesh := by
  unfold writeSlow; dsimp only; (repeat' split) <;> simp

@[simp] theorem writeOwl_frame (id el : Nat) (v : List Byte) (s : State) :
    (writeOwl id el v s).2.pending = s.pending ∧ (writeOwl id el v s).2.fresh = s.fresh ∧ (writeOwl id el v s).2.outbox = s.outbox ∧
    (writeOwl id el v s).2.tiles = s.tiles ∧ (writeOwl id el v s).2.dens = s.dens ∧ (writeOwl id el v s).2.seam = s.seam ∧
    (writeOwl id el v s).2.ic = s.ic ∧ (writeOwl id el v s).2.host = s.host ∧ (writeOwl id el v s).2.repair = s.repair ∧
    (writeOwl id el v s).2.wells = s.wells ∧ (writeOwl id el v s).2.cisterns = s.cisterns ∧ (writeOwl id el v s).2.wins = s.wins ∧
    (writeOwl id el v s).2.ctls = s.ctls ∧ (writeOwl id el v s).2.fab = s.fab ∧ (writeOwl id el v s).2.trust = s.trust ∧
    (writeOwl id el v s).2.meter = s.meter ∧ (writeOwl id el v s).2.saves = s.saves ∧ (writeOwl id el v s).2.chip = s.chip ∧
    (writeOwl id el v s).2.power = s.power ∧ (writeOwl id el v s).2.mesh = s.mesh := by
  unfold writeOwl; split <;> simp

@[simp] theorem writeElem_frame (id ix el : Nat) (v : List Byte) (s : State) :
    (writeElem id ix el v s).2.pending = s.pending ∧ (writeElem id ix el v s).2.fresh = s.fresh ∧
    (writeElem id ix el v s).2.outbox = s.outbox ∧ (writeElem id ix el v s).2.tiles = s.tiles ∧
    (writeElem id ix el v s).2.seam = s.seam ∧ (writeElem id ix el v s).2.host = s.host ∧
    (writeElem id ix el v s).2.repair = s.repair ∧ (writeElem id ix el v s).2.wells = s.wells ∧
    (writeElem id ix el v s).2.cisterns = s.cisterns ∧ (writeElem id ix el v s).2.wins = s.wins ∧
    (writeElem id ix el v s).2.ctls = s.ctls ∧ (writeElem id ix el v s).2.fab = s.fab ∧ (writeElem id ix el v s).2.trust = s.trust ∧
    (writeElem id ix el v s).2.meter = s.meter ∧ (writeElem id ix el v s).2.saves = s.saves ∧
    (writeElem id ix el v s).2.chip = s.chip ∧ (writeElem id ix el v s).2.power = s.power ∧ (writeElem id ix el v s).2.mesh = s.mesh := by
  unfold writeElem; (repeat' split) <;> simp

@[simp] theorem restoreElem_frame (s : State) (o : Nat × Nat × List Byte) :
    (State.restoreElem s o).pending = s.pending ∧ (State.restoreElem s o).fresh = s.fresh ∧
    (State.restoreElem s o).outbox = s.outbox ∧ (State.restoreElem s o).dens = s.dens ∧ (State.restoreElem s o).seam = s.seam ∧
    (State.restoreElem s o).host = s.host ∧ (State.restoreElem s o).cisterns = s.cisterns ∧ (State.restoreElem s o).wins = s.wins ∧
    (State.restoreElem s o).ctls = s.ctls ∧ (State.restoreElem s o).trust = s.trust ∧ (State.restoreElem s o).meter = s.meter ∧
    (State.restoreElem s o).saves = s.saves ∧ (State.restoreElem s o).chip = s.chip ∧ (State.restoreElem s o).power = s.power := by
  unfold State.restoreElem; (repeat' split) <;> simp

@[simp] theorem undo_frame (s : State) (o : Nat × Nat × List Byte) :
    (State.undo s o).pending = s.pending ∧ (State.undo s o).fresh = s.fresh ∧ (State.undo s o).outbox = s.outbox ∧
    (State.undo s o).dens = s.dens ∧ (State.undo s o).seam = s.seam ∧ (State.undo s o).host = s.host ∧
    (State.undo s o).cisterns = s.cisterns ∧ (State.undo s o).wins = s.wins ∧ (State.undo s o).ctls = s.ctls ∧
    (State.undo s o).trust = s.trust ∧ (State.undo s o).meter = s.meter ∧ (State.undo s o).saves = s.saves ∧
    (State.undo s o).chip = s.chip ∧ (State.undo s o).power = s.power := by
  unfold State.undo; split <;> simp

@[simp] theorem lateAnswer_frame (s : State) (q : Req) (c : Code) :
    (State.lateAnswer s q c).pending = s.pending ∧ (State.lateAnswer s q c).tiles = s.tiles ∧
    (State.lateAnswer s q c).dens = s.dens ∧ (State.lateAnswer s q c).seam = s.seam ∧ (State.lateAnswer s q c).host = s.host ∧
    (State.lateAnswer s q c).repair = s.repair ∧ (State.lateAnswer s q c).wells = s.wells ∧
    (State.lateAnswer s q c).cisterns = s.cisterns ∧ (State.lateAnswer s q c).wins = s.wins ∧
    (State.lateAnswer s q c).ctls = s.ctls ∧ (State.lateAnswer s q c).trust = s.trust ∧ (State.lateAnswer s q c).meter = s.meter ∧
    (State.lateAnswer s q c).saves = s.saves ∧ (State.lateAnswer s q c).chip = s.chip ∧ (State.lateAnswer s q c).power = s.power := by
  simp [State.lateAnswer]

@[simp] theorem linksFollow_frame (s : State) :
    (State.linksFollow s).pending = s.pending ∧ (State.linksFollow s).fresh = s.fresh ∧ (State.linksFollow s).outbox = s.outbox ∧
    (State.linksFollow s).tiles = s.tiles ∧ (State.linksFollow s).dens = s.dens ∧ (State.linksFollow s).seam = s.seam ∧
    (State.linksFollow s).host = s.host ∧ (State.linksFollow s).repair = s.repair ∧ (State.linksFollow s).wells = s.wells ∧
    (State.linksFollow s).cisterns = s.cisterns ∧ (State.linksFollow s).wins = s.wins ∧ (State.linksFollow s).ctls = s.ctls ∧
    (State.linksFollow s).trust = s.trust ∧ (State.linksFollow s).meter = s.meter ∧ (State.linksFollow s).saves = s.saves ∧
    (State.linksFollow s).chip = s.chip ∧ (State.linksFollow s).power = s.power := by
  simp [State.linksFollow]

@[simp] theorem rollKey_frame (s : State) :
    (State.rollKey s).2.pending = s.pending ∧ (State.rollKey s).2.outbox = s.outbox ∧ (State.rollKey s).2.tiles = s.tiles ∧
    (State.rollKey s).2.dens = s.dens ∧ (State.rollKey s).2.seam = s.seam ∧ (State.rollKey s).2.ic = s.ic ∧
    (State.rollKey s).2.dict = s.dict ∧ (State.rollKey s).2.host = s.host ∧ (State.rollKey s).2.repair = s.repair ∧
    (State.rollKey s).2.wells = s.wells ∧ (State.rollKey s).2.cisterns = s.cisterns ∧ (State.rollKey s).2.wins = s.wins ∧
    (State.rollKey s).2.ctls = s.ctls ∧ (State.rollKey s).2.fab = s.fab ∧ (State.rollKey s).2.trust = s.trust ∧
    (State.rollKey s).2.meter = s.meter ∧ (State.rollKey s).2.saves = s.saves ∧ (State.rollKey s).2.chip = s.chip ∧
    (State.rollKey s).2.power = s.power ∧ (State.rollKey s).2.mesh = s.mesh := by
  unfold State.rollKey; dsimp only; (repeat' split) <;> first | (simp; done) | (have e := snd_of_eq ‹_ = (_, _)›; subst e; simp; done) | (have e := snd2_of_eq ‹_ = (_, _, _)›; subst e; simp)

end Sys2Proof.Laws
end

