-- ==== Sys2Proof/Laws/Issue.lean ====
section
/-! SUPPORT. Laws/Issue.lean: what the operations of a tile's slots do, once for all commands of a slot. -/

namespace Sys2Proof.Laws

open Sys2Proof Sys2Proof.Machine

/-- A tile that can issue: the slot, its den and the tile reach the command's own work. -/
theorem withIssue_of_issues {s : State} {t : TileIx} {slot : Nat} (h : s.issues t slot = true) (k : Nat → Den → Tile → Out State) :
    withIssue s t.val k = k slot (s.den slot) (s.tile t.val) := by
  simp [State.issues] at h
  simp [withIssue, h.1, h.2]

/-- Whether the bundle is a HALT, said both ways. -/
theorem halts_eq (x : Tile) (kind : BundleKind) :
    (decide (kind = .stored) && (if kind = .stored then x.fetch else Bundle.empty).ctl == 6) = x.halts kind := by
  cases kind <;> simp [Tile.halts]

/-- A bundle that opens hands on the state that its slots see. -/
theorem openBundle_of_opens {s u : State} {t : TileIx} {slot : Nat} {kind : BundleKind} (h : s.opens t slot kind = some u)
    (k : State → Out State) : s.issues t slot = true ∧ openBundle s slot (s.den slot) t.val (s.tile t.val) kind {} k = k u := by
  unfold State.opens at h
  dsimp only at h
  split at h
  · cases h
  · rename_i hi
    refine ⟨by simpa using hi, ?_⟩
    split at h
    · cases h
    · rename_i p hp
      unfold State.passed at hp
      dsimp only at hp
      unfold openBundle
      dsimp only
      rw [halts_eq]
      change (match if (s.tile t.val).opened = true then Step1.pass none
        else step1 s slot (s.den slot) t.val (s.tile t.val) ((s.tile t.val).bundleOf kind) ((s.tile t.val).halts kind) [] with
        | .error c i pop => _ | .missing cause tag => _ | .pass pop => _) = k u
      by_cases ho : (s.tile t.val).opened = true
      · simp only [ho, if_true, Option.some.injEq] at hp h ⊢
        subst hp
        split at h
        · cases h
        · rename_i hf
          simp only [not_and, Nat.not_lt] at hf
          simp only [Option.some.injEq] at h
          subst h
          cases kind <;> simp_all
      · simp only [ho, Bool.false_eq_true, if_false] at hp h ⊢
        split at hp
        · rename_i pop hpop
          simp only [Option.some.injEq] at hp
          subst hp
          rw [hpop]
          dsimp only
          split at h
          · cases h
          · rename_i hf
            split at h
            · cases h
            · rename_i he
              split at h
              · cases h
              · rename_i hv
                simp only [Option.some.injEq] at h
                subst h
                cases kind <;> simp_all
        · cases hp

/-- The present bundle of a tile is ready for an operation of a slot: what the operation sees. -/
theorem slotRun_ready {s u : State} {t : TileIx} {slot : Nat} {fault : Snap → Option Code} {effect : Snap → State → Out State}
    (h : s.ready u t slot = true) :
    slotRun t.val s fault effect = match fault (u.snap t slot) with
      | some c => .next (s.tileFault slot t.val c ((s.tile t.val).present (s.den slot) t.val))
      | none => effect (u.snap t slot) u := by
  simp only [State.ready, Bool.and_eq_true, beq_iff_eq, Option.isNone_iff_eq_none] at h
  obtain ⟨⟨hk, ho⟩, hh⟩ := h
  have hi := (openBundle_of_opens ho .next).1
  unfold slotRun
  rw [withIssue_of_issues hi, hk]
  simp only [need, beq_self_eq_true, if_true]
  rw [(openBundle_of_opens ho _).2, hh]
  rfl

/-- An operation of a slot whose checks all pass has its effect. -/
theorem slotOp_clean {s u : State} {t : TileIx} {slot : Nat} {fault : Snap → Option Code} {effect : Snap → State → State}
    (h : s.ready u t slot = true) (hf : fault (u.snap t slot) = none) :
    slotOp t.val s fault effect = .next (effect (u.snap t slot) u) := by
  unfold slotOp
  rw [slotRun_ready h, hf]

/-- An operation of a slot that a check stops faults its den (R739). -/
theorem slotOp_faults {s u : State} {t : TileIx} {slot : Nat} {fault : Snap → Option Code} {effect : Snap → State → State} {c : Code}
    (h : s.ready u t slot = true) (hf : fault (u.snap t slot) = some c) :
    slotOp t.val s fault effect =
      .next (s.tileFault slot t.val c ((s.tile t.val).present (s.den slot) t.val)) := by
  unfold slotOp
  rw [slotRun_ready h, hf]

theorem slotV_clean {s u : State} {t : TileIx} {slot : Nat} {f : VFields} (o : VOp) (h : s.ready u t slot = true)
    (hf : vFault o f (u.snap t slot) = none) : slotV o t.val f s = .next (vEffect o f (u.snap t slot) u) := slotOp_clean h hf

theorem slotM_clean {s u : State} {t : TileIx} {slot : Nat} {f : MFields} (o : MOp) (h : s.ready u t slot = true)
    (hf : mFault o f (u.snap t slot) = none) : slotM o t.val f s = .next (mEffect o f (u.snap t slot) u) := slotOp_clean h hf

/-- An operation of the V slot that does not hold its unit: its results are in flight, and nothing else changes. -/
theorem vEffect_inFlight {s : State} {t : TileIx} {slot : Nat} {f : VFields} (o : VOp) (h : o ≠ .vcmul) (h' : o ≠ .vcfma) :
    vEffect o f (s.snap t slot) s = s.inFlight t (vLanding o f (s.snap t slot)).toList := by
  simp [vEffect, h, h', State.inFlight, State.snap]

end Sys2Proof.Laws
end

