-- ==== Sys2Proof/Laws/Request.lean ====
section
/-! SUPPORT. Laws/Request.lean: what a dictionary request does, once for all commands that are one. -/

namespace Sys2Proof.Laws

open Sys2Proof Sys2Proof.Machine

/-- What a command's event comes to is what the command answers. -/
@[simp] theorem occurs_next (s t : State) : occurs s (.next t) = .next t := rfl

/-- A command whose event cannot occur changes nothing. -/
@[simp] theorem occurs_off (s : State) (g : Guard) : occurs s (.off g) = .next s := rfl

/-- A command always answers a next state: that of its event, or the state as it was. -/
theorem occurs_cases (s : State) (o : Out State) : (∃ t, o = .next t ∧ occurs s o = .next t) ∨ (∃ g, o = .off g ∧ occurs s o = .next s) := by
  cases o with
  | next t => exact .inl ⟨t, rfl, rfl⟩
  | off g => exact .inr ⟨g, rfl, rfl⟩

/-- The state after a command's event, where the event occurs or changes the state. -/
theorem occurs_eq {s t : State} {o : Out State} (h : occurs s o = .next t) : o = .next t ∨ t = s := by
  obtain ⟨u, ho, hu⟩ | ⟨g, -, hu⟩ := occurs_cases s o
  · rw [hu] at h; cases h; exact .inl ho
  · rw [hu] at h; cases h; exact .inr rfl

theorem need_true (g : Guard) (b : Bool) (k : Out State) (h : b = true) : need g b k = k := by simp [need, h]

theorem need_next {g : Guard} {b : Bool} {k : Out State} {t : State} (h : need g b k = .next t) : b = true ∧ k = .next t := by
  unfold need at h
  split at h
  · exact ⟨‹_›, h⟩
  · cases h

theorem needSome_next {α : Type} {g : Guard} {o : Option α} {k : α → Out State} {t : State} (h : needSome g o k = .next t) :
    ∃ a, o = some a ∧ k a = .next t := by
  cases o with
  | none => cases h
  | some a => exact ⟨a, rfl, h⟩

/-- A request that stands where it is executed, and that no check refuses: its own work decides. -/
theorem request_takes {s : State} {q : Req} {op : DictOp} {ix el : Nat} {v : List Byte} {permit : Bool}
    {run : Nat → State → Ans × State} (h : s.takes q op ix el v = true) (hc : s.checkReq q op v permit = none) :
    request q op v permit run s = .next (finishReq s.dict.nextId q (run s.dict.nextId (s.beginReq q v))) := by
  simp only [State.takes, Bool.and_eq_true, beq_iff_eq] at h
  obtain ⟨⟨⟨⟨⟨⟨-, -⟩, h1⟩, h2⟩, h3⟩, h4⟩, h5⟩ := h
  simp [request, need, h1, h2, h3, h4, h5, hc]

/-- A request that a check refuses has no effect but its response. -/
theorem request_refused {s : State} {q : Req} {op : DictOp} {ix el : Nat} {v : List Byte} {permit : Bool} {c : Code}
    {run : Nat → State → Ans × State} (h : s.takes q op ix el v = true) (hc : s.checkReq q op v permit = some c) :
    request q op v permit run s = .next ((s.beginReq q v).reply s.dict.nextId q c []) := by
  simp only [State.takes, Bool.and_eq_true, beq_iff_eq] at h
  obtain ⟨⟨⟨⟨⟨⟨-, -⟩, h1⟩, h2⟩, h3⟩, h4⟩, h5⟩ := h
  simp [request, need, h1, h2, h3, h4, h5, hc, finishReq]

theorem serves_takes {s : State} {q : Req} {ix el : Nat} {v : List Byte} (h : s.serves q ix el v = true) :
    s.takes q .write ix el v = true ∧ s.checkReq q .write v true = none := by
  simpa [State.serves] using h

theorem takes_at {s : State} {q : Req} {op : DictOp} {ix el : Nat} {v : List Byte} (h : s.takes q op ix el v = true) :
    q.index.toNat = ix ∧ q.element.toNat = el := by
  simp only [State.takes, Bool.and_eq_true, beq_iff_eq] at h
  exact ⟨h.1.1.1.1.1.1, h.1.1.1.1.1.2⟩

/-- A write of an element that has a command of its own, once it is served. -/
theorem requestOf_serves {s : State} {q : Req} {ix el : Nat} {v : List Byte} {els : List (Nat × Nat)}
    {run : Nat → State → Ans × State} (h : s.serves q ix el v = true) (hm : els.contains (ix, el) = true) :
    requestOf els q v run s = .next (finishReq s.dict.nextId q (run s.dict.nextId (s.beginReq q v))) := by
  obtain ⟨ht, hc⟩ := serves_takes h
  obtain ⟨h1, h2⟩ := takes_at ht
  unfold requestOf
  rw [need_true _ _ _ (by rw [h1, h2]; exact hm), request_takes ht hc]

theorem requestOf_refused {s : State} {q : Req} {ix el : Nat} {v : List Byte} {els : List (Nat × Nat)} {c : Code}
    {run : Nat → State → Ans × State} (h : s.takes q .write ix el v = true) (hc : s.checkReq q .write v true = some c)
    (hm : els.contains (ix, el) = true) :
    requestOf els q v run s = .next ((s.beginReq q v).reply s.dict.nextId q c []) := by
  obtain ⟨h1, h2⟩ := takes_at h
  unfold requestOf
  rw [need_true _ _ _ (by rw [h1, h2]; exact hm), request_refused h hc]

theorem finish_done (id : Nat) (q : Req) (s : State) : finishReq id q (done s) = s.reply id q kOk [] := rfl
theorem finish_refuse (id : Nat) (q : Req) (c : Code) (s : State) : finishReq id q (refuse c s) = s.reply id q c [] := rfl
theorem finish_later (id : Nat) (q : Req) (s : State) : finishReq id q (.later, s) = s.await id q := rfl
theorem finish_now (id : Nat) (q : Req) (c : Code) (v : List Byte) (s : State) :
    finishReq id q (.now c v, s) = s.reply id q c v := rfl

end Sys2Proof.Laws
end

