-- ==== Sys2Proof/Machine/BarView.lean ====
section
/-! DEFINITION. Machine/BarView.lean: what the host reads in BAR0 and BAR2 (R452, R453, R482, R484, R489, R495, R499, R565 to
R567, R572, R581, R585, R586). Each view takes an offset inside its block and gives the 64-bit register that starts there, zero
at an offset that no table names (R482). -/

namespace Sys2Proof.Machine

open Sys2Proof

/-- The bits of a word, lowest first: pairs of a place and a value. -/
def fieldsOf (l : List (Nat × Nat)) : Nat := l.foldl (fun a (p, v) => a + 2 ^ p * v) 0

/-- A word of the MSI-X table (R482, R577): the address, or the message and the vector's Mask bit, in the layout of PCI Express (PRESUMED, log entry
199). -/
def Ic.msixWord (c : Ic) (i : Nat) : Nat :=
  let w := (Config.msixWord i).toNat
  if i % 2 = 0 then w else w % 2 ^ 32 + 2 ^ 32 * (!kget false c.unmasked (i / 2)).toNat

/-- A ring page (R452, R453). -/
def State.ringPage (s : State) (p off : Nat) : Nat :=
  let x := s.page p
  match off with
  | 0x00 => x.drqTail
  | 0x08 => x.drqHead
  | 0x10 => x.drsTail
  | 0x18 => x.drsHead
  | 0x20 => fieldsOf [(0, x.enable.toNat), (1, x.irqEn.toNat)]
  | 0x28 => fieldsOf [(0, s.dict.ready.toNat), (1, x.overrun.toNat), (2, (x.stalled (s.owed p)).toNat)]
  | off =>
    if off % 8 ≠ 0 then 0
    else if 0x1000 ≤ off ∧ off < 0x9000 then kget 0 x.req ((off - 0x1000) / 8)
    else if 0x9000 ≤ off ∧ off < 0x10000 then kget 0 x.rsp ((off - 0x9000) / 8)
    else 0

/-- IC_SRC_STAT of source `n` (R567). KIND is 1 at an event source; a number that names no source reads 0 (R482). -/
def Ic.statWord (c : Ic) (n : Nat) : Nat :=
  if n = 0 ∨ 2045 < n then 0 else
  let x := c.src n
  fieldsOf [(0, x.pend.toNat), (1, x.act.toNat), (2, (!levelSource n).toNat), (3, x.repend.toNat), (4, x.owner), (16, x.occ)]

/-- The word `k` of a 2,048-bit register with a bit for each source (R565). -/
def Ic.bitWord (c : Ic) (f : Src → Bool) (k : Nat) : Nat :=
  ((List.range 64).map fun i => 2 ^ i * (f (c.src (64 * k + i))).toNat).sum

/-- The block of target `t` (R572). A read of IC_CLAIM has the effect of the command IC_CLAIM besides this value. -/
def Ic.targetWord (c : Ic) (t off : Nat) : Nat :=
  let x := c.tgt t
  match off with
  | 0x00 => (c.claim t).1
  | 0x10 => x.thresh
  | 0x18 => fieldsOf [(0, x.level), (4, x.stack.length)]
  | 0x20 =>
    fieldsOf [(0, x.notified.toNat), (1, (c.dom (domainOf t)).asleep.toNat), (2, (!(c.claimables t).isEmpty).toNat)]
  | _ => 0

/-- The interrupt controller, at BAR0 0x210_0000 (R565). -/
def Ic.read (c : Ic) (off : Nat) : Nat :=
  if off < 0x10000 then
    let n := off / 16
    if off % 16 = 0 then if n < 2048 then (c.src n).cfg.toNat else 0
    else if off % 16 = 8 ∧ n < 2048 then c.statWord n else 0
  else if off < 0x10400 then if off % 16 = 0 then (kget grpReset c.groups ((off - 0x10000) / 16)).toNat else 0
  else if 0x20000 ≤ off ∧ off < 0x20000 + 64 * 2052 then c.targetWord ((off - 0x20000) / 64) (off % 64)
  else if 0x80000 ≤ off ∧ off < 0x80100 ∧ off % 8 = 0 then c.bitWord Src.pend ((off - 0x80000) / 8)
  else if 0x80100 ≤ off ∧ off < 0x80200 ∧ off % 8 = 0 then c.bitWord Src.act ((off - 0x80100) / 8)
  else if 0x81000 ≤ off ∧ off < 0x81028 ∧ off % 8 = 0 then
    let x := c.dom ((off - 0x81000) / 8)
    fieldsOf [(0, x.retain.toNat), (1, x.asleep.toNat)]
  else 0

/-- A mailbox channel (R585, R586). -/
def Mbx.read (x : Mbx) (off : Nat) : Nat :=
  match off with
  | 0x00 => x.data.toNat
  | 0x08 =>
    fieldsOf [(0, x.full.toNat), (1, x.ackd.toNat), (2, x.ovf.toNat), (16, x.ackCode.toNat), (32, x.seq.toNat), (48, x.wsrc)]
  | 0x18 => x.rxdom
  | _ => 0

/-- STATE of a queue (R489). -/
def QPhase.code : QPhase → Nat
  | .disabled => 0
  | .active => 1
  | .stopped => 2

/-- The 16-byte entry of a queue in the queue status table (R489). -/
def Queue.status (x : Queue) : Nat :=
  fieldsOf [(0, x.phase.code), (8, x.slot), (16, x.sqHead), (32, x.cqTail), (48, x.lastStatus.toNat), (64, x.gen.toNat)]

/-- BAR0 (R482). -/
def State.bar0 (s : State) (off : Nat) : Nat :=
  if off < 0x1010000 then s.ringPage (off / 0x10000) (off % 0x10000)
  else if 0x2000000 ≤ off ∧ off < 0x2008000 ∧ off % 8 = 0 then s.ic.msixWord ((off - 0x2000000) / 8)
  else if 0x2008000 ≤ off ∧ off < 0x2008100 ∧ off % 8 = 0 then
    ((List.range 64).map fun i => 2 ^ i * (kget false s.ic.pba (8 * (off - 0x2008000) + i)).toNat).sum
  else if 0x2100000 ≤ off ∧ off < 0x2200000 then s.ic.read (off - 0x2100000)
  else if 0x2200000 ≤ off ∧ off < 0x2210000 then
    (kget ({} : Mbx) s.ic.mbx ((off - 0x2200000) / 0x400)).read (off % 0x400)
  else if 0x2300000 ≤ off ∧ off < 0x2310000 ∧ off % 8 = 0 then
    bitsOf (kget ({} : Queue) s.host.queues ((off - 0x2300000) / 16)).status (8 * (off % 16)) 64
  else 0

/-- Slot page `k` of BAR2 (R484); it reads zero while the slot is FREE. -/
def Den.slotPage (d : Den) (off : Nat) : Nat :=
  if d.phase = .free then 0
  else match off with
    | 0x00 => d.slipCyc.toNat
    | 0x08 => d.slipCnt.toNat
    | 0x10 => d.slipLast.toNat
    | 0x18 => d.slipLastB.toNat
    | 0x20 => d.bundle.toNat
    | 0x80 => fieldsOf [(0, d.phase.code), (3, d.stepActive.toNat)]
    | 0x88 => d.stepCount.toNat
    | 0x90 => d.faultCode.toNat
    | _ => if 0x40 ≤ off ∧ off < 0x80 ∧ off % 8 = 0 then (kget 0 d.causes ((off - 0x40) / 8)).toNat else 0

/-- The registers of a fence (R495). FEN_SIGNAL is write-only and reads 0 (R9). -/
def Fence.read (x : Fence) (off : Nat) : Nat :=
  match off with
  | 0x00 => fieldsOf [(0, x.value.toNat), (62, x.abandoned.toNat), (63, x.live.toNat)]
  | 0x10 => x.stale.toNat
  | 0x18 => x.gen.toNat
  | _ => 0

/-- BAR2 (R482). The alias pages read 0 (R499). -/
def State.bar2 (s : State) (off : Nat) : Nat :=
  if off < 0x1000000 then (s.den (off / 0x10000)).slotPage (off % 0x10000)
  else if off < 0x2000000 then (kget ({} : Fence) s.host.fences ((off - 0x1000000) / 256)).read (off % 256)
  else 0

end Sys2Proof.Machine
end

