-- ==== Sys2Proof/Machine/TrustView.lean ====
section
/-! DEFINITION. Machine/TrustView.lean: the 32-byte entries of the extent table and the window table (R321, R343), and the TDISP device
interface report over them (R603). -/

namespace Sys2Proof.Machine

open Sys2Proof

/-- An extent entry, words E0 to E3 (R321). -/
def Extent.bytes (e : Extent) : List Byte :=
  toLE 32 (fieldsOf [(0, e.vbase), (64, e.len), (128, e.tbase), (192, e.kind), (195, e.rd.toNat), (196, e.wr.toNat),
    (197, e.atom.toNat), (224, e.win)])

/-- A window entry (R343). -/
def WinEntry.bytes (e : WinEntry) : List Byte :=
  toLE 32 (fieldsOf [(0, 1), (1, e.inbound.toNat), (2, e.opened.toNat), (3, e.anySrc.toNat), (8, e.slot), (16, e.peer),
    (40, e.rwin), (52, e.rd.toNat), (53, e.wr.toNat), (54, e.atom.toNat), (64, e.job), (128, e.base), (192, e.len)])

/-- What the device interface report of a TDI holds (R603). -/
structure TdiReport where
  rect : Nat
  shape : Nat
  digest : BitVec 256
  pasid : BitVec 32
  holdings : List PRange
  extents : List Byte
  windows : List Byte
  deriving DecidableEq, Repr

/-- The device interface report of TDI `slot` (R603): its extents in VBASE order and its windows in index order, by their digests. -/
def State.tdiReport (s : State) (slot : Nat) : TdiReport :=
  let d := s.den slot
  let exts := d.extents.mergeSort fun a b => a.vbase ≤ b.vbase
  let wins := s.wins.filterMap fun (_, w) => w.bind fun e => if e.slot = slot then some e else none
  { rect := d.rect.word, shape := d.shape, digest := d.digest, pasid := d.pasid, holdings := d.holdings,
    extents := sha (exts.flatMap Extent.bytes), windows := sha (wins.flatMap WinEntry.bytes) }

end Sys2Proof.Machine
end

