-- ==== Sys2Proof/WellFormed.lean ====
section
/-! DEFINITION. WellFormed.lean: what a command must satisfy beside its types to be one that the block can be given: the payload a
dictionary request carries has the length its header states, a measurement has a value for each sensor, an access lies in its line. -/

namespace Sys2Proof

/-- Whether a payload is the one that a request's header states (R448): where the operation is undefined or LENGTH too large the
request is refused whatever follows it. -/
def Req.fits (q : Req) (v : List Byte) : Bool :=
  v.length == q.len.toNat || !(1 ≤ q.opc.toNat && q.opc.toNat ≤ 5) || 4096 < q.len.toNat

/-- How many sensors a group has (R473, R662). -/
def SensorGroup.count : SensorGroup → Nat
  | .die => 512 | .well => 64 | .floor => 16 | .cistern => 32 | .water => 2

/-- Whether the bytes of an access lie inside its line. -/
def Access.inLine : Access → Bool
  | .read => true
  | .write off bs => off + bs.length ≤ 64
  | .rmw _ _ off x _ => off + x.length ≤ 64
  | .masked _ _ _ x _ => x.length == 64

/-- Whether a command is well formed. -/
def Instr.wellFormed : Instr → Bool
  | .seamFollowEngage _ => true
  | .wellAccess _ k _ _ => k.inLine
  | .remapReq q v => q.fits v
  | .cisternAccess _ k _ _ => k.inLine
  | .rollReq q v => q.fits v
  | .extGrant q v => q.fits v
  | .extRevoke q v => q.fits v
  | .extResize q v => q.fits v
  | .winOpen q v => q.fits v
  | .winClose q v => q.fits v
  | .holdAdd q v => q.fits v
  | .holdRemove q v => q.fits v
  | .bankCtl q v => q.fits v
  | .saveArea q v => q.fits v
  | .linkBudget q v => q.fits v
  | .guarantee q v => q.fits v
  | .dictWrite q v => q.fits v
  | .defaultsRestore q v => q.fits v
  | .calImport q v _ => q.fits v
  | .calibrationWrite q v => q.fits v
  | .seamCtl q v => q.fits v
  | .queueCreate q v => q.fits v
  | .queueStop q v => q.fits v
  | .queueStart q v => q.fits v
  | .queueDiscard q v _ => q.fits v
  | .queueDestroy q v => q.fits v
  | .fenCreate q v => q.fits v
  | .fenRef q v => q.fits v
  | .fenUnref q v => q.fits v
  | .fenExport q v => q.fits v
  | .ownerTeardown q v => q.fits v
  | .aperMap q v => q.fits v
  | .aperUnmap q v => q.fits v
  | .apertureAccess _ k _ => k.inLine
  | .slotOwner q v => q.fits v
  | .endpointId q v => q.fits v
  | .routeSet q v => q.fits v
  | .routeClear q v => q.fits v
  | .jobCreate q v => q.fits v
  | .jobMember q v => q.fits v
  | .jobEnd q v => q.fits v
  | .keyInstall q v => q.fits v
  | .fenceSend q v => q.fits v
  | .pushChCreate q v => q.fits v
  | .pushStart q v => q.fits v
  | .retarget q v => q.fits v
  | .pushStop q v => q.fits v
  | .pushDestroy q v => q.fits v
  | .logSelect q v => q.fits v
  | .custodySelect q v => q.fits v
  | .pushRelease q v => q.fits v
  | .logClear q v => q.fits v
  | .linkEnable q v => q.fits v
  | .sourceOccurrence n _ => 1 ≤ n.val && n.val ≤ 2004
  | .lcDeploy q v => q.fits v
  | .lcReturn q v _ => q.fits v
  | .lcScrap q v => q.fits v
  | .svnCommit q v => q.fits v
  | .meterFrame f => f.toMeter || f.kind == .heartbeat
  | .powerEval _ => true
  | .gainCorrection rails => rails.length == 16
  | .droopTrip _ tripped deep => !deep || !tripped.isEmpty
  | .sensorSample g raw => raw.length == g.count
  | .fenceTile q v => q.fits v
  | .unfenceTile q v => q.fits v
  | .repairApply q v _ => q.fits v
  | .marchDestructive q v => q.fits v
  | .marchPreserving q v => q.fits v
  | .denReset q v => q.fits v
  | .engineReset q v => q.fits v
  | .halfReset q v => q.fits v
  | .chipReset (.request q v) => q.fits v
  | .chipReset (.chip _) => true
  | .moduleReset q v => q.fits v
  | .dumpCfg q v => q.fits v
  | .next .. | .br .. | .jmp .. | .loop .. | .call .. | .ret .. | .halt .. | .emptyBundle .. | .throttleBundle ..
  | .drainCycle .. | .fixedResultLand .. | .mnop .. | .mma .. | .mmaz .. | .mzero .. | .mrd .. | .vnop .. | .vadd ..
  | .vsub .. | .vmul .. | .vfma .. | .vfms .. | .vfnma .. | .vmin .. | .vmax .. | .vabs .. | .vneg .. | .vrcp ..
  | .vrsq .. | .vcmpeq .. | .vcmplt .. | .vcmple .. | .vcvt .. | .vsel .. | .vcmul .. | .vcfma .. | .vconj ..
  | .viadd .. | .visub .. | .vimul .. | .vand .. | .vor .. | .vxor .. | .vshl .. | .vshr .. | .vsra .. | .vbcast ..
  | .vperm .. | .vredsum .. | .sadd .. | .ssub .. | .smul .. | .sand .. | .sor .. | .sxor .. | .sshl .. | .sshr ..
  | .saddi .. | .sli .. | .slui .. | .scmpeq .. | .scmplt .. | .smovv .. | .smovs .. | .sstat .. | .pset .. | .pand ..
  | .por .. | .pnot .. | .anop .. | .ld .. | .st .. | .ldst .. | .lds .. | .sts .. | .bankctl .. | .xnop .. | .send ..
  | .vote .. | .psetu .. | .pnop .. | .issueV .. | .issueA .. | .pord .. | .copy .. | .gather .. | .scatter ..
  | .rmw .. | .segred .. | .stencil .. | .spmv .. | .embed .. | .hist .. | .compress .. | .expand .. | .convert ..
  | .merge .. | .pumpLineRequest .. | .fillResponse .. | .pumpLineResponse .. | .pumpComplete .. | .holdExpiry ..
  | .pumpOwlExpiry .. | .pumpTagReset .. | .relayArrival .. | .freezeSignal .. | .clearReport .. | .resumeSignalSend ..
  | .resumeSignal .. | .resumeCountdownExpiry .. | .streamOwlExpiry .. | .seamFollowRelease .. | .seamTraining ..
  | .refresh .. | .patrolScrub .. | .rowRepair .. | .remapStart .. | .remapCopyEnd .. | .rollKeyLoad .. | .sweepStep ..
  | .rollEnd | .rebuild .. | .rebuildEnd .. | .regSlot .. | .monWindowEnd .. | .vc0Eject .. | .reportMerge ..
  | .routeCompute | .extInvalidate .. | .invalidationDone .. | .atsInvalidate .. | .atsTranslation .. | .busyResend ..
  | .windowOwlExpiry .. | .reserve .. | .load .. | .start .. | .freeze .. | .resume .. | .save .. | .restore ..
  | .relocate .. | .reshape .. | .release .. | .copyOut .. | .cmdComplete .. | .denFrozen .. | .settFreeze ..
  | .stepStart .. | .stepEnd .. | .drainEnd .. | .scrubEnd .. | .sdiWindowEnd .. | .dictRead .. | .dictDescribe ..
  | .dictNext .. | .dictSnapshot .. | .persistCommit .. | .dictOwlExpiry .. | .hifDrqTail .. | .hifDrsHead ..
  | .empty .. | .dictSegment .. | .dictReassemblyTimeout .. | .mctpControl .. | .vendorDictMessage ..
  | .pldmFirmwareUpdate .. | .submissionDoorbell .. | .completionDoorbell .. | .step .. | .fenceEntry ..
  | .waitOwlExpiry .. | .completionRecordWrite .. | .fenSignal .. | .fenSignalAlias .. | .functionLevelReset
  | .d3hotEntry | .d0Return | .perstAssert .. | .linkUp .. | .linkDown .. | .spareSwap .. | .frameReceive ..
  | .reqRead .. | .reqWrite .. | .reqRmw .. | .pushw .. | .rsp .. | .fenceFrame .. | .keyx .. | .keyxResend ..
  | .keyRetainExpiry .. | .keyend .. | .pcommit .. | .pack .. | .pdone .. | .pushPoll .. | .pushRetryExpiry ..
  | .linkOwlExpiry .. | .notification .. | .moderationTimeExpiry .. | .icClaim .. | .icComplete .. | .icSrcCfg ..
  | .clr .. | .icThresh .. | .domainSleep .. | .domainWake .. | .mbxData .. | .mbxAck .. | .mbxCfg .. | .tamperEvent ..
  | .getMeasurements .. | .keyExchange .. | .endSession .. | .spdmHeartbeatLoss .. | .securedDictMessage ..
  | .keyProg .. | .kSetStop .. | .startInterfaceRequest .. | .meterLinkLost .. | .meterPairing .. | .meterSealOpen
  | .periodReceipt | .unmeteredReceipt .. | .energySample .. | .stretchDecay .. | .stepChangeSettled | .pwrBrake ..
  | .brakeEnd | .thermalLevelTick .. | .tripCooldown | .railFault .. | .inputSag | .sagEnd | .inputLoss | .powerOn ..
  | .regulatorTimeout .. | .perstDeassert | .romBoot .. | .firmwareRelease .. | .wellTraining .. | .cisternTraining ..
  | .repairMapBuild .. | .linkTrainingEnd .. | .dictReady .. | .marchEnd .. | .drainLimitExpiry ..
  | .escalationOwlExpiry .. | .returnToService .. | .settHeartbeatExpiry .. | .leaseRenewal .. | .leaseCheck ..
  | .routerFault .. | .lockInterfaceRequest .. | .stopInterfaceRequest .. | .kSetGo .. | .keyUpdate ..
  | .configurationRequest .. | .resizableBar .. | .hifDctl .. | .parityError .. | .priorityFlowControl ..
  | .macMergeVerification .. | .msiXVectorControl .. => true

end Sys2Proof
end

