-- ==== Sys2Proof/Tests/Slice0.lean ====
section
/-! SUPPORT. Tests/Slice0.lean: the spec's worked examples as small theorems, terms that are not well formed, and for every statement a
witness that its hypotheses can hold together. Every expected value comes from the spec's text or from a calculation by hand. -/

namespace Sys2Proof.Tests

open Sys2Proof Sys2Proof.Machine

set_option Elab.async false

/-! ### Small states and values -/

/-- A module whose dictionary answers. -/
def up : State := { chip := { phase := .ready }, dict := { ready := true } }

/-- A request of ring page 0 (role host-admin). -/
def req (opc ix el len : Nat) : Req :=
  { fe := .page 0, opc := BitVec.ofNat 8 opc, tag := 7, index := BitVec.ofNat 16 ix, element := BitVec.ofNat 8 el,
    len := BitVec.ofNat 16 len }

/-- A write by ring page 0. -/
def wr (ix el : Nat) (v : List Byte) : Req := req 2 ix el v.length

/-- A state in which a request with a payload of a length stands at the head of ring page 0. -/
def asked (s : State) (len : Nat) : State :=
  { s with dict := { s.dict with ready := true, pages := [(0, { enable := true, drqTail := msgUnits len })] } }

/-- Bytes from numbers of bytes each: (width, value). -/
def pack (l : List (Nat × Nat)) : List Byte := l.flatMap fun p => toLE p.1 p.2

/-- A slot at a phase with a rectangle of one block. -/
def den1 (p : DenPhase) : Den := { phase := p, rect := { bc := 0, br := 0, w := 1, h := 1 } }

/-- A module with one den in slot 3. -/
def withDen (d : Den) : State := { up with dens := [(3, d)] }

/-- The SHA-256 of the image below with its DIGEST field at zero, as a little-endian number. -/
def img1Digest : Nat := 0xc874dad0475d81be530874583aa6ef7946eb7c6b83b97897ac706cd720d14392

/-- An image of one shape of one block, whose tiles share one empty stream (R400). -/
def img1 : List Byte :=
  pack [(2, 1), (2, 0), (4, 0), (8, 356), (32, img1Digest), (4, 256), (2, 1), (2, 0), (4, 288), (4, 1), (4, 292), (4, 0), (4, 0), (4, 0),
    (2, 0), (174, 0), (1, 1), (1, 0), (2, 0), (1, 1), (1, 1), (1, 255), (25, 0), (4, 0), (64, 0)]

/-- A command in flight. -/
def cmdOf (op a1 a2 : Nat) : DenCmd := { op := op, fen := false, fence := 0, fval := 0, a1 := a1, a2 := a2 }

/-- A module with a slot 3 at a phase and with a command in flight. -/
def cmdAt (p : DenPhase) (op a1 a2 : Nat) : State := withDen { den1 p with cmd := some (cmdOf op a1 a2) }

/-- The same with every well in service. -/
def onWells (s : State) : State :=
  { s with dict := { s.dict with regs := (List.range 16).map fun w => (elemKey (0x300 + w) 0, 1) } }

/-- A module of endpoint 5 whose link 31 is up, with a live pair of job 7 and peer 9. -/
def net : State :=
  { up with
    dict := { ready := true, regs := [(elemKey 0x101F 0, 2), (elemKey 0x1100 0, 5)] },
    fab := { jobs := [{ id := 7, compat := false }], members := [{ job := 7, peer := 9, digest := 0 }],
             keys := [{ job := 7, peer := 9, live := true, known := true, inc := 3, gen := 1 }],
             routes := [(0, some { plink := 31, links := 0x80000000, value := 0, mask := 0, via := 0 })], nextGen := 2 } }

/-- A frame of peer 9 for endpoint 5 in job 7, as it comes by link 31. -/
def frm (dinc pn : Nat) (m : Msg) : Frame :=
  { dmac := macOf 5 31, smac := macOf 9 0, etype := 0x88b5, hdr := mkHdr (expressKind m.kind) 1 5 9 7 3 dinc pn m, payload := m.payload }

/-- The same module with a frame before an engine of link 31. -/
def netRx (m : Msg) : State := net.modLink 31 fun x => { x with rx := [frm 0 1 m] }

/-- The modulus of an RSA-3072 key. -/
def rsaModulus : List Byte :=
  toBE 32 0xb1c9ba7841ea813e25874a6fc249aa5021ea1fe49dd50d52e364e8a5beb8a66a ++
  toBE 32 0xbf06eea58598342156fda55c42fe999c59fcafe6cccc3d360630540bf7a92a2a ++
  toBE 32 0x7a13647830b9c77babe8465c44cf3e1817f9203c444dd3c06587581137b94c02 ++
  toBE 32 0xe913cec9068773a550a191c4f26492a52ef78055bf15f717c506480b18de768a ++
  toBE 32 0x9e7c08f4b5865e0c55f913fa3a640af3458934e20c681901a3e7cab7763a6bab ++
  toBE 32 0x8ff8c5171d1a13cdaae7a27589449ff610835228b1e84fd8adca68bbdb0f88ed ++
  toBE 32 0x3327619ac15adfc0d0c12be401a05b36b3bb6b7d38de1dedb647ecec749d391f ++
  toBE 32 0x3361ad171ca99fa5c5fcc46841ff32606a4b2e0aa9142160cf1196c84e0289f1 ++
  toBE 32 0x5cc6fe183dc849029c2bbc8bfadf8118782ab6754a9bfbd83342a0f6ef695fc4 ++
  toBE 32 0xe7c9192a5803066cab2a5a663de9b65c115904a193f03df0eab53fb489c76f7a ++
  toBE 32 0x22629fd59987f8274e8ab709fd1e66ea767d3599fdbf7a4de1df6eb869f6b29e ++
  toBE 32 0xc1967fd187d07af43b7e8b8977a6538c29262c4cdb63b7d754511f4d5126c1f9

/-- The SHA-256 of that modulus, as a little-endian number. -/
def rsaDigest : BitVec 256 := 0x5e40db26c0448ce88263d57b44209d9e9fb09e9e3e2b80bbd1796624b2efa18e

/-- The key's signature of a KEYX that begins an agreement (R536). -/
def rsaSig1 : List Byte :=
  toBE 32 0x658e25f578794832c04bb571d791f408fe31a979d006a159f7e70764d832065b ++
  toBE 32 0x00462caa2dbf2501f85e8dd156dab05a368a96f32846ba8db7a2358319655614 ++
  toBE 32 0x7cf205dc6852457cf40a39f3a0b140d7c0553042e1080afa65a71e32400c7a92 ++
  toBE 32 0x727fbf901198c433b7583aad6f816198bf30213d89b3fe4b8a34edf923478af4 ++
  toBE 32 0x57bd9b0b9f1cec0a9abc3187ccc44cfaccf06d225b3b658d33d5eb7acc1a0630 ++
  toBE 32 0x7bc7f11e9f7f7572f9a698140aa46ffed858a379da9e859f1258af39806f1a46 ++
  toBE 32 0x124c01d0e1204234d7f27743c799ecb7d8938808e15955ccc38e8929195add0b ++
  toBE 32 0x8a84857e5354dd758a7f125b065f52a54ca0100a7683a581efc5f5386ff903a8 ++
  toBE 32 0x62c5cfd6da9b1d608ba36aba4e60770908f8b2112708030e39770737dedc5048 ++
  toBE 32 0x0b97df4261ecc96edb27ea29bd43b459e315a3192857bf56f0eb05223dd9e826 ++
  toBE 32 0xd63ae13c394b1eaa051a2fdc5a7f859d0dd30137e4fc85a61e5d084b3e1f9218 ++
  toBE 32 0x2ae0b2282d479db8f680ca4db3a9bc971352a0b072730fbfa08fde373d64c79f

/-- The key's signature of a KEYX that answers one. -/
def rsaSig2 : List Byte :=
  toBE 32 0x7806b0cfa70416080e9f814afd3f680d69a7a151d60bb9a927e00cd567f5080d ++
  toBE 32 0xe990dd7c3f7d88236082b5ba6011a13ac17e5ab63e2dbdca08c85d870967e0aa ++
  toBE 32 0x2a280c51b0c9de58d182456bbd19f9815763fe9e327a1c6b5b3212554cf4fbc1 ++
  toBE 32 0x2c690ba25097da1969fe87f411b5c0657e16a914081c5948f3a5a86aeb66b2af ++
  toBE 32 0x6cff22b07aa5fcd5b2321a5b6d532a41b5c2b536153ac8b6c3ee030d2133ff60 ++
  toBE 32 0x99cc7bd1b8224f093468105b95a4416f2af0ef444e2c63e0810cc55800adfa76 ++
  toBE 32 0x95e61acf6d54cef3c32320516d9b7496e45d80e9a9490dbb6d5a2db44570e5a8 ++
  toBE 32 0xf675b6a29ce818e10db8d6ad1cc95e6e935b02dd40521347fa2fae0bb9ff5072 ++
  toBE 32 0xde562d9387bb3d8a4e3a3dc72b96362fb544808d01279ee0183f8bc1f10f69b9 ++
  toBE 32 0x280fed3f1ab62bfc97fe9021da19d7c4b20733d3015f0ae8e10cfe7077cd926c ++
  toBE 32 0x20198d752b8d397d9558424c2f16ce8df54c9b4e6ba76dc0b1c382d77b23a231 ++
  toBE 32 0x717926c4d4c98adc3e496dad55f8fc7fa2e12c7b2431d7b745d193e5e3fde3d2

/-- A KEYX payload of a step, with that modulus and a signature. -/
def keyxOf (step : Nat) (sig : List Byte) : List Byte :=
  pack [(4, step), (8, 4), (4, 0)] ++ List.replicate 32 2 ++ (4 :: List.replicate 96 0) ++ List.replicate 7 0 ++ rsaModulus ++ sig

/-- A frame as its sender leaves it under the pair key of `net`. -/
def authentic (f : Frame) : Frame := frameSealed f 0

/-- A module with a KEYX under that key before link 31, in a job native or not, with some pairs. -/
def keyxAt (step : Nat) (sig : List Byte) (compat : Bool) (keys : List Pair) : State :=
  let s := netRx { kind := 4, payload := keyxOf step sig }
  { s with fab := { s.fab with
    jobs := [{ id := 7, compat := compat }], keys := keys, members := [{ job := 7, peer := 9, digest := rsaDigest }] } }

/-- A window. -/
def win1 (inbound : Bool) : WinEntry :=
  { inbound := inbound, opened := true, anySrc := false, slot := 3, peer := 9, rwin := 9, rd := true, wr := true, atom := true,
    job := 7, base := 0, len := 65536 }

/-- A running den in slot 3 with one extent over 64 KiB of well 0. -/
def den3 : Den :=
  { den1 .running with extents := [{ vbase := 0, len := 65536, tbase := 0, kind := 1, rd := true, wr := true, atom := true }] }

/-- The module of `net` with that den, window 9 and every well in service. -/
def netDen (inbound : Bool) : State :=
  { net with dens := [(3, den3)], wins := [(9, some (win1 inbound))],
             dict := { net.dict with regs := (onWells up).dict.regs ++ net.dict.regs } }

/-- The same with a frame of peer 9 before an engine of link 31. -/
def netDenRx (m : Msg) : State := (netDen true).modLink 31 fun x => { x with rx := [frm 0 1 m] }

/-- A dictionary request as a message (R448). -/
def msgOf (q : Req) (v : List Byte) : List Byte :=
  pack [(1, q.opc.toNat), (1, 0), (2, 7), (2, q.index.toNat), (1, q.element.toNat), (1, 0), (2, v.length), (6, 0)] ++ v

/-- A state in which a request in a secured session of the host stands first. -/
def told (s : State) (q : Req) (v : List Byte) : State :=
  { s with dict := { s.dict with ready := true, queued := [{ fe := .secured 0, bytes := msgOf q v }] } }

/-- A tile with every scratchpad bank on. -/
def tileOn : Tile := { banks := (List.range 16).map fun b => (b, { mode := .on }) }

/-- A pump descriptor: operation, data kind, types, function, count and words 1 to 7. -/
def descOf (op dkind ety dty func count : Nat) (ws : List Nat) : List Byte :=
  toLE 8 (op + 2 ^ 8 * dkind + 2 ^ 12 * ety + 2 ^ 17 * dty + 2 ^ 24 * func + 2 ^ 32 * count) ++ ws.flatMap fun w => toLE 8 w

/-- Location words of places in the scratchpad, 4 KiB apart. -/
def sp (i : Nat) : Nat := 2 ^ 62 + 4096 * i

/-- A module in whose slot 3 tile 0 runs pump operations. -/
def pumping (p : Pump) : State := { withDen (den1 .running) with tiles := [(0, { tileOn with pump := p })] }

/-- A slip signal. -/
def sig1 (dest : Nat) (came : Dir) (g : WaveSig) : Signal := { dest := dest, came := came, at' := 0, sig := g }

/-- A running den in slot 3 whose wave is given, with given tiles. -/
def waving (w : Wave) (ts : KMap Tile) : State := { withDen { den1 .running with wave := w } with tiles := ts }

/-- A module in whose slot 3 tile 0 can issue a bundle. -/
def issuing (x : Tile) : State := waving {} [(0, { x with banks := tileOn.banks, phase := .running })]

/-- The same with one stored bundle: CTL, ARG and the control word's ADDR and COUNT. -/
def bundling (ctl arg addr cnt : Nat) (x : Tile := {}) : State :=
  issuing { x with istore := [(x.addr, BitVec.ofNat 192 (2 ^ 176 * (2 ^ 13 * ctl + arg) + 2 ^ 96 * (2 ^ 28 * addr + 2 ^ 12 * cnt)))] }

/-! ### The spec's worked examples -/

/-- 00_scope.md: the well under tile (70, 40) is W12; 06_wells_and_pumps.md: tile (66, 3) lies over W8 and has its shaft 50. -/
theorem test_well_under_tile : wellOf (tileAt 70 40) = 12 ∧ wellOf (tileAt 66 3) = 8 ∧ shaftOf (tileAt 66 3) = 50 := by decide

/-- 02_tiles_and_wavefront.md and 05_relay_and_seam.md: K is 46 for a den of 8 × 4 blocks in one half and 196 for the whole chip, where the
skew of a tile of row 3 is c + 3 in the West half and c + 9 in the East half. -/
theorem test_den_span :
    Rect.span { bc := 0, br := 0, w := 8, h := 4 } = 46 ∧ Rect.span { bc := 0, br := 0, w := 32, h := 16 } = 196 ∧
      Rect.skew { bc := 0, br := 0, w := 32, h := 16 } (tileAt 63 3) = 66 ∧
      Rect.skew { bc := 0, br := 0, w := 32, h := 16 } (tileAt 64 3) = 73 := by decide

/-- 03_bundle_stream.md, the matrix tile loop: the whole bundle at 0x015. -/
theorem test_bundle_of_matrix_loop :
    let b := Bundle.of 0x0001_0680_0080_0000_0000_0000_11C4_0010_0000_0000_0000_0000
    b.ctl = 0 ∧ b.arg = 1 ∧ b.pred = none ∧
      b.mSlot = (some .mma, { fmt := 0xA, td := 0, ma := 0, mb := 2, mc := 0, tgt := 0, low := 0 }) ∧
      (match b.aSlot with
        | .op o f => o == .ld && f == { lv := 7, la := 1, sv := 0, sa := 0, linc := 1, sinc := 0 }
        | _ => false) = true := by decide +kernel

/-- The same loop: the LOOP of 0x014, whose control word has ADDR 0x01A and COUNT 1,344. -/
theorem test_control_word_of_matrix_loop :
    let b : Bundle := { Bundle.empty with hdr := 0x6000, v := 0x01_A054_0000 }
    b.ctl = 3 ∧ b.control = true ∧ b.target = 0x01A ∧ b.times = 1344 := by decide

/-- 04_arithmetic.md: the spans of blocks X and Y at TGT 53 (R170): 7 slices and the triangle; 4 slices and all pairs. -/
theorem test_slices_of_closure_blocks : sliceChoice 58 7 28 = (7, true) ∧ sliceChoice 28 7 28 = (4, false) := by decide

/-- The second M slot of that example. -/
theorem test_fp64_slot :
    Bundle.mSlot { Bundle.empty with m := 0x0B_5205_0000 } =
      (some .mmaz, { fmt := 0xD, td := 1, ma := 0x10, mb := 0x14, mc := 0, tgt := 0, low := 0 }) := by decide +kernel

/-- 04_arithmetic.md, an MXFP8 readout with a tie: cell (0, 5) is −4.140625 with no flag; B bytes of kk 2 and 3 are any finite ones. -/
theorem test_mxfp8_cell :
    (matFmt 4).map (fun m =>
        floatCell none (cellProducts m [0x4C, 0x08, 0, 0]
          ((List.range 128).map fun i => if i = 5 then 0xB3 else if i = 37 then 0xB8 else 0x38)
          ((List.range 48).map fun i => if i = 0 then 0x7D else if i = 21 then 0x81 else 0x7F) 0 5) 0) =
      some (0xC0848000, {}) := by decide +kernel

/-- The readout of that cell: in BF16 0xC084 with MNX, in FP32 exactly and with no flag. -/
theorem test_mxfp8_readout :
    readCell 0xA (.float (List.replicate 512 0xC0848000)) 5 = (0xC084, { nx := true }) ∧
      readCell 0xC (.float (List.replicate 512 0xC0848000)) 5 = (0xC0848000, {}) := by decide +kernel

/-- 05_relay_and_seam.md, a row sum: the X slots 0x1148_6FC0 and 0x0100_0000, and VADD V40 ← V40 + W in FP64. -/
theorem test_row_sum_slots :
    (match Bundle.xSlot { Bundle.empty with x := 0x1148_6FC0 } with
      | .send d src h => d == 4 && src == 0x43 && h == 63
      | _ => false) = true ∧
      Bundle.consume { Bundle.empty with x := 0x1148_6FC0 } = 1 ∧
      (match Bundle.xSlot { Bundle.empty with x := 0x0100_0000 } with | .nop => true | _ => false) = true ∧
      Bundle.vSlot { Bundle.empty with v := 0x01_A144_3000 } =
        (some .vadd, { vd := 40, s1 := 40, s2 := 0x43, s3 := 0, ty := 0, rnd := 0 }) := by decide +kernel

/-- 08_extents_and_windows.md, an embedding row on another chip: the extent of KIND 4, and the window offset of its address. -/
theorem test_extent_of_embedding :
    (match parseExtent (pack [(8, 0x0000_0174_3AA3_8000), (8, 0x0000_0074_3AA3_8000), (8, 0), (8, 0x0000_0021_0000_002C)]) with
      | none => false
      | some e => e.kind == 4 && e.rd && !e.wr && e.atom && e.win == 0x21 &&
        (match e.target 0x01A0_EEBB_0000 with | .window w off => w == 0x21 && off == 0x2C_B417_8000 | _ => false)) = true := by
  decide +kernel

/-- The windows of that example: 0x021 of chip A, outbound, and 0x300 of chip B, inbound. -/
theorem test_windows_of_embedding :
    (let w (q0 base : Nat) := (parseWindow (pack [(8, q0), (8, 0x5A17_0C3E), (8, base), (8, 0x74_3AA3_8000)])).map
       fun e => (e.inbound, e.opened, e.slot, e.peer, e.rwin, e.rd, e.wr, e.atom, e.job)
     w 0x0053_0000_0B07_4005 0 == some (false, true, 0x40, 0x0B07, 0x300, true, false, true, 0x5A17_0C3E) &&
       w 0x0050_0000_0A12_0507 0x0200_0000_0000 == some (true, true, 5, 0x0A12, 0, true, false, true, 0x5A17_0C3E)) = true := by
  decide +kernel

/-- 12_host_attachment.md, a shared fence at the wrap: the wait for 2 holds at 0xFF_FFFF_FFF0 and at 1, and the entry's first word. -/
theorem test_fence_wait :
    waitMet 0xFF_FFFF_FFF0 2 = false ∧ waitMet 1 2 = false ∧ waitMet 2 2 = true ∧
      (let e := parseEntry (pack [(8, 0x0402_0101), (8, 2), (48, 0)])
       (e.op, e.wen, e.sen, e.wfen, e.w1) = (1, true, false, 0x402, 2)) := by decide +kernel

/-- The signals of that example: 1 is applied, the late 0xFF_FFFF_FFF8 after it is stale. -/
theorem test_fence_signals :
    let s : State := up.setFence 0x402 { live := true, value := 0xFF_FFFF_FFF0, refs := [0x17, 0x21] }
    let t := s.signalFence 0x402 1
    let u := t.signalFence 0x402 0xFF_FFFF_FFF8
    (t.fence 0x402).value = 1 ∧ (t.fence 0x402).stale = 0 ∧ (u.fence 0x402).value = 1 ∧ (u.fence 0x402).stale = 1 := by decide +kernel

/-- 14_interrupts_and_mailboxes.md, a lost claim: both targets are notified of source 1,547; core 2 claims it, and vector 37 reads 0x7FF. -/
theorem test_lost_claim :
    let c := (((({} : Ic).writeCfg 1547 0x4825_0509 true).writeGroup 5 0x3200_1404).occur 1547 true)
    let timed (c : Ic) (t : Nat) := (c.setMod t 5 { c.mod t 5 with first := .passed }).notify t
    let d := timed (timed c 37) 2050
    (c.mod 37 5).e = 1 ∧ (c.mod 2050 5).e = 1 ∧ c.notifiable 2050 = false ∧ d.claim 2050 = (0x60B, (d.claim 2050).2) ∧
      ((d.claim 2050).2.claim 37).1 = 0x7FF ∧ ((d.claim 2050).2.claim 37).2.spuriousLost = 1 ∧
      ((d.claim 2050).2.tgt 2050).level = 9 := by decide +kernel

/-- The same example: the mailbox source 1,690 is withdrawn before vector 37 claims, which reads 0x7FE. -/
theorem test_withdrawn_claim :
    let c := ((({} : Ic).writeCfg 1690 0x0825_0004 true).occur 1690 true)
    let d := (c.notify 37).occur 1690 false
    c.notifiable 37 = true ∧ (d.claim 37).1 = 0x7FE ∧ (d.claim 37).2.spuriousWithdrawn = 1 := by decide +kernel

/-- 17_power_clocks_thermal.md, a tight rack budget: step and throttle of classes with ceilings 12 and 2 at each level of the table. -/
theorem test_levels_of_rack_budget :
    [0, 1, 4, 7, 8, 10, 14, 15].map (fun l => (levelStep l, levelThrottle false 12 l, levelThrottle false 2 l)) =
      [(0, 0, 0), (1, 0, 0), (4, 0, 0), (7, 0, 0), (7, 1, 1), (7, 3, 2), (7, 7, 2), (7, 8, 2)] := by decide

/-- 09_mesh_and_regulation.md, two dens on one cistern: 128 and 32 units make GUAR_SUM 160. -/
theorem test_guarantee_sum :
    ({ up with dens := [(0x22, { guarantees := [(25, 0x80)] }), (0x30, { guarantees := [(25, 0x20)] })] } : State).guarSum 25 = 160 := by
  decide

/-! ### Commands on a small state -/

/-- R570: a write of IC_THRESH sets the threshold of its target and nothing else. -/
theorem test_threshold_write :
    (match exec (.icThresh 0 5) up with | .next t => (t.ic.tgt 0).thresh == 5 && t.dict == up.dict && t.pending == [] | _ => false) =
      true := by decide +kernel

/-- R448, R449, R451: a read of an object that the catalogue has not is answered, and counted. -/
theorem test_read_of_no_object :
    let q := req 1 0x7F00 0 4
    let s := asked up 0
    (s.checkReq q .read (List.replicate 4 0) true).isSome &&
      (match exec (.dictRead q) s with | .next t => t.tiles == s.tiles && t.dens == s.dens | _ => false) = true := by decide +kernel

/-! ### What is not well formed -/

/-- Whether a command is well formed. -/
def wf (i : Instr) : Bool := i.wellFormed

/-- A payload whose length is not the one its header states (R448). -/
theorem test_refused_payload :
    wf (.dictWrite (req 2 0x0110 3 4) [1, 2, 3]) = false ∧ wf (.dictWrite (req 2 0x0110 3 4) [1, 2, 3, 4]) = true ∧
      wf (.chipReset (.request (req 2 0x0110 3 4) [])) = false := by decide

/-- An access that leaves its line, of a well, a reservoir controller and an aperture. -/
theorem test_refused_access :
    wf (.wellAccess 0 (.write 63 [1, 2]) .sett 0) = false ∧ wf (.wellAccess 0 (.write 62 [1, 2]) .sett 0) = true ∧
      wf (.wellAccess 0 (.masked 0 0 1 [1] []) .sett 0) = false ∧
      wf (.cisternAccess 0 (.rmw 0 0 60 [1, 2, 3, 4, 5] []) .sett {}) = false ∧
      wf (.apertureAccess 0 (.write 64 [1]) { loc := 0 }) = false := by decide

/-- An occurrence of a source that no event raises, a droop that is deep and not tripped. -/
theorem test_refused_events :
    wf (.sourceOccurrence 0 true) = false ∧ wf (.sourceOccurrence 2005 true) = false ∧
      wf (.droopTrip .west [] true) = false := by decide +kernel

/-- Measurements of the wrong number. -/
theorem test_refused_measurements :
    wf (.sensorSample .water [0]) = false ∧ wf (.sensorSample .water [0, 0]) = true ∧
      wf (.gainCorrection []) = false ∧ wf (.gainCorrection (List.replicate 16 (1, 1))) = true := by decide

/-! ### Witnesses of the statements

One theorem per statement: for each of its clauses, values at which all hypotheses of the clause hold together. -/

/-- Witness of `Obligations.FrameOfMemory` and `Obligations.FrameOfUnits`: a command answers a next state, and is listed as changing only the
interrupt controller. -/
theorem wit_Frames :
    (match exec (.icThresh 0 5) up with | .next _ => true | _ => false) && !changesWells (.icThresh 0 5) && !changesTiles (.icThresh 0 5) &&
      !changesReservoir (.icThresh 0 5) && !changesDens (.icThresh 0 5) && !changesWindows (.icThresh 0 5) && !changesSaves (.icThresh 0 5) &&
      !changesSeam (.icThresh 0 5) && !changesControllers (.icThresh 0 5) && !changesFabric (.icThresh 0 5) &&
      !changesHost (.icThresh 0 5) && !changesDict (.icThresh 0 5) && !changesRepair (.icThresh 0 5) && !changesTrust (.icThresh 0 5) &&
      !changesMeter (.icThresh 0 5) && !changesPower (.icThresh 0 5) && !changesChip (.icThresh 0 5) = true := by decide +kernel

/-- Witness of `Obligations.RefusedRequests`: a read of an object that does not exist. -/
theorem wit_RefusedRequests :
    let q := req 1 0x7F00 0 4
    let s := asked up 0
    ((asRequest (.dictRead q) == some (q, .read, List.replicate 4 0)) &&
      (s.checkReq q .read (List.replicate 4 0) (s.permits (.dictRead q))).isSome &&
      (match exec (.dictRead q) s with | .next _ => true | _ => false)) = true := by decide +kernel

/-- Witness of `Obligations.StepKeepsLimits`. -/
theorem wit_StepKeepsLimits :
    (let s : State := { up with pending := [.icThresh 0 5] }
     (s.host.bar4Log == 36 || (36 < s.host.bar4Log && s.host.bar4Log ≤ 42)) && s.trust.sessions.isEmpty && s.fab.jobs.isEmpty &&
       s.fab.members.isEmpty && s.trust.svnUsed ≤ 32 && (match step s with | .next _ => true | _ => false)) = true := by decide +kernel

/-- Witnesses of `Obligations.AddressSlot`: values at which the hypotheses of each of its clauses hold together. -/
theorem wit_AddressSlot : (
    -- 1
    (let s : State := issuing { a := [(0, 0x7FFC0), (1, 0x7FFC0)], v := [(3, 9)], p := [(2, 0xFF)] }
     let t : TileIx := 0
     let slot : Nat := 3
     match s.opens t slot .stored with
     | none => false
     | some u =>
     let f : AFields := { lv := 0, la := 0, sv := 0, sa := 0, linc := 0, sinc := 0 }
     let x : Snap := u.snap t slot
     decide (s.ready u t slot) && decide (aFault .anop f x = none)) &&
    -- 2
    (let s : State := issuing { a := [(0, 0x7FFC0), (1, 0x7FFC0)], v := [(3, 9)], p := [(2, 0xFF)] }
     let t : TileIx := 0
     let slot : Nat := 3
     match s.opens t slot .stored with
     | none => false
     | some u =>
     let f : AFields := { lv := 1, la := 1, sv := 0, sa := 0, linc := 8, sinc := 0 }
     let x : Snap := u.snap t slot
     decide (s.ready u t slot) && decide (aFault .ld f x = none)) &&
    -- 3
    (let s : State := issuing { a := [(0, 0x7FFC0), (1, 0x7FFC0)], v := [(3, 9)], p := [(2, 0xFF)] }
     let t : TileIx := 0
     let slot : Nat := 3
     match s.opens t slot .stored with
     | none => false
     | some u =>
     let f : AFields := { lv := 1, la := 1, sv := 0, sa := 0, linc := 8, sinc := 0 }
     let x : Snap := u.snap t slot
     decide (s.ready u t slot) && decide (aFault .lds f x = none)) &&
    -- 4
    (let s : State := issuing { a := [(0, 0x7FFC0), (1, 0x7FFC0)], v := [(3, 9)], p := [(2, 0xFF)] }
     let t : TileIx := 0
     let slot : Nat := 3
     match s.opens t slot .stored with
     | none => false
     | some u =>
     let f : AFields := { lv := 0, la := 0, sv := 3, sa := 1, linc := 0, sinc := 8 }
     let x : Snap := u.snap t slot
     decide (s.ready u t slot) && decide (aFault .st f x = none)) &&
    -- 5
    (let s : State := issuing { a := [(0, 0x7FFC0), (1, 0x7FFC0)], v := [(3, 9)], p := [(2, 0xFF)] }
     let t : TileIx := 0
     let slot : Nat := 3
     match s.opens t slot .stored with
     | none => false
     | some u =>
     let f : AFields := { lv := 0, la := 0, sv := 3, sa := 1, linc := 0, sinc := 8 }
     let x : Snap := u.snap t slot
     decide (s.ready u t slot) && decide (aFault .sts f x = none)) &&
    -- 6
    (let s : State := issuing { a := [(0, 0x7FFC0), (1, 0x7FFC0)], v := [(3, 9)], p := [(2, 0xFF)] }
     let t : TileIx := 0
     let slot : Nat := 3
     match s.opens t slot .stored with
     | none => false
     | some u =>
     let f : AFields := { lv := 1, la := 1, sv := 3, sa := 0, linc := 1, sinc := 0, pred := some 2 }
     let x : Snap := u.snap t slot
     decide (s.ready u t slot) && decide (aFault .ldst f x = none)) &&
    -- 7
    (let s : State := issuing { a := [(0, 0x7FFC0), (1, 0x7FFC0)], v := [(3, 9)], p := [(2, 0xFF)] }
     let t : TileIx := 0
     let slot : Nat := 3
     match s.opens t slot .stored with
     | none => false
     | some u =>
     let st : BitVec 2 := 2
     decide (s.ready u t slot) && decide (st ≠ 3))) = true := by decide +kernel

/-- Witnesses of `Obligations.BringUp`: values at which the hypotheses of each of its clauses hold together. -/
theorem wit_BringUp : (
    -- 1
    (let s : State := {}
     decide (s.chip.phase = .dark)) &&
    -- 2.1
    (let s : State := { chip := { phase := .sequencing 0 } }
     decide (s.chip.phase = .sequencing 0)) &&
    -- 2.2
    (let s : State := { chip := { phase := .sequencing 1 } }
     decide (s.chip.phase = .sequencing 1)) &&
    -- 3
    (let s : State := { chip := { phase := .held } }
     let n : Nat := 0
     decide (s.chip.phase = .sequencing n ∨ s.chip.phase = .held)) &&
    -- 4.1
    (let s : State := up
     decide (s.chip.phase = .ready) && decide (s.resetRuns .chip = false)) &&
    -- 4.2
    (let s : State := { chip := { phase := .boot 6 } }
     let n := 6
     decide (s.chip.phase = .boot n) && decide (s.chip.resequence = false)) &&
    -- 5.1
    (let s : State := { chip := { phase := .boot 0 } }
     let needs : List (Half × SettNeed) := [(.west, { arr := 0, rows := 1, cols := 0 })]
     let of_ : Half → List SettNeed := (fun h => (needs.filter fun p => p.1 == h).map (·.2))
     let s' : State := (s.marchSett .west (of_ .west)).marchSett .east (of_ .east)
     decide (s.chip.phase = .boot 0) && decide (s.power.trip = false) && decide (s'.settShort s.primaryHalf = false)) &&
    -- 5.2
    (let s : State := { chip := { phase := .boot 0 } }
     let needs : List (Half × SettNeed) := ([0, 1, 2, 3, 4] : List (Fin 16)).map fun a => (.west, { arr := a, rows := 9, cols := 0 })
     let of_ : Half → List SettNeed := (fun h => (needs.filter fun p => p.1 == h).map (·.2))
     let s' : State := (s.marchSett .west (of_ .west)).marchSett .east (of_ .east)
     decide (s.chip.phase = .boot 0) && decide (s.power.trip = false) && decide (s'.settShort s.primaryHalf)) &&
    -- 6.1
    (let s : State := { chip := { phase := .boot 1 } }
     decide (s.chip.phase = .boot 1) && decide (s.power.trip = false) && decide (s.trust.activeB = false) &&
       decide (s.trust.bankA.sigOk) && decide (s.reg 0x1801 4 ≤ s.trust.bankA.svn)) &&
    -- 6.2
    (let s : State := { chip := { phase := .boot 1 }, trust := { bankA := { sigOk := false }, bankB := { sigOk := false } } }
     decide (s.chip.phase = .boot 1) && decide (s.power.trip = false) && decide (s.trust.bankA.sigOk = false) &&
       decide (s.trust.bankB.sigOk = false)) &&
    -- 7
    (let s : State := { chip := { phase := .boot 2 } }
     decide (s.chip.phase = .boot 2) && decide (s.power.trip = false)) &&
    -- 8
    (let s : State := { chip := { phase := .boot 3 }, seam := { trained := true } }
     decide (s.chip.phase = .boot 3) && decide (s.power.trip = false) && decide (s.seam.trained)) &&
    -- 9
    (let s : State := { chip := { phase := .boot 4 } }
     let f : MarchFacts := {}
     decide (s.chip.phase = .boot 4) && decide (s.power.trip = false) && decide (f.sett = [])) &&
    -- 10.1
    (let s : State := { chip := { phase := .boot 5 } }
     decide (s.chip.phase = .boot 5) && decide (s.power.trip = false)) &&
    -- 10.2
    (let s : State := { chip := { phase := .boot 5 } }
     decide (s.chip.phase = .boot 5) && decide (s.power.trip = false) &&
       (List.range 32).all fun l => decide (s.reg (0x1000 + l) 0 ≠ 1)) &&
    -- 11
    (let s : State := { chip := { phase := .boot 6 } }
     decide (s.chip.phase = .boot 6) && decide (s.power.trip = false))) = true := by decide +kernel

/-- Witnesses of `Obligations.CustodyEvents`: values at which the hypotheses of each of its clauses hold together. -/
theorem wit_CustodyEvents : (
    -- 1.1
    (let s : State := (fun (s : State) => ({ s with fab := { s.fab with custody := [{ id := 5, src := 9, job := 7, epoch := 2, inc := 3, win := 9 }] } } : State)) (netDenRx { kind := 6, rwin := 9, payload := pack [(8, 5), (4, 1), (4, 0), (8, 4096), (16, 0)] })
     let l : LinkIx := 31
     match s.takeRx l.val (fun f => frameKind f == 6) with
     | none => false
     | some (f, s1) =>
     let id : BitVec 64 := BitVec.ofNat 64 (natAt f.payload 0 8)
     let epoch : Nat := natAt f.payload 8 4
     match s1.inboundCheck f (natAt f.payload 16 8) .write with
     | .error _ => false
     | .ok _ =>
     match (s1.fab.custody.find? fun c => c.id == id && c.src == frameSrc f) with
     | none => false
     | some c =>
     decide (bitsOf (natAt f.payload 12 4) 0 1 = 0) && decide (epoch < c.epoch)) &&
    -- 1.2
    (let s : State := netDenRx { kind := 6, rwin := 9, payload := pack [(8, 5), (4, 1), (4, 0), (8, 65536), (16, 0)] }
     let l : LinkIx := 31
     match s.takeRx l.val (fun f => frameKind f == 6) with
     | none => false
     | some (f, s1) =>
     let id : BitVec 64 := BitVec.ofNat 64 (natAt f.payload 0 8)
     let epoch : Nat := natAt f.payload 8 4
     let c : Custody := { id := id, src := frameSrc f, job := frameJob f, epoch := epoch + 1, inc := BitVec.ofNat 32 (hdrField f 128 32), win := frameRwin f }
     match s1.inboundCheck f (natAt f.payload 16 8) .write with
     | .error _ => false
     | .ok _ =>
     decide (bitsOf (natAt f.payload 12 4) 0 1 = 0) &&
       decide ((s1.fab.custody.find? fun c => c.id == id && c.src == frameSrc f) = none) && decide (s1.fab.custody.length < 4096)) &&
    -- 2.1
    (let l : LinkIx := 31
     let c : Fin 64 := 63
     let u : PushUnit := { n := 0, id := 5, epoch := 0, rf := false, src := 0, len := 4096, off := 0, fence := 0, fval := 0, phase := .committed 1, win := 9, job := 7, peer := 9 }
     let x : Chan := { slot := 3, win := 9, ring := 0, ringLog := 4, tailw := 4096, donew := 4104, poll := 50, units := [u] }
     let s : State := (fun (s : State) => ({ s with wins := [(9, some (win1 false))], fab := { s.fab with chans := [(63, some x)] } } : State)) (netDenRx { kind := 7, payload := pack [(8, 5), (4, 1), (2, 0x0D09), (2, 0)] })
     let n : Nat := 1
     match s.takeRx l.val (fun f => frameKind f == 7) with
     | none => false
     | some (f, s1) =>
     decide (kkeys s1.fab.chans = [c.val]) && decide (s1.chan c.val = some x) &&
       decide ((x.units.find? fun u => u.id == BitVec.ofNat 64 (natAt f.payload 0 8) && u.job == frameJob f && u.peer == frameSrc f && u.phase != .acked) = some u) &&
       decide (natAt f.payload 12 2 ≠ 0) && decide (natAt f.payload 12 2 < 2 ^ 16) && decide (u.failed = none) &&
       decide (u.phase = .committed n)) &&
    -- 2.2
    (let l : LinkIx := 31
     let c : Fin 64 := 63
     let u : PushUnit := { n := 0, id := 5, epoch := 0, rf := false, src := 0, len := 4096, off := 0, fence := 0, fval := 0, phase := .committed 1, win := 9, job := 7, peer := 9 }
     let x : Chan := { slot := 3, win := 9, ring := 0, ringLog := 4, tailw := 4096, donew := 4104, poll := 50, units := [u] }
     let s : State := (fun (s : State) => ({ s with fab := { s.fab with chans := [(63, some x)] } } : State)) (netDenRx { kind := 7, payload := pack [(8, 5), (4, 0), (2, 0), (2, 0)] })
     match s.takeRx l.val (fun f => frameKind f == 7) with
     | none => false
     | some (f, s1) =>
     decide (kkeys s1.fab.chans = [c.val]) && decide (s1.chan c.val = some x) &&
       decide ((x.units.find? fun u => u.id == BitVec.ofNat 64 (natAt f.payload 0 8) && u.job == frameJob f && u.peer == frameSrc f && u.phase != .acked) = some u) &&
       decide (natAt f.payload 12 2 = 0) && decide (natAt f.payload 8 4 ≤ u.epoch)) &&
    -- 2.3
    (let l : LinkIx := 31
     let c : Fin 64 := 63
     let u : PushUnit := { n := 0, id := 5, epoch := 0, rf := false, src := 0, len := 4096, off := 0, fence := 0, fval := 0, phase := .committed 1, win := 9, job := 7, peer := 9 }
     let x : Chan := { slot := 3, win := 9, ring := 0, ringLog := 4, tailw := 4096, donew := 4104, poll := 50, units := [u] }
     let n : Nat := 1
     let s : State := (fun (s : State) => ({ s with fab := { s.fab with chans := [(63, some x)] } } : State)) (netDenRx { kind := 7, payload := pack [(8, 5), (4, 1), (2, 0), (2, 0)] })
     match s.takeRx l.val (fun f => frameKind f == 7) with
     | none => false
     | some (f, s1) =>
     match s1.pair (frameJob f) (frameSrc f) with
     | none => false
     | some _ =>
     decide (kkeys s1.fab.chans = [c.val]) && decide (s1.chan c.val = some x) &&
       decide ((x.units.find? fun u => u.id == BitVec.ofNat 64 (natAt f.payload 0 8) && u.job == frameJob f && u.peer == frameSrc f && u.phase != .acked) = some u) &&
       decide (natAt f.payload 12 2 = 0) && decide (u.epoch < natAt f.payload 8 4) &&
       decide (u.failed = none ∧ u.phase = .committed n ∨ s1.fab.logs.length < 4096) && decide (frameSrc f ≠ s1.endpoint)) &&
    -- 3.1
    (let s : State := (fun (s : State) => ({ s with fab := { s.fab with logs := [{ id := 5, peer := 9, job := 7, epoch := 1, inc := 3 }] } } : State)) (netDenRx { kind := 8, payload := pack [(8, 5), (2, 0), (6, 0)] })
     let l : LinkIx := 31
     match s.takeRx l.val (fun f => frameKind f == 8) with
     | none => false
     | some (f, _) =>
     decide (natAt f.payload 8 2 = 0)) &&
    -- 3.2
    (let s : State := (fun (s : State) => ({ s with fab := { s.fab with logs := [{ id := 5, peer := 9, job := 7, epoch := 1, inc := 3 }] } } : State)) (netDenRx { kind := 8, payload := pack [(8, 5), (2, 1), (6, 0)] })
     let l : LinkIx := 31
     match s.takeRx l.val (fun f => frameKind f == 8) with
     | none => false
     | some (f, _) =>
     decide (natAt f.payload 8 2 ≠ 0)) &&
    -- 4.1
    (let c : Fin 64 := 63
     let x : Chan := { slot := 3, win := 9, ring := 0, ringLog := 4, tailw := 4096, donew := 4104, poll := 50, phase := .stopped }
     let s : State := { netDen false with fab := { net.fab with chans := [(63, some x)] } }
     decide (s.chan c.val = some x) && decide (x.phase ≠ .running)) &&
    -- 4.2.1
    (let c : Fin 64 := 63
     let x : Chan := { slot := 3, win := 9, ring := 0, ringLog := 4, tailw := 4096, donew := 4104, poll := 50 }
     let s : State := { netDen false with fab := { net.fab with chans := [(63, some x)] }, wells := [(0, { data := [(4096, 17)] })] }
     let ms : List LineMeet := []
     let bs : List Byte := (s.engineAccess (s.chanLink x) x.slot (x.tailw / 64 * 64) .read .read (meetAt ms (x.tailw / 64 * 64))).2.1
     decide (s.chan c.val = some x) && decide (x.phase = .running) && decide ((s.den x.slot).phase = .running) &&
       decide ((s.den x.slot).settFreeze = false) && decide ((s.den x.slot).cmd = none) &&
       decide (s.engineReady (s.chanLink x) x.slot (x.tailw / 64 * 64)) &&
       (s.engineAccess (s.chanLink x) x.slot (x.tailw / 64 * 64) .read .read (meetAt ms (x.tailw / 64 * 64))).1 == kOk &&
       decide (2 ^ x.ringLog < (natAt bs (x.tailw % 64) 4 + 2 ^ 32 - x.done) % 2 ^ 32)) &&
    -- 4.2.2
    (let c : Fin 64 := 63
     let x : Chan := { slot := 3, win := 9, ring := 0, ringLog := 4, tailw := 4096, donew := 4104, poll := 50 }
     let s : State := { netDen false with fab := { net.fab with chans := [(63, some x)] }, wells := [(0, { data := [(4096, 16)] })] }
     let ms : List LineMeet := []
     let bs : List Byte := (s.engineAccess (s.chanLink x) x.slot (x.tailw / 64 * 64) .read .read (meetAt ms (x.tailw / 64 * 64))).2.1
     decide (s.chan c.val = some x) && decide (x.phase = .running) && decide ((s.den x.slot).phase = .running) &&
       decide ((s.den x.slot).settFreeze = false) && decide ((s.den x.slot).cmd = none) &&
       decide (s.engineReady (s.chanLink x) x.slot (x.tailw / 64 * 64)) &&
       (s.engineAccess (s.chanLink x) x.slot (x.tailw / 64 * 64) .read .read (meetAt ms (x.tailw / 64 * 64))).1 == kOk &&
       decide ((natAt bs (x.tailw % 64) 4 + 2 ^ 32 - x.done) % 2 ^ 32 ≤ 2 ^ x.ringLog)) &&
    -- 5.1
    (let c : Fin 64 := 63
     let u : PushUnit := { n := 7, id := 5, epoch := 0, rf := false, src := 0, len := 4096, off := 0, fence := 0, fval := 0, phase := .committed 1 }
     let x : Chan := { slot := 3, win := 9, ring := 0, ringLog := 4, tailw := 4096, donew := 4104, poll := 50, units := [u] }
     let s : State := { netDen false with fab := { net.fab with chans := [(63, some x)] } }
     let unit : BitVec 32 := 7
     let n : Nat := 1
     decide (s.chan c.val = some x) && decide ((x.units.find? fun u => u.n == unit.toNat && u.failed.isNone) = some u) &&
       decide (u.phase = .committed n) && decide (n < s.reg 0x1100 5)) &&
    -- 5.2
    (let c : Fin 64 := 63
     let unit : BitVec 32 := 7
     let u : PushUnit := { n := 7, id := 5, epoch := 0, rf := false, src := 0, len := 4096, off := 0, fence := 0, fval := 0, phase := .committed 5000 }
     let x : Chan := { slot := 3, win := 9, ring := 0, ringLog := 4, tailw := 4096, donew := 4104, poll := 50, units := [u] }
     let s : State := { netDen false with fab := { net.fab with chans := [(63, some x)] } }
     let n : Nat := 5000
     decide (s.chan c.val = some x) && decide ((x.units.find? fun u => u.n == unit.toNat && u.failed.isNone) = some u) &&
       decide (u.phase = .committed n) && decide (s.reg 0x1100 5 ≤ n))) = true := by decide +kernel

/-- Witnesses of `Obligations.DenCommands`: values at which the hypotheses of each of its clauses hold together. -/
theorem wit_DenCommands : (
    -- 1
    (let s : State := { onWells up with dens := [(3, { cmd := some (cmdOf 1 (31 + 2 ^ 8 * 15 + 2 ^ 16 + 2 ^ 24) 0) })] }
     let i : SlotIx := 3
     match (s.den i.val).working 1 with
     | none => false
     | some c =>
     match parseRect (c.a1 % 2 ^ 32) with
     | none => false
     | some q =>
     decide ((s.den i.val).phase ≠ .faulted) && decide (s.placeCheck q none none = none)) &&
    -- 2
    (let s : State := cmdAt .reserved 2 0 356
     let i : SlotIx := 3
     let img : HostRead := .data img1
     let ok : Bool := true
     match parseImage img1 with
     | none => false
     | some g =>
     match (s.den i.val).working 2 with
     | none => false
     | some c =>
     let s' : State := s.askImage (s.den i.val) c.a1 c.a2
     match (g.shapes.find? fun sh => sh.w == (s.den i.val).rect.w && sh.h == (s.den i.val).rect.h) with
     | none => false
     | some sh =>
     decide ((s.den i.val).phase ≠ .faulted) && decide (imageSays img ok) && decide (readImage img c.a2 = .ok g) &&
       decide (s'.fitFails i.val (s.den i.val).rect g sh = none)) &&
    -- 3
    (let s : State := cmdAt .loaded 3 0 0
     let i : SlotIx := 3
     match (s.den i.val).working 3 with
     | none => false
     | some _ =>
     decide ((s.den i.val).phase ≠ .faulted)) &&
    -- 4
    (let s : State := cmdAt .running 4 0 0
     let i : SlotIx := 3
     match (s.den i.val).working 4 with
     | none => false
     | some _ =>
     decide ((s.den i.val).phase = .running) && decide ((s.den i.val).wave.stopping = false)) &&
    -- 5
    (let s : State := cmdAt .frozen 5 0xFFFF 0
     let i : SlotIx := 3
     match (s.den i.val).working 5 with
     | none => false
     | some _ =>
     decide ((s.den i.val).phase ≠ .faulted) && decide ((s.den i.val).restored = false)) &&
    -- 6
    (let s : State := cmdAt .frozen 6 0 0
     let i : SlotIx := 3
     let f : SaveFacts := {}
     let k : Code := kSaveArea
     let s' : State := s
     match (s.den i.val).working 6 with
     | none => false
     | some c =>
     decide (s.denQuiet i.val) && decide (s.allStill i.val) && decide (f.unc = none) &&
       decide (s.writeSave f.meets i.val (c.a1 == 1) = (k, s'))) &&
    -- 7
    (let i : SlotIx := 3
     let img : HostRead := .data img1
     let ok : Bool := true
     let f : SaveFacts := {}
     match parseImage img1 with
     | none => false
     | some g =>
     let kind : Nat := 1
     let hdr : Nat := 0
     let kind' : Nat := 1
     let hdr' : Nat := 0
     let h : List Byte := pack [(2, 1), (0x2E, 0), (32, img1Digest), (2, 0), (1, 0x0C), (173, 0)]
     let sv : Saved := { header := pack [(2, 1), (0x2E, 0), (32, img1Digest), (2, 0), (1, 0x0C), (173, 0)], parts := [], tiles := List.replicate 16 {}, wave := {}, nextAddr := 0, reshapeReady := false, seam := [] }
     let s : State := { onWells (withDen { den1 .reserved with cmd := some (cmdOf 7 0 356), saveArea := pack [(1, 1), (7, 0), (8, 0)] }) with wells := [(0, { data := [(0, 1)] ++ ((toLE 32 img1Digest).zip (List.range 32)).map (fun p => (0x30 + p.2, p.1)) ++ [(0x52, 0x0C)] })], saves := [sv] }
     let places : List Nat := (List.range 16).map fun i => ownAddr ((s.den 3).rect.tiles.getD i 0) 0 + 0x10000
     let recs : List Nat := (List.range 16).map fun i => ownAddr ((s.den 3).rect.tiles.getD i 0) 0 + 0x10000
     match (s.den i.val).working 7 with
     | none => false
     | some c =>
     let u : State := s.askImage (s.den i.val) c.a1 c.a2
     let s' : State := (u.areaRead f.meets 1 257 0 256).2.2
     match (g.shapes.find? fun sh => sh.ix == natAt h 4 1 && sh.w == (s.den i.val).rect.w && sh.h == (s.den i.val).rect.h) with
     | none => false
     | some sh =>
     decide (imageSays img ok) && decide (readImage img c.a2 = .ok g) &&
       decide ((s.den i.val).savePlaces 0 = some (kind, hdr, places)) &&
       (u.areaRead f.meets 1 257 0 256).1 == kOk && (u.areaRead f.meets 1 257 0 256).2.1 == h && decide (natAt h 0 2 = 1) &&
       decide (natAt h 0x30 32 = g.digest.toNat) && decide (s'.fitFails i.val (s.den i.val).rect g sh = none) &&
       decide ((s.den i.val).savePlaces (natAt h 0x50 4) = some (kind', hdr', recs)) &&
       ((((s.den i.val).rect.tiles.zip recs).foldl (fun (s : State) p => s.haulRecord i.val kind p.1 p.2 false) s').findSave f.meets kind recs h).1 == kOk && (((((s.den i.val).rect.tiles.zip recs).foldl (fun (s : State) p => s.haulRecord i.val kind p.1 p.2 false) s').findSave f.meets kind recs h).2.1 == some sv)) &&
    -- 8
    (let s : State := onWells (cmdAt .frozen 8 5 0)
     let i : SlotIx := 3
     let es : List Extent := []
     match (s.den i.val).working 8 with
     | none => false
     | some c =>
     let q : Rect := { (s.den i.val).rect with bc := bitsOf c.a1 0 5, br := bitsOf c.a1 8 4 }
     decide ((s.den i.val).phase ≠ .faulted) && decide (s.placeCheck q (some i.val) (some (s.den i.val).image.seamCol) = none) &&
       decide (¬ q.tiles.any (s.den i.val).rect.has) &&
       decide (allSome ((s.den i.val).extents.map fun e => if e.onShafts (s.den i.val).rect.tiles then carried (s.den i.val).rect q e else some e) = some es) &&
       decide ((s.den i.val).moving = none) && decide (c.a1.testBit 32 = false)) &&
    -- 9
    (let i : SlotIx := 3
     let m : Move := { dest := {} }
     let s : State := onWells (withDen { den1 .frozen with cmd := some (cmdOf 8 5 0), moving := some m })
     let es : List Extent := []
     match (s.den i.val).working 8 with
     | none => false
     | some c =>
     let q : Rect := { (s.den i.val).rect with bc := bitsOf c.a1 0 5, br := bitsOf c.a1 8 4 }
     decide ((s.den i.val).phase ≠ .faulted) && decide ((s.den i.val).moving = some m) &&
       decide (allSome ((s.den i.val).extents.map fun e => if e.onShafts (s.den i.val).rect.tiles then carried (s.den i.val).rect q e else some e) = some es)) &&
    -- 10
    (let s : State := onWells (cmdAt .frozen 9 0 (356 + 2 ^ 32 * (1 + 2 ^ 16 + 2 ^ 24)))
     let i : SlotIx := 3
     let img : HostRead := .data img1
     let ok : Bool := true
     match parseImage img1 with
     | none => false
     | some g =>
     match (s.den i.val).working 9 with
     | none => false
     | some c =>
     let s' : State := s.askImage (s.den i.val) c.a1 (c.a2 % 2 ^ 32)
     match parseRect (bitsOf c.a2 32 32) with
     | none => false
     | some q =>
     match (g.shapes.find? fun sh => sh.w == q.w && sh.h == q.h) with
     | none => false
     | some sh =>
     decide ((s.den i.val).phase ≠ .faulted) && decide (imageSays img ok) &&
       decide (s.placeCheck q (some i.val) (some (s.den i.val).image.seamCol) = none) &&
       decide (¬ ((s.den i.val).extents.any fun e => e.onShafts ((s.den i.val).rect.tiles.filter fun t => !q.has t))) &&
       decide (readImage img (c.a2 % 2 ^ 32) = .ok g) && decide (s'.fitFails i.val q g sh = none)) &&
    -- 11
    (let s : State := cmdAt .faulted 10 0 0
     let i : SlotIx := 3
     match (s.den i.val).working 10 with
     | none => false
     | some _ =>
     decide (revokePhase (s.den i.val))) &&
    -- 12.1
    (let i : SlotIx := 3
     let w : WinEntry := { inbound := false, opened := true, anySrc := false, slot := 3, peer := 1, rwin := 0, rd := true, wr := true, atom := false, job := 0, base := 0, len := 4096 }
     let s : State := { withDen { den1 .frozen with cmd := some { cmdOf 11 0 9 with sent := 4096 }, holdings := [{ kind := 1, start := 0, len := 4096 }] } with wins := [(9, some w)] }
     match (s.den i.val).working 11 with
     | none => false
     | some c =>
     match (s.den i.val).holdings[c.a1]? with
     | none => false
     | some h =>
     decide (s.window c.a2 = some w) && decide (s.winCheck i.val c.a2 0 0 .write = none) && decide (h.len ≤ c.sent) &&
       decide (¬ (s.fab.links.any fun p => p.2.txs.any fun t => t.slot == i.val && t.who == .copyOut (s.den i.val).cmdSeq.toNat))) &&
    -- 12.2
    (let i : SlotIx := 3
     let w : WinEntry := { inbound := false, opened := true, anySrc := false, slot := 3, peer := 1, rwin := 0, rd := true, wr := true, atom := false, job := 0, base := 0, len := 4096 }
     let s : State := { withDen { den1 .frozen with cmd := some { cmdOf 11 0 9 with sent := 0 }, holdings := [{ kind := 1, start := 0, len := 4096 }] } with wins := [(9, some w)] }
     match (s.den i.val).working 11 with
     | none => false
     | some c =>
     match (s.den i.val).holdings[c.a1]? with
     | none => false
     | some h =>
     decide (s.window c.a2 = some w) && decide (s.winCheck i.val c.a2 0 0 .write = none) && decide (c.sent < h.len))) = true := by decide +kernel

/-- Witnesses of `Obligations.DenElementRequests`: values at which the hypotheses of each of its clauses hold together. -/
theorem wit_DenElementRequests : (
    -- 1
    (let s : State := asked (withDen (den1 .reserved)) 16
     let v : List Byte := pack [(8, 2 ^ 62 + 16 * 2 ^ 37 - 4096), (8, 4096)]
     let q : Req := wr 0x0803 9 v
     let slot : SlotIx := 3
     let s' : State := s.beginReq q v
     match parseHolding v with
     | none => false
     | some r =>
     decide (s.serves q (0x0800 + slot.val) 0x09 v) && decide (grantPhase (s'.den slot.val)) && decide (¬ s'.tdiLocked slot.val) &&
       decide (¬ s'.rangeFenced r) && decide (¬ s'.occupied r none) && decide (¬ s'.rangeBad r) &&
       decide ((s'.den slot.val).holdings.length < 64)) &&
    -- 2
    (let s : State := asked (withDen { den1 .frozen with holdings := [{ kind := 2, start := 0, len := 4096 }, { kind := 2, start := 4096, len := 4096 }] }) 16
     let v : List Byte := pack [(8, 2 ^ 63), (8, 4096)]
     let q : Req := wr 0x0803 0x0A v
     let slot : SlotIx := 3
     let s' : State := s.beginReq q v
     match parseHolding v with
     | none => false
     | some r =>
     match (s'.den slot.val).holdings.findIdx? (· == r) with
     | none => false
     | some i =>
     decide (s.serves q (0x0800 + slot.val) 0x0A v) && decide (revokePhase (s'.den slot.val)) &&
       decide (¬ s'.tdiLocked slot.val) && decide (¬ (s'.den slot.val).targets r) &&
       decide (¬ (s'.den slot.val).pools.contains i) && decide (natAt (s'.den slot.val).saveArea 0 1 ≠ 2)) &&
    -- 3
    (let s : State := asked (withDen (den1 .frozen)) 8
     let v : List Byte := pack [(2, 15), (2, 0x8000), (1, 2), (3, 0)]
     let q : Req := wr 0x0803 0x15 v
     let slot : SlotIx := 3
     let s' : State := s.beginReq q v
     match (s'.den slot.val).rect.tiles[natAt v 0 2]? with
     | none => false
     | some _ =>
     decide (s.serves q (0x0800 + slot.val) 0x15 v) && decide (natAt v 2 2 ≠ 0) && decide (natAt v 4 1 ≤ 2) &&
       decide (natAt v 5 3 = 0) && decide ((s'.den slot.val).phase = .loaded ∨ (s'.den slot.val).phase = .frozen) &&
       decide (natAt v 0 2 ≠ 0xFFFF)) &&
    -- 4
    (let s : State := asked (withDen (den1 .loaded)) 16
     let v : List Byte := pack [(1, 1), (1, 0), (6, 0), (8, 0xFF30000)]
     let q : Req := wr 0x0803 0x0C v
     let slot : SlotIx := 3
     let s' : State := s.beginReq q v
     decide (s.serves q (0x0800 + slot.val) 0x0C v) && decide (natAt v 0 1 = 1) && decide (natAt v 1 1 = 0) &&
       decide (natAt v 2 6 = 0) && decide (v.length = 16) && decide (natAt v 8 8 % 0x10000 = 0) &&
       decide (natAt v 8 8 + 0xD0000 ≤ 2 ^ 28) && decide ((s'.den slot.val).image.shaftUse ≤ natAt v 8 8) &&
       decide (¬ s'.tdiLocked slot.val)) &&
    -- 5
    (let s : State := asked (withDen (den1 .reserved)) 64
     let v : List Byte := pack [(2, 384), (60, 0), (2, 1)]
     let q : Req := wr 0x0803 0x0D v
     let slot : SlotIx := 3
     let s' : State := s.beginReq q v
     decide (s.serves q (0x0800 + slot.val) 0x0D v) && decide (grantPhase (s'.den slot.val)) &&
       ((List.range 32).all fun l => decide (natAt v (2 * l) 2 ≤ 384)) &&
       ((List.range 32).all fun l => decide (s'.budgetSum l slot.val + natAt v (2 * l) 2 ≤ 384))) &&
    -- 6
    (let s : State := asked (withDen (den1 .reserved)) 1
     let v : List Byte := [248]
     let q : Req := wr (0x2200 + 47) 3 v
     let slot : SlotIx := 3
     let k : CtlIx := 47
     let s' : State := s.beginReq q v
     decide (s.serves q (0x2200 + k.val) slot.val v) && decide (grantPhase (s'.den slot.val)) &&
       decide (leNat v ≠ kget 0 (s'.den slot.val).guarantees k.val) &&
       decide (s'.guarSum k.val - kget 0 (s'.den slot.val).guarantees k.val + leNat v + s'.reg (0x2100 + k.val) 4 ≤ 256)) &&
    -- 7
    (let s : State := asked up 2
     let v : List Byte := pack [(2, 511)]
     let q : Req := wr (0x0300 + 15) 0x0C v
     let w : WellIx := 15
     let s' : State := s.beginReq q v
     decide (s.serves q (0x0300 + w.val) 0x0C v) && decide (leNat v ≤ 511) &&
       decide (¬ (s'.well w.val).spares.any (fun p => p.2 == leNat v)) && decide ((s'.well w.val).copying = none) &&
       decide ((s'.well w.val).wanted = []) && decide ((s'.well w.val).freeSpare ≠ none)) &&
    -- 8
    (let s : State := asked up 1
     let v : List Byte := [1]
     let q : Req := wr 0x0340 4 v
     let s' : State := s.beginReq q v
     decide (s.serves q 0x0340 4 v) && decide (leNat v = 1) && decide (s'.reg 0x0340 3 ≠ 1))) = true := by decide +kernel

/-- Witnesses of `Obligations.DenEvents`: values at which the hypotheses of each of its clauses hold together. -/
theorem wit_DenEvents : (
    -- 1
    (let s : State := withDen { den1 .faulted with cmd := some { cmdOf 6 0 0 with result := some 0x1206 } }
     let i : SlotIx := 3
     match (s.den i.val).cmd with
     | none => false
     | some c =>
     match c.result with
     | none => false
     | some _ =>
     true) &&
    -- 2
    (let s : State := { withDen { den1 .running with wave := { stopping := true } } with tiles := [] }
     let i : SlotIx := 3
     decide ((s.den i.val).phase = .running) && decide ((s.den i.val).wave.stopping) && decide (s.allStill i.val) &&
       decide (s.denQuiet i.val) && decide (s.pushQuiet i.val)) &&
    -- 3
    (let s : State := withDen (den1 .running)
     let i : SlotIx := 3
     decide ((s.den i.val).phase = .running) && decide ((s.den i.val).wave.stopping = false)) &&
    -- 4.1
    (let i : SlotIx := 3
     let n : Nat := 9
     let c : Cur := { entry := { op := 1, wen := false, sen := false, ben := false, arg := true, noirq := false, clean := true, wfen := 0, sfen := 0, w1 := 0, w2 := 0, w3 := 0, w4 := 0, w5 := 0, w6 := 0, w7 := 0 }, index := 0, batch := [], phase := .ready }
     let s : State := { withDen (den1 .running) with host := { queues := [(9, { phase := .active, slot := 3, cur := some c })] } }
     decide ((s.den i.val).phase = .running) && decide ((s.den i.val).wave.stopping = false) &&
       decide ((s.den i.val).stepActive = false) &&
       decide (((s.den i.val).rect.tiles.all fun t => (s.tile t).phase == .stopped)) && decide (s.turnQueue i.val = some n) &&
       decide ((s.queue n).cur = some c) && decide (c.left = false) && decide (c.batch = [])) &&
    -- 4.2
    (let i : SlotIx := 3
     let n : Nat := 9
     let c : Cur := { entry := { op := 1, wen := false, sen := false, ben := false, arg := true, noirq := false, clean := true, wfen := 0, sfen := 0, w1 := 0, w2 := 0, w3 := 0, w4 := 0, w5 := 0, w6 := 0, w7 := 0 }, index := 0, batch := pack [(4, 2), (4, 77), (8, 8192), (16, 0)], phase := .ready }
     let s : State := { withDen { den1 .running with holdings := [{ kind := 1, start := 0, len := 65536 }], pools := [0], extents := [{ vbase := 4096, len := 4096, kind := 1, tbase := 4096, rd := true, wr := true, atom := false }] } with host := { queues := [(9, { phase := .active, slot := 3, cur := some c })] } }
     let k := kExtNone
     let j := 0
     decide ((s.den i.val).phase = .running) && decide ((s.den i.val).wave.stopping = false) &&
       decide ((s.den i.val).stepActive = false) &&
       decide (((s.den i.val).rect.tiles.all fun t => (s.tile t).phase == .stopped)) && decide (s.turnQueue i.val = some n) &&
       decide ((s.queue n).cur = some c) && decide (c.left = false) && decide (s.admitBatch i.val (batchOf c.batch) = .error (j, k))) &&
    -- 4.3
    (let i : SlotIx := 3
     let n : Nat := 9
     let c : Cur := { entry := { op := 1, wen := false, sen := false, ben := false, arg := true, noirq := false, clean := true, wfen := 0, sfen := 0, w1 := 0, w2 := 0, w3 := 0, w4 := 0, w5 := 0, w6 := 0, w7 := 0 }, index := 0, batch := pack [(2, 1), (2, 3), (4, 77), (8, 8192), (8, 4096), (8, 0)], phase := .ready }
     let s : State := { withDen { den1 .running with holdings := [{ kind := 1, start := 0, len := 65536 }], pools := [0], extents := [{ vbase := 4096, len := 4096, kind := 1, tbase := 4096, rd := true, wr := true, atom := false }] } with host := { queues := [(9, { phase := .active, slot := 3, cur := some c })] } }
     match s.admitBatch i.val (batchOf c.batch) with
     | .error _ => false
     | .ok t =>
     decide ((s.den i.val).phase = .running) && decide ((s.den i.val).wave.stopping = false) &&
       decide ((s.den i.val).stepActive = false) &&
       decide (((s.den i.val).rect.tiles.all fun t => (s.tile t).phase == .stopped)) && decide (s.turnQueue i.val = some n) &&
       decide ((s.queue n).cur = some c) && decide (c.left = false) && decide ((s.den i.val).leaves (batchOf c.batch) = [])) &&
    -- 4.4
    (let i : SlotIx := 3
     let n : Nat := 9
     let c : Cur := { entry := { op := 1, wen := false, sen := false, ben := false, arg := true, noirq := false, clean := true, wfen := 0, sfen := 0, w1 := 0, w2 := 0, w3 := 0, w4 := 0, w5 := 0, w6 := 0, w7 := 0 }, index := 0, batch := pack [(4, 2), (4, 77), (8, 4096), (16, 0)], phase := .ready }
     let s : State := { withDen { den1 .running with holdings := [{ kind := 1, start := 0, len := 65536 }], pools := [0], extents := [{ vbase := 4096, len := 4096, kind := 1, tbase := 4096, rd := true, wr := true, atom := false }] } with host := { queues := [(9, { phase := .active, slot := 3, cur := some c })] } }
     match s.admitBatch i.val (batchOf c.batch) with
     | .error _ => false
     | .ok t =>
     decide ((s.den i.val).phase = .running) && decide ((s.den i.val).wave.stopping = false) &&
       decide ((s.den i.val).stepActive = false) &&
       decide (((s.den i.val).rect.tiles.all fun t => (s.tile t).phase == .stopped)) && decide (s.turnQueue i.val = some n) &&
       decide ((s.queue n).cur = some c) && decide (c.left = false) && decide ((s.den i.val).leaves (batchOf c.batch) ≠ [])) &&
    -- 5
    (let s : State := withDen { den1 .running with stepActive := true, stepCount := 255, stops := 16 }
     let i : SlotIx := 3
     decide ((s.den i.val).phase = .running) && decide (s.stepOver i.val)) &&
    -- 6.1
    (let s : State := withDen { den1 .draining with holdings := [{ kind := 1, start := 0, len := 4096 }], extents := [{ vbase := 4096, len := 4096, kind := 1, tbase := 0, rd := true, wr := true, atom := false }] }
     let i : SlotIx := 3
     decide ((s.den i.val).phase = .draining) && decide (s.allStill i.val) && decide (s.denQuiet i.val) &&
       decide ((s.den i.val).extents ≠ [])) &&
    -- 6.2
    (let s : State := withDen { den1 .draining with holdings := [{ kind := 1, start := 0, len := 4096 }], guarantees := [(3, 4)] }
     let i : SlotIx := 3
     decide ((s.den i.val).phase = .draining) && decide (s.allStill i.val) && decide (s.denQuiet i.val) &&
       decide ((s.den i.val).extents = []) && decide ((s.den i.val).invals = [])) &&
    -- 7
    (let s : State := withDen { den1 .scrubbing with scrubs := [.shaft 8191] }
     let i : SlotIx := 3
     let n : Nat := 0
     let tl : Nat := 8191
     decide ((s.den i.val).scrubs[n]? = some (.shaft tl)) && decide (s.reg (0x300 + wellOf tl) 0 ≠ 2) && decide (tl < 8192)) &&
    -- 8
    (let s : State := withDen { den1 .running with winBundles := 65536, winAttr := 7, winMisses := 9, sdiWin := 65536 }
     let i : SlotIx := 3
     decide ((s.den i.val).phase ≠ .free) && decide ((s.den i.val).winBundles ≠ 0) &&
       decide ((s.den i.val).sdiWin.toNat ≤ (s.den i.val).winBundles))) = true := by decide +kernel

/-- Witnesses of `Obligations.DictionaryRequests`: values at which the hypotheses of each of its clauses hold together. -/
theorem wit_DictionaryRequests : (
    -- 1
    (let s : State := asked up 0
     let q : Req := req 1 0x0001 0 0
     let ix : Nat := 1
     let el : Nat := 0
     decide (s.takes q .read ix el []) && decide (s.checkReq q .read [] true = none)) &&
    -- 2
    (let s : State := asked up 4
     let v : List Byte := pack [(4, 0x41A00000)]
     let q : Req := wr 0x0230 2 v
     let ix : Nat := 0x0230
     let el : Nat := 2
     decide (s.takes q .write ix el v) && decide (ownRow ix el = false) &&
       decide (s.checkReq q .write v (writePermit (roleOf q.fe) ix el v) = none)) &&
    -- 3
    (let s : State := asked (withDen (den1 .reserved)) 1
     let v : List Byte := [7]
     let q : Req := wr 0x0803 6 v
     let d : SlotIx := 3
     let s' : State := s.beginReq q v
     decide (s.takes q .write (0x0800 + d.val) 0x06 v) &&
       decide (s.checkReq q .write v (writePermit (roleOf q.fe) (0x0800 + d.val) 0x06 v) = none) && decide (leNat v ≤ 7) &&
       decide (grantPhase (s'.den d.val))) &&
    -- 4.1
    (let s : State := asked up 0
     let q : Req := req 3 0x0001 0 0
     let ix : Nat := 1
     let el : Nat := 0
     let s' : State := s.beginReq q []
     match ((s'.visible (roleOf q.fe) ix).find? fun p => p.1 == el) with
     | none => false
     | some (_, _) =>
     decide (s.takes q .describe ix el []) && decide (s.checkReq q .describe [] true = none)) &&
    -- 4.2
    (let s : State := asked up 0
     let q : Req := req 3 0x0001 0xFE 0
     let ix : Nat := 1
     let el : Nat := 0xFE
     let s' : State := s.beginReq q []
     decide (s.takes q .describe ix el []) && decide (((s'.visible (roleOf q.fe) ix).find? fun p => p.1 == el) = none)) &&
    -- 5
    (let s : State := asked up 0
     let q : Req := req 4 0x0001 0 0
     let ix : Nat := 1
     let el : Nat := 0
     match (s.beginReq q []).nextElem (roleOf q.fe) 1 0 with
     | none => false
     | some (i, e) =>
     let s' : State := s.beginReq q []
     decide (s.takes q .next ix el []) && decide (s.checkReq q .next [] true = none) &&
       decide (s'.nextElem (roleOf q.fe) ix el = some (i, e))) &&
    -- 6
    (let s : State := asked up 0
     let q : Req := req 5 0x1100 0 0
     let ix : Nat := 0x1100
     let s' : State := s.beginReq q []
     decide (s.takes q .snapshot ix 0 []) && decide (s.checkReq q .snapshot [] true = none) &&
       decide ((s'.snapshot q.fe ix).length ≤ 4096))) = true := by decide +kernel

/-- Witnesses of `Obligations.DictionaryUpkeep`: values at which the hypotheses of each of its clauses hold together. -/
theorem wit_DictionaryUpkeep : (
    -- 1.1, 1.2
    (let s : State := { up with dict := { ready := true, commits := [{ id := some 5, old := [(0x1100, 0, [0, 0, 0, 0])] }], waiting := [{ id := 5, q := wr 0x1100 0 [1, 0, 0, 0], answer := none }] } }
     let id : Nat := 5
     let c : Commit := { id := some 5, old := [(0x1100, 0, [0, 0, 0, 0])] }
     let rest : List Commit := []
     decide (s.dict.commits = c :: rest) && decide (c.id = some id)) &&
    -- 2
    (let q : Req := wr 0x1100 0 [1, 0, 0, 0]
     let s : State := { up with dict := { ready := true, waiting := [{ id := 5, q := q, answer := none }] } }
     match s.dict.waiting.find? (·.q == q) with
     | none => false
     | some _ =>
     true) &&
    -- 3
    (let s : State := asked { up with dict := { ready := true, regs := [(elemKey 0x0230 2, 7)] }, repair := { up.repair with hostFenced := [3] } } 1
     let v : List Byte := [1]
     let q : Req := wr 0x0110 6 v
     decide (s.serves q 0x0110 6 v) && decide (leNat v ≠ 0) && decide ((s.dens.any fun p => p.2.phase != .free) = false)) &&
    -- 4.1, 4.2
    (let s : State := asked up 2374
     let v : List Byte := pack [(2, 1), (2, 0), (4, 2374), (16, 0), (32, 0), (2, 1924), (6, 0), (1924, 0), (2, 0), (384, 0)]
     let q : Req := wr 0x02BF 3 v
     let s' : State := s.beginReq q v
     decide (s.serves q 0x02BF 3 v) && decide (natAt v 0 2 = 1) && decide (natAt v 2 2 = 0) && decide (natAt v 4 4 = v.length) &&
       ((List.range 32).all fun i => decide (natAt v (24 + i) 1 = 0)) && decide (natAt v 56 2 = 1924) &&
       decide (natAt v 58 6 = 0) && decide (v.length = 64 + 1924 + 2 + natAt v 1988 2 + 384) &&
       decide (bytesAt v 8 16 = bytesAt (s'.dict.blob 0x0000 2) 0 16)) &&
    -- 5.1
    (let s : State := asked up 4
     let v : List Byte := pack [(4, 0)]
     let q : Req := wr 0x0280 0 v
     let i : Fin 4 := 0
     let el : Nat := 0
     decide (s.serves q (0x0280 + i.val) el v) && decide (calRange (0x0280 + i.val) el v = false)) &&
    -- 5.2
    (let s : State := asked up 4
     let v : List Byte := pack [(4, 0x3F800000)]
     let q : Req := wr 0x0280 0 v
     let i : Fin 4 := 0
     let el : Nat := 0
     let s' : State := s.beginReq q v
     decide (s.serves q (0x0280 + i.val) el v) && decide (calRange (0x0280 + i.val) el v) &&
       decide (s'.stored (0x0280 + i.val) el ≠ v)) &&
    -- 6.1
    (let s : State := asked up 8
     let v : List Byte := pack [(8, 0)]
     let q : Req := wr 0x0410 0 v
     decide (s.serves q 0x0410 0 v) && decide (leNat v = 0)) &&
    -- 6.2
    (let s : State := asked { up with seam := { up.seam with follow := false } } 8
     let v : List Byte := pack [(8, 1)]
     let q : Req := wr 0x0410 0 v
     let s' : State := s.beginReq q v
     decide (s.serves q 0x0410 0 v) && decide (leNat v = 1) && decide (s'.seam.follow = false))) = true := by decide +kernel

/-- Witnesses of `Obligations.ExchangeSlot`: values at which the hypotheses of each of its clauses hold together. -/
theorem wit_ExchangeSlot : (
    -- 1, 5
    (let s : State := issuing {}
     let t : TileIx := 0
     let slot : Nat := 3
     match s.opens t slot .stored with
     | none => false
     | some u =>
     decide (s.ready u t slot)) &&
    -- 2
    (let s : State := issuing {}
     let t : TileIx := 0
     let slot : Nat := 3
     match s.opens t slot .stored with
     | none => false
     | some u =>
     let dirs : BitVec 4 := 2
     let src : BitVec 7 := 1
     let hops : BitVec 7 := 1
     let x : Snap := u.snap t slot
     decide (s.ready u t slot) && decide (sendFault dirs src hops x = none)) &&
    -- 3
    (let s : State := issuing {}
     let t : TileIx := 0
     let slot : Nat := 3
     match s.opens t slot .stored with
     | none => false
     | some u =>
     let kind : BitVec 3 := 1
     let src : BitVec 7 := 15
     let dst : BitVec 6 := 15
     let x : Snap := u.snap t slot
     decide (s.ready u t slot) && decide (kind.toNat < 2) && decide (src.toNat < 16) && decide (12 ≤ dst.toNat) &&
       decide (dst.toNat ≤ 15) && decide ((∀ v ∈ x.den.wave.votes, v.bundle ≠ x.tile.bundle))) &&
    -- 4
    (let s : State := issuing {}
     let t : TileIx := 0
     let slot : Nat := 3
     match s.opens t slot .stored with
     | none => false
     | some u =>
     let kind : BitVec 3 := 4
     let src : BitVec 7 := 0x6F
     let dst : BitVec 6 := 0x1F
     let x : Snap := u.snap t slot
     decide (s.ready u t slot) && decide (2 ≤ kind.toNat) && decide (kind.toNat < 5) && decide (0x50 ≤ src.toNat) &&
       decide (src.toNat < 0x70) && decide (dst.toNat < 0x20) && decide ((∀ v ∈ x.den.wave.votes, v.bundle ≠ x.tile.bundle)))) = true := by decide +kernel

/-- Witnesses of `Obligations.ExtentRequests`: values at which the hypotheses of each of its clauses hold together. -/
theorem wit_ExtentRequests : (
    -- 1
    (let s : State := asked (withDen (den1 .reserved)) 40
     let v : List Byte := pack [(1, 3), (7, 0), (8, 2 ^ 56 - 4096), (8, 4096), (8, 0), (8, 1 + 8)]
     let q : Req := wr 0x0C00 0 v
     let s' : State := s.beginReq q v
     match parseExtent (v.drop 8) with
     | none => false
     | some e =>
     decide (s.serves q 0x0C00 0 v) && decide (natAt v 1 7 = 0) && decide (grantPhase (s'.den (natAt v 0 1))) &&
       decide (¬ s'.tdiLocked (natAt v 0 1)) && decide (s'.checkEntry (natAt v 0 1) e none = none)) &&
    -- 2
    (let s : State := asked (withDen { den1 .faulted with extents := [{ vbase := 0, len := 4096, tbase := 0, kind := 1, rd := true, wr := true, atom := false, win := 0 }] }) 16
     let v : List Byte := pack [(1, 3), (7, 0), (8, 0)]
     let q : Req := wr 0x0C00 1 v
     let s' : State := s.beginReq q v
     match (s'.den (natAt v 0 1)).extents.find? (·.vbase == natAt v 8 8) with
     | none => false
     | some _ =>
     decide (s.serves q 0x0C00 1 v) && decide (natAt v 1 7 = 0) && decide (revokePhase (s'.den (natAt v 0 1))) &&
       decide (¬ s'.tdiLocked (natAt v 0 1))) &&
    -- 3.1
    (let s : State := asked (withDen { den1 .faulted with extents := [{ vbase := 0, len := 8192, tbase := 0, kind := 1, rd := true, wr := true, atom := false, win := 0 }] }) 24
     let v : List Byte := pack [(1, 3), (7, 0), (8, 0), (8, 4096)]
     let q : Req := wr 0x0C00 2 v
     let s' : State := s.beginReq q v
     match (s'.den (natAt v 0 1)).extents.find? (·.vbase == natAt v 8 8) with
     | none => false
     | some e =>
     decide (s.serves q 0x0C00 2 v) && decide (natAt v 1 7 = 0) && decide (natAt v 8 8 + natAt v 16 8 ≤ 2 ^ 56) &&
       decide (natAt v 16 8 % 4096 = 0) && decide (natAt v 16 8 ≠ 0) && decide (¬ s'.tdiLocked (natAt v 0 1)) &&
       decide (natAt v 16 8 < e.len) && decide (revokePhase (s'.den (natAt v 0 1)))) &&
    -- 3.2
    (let s : State := asked (withDen { den1 .faulted with extents := [{ vbase := 0, len := 4096, tbase := 0, kind := 1, rd := true, wr := true, atom := false, win := 0 }] }) 24
     let v : List Byte := pack [(1, 3), (7, 0), (8, 0), (8, 4096)]
     let q : Req := wr 0x0C00 2 v
     let s' : State := s.beginReq q v
     match (s'.den (natAt v 0 1)).extents.find? (·.vbase == natAt v 8 8) with
     | none => false
     | some e =>
     decide (s.serves q 0x0C00 2 v) && decide (natAt v 1 7 = 0) && decide (natAt v 8 8 + natAt v 16 8 ≤ 2 ^ 56) &&
       decide (natAt v 16 8 % 4096 = 0) && decide (natAt v 16 8 ≠ 0) && decide (¬ s'.tdiLocked (natAt v 0 1)) &&
       decide (natAt v 16 8 = e.len) && decide (revokePhase (s'.den (natAt v 0 1)))) &&
    -- 3.3
    (let s : State := asked (withDen { den1 .frozen with extents := [{ vbase := 0, len := 4096, tbase := 0, kind := 1, rd := true, wr := true, atom := false, win := 0 }] }) 24
     let v : List Byte := pack [(1, 3), (7, 0), (8, 0), (8, 8192)]
     let q : Req := wr 0x0C00 2 v
     let s' : State := s.beginReq q v
     match (s'.den (natAt v 0 1)).extents.find? (·.vbase == natAt v 8 8) with
     | none => false
     | some e =>
     decide (s.serves q 0x0C00 2 v) && decide (natAt v 1 7 = 0) && decide (natAt v 8 8 + natAt v 16 8 ≤ 2 ^ 56) &&
       decide (natAt v 16 8 % 4096 = 0) && decide (natAt v 16 8 ≠ 0) && decide (¬ s'.tdiLocked (natAt v 0 1)) &&
       decide (e.len < natAt v 16 8) && decide (grantPhase (s'.den (natAt v 0 1))) &&
       decide (({ e with len := natAt v 16 8 } : Extent).inSpace) &&
       decide (s'.checkEntry (natAt v 0 1) { e with len := natAt v 16 8 } (some (natAt v 8 8)) = none)) &&
    -- 4
    (let s : State := asked { withDen (den1 .running) with fab := { jobs := [{ id := 0, compat := false }] } } 40
     let v : List Byte := pack [(2, 4095), (6, 0), (8, 3 + 256 * 3), (8, 0), (8, 0), (8, 4096)]
     let q : Req := wr 0x0C01 0 v
     let s' : State := s.beginReq q v
     match parseWindow (v.drop 8) with
     | none => false
     | some e =>
     decide (s.serves q 0x0C01 0 v) && decide (natAt v 0 2 < 4096) && decide (natAt v 2 6 = 0) && decide (s.mayOpen q.fe v) &&
       decide (s'.window (natAt v 0 2) = none) && decide (¬ s'.tdiRefuses q.fe e.slot) && decide (revokePhase (s'.den e.slot)) &&
       decide ((s'.job e.job).isSome)) &&
    -- 5
    (let v : List Byte := pack [(2, 4095)]
     let q : Req := wr 0x0C01 1 v
     let e : WinEntry := { inbound := true, opened := false, anySrc := false, slot := 3, peer := 0, rwin := 0, rd := false, wr := false, atom := false, job := 0, base := 0, len := 4096 }
     let s : State := asked { withDen (den1 .running) with wins := [(4095, some e)], fab := { jobs := [{ id := 0, compat := false }] } } 2
     let s' : State := s.beginReq q v
     decide (s.serves q 0x0C01 1 v) && decide (leNat v < 4096) && decide (s'.window (leNat v) = some e) &&
       decide (s.mayClose q.fe (leNat v)) && decide (¬ s'.tdiRefuses q.fe e.slot) && decide (revokePhase (s'.den e.slot)))) = true := by decide +kernel

/-- Witnesses of `Obligations.FabricElements`: values at which the hypotheses of each of its clauses hold together. -/
theorem wit_FabricElements : (
    -- 1
    (let s : State := asked up 4
     let v : List Byte := pack [(4, 0xFFFFFE)]
     let q : Req := wr 0x1100 0 v
     let s' : State := s.beginReq q v
     decide (s.serves q 0x1100 0 v) && decide (leNat v ≠ 0) && decide (leNat v ≤ 0xFFFFFE) && decide (s'.fab.jobs = [])) &&
    -- 2.1
    (let s : State := asked up 20
     let v : List Byte := pack [(2, 1023), (1, 1), (1, 31), (4, 1), (3, 0xFFFFFF), (1, 0), (3, 0xFFFFFF), (1, 0), (3, 4), (1, 0)]
     let q : Req := wr 0x1101 0 v
     decide (s.serves q 0x1101 0 v) && decide (natAt v 0 2 ≤ 1023) && decide (natAt v 2 1 ≤ 1) && decide (natAt v 11 1 = 0) &&
       decide (natAt v 15 1 = 0) && decide (natAt v 19 1 = 0) && decide (natAt v 2 1 = 1)) &&
    -- 2.2
    (let s : State := asked up 20
     let v : List Byte := pack [(2, 0), (1, 0), (1, 31), (4, 1), (3, 0xFFFFFF), (1, 0), (3, 0xFFFFFF), (1, 0), (3, 4), (1, 0)]
     let q : Req := wr 0x1101 0 v
     decide (s.serves q 0x1101 0 v) && decide (natAt v 0 2 ≤ 1023) && decide (natAt v 2 1 ≤ 1) && decide (natAt v 11 1 = 0) &&
       decide (natAt v 15 1 = 0) && decide (natAt v 19 1 = 0) && decide (natAt v 2 1 = 0)) &&
    -- 3.1
    (let s : State := asked up 2
     let v : List Byte := pack [(2, 1023)]
     let q : Req := wr 0x1101 1 v
     decide (s.serves q 0x1101 1 v) && decide (leNat v ≤ 1023)) &&
    -- 3.2
    (let s : State := asked up 2
     let v : List Byte := pack [(2, 1024)]
     let q : Req := wr 0x1101 1 v
     decide (s.serves q 0x1101 1 v) && decide (1023 < leNat v)) &&
    -- 4.1
    (let s : State := asked { net with fab := { jobs := (List.range 63).map fun i => { id := i + 8, compat := false } } } 8
     let v : List Byte := pack [(4, 1), (4, 1)]
     let q : Req := wr 0x1110 0 v
     let s' : State := s.beginReq q v
     decide (s.serves q 0x1110 0 v) && decide (natAt v 0 4 ≠ 0) && decide (natAt v 4 4 ≤ 1) &&
       decide ((s'.job (natAt v 0 4)).isSome = false) && decide (s'.endpoint ≠ 0) && decide (s'.fab.jobs.length < 64)) &&
    -- 4.2
    (let s : State := asked { net with fab := { jobs := (List.range 64).map fun i => { id := i + 8, compat := false } } } 8
     let v : List Byte := pack [(4, 1), (4, 1)]
     let q : Req := wr 0x1110 0 v
     let s' : State := s.beginReq q v
     decide (s.serves q 0x1110 0 v) && decide (natAt v 0 4 ≠ 0) && decide (natAt v 4 4 ≤ 1) &&
       decide ((s'.job (natAt v 0 4)).isSome = false) && decide (s'.endpoint ≠ 0) && decide (64 ≤ s'.fab.jobs.length)) &&
    -- 5
    (let s : State := asked net 40
     let v : List Byte := pack [(4, 7), (3, 0xFFFFFE), (1, 0), (32, 5)]
     let q : Req := wr 0x1110 1 v
     let s' : State := s.beginReq q v
     let m : Member := { job := natAt v 0 4, peer := natAt v 4 3, digest := BitVec.ofNat 256 (natAt v 8 32) }
     let rest : List Member := s'.fab.members.filter (fun m => !(m.job == natAt v 0 4 && m.peer == natAt v 4 3))
     match s'.job (natAt v 0 4) with
     | none => false
     | some j =>
     decide (s.serves q 0x1110 1 v) && decide (natAt v 4 3 ≠ 0) && decide (natAt v 4 3 ≠ 0xFFFFFF) && decide (natAt v 7 1 = 0) &&
       decide (j.compat = false) && decide (rest.length < 8192)) &&
    -- 6
    (let s : State := asked net 4
     let v : List Byte := pack [(4, 7)]
     let q : Req := wr 0x1110 2 v
     let s' : State := s.beginReq q v
     match s'.job (leNat v) with
     | none => false
     | some _ =>
     decide (s.serves q 0x1110 2 v)) &&
    -- 7
    (let s : State := asked up 1
     let v : List Byte := [1]
     let q : Req := wr 0x101F 1 v
     let l : LinkIx := 31
     decide (s.serves q (0x1000 + l.val) 1 v))) = true := by decide +kernel

/-- Witnesses of `Obligations.FabricMessages`: values at which the hypotheses of each of its clauses hold together. -/
theorem wit_FabricMessages : (
    -- 1.1
    (let s : State := { netRx { kind := 2, payload := pack [(2, 65535), (6, 0), (8, 2 ^ 40 - 1)] } with host := { fences := [(65535, { live := true, fabric := true, job := 7 })] } }
     let l : LinkIx := 31
     match s.takeRx l.val (fun f => frameKind f == 2) with
     | none => false
     | some (f, s1) =>
     let n : Nat := natAt f.payload 0 2
     let s2 : State := s1.say (16 + l.val) .fence (s1.floorEnd (l.val / 2) 0) s1.hostEnd 0 n
     decide ((s2.fence n).live) && decide ((s2.fence n).fabric) && decide ((s2.fence n).job.toNat = frameJob f)) &&
    -- 1.2
    (let s : State := { netRx { kind := 2, payload := pack [(2, 65535), (6, 0), (8, 5)] } with host := { fences := [(65535, { live := true, fabric := true, job := 6 })] } }
     let l : LinkIx := 31
     match s.takeRx l.val (fun f => frameKind f == 2) with
     | none => false
     | some (f, s1) =>
     let n : Nat := natAt f.payload 0 2
     let s2 : State := s1.say (16 + l.val) .fence (s1.floorEnd (l.val / 2) 0) s1.hostEnd 0 n
     decide ((s2.fence n).live = false ∨ (s2.fence n).fabric = false ∨ (s2.fence n).job.toNat ≠ frameJob f)) &&
    -- 2
    (let s : State := asked net 24
     let v : List Byte := pack [(3, 9), (1, 0), (4, 7), (2, 65535), (6, 0), (8, 2 ^ 40 - 1)]
     let q : Req := wr 0x1100 6 v
     let l : Nat := 31
     let route : Route := { plink := 31, links := 0x80000000, value := 0, mask := 0, via := 0 }
     let s' : State := s.beginReq q v
     match s'.sendMsg (natAt v 4 4) (natAt v 0 3) .engine { kind := 2, payload := toLE 2 (natAt v 8 2) ++ List.replicate 6 0 ++ toLE 8 (natAt v 16 8) } with
     | .error _ => false
     | .ok _ =>
     decide (s.serves q 0x1100 6 v) && decide (natAt v 3 1 = 0) && decide (natAt v 10 6 = 0) && decide (natAt v 16 8 < 2 ^ 40) &&
       decide ((s'.job (natAt v 4 4)).isSome) && decide (natAt v 0 3 = s'.endpoint ∨ s'.isMember (natAt v 4 4) (natAt v 0 3)) &&
       decide (s'.pickLink (natAt v 0 3) (natAt v 4 4) 0 .engine = .ok (l, route))) &&
    -- 3.1
    (let s : State := { netRx { kind := 3, payload := pack [(2, 0), (1, 0), (1, 1), (4, 0), (16, 1)] } with chip := { phase := .ready } }
     let l : LinkIx := 31
     match s.takeRx l.val (fun f => frameKind f == 3) with
     | none => false
     | some (f, s1) =>
     decide (s1.dict.reassembly = []) && decide (natAt f.payload 3 1 = 1) && decide (natAt f.payload 2 1 = 0) &&
       decide (s1.reg 0x0110 5 ≠ 0)) &&
    -- 3.2
    (let s : State := { netRx { kind := 3, payload := pack [(2, 0), (1, 16), (1, 17), (4, 0), (16, 1)] } with chip := { phase := .ready } }
     let l : LinkIx := 31
     match s.takeRx l.val (fun f => frameKind f == 3) with
     | none => false
     | some (f, s1) =>
     decide (s1.dict.reassembly = []) && decide (1 < natAt f.payload 3 1) && decide (natAt f.payload 3 1 ≤ 17) &&
       decide (natAt f.payload 2 1 < natAt f.payload 3 1)) &&
    -- 4
    (let s : State := { net with dict := { net.dict with reassembly := [{ src := 9, job := 7, msg := 1, total := 2, segs := [(0, [1])] }] } }
     let src : BitVec 24 := 9
     let job : BitVec 32 := 7
     let msg : BitVec 16 := 1
     let l : Nat := 31
     let route : Route := { plink := 31, links := 0x80000000, value := 0, mask := 0, via := 0 }
     decide ((s.dict.reassembly.any fun r => r.src == src && r.job == job && r.msg == msg)) &&
       decide (s.pickLink src.toNat job.toNat 0 .engine = .ok (l, route)))) = true := by decide +kernel

/-- Witnesses of `Obligations.Fences`: values at which the hypotheses of each of its clauses hold together. -/
theorem wit_Fences : (
    -- 1.1
    (let s : State := { up with host := { fences := [(65535, { live := true, value := 1, refs := [4] })] } }
     let f : FenIx := 65535
     let v : BitVec 64 := 0x8000000000
     let wide : Bool := true
     let d : Nat := (v.toNat + 2 ^ 40 - (s.fence f.val).value.toNat) % 2 ^ 40
     decide (wide = true) && decide (v.toNat < 2 ^ 40) && decide ((s.fence f.val).live) &&
       decide ((s.fence f.val).abandoned = false) && decide (1 ≤ d) && decide (d ≤ 2 ^ 39 - 1)) &&
    -- 1.2
    (let s : State := { up with host := { fences := [(65535, { live := true, value := 1, refs := [4] })] } }
     let f : FenIx := 65535
     let wide : Bool := true
     let v : BitVec 64 := 0x8000000001
     let d : Nat := (v.toNat + 2 ^ 40 - (s.fence f.val).value.toNat) % 2 ^ 40
     decide (wide = false ∨ 2 ^ 40 ≤ v.toNat ∨ (s.fence f.val).live = false ∨ (s.fence f.val).abandoned = true ∨ d = 0 ∨ 2 ^ 39 ≤ d)) &&
    -- 1.3
    (let s : State := { up with host := { fences := [(9, { live := true, value := 0xFFFFFFFFFF, refs := [4], pci := true })] } }
     let f : FenIx := 9
     decide ((s.fence f.val).pci)) &&
    -- 1.4
    (let s : State := { up with host := { fences := [(9, { live := true, refs := [4] })] } }
     let f : FenIx := 9
     decide ((s.fence f.val).pci = false)) &&
    -- 2
    (let s : State := asked up 24
     let v : List Byte := pack [(3, 65535), (1, 2), (4, 0), (4, 6), (4, 0), (8, 2 ^ 40 - 1)]
     let q : Req := wr 0x1220 0 v
     let s' : State := s.beginReq q v
     let n : Nat := natAt v 0 3
     decide (s.serves q 0x1220 0 v) && decide (n ≤ 65535) && decide (natAt v 3 1 = 2) && decide (natAt v 4 4 = 0) &&
       decide (natAt v 12 4 = 0) && decide (natAt v 16 8 < 2 ^ 40) && decide ((s'.fence n).live = false)) &&
    -- 3
    (let s : State := asked { up with host := { fences := [(65535, { live := true, refs := List.replicate 254 1, gen := 5 })] } } 16
     let v : List Byte := pack [(3, 65535), (1, 2), (4, 5), (4, 6), (4, 0)]
     let q : Req := wr 0x1220 1 v
     let s' : State := s.beginReq q v
     match s'.fenceNamed v with
     | .error _ => false
     | .ok n =>
     decide (s.serves q 0x1220 1 v) && decide (natAt v 12 4 = 0) && decide ((s'.fence n).live) &&
       decide ((s'.fence n).abandoned = false) && decide ((s'.fence n).refs.length + (s'.fence n).waiters.length < 255)) &&
    -- 4
    (let s : State := asked { up with host := { fences := [(0, { live := true, refs := [6], gen := 5 })] } } 16
     let v : List Byte := pack [(3, 0), (1, 2), (4, 5), (4, 6), (4, 0)]
     let q : Req := wr 0x1220 2 v
     let s' : State := s.beginReq q v
     match s'.fenceNamed v with
     | .error _ => false
     | .ok n =>
     decide (s.serves q 0x1220 2 v) && decide (natAt v 12 4 = 0) && decide ((s'.fence n).refs.contains (natAt v 8 4))) &&
    -- 5
    (let s : State := asked { up with host := { fences := [(0, { live := true, refs := [6], gen := 5 })] } } 16
     let v : List Byte := pack [(3, 0), (1, 2), (4, 5), (1, 3), (3, 0), (4, 7)]
     let q : Req := wr 0x1220 3 v
     let s' : State := s.beginReq q v
     match s'.fenceNamed v with
     | .error _ => false
     | .ok n =>
     decide (s.serves q 0x1220 3 v) && decide (natAt v 8 1 ≤ 3) && decide (natAt v 9 3 = 0) && decide ((s'.fence n).live)) &&
    -- 6
    (let s : State := asked up 16
     let v : List Byte := pack [(3, 5), (1, 1), (4, 0), (4, 6), (4, 0)]
     let q : Req := wr 0x1220 2 v
     s.serves q 0x1220 2 v && decide (natAt v 3 1 ≠ 2))) = true := by decide +kernel

/-- Witnesses of `Obligations.FencesAndRepair`: values at which the hypotheses of each of its clauses hold together. -/
theorem wit_FencesAndRepair : (
    -- 1.1
    (let s : State := asked up 2
     let v : List Byte := pack [(2, 63 * 256 + 127)]
     let q : Req := wr 0x0401 0 v
     let t : Nat := 8191
     let s' : State := s.beginReq q v
     decide (s.serves q 0x0401 0 v) && decide (tileOfCoord (leNat v) = some t) && decide (s'.repair.hostFenced.contains t = false)) &&
    -- 1.2
    (let s : State := asked { up with repair := { up.repair with hostFenced := [8191] } } 2
     let v : List Byte := pack [(2, 63 * 256 + 127)]
     let q : Req := wr 0x0401 0 v
     let t : Nat := 8191
     let s' : State := s.beginReq q v
     decide (s.serves q 0x0401 0 v) && decide (tileOfCoord (leNat v) = some t) && decide (s'.repair.hostFenced.contains t)) &&
    -- 2
    (let s : State := up
     let t : Nat := 8191
     decide (s.slotOf t = none)) &&
    -- 3
    (let s : State := asked { up with repair := { up.repair with hostFenced := [8191] } } 2
     let v : List Byte := pack [(2, 63 * 256 + 127)]
     let q : Req := wr 0x0401 1 v
     let t : Nat := 8191
     let s' : State := s.beginReq q v
     decide (s.serves q 0x0401 1 v) && decide (tileOfCoord (leNat v) = some t) && decide (s'.repair.hostFenced.contains t) &&
       decide ((s'.dens.any fun (p : Nat × Den) => p.2.phase != .free && p.2.rect.has t) = false)) &&
    -- 4.1
    (let s : State := asked up 1
     let v : List Byte := [191]
     let q : Req := wr 0x0401 3 v
     let s' : State := s.beginReq q v
     let key : Nat := 2 * bitsOf (leNat v) 0 6 + bitsOf (leNat v) 7 1
     decide (s.serves q 0x0401 3 v) && decide (bitsOf (leNat v) 6 1 = 0) && decide (s'.repair.firstPending key = none)) &&
    -- 4.2
    (let s : State := asked { up with repair := { up.repair with faulty := [(2 * 63 + 1, [130])] } } 1
     let v : List Byte := [191]
     let q : Req := wr 0x0401 3 v
     let s' : State := s.beginReq q v
     let key : Nat := 2 * bitsOf (leNat v) 0 6 + bitsOf (leNat v) 7 1
     match s'.repair.firstPending key with
     | none => false
     | some p =>
     decide (s.serves q 0x0401 3 v) && decide (bitsOf (leNat v) 6 1 = 0) &&
       decide (((s'.repair.tilesOutward key p).map blockOf).eraseDups.any s'.blockHeld = false)) &&
    -- 5
    (let s : State := up
     let t : TileIx := 8191
     decide (s.chip.phase = .ready) && decide ((s.tile t.val).fenced = false)) &&
    -- 6.1
    (let s : State := asked up 8
     let v : List Byte := pack [(1, 0), (1, 0), (4, 31 + 2 ^ 8 * 15 + 2 ^ 16 + 2 ^ 24), (2, 0)]
     let q : Req := wr 0x0421 0 v
     let h : Half := .east
     let s' : State := s.beginReq q v
     match parseRect (natAt v 2 4) with
     | none => false
     | some r =>
     decide (s.serves q (match h with | .west => 0x0420 | .east => 0x0421) 0 v) && decide (natAt v 1 1 = 0) &&
       decide (natAt v 6 2 = 0) && decide (r.w ≠ 0) && decide (r.h ≠ 0) && decide (r.br + r.h ≤ 16) && decide (r.inHalf h) &&
       decide (s'.repair.march h = none) && decide (natAt v 0 1 = 0) && decide (r.blocks.any (s'.marchBlocked false) = false)) &&
    -- 6.2
    (let s : State := asked (withDen { phase := .frozen, rect := { bc := 31, br := 15, w := 1, h := 1 } }) 8
     let v : List Byte := pack [(1, 1), (1, 0), (4, 31 + 2 ^ 8 * 15 + 2 ^ 16 + 2 ^ 24), (2, 0)]
     let q : Req := wr 0x0421 0 v
     let h : Half := .east
     let s' : State := s.beginReq q v
     match parseRect (natAt v 2 4) with
     | none => false
     | some r =>
     decide (s.serves q (match h with | .west => 0x0420 | .east => 0x0421) 0 v) && decide (natAt v 1 1 = 0) &&
       decide (natAt v 6 2 = 0) && decide (r.w ≠ 0) && decide (r.h ≠ 0) && decide (r.br + r.h ≤ 16) && decide (r.inHalf h) &&
       decide (s'.repair.march h = none) && decide (natAt v 0 1 = 1) && decide (r.blocks.any (s'.marchBlocked true) = false)) &&
    -- 7
    (let h : Half := .east
     let m : March := { preserving := true, blocks := [(31, 15)], secure := false, stopped := true }
     let s : State := { up with repair := { up.repair with marchEast := some m } }
     let f : MarchFacts := {}
     decide (s.repair.march h = some m) && decide (f.needs = []) && decide (f.sett = [])) &&
    -- 8
    (let s : State := asked up 32
     let v : List Byte := pack [(8, 4096), (8, 2 ^ 26), (4, 2 ^ 31 + 5), (2, 8192), (1, 7), (9, 0)]
     let q : Req := wr 0x3000 6 v
     decide (s.serves q 0x3000 6 v) && decide (natAt v 0 8 % 4096 = 0) && decide (natAt v 8 8 % 4096 = 0) &&
       decide (natAt v 8 8 ≤ 2 ^ 26) && decide (bitsOf (natAt v 16 4) 20 11 = 0) && decide (natAt v 20 2 ≠ 0) &&
       decide (natAt v 20 2 ≤ 8192) && decide (natAt v 22 1 ≤ 7) && decide (natAt v 23 9 = 0))) = true := by decide +kernel

/-- Witnesses of `Obligations.FrameArrival`: values at which the hypotheses of each of its clauses hold together. -/
theorem wit_FrameArrival : (
    -- 1
    (let s : State := net
     let l : LinkIx := 31
     decide (s.linkUp l.val)) &&
    -- 2.1
    (let s : State := net
     let l : LinkIx := 31
     let f : Frame := { frm 0 1 { kind := 5 } with payload := [0] }
     decide (s.linkUp l.val) && decide (f.etype.toNat = s.reg 0x1100 1) && decide (f.dmac = macOf s.endpoint l.val) &&
       decide (frameWellFormed f = false ∨ s.endpoint = 0)) &&
    -- 2.2
    (let s : State := net
     let l : LinkIx := 31
     let f : Frame := { frm 0 1 { kind := 5 } with hdr := mkHdr true 1 6 9 7 3 0 1 { kind := 5 } }
     decide (s.linkUp l.val) && decide (f.etype.toNat = s.reg 0x1100 1) && decide (f.dmac = macOf s.endpoint l.val) &&
       decide (frameWellFormed f) && decide (s.endpoint ≠ 0) && decide (frameDst f ≠ s.endpoint)) &&
    -- 2.3.1.1
    (let s : State := net
     let l : LinkIx := 31
     let f : Frame := frm 0 1 { kind := 4, payload := List.replicate 920 0 }
     decide (s.linkUp l.val) && decide (f.etype.toNat = s.reg 0x1100 1) && decide (f.dmac = macOf s.endpoint l.val) &&
       decide (frameWellFormed f) && decide (s.endpoint ≠ 0) && decide (frameDst f = s.endpoint) && decide (frameKind f = 4) &&
       decide (controlZero f)) &&
    -- 2.3.1.2
    (let s : State := net
     let l : LinkIx := 31
     let f : Frame := frm 0 1 { kind := 4, payload := [0, 1] ++ List.replicate 918 0 }
     decide (s.linkUp l.val) && decide (f.etype.toNat = s.reg 0x1100 1) && decide (f.dmac = macOf s.endpoint l.val) &&
       decide (frameWellFormed f) && decide (s.endpoint ≠ 0) && decide (frameDst f = s.endpoint) && decide (frameKind f = 4) &&
       decide (controlZero f = false)) &&
    -- 2.3.2
    (let s : State := { net with fab := {} }
     let l : LinkIx := 31
     let f : Frame := frm 0 1 { kind := 5 }
     decide (s.linkUp l.val) && decide (f.etype.toNat = s.reg 0x1100 1) && decide (f.dmac = macOf s.endpoint l.val) &&
       decide (frameWellFormed f) && decide (s.endpoint ≠ 0) && decide (frameDst f = s.endpoint) && decide (frameKind f ≠ 4) &&
       decide (s.pair (frameJob f) (frameSrc f) = none)) &&
    -- 2.3.3.1
    (let s : State := net
     let l : LinkIx := 31
     let f : Frame := frm 1 1 { kind := 5 }
     match s.pair 7 9 with
     | none => false
     | some k =>
     let j : Job := { id := 7, compat := false }
     decide (s.linkUp l.val) && decide (f.etype.toNat = s.reg 0x1100 1) && decide (f.dmac = macOf s.endpoint l.val) &&
       decide (frameWellFormed f) && decide (s.endpoint ≠ 0) && decide (frameDst f = s.endpoint) && decide (frameKind f ≠ 4) &&
       decide (s.pair (frameJob f) (frameSrc f) = some k) && decide (k.live) && decide (s.job (frameJob f) = some j) &&
       decide (j.compat = false) && decide (hdrField f 160 32 ≠ s.incarnation % 2 ^ 32 ∨ hdrField f 128 32 ≠ k.inc.toNat % 2 ^ 32)) &&
    -- 2.3.3.2.1
    (let s : State := net
     let l : LinkIx := 31
     let f : Frame := frm 0 1 { kind := 5 }
     match s.pair 7 9 with
     | none => false
     | some k =>
     let j : Job := { id := 7, compat := false }
     decide (s.linkUp l.val) && decide (f.etype.toNat = s.reg 0x1100 1) && decide (f.dmac = macOf s.endpoint l.val) &&
       decide (frameWellFormed f) && decide (s.endpoint ≠ 0) && decide (frameDst f = s.endpoint) && decide (frameKind f ≠ 4) &&
       decide (s.pair (frameJob f) (frameSrc f) = some k) && decide (k.live) && decide (s.job (frameJob f) = some j) &&
       decide (j.compat ∨ hdrField f 160 32 = s.incarnation % 2 ^ 32 ∧ hdrField f 128 32 = k.inc.toNat % 2 ^ 32) &&
       decide (k.opens f = .none) && decide (k.rx.takes (hdrField f 192 64))) &&
    -- 2.3.3.2.2.1
    (let s : State := net
     let l : LinkIx := 31
     let f : Frame := authentic (frm 0 0 { kind := 5 })
     match s.pair 7 9 with
     | none => false
     | some k =>
     let j : Job := { id := 7, compat := false }
     match frameOpened f k.rxKey with
     | none => false
     | some _ =>
     decide (s.linkUp l.val) && decide (f.etype.toNat = s.reg 0x1100 1) && decide (f.dmac = macOf s.endpoint l.val) &&
       decide (frameWellFormed f) && decide (s.endpoint ≠ 0) && decide (frameDst f = s.endpoint) && decide (frameKind f ≠ 4) &&
       decide (s.pair (frameJob f) (frameSrc f) = some k) && decide (k.live) && decide (s.job (frameJob f) = some j) &&
       decide (j.compat ∨ hdrField f 160 32 = s.incarnation % 2 ^ 32 ∧ hdrField f 128 32 = k.inc.toNat % 2 ^ 32) &&
       decide (k.rx.takes (hdrField f 192 64) = false)) &&
    -- 2.3.3.2.2.2.1
    (let s : State := net
     let l : LinkIx := 31
     let f : Frame := authentic (frm 0 1 { kind := 3, payload := List.replicate 8 1 })
     match s.pair 7 9 with
     | none => false
     | some k =>
     let j : Job := { id := 7, compat := false }
     match frameOpened f k.rxKey with
     | none => false
     | some g =>
     decide (s.linkUp l.val) && decide (f.etype.toNat = s.reg 0x1100 1) && decide (f.dmac = macOf s.endpoint l.val) &&
       decide (frameWellFormed f) && decide (s.endpoint ≠ 0) && decide (frameDst f = s.endpoint) && decide (frameKind f ≠ 4) &&
       decide (s.pair (frameJob f) (frameSrc f) = some k) && decide (k.live) && decide (s.job (frameJob f) = some j) &&
       decide (j.compat ∨ hdrField f 160 32 = s.incarnation % 2 ^ 32 ∧ hdrField f 128 32 = k.inc.toNat % 2 ^ 32) &&
       decide (k.rx.takes (hdrField f 192 64)) && decide (controlZero g = false)) &&
    -- 2.3.3.2.2.2.2
    (let l : LinkIx := 31
     let j : Job := { id := 7, compat := false }
     let s : State := net.modLink 31 fun x => { x with places := List.replicate 384 5 }
     match s.pair 7 9 with
     | none => false
     | some k =>
     let f : Frame := authentic (frm 0 1 { kind := 0, opc := 0, arg := 3, rwin := 9 })
     match frameOpened f k.rxKey with
     | none => false
     | some g =>
     decide (s.linkUp l.val) && decide (f.etype.toNat = s.reg 0x1100 1) && decide (f.dmac = macOf s.endpoint l.val) &&
       decide (frameWellFormed f) && decide (s.endpoint ≠ 0) && decide (frameDst f = s.endpoint) && decide (frameKind f ≠ 4) &&
       decide (s.pair (frameJob f) (frameSrc f) = some k) && decide (k.live) && decide (s.job (frameJob f) = some j) &&
       decide (j.compat ∨ hdrField f 160 32 = s.incarnation % 2 ^ 32 ∧ hdrField f 128 32 = k.inc.toNat % 2 ^ 32) &&
       decide (k.rx.takes (hdrField f 192 64)) && decide (controlZero g) && decide (frameKind g = 0) &&
       decide (384 ≤ (s.link l.val).inbound s.endpoint)) &&
    -- 2.3.3.2.2.2.3
    (let l : LinkIx := 31
     let j : Job := { id := 7, compat := false }
     let s : State := net.modLink 31 fun x => { x with places := List.replicate 383 5 }
     match s.pair 7 9 with
     | none => false
     | some k =>
     let f : Frame := authentic (frm 0 1 { kind := 0, opc := 0, arg := 3, rwin := 9 })
     match frameOpened f k.rxKey with
     | none => false
     | some g =>
     decide (s.linkUp l.val) && decide (f.etype.toNat = s.reg 0x1100 1) && decide (f.dmac = macOf s.endpoint l.val) &&
       decide (frameWellFormed f) && decide (s.endpoint ≠ 0) && decide (frameDst f = s.endpoint) && decide (frameKind f ≠ 4) &&
       decide (s.pair (frameJob f) (frameSrc f) = some k) && decide (k.live) && decide (s.job (frameJob f) = some j) &&
       decide (j.compat ∨ hdrField f 160 32 = s.incarnation % 2 ^ 32 ∧ hdrField f 128 32 = k.inc.toNat % 2 ^ 32) &&
       decide (k.rx.takes (hdrField f 192 64)) && decide (controlZero g) &&
       decide (frameKind g ≠ 0 ∨ (s.link l.val).inbound s.endpoint < 384)) &&
    -- 3
    (let s : State := net
     let l : LinkIx := 31
     let f : Frame := frm 0 1 { kind := 0, opc := 0, arg := 3, rwin := 9 }
     decide (s.linkUp l.val) && decide (hdrField f 8 1 = 1 ∨ (s.link l.val).bulkBytes s.endpoint + frameSize f ≤ 2 ^ 20)) &&
    -- 4
    (let l : LinkIx := 31
     let f : Frame := frm 0 1 { kind := 0, opc := 1, rwin := 9, payload := List.replicate 3500 0 }
     let s : State := net.modLink 31 fun x => { x with rx := List.replicate 300 f }
     decide (s.linkUp l.val) && decide (hdrField f 8 1 = 0) && decide (2 ^ 20 < (s.link l.val).bulkBytes s.endpoint + frameSize f))) = true := by decide +kernel

/-- Witnesses of `Obligations.HostPort`: values at which the hypotheses of each of its clauses hold together. -/
theorem wit_HostPort : (
    -- 1
    (let s : State := asked up 4
     let v : List Byte := pack [(4, 9)]
     let q : Req := wr 0x1201 255 v
     let slot : SlotIx := 255
     decide (s.serves q 0x1201 slot.val v)) &&
    -- 2
    (let s : State := asked { withDen (den1 .running) with host := { owners := [(3, 6)], queues := [(0, { phase := .active, slot := 3, gen := 1, owner := 6 })] } } 8
     let v : List Byte := pack [(4, 6), (1, 1), (3, 0)]
     let q : Req := wr 0x1240 0 v
     decide (s.serves q 0x1240 0 v) && decide (natAt v 0 4 ≠ 0) && decide (natAt v 4 1 ≤ 1) && decide (natAt v 5 3 = 0)) &&
    -- 3
    (let s : State := asked (withDen (den1 .faulted)) 32
     let v : List Byte := pack [(2, 1023), (1, 3), (1, 3), (4, 6), (8, 0x10000), (8, 2 ^ 36 - 0x10000), (8, 2 ^ 56 - 2 ^ 36 + 0x10000)]
     let q : Req := wr 0x1230 0 v
     let s' : State := s.beginReq q v
     let slot : Nat := natAt v 2 1
     let off : Nat := natAt v 8 8
     let len : Nat := natAt v 16 8
     let base : Nat := natAt v 24 8
     decide (s.serves q 0x1230 0 v) && decide (natAt v 0 2 ≤ 1023) && decide (natAt v 3 1 ≤ 3) && decide (off ≠ 0) &&
       decide (off % 0x10000 = 0) && decide (len ≠ 0) && decide (len % 0x10000 = 0) && decide (base ≠ 0) &&
       decide (base % 0x10000 = 0) && decide (off + len ≤ 2 ^ s'.host.bar4Log) &&
       decide (kget none s'.host.apers (natAt v 0 2) = none) && decide (¬ s'.tdiLocked slot) &&
       decide (revokePhase (s'.den slot)) && decide (s'.host.apers = [])) &&
    -- 4
    (let s : State := asked { up with host := { apers := [(1023, some { slot := 3, rd := true, wr := true, owner := 6, off := 65536, len := 65536, base := 65536 })] } } 2
     let v : List Byte := pack [(2, 1023)]
     let q : Req := wr 0x1230 1 v
     let s' : State := s.beginReq q v
     match kget none s'.host.apers (leNat v) with
     | none => false
     | some _ =>
     decide (s.serves q 0x1230 1 v)) &&
    -- 5
    (let s : State := { withDen { den1 .loaded with extents := [{ vbase := 65536, len := 65536, tbase := 0, kind := 1, rd := true, wr := true, atom := false }] } with host := { memEnable := true, apers := [(0, some { slot := 3, rd := true, wr := true, owner := 6, off := 65536, len := 65536, base := 65536 })] }, dict := { ready := true, regs := [(elemKey 0x300 0, 1)] } }
     let off : BitVec 42 := 65536
     let t : Target := .well 0
     let s' : State := (s.aperture off.toNat .read).2
     decide (off.toNat % 64 = 0) && (match (s.aperture off.toNat .read).1 with | some (.well 0) => true | _ => false) &&
       ((s'.haul .hostDma (s'.memEnd t) s'.hostEnd 0 1).access t .read { loc := 0 }).1 == kOk) &&
    -- 6
    (let s : State := { withDen { den1 .loaded with extents := [{ vbase := 65536, len := 65536, tbase := 0, kind := 1, rd := true, wr := true, atom := false }] } with host := { memEnable := true, apers := [(0, some { slot := 3, rd := true, wr := true, owner := 6, off := 65536, len := 65536, base := 65536 })] }, dict := { ready := true, regs := [(elemKey 0x300 0, 1)] } }
     let off : BitVec 42 := 65536
     let o : Nat := 63
     let data : List Byte := [7]
     decide (off.toNat % 64 = 0) && decide (o + data.length ≤ 64) && decide (data ≠ []) &&
       (match (s.aperture off.toNat (.write o data)).1 with | some (.well 0) => true | _ => false)) &&
    -- 7
    (let s : State := up
     let off : BitVec 42 := 65536
     decide (off.toNat % 64 = 0) && (s.aperture off.toNat .read).1.isNone) &&
    -- 8
    (let s : State := up
     let off : BitVec 42 := 65536
     let o : Nat := 0
     let data : List Byte := [7]
     decide (off.toNat % 64 = 0) && decide (o + data.length ≤ 64) && decide (data ≠ []) &&
       (s.aperture off.toNat (.write o data)).1.isNone) &&
    -- 10
    (let s : State := withDen (den1 .running)
     decide (s.host.d3hot = false)) &&
    -- 11
    (let s : State := { up with host := { d3hot := true } }
     decide (s.host.d3hot = true)) &&
    -- 12.1
    (let s : State := {}
     decide (s.dict.ready = false)) &&
    -- 12.2
    (let s : State := up
     decide (s.dict.ready = true)) &&
    -- 13.1
    (let s : State := up
     let log : BitVec 6 := 42
     decide (s.host.memEnable = false) && decide (36 ≤ log.toNat) && decide (log.toNat ≤ 42)) &&
    -- 13.2
    (let s : State := { up with host := { memEnable := true } }
     let log : BitVec 6 := 40
     decide (s.host.memEnable = true ∨ log.toNat < 36 ∨ 42 < log.toNat)) &&
    -- 14.1
    (let s : State := { up with dict := { ready := true, pages := [(256, { enable := true, drqTail := 511, drqHead := 0 })] } }
     let p : PageIx := 256
     let v : BitVec 32 := 511
     decide ((s.page p.val).overrun = false) &&
       decide (ringMove 512 (s.page p.val).drqTail v.toNat (((s.page p.val).drqHead + 512 - (s.page p.val).drqTail + 511) % 512) = true)) &&
    -- 14.2
    (let s : State := { up with dict := { ready := true, pages := [(256, { enable := true, drqTail := 511, drqHead := 0 })] } }
     let p : PageIx := 256
     let v : BitVec 32 := 512
     decide ((s.page p.val).overrun = false) && decide (512 ≤ v.toNat)) &&
    -- 14.3
    (let s : State := { up with dict := { ready := true, pages := [(0, { enable := true, drsTail := 0, drsHead := 447 })] } }
     let p : PageIx := 0
     let v : BitVec 32 := 0
     decide ((s.page p.val).overrun = false) &&
       decide (ringMove 448 (s.page p.val).drsHead v.toNat (((s.page p.val).drsTail + 448 - (s.page p.val).drsHead) % 448) = true)) &&
    -- 14.4
    (let s : State := { up with dict := { ready := true, pages := [(0, { enable := true, drsTail := 0, drsHead := 447 })] } }
     let p : PageIx := 0
     let v : BitVec 32 := 448
     decide ((s.page p.val).overrun = false) && decide (448 ≤ v.toNat)) &&
    -- 15.1, 15.2
    (let s : State := { up with dict := { ready := true, pages := [(0, { overrun := true })] } }
     let p : PageIx := 0
     decide ((s.page p.val).overrun = true)) &&
    -- 16.1
    (let s : State := { up with dict := { ready := true, pages := [(0, { enable := true })] } }
     let p : PageIx := 0
     decide ((s.page p.val).enable = true)) &&
    -- 16.2
    (let s : State := { up with dict := { ready := true, pages := [(0, { irqEn := true, drqTail := 4 })] } }
     let p : PageIx := 0
     decide ((s.page p.val).enable = false))) = true := by decide +kernel

/-- Witnesses of `Obligations.HostQueues`: values at which the hypotheses of each of its clauses hold together. -/
theorem wit_HostQueues : (
    -- 1.1
    (let s : State := { up with host := { queues := [(4095, { phase := .active, slot := 2, sqLog := 4, cqLog := 4, sqHead := 0, sqTail := 0 })] } }
     let page : SlotIx := 2
     let v : BitVec 32 := BitVec.ofNat 32 (4095 + 2 ^ 16 * 15)
     let q : Nat := v.toNat % 4096
     let i : Nat := v.toNat / 2 ^ 16
     decide (bitsOf v.toNat 12 4 = 0) && decide ((s.queue q).phase ≠ .disabled) && decide ((s.queue q).slot = page.val) &&
       decide (ringMove (2 ^ (s.queue q).sqLog) (s.queue q).sqTail i (((s.queue q).sqHead + 2 ^ (s.queue q).sqLog - (s.queue q).sqTail + 2 ^ (s.queue q).sqLog - 1) % 2 ^ (s.queue q).sqLog) = true)) &&
    -- 1.2
    (let s : State := { up with host := { queues := [(4095, { phase := .active, slot := 2, sqLog := 4, cqLog := 4, sqHead := 0, sqTail := 0 })] } }
     let page : SlotIx := 2
     let v : BitVec 32 := BitVec.ofNat 32 (4095 + 2 ^ 16 * 16)
     let q : Nat := v.toNat % 4096
     let i : Nat := v.toNat / 2 ^ 16
     decide (bitsOf v.toNat 12 4 = 0) && decide ((s.queue q).phase ≠ .disabled) && decide ((s.queue q).slot = page.val) &&
       decide (2 ^ (s.queue q).sqLog ≤ i)) &&
    -- 2.1
    (let s : State := { up with host := { queues := [(4095, { phase := .active, slot := 2, sqLog := 4, cqLog := 4, cqTail := 15 })] } }
     let page : SlotIx := 2
     let v : BitVec 32 := BitVec.ofNat 32 (4095 + 2 ^ 12 + 2 ^ 16 * 15)
     let q : Nat := v.toNat % 4096
     let i : Nat := v.toNat / 2 ^ 16
     decide (bitsOf v.toNat 12 4 = 1) && decide ((s.queue q).phase ≠ .disabled) && decide ((s.queue q).slot = page.val) &&
       decide (ringMove (2 ^ (s.queue q).cqLog) (s.queue q).cqHead i (((s.queue q).cqTail + 2 ^ (s.queue q).cqLog - (s.queue q).cqHead) % 2 ^ (s.queue q).cqLog) = true)) &&
    -- 2.2
    (let s : State := { up with host := { queues := [(4095, { phase := .active, slot := 2, sqLog := 4, cqLog := 4, cqTail := 15 })] } }
     let page : SlotIx := 2
     let v : BitVec 32 := BitVec.ofNat 32 (4095 + 2 ^ 12 + 2 ^ 16 * 16)
     let q : Nat := v.toNat % 4096
     let i : Nat := v.toNat / 2 ^ 16
     decide (bitsOf v.toNat 12 4 = 1) && decide ((s.queue q).phase ≠ .disabled) && decide ((s.queue q).slot = page.val) &&
       decide (2 ^ (s.queue q).cqLog ≤ i)) &&
    -- 3.1
    (let s : State := { withDen (den1 .running) with host := { queues := [(7, { phase := .active, slot := 3, sqLog := 4, cqLog := 4, sqHead := 15, sqTail := 0 })] } }
     let q : QIx := 7
     let bs : List Byte := pack [(8, 1), (56, 0)]
     decide (s.takesEntry q.val) && decide (bs.length = 64) && decide ((parseEntry bs).valid) &&
       decide ((parseEntry bs).ben = false) && decide ((parseEntry bs).op = 1) && decide ((parseEntry bs).wen = false)) &&
    -- 3.2
    (let s : State := { withDen (den1 .running) with host := { queues := [(7, { phase := .active, slot := 3, sqLog := 4, cqLog := 4, sqHead := 15, sqTail := 0 })], fences := [(5, { live := true, value := 3, refs := [1] })] } }
     let q : QIx := 7
     let bs : List Byte := pack [(2, 1 + 2 ^ 8), (2, 5), (4, 0), (8, 4), (48, 0)]
     decide (s.takesEntry q.val) && decide (bs.length = 64) && decide ((parseEntry bs).valid) &&
       decide ((parseEntry bs).ben = false) && decide ((parseEntry bs).op = 1) && decide ((parseEntry bs).wen = true) &&
       decide ((s.fence (parseEntry bs).wfen).live) && decide ((s.fence (parseEntry bs).wfen).abandoned = false) &&
       decide (waitMet (s.fence (parseEntry bs).wfen).value.toNat (parseEntry bs).w1 = false) &&
       decide ((s.fence (parseEntry bs).wfen).refs.length + (s.fence (parseEntry bs).wfen).waiters.length < 255)) &&
    -- 4
    (let s : State := { withDen (den1 .running) with host := { queues := [(7, { phase := .active, slot := 3, sqLog := 4, cqLog := 4, sqHead := 15, sqTail := 0 })] } }
     let q : QIx := 7
     let bs : List Byte := pack [(8, 2), (56, 0)]
     decide (s.takesEntry q.val) && decide (bs.length = 64) && decide ((parseEntry bs).valid) && decide ((parseEntry bs).op = 2) &&
       decide ((parseEntry bs).wen = false)) &&
    -- 5
    (let q : QIx := 7
     let c : Cur := { entry := parseEntry (pack [(2, 1 + 2 ^ 8), (62, 0)]), index := 0, batch := [], phase := .waiting }
     let s : State := { withDen (den1 .running) with host := { queues := [(7, { phase := .active, slot := 3, sqLog := 4, cqLog := 4, waitOwl := 1, cur := some c })] } }
     decide ((s.queue q.val).cur = some c) && decide (c.phase = .waiting) && decide ((s.queue q.val).waitOwl ≠ 0)) &&
    -- 6
    (let q : QIx := 7
     let c : Cur := { entry := parseEntry (pack [(2, 1), (62, 0)]), index := 0, batch := [], phase := .done kTimeout 0 0 0 9 }
     let s : State := { withDen (den1 .running) with host := { queues := [(7, { phase := .active, slot := 3, sqLog := 4, cqLog := 4, cqTail := 15, cqHead := 1, cur := some c })] } }
     let st : Code := kTimeout
     let badCode : Code := 0
     let flags : BitVec 16 := 0
     let badIx : Nat := 0
     let steps : BitVec 64 := 9
     let t : Nat := ((s.queue q.val).cqTail + 1) % 2 ^ (s.queue q.val).cqLog
     decide ((s.queue q.val).cur = some c) && decide (c.phase = .done st flags badIx badCode steps) &&
       decide (t ≠ (s.queue q.val).cqHead))) = true := by decide +kernel

/-- Witnesses of `Obligations.InboundRequests`: values at which the hypotheses of each of its clauses hold together. -/
theorem wit_InboundRequests : (
    -- 1.1
    (let s : State := netRx { kind := 0, opc := 0, arg := 3, rwin := 9 }
     let l : LinkIx := 31
     match s.nextRequest 0 l.val .read frameReads with
     | none => false
     | some (f, s1) =>
     match s1.inboundCheck f (64 * (frameReads f).length) .read with
     | .ok _ => false
     | .error _ =>
     true) &&
    -- 1.2.1
    (let s : State := (netDenRx { kind := 0, opc := 0, arg := 0, rwin := 9 }).setEngMisses 31 [{ slot := 3, va := 0, absent := true }]
     let l : LinkIx := 31
     let c := kExtNone
     match s.nextRequest 0 l.val .read frameReads with
     | none => false
     | some (f, s1) =>
     match s1.inboundCheck f (64 * (frameReads f).length) .read with
     | .error _ => false
     | .ok e =>
     let work : List (Nat × Access) := (frameReads f).map (fun (i, k) => (e.base + frameOff f + 64 * i, k))
     (s1.inboundLines l.val e.slot .read (work.map (·.1))).1 == some c) &&
    -- 1.2.2
    (let s : State := (netDenRx { kind := 0, opc := 0, arg := 3, rwin := 9 }).setEngCache 31 [(3, { vbase := 0, len := 65536, tbase := 0, kind := 1, rd := true, wr := true, atom := true })]
     let l : LinkIx := 31
     match s.nextRequest 0 l.val .read frameReads with
     | none => false
     | some (f, s1) =>
     match s1.inboundCheck f (64 * (frameReads f).length) .read with
     | .error _ => false
     | .ok e =>
     let work : List (Nat × Access) := (frameReads f).map (fun (i, k) => (e.base + frameOff f + 64 * i, k))
     (s1.inboundLines l.val e.slot .read (work.map (·.1))).1 == none) &&
    -- 2.1
    (let s : State := netRx { kind := 0, opc := 1, rwin := 9, off := 65536 - 64, payload := List.replicate 64 1 }
     let l : LinkIx := 31
     match s.nextRequest 1 l.val .write frameWrites with
     | none => false
     | some (f, s1) =>
     match s1.inboundCheck f (64 * (frameWrites f).length) .write with
     | .ok _ => false
     | .error _ =>
     true) &&
    -- 2.2.1
    (let s : State := (netDenRx { kind := 0, opc := 1, rwin := 9, off := 65536 - 64, payload := List.replicate 64 1 }).setEngMisses 31 [{ slot := 3, va := 65472, absent := true }]
     let l : LinkIx := 31
     let c := kExtNone
     match s.nextRequest 1 l.val .write frameWrites with
     | none => false
     | some (f, s1) =>
     match s1.inboundCheck f (64 * (frameWrites f).length) .write with
     | .error _ => false
     | .ok e =>
     let work : List (Nat × Access) := (frameWrites f).map (fun (i, k) => (e.base + frameOff f + 64 * i, k))
     (s1.inboundLines l.val e.slot .write (work.map (·.1))).1 == some c) &&
    -- 2.2.2
    (let s : State := (netDenRx { kind := 0, opc := 1, rwin := 9, off := 65536 - 64, payload := List.replicate 64 1 }).setEngCache 31 [(3, { vbase := 0, len := 65536, tbase := 0, kind := 1, rd := true, wr := true, atom := true })]
     let l : LinkIx := 31
     match s.nextRequest 1 l.val .write frameWrites with
     | none => false
     | some (f, s1) =>
     match s1.inboundCheck f (64 * (frameWrites f).length) .write with
     | .error _ => false
     | .ok e =>
     let work : List (Nat × Access) := (frameWrites f).map (fun (i, k) => (e.base + frameOff f + 64 * i, k))
     (s1.inboundLines l.val e.slot .write (work.map (·.1))).1 == none) &&
    -- 3.1
    (let s : State := netRx { kind := 0, opc := 2, rwin := 9, arg := 6, payload := List.replicate 72 1 }
     let l : LinkIx := 31
     match s.nextRequest 2 l.val .rmw frameRmw with
     | none => false
     | some (f, s1) =>
     match s1.inboundCheck f (64 * (frameRmw f).length) .rmw with
     | .ok _ => false
     | .error _ =>
     true) &&
    -- 3.2.1
    (let s : State := (netDenRx { kind := 0, opc := 2, rwin := 9, arg := 6, payload := List.replicate 72 1 }).setEngMisses 31 [{ slot := 3, va := 0, absent := true }]
     let l : LinkIx := 31
     let c := kExtNone
     match s.nextRequest 2 l.val .rmw frameRmw with
     | none => false
     | some (f, s1) =>
     match s1.inboundCheck f (64 * (frameRmw f).length) .rmw with
     | .error _ => false
     | .ok e =>
     let work : List (Nat × Access) := (frameRmw f).map (fun (i, k) => (e.base + frameOff f + 64 * i, k))
     (s1.inboundLines l.val e.slot .rmw (work.map (·.1))).1 == some c) &&
    -- 3.2.2
    (let s : State := (netDenRx { kind := 0, opc := 2, rwin := 9, arg := 6, payload := List.replicate 72 1 }).setEngCache 31 [(3, { vbase := 0, len := 65536, tbase := 0, kind := 1, rd := true, wr := true, atom := true })]
     let l : LinkIx := 31
     match s.nextRequest 2 l.val .rmw frameRmw with
     | none => false
     | some (f, s1) =>
     match s1.inboundCheck f (64 * (frameRmw f).length) .rmw with
     | .error _ => false
     | .ok e =>
     let work : List (Nat × Access) := (frameRmw f).map (fun (i, k) => (e.base + frameOff f + 64 * i, k))
     (s1.inboundLines l.val e.slot .rmw (work.map (·.1))).1 == none) &&
    -- 4.1
    (let s : State := netRx { kind := 0, opc := 3, rwin := 9, payload := List.replicate 64 1 }
     let l : LinkIx := 31
     match s.nextRequest 3 l.val .write frameWrites with
     | none => false
     | some (f, s1) =>
     match s1.inboundCheck f (64 * (frameWrites f).length) .write with
     | .ok _ => false
     | .error _ =>
     true) &&
    -- 4.2.1
    (let s : State := (netDenRx { kind := 0, opc := 3, rwin := 9, payload := List.replicate 64 1 }).setEngMisses 31 [{ slot := 3, va := 0, absent := true }]
     let l : LinkIx := 31
     let c := kExtNone
     match s.nextRequest 3 l.val .write frameWrites with
     | none => false
     | some (f, s1) =>
     match s1.inboundCheck f (64 * (frameWrites f).length) .write with
     | .error _ => false
     | .ok e =>
     let work : List (Nat × Access) := (frameWrites f).map (fun (i, k) => (e.base + frameOff f + 64 * i, k))
     (s1.inboundLines l.val e.slot .write (work.map (·.1))).1 == some c) &&
    -- 4.2.2
    (let s : State := (netDenRx { kind := 0, opc := 3, rwin := 9, payload := List.replicate 64 1 }).setEngCache 31 [(3, { vbase := 0, len := 65536, tbase := 0, kind := 1, rd := true, wr := true, atom := true })]
     let l : LinkIx := 31
     match s.nextRequest 3 l.val .write frameWrites with
     | none => false
     | some (f, s1) =>
     match s1.inboundCheck f (64 * (frameWrites f).length) .write with
     | .error _ => false
     | .ok e =>
     let work : List (Nat × Access) := (frameWrites f).map (fun (i, k) => (e.base + frameOff f + 64 * i, k))
     (s1.inboundLines l.val e.slot .write (work.map (·.1))).1 == none)) = true := by decide +kernel

/-- Witnesses of `Obligations.InputsAndTemperature`: values at which the hypotheses of each of its clauses hold together. -/
theorem wit_InputsAndTemperature : (
    -- 1.1
    (let s : State := up
     decide (s.aonRuns) && decide (s.power.pinLow = false)) &&
    -- 1.2
    (let s : State := { up with power := { pinLow := true, brake := true } }
     decide (s.aonRuns) && decide (s.power.pinLow = true)) &&
    -- 1.3
    (let s : State := up
     decide (s.aonRuns) && decide (s.power.sag = false)) &&
    -- 2
    (let s : State := { up with power := { brake := true } }
     decide (s.power.brake) && decide (s.power.pinLow = false) && decide (s.power.sag = false)) &&
    -- 3
    (let s : State := { up with power := { sag := true, brake := true, pinLow := true } }
     decide (s.power.sag)) &&
    -- 4
    (let s : State := withDen (den1 .running)
     decide (s.aonRuns)) &&
    -- 5.1
    (let s : State := up
     let n : Fin 16 := 3
     decide (s.aonRuns) && decide (s.chip.phase ≠ .rail13) && decide (n.val < 4)) &&
    -- 5.2
    (let s : State := up
     let n : Fin 16 := 7
     decide (s.aonRuns) && decide (s.chip.phase ≠ .rail13) && decide (4 ≤ n.val) && decide (n.val < 8)) &&
    -- 5.3
    (let s : State := up
     let n : Fin 16 := 14
     decide (s.aonRuns) && decide (s.chip.phase ≠ .rail13) && decide (8 ≤ n.val) && decide (n.val < 15)) &&
    -- 6.1
    (let s : State := up
     let raw : List (BitVec 16) := [0x8000, 5]
     decide (s.aonRuns) && decide (s.chip.phase ≠ .rail13) && decide (raw.length = 2)) &&
    -- 6.2
    (let s : State := up
     let raw : List (BitVec 16) := List.replicate 32 7000
     decide (s.aonRuns) && decide (s.chip.phase ≠ .rail13) && decide (raw.length = 32)) &&
    -- 6.3
    (let s : State := up
     let raw : List (BitVec 16) := List.replicate 512 100
     decide (s.aonRuns) && decide (s.chip.phase ≠ .rail13) && decide (raw.length = 512) &&
       decide (hottest (s.readings .die raw) < 6720) && decide (s.power.hotRuns = [])) &&
    -- 7
    (let s : State := { up with power := { die := [(511, 6720)], lt := 26 } }
     let i : Nat := 511
     decide (s.powerRuns) && decide (i < 512) && decide (s.f32 0x0230 0 < ((kget 0 s.power.die i : Int) : Rat) / 64)) &&
    -- 8
    (let s : State := { up with power := { lt := 1 } }
     decide (s.powerRuns) && decide ((∀ t ∈ s.power.junctions, t ≤ s.f32 0x0230 0 - 3)) &&
       decide ((∀ t ∈ s.power.wellTemps, t ≤ s.f32 0x0230 1 - 3))) &&
    -- 9
    (let s : State := { up with power := { trip := true } }
     decide (s.power.trip) && decide (s.resetRuns .chip = false) && decide ((∀ t ∈ s.power.junctions, t ≤ 90)) &&
       decide ((∀ t ∈ s.power.wellTemps, t ≤ 85)))) = true := by decide +kernel

/-- Witnesses of `Obligations.InterruptDelivery`: values at which the hypotheses of each of its clauses hold together. -/
theorem wit_InterruptDelivery : (
    -- 1
    (let n : Fin 2048 := 2004
     decide (n.val ≠ 0) && decide (n.val ≤ 2004)) &&
    -- 2
    (let s : State := { up with ic := { srcs := [(2004, { cfg := 0x8000000F, pend := true, cond := true })], mods := [(64 * 2051, { e := 1 })] } }
     let t : TgtIx := 2051
     decide (s.ic.notifiable t.val)) &&
    -- 3.1
    (let s : State := { up with ic := { mods := [(64 * 2051 + 63, { last := .running })] } }
     let t : TgtIx := 2051
     let g : Fin 64 := 63
     decide ((s.ic.dom (domainOf t.val)).asleep = false) && decide ((s.ic.mod t.val g.val).last = .running)) &&
    -- 3.2
    (let s : State := { up with ic := { mods := [(64 * 2051 + 63, { e := 1 })] } }
     let t : TgtIx := 2051
     let g : Fin 64 := 63
     decide ((s.ic.dom (domainOf t.val)).asleep = false) && decide ((s.ic.mod t.val g.val).first ≠ .passed)) &&
    -- 4.1
    (let s : State := { up with ic := { srcs := [(2004, { cfg := 0x0800000F, pend := true, cond := true })] } }
     let t : TgtIx := 0
     let n := 2004
     decide (s.ic.best (s.ic.claimables t.val) = some n)) &&
    -- 4.2
    (let s : State := up
     let t : TgtIx := 2051
     decide (s.ic.best (s.ic.claimables t.val) = none)) &&
    -- 5.1
    (let s : State := { up with ic := { srcs := [(2004, { cfg := 0x3F0F, act := true, owner := 2051 })], tgts := [(2051, { stack := [(2004, 15)] })] } }
     let t : TgtIx := 2051
     let v : BitVec 32 := 2004
     let n : Nat := v.toNat % 2048
     decide ((s.ic.src n).act) && decide ((s.ic.src n).owner = t.val)) &&
    -- 5.2
    (let s : State := up
     let t : TgtIx := 2051
     let v : BitVec 32 := 0xFFFFFFFF
     let n : Nat := v.toNat % 2048
     decide ((s.ic.src n).act = false ∨ (s.ic.src n).owner ≠ t.val))) = true := by decide +kernel

/-- Witnesses of `Obligations.InterruptRegisters`: values at which the hypotheses of each of its clauses hold together. -/
theorem wit_InterruptRegisters : (
    -- 1.1
    (let s : State := { up with ic := { srcs := [(2045, { cfg := 2 ^ 32 })] } }
     let n : Fin 2048 := 2045
     decide (n.val ≠ 0) && decide (n.val ≤ 2045) && decide ((s.ic.src n.val).locked)) &&
    -- 1.2
    (let s : State := up
     let n : Fin 2048 := 2045
     decide (n.val ≠ 0) && decide (n.val ≤ 2045) && decide ((s.ic.src n.val).locked = false)) &&
    -- 1.3
    (let n : Fin 2048 := 1
     decide (n.val ≠ 0) && decide (n.val ≤ 2045)) &&
    -- 4.1
    (let n : Fin 2048 := 2045
     let v : BitVec 64 := 2 ^ 32
     decide (v.toNat.testBit 32) && decide (n.val ≠ 0) && decide (n.val ≤ 2045) && decide (levelSource n.val = false)) &&
    -- 4.2
    (let n : Fin 2048 := 1685
     let v : BitVec 64 := 2 ^ 32
     decide (v.toNat.testBit 32) && decide (n.val ≠ 0) && decide (n.val ≤ 2045) && decide (levelSource n.val)) &&
    -- 6
    (let s : State := { up with host := { d3hot := true } }
     let d : Fin 5 := 0
     decide ((s.ic.dom d.val).asleep = false) && decide (d.val = 0) && decide (s.host.d3hot = true)) &&
    -- 7
    (let s : State := up
     let d : Fin 5 := 4
     decide ((s.ic.dom d.val).asleep = false) && decide (d.val ≠ 0) && decide ((s.ic.dom d.val).retain = true)) &&
    -- 8
    (let s : State := { up with ic := { doms := [(4, { asleep := true, wake := true })] } }
     let d : Fin 5 := 4
     decide ((s.ic.dom d.val).asleep) && decide ((s.ic.dom d.val).wake)) &&
    -- 10.2
    (let s : State := { up with ic := { pba := [(2047, true)], unmasked := [(2047, true)], fnMask := true } }
     let v := 2047
     decide (s.ic.pba = [(v, true)]) && decide (kget false s.ic.unmasked v = true)) &&
    -- 11
    (let s : State := { chip := { phase := .boot 1 } }
     decide (s.chip.phase = .boot 1) && decide (s.power.trip = false) && decide (s.trust.activeB = false) &&
       decide (s.trust.bankA.sigOk = true) && decide (s.reg 0x1801 4 ≤ s.trust.bankA.svn) && decide (s.dict.ready = false))) = true := by decide +kernel

/-- Witnesses of `Obligations.Leases`: values at which the hypotheses of each of its clauses hold together. -/
theorem wit_Leases : (
    -- 1
    (let s : State := up
     decide (s.settBooted) && decide ((coresOf s.primaryHalf).any s.repair.halted.contains = false) &&
       decide (s.resetRuns (.half s.primaryHalf) = false)) &&
    -- 2.1
    (let s : State := { up with repair := { up.repair with resetting := true } }
     let late : Bool := false
     decide (s.settBooted) && decide (s.repair.fenced = false) &&
       decide ((coresOf s.secondaryHalf).all s.repair.halted.contains = false) &&
       decide (s.resetRuns (.half s.secondaryHalf) = false) && decide (s.repair.resetting = true) && decide (late = false)) &&
    -- 2.2
    (let s : State := up
     let a : Bool := false
     let b : Bool := false
     decide (s.settBooted) && decide (s.repair.fenced = false) &&
       decide ((coresOf s.secondaryHalf).all s.repair.halted.contains = false) &&
       decide (s.resetRuns (.half s.secondaryHalf) = false) && decide (s.repair.resetting = false) && decide (a = false) &&
       decide (b = false)) &&
    -- 2.3
    (let s : State := up
     let a : Bool := true
     let b : Bool := true
     decide (s.settBooted) && decide (s.repair.fenced = false) &&
       decide ((coresOf s.secondaryHalf).all s.repair.halted.contains = false) &&
       decide (s.resetRuns (.half s.secondaryHalf) = false) && decide (s.repair.resetting = false) && decide (a = true) &&
       decide (b = true)) &&
    -- 2.4
    (let s : State := up
     let a : Bool := false
     let b : Bool := true
     decide (s.settBooted) && decide (s.repair.fenced = false) &&
       decide ((coresOf s.secondaryHalf).all s.repair.halted.contains = false) &&
       decide (s.resetRuns (.half s.secondaryHalf) = false) && decide (s.repair.resetting = false) && decide (a = false) &&
       decide (b = true)) &&
    -- 2.5
    (let s : State := up
     let a : Bool := true
     let b : Bool := false
     decide (s.settBooted) && decide (s.repair.fenced = false) &&
       decide ((coresOf s.secondaryHalf).all s.repair.halted.contains = false) &&
       decide (s.resetRuns (.half s.secondaryHalf) = false) && decide (s.repair.resetting = false) && decide (a = true) &&
       decide (b = false) && decide (s.dens = []))) = true := by decide +kernel

/-- Witnesses of `Obligations.LifeCycle`: values at which the hypotheses of each of its clauses hold together. -/
theorem wit_LifeCycle : (
    -- 1.1
    (let s : State := asked { up with dict := { ready := true, regs := [(elemKey 1 0, 1)] } } 8
     let v : List Byte := pack [(1, 2), (3, 0), (4, 0)]
     let q : Req := wr 1 1 v
     let s' : State := s.beginReq q v
     decide (s.serves q 0x0001 1 v) && decide (natAt v 1 3 = 0) && decide ((s'.dens.any fun p => p.2.phase != .free) = false) &&
       decide (s'.fab.jobs = []) && decide (s'.scrubPending = 0) && decide (natAt v 0 1 = 2) && decide (v.length = 8) &&
       decide (natAt v 4 4 = 0) && decide (s'.lifecycle = 1)) &&
    -- 1.2
    (let s : State := asked { up with dict := { ready := true, regs := [(elemKey 1 0, 3)] } } 8
     let v : List Byte := pack [(1, 2), (3, 0), (4, 0)]
     let q : Req := wr 1 1 v
     let s' : State := s.beginReq q v
     decide (s.serves q 0x0001 1 v) && decide (natAt v 1 3 = 0) && decide ((s'.dens.any fun p => p.2.phase != .free) = false) &&
       decide (s'.fab.jobs = []) && decide (s'.scrubPending = 0) && decide (natAt v 0 1 = 2) && decide (v.length = 8) &&
       decide (natAt v 4 4 = 0) && decide (s'.lifecycle ≠ 1)) &&
    -- 1.3.1, 1.3.2
    (let s : State := asked { up with dict := { ready := true, regs := [(elemKey 1 0, 2)] } } 458
     let v : List Byte := pack [(1, 3), (3, 0), (4, 0), (2, 2), (2, 0), (4, 450), (16, 0), (32, 0), (2, 0), (6, 0), (2, 0), (384, 0)]
     let q : Req := wr 1 1 v
     let s' : State := s.beginReq q v
     decide (s.serves q 0x0001 1 v) && decide (natAt v 1 3 = 0) && decide ((s'.dens.any fun p => p.2.phase != .free) = false) &&
       decide (s'.fab.jobs = []) && decide (s'.scrubPending = 0) && decide (natAt v 0 1 = 3) && decide (8 ≤ v.length) &&
       decide (natAt v 4 4 = 0) && decide (natAt v 10 2 = 0) && decide (natAt v 66 6 = 0) &&
       decide (s'.lifecycle = 1 ∨ s'.lifecycle = 2) && decide (s'.containerOk (v.drop 8) true)) &&
    -- 1.4
    (let s : State := asked { up with dict := { ready := true, regs := [(elemKey 1 0, 3)] } } 8
     let v : List Byte := pack [(1, 4), (3, 0), (4, 0x53435250)]
     let q : Req := wr 1 1 v
     let s' : State := s.beginReq q v
     decide (s.serves q 0x0001 1 v) && decide (natAt v 1 3 = 0) && decide ((s'.dens.any fun p => p.2.phase != .free) = false) &&
       decide (s'.fab.jobs = []) && decide (s'.scrubPending = 0) && decide (natAt v 0 1 = 4) && decide (v.length = 8) &&
       decide (natAt v 4 4 = 0x53435250) && decide (1 ≤ s'.lifecycle) && decide (s'.lifecycle ≤ 3)) &&
    -- 2.1, 2.2, 2.3, 2.4
    (let n : Nat := 2
     decide (2 ≤ n) && decide (n ≤ 4)) &&
    -- 2.5
    (let n : Nat := 4
     decide (2 ≤ n) && decide (n ≤ 4) && decide (n = 4)) &&
    -- 3.1
    (let s : State := asked up 1
     let v : List Byte := [0]
     let q : Req := wr 0x1801 5 v
     decide (s.serves q 0x1801 5 v) && decide (leNat v = 0)) &&
    -- 3.2
    (let s : State := asked up 1
     let v : List Byte := [1]
     let q : Req := wr 0x1801 5 v
     let s' : State := s.beginReq q v
     decide (s.serves q 0x1801 5 v) && decide (leNat v = 1) && decide (s'.reg 0x1801 3 ≤ s'.reg 0x1801 4)) &&
    -- 3.3
    (let s : State := asked { up with dict := { ready := true, regs := [(elemKey 0x1801 3, 1)] }, trust := { svnUsed := 32 } } 1
     let v : List Byte := [1]
     let q : Req := wr 0x1801 5 v
     let s' : State := s.beginReq q v
     decide (s.serves q 0x1801 5 v) && decide (leNat v = 1) && decide (s'.reg 0x1801 4 < s'.reg 0x1801 3) &&
       decide (s'.trust.svnUsed = 32)) &&
    -- 3.4
    (let s : State := asked { up with dict := { ready := true, regs := [(elemKey 0x1801 3, 32)] } } 1
     let v : List Byte := [1]
     let q : Req := wr 0x1801 5 v
     let s' : State := s.beginReq q v
     decide (s.serves q 0x1801 5 v) && decide (leNat v = 1) && decide (s'.reg 0x1801 4 < s'.reg 0x1801 3) &&
       decide (s'.trust.svnUsed + (s'.reg 0x1801 3 - s'.reg 0x1801 4) ≤ 32))) = true := by decide +kernel

/-- Witnesses of `Obligations.LinkState`: values at which the hypotheses of each of its clauses hold together. -/
theorem wit_LinkState : (
    -- 1
    (let s : State := { up with dict := { ready := true, regs := [(elemKey 0x101F 0, 1), (elemKey 0x101F 1, 1)] } }
     let l : LinkIx := 31
     let lanes : BitVec 9 := 255
     decide (s.reg (0x1000 + l.val) 0 = 1 ∨ s.reg (0x1000 + l.val) 0 = 3) && decide (s.reg (0x1000 + l.val) 1 = 1) &&
       decide (popCount 9 lanes.toNat = 8) && decide (lanes.getLsbD 8 = false ∨ s.reg (0x1000 + l.val) 3 = 1) &&
       decide ((s.link l.val).spareUsed = false ∨ lanes.getLsbD (s.link l.val).lostLane = false)) &&
    -- 2
    (let s : State := { net with dict := { net.dict with regs := [(elemKey 0x101F 0, 2), (elemKey 0x101F 3, 1), (elemKey 0x101F 4, 255), (elemKey 0x1100 0, 5)] } }
     let l : LinkIx := 31
     decide (s.reg (0x1000 + l.val) 0 = 2) && (s.reg (0x1000 + l.val) 4).testBit 7) &&
    -- 3
    (let s : State := { net with dict := { net.dict with regs := [(elemKey 0x101F 0, 2), (elemKey 0x101F 3, 1), (elemKey 0x101F 4, 255), (elemKey 0x1100 0, 5)] } }
     let l : LinkIx := 31
     let lane : Fin 8 := 7
     decide (s.reg (0x1000 + l.val) 0 = 2) && decide (s.reg (0x1000 + l.val) 3 = 1) &&
       decide ((s.reg (0x1000 + l.val) 4).testBit lane.val)) &&
    -- 4.1, 5.1, 5.2, 5.3
    (let s : State := net
     let l : LinkIx := 31
     decide (s.reg (0x1000 + l.val) 0 = 2)) &&
    -- 4.2
    (let l : LinkIx := 31
     let h := { by_ := .engine, frame := frm 0 1 { kind := 5 } }
     let s : State := net.modLink 31 fun x => { x with paused := true, held := [h] }
     decide (s.reg (0x1000 + l.val) 0 = 2) && decide ((s.link l.val).held = [h]) && decide (h.by_ = .engine) &&
       decide (h.frame.payload.length ≤ 4010))) = true := by decide +kernel

/-- Witnesses of `Obligations.Mailboxes`: values at which the hypotheses of each of its clauses hold together. -/
theorem wit_Mailboxes : (
    -- 1.1
    (let s : State := { up with ic := { mbx := [(63, { ovf := true, ackd := true, seq := 65535 })] } }
     let c : Fin 64 := 63
     decide ((s.ic.box c.val).full = false)) &&
    -- 1.2, 3.2
    (let s : State := { up with ic := { mbx := [(0, { full := true })] } }
     let c : Fin 64 := 0
     decide ((s.ic.box c.val).full = true)) &&
    -- 2.1
    (let s : State := { up with ic := { mbx := [(63, { full := true })], srcs := [(1748, { cond := true, pend := true }), (1812, { act := true })] } }
     let c : Fin 64 := 63
     decide ((s.ic.box c.val).full = true)) &&
    -- 2.2, 3.1
    (let s : State := up
     let c : Fin 64 := 0
     decide ((s.ic.box c.val).full = false))) = true := by decide +kernel

/-- Witnesses of `Obligations.ManagementBus`: values at which the hypotheses of each of its clauses hold together. -/
theorem wit_ManagementBus : (
    -- 1.1, 1.2, 1.5
    (let s : State := up
     decide (s.aonRuns)) &&
    -- 1.3
    (let s : State := up
     decide (s.aonRuns) && decide (s.settBooted)) &&
    -- 1.4
    (let s : State := { up with chip := { phase := .recovery } }
     decide (s.aonRuns) && decide (s.chip.phase = .recovery)) &&
    -- 1.6
    (let s : State := up
     let t := 0x7E
     decide (s.aonRuns) && decide (s.mctpTypes.contains t)) &&
    -- 1.7
    (let s : State := up
     let t := 0x7D
     decide (s.aonRuns) && decide (s.mctpTypes.contains t = false)) &&
    -- 1.8.1, 1.8.2, 1.8.3
    (let s : State := up
     decide (s.aonRuns) && decide (s.pldmServes)) &&
    -- 2.1, 2.2, 3
    (let s : State := up
     decide (s.settBooted))) = true := by decide +kernel

/-- Witnesses of `Obligations.MatrixSlot`: values at which the hypotheses of each of its clauses hold together. -/
theorem wit_MatrixSlot : (
    -- 1
    (let s : State := issuing {}
     let t : TileIx := 0
     let slot : Nat := 3
     match s.opens t slot .stored with
     | none => false
     | some u =>
     let f : MFields := { fmt := 0, td := 0, ma := 0, mb := 0, mc := 0, tgt := 0 }
     decide (s.ready u t slot) && decide (MOp.mnop.bad f = false)) &&
    -- 2
    (let s : State := issuing {}
     let t : TileIx := 0
     let slot : Nat := 3
     match s.opens t slot .stored with
     | none => false
     | some u =>
     let m : MatFmt := (match matFmt 0 with | some m => m | none => { elem := .int 0, w := 0, k := 0, occ := 0, mx := false, mode := .zero })
     let f : MFields := { fmt := 0, td := 3, ma := 0, mb := 4, mc := 0, tgt := 0 }
     decide (s.ready u t slot) && decide (MOp.mma.bad f = false) && decide ((u.tile t.val).matBusy = 0) &&
       decide (matFmt f.fmt.toNat = some m) &&
       decide ((kget {} (u.tile t.val).acc f.td.toNat).mode = .zero ∨ (kget {} (u.tile t.val).acc f.td.toNat).mode = m.mode)) &&
    -- 3
    (let s : State := issuing {}
     let t : TileIx := 0
     let slot : Nat := 3
     match s.opens t slot .stored with
     | none => false
     | some u =>
     let m : MatFmt := (match matFmt 0 with | some m => m | none => { elem := .int 0, w := 0, k := 0, occ := 0, mx := false, mode := .zero })
     let f : MFields := { fmt := 0, td := 3, ma := 0, mb := 4, mc := 0, tgt := 0 }
     decide (s.ready u t slot) && decide (MOp.mmaz.bad f = false) && decide ((u.tile t.val).matBusy = 0) &&
       decide (matFmt f.fmt.toNat = some m)) &&
    -- 4
    (let s : State := issuing {}
     let t : TileIx := 0
     let slot : Nat := 3
     match s.opens t slot .stored with
     | none => false
     | some u =>
     let f : MFields := { fmt := 0, td := 3, ma := 0, mb := 0, mc := 0, tgt := 0 }
     decide (s.ready u t slot) && decide (MOp.mzero.bad f = false) && decide ((u.tile t.val).matBusy = 0)) &&
    -- 5
    (let s : State := issuing {}
     let t : TileIx := 0
     let slot : Nat := 3
     match s.opens t slot .stored with
     | none => false
     | some u =>
     let f : MFields := { fmt := 0, td := 3, ma := 0x3F, mb := 0, mc := 0, tgt := 0 }
     decide (s.ready u t slot) && decide (MOp.mrd.bad f = false))) = true := by decide +kernel

/-- Witnesses of `Obligations.MeterCommands`: values at which the hypotheses of each of its clauses hold together. -/
theorem wit_MeterCommands : (
    -- 1.1
    (let s : State := { up with meter := { powered := true } }
     decide (s.meter.powered) && decide (s.aonRuns)) &&
    -- 1.2
    (let s : State := { up with meter := { powered := true, keyMeter := some 5, ticks := 9 } }
     decide (s.meter.powered) && decide (s.aonRuns) && decide (s.meter.keyMeter.isSome)) &&
    -- 1.3
    (let c := { slot := 3, vec := { tiles := 16 }, owner := 6, pasid := 0, state := 1 }
     let s : State := { up with meter := { powered := true, keyMeter := some 5, ticks := 9, frames := [c] } }
     let rest := []
     decide (s.meter.powered) && decide (s.aonRuns) && decide (s.meter.keyMeter.isSome) && decide (s.meter.resetDue = false) &&
       decide (s.meter.frames = c :: rest)) &&
    -- 1.4
    (let s : State := { up with meter := { powered := true, keyMeter := some 5, ticks := 9, resetDue := true, tenures := [{ num := 1, slot := 3, opened := 0, since := 0, vec := { tiles := 16 }, owner := 6, pasid := 0 }] } }
     decide (s.meter.powered) && decide (s.aonRuns) && decide (s.meter.keyMeter.isSome) && decide (s.meter.resetDue)) &&
    -- 1.5
    (let s : State := { up with meter := { powered := true, keyPkg := some 5 } }
     decide (s.meter.powered) && decide (s.aonRuns) && decide (s.meter.keyPkg.isSome)) &&
    -- 2
    (let s : State := { up with meter := { powered := true, keyMeter := some 5, lastFrame := 5, tenures := [{ num := 1, slot := 3, opened := 0, since := 0, vec := { tiles := 16 }, owner := 6, pasid := 0 }] } }
     decide (s.meter.powered) && decide (s.meter.lostSince = none) && decide (s.meter.keyMeter.isSome)) &&
    -- 3
    (let s : State := { up with meter := { up := true } }
     decide (s.meter.up) && decide (s.aonRuns) && decide (s.meter.gapOpen = false)) &&
    -- 4
    (let s : State := { up with meter := { powered := true }, trust := { vault := some { deviceId := [], sealing := [] } } }
     let c : Bool := false
     let d : Bool := (sha s.modulus == recordedDevid)
     decide (s.meter.powered) && decide (s.trust.vault.isSome) && decide (s.meter.up = false) && decide (c = false ∨ d = false)) &&
    -- 5
    (let s : State := { up with meter := { powered := true }, trust := { vault := some { deviceId := [], sealing := [] } } }
     let x : Meter := s.meter
     decide (x = s.meter) && decide (x.powered) && decide (s.trust.vault.isSome) && decide (s.trust.udsGone = false) &&
       decide (x.up = false)) &&
    -- 6
    (let s : State := { up with meter := { powered := true } }
     decide (s.meter.sealOpen = false)) &&
    -- 7
    (let s : State := { up with meter := { powered := true, ticks := 1500000000, tenures := [{ num := 1, slot := 3, opened := 0, since := 0, vec := { tiles := 16 }, owner := 6, pasid := 0 }] } }
     decide (s.meter.powered) && decide (1500000000 ≤ s.meter.ticks - s.meter.periodStart) && decide (s.meter.tenures.length ≤ 48)) &&
    -- 8
    (let s : State := { up with meter := { powered := true, up := true, resync := true, gapOpen := true, lostSince := some 5, ticks := 9 } }
     let n : Nat := 4
     let t0 : Nat := 5
     decide (s.meter.lostSince = some t0) && decide (s.meter.up) && decide (s.meter.resync) && decide (s.meter.frames = []) &&
       decide (s.meter.ticks - t0 ≤ n) && decide (s.meter.tenures = [])) &&
    -- 9
    (let s : State := { up with meter := { powered := true } }
     decide (s.meter.powered))) = true := by decide +kernel

/-- Witnesses of `Obligations.PairKeys`: values at which the hypotheses of each of its clauses hold together. -/
theorem wit_PairKeys : (
    -- 1.1
    (let s : State := netRx { kind := 4, payload := List.replicate 920 1 }
     let l : LinkIx := 31
     match s.takeRx l.val (fun f => frameKind f == 4) with
     | none => false
     | some (f, s1) =>
     let d : BitVec 256 := BitVec.ofNat 256 (sha256 (keyxModulus f.payload))
     let asked : List Byte := (if natAt f.payload 0 1 = 2 then keyxNonce (((s1.pair (frameJob f) (frameSrc f)).bind (·.agr)).getD {}).payload else [])
     let ok : Bool := pssVerify (keyxModulus f.payload) (keyxSigned f.payload (frameDst f) (frameSrc f) (frameJob f) asked) (keyxSignature f.payload)
     d.toNat == sha256 (keyxModulus f.payload) &&
       decide ((s1.fab.members.any fun m => m.job == frameJob f && m.peer == frameSrc f && m.digest == d) = false ∨ ok = false ∨ s1.job (frameJob f) = none ∨ s1.reg 0x0001 0 = 4)) &&
    -- 1.2.1
    (let s : State := keyxAt 1 rsaSig1 true []
     let l : LinkIx := 31
     let d : BitVec 256 := rsaDigest
     match s.takeRx l.val (fun f => frameKind f == 4) with
     | none => false
     | some (f, s1) =>
     let asked : List Byte := (if natAt f.payload 0 1 = 2 then keyxNonce (((s1.pair (frameJob f) (frameSrc f)).bind (·.agr)).getD {}).payload else [])
     let ok : Bool := pssVerify (keyxModulus f.payload) (keyxSigned f.payload (frameDst f) (frameSrc f) (frameJob f) asked) (keyxSignature f.payload)
     match s1.job (frameJob f) with
     | none => false
     | some j =>
     d.toNat == sha256 (keyxModulus f.payload) && ok &&
       decide ((s1.fab.members.any fun m => m.job == frameJob f && m.peer == frameSrc f && m.digest == d)) &&
       decide (s1.reg 0x0001 0 ≠ 4) && decide (j.compat)) &&
    -- 1.2.2.1
    (let s : State := keyxAt 1 rsaSig1 false []
     let l : LinkIx := 31
     let d : BitVec 256 := rsaDigest
     match s.takeRx l.val (fun f => frameKind f == 4) with
     | none => false
     | some (f, s1) =>
     let asked : List Byte := (if natAt f.payload 0 1 = 2 then keyxNonce (((s1.pair (frameJob f) (frameSrc f)).bind (·.agr)).getD {}).payload else [])
     let ok : Bool := pssVerify (keyxModulus f.payload) (keyxSigned f.payload (frameDst f) (frameSrc f) (frameJob f) asked) (keyxSignature f.payload)
     match s1.job (frameJob f) with
     | none => false
     | some j =>
     d.toNat == sha256 (keyxModulus f.payload) && ok &&
       decide ((s1.fab.members.any fun m => m.job == frameJob f && m.peer == frameSrc f && m.digest == d)) &&
       decide (s1.reg 0x0001 0 ≠ 4) && decide (j.compat = false) &&
       decide ((s1.fab.keys.find? fun k => k.peer == frameSrc f && k.known) = none) && decide (natAt f.payload 0 1 = 1) &&
       decide (s1.pair (frameJob f) (frameSrc f) = none) && decide (s1.fab.keys.length < 8192)) &&
    -- 1.2.2.2
    (let s : State := keyxAt 2 rsaSig2 false [{ job := 7, peer := 9, agr := some { payload := List.replicate 920 6, private_ := 5 } }]
     let l : LinkIx := 31
     let d : BitVec 256 := rsaDigest
     match s.takeRx l.val (fun f => frameKind f == 4) with
     | none => false
     | some (f, s1) =>
     let asked : List Byte := (if natAt f.payload 0 1 = 2 then keyxNonce (((s1.pair (frameJob f) (frameSrc f)).bind (·.agr)).getD {}).payload else [])
     let ok : Bool := pssVerify (keyxModulus f.payload) (keyxSigned f.payload (frameDst f) (frameSrc f) (frameJob f) asked) (keyxSignature f.payload)
     match s1.job (frameJob f) with
     | none => false
     | some j =>
     match s1.pair (frameJob f) (frameSrc f) with
     | none => false
     | some k =>
     match k.agr with
     | none => false
     | some _ =>
     d.toNat == sha256 (keyxModulus f.payload) && ok &&
       decide ((s1.fab.members.any fun m => m.job == frameJob f && m.peer == frameSrc f && m.digest == d)) &&
       decide (s1.reg 0x0001 0 ≠ 4) && decide (j.compat = false) &&
       decide ((s1.fab.keys.find? fun k => k.peer == frameSrc f && k.known) = none) && decide (natAt f.payload 0 1 = 2) &&
       decide (k.known = false)) &&
    -- 2.1
    (let job : BitVec 32 := 7
     let peer : BitVec 24 := 9
     let s : State := net.modPair 7 9 fun k => { k with agr := some { payload := List.replicate 920 6, private_ := 5, tries := 3 } }
     match s.pair job.toNat peer.toNat with
     | none => false
     | some k =>
     match k.agr with
     | none => false
     | some a =>
     decide (a.tries < 4)) &&
    -- 2.2
    (let job : BitVec 32 := 7
     let peer : BitVec 24 := 9
     let s : State := net.modPair 7 9 fun k => { k with agr := some { payload := List.replicate 920 6, private_ := 5, tries := 4 } }
     match s.pair job.toNat peer.toNat with
     | none => false
     | some k =>
     match k.agr with
     | none => false
     | some a =>
     decide (4 ≤ a.tries)) &&
    -- 3
    (let job : BitVec 32 := 7
     let peer : BitVec 24 := 9
     let s : State := net.modPair 7 9 fun k => { k with old := some { rx := {}, timed := true } }
     match s.pair job.toNat peer.toNat with
     | none => false
     | some k =>
     match k.old with
     | none => false
     | some o =>
     decide (o.timed)) &&
    -- 4
    (let s : State := netRx { kind := 5 }
     let l : LinkIx := 31
     match s.takeRx l.val (fun f => frameKind f == 5) with
     | none => false
     | some (_, _) =>
     true) &&
    -- 5
    (let v : List Byte := pack [(4, 7), (3, 9), (1, 0), (64, 1)]
     let s : State := told { net with fab := { net.fab with jobs := [{ id := 7, compat := true }] } } { wr 0x1110 3 v with fe := .secured 0 } v
     let q : Req := { wr 0x1110 3 v with fe := .secured 0 }
     let j : Job := { id := 7, compat := true }
     let s' : State := s.beginReq q v
     decide (s.serves q 0x1110 3 v) && decide (natAt v 7 1 = 0) && decide (s'.job (natAt v 0 4) = some j) && decide (j.compat) &&
       decide (s'.isMember (natAt v 0 4) (natAt v 4 3)) && decide (s'.fab.keys.length < 8192))) = true := by decide +kernel

/-- Witnesses of `Obligations.PowerLevels`: values at which the hypotheses of each of its clauses hold together. -/
theorem wit_PowerLevels : (
    -- 1
    (let s : State := { up with power := { sinceRise := 4 } }
     decide (s.powerRuns)) &&
    -- 2
    (let s : State := { up with power := { ests := [1] } }
     let rails : List (Rat × Rat) := List.replicate 16 (1, 1)
     decide (s.powerRuns) && decide (rails.length = 16) && decide (0 < ratMean s.power.ests)) &&
    -- 3
    (let s : State := { up with power := { rising := some 5, volts := stepVolt 5 } }
     let k : Nat := 5
     decide (s.power.rising = some k) && decide (s.power.volts = stepVolt k)) &&
    -- 4.1
    (let s : State := { up with power := { east := { force := 2, falling := true } } }
     let h : Half := .east
     let xs : List RailSample := [{ block := 511, uV := 0 + 1000 * stepVolt s.power.step * 95 / 100 }]
     decide (s.powerRuns) && decide ((∀ x ∈ xs, blockHalf x.block.val = h)) && !(xs.any (s.droops 600)) && xs.any (s.droops 400)) &&
    -- 4.2
    (let s : State := { up with power := { east := { force := 2, falling := true } } }
     let h : Half := .east
     let xs : List RailSample := [{ block := 511, uV := 1000 * stepVolt s.power.step * 93 / 100 }, { block := 510, uV := 1000 * stepVolt s.power.step }]
     decide (s.powerRuns) && decide ((∀ x ∈ xs, blockHalf x.block.val = h)) && xs.any (s.droops 600)) &&
    -- 4.3
    (let s : State := { up with power := { east := { force := 2, falling := true } } }
     let h : Half := .east
     let xs : List RailSample := [{ block := 511, uV := 1000 * stepVolt s.power.step * 97 / 100 }]
     decide (s.powerRuns) && decide ((∀ x ∈ xs, blockHalf x.block.val = h)) && !(xs.any (s.droops 600)) && !(xs.any (s.droops 400))) &&
    -- 5
    (let s : State := { up with power := { east := { called := 1, force := 2, falling := true } } }
     let h : Half := .east
     let cycles : Nat := 32
     decide ((s.power.droop h).called < (s.power.droop h).force) && decide ((if (s.power.droop h).falling then 32 else 64) ≤ cycles))) = true := by decide +kernel

/-- Witnesses of `Obligations.PumpLines`: values at which the hypotheses of each of its clauses hold together. -/
theorem wit_PumpLines : (
    -- 1.1
    (let op : TagOp := { desc := descOf 1 0 0 0 0 64 [0, sp 1, 0, 0, 0, 0, 0], due := 100 }
     let s : State := pumping { tags := [(15, some op)], order := [15] }
     let t : TileIx := 0
     let slot : Nat := 3
     let tag : Nat := 15
     let loc : BitVec 64 := 0
     let k : LineAsk := { kind := .read }
     decide (s.slotOf t.val = some slot) &&
       decide ((s.tile t.val).pump.remote.find? (fun y => y.via == .kept && y.loc == loc && y.kind == k.kind) = none) &&
       decide ((s.tile t.val).turn t.val loc.toNat = some tag) && decide ((s.tile t.val).keeps tag (locAddr loc.toNat) = false) &&
       decide (kget none (s.tile t.val).pump.tags tag = some op) && decide (locKind loc.toNat = 0) &&
       decide ((s.tile t.val).pump.room true)) &&
    -- 1.2
    (let t : TileIx := 0
     let slot : Nat := 3
     let tag : Nat := 15
     let k : LineAsk := { kind := .read }
     let op : TagOp := { desc := descOf 1 0 0 0 0 64 [2 ^ 63, sp 1, 0, 0, 0, 0, 0], due := 100 }
     let s : State := pumping { tags := [(15, some op)], order := [15] }
     let loc : BitVec 64 := 2 ^ 63
     let s0 : State := s.modTile t.val (fun x => x.served tag)
     decide (s.slotOf t.val = some slot) &&
       decide ((s.tile t.val).pump.remote.find? (fun y => y.via == .kept && y.loc == loc && y.kind == k.kind) = none) &&
       decide ((s.tile t.val).turn t.val loc.toNat = some tag) && decide ((s.tile t.val).keeps tag (locAddr loc.toNat) = false) &&
       decide (kget none (s.tile t.val).pump.tags tag = some op) && decide (locKind loc.toNat = 2) &&
       decide (s0.pumpHit t.val (locAddr loc.toNat) = none) && decide ((s.tile t.val).pump.misses.length < 4)) &&
    -- 1.3.1
    (let t : TileIx := 0
     let slot : Nat := 3
     let tag : Nat := 15
     let k : LineAsk := { kind := .read }
     let op : TagOp := { desc := descOf 1 0 0 0 0 64 [2 ^ 63, sp 1, 0, 0, 0, 0, 0], due := 100 }
     let loc : BitVec 64 := 2 ^ 63
     let s : State := pumping { tags := [(15, some op)], order := [15], cache := [{ vbase := 0, len := 65536, kind := 1, rd := false, wr := true, atom := true }] }
     let s0 : State := s.modTile t.val (fun x => x.served tag)
     let right : LineKind := (if k.kind = .read ∧ op.needsLine (locAddr loc.toNat) then .write else k.kind)
     match s0.pumpHit t.val (locAddr loc.toNat) with
     | none => false
     | some (e, _) =>
     decide (s.slotOf t.val = some slot) &&
       decide ((s.tile t.val).pump.remote.find? (fun y => y.via == .kept && y.loc == loc && y.kind == k.kind) = none) &&
       decide ((s.tile t.val).turn t.val loc.toNat = some tag) && decide ((s.tile t.val).keeps tag (locAddr loc.toNat) = false) &&
       decide (kget none (s.tile t.val).pump.tags tag = some op) && decide (locKind loc.toNat = 2) &&
       decide (e.allows right = false)) &&
    -- 1.3.2
    (let t : TileIx := 0
     let slot : Nat := 3
     let tag : Nat := 15
     let k : LineAsk := { kind := .read }
     let op : TagOp := { desc := descOf 1 0 0 0 0 64 [2 ^ 63, sp 1, 0, 0, 0, 0, 0], due := 100 }
     let loc : BitVec 64 := 2 ^ 63
     let s : State := pumping { tags := [(15, some op)], order := [15], cache := [{ vbase := 0, len := 65536, kind := 1, rd := true, wr := true, atom := true }] }
     let s0 : State := s.modTile t.val (fun x => x.served tag)
     let right : LineKind := (if k.kind = .read ∧ op.needsLine (locAddr loc.toNat) then .write else k.kind)
     match s0.pumpHit t.val (locAddr loc.toNat) with
     | none => false
     | some (e, _) =>
     decide (s.slotOf t.val = some slot) &&
       decide ((s.tile t.val).pump.remote.find? (fun y => y.via == .kept && y.loc == loc && y.kind == k.kind) = none) &&
       decide ((s.tile t.val).turn t.val loc.toNat = some tag) && decide ((s.tile t.val).keeps tag (locAddr loc.toNat) = false) &&
       decide (kget none (s.tile t.val).pump.tags tag = some op) && decide (locKind loc.toNat = 2) && decide (e.allows right) &&
       decide (k.more.val = 0) && (match e.target (locAddr loc.toNat) with | .well 0 => true | _ => false) &&
       decide ((s.tile t.val).pump.room ((e.target (locAddr loc.toNat)).own t.val) 1)) &&
    -- 2
    (let t : TileIx := 0
     let slot : Nat := 3
     let tag : Fin 16 := 15
     let m : MissSlot := { va := 65535, tag := 15 }
     let s : State := { pumping { tags := [], misses := [m] } with dens := [(3, den3)] }
     match (s.den slot).lookup m.va with
     | none => false
     | some _ =>
     decide (s.slotOf t.val = some slot) && decide ((s.tile t.val).pump.misses.find? (·.tag == tag.val) = some m)) &&
    -- 3
    (let t : TileIx := 0
     let tag : Fin 16 := 15
     let own : Bool := true
     let slot : Nat := 3
     let loc : BitVec 64 := 64
     let h : HoldMark := { den := 3, ns := 0 }
     let z : LineSlot := { tag := 15, loc := 64, kind := .read }
     let s : State := pumping { own := [z] }
     decide (s.slotOf t.val = some slot) &&
       decide ((if own then (s.tile t.val).pump.own else (s.tile t.val).pump.remote).find? (fun y => y.tag == tag.val && y.loc == loc && y.hold.isNone && y.via != .kept) = some z) &&
       decide (z.via = .chip) && decide (z.waits (s.tile t.val) = none) &&
       decide ((s.takeMark slot (s.lineCtl slot t.val loc)).1 = h)) &&
    -- 4
    (let s : State := pumping { remote := [{ tag := 15, loc := 64, kind := .read, hold := some 5 }] }
     let t : TileIx := 0
     decide (((s.tile t.val).pump.remote.any fun z => z.hold.isSome))) &&
    -- 5
    (let s : State := pumping { own := [{ tag := 15, loc := 64, kind := .read, hold := some 5 }] }
     let t : TileIx := 0
     decide (((s.tile t.val).pump.own.any fun z => z.hold.isSome))) &&
    -- 6
    (let s : State := up.modLink 31 fun x => { x with places := [5, 7] }
     let l : LinkIx := 31
     decide ((s.link l.val).places ≠ [])) &&
    -- 7
    (let s : State := { up with host := { places := [5, 7] } }
     decide (s.host.places ≠ [])) &&
    -- 8.1
    (let op : TagOp := { desc := [], due := 100, done := true }
     let s : State := pumping { tags := [(15, some op)], order := [15] }
     let t : TileIx := 0
     let tag : Fin 16 := 15
     decide (kget none (s.tile t.val).pump.tags tag.val = some op) && decide (op.status = none) &&
       decide ((s.tile t.val).linesOut tag.val = false) && decide (op.err = none) && decide (op.done) && decide (op.sends = [])) &&
    -- 8.2
    (let op : TagOp := { desc := [], due := 100, err := some (5, 2 ^ 62) }
     let s : State := pumping { tags := [(15, some op)], order := [15] }
     let t : TileIx := 0
     let tag : Fin 16 := 15
     let c := 5
     let loc := 2 ^ 62
     decide (kget none (s.tile t.val).pump.tags tag.val = some op) && decide (op.status = none) &&
       decide ((s.tile t.val).linesOut tag.val = false) && decide (op.err = some (c, loc))) &&
    -- 9
    (let op : TagOp := { desc := [], due := 100 }
     let s : State := pumping { tags := [(15, some op)], order := [15] }
     let t : TileIx := 0
     let tag : Fin 16 := 15
     decide (kget none (s.tile t.val).pump.tags tag.val = some op) && decide (op.status = none)) &&
    -- 10
    (let op : TagOp := { desc := [], due := 100, status := some kTimeout }
     let s : State := pumping { tags := [(15, some op)], order := [15], own := [{ tag := 15, loc := 64, kind := .read }] }
     let t : TileIx := 0
     let tag : Fin 16 := 15
     match op.status with
     | none => false
     | some c =>
     decide (kget none (s.tile t.val).pump.tags tag.val = some op) && decide (c ≠ kOk) && decide ((s.tile t.val).linesOut tag.val))) = true := by decide +kernel

/-- Witnesses of `Obligations.PumpOperations`: values at which the hypotheses of each of its clauses hold together. -/
theorem wit_PumpOperations : (
    -- 1
    (let op : TagOp := { desc := descOf 1 0 0 0 0 64 [sp 0, sp 1, 0, 0, 0, 0, 0], due := 100 }
     let s : State := pumping { tags := [(15, some op)] }
     let t : TileIx := 0
     let tag : Fin 16 := 15
     let slot : Nat := 3
     let d : Desc := Desc.of op.desc
     decide (s.slotOf t.val = some slot) && decide (kget none (s.tile t.val).pump.tags tag.val = some op) &&
       decide (op.done = false) && decide (op.status = none) && decide (op.err = none) && decide (op.after = 0) && decide (d.op = 1)) &&
    -- 2
    (let op : TagOp := { desc := descOf 2 0 1 1 0 1 [sp 0, sp 1, 0, 4, 0, 0, 0], due := 100 }
     let s : State := pumping { tags := [(15, some op)] }
     let t : TileIx := 0
     let tag : Fin 16 := 15
     let slot : Nat := 3
     let d : Desc := Desc.of op.desc
     decide (s.slotOf t.val = some slot) && decide (kget none (s.tile t.val).pump.tags tag.val = some op) &&
       decide (op.done = false) && decide (op.status = none) && decide (op.err = none) && decide (op.after = 0) && decide (d.op = 2)) &&
    -- 3
    (let op : TagOp := { desc := descOf 3 0 1 1 0 1 [sp 0, sp 1, 0, 4, 0, 0, 0], due := 100 }
     let s : State := pumping { tags := [(15, some op)] }
     let t : TileIx := 0
     let tag : Fin 16 := 15
     let slot : Nat := 3
     let d : Desc := Desc.of op.desc
     decide (s.slotOf t.val = some slot) && decide (kget none (s.tile t.val).pump.tags tag.val = some op) &&
       decide (op.done = false) && decide (op.status = none) && decide (op.err = none) && decide (op.after = 0) && decide (d.op = 3)) &&
    -- 4
    (let op : TagOp := { desc := descOf 4 0 0x0A 0x0A 0 1 [sp 0, sp 1, sp 2, 1 + 2 ^ 2, 3 * 2 ^ 62, 0, 0], due := 100 }
     let s : State := pumping { tags := [(15, some op)] }
     let t : TileIx := 0
     let tag : Fin 16 := 15
     let slot : Nat := 3
     let d : Desc := Desc.of op.desc
     decide (s.slotOf t.val = some slot) && decide (kget none (s.tile t.val).pump.tags tag.val = some op) &&
       decide (op.done = false) && decide (op.status = none) && decide (op.err = none) && decide (op.after = 0) && decide (d.op = 4)) &&
    -- 5
    (let op : TagOp := { desc := descOf 5 0 1 1 0 1 [sp 0, sp 1, sp 2, 0, 0, 0, 0], due := 100 }
     let s : State := pumping { tags := [(15, some op)] }
     let t : TileIx := 0
     let tag : Fin 16 := 15
     let slot : Nat := 3
     let d : Desc := Desc.of op.desc
     decide (s.slotOf t.val = some slot) && decide (kget none (s.tile t.val).pump.tags tag.val = some op) &&
       decide (op.done = false) && decide (op.status = none) && decide (op.err = none) && decide (op.after = 0) && decide (d.op = 5)) &&
    -- 6
    (let op : TagOp := { desc := descOf 6 0 1 1 0 1 [sp 0, sp 1, 0, 1 + 2 ^ 16, 0, 0, 0], due := 100 }
     let s : State := pumping { tags := [(15, some op)] }
     let t : TileIx := 0
     let tag : Fin 16 := 15
     let slot : Nat := 3
     let d : Desc := Desc.of op.desc
     decide (s.slotOf t.val = some slot) && decide (kget none (s.tile t.val).pump.tags tag.val = some op) &&
       decide (op.done = false) && decide (op.status = none) && decide (op.err = none) && decide (op.after = 0) && decide (d.op = 6)) &&
    -- 7
    (let op : TagOp := { desc := descOf 7 0 1 1 0 1 [sp 0, sp 1, sp 2, sp 3, sp 4, 0, 0], due := 100 }
     let s : State := pumping { tags := [(15, some op)] }
     let t : TileIx := 0
     let tag : Fin 16 := 15
     let slot : Nat := 3
     let d : Desc := Desc.of op.desc
     decide (s.slotOf t.val = some slot) && decide (kget none (s.tile t.val).pump.tags tag.val = some op) &&
       decide (op.done = false) && decide (op.status = none) && decide (op.err = none) && decide (op.after = 0) && decide (d.op = 7)) &&
    -- 8
    (let op : TagOp := { desc := descOf 8 0 1 1 0 1 [sp 0, sp 1, sp 2, 1, sp 4, 3 * 2 ^ 62, 0], due := 100 }
     let s : State := pumping { tags := [(15, some op)] }
     let t : TileIx := 0
     let tag : Fin 16 := 15
     let slot : Nat := 3
     let d : Desc := Desc.of op.desc
     decide (s.slotOf t.val = some slot) && decide (kget none (s.tile t.val).pump.tags tag.val = some op) &&
       decide (op.done = false) && decide (op.status = none) && decide (op.err = none) && decide (op.after = 0) && decide (d.op = 8)) &&
    -- 9
    (let op : TagOp := { desc := descOf 9 0 0x0A 0 0 1 [sp 0, sp 1, 0, 0, 4, 0, 0], due := 100 }
     let s : State := pumping { tags := [(15, some op)] }
     let t : TileIx := 0
     let tag : Fin 16 := 15
     let slot : Nat := 3
     let d : Desc := Desc.of op.desc
     decide (s.slotOf t.val = some slot) && decide (kget none (s.tile t.val).pump.tags tag.val = some op) &&
       decide (op.done = false) && decide (op.status = none) && decide (op.err = none) && decide (op.after = 0) && decide (d.op = 9)) &&
    -- 10
    (let op : TagOp := { desc := descOf 10 0 0 0 0 1 [sp 0, sp 1, sp 2, 64, sp 4, 0, 0], due := 100 }
     let s : State := pumping { tags := [(15, some op)] }
     let t : TileIx := 0
     let tag : Fin 16 := 15
     let slot : Nat := 3
     let d : Desc := Desc.of op.desc
     decide (s.slotOf t.val = some slot) && decide (kget none (s.tile t.val).pump.tags tag.val = some op) &&
       decide (op.done = false) && decide (op.status = none) && decide (op.err = none) && decide (op.after = 0) &&
       decide (d.op = 10)) &&
    -- 11
    (let op : TagOp := { desc := descOf 11 0 0 0 0 1 [sp 0, sp 1, sp 2, 64, 0, 0, 0], due := 100 }
     let s : State := pumping { tags := [(15, some op)] }
     let t : TileIx := 0
     let tag : Fin 16 := 15
     let slot : Nat := 3
     let d : Desc := Desc.of op.desc
     decide (s.slotOf t.val = some slot) && decide (kget none (s.tile t.val).pump.tags tag.val = some op) &&
       decide (op.done = false) && decide (op.status = none) && decide (op.err = none) && decide (op.after = 0) &&
       decide (d.op = 11)) &&
    -- 12
    (let op : TagOp := { desc := descOf 12 0 1 2 0 1 [sp 0, sp 1, 0, 0, 0, 0, 0], due := 100 }
     let s : State := pumping { tags := [(15, some op)] }
     let t : TileIx := 0
     let tag : Fin 16 := 15
     let slot : Nat := 3
     let d : Desc := Desc.of op.desc
     decide (s.slotOf t.val = some slot) && decide (kget none (s.tile t.val).pump.tags tag.val = some op) &&
       decide (op.done = false) && decide (op.status = none) && decide (op.err = none) && decide (op.after = 0) &&
       decide (d.op = 12)) &&
    -- 13
    (let op : TagOp := { desc := descOf 13 0 0x0A 0x0A 0 1 [sp 0, sp 1, sp 2, 1, 0, 0, 0], due := 100 }
     let s : State := pumping { tags := [(15, some op)] }
     let t : TileIx := 0
     let tag : Fin 16 := 15
     let slot : Nat := 3
     let d : Desc := Desc.of op.desc
     decide (s.slotOf t.val = some slot) && decide (kget none (s.tile t.val).pump.tags tag.val = some op) &&
       decide (op.done = false) && decide (op.status = none) && decide (op.err = none) && decide (op.after = 0) &&
       decide (d.op = 13))) = true := by decide +kernel

/-- Witnesses of `Obligations.PumpSlot`: values at which the hypotheses of each of its clauses hold together. -/
theorem wit_PumpSlot : (
    -- 1
    (let s : State := issuing {}
     let t : TileIx := 0
     let slot : Nat := 3
     match s.opens t slot .stored with
     | none => false
     | some u =>
     decide (s.ready u t slot)) &&
    -- 2
    (let s : State := issuing { v := [(5, BitVec.ofNat 512 (leNat (descOf 1 0 0 0 0 64 [sp 0, sp 1, 0, 0, 0, 0, 0])))] }
     let t : TileIx := 0
     let slot : Nat := 3
     match s.opens t slot .stored with
     | none => false
     | some u =>
     let tag : Fin 16 := 15
     let lat : BitVec 16 := 0xFFFF
     let v : BitVec 6 := 5
     let x : Snap := u.snap t slot
     let bs : List Byte := toLE 64 (x.tile.vreg v.toNat)
     decide (s.ready u t slot) && decide (lat ≠ 0) && decide (kget none x.tile.pump.tags tag.val = none) &&
       decide ((Desc.of bs).check = none) && decide ((Desc.of bs).count ≠ 0)) &&
    -- 3
    (let s : State := issuing { a := [(1, 4096)], spad := (descOf 1 0 0 0 0 64 [sp 0, sp 2, 0, 0, 0, 0, 0]).zipIdx.filterMap fun p => if p.1 = 0 then none else some (4096 + p.2, p.1) }
     let t : TileIx := 0
     let slot : Nat := 3
     match s.opens t slot .stored with
     | none => false
     | some u =>
     let tag : Fin 16 := 15
     let lat : BitVec 16 := 0xFFFF
     let a : BitVec 4 := 1
     let x : Snap := u.snap t slot
     let bs : List Byte := x.tile.spadRead (x.aAddr a) 64
     decide (s.ready u t slot) && decide (lat ≠ 0) && decide (x.aAddr a % 64 = 0) && decide (x.tile.banksReady (x.aAddr a) 64) &&
       decide (kget none x.tile.pump.tags tag.val = none) && decide ((Desc.of bs).check = none) && decide ((Desc.of bs).count ≠ 0)) &&
    -- 4
    (let s : State := issuing { pump := { tags := [(0, some { desc := [], due := 5 }), (15, some { desc := [], due := 5 })] } }
     let t : TileIx := 0
     let slot : Nat := 3
     match s.opens t slot .stored with
     | none => false
     | some u =>
     decide (s.ready u t slot))) = true := by decide +kernel

/-- Witnesses of `Obligations.PushElements`: values at which the hypotheses of each of its clauses hold together. -/
theorem wit_PushElements : (
    -- 1
    (let s : State := asked (netDen false) 48
     let v : List Byte := pack [(1, 63), (1, 3), (2, 9), (4, 0), (8, 0), (1, 4), (7, 0), (8, 4096), (8, 4104), (4, 100000), (4, 0)]
     let q : Req := wr 0x1120 0 v
     let s' : State := s.beginReq q v
     decide (s.serves q 0x1120 0 v) && decide (natAt v 0 1 ≤ 63) && decide (natAt v 2 2 ≤ 4095) && decide (natAt v 4 4 = 0) &&
       decide (natAt v 17 7 = 0) && decide (natAt v 44 4 = 0) && decide (4 ≤ natAt v 16 1) && decide (natAt v 16 1 ≤ 12) &&
       decide (50 ≤ natAt v 40 4) && decide (natAt v 40 4 ≤ 100000) && decide (natAt v 8 8 % 64 = 0) &&
       decide (natAt v 24 8 % 8 = 0) && decide (natAt v 32 8 % 8 = 0) && decide (natAt v 8 8 < 2 ^ 56) &&
       decide (natAt v 24 8 < 2 ^ 56) && decide (natAt v 32 8 < 2 ^ 56) && decide (grantPhase (s'.den (natAt v 1 1))) &&
       decide (s'.chan (natAt v 0 1) = none) && decide (s'.chanWindow (natAt v 1 1) (natAt v 2 2) = none) &&
       decide ((s'.den (natAt v 1 1)).covers .read 65 (natAt v 8 8) (64 * 2 ^ natAt v 16 1) = none) &&
       decide ((s'.den (natAt v 1 1)).covers .read 1 (natAt v 24 8) 1 = none) &&
       decide ((s'.den (natAt v 1 1)).covers .write 1 (natAt v 32 8) 1 = none)) &&
    -- 2.1
    (let v : List Byte := pack [(1, 63), (1, 1), (2, 0)]
     let q : Req := wr 0x1120 1 v
     let x : Chan := { slot := 3, win := 9, ring := 0, ringLog := 4, tailw := 4096, donew := 4104, poll := 50, phase := .held, status := 5 }
     let s : State := asked { netDen false with fab := { net.fab with chans := [(63, some x)] } } 4
     let s' : State := s.beginReq q v
     let c : Nat := natAt v 0 1
     match s'.window x.win with
     | none => false
     | some _ =>
     decide (s.serves q 0x1120 1 v) && decide (c ≤ 63) && decide (s'.chan c = some x) && decide (natAt v 1 1 = 1) &&
       decide (natAt v 2 2 = 0) && decide (x.phase ≠ .running)) &&
    -- 2.2
    (let x : Chan := { slot := 3, win := 9, ring := 0, ringLog := 4, tailw := 4096, donew := 4104, poll := 50, phase := .held, status := 5 }
     let s : State := asked { netDen false with fab := { net.fab with chans := [(63, some x)] } } 4
     let v : List Byte := pack [(1, 63), (1, 2), (2, 9)]
     let q : Req := wr 0x1120 1 v
     let s' : State := s.beginReq q v
     let c : Nat := natAt v 0 1
     decide (s.serves q 0x1120 1 v) && decide (c ≤ 63) && decide (s'.chan c = some x) && decide (natAt v 1 1 = 2) &&
       decide (natAt v 2 2 ≤ 4095) && decide (x.phase ≠ .running) && decide (s'.chanWindow x.slot (natAt v 2 2) = none)) &&
    -- 2.3
    (let v : List Byte := pack [(1, 63), (1, 3), (2, 0)]
     let q : Req := wr 0x1120 1 v
     let x : Chan := { slot := 3, win := 9, ring := 0, ringLog := 4, tailw := 4096, donew := 4104, poll := 50, phase := .running }
     let s : State := asked { netDen false with fab := { net.fab with chans := [(63, some x)] } } 4
     let s' : State := s.beginReq q v
     let c : Nat := natAt v 0 1
     decide (s.serves q 0x1120 1 v) && decide (c ≤ 63) && decide (s'.chan c = some x) && decide (natAt v 1 1 = 3) &&
       decide (natAt v 2 2 = 0) && decide (x.phase = .running)) &&
    -- 2.4
    (let x : Chan := { slot := 3, win := 9, ring := 0, ringLog := 4, tailw := 4096, donew := 4104, poll := 50, phase := .held, status := 5 }
     let s : State := asked { netDen false with fab := { net.fab with chans := [(63, some x)] } } 4
     let v : List Byte := pack [(1, 63), (1, 4), (2, 0)]
     let q : Req := wr 0x1120 1 v
     let s' : State := s.beginReq q v
     let c : Nat := natAt v 0 1
     decide (s.serves q 0x1120 1 v) && decide (c ≤ 63) && decide (s'.chan c = some x) && decide (natAt v 1 1 = 4) &&
       decide (natAt v 2 2 = 0) && decide (x.phase ≠ .running)) &&
    -- 3
    (let s : State := asked { net with fab := { net.fab with logs := [{ id := 2, peer := 9, job := 7, epoch := 1, inc := 3, lost := true }] } } 16
     let v : List Byte := pack [(8, 2), (3, 9), (5, 0)]
     let q : Req := wr 0x1120 2 v
     let s' : State := s.beginReq q v
     let k : BitVec 64 × Nat := (BitVec.ofNat 64 (natAt v 0 8), natAt v 8 3)
     match s'.logEntry k.1 k.2 with
     | none => false
     | some _ =>
     decide (s.serves q 0x1120 2 v) && decide (natAt v 11 5 = 0)) &&
    -- 4
    (let s : State := asked { net with fab := { net.fab with custody := [{ id := 2, src := 9, job := 7, epoch := 1, inc := 3, win := 9 }] } } 16
     let v : List Byte := pack [(8, 2), (3, 9), (5, 0)]
     let q : Req := wr 0x1120 4 v
     let s' : State := s.beginReq q v
     let k : BitVec 64 × Nat := (BitVec.ofNat 64 (natAt v 0 8), natAt v 8 3)
     match s'.custodyEntry k.1 k.2 with
     | none => false
     | some _ =>
     decide (s.serves q 0x1120 4 v) && decide (natAt v 11 5 = 0)) &&
    -- 5
    (let s : State := asked { net with fab := { net.fab with custody := [{ id := 2, src := 9, job := 7, epoch := 1, inc := 3, win := 9 }] } } 16
     let v : List Byte := pack [(8, 2), (3, 9), (5, 0)]
     let q : Req := wr 0x1120 6 v
     let s' : State := s.beginReq q v
     let hit : Custody → Bool := fun c => c.id == 2 && c.src == 9
     match s'.fab.custody.find? hit with
     | none => false
     | some _ =>
     decide (s.serves q 0x1120 6 v) && (match q.fe with | .page _ => true | _ => false) && decide (natAt v 11 5 = 0)) &&
    -- 6
    (let s : State := asked { net with fab := { net.fab with logs := [{ id := 2, peer := 9, job := 7, epoch := 1, inc := 3, lost := true }] } } 16
     let v : List Byte := pack [(8, 2), (3, 9), (5, 0)]
     let q : Req := wr 0x1120 7 v
     let hit : LogEntry → Bool := fun e => e.id == 2 && e.peer == 9
     let s' : State := s.beginReq q v
     decide (s.serves q 0x1120 7 v) && decide (natAt v 11 5 = 0) && decide (s'.fab.logs.any hit))) = true := by decide +kernel

/-- Witnesses of `Obligations.QueueRequests`: values at which the hypotheses of each of its clauses hold together. -/
theorem wit_QueueRequests : (
    -- 1
    (let s : State := asked { withDen (den1 .reserved) with host := { owners := [(3, 6)] } } 64
     let v : List Byte := pack [(3, 4095), (1, 1), (4, 0), (1, 3), (1, 0), (2, 255), (4, 6), (8, 4096), (1, 4), (1, 15), (6, 0), (8, 8192), (4, 2 ^ 31), (4, 3600000), (16, 0)]
     let q : Req := wr 0x1210 0 v
     let s' : State := s.beginReq q v
     let n : Nat := natAt v 0 3
     decide (s.serves q 0x1210 0 v) && decide (n ≤ 4095) && decide (natAt v 3 1 = 1) && decide (natAt v 4 4 = 0) &&
       decide (natAt v 9 1 = 0) && decide (natAt v 26 6 = 0) && decide (natAt v 48 16 = 0) &&
       decide ((natAt v 10 2 ≤ 255 ∨ natAt v 10 2 = 0xFFFF)) && decide (4 ≤ natAt v 24 1) && decide (natAt v 24 1 ≤ 15) &&
       decide (4 ≤ natAt v 25 1) && decide (natAt v 25 1 ≤ 15) && decide (natAt v 16 8 % 4096 = 0) &&
       decide (natAt v 32 8 % 4096 = 0) && decide (bitsOf (natAt v 40 4) 20 11 = 0) && decide (natAt v 44 4 ≤ 3600000) &&
       decide (natAt v 12 4 = s'.owner (natAt v 8 1)) && decide ((s'.queue n).phase = .disabled) &&
       decide (noQueues (s'.den (natAt v 8 1)) = false)) &&
    -- 2.1
    (let s : State := asked { withDen (den1 .running) with host := { queues := [(4095, { phase := .active, slot := 3, gen := 1, sqLog := 4, cqLog := 4 })] } } 16
     let v : List Byte := pack [(3, 4095), (1, 1), (4, 1), (1, 1), (7, 0)]
     let q : Req := wr 0x1210 1 v
     let s' : State := s.beginReq q v
     let n : Nat := natAt v 0 3
     decide (s.serves q 0x1210 1 v) && decide (n ≤ 4095) && decide (natAt v 3 1 = 1) &&
       decide (natAt v 4 4 = (s'.queue n).gen.toNat) && decide (natAt v 9 7 = 0) && decide (natAt v 8 1 = 1) &&
       decide ((s'.queue n).phase = .active)) &&
    -- 2.2
    (let s : State := asked { withDen (den1 .running) with host := { queues := [(0, { phase := .stopped, slot := 3, gen := 1, sqLog := 4, cqLog := 4 })] } } 16
     let v : List Byte := pack [(3, 0), (1, 1), (4, 1), (1, 2), (7, 0)]
     let q : Req := wr 0x1210 1 v
     let s' : State := s.beginReq q v
     let n : Nat := natAt v 0 3
     decide (s.serves q 0x1210 1 v) && decide (n ≤ 4095) && decide (natAt v 3 1 = 1) &&
       decide (natAt v 4 4 = (s'.queue n).gen.toNat) && decide (natAt v 9 7 = 0) && decide (natAt v 8 1 = 2) &&
       decide ((s'.queue n).phase = .stopped) && decide (noQueues (s'.den (s'.queue n).slot) = false)) &&
    -- 2.3
    (let s : State := asked { withDen (den1 .running) with host := { queues := [(0, { phase := .stopped, slot := 3, gen := 1, sqLog := 4, cqLog := 4 })] } } 16
     let v : List Byte := pack [(3, 0), (1, 1), (4, 1), (1, 3), (7, 0)]
     let q : Req := wr 0x1210 1 v
     let s' : State := s.beginReq q v
     let n : Nat := natAt v 0 3
     decide (s.serves q 0x1210 1 v) && decide (n ≤ 4095) && decide (natAt v 3 1 = 1) &&
       decide (natAt v 4 4 = (s'.queue n).gen.toNat) && decide (natAt v 9 7 = 0) && decide (natAt v 8 1 = 3) &&
       decide ((s.queue n).phase = .stopped) && decide ((s.queue n).sqTail = (s.queue n).sqHead)) &&
    -- 3
    (let s : State := asked { withDen (den1 .running) with host := { queues := [(0, { phase := .stopped, slot := 3, gen := 1, sqLog := 4, cqLog := 4 })] } } 8
     let v : List Byte := pack [(3, 0), (1, 1), (4, 1)]
     let q : Req := wr 0x1210 2 v
     let s' : State := s.beginReq q v
     let n : Nat := natAt v 0 3
     decide (s.serves q 0x1210 2 v) && decide (n ≤ 4095) && decide (natAt v 3 1 = 1) &&
       decide (natAt v 4 4 = (s'.queue n).gen.toNat) && decide ((s'.queue n).phase = .stopped))) = true := by decide +kernel

/-- Witnesses of `Obligations.RangedElements`: values at which the hypotheses of each of its clauses hold together. -/
theorem wit_RangedElements : (
    -- 1
    (let r := (0x3000, 5, 2, 20)
     let v : List Byte := [21]
     decide (leNat v < r.2.2.1 ∨ r.2.2.2 < leNat v)) &&
    -- 2
    (let r := (0x3000, 5, 2, 20)
     let v : List Byte := [20]
     decide (r.2.2.1 ≤ leNat v) && decide (leNat v ≤ r.2.2.2))) = true := by decide +kernel

/-- Witnesses of `Obligations.RegulationEvents`: values at which the hypotheses of each of its clauses hold together. -/
theorem wit_RegulationEvents : (
    -- 1
    (let s : State := { up with dict := { ready := true, regs := [(elemKey 0x2300 0, 0)] } }
     let k : CtlIx := 47
     let u : SlotUse := { refresh := true, level := 48 }
     decide (u.refresh) && decide (s.reg 0x2300 0 ≠ 1) && decide (u.level ≤ queueDepth k.val) && decide (oneSave u) &&
       decide ((k.val < 16 ∨ u.port = 0 ∧ u.elsewhere = [] ∧ u.rtElsewhere = []))) &&
    -- 2
    (let s : State := { withDen { den1 .running with guarantees := [(47, 1)] } with dict := { ready := true, regs := [(elemKey 0x2300 0, 0)] } }
     let k : CtlIx := 47
     let n : SlotIx := 3
     let level : Nat := 3
     let b : Nat := 0
     decide (s.reg 0x2300 0 ≠ 1) && decide (level ≤ queueDepth k.val) && decide (kget 0 (s.ctl k.val).balance n.val = (b : Int)) &&
       decide (0 < b + s.guar k.val n.val) && decide ((b : Int) + s.guar k.val n.val < s.balLim k.val)) &&
    -- 3
    (let s : State := { up with dict := { ready := true, regs := [(elemKey 0x2300 0, 0)] }, ctls := [(47, { slots := 5 })] }
     let k : CtlIx := 47
     decide (s.reg 0x2300 0 = 0) && decide ((s.ctl k.val).starved = [])) &&
    -- 4
    (let i : Nat := 0
     let time : Nat := 7
     let f : Flit := { dst := { router := 5, port := 6 }, src := { router := 5, port := 7 }, vc := 0, kind := .report, slot := 3, tag := 1, count := 2 }
     let s : State := { up with mesh := { up.mesh with clock := 9, arrived := [(7, f)] } }
     decide (s.mesh.arrived[i]? = some (time, f)) && decide (time ≤ s.mesh.clock) && decide (f.vc = 0) &&
       decide (((s.mesh.arrived.take i).any fun p => p.2.vc == 0 && p.2.src == f.src && p.2.dst == f.dst) = false)) &&
    -- 5
    (let s : State := { up with mesh := { up.mesh with bufs := [(bufKey 8447 1 0 false, [{ dst := { router := 5, port := 6 }, src := { router := 5, port := 7 }, vc := 0, kind := .report, slot := 3, tag := 1, count := 2 }]), (bufKey 8447 1 0 true, [{ dst := { router := 5, port := 6 }, src := { router := 5, port := 7 }, vc := 0, kind := .report, slot := 3, tag := 1, count := 3 }])] } }
     let here : Fin 8448 := 8447
     let i : Nat := 0
     let j : Nat := 1
     let a : Nat × Nat := (bufKey 8447 1 0 false, 0)
     let b : Nat × Nat := (bufKey 8447 1 0 true, 0)
     decide (s.mesh.joinable here.val i j = some (a, b))) &&
    -- 6
    (let s : State := { up with repair := { up.repair with routesStale := true } }
     decide (s.repair.routesStale) && decide (s.mesh.idle)) &&
    -- 7.1
    (let i : SlotIx := 3
     let who : Agent := .pump 0
     let v : Inval := { old := { vbase := 0, len := 4096, kind := 1, rd := true, wr := true, atom := true }, newLen := 0, left := [.pump 0, .sett], seq := 1, expect := 3, resp := none }
     let s : State := { withDen { den1 .running with invals := [v] } with tiles := [(0, { pump := { tags := [(15, some { desc := [], due := 100 })], own := [{ tag := 15, loc := 2 ^ 63 + 64, kind := .read }] } })] }
     decide ((s.den i.val).invals.find? (fun v => v.left.contains who) = some v) && decide (s.agentBusy who v.old)) &&
    -- 7.2
    (let i : SlotIx := 3
     let who : Agent := .sett
     let v : Inval := { old := { vbase := 0, len := 4096, kind := 1, rd := true, wr := true, atom := true }, newLen := 0, left := [.sett], seq := 1, got := 2, expect := 3, resp := none }
     let s : State := withDen { den1 .running with invals := [v] }
     decide ((s.den i.val).invals.find? (fun v => v.left.contains who) = some v) && decide (¬ s.agentBusy who v.old)) &&
    -- 8
    (let i : SlotIx := 3
     let v : Inval := { old := { vbase := 0, len := 4096, kind := 1, rd := true, wr := true, atom := true }, newLen := 0, left := [], seq := 1, got := 5, expect := 5, resp := none }
     let s : State := withDen { den1 .running with invals := [v] }
     let vs : List Inval := []
     decide ((s.den i.val).invals = v :: vs) && decide (v.left = []) && decide (v.got = v.expect)) &&
    -- 10
    (let s : State := { up with host := { atsWaits := [{ pasid := 5, page := 1, who := .hostIf, tag := 0 }] } }
     let pasid : BitVec 20 := 5
     let page : BitVec 64 := 1
     let rd : Bool := true
     let wr : Bool := false
     decide (rd || wr) && decide ((s.host.atsWaits.any fun w => w.pasid == pasid.toNat && w.page == page.toNat)))) = true := by decide +kernel

/-- Witnesses of `Obligations.ReservoirEvents`: values at which the hypotheses of each of its clauses hold together. -/
theorem wit_ReservoirEvents : (
    -- 1.1
    (let s : State := { up with dict := { ready := true, regs := [(elemKey 0x33F 0, 1)] } }
     let a : BitVec 42 := 2 ^ 42 - 2 ^ 37
     let c : Nat := a.toNat / 2 ^ 37 % 32
     let off : Nat := a.toNat % 2 ^ 37 / 64 * 64
     decide (off < cisBytes) && decide (s.reg 0x340 8 ≠ 1) && decide (s.reg (0x320 + c) 0 = 1) &&
       decide ((((s.cis c).fenced ++ (s.cis c).rebuilding ++ (s.cis c).retired).any fun r => r.start ≤ off && off < r.start + r.len) = false) &&
       decide (kget false (s.cis c).corrupt (off / 64) = false)) &&
    -- 1.2
    (let s : State := { up with dict := { ready := true, regs := [(elemKey 0x33F 0, 1)] } }
     let a : BitVec 42 := 2 ^ 42 - 2 ^ 37
     let k := .write 63 [9]
     let c : Nat := a.toNat / 2 ^ 37 % 32
     let off : Nat := a.toNat % 2 ^ 37 / 64 * 64
     match accessLine k (if kget 0 (s.cis c).minor (off / 64) = 0 then List.replicate 64 0 else memRead (s.cis c).data off 64) with
     | none => false
     | some _ =>
     decide (off < cisBytes) && decide (s.reg 0x340 8 ≠ 1) && decide (s.reg (0x320 + c) 0 = 1) &&
       decide ((((s.cis c).fenced ++ (s.cis c).rebuilding ++ (s.cis c).retired).any fun r => r.start ≤ off && off < r.start + r.len) = false) &&
       decide (kget false (s.cis c).corrupt (off / 64) = false) && decide (accessFits k) && decide ((s.cis c).new = none) &&
       decide (kget 0 (s.cis c).minor (off / 64) < 127)) &&
    -- 2
    (let s : State := { up with dict := { ready := true, regs := [(elemKey 0x33F 0, 1), (elemKey 0x340 3, 1)] } }
     let c : CisIx := 31
     decide (s.reg 0x340 3 = 1) && decide ((s.cis c.val).new = none) && decide ((s.cis c.val).swept = false)) &&
    -- 3.1
    (let s : State := { up with cisterns := [(31, { new := some true })] }
     let c : CisIx := 31
     let n : Bool := true
     let x : Cistern := s.cis c.val
     let page : Nat := 2 ^ 18 * x.sweepRegion + x.sweepPage
     decide (x.new = some n) && decide (x.swept = false) && decide (s.sweepSkips c.val page)) &&
    -- 3.2
    (let s : State := { up with dict := { ready := true, regs := [(elemKey 0x33F 0, 1)] }, cisterns := [(31, { new := some true, minor := [(0, 5), (63, 127)] })] }
     let c : CisIx := 31
     let n : Bool := true
     let x : Cistern := s.cis c.val
     let page : Nat := 2 ^ 18 * x.sweepRegion + x.sweepPage
     decide (x.new = some n) && decide (x.swept = false) && decide (s.sweepSkips c.val page = false) &&
       decide (kget false x.moved page = false) && decide (x.firstBad page none = none)) &&
    -- 4
    (let s : State := { up with dict := { ready := true, regs := [(elemKey 0x33F 0, 1), (elemKey 0x340 3, 1)] }, cisterns := (List.range 32).map fun c => (c, { new := some true, swept := true, key0 := some 5, key1 := some 7 }) }
     decide (s.reg 0x340 3 = 1) && ((List.range 32).all fun c => decide ((s.cis c).swept))) &&
    -- 5
    (let s : State := { up with cisterns := [(31, { fenced := [{ start := 0, len := 4096 }] })] }
     let c : CisIx := 31
     let i : Nat := 0
     let g : CRange := { start := 0, len := 4096 }
     decide ((s.cis c.val).fenced[i]? = some g) &&
       decide (¬ (s.dens.any fun p => p.2.extents.any fun e => e.kind == 2 && overlaps e.tbase e.len (2 ^ 37 * c.val + g.start) g.len))) &&
    -- 6
    (let s : State := { up with cisterns := [(31, { rebuilding := [{ start := 4096, len := 4096 }], minor := [(63, 1), (64, 1), (127, 1), (128, 1)] })] }
     let c : CisIx := 31
     let g : CRange := { start := 4096, len := 4096 }
     let gs : List CRange := []
     decide ((s.cis c.val).rebuilding = g :: gs))) = true := by decide +kernel

/-- Witnesses of `Obligations.ReservoirMemory`: values at which the hypotheses of each of its clauses hold together. -/
theorem wit_ReservoirMemory : (
    -- 
    (let s : State := { up with dict := { ready := true, regs := [(elemKey 0x33F 0, 1)] } }
     let a : BitVec 42 := 2 ^ 42 - 2 ^ 37
     let k : Access := .write 63 [9]
     let c : Nat := a.toNat / 2 ^ 37 % 32
     let line : Nat := a.toNat % 2 ^ 37 / 64
     match accessLine k ((s.cis c).lineBytes line) with
     | none => false
     | some l =>
     decide (64 * line < cisBytes) && decide (s.reg 0x340 8 ≠ 1) && decide (s.reg (0x320 + c) 0 = 1) &&
       decide ((((s.cis c).fenced ++ (s.cis c).rebuilding ++ (s.cis c).retired).any fun r => r.start ≤ 64 * line && 64 * line < r.start + r.len) = false) &&
       decide (kget false (s.cis c).corrupt line = false) && decide ((s.cis c).new = none) &&
       decide (kget 0 (s.cis c).minor line < 127) && decide (accessFits k) && decide (l.length = 64))) = true := by decide +kernel

/-- Witnesses of `Obligations.ResetEnds`: values at which the hypotheses of each of its clauses hold together. -/
theorem wit_ResetEnds : (
    -- 1.1
    (let i : Nat := 1
     let x : Reset := { dom := .engine (.link 31), cause := 5 }
     let s : State := { up with repair := { up.repair with resets := [{ dom := .chip, cause := 0 }, x] } }
     let e := (.link 31 : EngineIx)
     decide (s.repair.resets[i]? = some x) && decide (x.draining) && decide (x.dom = .engine e)) &&
    -- 1.2
    (let i : Nat := 1
     let x : Reset := { dom := .half .east, cause := 5 }
     let s : State := { up with repair := { up.repair with resets := [{ dom := .chip, cause := 0 }, x] } }
     let h := (.east : Half)
     decide (s.repair.resets[i]? = some x) && decide (x.draining) && decide (x.dom = .half h)) &&
    -- 1.3
    (let i : Nat := 1
     let x : Reset := { dom := .den 3, cause := 5 }
     let s : State := { withDen (den1 .faulted) with repair := { up.repair with resets := [{ dom := .chip, cause := 0 }, x] } }
     let n := 3
     decide (s.repair.resets[i]? = some x) && decide (x.draining) && decide (x.dom = .den n)) &&
    -- 1.4
    (let i : Nat := 1
     let x : Reset := { dom := .module, cause := 5 }
     let s : State := { up with repair := { up.repair with resets := [{ dom := .chip, cause := 0 }, x] } }
     decide (s.repair.resets[i]? = some x) && decide (x.draining) && decide (x.dom = .module)) &&
    -- 1.5
    (let i : Nat := 0
     let x : Reset := { dom := .chip, cause := 5 }
     let s : State := { up with chip := { phase := .ready, resetTimes := [1, 2] }, repair := { up.repair with resets := [x] } }
     let ms : BitVec 32 := 60001
     decide (s.repair.resets[i]? = some x) && decide (x.draining) && decide (x.dom = .chip) && decide (x.counted) &&
       decide (2 ≤ (s.chip.resetTimes.filter fun t => decide (ms.toNat ≤ t + 60000)).length)) &&
    -- 1.6
    (let i : Nat := 0
     let x : Reset := { dom := .chip, cause := 5 }
     let s : State := { withDen (den1 .faulted) with repair := { up.repair with resets := [x] } }
     decide (s.repair.resets[i]? = some x) && decide (x.draining) && decide (x.dom = .chip) && decide (x.counted) &&
       decide (s.chip.resetTimes = []) && decide (s.chip.resequence = false) && decide (s.chip.perst = false)) &&
    -- 2.1
    (let i : Nat := 0
     let x : Reset := { dom := .den 3, cause := 5, draining := false }
     let s : State := { up with repair := { up.repair with resets := [x] } }
     let n := 3
     decide (s.repair.resets[i]? = some x) && decide (x.draining = false) && decide (x.dom = .den n)) &&
    -- 2.2
    (let i : Nat := 0
     let x : Reset := { dom := .engine (.link 31), cause := 5, draining := false }
     let s : State := { up with repair := { up.repair with resets := [x] } }
     let e := (.link 31 : EngineIx)
     decide (s.repair.resets[i]? = some x) && decide (x.draining = false) && decide (x.dom = .engine e)) &&
    -- 2.3
    (let i : Nat := 0
     let f : HalfFacts := {}
     let x : Reset := { dom := .half .east, cause := 5, draining := false }
     let s : State := { up with repair := { up.repair with resets := [x] } }
     let h := (.east : Half)
     decide (s.repair.resets[i]? = some x) && decide (x.draining = false) && decide (x.dom = .half h) &&
       decide ((s.returnHalf h f).settShort h = false)) &&
    -- 3.1
    (let i : Nat := 0
     let x : Reset := { dom := .half .east, cause := 5 }
     let s : State := { up with repair := { up.repair with resets := [x] } }
     let h := (.east : Half)
     decide (s.repair.resets[i]? = some x) && decide (s.chip.phase = .ready) && decide (x.dom = .half h)) &&
    -- 3.2
    (let i : Nat := 0
     let x : Reset := { dom := .chip, cause := 5 }
     let s : State := { up with repair := { up.repair with resets := [x] } }
     decide (s.repair.resets[i]? = some x) && decide (s.chip.phase = .ready) && decide (x.dom = .chip)) &&
    -- 4
    (let s : State := { chip := { phase := .boot 6 } }
     let n : Nat := 6
     decide (s.chip.phase = .boot n) && decide (s.resetRuns .chip = false))) = true := by decide +kernel

/-- Witnesses of `Obligations.ResetRequests`: values at which the hypotheses of each of its clauses hold together. -/
theorem wit_ResetRequests : (
    -- 1.1.1
    (let s : State := asked (withDen (den1 .running)) 8
     let v : List Byte := pack [(1, 1), (1, 0), (2, 3), (4, 0)]
     let q : Req := wr 0x3000 7 v
     let n := 3
     let s' : State := s.beginReq q v
     let d : ResetDom := .den n
     decide (s.serves q 0x3000 7 v) && decide (s'.parseReset v = .ok d) && decide (natAt v 0 1 = 1) &&
       decide ((s'.den n).phase = .running ∨ (s'.den n).phase = .frozen)) &&
    -- 1.1.2
    (let v : List Byte := pack [(1, 1), (1, 0), (2, 3), (4, 0)]
     let q : Req := wr 0x3000 7 v
     let n := 3
     let s : State := asked (withDen (den1 .faulted)) 8
     let s' : State := s.beginReq q v
     let d : ResetDom := .den n
     decide (s.serves q 0x3000 7 v) && decide (s'.parseReset v = .ok d) && decide (natAt v 0 1 = 1) &&
       decide ((s'.den n).phase = .faulted)) &&
    -- 1.2.1
    (let s : State := asked up 8
     let v : List Byte := pack [(1, 2), (1, 0), (2, 0), (4, 0)]
     let q : Req := wr 0x3000 7 v
     let s' : State := s.beginReq q v
     match s'.parseReset v with
     | .error _ => false
     | .ok d =>
     decide (s.serves q 0x3000 7 v) && decide (s'.resetRuns d = false) && decide (natAt v 0 1 = 2)) &&
    -- 1.2.2
    (let s : State := asked up 8
     let v : List Byte := pack [(1, 3), (1, 1), (2, 0), (4, 0)]
     let q : Req := wr 0x3000 7 v
     let h := (.east : Half)
     let s' : State := s.beginReq q v
     let d : ResetDom := .half h
     decide (s.serves q 0x3000 7 v) && decide (s'.parseReset v = .ok d) && decide (s'.resetRuns d = false) &&
       decide (natAt v 0 1 = 3)) &&
    -- 1.2.3
    (let s : State := asked up 8
     let v : List Byte := pack [(1, 4), (1, 0), (2, 0), (4, 0)]
     let q : Req := wr 0x3000 7 v
     let s' : State := s.beginReq q v
     match s'.parseReset v with
     | .error _ => false
     | .ok d =>
     decide (s.serves q 0x3000 7 v) && decide (s'.resetRuns d = false) && decide (natAt v 0 1 = 4)) &&
    -- 1.2.4
    (let s : State := asked up 8
     let v : List Byte := pack [(1, 5), (1, 0), (2, 0), (4, 0)]
     let q : Req := wr 0x3000 7 v
     let s' : State := s.beginReq q v
     match s'.parseReset v with
     | .error _ => false
     | .ok d =>
     decide (s.serves q 0x3000 7 v) && decide (s'.resetRuns d = false) && decide (natAt v 0 1 = 5)) &&
    -- 2
    (let s : State := { up with chip := { phase := .ready, due := some 0x1205 } }
     let c : Code := 0x1205
     decide (s.chip.due = some c) && decide (s.resetRuns .chip = false)) &&
    -- 3
    (let s : State := net.modLink 31 fun x => { x with held := [{ by_ := .engine, frame := frm 0 1 { kind := 5 } }] }
     let l : LinkIx := 31
     decide (s.linkUp l.val) && decide ((s.link l.val).held ≠ [])) &&
    -- 4
    (let s : State := up
     let p : Fin 132 := 131
     let r : Fin 64 := 63
     decide (s.chip.phase = .ready) && decide (s.repair.dead.contains (p.val, r.val) = false)) &&
    -- 5.1
    (let s : State := up
     let c : Fin 4 := 3
     decide (s.settBooted) && decide (s.repair.halted.contains c.val = false) && decide (coreHalf c.val ≠ s.primaryHalf)) &&
    -- 5.2
    (let s : State := up
     let c : Fin 4 := 1
     decide (s.settBooted) && decide (s.repair.halted.contains c.val = false) && decide (coreHalf c.val = s.primaryHalf))) = true := by decide +kernel

/-- Witnesses of `Obligations.ScalarSlot`: values at which the hypotheses of each of its clauses hold together. -/
theorem wit_ScalarSlot : (
    -- 1
    (let s : State := issuing { v := [(2, 0x3FF8000000000000), (3, 0x4004000000000000)], s := [(0, 5), (1, 2 ^ 63)], p := [(2, 0xFF)] }
     let t : TileIx := 0
     let slot : Nat := 3
     match s.opens t slot .stored with
     | none => false
     | some u =>
     let f : VFields := { vd := 1, s1 := 80, s2 := 81, s3 := 0, ty := 4, rnd := 0 }
     decide (s.ready u t slot) && decide (VOp.sadd.bad f = false)) &&
    -- 2
    (let s : State := issuing { v := [(2, 0x3FF8000000000000), (3, 0x4004000000000000)], s := [(0, 5), (1, 2 ^ 63)], p := [(2, 0xFF)] }
     let t : TileIx := 0
     let slot : Nat := 3
     match s.opens t slot .stored with
     | none => false
     | some u =>
     let f : VFields := { vd := 1, s1 := 80, s2 := 81, s3 := 0, ty := 4, rnd := 0 }
     decide (s.ready u t slot) && decide (VOp.ssub.bad f = false)) &&
    -- 3
    (let s : State := issuing { v := [(2, 0x3FF8000000000000), (3, 0x4004000000000000)], s := [(0, 5), (1, 2 ^ 63)], p := [(2, 0xFF)] }
     let t : TileIx := 0
     let slot : Nat := 3
     match s.opens t slot .stored with
     | none => false
     | some u =>
     let f : VFields := { vd := 1, s1 := 80, s2 := 81, s3 := 0, ty := 4, rnd := 0 }
     decide (s.ready u t slot) && decide (VOp.smul.bad f = false)) &&
    -- 4
    (let s : State := issuing { v := [(2, 0x3FF8000000000000), (3, 0x4004000000000000)], s := [(0, 5), (1, 2 ^ 63)], p := [(2, 0xFF)] }
     let t : TileIx := 0
     let slot : Nat := 3
     match s.opens t slot .stored with
     | none => false
     | some u =>
     let f : VFields := { vd := 1, s1 := 80, s2 := 81, s3 := 0, ty := 4, rnd := 0 }
     decide (s.ready u t slot) && decide (VOp.sand.bad f = false)) &&
    -- 5
    (let s : State := issuing { v := [(2, 0x3FF8000000000000), (3, 0x4004000000000000)], s := [(0, 5), (1, 2 ^ 63)], p := [(2, 0xFF)] }
     let t : TileIx := 0
     let slot : Nat := 3
     match s.opens t slot .stored with
     | none => false
     | some u =>
     let f : VFields := { vd := 1, s1 := 80, s2 := 81, s3 := 0, ty := 4, rnd := 0 }
     decide (s.ready u t slot) && decide (VOp.sor.bad f = false)) &&
    -- 6
    (let s : State := issuing { v := [(2, 0x3FF8000000000000), (3, 0x4004000000000000)], s := [(0, 5), (1, 2 ^ 63)], p := [(2, 0xFF)] }
     let t : TileIx := 0
     let slot : Nat := 3
     match s.opens t slot .stored with
     | none => false
     | some u =>
     let f : VFields := { vd := 1, s1 := 80, s2 := 81, s3 := 0, ty := 4, rnd := 0 }
     decide (s.ready u t slot) && decide (VOp.sxor.bad f = false)) &&
    -- 7
    (let s : State := issuing { v := [(2, 0x3FF8000000000000), (3, 0x4004000000000000)], s := [(0, 5), (1, 2 ^ 63)], p := [(2, 0xFF)] }
     let t : TileIx := 0
     let slot : Nat := 3
     match s.opens t slot .stored with
     | none => false
     | some u =>
     let f : VFields := { vd := 1, s1 := 80, s2 := 81, s3 := 0, ty := 4, rnd := 0 }
     decide (s.ready u t slot) && decide (VOp.sshl.bad f = false)) &&
    -- 8
    (let s : State := issuing { v := [(2, 0x3FF8000000000000), (3, 0x4004000000000000)], s := [(0, 5), (1, 2 ^ 63)], p := [(2, 0xFF)] }
     let t : TileIx := 0
     let slot : Nat := 3
     match s.opens t slot .stored with
     | none => false
     | some u =>
     let f : VFields := { vd := 1, s1 := 80, s2 := 81, s3 := 0, ty := 4, rnd := 0 }
     decide (s.ready u t slot) && decide (VOp.sshr.bad f = false)) &&
    -- 9
    (let s : State := issuing { v := [(2, 0x3FF8000000000000), (3, 0x4004000000000000)], s := [(0, 5), (1, 2 ^ 63)], p := [(2, 0xFF)] }
     let t : TileIx := 0
     let slot : Nat := 3
     match s.opens t slot .stored with
     | none => false
     | some u =>
     let f : VFields := { vd := 1, s1 := 80, s2 := 81, s3 := 0, ty := 4, rnd := 0 }
     decide (s.ready u t slot) && decide (VOp.saddi.bad f = false)) &&
    -- 10
    (let s : State := issuing { v := [(2, 0x3FF8000000000000), (3, 0x4004000000000000)], s := [(0, 5), (1, 2 ^ 63)], p := [(2, 0xFF)] }
     let t : TileIx := 0
     let slot : Nat := 3
     match s.opens t slot .stored with
     | none => false
     | some u =>
     let f : VFields := { vd := 1, s1 := 0, s2 := 127, s3 := 127, ty := 4, rnd := 0 }
     decide (s.ready u t slot) && decide (VOp.sli.bad f = false)) &&
    -- 11
    (let s : State := issuing { v := [(2, 0x3FF8000000000000), (3, 0x4004000000000000)], s := [(0, 5), (1, 2 ^ 63)], p := [(2, 0xFF)] }
     let t : TileIx := 0
     let slot : Nat := 3
     match s.opens t slot .stored with
     | none => false
     | some u =>
     let f : VFields := { vd := 1, s1 := 0, s2 := 127, s3 := 127, ty := 4, rnd := 0 }
     decide (s.ready u t slot) && decide (VOp.slui.bad f = false)) &&
    -- 12.1
    (let s : State := issuing { v := [(2, 0x3FF8000000000000), (3, 0x4004000000000000)], s := [(0, 5), (1, 2 ^ 63)], p := [(2, 0xFF)] }
     let t : TileIx := 0
     let slot : Nat := 3
     match s.opens t slot .stored with
     | none => false
     | some u =>
     let f : VFields := { vd := 1, s1 := 2, s2 := 3, s3 := 0, ty := 4, rnd := 0 }
     decide (s.ready u t slot) && decide (VOp.smovv.bad f = false) && decide (f.s1.toNat < 0x40)) &&
    -- 12.2
    (let s : State := issuing { v := [(2, 0x3FF8000000000000), (3, 0x4004000000000000)], s := [(0, 5), (1, 2 ^ 63)], p := [(2, 0xFF)] }
     let t : TileIx := 0
     let slot : Nat := 3
     match s.opens t slot .stored with
     | none => false
     | some u =>
     let f : VFields := { vd := 1, s1 := 80, s2 := 0, s3 := 0, ty := 4, rnd := 0 }
     decide (s.ready u t slot) && decide (VOp.smovv.bad f = false) && decide (0x40 ≤ f.s1.toNat) &&
       decide (f.s1.toNat < 0x50 ∨ f.s2.toNat % 8 = 0)) &&
    -- 12.3
    (let s : State := issuing { v := [(2, 0x3FF8000000000000), (3, 0x4004000000000000)], s := [(0, 5), (1, 2 ^ 63)], p := [(2, 0xFF)] }
     let t : TileIx := 0
     let slot : Nat := 3
     match s.opens t slot .stored with
     | none => false
     | some u =>
     let f : VFields := { vd := 1, s1 := 81, s2 := 3, s3 := 0, ty := 4, rnd := 0 }
     decide (s.ready u t slot) && decide (VOp.smovv.bad f = false) && decide (0x50 ≤ f.s1.toNat) && decide (f.s2.toNat % 8 ≠ 0)) &&
    -- 13.1
    (let s : State := issuing { v := [(2, 0x3FF8000000000000), (3, 0x4004000000000000)], s := [(0, 5), (1, 2 ^ 63)], p := [(2, 0xFF)] }
     let t : TileIx := 0
     let slot : Nat := 3
     match s.opens t slot .stored with
     | none => false
     | some u =>
     let f : VFields := { vd := 1, s1 := 80, s2 := 3, s3 := 0, ty := 4, rnd := 0 }
     decide (s.ready u t slot) && decide (VOp.smovs.bad f = false) && decide ((u.tile t.val).vecBusy = 0)) &&
    -- 14.1
    (let s : State := issuing { v := [(2, 0x3FF8000000000000), (3, 0x4004000000000000)], s := [(0, 5), (1, 2 ^ 63)], p := [(2, 0xFF)] }
     let t : TileIx := 0
     let slot : Nat := 3
     match s.opens t slot .stored with
     | none => false
     | some u =>
     let f : VFields := { vd := 1, s1 := 0, s2 := 0, s3 := 0, ty := 4, rnd := 0 }
     decide (s.ready u t slot) && decide (VOp.sstat.bad f = false) && decide (f.s1.toNat = 0)) &&
    -- 14.2
    (let s : State := issuing { v := [(2, 0x3FF8000000000000), (3, 0x4004000000000000)], s := [(0, 5), (1, 2 ^ 63)], p := [(2, 0xFF)] }
     let t : TileIx := 0
     let slot : Nat := 3
     match s.opens t slot .stored with
     | none => false
     | some u =>
     let f : VFields := { vd := 1, s1 := 1, s2 := 0, s3 := 0, ty := 4, rnd := 0 }
     decide (s.ready u t slot) && decide (VOp.sstat.bad f = false) && decide (f.s1.toNat = 1)) &&
    -- 14.3
    (let s : State := issuing { v := [(2, 0x3FF8000000000000), (3, 0x4004000000000000)], s := [(0, 5), (1, 2 ^ 63)], p := [(2, 0xFF)] }
     let t : TileIx := 0
     let slot : Nat := 3
     match s.opens t slot .stored with
     | none => false
     | some u =>
     let f : VFields := { vd := 1, s1 := 2, s2 := 0, s3 := 0, ty := 4, rnd := 0 }
     decide (s.ready u t slot) && decide (VOp.sstat.bad f = false) && decide (f.s1.toNat = 2)) &&
    -- 14.4
    (let s : State := issuing { v := [(2, 0x3FF8000000000000), (3, 0x4004000000000000)], s := [(0, 5), (1, 2 ^ 63)], p := [(2, 0xFF)] }
     let t : TileIx := 0
     let slot : Nat := 3
     match s.opens t slot .stored with
     | none => false
     | some u =>
     let f : VFields := { vd := 1, s1 := 3, s2 := 0, s3 := 0, ty := 4, rnd := 0 }
     let x : Snap := u.snap t slot
     decide (s.ready u t slot) && decide (VOp.sstat.bad f = false) && decide (f.s1.toNat = 3) && decide (x.den.rect.span < 2 ^ 64)) &&
    -- 14.5
    (let s : State := issuing { v := [(2, 0x3FF8000000000000), (3, 0x4004000000000000)], s := [(0, 5), (1, 2 ^ 63)], p := [(2, 0xFF)] }
     let t : TileIx := 0
     let slot : Nat := 3
     match s.opens t slot .stored with
     | none => false
     | some u =>
     let f : VFields := { vd := 1, s1 := 4, s2 := 0, s3 := 0, ty := 4, rnd := 0 }
     decide (s.ready u t slot) && decide (VOp.sstat.bad f = false) && decide (f.s1.toNat = 4)) &&
    -- 14.6
    (let s : State := issuing { v := [(2, 0x3FF8000000000000), (3, 0x4004000000000000)], s := [(0, 5), (1, 2 ^ 63)], p := [(2, 0xFF)] }
     let t : TileIx := 0
     let slot : Nat := 3
     match s.opens t slot .stored with
     | none => false
     | some u =>
     let f : VFields := { vd := 1, s1 := 5, s2 := 0, s3 := 0, ty := 4, rnd := 0 }
     decide (s.ready u t slot) && decide (VOp.sstat.bad f = false) && decide (f.s1.toNat = 5)) &&
    -- 15
    (let s : State := issuing { v := [(2, 0x3FF8000000000000), (3, 0x4004000000000000)], s := [(0, 5), (1, 2 ^ 63)], p := [(2, 0xFF)] }
     let t : TileIx := 0
     let slot : Nat := 3
     match s.opens t slot .stored with
     | none => false
     | some u =>
     let f : VFields := { vd := 1, s1 := 80, s2 := 81, s3 := 0, ty := 4, rnd := 0 }
     decide (s.ready u t slot) && decide (VOp.scmpeq.bad f = false)) &&
    -- 16
    (let s : State := issuing { v := [(2, 0x3FF8000000000000), (3, 0x4004000000000000)], s := [(0, 5), (1, 2 ^ 63)], p := [(2, 0xFF)] }
     let t : TileIx := 0
     let slot : Nat := 3
     match s.opens t slot .stored with
     | none => false
     | some u =>
     let f : VFields := { vd := 1, s1 := 80, s2 := 81, s3 := 0, ty := 4, rnd := 0 }
     decide (s.ready u t slot) && decide (VOp.scmplt.bad f = false)) &&
    -- 17
    (let s : State := issuing { v := [(2, 0x3FF8000000000000), (3, 0x4004000000000000)], s := [(0, 5), (1, 2 ^ 63)], p := [(2, 0xFF)] }
     let t : TileIx := 0
     let slot : Nat := 3
     match s.opens t slot .stored with
     | none => false
     | some u =>
     let f : VFields := { vd := 1, s1 := 1, s2 := 0, s3 := 0, ty := 4, rnd := 0 }
     decide (s.ready u t slot) && decide (VOp.pset.bad f = false)) &&
    -- 18
    (let s : State := issuing { v := [(2, 0x3FF8000000000000), (3, 0x4004000000000000)], s := [(0, 5), (1, 2 ^ 63)], p := [(2, 0xFF)] }
     let t : TileIx := 0
     let slot : Nat := 3
     match s.opens t slot .stored with
     | none => false
     | some u =>
     let f : VFields := { vd := 1, s1 := 2, s2 := 2, s3 := 0, ty := 4, rnd := 0 }
     decide (s.ready u t slot) && decide (VOp.pand.bad f = false)) &&
    -- 19
    (let s : State := issuing { v := [(2, 0x3FF8000000000000), (3, 0x4004000000000000)], s := [(0, 5), (1, 2 ^ 63)], p := [(2, 0xFF)] }
     let t : TileIx := 0
     let slot : Nat := 3
     match s.opens t slot .stored with
     | none => false
     | some u =>
     let f : VFields := { vd := 1, s1 := 2, s2 := 2, s3 := 0, ty := 4, rnd := 0 }
     decide (s.ready u t slot) && decide (VOp.por.bad f = false)) &&
    -- 20
    (let s : State := issuing { v := [(2, 0x3FF8000000000000), (3, 0x4004000000000000)], s := [(0, 5), (1, 2 ^ 63)], p := [(2, 0xFF)] }
     let t : TileIx := 0
     let slot : Nat := 3
     match s.opens t slot .stored with
     | none => false
     | some u =>
     let f : VFields := { vd := 1, s1 := 2, s2 := 0, s3 := 0, ty := 4, rnd := 0 }
     decide (s.ready u t slot) && decide (VOp.pnot.bad f = false))) = true := by decide +kernel

/-- Witnesses of `Obligations.ScratchpadBytes`: values at which the hypotheses of each of its clauses hold together. -/
theorem wit_ScratchpadBytes : (
    -- 1
    (let mask : Nat := 5
     let i := 2
     decide (mask.testBit i)) &&
    -- 2
    (let mask : Nat := 5
     let bs : List Byte := [7, 8, 0]
     let i := 1
     decide (i < bs.length) && decide (mask.testBit i = false)) &&
    -- 3
    (let a : Nat := 3
     let bs : List Byte := [7, 8, 0]
     let b := 6
     decide (b < a ∨ a + bs.length ≤ b)) &&
    -- 4
    (let m : KMap Byte := [(4, 1)]
     decide (kcanon 0 m = true))) = true := by decide +kernel

/-- Witnesses of `Obligations.SenderTransactions`: values at which the hypotheses of each of its clauses hold together. -/
theorem wit_SenderTransactions : (
    -- 1.1
    (let l : LinkIx := 31
     let t : Tx := { tag := 65535, slot := 3, who := .copyOut 0, job := 7, peer := 9, gen := 1, msg := { kind := 0 } }
     let s : State := (netRx { kind := 1, tag := 65535, arg := kBusy.toNat, payload := [0] }).modLink 31 fun x => { x with txs := [t] }
     match s.takeRx l.val (fun f => frameKind f == 1) with
     | none => false
     | some (f, s1) =>
     decide ((s1.link l.val).txs.find? (fun t => t.tag == frameTag f && t.job == frameJob f && t.peer == frameSrc f) = some t) &&
       decide (f.payload.length ≠ (if frameArg f = 0 then rspBytes t.msg else 0))) &&
    -- 1.2
    (let l : LinkIx := 31
     let t : Tx := { tag := 65535, slot := 3, who := .copyOut 0, job := 7, peer := 9, gen := 1, msg := { kind := 0 } }
     let s : State := (netRx { kind := 1, tag := 65535, arg := kBusy.toNat }).modLink 31 fun x => { x with txs := [t] }
     match s.takeRx l.val (fun f => frameKind f == 1) with
     | none => false
     | some (f, s1) =>
     decide ((s1.link l.val).txs.find? (fun t => t.tag == frameTag f && t.job == frameJob f && t.peer == frameSrc f) = some t) &&
       decide (f.payload = []) && decide (frameArg f = kBusy.toNat)) &&
    -- 1.3
    (let l : LinkIx := 31
     let t : Tx := { tag := 0, slot := 3, who := .copyOut 0, job := 7, peer := 9, gen := 1, msg := { kind := 0 } }
     let s : State := (netRx { kind := 1, tag := 0, arg := 0x0D01 }).modLink 31 fun x => { x with txs := [t] }
     match s.takeRx l.val (fun f => frameKind f == 1) with
     | none => false
     | some (f, s1) =>
     decide ((s1.link l.val).txs.find? (fun t => t.tag == frameTag f && t.job == frameJob f && t.peer == frameSrc f) = some t) &&
       decide (f.payload.length = (if frameArg f = 0 then rspBytes t.msg else 0)) && decide (frameArg f ≠ kBusy.toNat)) &&
    -- 2.1
    (let l : LinkIx := 31
     let tx : Nat := 0
     let t : Tx := { tag := 0, slot := 3, who := .copyOut 0, job := 7, peer := 9, gen := 1, msg := { kind := 0 }, busy := true }
     let s : State := { net.modLink 31 fun x => { x with txs := [t] } with dens := [(3, {})] }
     match s.linkTo t.peer t.job t.msg.rwin (.den t.slot) with
     | .ok _ => false
     | .error _ =>
     decide (((s.link l.val).txs.find? fun t => t.tag == tx && t.busy) = some t)) &&
    -- 2.2.1
    (let tx : Nat := 0
     let t : Tx := { tag := 0, slot := 3, who := .copyOut 0, job := 7, peer := 9, gen := 1, msg := { kind := 0 }, busy := true }
     let s : State := { (net.modLink 30 fun x => { x with txs := [t] }).modLink 31 fun x => { x with txs := [{ t with tag := 1 }] } with dens := [(3, { linkBudget := [(31, 1)] })] }
     let l : LinkIx := 30
     let o : Nat := 31
     let mac : BitVec 48 := macOf 9 31
     decide (((s.link l.val).txs.find? fun t => t.tag == tx && t.busy) = some t) &&
       decide (s.linkTo t.peer t.job t.msg.rwin (.den t.slot) = .ok (o, mac)) && decide (o ≠ l.val) &&
       decide (t.peer ≠ s.endpoint) && decide (s.linkRoom o t.slot = false)) &&
    -- 2.2.2
    (let l : LinkIx := 31
     let tx : Nat := 0
     let t : Tx := { tag := 0, slot := 3, who := .copyOut 0, job := 7, peer := 9, gen := 1, msg := { kind := 0 }, busy := true }
     let s : State := { net.modLink 31 fun x => { x with txs := [t] } with dens := [(3, { linkBudget := [(31, 2)] })] }
     let o : Nat := 31
     let mac : BitVec 48 := macOf 9 31
     let u : Tx := ((s.bump 0x0C01 4).moveTx l.val o { t with busy := false }).1
     let s2 : State := ((s.bump 0x0C01 4).moveTx l.val o { t with busy := false }).2
     match s2.pair u.job u.peer with
     | none => false
     | some k =>
     match (s2.modLink o fun x => { x with txs := updFirst (·.tag == u.tag) (fun t => { t with busy := false, gen := k.gen }) x.txs }).sendOn o mac u.job u.peer (.den u.slot) false true u.msg with
     | .error _ => false
     | .ok _ =>
     decide (((s.link l.val).txs.find? fun t => t.tag == tx && t.busy) = some t) &&
       decide (s.linkTo t.peer t.job t.msg.rwin (.den t.slot) = .ok (o, mac)) &&
       decide (o = l.val ∨ t.peer = s.endpoint ∨ s.linkRoom o t.slot)) &&
    -- 3.1
    (let l : LinkIx := 31
     let tx : Nat := 0
     let t : Tx := { tag := 0, slot := 3, who := .copyOut 0, job := 7, peer := 9, gen := 1, msg := { kind := 0 } }
     let s : State := net.modLink 31 fun x => { x with txs := [t] }
     decide ((s.link l.val).txs.find? (·.tag == tx) = some t) && decide (s.txWaits l.val t = false)) &&
    -- 3.2
    (let l : LinkIx := 31
     let tx : Nat := 0
     let t : Tx := { tag := 0, slot := 3, who := .copyOut 0, job := 7, peer := 9, gen := 1, msg := { kind := 0 } }
     let s : State := (fun (s : State) => ({ s with fab := { s.fab with waits := [{ job := 7, peer := 9, by_ := .den 3, link := 31, msg := { kind := 0 }, tx := true }] } } : State)) (net.modLink 31 fun x => { x with txs := [t] })
     decide ((s.link l.val).txs.find? (·.tag == tx) = some t) && decide (s.txWaits l.val t))) = true := by decide +kernel

/-- Witnesses of `Obligations.SlipEvents`: values at which the hypotheses of each of its clauses hold together. -/
theorem wit_SlipEvents : (
    -- 1
    (let t : TileIx := 0
     let d : Dir := .west
     let slot : Nat := 3
     let v : RelayVal := { dest := 0, latch := .west, ready := 0, val := 7 }
     let s : State := waving { transit := [v] } [(0, { latches := [(dirIx .west, [{ val := 1 }, { val := 2 }, { val := 3 }])] })]
     decide (s.slotOf t.val = some slot) && decide ((s.den slot).wave.transit.find? (nextIn (s.den slot).wave t.val d) = some v) &&
       decide (v.ready ≤ (s.tile t.val).bundle) && decide ((s.tile t.val).fenced = false) &&
       decide ((kget [] (s.tile t.val).latches (dirIx d)).length < 4)) &&
    -- 2
    (let t : TileIx := 1
     let came : Dir := .west
     let slot : Nat := 3
     let g : Signal := sig1 1 .west .freeze
     let s : State := waving { signals := [g] } [(1, { phase := .running })]
     decide (s.slotOf t.val = some slot) &&
       decide ((s.den slot).wave.signals.find? (fun g => g.dest == t.val && g.came == came && g.sig == .freeze) = some g) &&
       decide ((s.tile t.val).frozen = none) && decide ((s.den slot).wave.toResume.contains t.val = false) &&
       decide (g.at' ≤ (s.den slot).cycle t.val (s.tile t.val))) &&
    -- 3
    (let t : TileIx := 0
     let slot : Nat := 3
     let g : Signal := { dest := 0, came := .east, at' := 3, sig := .clear }
     let f : Frozen := { since := 9 }
     let s : State := waving { signals := [g] } [(0, { frozen := some f })]
     decide (s.slotOf t.val = some slot) &&
       decide ((s.den slot).wave.signals.find? (fun g => g.dest == t.val && g.came == .east && (match g.sig with | .clear => true | .error _ _ _ => true | _ => false)) = some g) &&
       decide (g.sig = .clear) && decide ((s.tile t.val).frozen = some f)) &&
    -- 4
    (let i : SlotIx := 3
     let waited : Nat := 4
     let a : Nat := 9
     let b : Nat := 5
     let s : State := waving { sources := [{ tile := 0, cause := 1, tag := 2, bundle := 3, reach := 4 }], clearAt := some a, freezeAt := some b } []
     decide ((s.den i.val).phase = .running) && decide ((s.den i.val).wave.stopping = false) &&
       decide ((s.den i.val).wave.sources ≠ []) && decide ((s.den i.val).wave.clearAt = some a) &&
       decide ((s.den i.val).wave.freezeAt = some b) && decide (a ≤ b + waited)) &&
    -- 5
    (let s : State := waving { resuming := true, toResume := [1, 2] } [(1, { frozen := some {} })]
     let t : TileIx := 1
     let slot : Nat := 3
     let f : Frozen := {}
     let n : Nat := 0
     decide (s.slotOf t.val = some slot) && decide ((s.tile t.val).frozen = some f) && decide (f.resumed = false) &&
       decide ((s.den slot).wave.toResume.contains t.val) && decide ((s.den slot).rect.next t.val .west = some n) &&
       decide ((s.den slot).wave.toResume.contains n = false)) &&
    -- 6
    (let s : State := waving { resuming := true } [(0, { frozen := some { resumed := true } })]
     let t : TileIx := 0
     let slot : Nat := 3
     let f : Frozen := { resumed := true }
     decide (s.slotOf t.val = some slot) && decide ((s.tile t.val).frozen = some f) && decide (f.resumed = true) &&
       decide ((s.den slot).wave.transit = [])) &&
    -- 7.1
    (let s : State := waving { sources := [{ tile := 0, cause := 1, tag := 2, bundle := 3, reach := 4 }] } [(0, { frozen := some {} })]
     let i : SlotIx := 3
     decide ((s.den i.val).phase = .running) && decide ((s.den i.val).wave.stopping = false) &&
       decide (((s.den i.val).rect.tiles.any fun t => (s.tile t).frozen.any fun f => !f.resumed)) &&
       decide ((s.den i.val).wave.sources ≠ [])) &&
    -- 7.2
    (let s : State := waving { toResume := [0], ended := ([{ tile := 0, cause := 1, tag := 2, bundle := 3, reach := 4 }], 5) } [(0, { frozen := some {} })]
     let i : SlotIx := 3
     decide ((s.den i.val).phase = .running) && decide ((s.den i.val).wave.stopping = false) &&
       decide (((s.den i.val).rect.tiles.any fun t => (s.tile t).frozen.any fun f => !f.resumed)) &&
       decide ((s.den i.val).wave.sources = []) && decide ((s.den i.val).wave.ended.1 ≠ [])) &&
    -- 8.1
    (let s : State := { up with seam := { up.seam with trained := true, follow := true } }
     let p : Rat := -5 / 2
     let d : Int := Int.tdiv p.num p.den
     decide (s.seam.trained) && decide (s.seam.follow) && decide (s.seam.stretched = none) && decide (d ≠ 0) &&
       decide (d.natAbs ≤ 2)) &&
    -- 8.2
    (let s : State := { up with seam := { up.seam with trained := true, follow := true } }
     let p : Rat := 99 / 100
     let d : Int := Int.tdiv p.num p.den
     decide (s.seam.trained) && decide (s.seam.follow = false ∨ d = 0 ∨ (s.seam.stretched ≠ none ∧ d.natAbs ≤ 2)) &&
       decide ((s.seam.stretched = some .east → 0 < p)) && decide ((s.seam.stretched = some .west → p < 0))) &&
    -- 9
    (let s : State := { up with seam := { up.seam with stretched := some .west } }
     let h : Half := .west
     decide (s.seam.stretched = some h)) &&
    -- 10
    (let s : State := { chip := { phase := .boot 3 } }
     decide (s.chip.phase = .boot 2 ∨ s.chip.phase = .boot 3) && decide (s.seam.trained = false))) = true := by decide +kernel

/-- Witnesses of `Obligations.StepRunsFront`: values at which the hypotheses of each of its clauses hold together. -/
theorem wit_StepRunsFront : (
    -- 2
    (let s : State := up
     decide (s.pending = []))) = true := by decide +kernel

/-- Witnesses of `Obligations.StreamControl`: values at which the hypotheses of each of its clauses hold together. -/
theorem wit_StreamControl : (
    -- 1
    (let s : State := bundling 0 255 0 0 { addr := 0xFFF }
     let t : TileIx := 0
     let slot : Nat := 3
     match s.opens t slot .stored with
     | none => false
     | some u =>
     let x : Tile := s.tile t.val
     let b : Bundle := x.fetch
     decide (x.idle = 0) && decide (throttled (s.den slot) t.val x = false) && decide (s.clean u t slot .stored) &&
       decide (b.ctl < 7) && decide (b.ctl = 0)) &&
    -- 2
    (let s : State := bundling 1 4 0xFFF 0
     let t : TileIx := 0
     let slot : Nat := 3
     match s.opens t slot .stored with
     | none => false
     | some u =>
     let x : Tile := s.tile t.val
     let b : Bundle := x.fetch
     decide (x.idle = 0) && decide (throttled (s.den slot) t.val x = false) && decide (s.clean u t slot .stored) &&
       decide (b.ctl < 7) && decide (b.ctl = 1)) &&
    -- 3
    (let s : State := bundling 2 0 0xFFF 0
     let t : TileIx := 0
     let slot : Nat := 3
     match s.opens t slot .stored with
     | none => false
     | some u =>
     let x : Tile := s.tile t.val
     let b : Bundle := x.fetch
     decide (x.idle = 0) && decide (throttled (s.den slot) t.val x = false) && decide (s.clean u t slot .stored) &&
       decide (b.ctl < 7) && decide (b.ctl = 2)) &&
    -- 4
    (let s : State := bundling 3 0 0xFFF 0xFFFF
     let t : TileIx := 0
     let slot : Nat := 3
     match s.opens t slot .stored with
     | none => false
     | some u =>
     let x : Tile := s.tile t.val
     let b : Bundle := x.fetch
     decide (x.idle = 0) && decide (throttled (s.den slot) t.val x = false) && decide (s.clean u t slot .stored) &&
       decide (b.ctl < 7) && decide (b.ctl = 3)) &&
    -- 5
    (let s : State := bundling 4 0 0xFFF 0 { calls := [1, 2, 3, 4, 5, 6, 7] }
     let t : TileIx := 0
     let slot : Nat := 3
     match s.opens t slot .stored with
     | none => false
     | some u =>
     let x : Tile := s.tile t.val
     let b : Bundle := x.fetch
     decide (x.idle = 0) && decide (throttled (s.den slot) t.val x = false) && decide (s.clean u t slot .stored) &&
       decide (b.ctl < 7) && decide (b.ctl = 4)) &&
    -- 6
    (let s : State := bundling 5 0 0 0 { calls := [0x1000] }
     let c := 0x1000
     let cs := []
     let t : TileIx := 0
     let slot : Nat := 3
     match s.opens t slot .stored with
     | none => false
     | some u =>
     let x : Tile := s.tile t.val
     let b : Bundle := x.fetch
     decide (x.idle = 0) && decide (throttled (s.den slot) t.val x = false) && decide (s.clean u t slot .stored) &&
       decide (b.ctl < 7) && decide (b.ctl = 5) && decide (x.calls = c :: cs)) &&
    -- 7
    (let s : State := bundling 6 0 0 0
     let t : TileIx := 0
     let slot : Nat := 3
     match s.opens t slot .stored with
     | none => false
     | some u =>
     let x : Tile := s.tile t.val
     let b : Bundle := x.fetch
     decide (x.idle = 0) && decide (throttled (s.den slot) t.val x = false) && decide (s.clean u t slot .stored) &&
       decide (b.ctl < 7) && decide (b.ctl = 6))) = true := by decide +kernel

/-- Witnesses of `Obligations.StreamCycles`: values at which the hypotheses of each of its clauses hold together. -/
theorem wit_StreamCycles : (
    -- 1
    (let s : State := bundling 0 0 0 0 { idle := 255, landings := [{ left := 0, dest := .s 3, val := 9, mask := 1 }, { left := 1, dest := .v 3, val := 1, mask := 1 }] }
     let t : TileIx := 0
     let slot : Nat := 3
     match s.opens t slot .empty with
     | none => false
     | some u =>
     let x : Tile := s.tile t.val
     decide (x.opened = false) && decide (x.idle ≠ 0) && decide (throttled (s.den slot) t.val x = false) &&
       decide (s.clean u t slot .empty)) &&
    -- 2
    (let s : State := (bundling 0 0 0 0).modDen 3 fun d => { d with throttle := 16 }
     let t : TileIx := 0
     let slot : Nat := 3
     match s.opens t slot .throttle with
     | none => false
     | some u =>
     let x : Tile := s.tile t.val
     decide (x.opened = false) && decide (throttled (s.den slot) t.val x = true) && decide (s.clean u t slot .throttle)) &&
    -- 3
    (let s : State := waving {} [(0, { phase := .draining, landings := [{ left := 0, dest := .v 63, val := 5, mask := 4 }, { left := 1, dest := .v 3, val := 1, mask := 1 }], v := [(63, 1)] })]
     let t : TileIx := 0
     let slot : Nat := 3
     let x : Tile := s.tile t.val
     decide (s.slotOf t.val = some slot) && decide (x.phase = .draining) && decide (x.frozen = none) &&
       decide (x.fenced = false) && decide (votesIn (s.den slot) x) && decide (clashes x [] = false)) &&
    -- 4
    (let s : State := issuing { landings := [{ left := 0, dest := .v 3, val := 1, mask := 1 }] }
     let t : TileIx := 0
     let slot : Nat := 3
     match s.opens t slot .stored with
     | none => false
     | some u =>
     let x : Tile := s.tile t.val
     decide (x.opened = false) && decide (s.opens t slot (x.kindNow (s.den slot) t.val) = some u) &&
       decide ((x.landings.any fun l => l.left == 0) || (x.mats.any fun m => m.left == 0) || !(heldResults x (atHalt (s.den slot) t.val x)).isEmpty))) = true := by decide +kernel

/-- Witnesses of `Obligations.TamperAndSessions`: values at which the hypotheses of each of its clauses hold together. -/
theorem wit_TamperAndSessions : (
    -- 1
    (let s : State := { up with trust := { vault := some { deviceId := [1], sealing := [] }, alias_ := some [1], sessions := [{ id := 0, tr := .doe }] } }
     let ev : Fin 5 := 3
     decide (s.aonRuns) && decide (s.trust.tampered = false) &&
       decide (ev.val ≠ 4 ∨ s.lifecycle = 1 ∨ s.lifecycle = 2 ∨ s.lifecycle = 4)) &&
    -- 2.1
    (let s : State := up
     let tr : SpdmTransport := .mctp
     decide (s.spdmUp tr) && decide (s.lifecycle ≠ 4)) &&
    -- 2.2
    (let s : State := { up with trust := { sessions := [{ id := 0, tr := .doe }, { id := 1, tr := .mctp }, { id := 2, tr := .mctp }, { id := 3, tr := .mctp }], nextSession := 4 } }
     let tr : SpdmTransport := .mctp
     decide (s.spdmUp tr) && decide (s.lifecycle ≠ 4) && decide ((s.trust.sessions.filter (·.tr == tr)).length < 4)) &&
    -- 2.3
    (let s : State := { up with trust := { sessions := [{ id := 0, tr := .mctp }, { id := 1, tr := .mctp }, { id := 2, tr := .mctp }, { id := 3, tr := .mctp }], nextSession := 4 } }
     let tr : SpdmTransport := .mctp
     decide (s.spdmUp tr) && decide (s.lifecycle ≠ 4) && decide (4 ≤ (s.trust.sessions.filter (·.tr == tr)).length)) &&
    -- 3.1, 3.2
    (let s : State := { up with dict := { ready := true, regs := [(elemKey 1 0, 4)] } }
     let tr : SpdmTransport := .doe
     decide (s.spdmUp tr) && decide (s.lifecycle = 4)) &&
    -- 4.1, 4.2
    (let s : State := { up with trust := { sessions := [{ id := 0, tr := .doe }, { id := 3, tr := .mctp }] } }
     let id : Nat := 3
     match s.trust.session id with
     | none => false
     | some _ =>
     true) &&
    -- 4.3.1, 4.3.2
    (let s : State := { up with trust := { sessions := [{ id := 0, tr := .doe }, { id := 3, tr := .mctp }] } }
     let id : Nat := 3
     match s.trust.session id with
     | none => false
     | some _ =>
     decide (s.lifecycle ≠ 4)) &&
    -- 4.4.1, 4.4.2
    (let s : State := { up with dict := { ready := true, regs := [(elemKey 1 0, 4)] }, trust := { sessions := [{ id := 0, tr := .doe }, { id := 3, tr := .mctp }] } }
     let id : Nat := 3
     match s.trust.session id with
     | none => false
     | some _ =>
     decide (s.lifecycle = 4)) &&
    -- 5.1
    (let s : State := { up with trust := { sessions := [{ id := 3, tr := .doe }] } }
     let id : Nat := 3
     let bytes := msgOf (wr 0x1100 0 [1, 2, 3, 4]) [1, 2, 3, 4]
     match s.trust.session id with
     | none => false
     | some x =>
     decide (x.tr = .doe) && decide (s.lifecycle ≠ 4) && decide (16 + (parseMsg (.secured id) bytes).2.1.len.toNat ≤ bytes.length)) &&
    -- 5.2, 5.3.1
    (let s : State := { up with trust := { sessions := [{ id := 3, tr := .doe }] } }
     let id : Nat := 3
     match s.trust.session id with
     | none => false
     | some x =>
     decide (x.tr = .doe) && decide (s.lifecycle ≠ 4)) &&
    -- 5.3.2
    (let id : Nat := 3
     let stream : Fin 9 := 8
     let set : Bool := true
     let s : State := { up with trust := { sessions := [{ id := 3, tr := .doe }], ide := [(ideKey 8 true, { key := some 5 })] } }
     let k : Nat := ideKey stream.val set
     match s.trust.session id with
     | none => false
     | some x =>
     decide (x.tr = .doe) && decide (s.lifecycle ≠ 4) && decide ((kget {} s.trust.ide k).key ≠ none)) &&
    -- 5.3.3
    (let s : State := { up with trust := { sessions := [{ id := 3, tr := .doe }] } }
     let id : Nat := 3
     let stream : Fin 9 := 8
     let set : Bool := true
     let k : Nat := ideKey stream.val set
     match s.trust.session id with
     | none => false
     | some x =>
     decide (x.tr = .doe) && decide (s.lifecycle ≠ 4) && decide ((kget {} s.trust.ide k).key = none)) &&
    -- 5.3.4
    (let id : Nat := 3
     let s : State := { up with trust := { sessions := [{ id := 3, tr := .doe }], ide := [(ideKey 8 true, { key := some 5 })] } }
     match s.trust.session id with
     | none => false
     | some x =>
     decide (x.tr = .doe) && decide (s.lifecycle ≠ 4)) &&
    -- 5.4.1
    (let s : State := { up with trust := { sessions := [{ id := 3, tr := .doe }] } }
     let id : Nat := 3
     let n : SlotIx := 255
     match s.trust.session id with
     | none => false
     | some x =>
     decide (x.tr = .doe) && decide (s.lifecycle ≠ 4) && decide (s.tdi n.val = .unlocked)) &&
    -- 5.4.2
    (let s : State := { withDen (den1 .running) with trust := { sessions := [{ id := 3, tr := .doe }], tdis := [(3, .locked)] } }
     let id : Nat := 3
     let n : SlotIx := 3
     match s.trust.session id with
     | none => false
     | some x =>
     decide (x.tr = .doe) && decide (s.lifecycle ≠ 4) && decide (s.tdi n.val = .locked) &&
       decide ((s.den n.val).phase = .loaded ∨ (s.den n.val).phase = .running ∨ (s.den n.val).phase = .frozen)) &&
    -- 5.4.3
    (let s : State := { withDen (den1 .running) with trust := { sessions := [{ id := 3, tr := .doe }], tdis := [(3, .run)] } }
     let id : Nat := 3
     let n : SlotIx := 3
     match s.trust.session id with
     | none => false
     | some x =>
     decide (x.tr = .doe) && decide (s.lifecycle ≠ 4) && decide (s.tdi n.val ≠ .locked)) &&
    -- 5.4.4
    (let s : State := { withDen (den1 .running) with trust := { sessions := [{ id := 3, tr := .doe }], tdis := [(3, .locked)] } }
     let id : Nat := 3
     match s.trust.session id with
     | none => false
     | some x =>
     decide (x.tr = .doe) && decide (s.lifecycle ≠ 4))) = true := by decide +kernel

/-- Witnesses of `Obligations.VectorCompare`: values at which the hypotheses of each of its clauses hold together. -/
theorem wit_VectorCompare : (
    -- 1
    (let s : State := issuing { v := [(2, 0x3FF8000000000000), (3, 0x4004000000000000)], s := [(0, 5), (1, 2 ^ 63)], p := [(2, 0xFF)] }
     let t : TileIx := 0
     let slot : Nat := 3
     match s.opens t slot .stored with
     | none => false
     | some u =>
     let f : VFields := { vd := 1, s1 := 2, s2 := 3, s3 := 0, ty := 0, rnd := 0 }
     decide (s.ready u t slot) && decide ((u.tile t.val).vecBusy = 0) && decide (VOp.vcmpeq.bad f = false)) &&
    -- 2
    (let s : State := issuing { v := [(2, 0x3FF8000000000000), (3, 0x4004000000000000)], s := [(0, 5), (1, 2 ^ 63)], p := [(2, 0xFF)] }
     let t : TileIx := 0
     let slot : Nat := 3
     match s.opens t slot .stored with
     | none => false
     | some u =>
     let f : VFields := { vd := 1, s1 := 2, s2 := 3, s3 := 0, ty := 0, rnd := 0 }
     decide (s.ready u t slot) && decide ((u.tile t.val).vecBusy = 0) && decide (VOp.vcmplt.bad f = false)) &&
    -- 3
    (let s : State := issuing { v := [(2, 0x3FF8000000000000), (3, 0x4004000000000000)], s := [(0, 5), (1, 2 ^ 63)], p := [(2, 0xFF)] }
     let t : TileIx := 0
     let slot : Nat := 3
     match s.opens t slot .stored with
     | none => false
     | some u =>
     let f : VFields := { vd := 1, s1 := 2, s2 := 3, s3 := 0, ty := 0, rnd := 0 }
     decide (s.ready u t slot) && decide ((u.tile t.val).vecBusy = 0) && decide (VOp.vcmple.bad f = false))) = true := by decide +kernel

/-- Witnesses of `Obligations.VectorElements`: values at which the hypotheses of each of its clauses hold together. -/
theorem wit_VectorElements : (
    -- 1
    (let s : State := issuing { v := [(2, 0x3FF8000000000000), (3, 0x4004000000000000)], s := [(0, 5), (1, 2 ^ 63)], p := [(2, 0xFF)] }
     let t : TileIx := 0
     let slot : Nat := 3
     match s.opens t slot .stored with
     | none => false
     | some u =>
     let f : VFields := { vd := 0, s1 := 0, s2 := 0, s3 := 0, ty := 0, rnd := 0 }
     decide (s.ready u t slot) && decide ((u.tile t.val).vecBusy = 0) && decide (VOp.vnop.bad f = false)) &&
    -- 2
    (let s : State := issuing { v := [(2, 0x3FF8000000000000), (3, 0x4004000000000000)], s := [(0, 5), (1, 2 ^ 63)], p := [(2, 0xFF)] }
     let t : TileIx := 0
     let slot : Nat := 3
     match s.opens t slot .stored with
     | none => false
     | some u =>
     let f : VFields := { vd := 1, s1 := 2, s2 := 0, s3 := 4, ty := 0, rnd := 0 }
     decide (s.ready u t slot) && decide ((u.tile t.val).vecBusy = 0) && decide (VOp.vcvt.bad f = false)) &&
    -- 3
    (let s : State := issuing { v := [(2, 0x3FF8000000000000), (3, 0x4004000000000000)], s := [(0, 5), (1, 2 ^ 63)], p := [(2, 0xFF)] }
     let t : TileIx := 0
     let slot : Nat := 3
     match s.opens t slot .stored with
     | none => false
     | some u =>
     let f : VFields := { vd := 1, s1 := 2, s2 := 3, s3 := 4, ty := 0, rnd := 0 }
     decide (s.ready u t slot) && decide ((u.tile t.val).vecBusy = 0) && decide (VOp.vsel.bad f = false)) &&
    -- 4
    (let s : State := issuing { v := [(2, 0x3FF8000000000000), (3, 0x4004000000000000)], s := [(0, 5), (1, 2 ^ 63)], p := [(2, 0xFF)] }
     let t : TileIx := 0
     let slot : Nat := 3
     match s.opens t slot .stored with
     | none => false
     | some u =>
     let f : VFields := { vd := 1, s1 := 2, s2 := 3, s3 := 0, ty := 0, rnd := 0 }
     decide (s.ready u t slot) && decide ((u.tile t.val).vecBusy = 0) && decide (VOp.vbcast.bad f = false)) &&
    -- 5
    (let s : State := issuing { v := [(2, 0x3FF8000000000000), (3, 0x4004000000000000)], s := [(0, 5), (1, 2 ^ 63)], p := [(2, 0xFF)] }
     let t : TileIx := 0
     let slot : Nat := 3
     match s.opens t slot .stored with
     | none => false
     | some u =>
     let f : VFields := { vd := 1, s1 := 2, s2 := 3, s3 := 0, ty := 0, rnd := 0 }
     decide (s.ready u t slot) && decide ((u.tile t.val).vecBusy = 0) && decide (VOp.vperm.bad f = false)) &&
    -- 6
    (let s : State := issuing { v := [(2, 0x3FF8000000000000), (3, 0x4004000000000000)], s := [(0, 5), (1, 2 ^ 63)], p := [(2, 0xFF)] }
     let t : TileIx := 0
     let slot : Nat := 3
     match s.opens t slot .stored with
     | none => false
     | some u =>
     let f : VFields := { vd := 1, s1 := 2, s2 := 0, s3 := 0, ty := 0, rnd := 0 }
     decide (s.ready u t slot) && decide ((u.tile t.val).vecBusy = 0) && decide (VOp.vredsum.bad f = false)) &&
    -- 7
    (let s : State := issuing { v := [(2, 0x3FF8000000000000), (3, 0x4004000000000000)], s := [(0, 5), (1, 2 ^ 63)], p := [(2, 0xFF)] }
     let t : TileIx := 0
     let slot : Nat := 3
     match s.opens t slot .stored with
     | none => false
     | some u =>
     let f : VFields := { vd := 1, s1 := 2, s2 := 0, s3 := 0, ty := 2, rnd := 0 }
     let y : ETy := ETy.ofField f.ty.toNat
     match y.fmt with
     | none => false
     | some _ =>
     decide (s.ready u t slot) && decide ((u.tile t.val).vecBusy = 0) && decide (VOp.vconj.bad f = false)) &&
    -- 8
    (let s : State := issuing { v := [(2, 0x3FF8000000000000), (3, 0x4004000000000000)], s := [(0, 5), (1, 2 ^ 63)], p := [(2, 0xFF)] }
     let t : TileIx := 0
     let slot : Nat := 3
     match s.opens t slot .stored with
     | none => false
     | some u =>
     let f : VFields := { vd := 1, s1 := 2, s2 := 3, s3 := 0, ty := 2, rnd := 0 }
     let y : ETy := ETy.ofField f.ty.toNat
     match y.fmt with
     | none => false
     | some _ =>
     decide (s.ready u t slot) && decide ((u.tile t.val).vecBusy = 0) && decide (VOp.vcmul.bad f = false)) &&
    -- 9
    (let s : State := issuing { v := [(2, 0x3FF8000000000000), (3, 0x4004000000000000)], s := [(0, 5), (1, 2 ^ 63)], p := [(2, 0xFF)] }
     let t : TileIx := 0
     let slot : Nat := 3
     match s.opens t slot .stored with
     | none => false
     | some u =>
     let f : VFields := { vd := 1, s1 := 2, s2 := 3, s3 := 4, ty := 2, rnd := 0 }
     let y : ETy := ETy.ofField f.ty.toNat
     match y.fmt with
     | none => false
     | some _ =>
     decide (s.ready u t slot) && decide ((u.tile t.val).vecBusy = 0) && decide (VOp.vcfma.bad f = false))) = true := by decide +kernel

/-- Witnesses of `Obligations.VectorFloat`: values at which the hypotheses of each of its clauses hold together. -/
theorem wit_VectorFloat : (
    -- 1
    (let s : State := issuing { v := [(2, 0x3FF8000000000000), (3, 0x4004000000000000)], s := [(0, 5), (1, 2 ^ 63)], p := [(2, 0xFF)] }
     let t : TileIx := 0
     let slot : Nat := 3
     match s.opens t slot .stored with
     | none => false
     | some u =>
     let f : VFields := { vd := 1, s1 := 2, s2 := 3, s3 := 0, ty := 0, rnd := 0 }
     decide (s.ready u t slot) && decide ((u.tile t.val).vecBusy = 0) && decide (VOp.vadd.bad f = false)) &&
    -- 2
    (let s : State := issuing { v := [(2, 0x3FF8000000000000), (3, 0x4004000000000000)], s := [(0, 5), (1, 2 ^ 63)], p := [(2, 0xFF)] }
     let t : TileIx := 0
     let slot : Nat := 3
     match s.opens t slot .stored with
     | none => false
     | some u =>
     let f : VFields := { vd := 1, s1 := 2, s2 := 3, s3 := 0, ty := 0, rnd := 0 }
     decide (s.ready u t slot) && decide ((u.tile t.val).vecBusy = 0) && decide (VOp.vsub.bad f = false)) &&
    -- 3
    (let s : State := issuing { v := [(2, 0x3FF8000000000000), (3, 0x4004000000000000)], s := [(0, 5), (1, 2 ^ 63)], p := [(2, 0xFF)] }
     let t : TileIx := 0
     let slot : Nat := 3
     match s.opens t slot .stored with
     | none => false
     | some u =>
     let f : VFields := { vd := 1, s1 := 2, s2 := 3, s3 := 0, ty := 0, rnd := 0 }
     decide (s.ready u t slot) && decide ((u.tile t.val).vecBusy = 0) && decide (VOp.vmul.bad f = false)) &&
    -- 4
    (let s : State := issuing { v := [(2, 0x3FF8000000000000), (3, 0x4004000000000000)], s := [(0, 5), (1, 2 ^ 63)], p := [(2, 0xFF)] }
     let t : TileIx := 0
     let slot : Nat := 3
     match s.opens t slot .stored with
     | none => false
     | some u =>
     let f : VFields := { vd := 1, s1 := 2, s2 := 3, s3 := 4, ty := 0, rnd := 0 }
     decide (s.ready u t slot) && decide ((u.tile t.val).vecBusy = 0) && decide (VOp.vfma.bad f = false)) &&
    -- 5
    (let s : State := issuing { v := [(2, 0x3FF8000000000000), (3, 0x4004000000000000)], s := [(0, 5), (1, 2 ^ 63)], p := [(2, 0xFF)] }
     let t : TileIx := 0
     let slot : Nat := 3
     match s.opens t slot .stored with
     | none => false
     | some u =>
     let f : VFields := { vd := 1, s1 := 2, s2 := 3, s3 := 4, ty := 0, rnd := 0 }
     decide (s.ready u t slot) && decide ((u.tile t.val).vecBusy = 0) && decide (VOp.vfms.bad f = false)) &&
    -- 6
    (let s : State := issuing { v := [(2, 0x3FF8000000000000), (3, 0x4004000000000000)], s := [(0, 5), (1, 2 ^ 63)], p := [(2, 0xFF)] }
     let t : TileIx := 0
     let slot : Nat := 3
     match s.opens t slot .stored with
     | none => false
     | some u =>
     let f : VFields := { vd := 1, s1 := 2, s2 := 3, s3 := 4, ty := 0, rnd := 0 }
     decide (s.ready u t slot) && decide ((u.tile t.val).vecBusy = 0) && decide (VOp.vfnma.bad f = false)) &&
    -- 7
    (let s : State := issuing { v := [(2, 0x3FF8000000000000), (3, 0x4004000000000000)], s := [(0, 5), (1, 2 ^ 63)], p := [(2, 0xFF)] }
     let t : TileIx := 0
     let slot : Nat := 3
     match s.opens t slot .stored with
     | none => false
     | some u =>
     let f : VFields := { vd := 1, s1 := 2, s2 := 0, s3 := 0, ty := 0, rnd := 0 }
     decide (s.ready u t slot) && decide ((u.tile t.val).vecBusy = 0) && decide (VOp.vneg.bad f = false)) &&
    -- 8
    (let s : State := issuing { v := [(2, 0x3FF8000000000000), (3, 0x4004000000000000)], s := [(0, 5), (1, 2 ^ 63)], p := [(2, 0xFF)] }
     let t : TileIx := 0
     let slot : Nat := 3
     match s.opens t slot .stored with
     | none => false
     | some u =>
     let f : VFields := { vd := 1, s1 := 2, s2 := 0, s3 := 0, ty := 0, rnd := 0 }
     decide (s.ready u t slot) && decide ((u.tile t.val).vecBusy = 0) && decide (VOp.vrcp.bad f = false)) &&
    -- 9
    (let s : State := issuing { v := [(2, 0x3FF8000000000000), (3, 0x4004000000000000)], s := [(0, 5), (1, 2 ^ 63)], p := [(2, 0xFF)] }
     let t : TileIx := 0
     let slot : Nat := 3
     match s.opens t slot .stored with
     | none => false
     | some u =>
     let f : VFields := { vd := 1, s1 := 2, s2 := 0, s3 := 0, ty := 0, rnd := 0 }
     decide (s.ready u t slot) && decide ((u.tile t.val).vecBusy = 0) && decide (VOp.vrsq.bad f = false)) &&
    -- 10
    (let s : State := issuing { v := [(2, 0x3FF8000000000000), (3, 0x4004000000000000)], s := [(0, 5), (1, 2 ^ 63)], p := [(2, 0xFF)] }
     let t : TileIx := 0
     let slot : Nat := 3
     match s.opens t slot .stored with
     | none => false
     | some u =>
     let f : VFields := { vd := 1, s1 := 2, s2 := 3, s3 := 0, ty := 0, rnd := 0 }
     decide (s.ready u t slot) && decide ((u.tile t.val).vecBusy = 0) && decide (VOp.vmin.bad f = false)) &&
    -- 11
    (let s : State := issuing { v := [(2, 0x3FF8000000000000), (3, 0x4004000000000000)], s := [(0, 5), (1, 2 ^ 63)], p := [(2, 0xFF)] }
     let t : TileIx := 0
     let slot : Nat := 3
     match s.opens t slot .stored with
     | none => false
     | some u =>
     let f : VFields := { vd := 1, s1 := 2, s2 := 3, s3 := 0, ty := 0, rnd := 0 }
     decide (s.ready u t slot) && decide ((u.tile t.val).vecBusy = 0) && decide (VOp.vmax.bad f = false)) &&
    -- 12
    (let s : State := issuing { v := [(2, 0x3FF8000000000000), (3, 0x4004000000000000)], s := [(0, 5), (1, 2 ^ 63)], p := [(2, 0xFF)] }
     let t : TileIx := 0
     let slot : Nat := 3
     match s.opens t slot .stored with
     | none => false
     | some u =>
     let f : VFields := { vd := 1, s1 := 2, s2 := 0, s3 := 0, ty := 0, rnd := 0 }
     decide (s.ready u t slot) && decide ((u.tile t.val).vecBusy = 0) && decide (VOp.vabs.bad f = false))) = true := by decide +kernel

/-- Witnesses of `Obligations.VectorInteger`: values at which the hypotheses of each of its clauses hold together. -/
theorem wit_VectorInteger : (
    -- 1
    (let s : State := issuing { v := [(2, 0x3FF8000000000000), (3, 0x4004000000000000)], s := [(0, 5), (1, 2 ^ 63)], p := [(2, 0xFF)] }
     let t : TileIx := 0
     let slot : Nat := 3
     match s.opens t slot .stored with
     | none => false
     | some u =>
     let f : VFields := { vd := 1, s1 := 2, s2 := 3, s3 := 0, ty := 4, rnd := 0 }
     decide (s.ready u t slot) && decide ((u.tile t.val).vecBusy = 0) && decide (VOp.viadd.bad f = false)) &&
    -- 2
    (let s : State := issuing { v := [(2, 0x3FF8000000000000), (3, 0x4004000000000000)], s := [(0, 5), (1, 2 ^ 63)], p := [(2, 0xFF)] }
     let t : TileIx := 0
     let slot : Nat := 3
     match s.opens t slot .stored with
     | none => false
     | some u =>
     let f : VFields := { vd := 1, s1 := 2, s2 := 3, s3 := 0, ty := 4, rnd := 0 }
     decide (s.ready u t slot) && decide ((u.tile t.val).vecBusy = 0) && decide (VOp.visub.bad f = false)) &&
    -- 3
    (let s : State := issuing { v := [(2, 0x3FF8000000000000), (3, 0x4004000000000000)], s := [(0, 5), (1, 2 ^ 63)], p := [(2, 0xFF)] }
     let t : TileIx := 0
     let slot : Nat := 3
     match s.opens t slot .stored with
     | none => false
     | some u =>
     let f : VFields := { vd := 1, s1 := 2, s2 := 3, s3 := 0, ty := 4, rnd := 0 }
     decide (s.ready u t slot) && decide ((u.tile t.val).vecBusy = 0) && decide (VOp.vimul.bad f = false)) &&
    -- 4
    (let s : State := issuing { v := [(2, 0x3FF8000000000000), (3, 0x4004000000000000)], s := [(0, 5), (1, 2 ^ 63)], p := [(2, 0xFF)] }
     let t : TileIx := 0
     let slot : Nat := 3
     match s.opens t slot .stored with
     | none => false
     | some u =>
     let f : VFields := { vd := 1, s1 := 2, s2 := 3, s3 := 0, ty := 4, rnd := 0 }
     decide (s.ready u t slot) && decide ((u.tile t.val).vecBusy = 0) && decide (VOp.vand.bad f = false)) &&
    -- 5
    (let s : State := issuing { v := [(2, 0x3FF8000000000000), (3, 0x4004000000000000)], s := [(0, 5), (1, 2 ^ 63)], p := [(2, 0xFF)] }
     let t : TileIx := 0
     let slot : Nat := 3
     match s.opens t slot .stored with
     | none => false
     | some u =>
     let f : VFields := { vd := 1, s1 := 2, s2 := 3, s3 := 0, ty := 4, rnd := 0 }
     decide (s.ready u t slot) && decide ((u.tile t.val).vecBusy = 0) && decide (VOp.vor.bad f = false)) &&
    -- 6
    (let s : State := issuing { v := [(2, 0x3FF8000000000000), (3, 0x4004000000000000)], s := [(0, 5), (1, 2 ^ 63)], p := [(2, 0xFF)] }
     let t : TileIx := 0
     let slot : Nat := 3
     match s.opens t slot .stored with
     | none => false
     | some u =>
     let f : VFields := { vd := 1, s1 := 2, s2 := 3, s3 := 0, ty := 4, rnd := 0 }
     decide (s.ready u t slot) && decide ((u.tile t.val).vecBusy = 0) && decide (VOp.vxor.bad f = false)) &&
    -- 7
    (let s : State := issuing { v := [(2, 0x3FF8000000000000), (3, 0x4004000000000000)], s := [(0, 5), (1, 2 ^ 63)], p := [(2, 0xFF)] }
     let t : TileIx := 0
     let slot : Nat := 3
     match s.opens t slot .stored with
     | none => false
     | some u =>
     let f : VFields := { vd := 1, s1 := 2, s2 := 3, s3 := 0, ty := 4, rnd := 0 }
     decide (s.ready u t slot) && decide ((u.tile t.val).vecBusy = 0) && decide (VOp.vshl.bad f = false)) &&
    -- 8
    (let s : State := issuing { v := [(2, 0x3FF8000000000000), (3, 0x4004000000000000)], s := [(0, 5), (1, 2 ^ 63)], p := [(2, 0xFF)] }
     let t : TileIx := 0
     let slot : Nat := 3
     match s.opens t slot .stored with
     | none => false
     | some u =>
     let f : VFields := { vd := 1, s1 := 2, s2 := 3, s3 := 0, ty := 4, rnd := 0 }
     decide (s.ready u t slot) && decide ((u.tile t.val).vecBusy = 0) && decide (VOp.vshr.bad f = false)) &&
    -- 9
    (let s : State := issuing { v := [(2, 0x3FF8000000000000), (3, 0x4004000000000000)], s := [(0, 5), (1, 2 ^ 63)], p := [(2, 0xFF)] }
     let t : TileIx := 0
     let slot : Nat := 3
     match s.opens t slot .stored with
     | none => false
     | some u =>
     let f : VFields := { vd := 1, s1 := 2, s2 := 3, s3 := 0, ty := 4, rnd := 0 }
     decide (s.ready u t slot) && decide ((u.tile t.val).vecBusy = 0) && decide (VOp.vsra.bad f = false))) = true := by decide +kernel

/-- Witnesses of `Obligations.WellEvents`: values at which the hypotheses of each of its clauses hold together. -/
theorem wit_WellEvents : (
    -- 1
    (let s : State := onWells up
     let a : BitVec 41 := 2 ^ 41 - 64
     let n : Nat := a.toNat / 2 ^ 37 % 16
     let line : Nat := a.toNat % 2 ^ 37 / 64
     decide (s.reg (0x300 + n) 0 = 1) && decide (¬ (s.well n).lost.contains (line / 2 ^ 22)) &&
       decide (kget 0 (s.well n).bad line = 0)) &&
    -- 2
    (let s : State := onWells up
     let a : BitVec 41 := 2 ^ 41 - 64
     let k : Access := .rmw 0 0x0A 60 (toLE 4 7) []
     let n : Nat := a.toNat / 2 ^ 37 % 16
     let line : Nat := a.toNat % 2 ^ 37 / 64
     match accessLine k (memRead (s.well n).data (64 * line) 64) with
     | none => false
     | some _ =>
     decide (s.reg (0x300 + n) 0 = 1) && decide (¬ (s.well n).lost.contains (line / 2 ^ 22)) &&
       decide (kget 0 (s.well n).bad line = 0) && decide (accessFits k)) &&
    -- 3
    (let s : State := onWells { up with wells := [(15, { refresh := [(64 * 511 + 63, 2047)] })] }
     let w : WellIx := 15
     decide (s.reg (0x300 + w.val) 0 = 1)) &&
    -- 4
    (let s : State := onWells up
     let w : WellIx := 15
     decide (s.reg (0x300 + w.val) 0 = 1)) &&
    -- 5.1
    (let s : State := onWells { up with wells := [(15, { corrected := [(2048 * (64 * 511 + 63) + 2047, [1, 2, 3, 4])], rowsUsed := [(64 * 511 + 63, 31)] })] }
     let w : WellIx := 15
     let shaft : Fin 512 := 511
     let bank : Fin 64 := 63
     let row : Fin 2048 := 2047
     let b : Nat := 64 * shaft.val + bank.val
     decide (4 ≤ (kget [] (s.well w.val).corrected (2048 * b + row.val)).length) && decide (kget 0 (s.well w.val).rowsUsed b < 32)) &&
    -- 5.2
    (let w : WellIx := 15
     let shaft : Fin 512 := 511
     let bank : Fin 64 := 63
     let row : Fin 2048 := 2047
     let s : State := onWells { up with wells := [(15, { corrected := [(2048 * (64 * 511 + 63) + 2047, [1, 2, 3, 4])], rowsUsed := [(64 * 511 + 63, 32)] })] }
     let b : Nat := 64 * shaft.val + bank.val
     decide (4 ≤ (kget [] (s.well w.val).corrected (2048 * b + row.val)).length) &&
       decide (32 ≤ kget 0 (s.well w.val).rowsUsed b) && decide ((s.well w.val).lost.contains shaft.val = false) &&
       decide ((s.well w.val).copying = none)) &&
    -- 6.1
    (let s : State := onWells { up with wells := [(15, { wanted := [511] })] }
     let w : WellIx := 15
     let shaft : Fin 512 := 511
     let sp : Fin 16 := 15
     decide ((s.well w.val).wanted.contains shaft.val) && decide ((s.well w.val).copying = none) &&
       decide ((s.well w.val).spareFree sp.val)) &&
    -- 6.2
    (let s : State := onWells { up with wells := [(15, { wanted := [511], spares := (List.range 16).map fun i => (i, i) })] }
     let w : WellIx := 15
     let shaft : Fin 512 := 511
     decide ((s.well w.val).wanted.contains shaft.val) && decide ((s.well w.val).copying = none) &&
       decide ((s.well w.val).freeSpare = none)) &&
    -- 7.1
    (let w : WellIx := 15
     let c : Remap := { shaft := 511, spare := 15, next := 5 }
     let s : State := onWells { up with wells := [(15, { copying := some c })] }
     let lines : Nat := 2 ^ 22 - 6
     decide ((s.well w.val).copying = some c) && ((s.well w.val).bad.all fun p => decide (p.2 < 2)) &&
       decide (c.next + lines < 2 ^ 22)) &&
    -- 7.2
    (let w : WellIx := 15
     let c : Remap := { shaft := 511, spare := 15, next := 5 }
     let s : State := onWells { up with wells := [(15, { copying := some c })] }
     let lines : Nat := 2 ^ 22 - 5
     decide ((s.well w.val).copying = some c) && ((s.well w.val).bad.all fun p => decide (p.2 < 2)) &&
       decide (2 ^ 22 ≤ c.next + lines))) = true := by decide +kernel

/-- Witnesses of `Obligations.WellMemory`: values at which the hypotheses of each of its clauses hold together. -/
theorem wit_WellMemory : (
    -- 1.1, 1.2, 1.3
    (let s : State := onWells up
     let a : BitVec 41 := 2 ^ 41 - 64
     let who : Agent := .sett
     let bad := 0
     (match exec (.wellAccess a .read who bad) s with | .next _ => true | _ => false)) &&
    -- 2.1
    (let s : State := onWells up
     let a : BitVec 41 := 2 ^ 41 - 64
     let who : Agent := .sett
     let off := 0
     let bs := List.replicate 64 7
     let bad := 0
     let m := 15
     let b := 2 ^ 37 - 65
     let n : Nat := a.toNat / 2 ^ 37 % 16
     let line : Nat := a.toNat % 2 ^ 37 / 64
     decide (off + bs.length ≤ 64) && (match exec (.wellAccess a (.write off bs) who bad) s with | .next _ => true | _ => false) &&
       decide (m ≠ n ∨ b < 64 * line + off ∨ 64 * line + off + bs.length ≤ b)) &&
    -- 2.2, 2.3
    (let s : State := onWells up
     let a : BitVec 41 := 2 ^ 41 - 64
     let who : Agent := .sett
     let off := 0
     let bs := List.replicate 64 7
     let bad := 0
     decide (off + bs.length ≤ 64) && (match exec (.wellAccess a (.write off bs) who bad) s with | .next _ => true | _ => false)) &&
    -- 3
    (let s : State := onWells up
     let a : BitVec 41 := 2 ^ 41 - 64
     let off := 63
     let bs := [9]
     let n : Nat := a.toNat / 2 ^ 37 % 16
     let line : Nat := a.toNat % 2 ^ 37 / 64
     decide (off + bs.length ≤ 64) && decide (s.reg (0x300 + n) 0 = 1) && decide (¬ (s.well n).lost.contains (line / 2 ^ 22)) &&
       decide (kget 0 (s.well n).bad line = 0))) = true := by decide +kernel

end Sys2Proof.Tests
end

section
/-! PROOFS. What a masked store leaves in the scratchpad (R57, R130). -/

namespace Sys2Proof.Proofs

open Sys2Proof Sys2Proof.Machine Sys2Proof.Laws

/-- A byte of the scratchpad after a masked store (R57): the stored one where the address is in range and the mask lets it through. -/
theorem kget_spadPut (m : KMap Byte) (a mask : Nat) (bs : List Byte) (j : Nat) :
    kget 0 (spadPut m a mask bs) j =
      if a ≤ j ∧ j < a + bs.length ∧ mask.testBit (j - a) then bs.getD (j - a) 0 else kget 0 m j := by
  induction bs generalizing m a mask with
  | nil => simp [spadPut]; omega
  | cons b bs ih =>
    have hput : j ≠ a → kget 0 (if mask % 2 = 1 then kput 0 m a b else m) j = kget 0 m j := by
      intro hj
      split
      · exact kget_kput_other _ _ _ hj
      · rfl
    simp only [spadPut, ih]
    obtain hj | rfl | hj := Nat.lt_trichotomy j a
    · rw [hput hj.ne, if_neg (by omega), if_neg (by omega)]
    · by_cases hm : mask % 2 = 1 <;> simp [hm]
    · obtain ⟨k, rfl⟩ : ∃ k, j = a + 1 + k := ⟨j - (a + 1), by omega⟩
      have hk : a + 1 + k - a = k + 1 := by omega
      have hk' : a + 1 + k - (a + 1) = k := by omega
      have hlt : a + 1 + k < a + (bs.length + 1) ↔ a + 1 + k < a + 1 + bs.length := by omega
      simp only [hput hj.ne', hk, hk', Nat.testBit_succ, List.length_cons, List.getD_cons_succ, hlt, hj.le, Nat.le_add_right, true_and]

/-- A masked store keeps the canonical form of the scratchpad. -/
theorem kcanon_spadPut (m : KMap Byte) (a mask : Nat) (bs : List Byte) (h : kcanon 0 m = true) :
    kcanon 0 (spadPut m a mask bs) = true := by
  induction bs generalizing m a mask with
  | nil => exact h
  | cons b bs ih =>
    refine ih _ _ _ ?_
    split
    · exact kcanon_kput 0 b m a h
    · exact h

/-- Settles O10, by what one byte of the scratchpad reads after a masked store. -/
theorem scratchpadBytes : Obligations.ScratchpadBytes := by
  intro m a mask bs
  refine ⟨fun i hi hm => ?_, fun i _ hm => ?_, fun b hb => ?_, kcanon_spadPut m a mask bs⟩ <;> rw [kget_spadPut]
  · simp [hi, hm]
  · simp [hm]
  · rw [if_neg (by omega)]

end Sys2Proof.Proofs
end

section
/-! PROOFS. The operations of the A and X slots in a bundle whose checks pass (R58, R60, R90, R130 to R136). -/

namespace Sys2Proof.Proofs

open Sys2Proof Sys2Proof.Machine Sys2Proof.Laws

@[simp] theorem snap_t (s : State) (t : TileIx) (slot : Nat) : (s.snap t slot).t = t.val := rfl
@[simp] theorem snap_slot (s : State) (t : TileIx) (slot : Nat) : (s.snap t slot).slot = slot := rfl

/-- An operation of a slot that reads the scratchpad and meets no upset: once its checks pass it has its effect. -/
theorem slotReads_clean {s u : State} {t : TileIx} {slot : Nat} {fault : Snap → Option Code} {addr : Snap → Nat}
    {effect : Snap → State → State} (h : s.ready u t slot = true) (hf : fault (u.snap t slot) = none) :
    slotReads t.val s fault addr .none effect = .next (effect (u.snap t slot) u) := by
  unfold slotReads
  rw [slotRun_ready h, hf]
  simp [State.corrected]

/-- An operation of the A slot whose checks pass, with no upset, has its effect. -/
theorem slotA_clean {s u : State} {t : TileIx} {slot : Nat} {f : AFields} (o : AOp) (h : s.ready u t slot = true)
    (hf : aFault o f (u.snap t slot) = none) : slotA o t.val f .none s = .next (aEffect o f (u.snap t slot) u) := by
  unfold slotA
  split
  · exact slotReads_clean h hf
  · exact slotOp_clean h hf

/-- An operation of the A slot as a command, where its checks pass and it meets no upset (R102). -/
theorem occurs_slotA {s u : State} {t : TileIx} {slot : Nat} {f : AFields} (o : AOp) (h : s.ready u t slot = true)
    (hf : aFault o f (u.snap t slot) = none) : occurs s (slotA o t.val f .none s) = .next (aEffect o f (u.snap t slot) u) := by
  rw [slotA_clean o h hf, occurs_next]

/-- Settles O19: each operation of the A slot has the effect of its kind, and LDST's store waits where its two addresses meet in one
half of the banks (R58). A store's mask is all ones or what the predicate register holds. -/
theorem addressSlot : Obligations.AddressSlot := by
  intro s u t slot f x la sa h hx hla hsa
  subst hx
  have hla : (u.snap t slot).aAddr f.la = la := hla.symm
  have hsa : (u.snap t slot).aAddr f.sa = sa := hsa.symm
  refine ⟨fun hf => (occurs_slotA .anop h hf).trans ?_, fun hf => (occurs_slotA .ld h hf).trans ?_,
    fun hf => (occurs_slotA .lds h hf).trans ?_, fun hf => (occurs_slotA .st h hf).trans ?_,
    fun hf => (occurs_slotA .sts h hf).trans ?_, fun hf => (occurs_slotA .ldst h hf).trans ?_, fun banks st hst => ?_⟩
  · simp [aEffect, AOp.loads, AOp.stores, State.inFlight]
  · simp [aEffect, AOp.loads, AOp.stores, AOp.size, State.inFlight, hla]
  · simp [aEffect, AOp.loads, AOp.stores, AOp.size, State.inFlight, hla]
  · cases hp : f.pred <;> simp [aEffect, AOp.loads, AOp.stores, AOp.size, State.inFlight, hsa, hp]
  · cases hp : f.pred <;> simp [aEffect, AOp.loads, AOp.stores, AOp.size, State.inFlight, hsa, hp]
  · by_cases hb : la / 64 % 2 = sa / 64 % 2
    · cases hp : f.pred <;> simp [aEffect, AOp.loads, AOp.stores, AOp.size, State.inFlight, hla, hsa, hb, hp]
    · cases hp : f.pred <;> simp [aEffect, AOp.loads, AOp.stores, AOp.size, State.inFlight, hla, hsa, hb, hp]
  · exact congrArg (occurs s) (slotOp_clean (fault := fun _ => bankctlFault st) h (if_neg hst))

/-- An operation of a slot that its encoding alone can stop, as a command: where it is not stopped it has its effect. -/
theorem occurs_slotOp {s u : State} {t : TileIx} {slot : Nat} {fault : Snap → Option Code} {effect : Snap → State → State}
    (h : s.ready u t slot = true) (hf : fault (u.snap t slot) = none) :
    occurs s (slotOp t.val s fault effect) = .next (effect (u.snap t slot) u) := by
  rw [slotOp_clean h hf, occurs_next]

/-- A VOTE that is the first cast at its bundle (R90, R135): its contribution stands as an entry of its own, and its result is in
flight. -/
theorem voteEffect_first {u : State} {t : TileIx} {slot : Nat} (consume : BitVec 4) (kind : BitVec 3) (src : BitVec 7) (dst : BitVec 6)
    (hv : ∀ v ∈ (u.snap t slot).den.wave.votes, v.bundle ≠ (u.snap t slot).tile.bundle) :
    voteEffect consume kind src dst (u.snap t slot) u = (((u.modDen slot fun d =>
      { d with wave := { d.wave with votes := d.wave.votes ++ [{
          bundle := (u.snap t slot).tile.bundle, kind := kind.toNat, count := 1,
          acc := if kind.toNat < 2 then BitVec.ofNat 32 ((u.snap t slot).tile.preg src.toNat % 2)
            else BitVec.ofNat 32 ((u.snap t slot).scalar src.toNat) }] } }).inFlight t
        [{ left := 2 * (u.snap t slot).den.rect.span, dest := if kind.toNat < 2 then .p dst.toNat else .s dst.toNat, val := 0,
           mask := BitVec.allOnes 512, vote := some (u.snap t slot).tile.bundle }]).consume (u.snap t slot) consume) := by
  have hnone : ((u.den slot).wave.votes.any fun v => v.bundle == (u.snap t slot).tile.bundle) = false := by
    simpa [State.snap] using hv
  unfold voteEffect State.modDen
  dsimp only [snap_slot]
  rw [hnone]
  rfl

/-- Settles O20: each operation of the X slot has the effect of its kind; a vote that is its bundle's first adds an entry of its own. -/
theorem exchangeSlot : Obligations.ExchangeSlot := by
  rintro s u t slot x consume h rfl
  refine ⟨occurs_slotOp h rfl, fun dirs src hops hf => occurs_slotOp h hf, fun kind src dst hk hs hd hd' hv => ?_,
    fun kind src dst hk hk' hs hs' hd hv => ?_, fun q v => occurs_slotOp h rfl⟩
  · have hf : voteFault kind src dst = none := by simp [voteFault, hk, hs, hd, hd']
    refine (occurs_slotOp (fault := fun _ => voteFault kind src dst) h hf).trans ?_
    rw [voteEffect_first consume kind src dst hv, if_pos hk, if_pos hk]
  · have hf : voteFault kind src dst = none := by simp [voteFault, hk.not_gt, hk', hs, hs', hd]
    refine (occurs_slotOp (fault := fun _ => voteFault kind src dst) h hf).trans ?_
    rw [voteEffect_first consume kind src dst hv, if_neg hk.not_gt, if_neg hk.not_gt]

end Sys2Proof.Proofs
end

section
/-! PROOFS. What lands in a tile (R102, R103, R164), and the cycles that issue no stored bundle (R53, R107, R116, R658). -/

namespace Sys2Proof.Proofs

open Sys2Proof Sys2Proof.Machine Sys2Proof.Laws

/-! ### Folds -/

/-- What no step of a fold changes, the fold does not change. -/
theorem foldl_keeps_of {σ α β : Type} (F : σ → β) (f : σ → α → σ) (l : List α) (s : σ) (h : ∀ s a, F (f s a) = F s) :
    F (l.foldl f s) = F s := by
  induction l generalizing s with
  | nil => rfl
  | cons a l ih => rw [List.foldl_cons, ih, h]

/-- Two equal entries stand in a list exactly where it has a duplicate. -/
theorem hasTwice_eq_false {α : Type} [DecidableEq α] {l : List α} : hasTwice l = false ↔ l.Nodup := by
  induction l with
  | nil => simp [hasTwice]
  | cons a l ih => simp [hasTwice, ih]

/-! ### Registers -/

/-- The bits of a register of a tile (R52). -/
def tileBits (x : Tile) : Reg → Nat
  | .s i => x.sreg i
  | .a i => x.areg i
  | .p i => x.preg i
  | .v i => x.vreg i

/-- The width of a register (R52). -/
def regWidth : Reg → Nat
  | .v _ => 512
  | _ => 64

/-- A tile without what results land in: its registers, its accumulators and its status. -/
def bare (x : Tile) : Tile := { x with s := [], v := [], a := [], p := [], acc := [], mstat := 0 }

/-- A bit of a value in which a mask puts the bits of another. -/
theorem testBit_mix {w : Nat} (old v m : BitVec w) {j : Nat} (hj : j < w) :
    ((old &&& ~~~m) ||| (v &&& m)).toNat.testBit j = if m.getLsbD j then v.getLsbD j else old.toNat.testBit j := by
  rw [BitVec.testBit_toNat, BitVec.testBit_toNat]
  rw [BitVec.getLsbD_or, BitVec.getLsbD_and, BitVec.getLsbD_and, BitVec.getLsbD_not]
  cases h : m.getLsbD j <;> simp [hj]

/-- A bit of a register after a write: the written one where the write is to that register and its mask names the bit. -/
theorem testBit_write (x : Tile) (r r' : Reg) (v m : BitVec 512) {j : Nat} (hj : j < regWidth r') :
    (tileBits (x.write r v m) r').testBit j =
      if r' = r ∧ m.getLsbD j then v.getLsbD j else (tileBits x r').testBit j := by
  have h64 (i i' : Nat) (k : KMap (BitVec 64)) (hj : j < 64) :
      (kget 0 (kmod 0 k i fun old => (old &&& ~~~m.truncate 64) ||| (v.truncate 64 &&& m.truncate 64)) i').toNat.testBit j =
        if i' = i ∧ m.getLsbD j then v.getLsbD j else (kget 0 k i').toNat.testBit j := by
    rw [kget_kmod]
    split
    · next h => subst h; rw [testBit_mix _ _ _ hj]; simp [hj]
    · next h => simp [h]
  have h512 (i i' : Nat) (k : KMap (BitVec 512)) (hj : j < 512) :
      (kget 0 (kmod 0 k i fun old => (old &&& ~~~m) ||| (v &&& m)) i').toNat.testBit j =
        if i' = i ∧ m.getLsbD j then v.getLsbD j else (kget 0 k i').toNat.testBit j := by
    rw [kget_kmod]
    split
    · next h => subst h; rw [testBit_mix _ _ _ hj]; simp only [true_and]
    · next h => simp [h]
  cases r <;> cases r'
  case s.s i i' => simp only [Reg.s.injEq]; exact h64 i i' x.s hj
  case a.a i i' => simp only [Reg.a.injEq]; exact h64 i i' x.a hj
  case p.p i i' => simp only [Reg.p.injEq]; exact h64 i i' x.p hj
  case v.v i i' => simp only [Reg.v.injEq]; exact h512 i i' x.v hj
  all_goals simp only [reduceCtorEq, false_and, if_false]; rfl

theorem tileBits_lt (x : Tile) (r : Reg) : tileBits x r < 2 ^ regWidth r := by
  cases r <;> exact BitVec.isLt _

theorem bare_write (x : Tile) (r : Reg) (v m : BitVec 512) : bare (x.write r v m) = bare x := by
  cases r <;> rfl

theorem acc_write (x : Tile) (r : Reg) (v m : BitVec 512) : (x.write r v m).acc = x.acc := by
  cases r <;> rfl

/-! ### Landings of the fixed-latency pipelines -/

/-- The value with which a result lands (R90, R135). -/
def landValue (d : Den) (l : Landing) : BitVec 512 :=
  match l.vote with
  | none => l.val
  | some b => match d.wave.votes.find? fun v => v.bundle == b with
    | some v => voteValue v
    | none => l.val

theorem testBit_landOne (d : Den) (x : Tile) (l : Landing) (r : Reg) {j : Nat} (hj : j < regWidth r) :
    (tileBits (landOne d x l) r).testBit j =
      if r = l.dest ∧ l.mask.getLsbD j then (landValue d l).getLsbD j else (tileBits x r).testBit j := by
  rw [← testBit_write x l.dest r (landValue d l) l.mask hj]
  cases r <;> rfl

theorem bare_landOne (d : Den) (x : Tile) (l : Landing) : bare (landOne d x l) = bare x :=
  bare_write x l.dest (landValue d l) l.mask

theorem acc_landOne (d : Den) (x : Tile) (l : Landing) : (landOne d x l).acc = x.acc := acc_write x l.dest (landValue d l) l.mask

/-- Results that go elsewhere leave a register as it was. -/
theorem testBit_foldl_landOne_other (d : Den) {r : Reg} {j : Nat} (hj : j < regWidth r) (ls : List Landing) (x : Tile)
    (h : r ∉ ls.map (·.dest)) : (tileBits (ls.foldl (landOne d) x) r).testBit j = (tileBits x r).testBit j := by
  induction ls generalizing x with
  | nil => rfl
  | cons l ls ih =>
    rw [List.map_cons, List.mem_cons, not_or] at h
    rw [List.foldl_cons, ih _ h.2, testBit_landOne d x l r hj, if_neg (fun e => h.1 e.1)]

/-- Of results that go to different registers each one lands in its own (R104). -/
theorem testBit_foldl_landOne (d : Den) {l : Landing} {j : Nat} (hj : j < regWidth l.dest) (ls : List Landing) (x : Tile)
    (hnd : (ls.map (·.dest)).Nodup) (hl : l ∈ ls) : (tileBits (ls.foldl (landOne d) x) l.dest).testBit j =
      if l.mask.getLsbD j then (landValue d l).getLsbD j else (tileBits x l.dest).testBit j := by
  induction ls generalizing x with
  | nil => cases hl
  | cons k ls ih =>
    rw [List.map_cons, List.nodup_cons] at hnd
    obtain rfl | hl := List.mem_cons.mp hl
    · rw [List.foldl_cons, testBit_foldl_landOne_other d hj ls _ hnd.1, testBit_landOne d x l l.dest hj]
      simp only [true_and]
    · have hne : l.dest ≠ k.dest := fun e => hnd.1 (e ▸ List.mem_map_of_mem hl)
      rw [List.foldl_cons, ih _ hnd.2 hl, testBit_landOne d x k l.dest hj]
      simp only [hne, false_and, if_false]

/-! ### Pump results -/

/-- A pump result lands in its register, all bits (R141). -/
def writeHeld (x : Tile) (g : Reg × BitVec 512) : Tile := x.write g.1 g.2 (BitVec.allOnes 512)

theorem testBit_writeHeld (x : Tile) (g : Reg × BitVec 512) (r : Reg) {j : Nat} (hj : j < regWidth r) :
    (tileBits (writeHeld x g) r).testBit j = if r = g.1 then g.2.getLsbD j else (tileBits x r).testBit j := by
  have h512 : j < 512 := by cases r <;> simp only [regWidth] at hj <;> omega
  rw [writeHeld, testBit_write x g.1 r g.2 _ hj]
  simp only [BitVec.getLsbD_allOnes, h512, decide_true, and_true]

theorem bare_writeHeld (x : Tile) (g : Reg × BitVec 512) : bare (writeHeld x g) = bare x := bare_write x g.1 g.2 _

theorem acc_writeHeld (x : Tile) (g : Reg × BitVec 512) : (writeHeld x g).acc = x.acc := acc_write x g.1 g.2 _

theorem testBit_foldl_writeHeld_other {r : Reg} {j : Nat} (hj : j < regWidth r) (hs : List (Reg × BitVec 512)) (x : Tile)
    (h : r ∉ hs.map (·.1)) : (tileBits (hs.foldl writeHeld x) r).testBit j = (tileBits x r).testBit j := by
  induction hs generalizing x with
  | nil => rfl
  | cons g hs ih =>
    rw [List.map_cons, List.mem_cons, not_or] at h
    rw [List.foldl_cons, ih _ h.2, testBit_writeHeld x g r hj, if_neg h.1]

theorem testBit_foldl_writeHeld {g : Reg × BitVec 512} {j : Nat} (hj : j < regWidth g.1) (hs : List (Reg × BitVec 512)) (x : Tile)
    (hnd : (hs.map (·.1)).Nodup) (hg : g ∈ hs) : (tileBits (hs.foldl writeHeld x) g.1).testBit j = g.2.getLsbD j := by
  induction hs generalizing x with
  | nil => cases hg
  | cons k hs ih =>
    rw [List.map_cons, List.nodup_cons] at hnd
    obtain rfl | hg := List.mem_cons.mp hg
    · rw [List.foldl_cons, testBit_foldl_writeHeld_other hj hs _ hnd.1, testBit_writeHeld x g g.1 hj, if_pos rfl]
    · rw [List.foldl_cons, ih _ hnd.2 hg]

/-! ### Matrix results -/

/-- A matrix operation lands in the tile (R164). -/
def landMatTile (x : Tile) (m : MatOp) : Tile := (landMat x m).1

theorem bare_landMatTile (x : Tile) (m : MatOp) : bare (landMatTile x m) = bare x := by
  unfold landMatTile landMat
  split <;> rfl

theorem tileBits_landMatTile (x : Tile) (m : MatOp) : tileBits (landMatTile x m) = tileBits x := by
  funext r
  unfold landMatTile landMat
  split <;> cases r <;> rfl

/-- The cells of a block after a matrix operation lands: its own from what they were, those of other blocks as before. -/
theorem cells_landMatTile (x : Tile) (m : MatOp) (td : Nat) : (kget {} (landMatTile x m).acc td).cells =
    if m.superseded = false ∧ td = m.td then (landMatrix m (kget {} x.acc td).cells).cells else (kget {} x.acc td).cells := by
  unfold landMatTile landMat
  cases m.superseded
  · by_cases htd : td = m.td
    · subst htd; simp
    · simp [htd]
  · simp

theorem cells_foldl_landMatTile_other {td : Nat} (ms : List MatOp) (x : Tile) (h : ∀ m ∈ ms, m.superseded = false → m.td ≠ td) :
    (kget {} (ms.foldl landMatTile x).acc td).cells = (kget {} x.acc td).cells := by
  induction ms generalizing x with
  | nil => rfl
  | cons m ms ih =>
    rw [List.forall_mem_cons] at h
    rw [List.foldl_cons, ih _ h.2, cells_landMatTile, if_neg (fun e => h.1 e.1 e.2.symm)]

/-- Of operations that go to different blocks each one lands in its own; those superseded land nothing (R104, R164). -/
theorem cells_foldl_landMatTile {m : MatOp} (ms : List MatOp) (x : Tile)
    (hnd : ((ms.filter fun m => !m.superseded).map (·.td)).Nodup) (hm : m ∈ ms) (hs : m.superseded = false) :
    (kget {} (ms.foldl landMatTile x).acc m.td).cells = (landMatrix m (kget {} x.acc m.td).cells).cells := by
  induction ms generalizing x with
  | nil => cases hm
  | cons k ms ih =>
    rw [List.foldl_cons]
    obtain rfl | hm := List.mem_cons.mp hm
    · rw [List.filter_cons_of_pos (by simp [hs]), List.map_cons, List.nodup_cons] at hnd
      have hother : ∀ k ∈ ms, k.superseded = false → k.td ≠ m.td := fun k hk hks e =>
        hnd.1 (e ▸ List.mem_map_of_mem (List.mem_filter.mpr ⟨hk, by simp [hks]⟩))
      rw [cells_foldl_landMatTile_other ms _ hother, cells_landMatTile, if_pos ⟨hs, rfl⟩]
    · cases hks : k.superseded
      · rw [List.filter_cons_of_pos (by simp [hks]), List.map_cons, List.nodup_cons] at hnd
        have hne : m.td ≠ k.td := fun e => hnd.1 (e ▸ List.mem_map_of_mem (List.mem_filter.mpr ⟨hm, by simp [hs]⟩))
        rw [ih _ hnd.2 hm, cells_landMatTile, if_neg (fun e => hne e.2)]
      · rw [List.filter_cons_of_neg (by simp [hks])] at hnd
        rw [ih _ hnd hm, cells_landMatTile, if_neg (by simp [hks])]

/-! ### Step 2 of a bundle's cycle -/

/-- A tile's registers once what is due has landed in them: the fixed-latency results, then the pump results (R102, R141). -/
def landRegs (d : Den) (x : Tile) (held : List (Reg × BitVec 512)) : Tile :=
  held.foldl writeHeld ((x.landings.filter fun l => l.left == 0).foldl (landOne d) x)

/-- A tile after what is due has landed in its registers and blocks (R102). -/
def landBody (d : Den) (x : Tile) (held : List (Reg × BitVec 512)) : Tile :=
  (x.mats.filter fun m => m.left == 0).foldl landMatTile (landRegs d x held)

/-- A tile without the results that are due. -/
def dropDue (x : Tile) : Tile :=
  { x with landings := x.landings.filter fun l => l.left != 0, mats := x.mats.filter fun m => m.left != 0 }

/-- A tile after what is due in it has landed and has left the pipelines (R102). -/
def landTile (d : Den) (x : Tile) (held : List (Reg × BitVec 512)) : Tile := dropDue (landBody d x held)

theorem bare_landRegs (d : Den) (x : Tile) (held : List (Reg × BitVec 512)) : bare (landRegs d x held) = bare x := by
  rw [landRegs, foldl_keeps_of bare _ _ _ bare_writeHeld, foldl_keeps_of bare _ _ _ (bare_landOne d)]

theorem acc_landRegs (d : Den) (x : Tile) (held : List (Reg × BitVec 512)) : (landRegs d x held).acc = x.acc := by
  rw [landRegs, foldl_keeps_of Tile.acc _ _ _ acc_writeHeld, foldl_keeps_of Tile.acc _ _ _ (acc_landOne d)]

theorem tileBits_landTile (d : Den) (x : Tile) (held : List (Reg × BitVec 512)) :
    tileBits (landTile d x held) = tileBits (landRegs d x held) := by
  rw [← foldl_keeps_of tileBits landMatTile (x.mats.filter fun m => m.left == 0) (landRegs d x held) tileBits_landMatTile]
  funext r
  cases r <;> rfl

theorem bare_landBody (d : Den) (x : Tile) (held : List (Reg × BitVec 512)) : bare (landBody d x held) = bare x := by
  rw [landBody, foldl_keeps_of bare _ _ _ bare_landMatTile, bare_landRegs]

/-- What lands in a tile leaves all but its results as they were. -/
theorem bare_landTile (d : Den) (x : Tile) (held : List (Reg × BitVec 512)) : bare (landTile d x held) = dropDue (bare x) :=
  congrArg dropDue (bare_landBody d x held)

/-- `landed` of O12: what of `x` is due stands in `y`, and the rest is `n` cycles nearer. -/
def Landed (n : Nat) (x y : Tile) : Prop :=
  (∀ l ∈ x.landings, l.left = 0 → l.vote = none → ∀ j < regWidth l.dest,
    (tileBits y l.dest).testBit j = if l.mask.getLsbD j then l.val.getLsbD j else (tileBits x l.dest).testBit j) ∧
  (∀ m ∈ x.mats, m.left = 0 → m.superseded = false →
    (kget {} y.acc m.td).cells = (landMatrix m (kget {} x.acc m.td).cells).cells) ∧
  y.landings = (x.landings.filter (·.left != 0)).map (fun l => { l with left := l.left - n }) ∧
  y.mats = (x.mats.filter (·.left != 0)).map (fun m => { m with left := m.left - n })

/-- What no clash stands between goes to registers and blocks that all differ (R104). -/
theorem nodup_of_not_clashes {x : Tile} {held : List (Reg × BitVec 512)} (h : clashes x held = false) :
    ((x.landings.filter fun l => l.left == 0).map (·.dest) ++ held.map (·.1)).Nodup ∧
      (((x.mats.filter fun m => m.left == 0).filter fun m => !m.superseded).map (·.td)).Nodup := by
  simp only [clashes, Bool.or_eq_false_iff, hasTwice_eq_false] at h
  refine ⟨h.1, ?_⟩
  rw [List.filter_filter]
  simpa only [Bool.and_comm] using h.2

theorem landTile_landed (d : Den) {x : Tile} {held : List (Reg × BitVec 512)} (h : clashes x held = false) :
    Landed 0 x (landTile d x held) := by
  obtain ⟨hregs, hblocks⟩ := nodup_of_not_clashes h
  obtain ⟨hdue, -, hdisj⟩ := List.nodup_append'.mp hregs
  refine ⟨fun l hl hleft hvote j hj => ?_, fun m hm hleft hs => ?_, ?_, ?_⟩
  · have hmem : l ∈ x.landings.filter fun l => l.left == 0 := List.mem_filter.mpr ⟨hl, by simp [hleft]⟩
    have hval : landValue d l = l.val := by rw [landValue, hvote]
    rw [tileBits_landTile, landRegs, testBit_foldl_writeHeld_other hj held _ (hdisj (List.mem_map_of_mem hmem)),
      testBit_foldl_landOne d hj _ x hdue hmem, hval]
  · have hmem : m ∈ x.mats.filter fun m => m.left == 0 := List.mem_filter.mpr ⟨hm, by simp [hleft]⟩
    refine (cells_foldl_landMatTile _ _ hblocks hmem hs).trans ?_
    rw [acc_landRegs]
  · exact (congrArg Tile.landings (bare_landTile d x held)).trans (by simp [dropDue, bare])
  · exact (congrArg Tile.mats (bare_landTile d x held)).trans (by simp [dropDue, bare])

/-- The pump results stand in their registers (R141). -/
theorem landTile_held (d : Den) {x : Tile} {held : List (Reg × BitVec 512)} (h : clashes x held = false) {g : Reg × BitVec 512}
    (hg : g ∈ held) : tileBits (landTile d x held) g.1 = g.2.toNat % 2 ^ regWidth g.1 := by
  have hnd : (held.map (·.1)).Nodup := (List.nodup_append'.mp (nodup_of_not_clashes h).1).2.1
  refine Nat.eq_of_testBit_eq fun j => ?_
  rw [Nat.testBit_mod_two_pow]
  by_cases hj : j < regWidth g.1
  · rw [tileBits_landTile, landRegs, testBit_foldl_writeHeld hj held _ hnd hg, BitVec.testBit_toNat]
    simp [hj]
  · have hlt : tileBits (landTile d x held) g.1 < 2 ^ j :=
      (tileBits_lt _ _).trans_le (Nat.pow_le_pow_right (by decide) (Nat.not_lt.mp hj))
    rw [Nat.testBit_lt_two_pow hlt]
    simp [hj]

/-- The tile that `State.land` leaves, and every other one. -/
theorem land_tile (s : State) (slot t n : Nat) (held : List (Reg × BitVec 512)) :
    (s.land slot t held).tile n = if n = t then landTile (s.den slot) (s.tile t) held else s.tile n := by
  have hfst (ms : List MatOp) (x : Tile) (l : List Nat) : (ms.foldl (fun (x, l) m =>
      let (x, k) := landMat x m
      (x, l ++ k.toList)) (x, l)).1 = ms.foldl landMatTile x := by
    induction ms generalizing x l with
    | nil => rfl
    | cons m ms ih => exact ih _ _
  have htile : (s.land slot t held).tile n = (s.setTile t (landTile (s.den slot) (s.tile t) held)).tile n := by
    unfold State.land landTile dropDue landBody
    rw [← hfst _ _ []]
    dsimp only
    split <;> rfl
  rw [htile, setTile_tile]

/-! ### A bundle's cycle -/

theorem popSeam_tile (s : State) (t : Nat) (pop : Option (Nat × SeamSlot)) (u : List Upset) :
    ∃ la, (s.popSeam t pop u).tile t = { s.tile t with latches := la } := by
  unfold State.popSeam
  split
  · exact ⟨_, rfl⟩
  · dsimp only
    split <;> exact ⟨_, (setTile_tile s t t _).trans (if_pos rfl)⟩

/-- The checks of step 1 take effect on a tile's tags and latches alone (R102, R202). -/
theorem applyStep1_tile (s : State) (t : Nat) (halt : Bool) (pop : Option (Nat × SeamSlot)) (u : List Upset) :
    ∃ pu la, (applyStep1 s t halt pop u).tile t = { s.tile t with pump := pu, latches := la } := by
  unfold applyStep1
  dsimp only
  obtain ⟨la, h⟩ := popSeam_tile (s.modTile t _) t pop u
  rw [h, modTile_tile, if_pos rfl]
  exact ⟨_, la, rfl⟩

theorem passed_tile {s p : State} {t : TileIx} {slot : Nat} {kind : BundleKind} (h : s.passed t slot kind = some p) :
    ∃ pu la, p.tile t.val = { s.tile t.val with pump := pu, latches := la } := by
  unfold State.passed at h
  dsimp only at h
  split at h
  · obtain rfl := Option.some.inj h
    exact ⟨_, _, rfl⟩
  · split at h
    · obtain rfl := Option.some.inj h
      exact applyStep1_tile s t.val _ _ _
    · cases h

/-- A bundle that opens afresh: its checks have passed, nothing clashes, and what is due has landed (R102). -/
theorem opens_tile {s u : State} {t : TileIx} {slot : Nat} {kind : BundleKind} (h : s.opens t slot kind = some u)
    (hop : (s.tile t.val).opened = false) : clashes (s.tile t.val) (heldResults (s.tile t.val) ((s.tile t.val).halts kind)) = false ∧
      ∃ d pu la, u.tile t.val = { landTile d { s.tile t.val with pump := pu, latches := la }
        (heldResults (s.tile t.val) ((s.tile t.val).halts kind)) with opened := true } := by
  unfold State.opens at h
  dsimp only at h
  rw [hop] at h
  split at h
  · cases h
  split at h
  · cases h
  next p hp =>
  obtain ⟨pu, la, hpt⟩ := passed_tile hp
  simp only [Bool.false_eq_true, if_false] at h
  split at h
  · cases h
  split at h
  · cases h
  split at h
  · cases h
  next hcl =>
  simp only [Bool.or_eq_true, not_or, Bool.not_eq_true, Bool.not_eq_eq_eq_not] at hcl
  obtain rfl := Option.some.inj h
  rw [hpt] at hcl
  refine ⟨hcl.2, p.den slot, pu, la, ?_⟩
  rw [modTile_tile, if_pos rfl, land_tile, if_pos rfl, hpt]

/-- A tile whose freeze is set, or any other tile: it differs in how it is frozen alone. -/
theorem setFrozen_tile (s : State) (t n : Nat) (f : Option Frozen) :
    ∃ g, (s.setTile t { s.tile t with frozen := f }).tile n = { s.tile n with frozen := g } := by
  rw [setTile_tile]
  split
  · next h => subst h; exact ⟨f, rfl⟩
  · exact ⟨_, rfl⟩

theorem tile_of_tiles_eq {s u : State} (h : u.tiles = s.tiles) (n : Nat) : u.tile n = s.tile n := by
  unfold State.tile
  rw [h]

/-- Reports of a slip change how a tile is frozen and nothing else of any tile (R81, R82). -/
theorem reportError_tile (s : State) (slot t n : Nat) (code : Code) (src tag : Nat) :
    ∃ f, (s.reportError slot t code src tag).tile n = { s.tile n with frozen := f } := by
  unfold State.reportError
  dsimp only
  split
  · exact ⟨_, rfl⟩
  · split
    · rw [tile_of_tiles_eq (enterFaulted_frame _ _ _ _ _).2.2.2.1]
      exact setFrozen_tile s t n _
    · exact setFrozen_tile s t n _

theorem settleTile_tile (s : State) (slot t n : Nat) : ∃ f, (s.settleTile slot t).tile n = { s.tile n with frozen := f } := by
  unfold State.settleTile
  dsimp only
  split
  · exact ⟨_, rfl⟩
  split
  · exact ⟨_, rfl⟩
  split
  · exact reportError_tile s slot t n _ _ _
  split
  · split <;> exact setFrozen_tile s t n _
  · exact ⟨_, rfl⟩

theorem settleAcross_tile (s : State) (slot t n : Nat) : ∃ f, (s.settleAcross slot t).tile n = { s.tile n with frozen := f } := by
  unfold State.settleAcross
  dsimp only
  split
  · split
    · exact settleTile_tile s slot _ n
    · exact ⟨_, rfl⟩
  · exact ⟨_, rfl⟩

theorem reportHalt_tile (s : State) (slot t n : Nat) : (s.reportHalt slot t).tile n = s.tile n := by
  unfold State.reportHalt
  split
  · simp [State.tile]
  · rfl

/-- A tile at the end of its bundle (R102): the pipelines have advanced, and its number is one higher. -/
def endTile (x : Tile) : Tile := Tile.settleHalt { x.advance with bundle := x.bundle + 1, opened := false }

/-- The end of a bundle moves its tile on, but for how it is frozen (R102). -/
theorem endBundle_tile (s : State) (slot t : Nat) : ∃ f, (s.endBundle slot t).tile t = { endTile (s.tile t) with frozen := f } := by
  have hhalt : ((s.modTile t endTile).reportHalt slot t).tile t = endTile (s.tile t) := by
    rw [reportHalt_tile, modTile_tile, if_pos rfl]
  have horigin (d : Den) (f : Den → Den) : (if t = d.rect.origin then ((s.modTile t endTile).reportHalt slot t).modDen slot f
      else (s.modTile t endTile).reportHalt slot t).tile t = endTile (s.tile t) := by
    rw [← hhalt]
    split <;> rfl
  unfold State.endBundle
  dsimp only
  split
  · exact ⟨_, horigin _ _⟩
  · obtain ⟨f, hf⟩ := settleAcross_tile _ slot t t
    exact ⟨f, hf.trans (congrArg (fun y : Tile => { y with frozen := f }) (horigin _ _))⟩

/-- A stop changes the phase and clears the stacks, and nothing else (R116). -/
theorem settleHalt_eq (x : Tile) : ∃ ph lo ca, x.settleHalt = { x with phase := ph, loops := lo, calls := ca } := by
  unfold Tile.settleHalt
  split
  · exact ⟨_, _, _, rfl⟩
  · exact ⟨_, _, _, rfl⟩

/-- What has landed stays so while the pipelines advance by a cycle (R50, R116). -/
theorem Landed.advance {x y : Tile} (h : Landed 0 x y) : Landed 1 x y.advance := by
  obtain ⟨hregs, hblocks, hl, hm⟩ := h
  exact ⟨hregs, hblocks, ((congrArg (List.map fun l : Landing => { l with left := l.left - 1 }) hl).trans List.map_map :),
    ((congrArg (List.map fun m : MatOp => { m with left := m.left - 1 }) hm).trans List.map_map :)⟩

/-- The registers, the blocks and the pipelines say what has landed. -/
theorem Landed.congr {n : Nat} {x y z : Tile} (h : Landed n x y) (hs : z.s = y.s) (hv : z.v = y.v) (ha : z.a = y.a) (hp : z.p = y.p)
    (hacc : z.acc = y.acc) (hl : z.landings = y.landings) (hm : z.mats = y.mats) : Landed n x z := by
  have hbits : tileBits z = tileBits y := by
    funext r
    cases r <;> simp only [tileBits, Tile.sreg, Tile.vreg, Tile.areg, Tile.preg, hs, hv, ha, hp]
  rw [Landed, hbits, hacc, hl, hm]
  exact h

/-- A tile that can issue is running (R69). -/
theorem phase_of_issues {s : State} {t : TileIx} {slot : Nat} (h : s.issues t slot = true) : (s.tile t.val).phase = .running := by
  simp only [State.issues, Bool.and_eq_true, beq_iff_eq] at h
  have hg := h.2
  unfold issueGuard at hg
  split at hg
  · cases hg
  · next hp => simp at hp; exact hp.1.1

/-- The end of a bundle keeps what has landed, and moves the tile on by one bundle (R102). -/
theorem endTile_landed {x z : Tile} (h : Landed 0 x z) (n : Nat) (f : Option Frozen) :
    let y : Tile := { endTile { z with idle := n } with frozen := f }
    Landed 1 x y ∧ y.bundle = z.bundle + 1 ∧ y.opened = false ∧ y.idle = n ∧ y.addr = z.addr ∧ y.last = z.last ∧ y.spad = z.spad := by
  obtain ⟨ph, lo, ca, hset⟩ :=
    settleHalt_eq { ({ z with idle := n } : Tile).advance with bundle := z.bundle + 1, opened := false }
  unfold endTile
  dsimp only
  rw [hset]
  exact ⟨h.advance.congr rfl rfl rfl rfl rfl rfl rfl, rfl, rfl, rfl, rfl, rfl, rfl⟩

/-- The state that the slots of a tile's bundle see: what was due has landed, and the tile's place in its program is as before (R102). -/
theorem tile_of_opens {s u : State} {t : TileIx} {slot : Nat} {kind : BundleKind} (h : s.opens t slot kind = some u)
    (hop : (s.tile t.val).opened = false) :
    Landed 0 (s.tile t.val) (u.tile t.val) ∧ (u.tile t.val).bundle = (s.tile t.val).bundle ∧
      (u.tile t.val).idle = (s.tile t.val).idle ∧ (u.tile t.val).addr = (s.tile t.val).addr ∧
      (u.tile t.val).last = (s.tile t.val).last ∧ (u.tile t.val).spad = (s.tile t.val).spad := by
  obtain ⟨hcl, d, pu, la, hu⟩ := opens_tile h hop
  have hland : Landed 0 (s.tile t.val) _ := landTile_landed d (x := { s.tile t.val with pump := pu, latches := la }) hcl
  have hbare := bare_landTile d { s.tile t.val with pump := pu, latches := la } (heldResults (s.tile t.val) ((s.tile t.val).halts kind))
  rw [hu]
  exact ⟨hland.congr rfl rfl rfl rfl rfl rfl rfl, (congrArg Tile.bundle hbare :), (congrArg Tile.idle hbare :),
    (congrArg Tile.addr hbare :), (congrArg Tile.last hbare :), (congrArg Tile.spad hbare :)⟩

/-- A bundle without slots, from its opening to its end: what was due has landed, and the tile is one bundle on. -/
theorem endTile_of_opens {s u : State} {t : TileIx} {slot : Nat} {kind : BundleKind} {f : Option Frozen} {n : Nat}
    (h : s.opens t slot kind = some u) (hop : (s.tile t.val).opened = false) {y : Tile}
    (hy : y = { endTile { u.tile t.val with idle := n } with frozen := f }) :
    Landed 1 (s.tile t.val) y ∧ y.bundle = (s.tile t.val).bundle + 1 ∧ y.opened = false ∧ y.idle = n ∧
      y.addr = (s.tile t.val).addr ∧ y.last = (s.tile t.val).last ∧ y.spad = (s.tile t.val).spad := by
  obtain ⟨hland, hbundle, -, haddr, hlast, hspad⟩ := tile_of_opens h hop
  rw [hy, ← hbundle, ← haddr, ← hlast, ← hspad]
  exact endTile_landed hland n f

/-! ### The commands -/

theorem opens_of_clean {s u : State} {t : TileIx} {slot : Nat} {kind : BundleKind} (h : s.clean u t slot kind = true) :
    s.opens t slot kind = some u := by
  simp only [State.clean, Bool.and_eq_true, beq_iff_eq] at h
  exact h.1

/-- The cycle of an empty bundle (R107): an idle cycle fewer. -/
theorem issueCycle_empty {s u : State} {t : TileIx} {slot : Nat} (h : s.opens t slot .empty = some u) :
    issueCycle s slot (s.den slot) t.val (s.tile t.val) .empty {} =
      .next ((u.modTile t.val fun y => { y with idle := y.idle - 1 }).endBundle slot t.val) := by
  rw [issueCycle, (openBundle_of_opens h _).2]
  rfl

/-- The cycle of a throttle bundle (R658): the origin notes it for the others. -/
theorem issueCycle_throttle {s u : State} {t : TileIx} {slot : Nat} (h : s.opens t slot .throttle = some u) :
    issueCycle s slot (s.den slot) t.val (s.tile t.val) .throttle {} =
      .next (State.endBundle (if t.val = (s.den slot).rect.origin then u.modDen slot fun d =>
        { d with wave := { d.wave with throttles := d.wave.throttles ++ [(s.tile t.val).bundle] } } else u) slot t.val) := by
  rw [issueCycle, (openBundle_of_opens h _).2]
  simp

/-- The pump results that wait at a running tile's next bundle are those of that bundle's kind (R116). -/
theorem halts_kindNow {d : Den} {t : Nat} {x : Tile} (h : x.phase = .running) : x.halts (x.kindNow d t) = atHalt d t x := by
  unfold Tile.halts Tile.kindNow atHalt
  cases throttled d t x
  · by_cases hi : x.idle = 0
    · simp [h, hi]
    · simp [hi, show (BundleKind.empty == .stored) = false from rfl]
  · simp

/-- A tile after a drain cycle of its pipelines (R116). -/
def drainTile (x : Tile) : Tile := Tile.settleHalt { x.advance with drained := x.drained + 1 }

/-- A drain cycle (R116): what is due lands, the pipelines advance, and the tile reports its stop once they are empty. -/
theorem exec_drainCycle {s : State} {t : TileIx} {slot : Nat} (hs : s.slotOf t.val = some slot)
    (hp : (s.tile t.val).phase = .draining) (hf : (s.tile t.val).frozen = none) (hfe : (s.tile t.val).fenced = false)
    (hv : votesIn (s.den slot) (s.tile t.val)) (hc : clashes (s.tile t.val) [] = false) :
    exec (.drainCycle t) s = .next (((s.land slot t.val []).modTile t.val drainTile).reportHalt slot t.val) := by
  change execDrainCycle t s = _
  unfold execDrainCycle
  simp only [hs, hp, hf, hfe, hv, hc]
  rfl

theorem settleHalt_stopped {x : Tile} (h : x.phase = .draining) :
    (x.settleHalt.phase = .stopped ↔ x.settleHalt.landings = [] ∧ x.settleHalt.mats = []) ∧
      (x.settleHalt.phase = .stopped → x.settleHalt.loops = [] ∧ x.settleHalt.calls = []) := by
  unfold Tile.settleHalt
  split
  · next he => exact ⟨⟨fun _ => he.2, fun _ => rfl⟩, fun _ => ⟨rfl, rfl⟩⟩
  · next he => simp_all

/-- Settles O12: what lands, and what a cycle without a stored bundle leaves. -/
theorem streamCycles : Obligations.StreamCycles := by
  unfold Obligations.StreamCycles
  intro bits width landed
  have hbits : bits = tileBits := by funext x r; cases r <;> rfl
  have hwidth : width = regWidth := by funext r; cases r <;> rfl
  have hlanded : landed = Landed := by
    funext n x y
    simp only [landed, hbits, hwidth]
    rfl
  rw [hlanded, hbits, hwidth]
  refine ⟨fun s u t slot x hx hop hi hth hc => ?_, fun s u t slot x hx hop hth hc => ?_, fun s t slot x hs hx hp hf hfe hv hcl => ?_,
    fun s u t slot x hx hop hu hdue => ?_⟩
  · subst hx
    have hu := opens_of_clean hc
    obtain ⟨f, hf⟩ := endBundle_tile (u.modTile t.val fun y => { y with idle := y.idle - 1 }) slot t.val
    rw [modTile_tile, if_pos rfl] at hf
    have hend := endTile_of_opens hu hop hf
    rw [(tile_of_opens hu hop).2.2.1] at hend
    refine ⟨_, ?_, hend⟩
    change occurs s (withIssue s t.val _) = _
    rw [withIssue_of_issues (openBundle_of_opens hu .next).1, if_neg hi, if_neg (by simp [hth]), issueCycle_empty hu, occurs_next]
  · subst hx
    have hu := opens_of_clean hc
    obtain ⟨f, hf⟩ := endBundle_tile (if t.val = (s.den slot).rect.origin then u.modDen slot fun d =>
        { d with wave := { d.wave with throttles := d.wave.throttles ++ [(s.tile t.val).bundle] } } else u) slot t.val
    have hsame (g : Den → Den) : (if t.val = (s.den slot).rect.origin then u.modDen slot g else u).tile t.val = u.tile t.val := by
      split <;> rfl
    rw [hsame] at hf
    have hend := endTile_of_opens (n := (u.tile t.val).idle) hu hop hf
    rw [(tile_of_opens hu hop).2.2.1] at hend
    refine ⟨_, ?_, hend⟩
    change occurs s (withIssue s t.val _) = _
    rw [withIssue_of_issues (openBundle_of_opens hu .next).1, if_pos hth, issueCycle_throttle hu, occurs_next]
  · subst hx
    have hbare := bare_landTile (s.den slot) (s.tile t.val) []
    have hland := (landTile_landed (s.den slot) hcl).advance
    refine ⟨_, exec_drainCycle hs hp hf hfe hv hcl, ?_⟩
    beta_reduce
    rw [reportHalt_tile, modTile_tile, if_pos rfl, land_tile, if_pos rfl, drainTile]
    have hstop := settleHalt_stopped (x := { (landTile (s.den slot) (s.tile t.val) []).advance with
      drained := (landTile (s.den slot) (s.tile t.val) []).drained + 1 }) ((congrArg Tile.phase hbare).trans hp :)
    obtain ⟨ph, lo, ca, hset⟩ := settleHalt_eq { (landTile (s.den slot) (s.tile t.val) []).advance with
      drained := (landTile (s.den slot) (s.tile t.val) []).drained + 1 }
    rw [hset] at hstop ⊢
    refine ⟨hland.congr rfl rfl rfl rfl rfl rfl rfl, (congrArg Tile.bundle hbare :), (congrArg Tile.addr hbare :),
      (congrArg (fun y => y.pump.tags) hbare :), ?_, (congrArg (fun y => y.drained + 1) hbare :), hstop⟩
    simp
  · subst hx
    have hi := (openBundle_of_opens hu .next).1
    obtain ⟨hcl, d, pu, la, hut⟩ := opens_tile hu hop
    rw [halts_kindNow (phase_of_issues hi)] at hcl hut
    have hbare := bare_landTile d { s.tile t.val with pump := pu, latches := la }
      (heldResults (s.tile t.val) (atHalt (s.den slot) t.val (s.tile t.val)))
    refine ⟨u, ?_, ?_⟩
    · change occurs s (withIssue s t.val _) = _
      rw [withIssue_of_issues hi, need_true _ _ _ (by simpa [hop] using hdue), (openBundle_of_opens hu _).2, occurs_next]
    · have hland : Landed 0 (s.tile t.val) _ := landTile_landed d (x := { s.tile t.val with pump := pu, latches := la }) hcl
      have hopened (y : Tile) : tileBits { y with opened := true } = tileBits y := by funext r; cases r <;> rfl
      beta_reduce
      rw [hut]
      exact ⟨hland.congr rfl rfl rfl rfl rfl rfl rfl, fun g hg => (congrFun (hopened _) g.1).trans
          (landTile_held d (x := { s.tile t.val with pump := pu, latches := la }) hcl hg), rfl, (congrArg Tile.bundle hbare :),
        (congrArg Tile.addr hbare :), (congrArg Tile.idle hbare :)⟩

end Sys2Proof.Proofs
end

section
/-! PROOFS. Relay arrivals, slips and the seam (R55, R79 to R96, R209 to R214). -/

namespace Sys2Proof.Proofs

open Sys2Proof Sys2Proof.Machine Sys2Proof.Laws

/-! ### Signals of the wave -/

theorem takeSignal_of_find? {s : State} {slot t : Nat} {came : Dir} {p : WaveSig → Bool} {g : Signal}
    (h : (s.den slot).wave.signals.find? (fun g => g.dest == t && g.came == came && p g.sig) = some g) :
    s.takeSignal slot t came p = some (g, s.modDen slot fun d => { d with wave := { d.wave with
      signals := dropFirst (fun g => g.dest == t && g.came == came && p g.sig) d.wave.signals } }) := by
  unfold State.takeSignal
  dsimp only
  rw [h]
  rfl

/-! ### How a tile is frozen -/

theorem freezeTile_tile (s : State) (slot t : Nat) (source : Option (Nat × Nat)) (cyc : Nat) (from_ : Option Dir) :
    (s.freezeTile slot t source cyc from_).tile t = { s.tile t with frozen := some { source := source, since := cyc } } := by
  have h := (modTile_tile s t t fun x => { x with frozen := some { source := source, since := cyc } }).trans (if_pos rfl)
  unfold State.freezeTile
  dsimp only
  split <;> exact h

/-- A report leaves a frozen tile frozen as it was, but for the mark that it has reported (R81, R82). -/
theorem setReported_frozen {s : State} {t n : Nat} {f k : Frozen} (hf : (s.tile t).frozen = some f) (hk : (s.tile n).frozen = some k) :
    ∃ b, ((s.setTile t { s.tile t with frozen := some { f with reported := true } }).tile n).frozen = some { k with reported := b } := by
  rw [setTile_tile]
  split
  · next h =>
      subst h
      rw [hf] at hk
      obtain rfl := Option.some.inj hk
      exact ⟨true, rfl⟩
  · exact ⟨k.reported, hk⟩

theorem reportError_frozen {s : State} {n : Nat} {k : Frozen} (slot t : Nat) (code : Code) (src tag : Nat)
    (hk : (s.tile n).frozen = some k) :
    ∃ b, ((s.reportError slot t code src tag).tile n).frozen = some { k with reported := b } := by
  unfold State.reportError
  dsimp only
  split
  · exact ⟨k.reported, hk⟩
  · next f hf =>
      split
      · rw [tile_of_tiles_eq (enterFaulted_frame _ _ _ _ _).2.2.2.1]
        exact setReported_frozen hf hk
      · exact setReported_frozen hf hk

theorem settleTile_frozen {s : State} {n : Nat} {k : Frozen} (slot t : Nat) (hk : (s.tile n).frozen = some k) :
    ∃ b, ((s.settleTile slot t).tile n).frozen = some { k with reported := b } := by
  unfold State.settleTile
  dsimp only
  split
  · exact ⟨k.reported, hk⟩
  next f hf =>
  split
  · exact ⟨k.reported, hk⟩
  split
  · exact reportError_frozen slot t _ _ _ hk
  split
  · split <;> exact setReported_frozen hf hk
  · exact ⟨k.reported, hk⟩

theorem settleAcross_frozen {s : State} {n : Nat} {k : Frozen} (slot t : Nat) (hk : (s.tile n).frozen = some k) :
    ∃ b, ((s.settleAcross slot t).tile n).frozen = some { k with reported := b } := by
  unfold State.settleAcross
  dsimp only
  split
  · split
    · exact settleTile_frozen slot _ hk
    · exact ⟨k.reported, hk⟩
  · exact ⟨k.reported, hk⟩

/-! ### What a slip and a fault leave in the den -/

theorem firstSource_isSome {l : List SlipSource} (h : l ≠ []) : ∃ a, firstSource l = some a := by
  cases l with
  | nil => exact absurd rfl h
  | cons a as =>
    unfold firstSource
    split
    · exact ⟨_, rfl⟩
    · dsimp only
      split <;> exact ⟨_, rfl⟩

/-- A slip that is recorded counts in its den's slip registers (R93 to R96). -/
theorem recordSlip_den {s : State} {slot l : Nat} {sources : List SlipSource} {old : Option Nat} (h : sources ≠ []) :
    let d := (s.recordSlip slot sources l old).den slot
    d.phase = (s.den slot).phase ∧ d.wave = (s.den slot).wave ∧ d.slipCyc = slipAdd (old.getD 0) l (s.den slot).slipCyc ∧
      d.slipCnt = slipAdd 0 (if old.isSome then 0 else 1) (s.den slot).slipCnt := by
  obtain ⟨a, ha⟩ := firstSource_isSome h
  unfold State.recordSlip
  rw [ha]
  dsimp only
  rw [setDen_den, if_pos rfl]
  exact ⟨rfl, rfl, rfl, rfl⟩

theorem failStep_den (s : State) (slot : Nat) (code : Code) :
    let d := (s.failStep slot code).den slot
    d.phase = (s.den slot).phase ∧ d.faultCode = (s.den slot).faultCode ∧ d.slipCyc = (s.den slot).slipCyc ∧
      d.slipCnt = (s.den slot).slipCnt := by
  unfold State.failStep
  dsimp only
  split
  · split
    · simp [State.setCur, State.den, State.setDen, State.setQueue]
    · simp
  · exact ⟨rfl, rfl, rfl, rfl⟩

theorem den_of_dens_eq {s u : State} (h : u.dens = s.dens) (n : Nat) : u.den n = s.den n := by
  unfold State.den
  rw [h]

theorem dropMove_slips (d : Den) : d.dropMove.slipCyc = d.slipCyc ∧ d.dropMove.slipCnt = d.slipCnt := by
  unfold Den.dropMove
  split <;> exact ⟨rfl, rfl⟩

/-- A running den that faults is FAULTED with the code, and its slip registers stay (R396). -/
theorem enterFaulted_den {s : State} {slot : Nat} (code : Code) (i : FaultInfo) (h : (s.den slot).phase = .running) :
    let d := (s.enterFaulted slot code i).den slot
    d.phase = .faulted ∧ d.faultCode = code ∧ d.slipCyc = (s.den slot).slipCyc ∧ d.slipCnt = (s.den slot).slipCnt := by
  unfold State.enterFaulted
  dsimp only
  split
  case h_5 => simp_all
  all_goals
    rw [if_pos rfl, den_of_dens_eq (beginReset_frame _ _ _).2.2.2.2.1, den_of_dens_eq (raise_frame _ _).2.2.2.2.1]
    obtain ⟨hphase, hcode, hcyc, hcnt⟩ := failStep_den _ _ _
    refine ⟨hphase.trans ?_, hcode.trans ?_, hcyc.trans ?_, hcnt.trans ?_⟩ <;> rw [setDen_den, if_pos rfl]
    · exact (dropMove_slips _).1
    · exact (dropMove_slips _).2

theorem freezeTile_den (s : State) (slot t : Nat) (source : Option (Nat × Nat)) (cyc : Nat) (from_ : Option Dir) :
    let d := (s.freezeTile slot t source cyc from_).den slot
    d.phase = (s.den slot).phase ∧ d.slipCyc = (s.den slot).slipCyc ∧ d.slipCnt = (s.den slot).slipCnt := by
  unfold State.freezeTile State.signal
  dsimp only
  rw [modDen_den, if_pos rfl]
  split
  · rw [modDen_den, if_pos rfl]
    exact ⟨rfl, rfl, rfl⟩
  · exact ⟨rfl, rfl, rfl⟩

/-- A running den that faults of itself (R396). -/
theorem denFault_den {s : State} {slot : Nat} (code : Code) (h : (s.den slot).phase = .running) :
    let d := (s.denFault slot code).den slot
    d.phase = .faulted ∧ d.faultCode = code ∧ d.slipCyc = (s.den slot).slipCyc ∧ d.slipCnt = (s.den slot).slipCnt := by
  unfold State.denFault
  dsimp only
  split
  · obtain ⟨hp, hcyc, hcnt⟩ := freezeTile_den s slot (s.den slot).rect.origin none
      ((s.den slot).cycle (s.den slot).rect.origin (s.tile (s.den slot).rect.origin)) none
    obtain ⟨hphase, hcode, hcyc', hcnt'⟩ := enterFaulted_den code { kind := 0xFF } (hp.trans h)
    exact ⟨hphase, hcode, hcyc'.trans hcyc, hcnt'.trans hcnt⟩
  · exact enterFaulted_den code _ h

/-- The resume signal leaves: the slip's sources are spent, and its registers stay (R83). -/
theorem sendResume_den (s : State) (slot : Nat) (ended : List SlipSource × Nat) :
    let d := (s.sendResume slot ended).den slot
    d.wave.z = (s.den slot).wave.z ∧ d.slipCyc = (s.den slot).slipCyc ∧ d.slipCnt = (s.den slot).slipCnt ∧ d.wave.sources = [] ∧
      d.wave.resuming = true := by
  unfold State.sendResume
  dsimp only
  rw [den_of_dens_eq (modTile_frame _ _ _).2.2.2.1, setDen_den, if_pos rfl]
  exact ⟨rfl, rfl, rfl, rfl, rfl⟩

/-- A running den that the stream owl faults (R89): Z takes the slip's length, and its registers stay. -/
theorem owlFault_den {s : State} {slot : Nat} (was l : Nat) (h : (s.den slot).phase = .running) :
    let d := ((s.modDen slot fun d => { d with wave := { d.wave with z := d.wave.z - was + l } }).denFault slot 0x000C).den slot
    d.phase = .faulted ∧ d.faultCode = 0x000C ∧ d.slipCyc = (s.den slot).slipCyc ∧ d.slipCnt = (s.den slot).slipCnt := by
  have hden := (modDen_den s slot slot fun d => { d with wave := { d.wave with z := d.wave.z - was + l } }).trans (if_pos rfl)
  obtain ⟨hphase, hcode, hcyc, hcnt⟩ := denFault_den 0x000C ((congrArg Den.phase hden).trans h)
  exact ⟨hphase, hcode, hcyc.trans (congrArg Den.slipCyc hden :), hcnt.trans (congrArg Den.slipCnt hden :)⟩

/-! ### The seam -/

theorem getLsbD_off {row j : Nat} (hj : j < 64) :
    (BitVec.allOnes 64 &&& ~~~(BitVec.ofNat 64 (2 ^ row))).getLsbD j = !decide (j = row) := by
  rw [BitVec.getLsbD_and, BitVec.getLsbD_not, BitVec.getLsbD_ofNat, Nat.testBit_two_pow, BitVec.getLsbD_allOnes]
  simp [hj, eq_comm]

/-- The seam trained with one crossing that has failing wires (R209): it is out of service where spares do not replace them all. -/
theorem train_one (m : Seam) (f : SeamFail) :
    (m.train [f]).trained = true ∧ (m.train [f]).fifos = [] ∧ (m.train [f]).p = 0 ∧
      (∀ j < 64, (m.train [f]).relayUp.getLsbD j = !(f.relay && decide (8 < f.wires) && decide (j = f.row.val))) ∧
      (∀ j < 64, (m.train [f]).meshUp.getLsbD j = !(!f.relay && decide (4 < f.wires) && decide (j = f.row.val))) := by
  have hall (j : Nat) (hj : j < 64) : (BitVec.allOnes 64).getLsbD j = true := by
    rw [BitVec.getLsbD_allOnes, decide_eq_true hj]
  unfold Seam.train
  rw [List.foldl_cons, List.foldl_nil]
  unfold seamFail
  cases hr : f.relay
  · by_cases hw : f.wires ≤ 4
    · simp only [Bool.false_eq_true, if_false, hw, hw.not_gt, if_true]
      exact ⟨trivial, trivial, trivial, fun j hj => by rw [hall j hj]; simp, fun j hj => by rw [hall j hj]; simp⟩
    · simp only [Bool.false_eq_true, if_false, hw, Nat.lt_of_not_le hw]
      exact ⟨trivial, trivial, trivial, fun j hj => by rw [hall j hj]; simp, fun j hj => by rw [getLsbD_off hj]; simp⟩
  · by_cases hw : f.wires ≤ 8
    · simp only [if_true, hw, hw.not_gt]
      exact ⟨trivial, trivial, trivial, fun j hj => by rw [hall j hj]; simp, fun j hj => by rw [hall j hj]; simp⟩
    · simp only [if_true, if_false, hw, Nat.lt_of_not_le hw]
      exact ⟨trivial, trivial, trivial, fun j hj => by rw [getLsbD_off hj]; simp, fun j hj => by rw [hall j hj]; simp⟩

theorem needSome_some {α : Type} {g : Guard} {o : Option α} {a : α} {k : α → Out State} (h : o = some a) : needSome g o k = k a := by
  rw [h]
  rfl

theorem relayArrival_lands {s : State} {t : TileIx} {d : Dir} {slot : Nat} {v : RelayVal} (hs : s.slotOf t.val = some slot)
    (hv : (s.den slot).wave.transit.find? (nextIn (s.den slot).wave t.val d) = some v) (hr : v.ready ≤ (s.tile t.val).bundle)
    (hfe : (s.tile t.val).fenced = false) (hl : (kget [] (s.tile t.val).latches (dirIx d)).length < 4) :
    Completes (exec (.relayArrival t d) s) fun r =>
      kget [] (r.tile t.val).latches (dirIx d) = kget [] (s.tile t.val).latches (dirIx d) ++ [{ val := v.val }] ∧
      (r.den slot).wave.transit = dropFirst (nextIn (s.den slot).wave t.val d) (s.den slot).wave.transit := by
  change Completes (execRelayArrival t d s) _
  unfold execRelayArrival
  rw [needSome_some hs, needSome_some hv, need_true _ _ _ (by simp [hr])]
  dsimp only
  rw [if_neg (by simp [hfe]), if_neg hl.not_ge]
  refine ⟨_, rfl, ?_, ?_⟩
  · rw [setTile_tile, if_pos rfl]
    exact kget_kput_same _ _ _ _
  · rw [den_of_dens_eq (setTile_frame _ _ _).2.2.2.1, modDen_den, if_pos rfl]

theorem freezeSignal_freezes {s : State} {t : TileIx} {came : Dir} {slot : Nat} {g : Signal} (hs : s.slotOf t.val = some slot)
    (hg : (s.den slot).wave.signals.find? (fun g => g.dest == t.val && g.came == came && g.sig == .freeze) = some g)
    (hf : (s.tile t.val).frozen = none) (hr : (s.den slot).wave.toResume.contains t.val = false)
    (hat : g.at' ≤ (s.den slot).cycle t.val (s.tile t.val)) :
    Completes (exec (.freezeSignal t came) s) fun r => ∃ f, (r.tile t.val).frozen = some f ∧ f.source = none ∧ f.since = g.at' := by
  change Completes (execFreezeSignal t came s) _
  unfold execFreezeSignal
  rw [needSome_some hs, needSome_some (takeSignal_of_find? (p := (· == .freeze)) hg)]
  dsimp only
  rw [need_true _ _ _ (by simp [-List.contains_eq_mem, hr]), if_neg (by simp [hf]), need_true _ _ _ (by simp [hat])]
  refine ⟨_, rfl, ?_⟩
  have hfrozen := congrArg Tile.frozen (freezeTile_tile (s.modDen slot fun d => { d with wave := { d.wave with
    signals := dropFirst (fun g => g.dest == t.val && g.came == came && g.sig == .freeze) d.wave.signals } }) slot t.val none g.at' (some came))
  obtain ⟨b, hb⟩ := settleTile_frozen slot t.val hfrozen
  obtain ⟨b', hb'⟩ := settleAcross_frozen slot t.val hb
  exact ⟨_, hb', rfl, rfl⟩

theorem clearReport_notes {s : State} {t : TileIx} {slot : Nat} {g : Signal} {f : Frozen} (hs : s.slotOf t.val = some slot)
    (hg : (s.den slot).wave.signals.find? (fun g => g.dest == t.val && g.came == .east &&
      (match g.sig with | .clear => true | .error _ _ _ => true | _ => false)) = some g) (hsig : g.sig = .clear)
    (hf : (s.tile t.val).frozen = some f) :
    Completes (exec (.clearReport t .east) s) fun r => ∃ f', (r.tile t.val).frozen = some f' ∧ f'.east = some g.at' ∧
      f'.since = f.since ∧ f'.south = f.south := by
  change Completes (execClearReport t .east s) _
  unfold execClearReport
  rw [needSome_some hs, needSome_some (takeSignal_of_find? hg)]
  dsimp only
  rw [needSome_some hf, hsig]
  dsimp only
  rw [if_pos rfl]
  refine ⟨_, rfl, ?_⟩
  beta_reduce
  have hfrozen : (((s.modDen slot fun d => { d with wave := { d.wave with
      signals := dropFirst (fun g => g.dest == t.val && g.came == .east &&
        (match g.sig with | .clear => true | .error _ _ _ => true | _ => false)) d.wave.signals } }).modTile t.val fun x =>
          { x with frozen := some { f with east := some g.at' } }).tile t.val).frozen = some { f with east := some g.at' } :=
    congrArg Tile.frozen ((modTile_tile _ _ _ _).trans (if_pos rfl))
  obtain ⟨b, hb⟩ := settleTile_frozen slot t.val hfrozen
  exact ⟨_, hb, rfl, rfl, rfl⟩

theorem resumeSignalSend_counts {s : State} {i : SlotIx} {waited a b : Nat} (hp : (s.den i.val).phase = .running)
    (hst : (s.den i.val).wave.stopping = false) (hso : (s.den i.val).wave.sources ≠ []) (ha : (s.den i.val).wave.clearAt = some a)
    (hb : (s.den i.val).wave.freezeAt = some b) (hab : a ≤ b + waited) :
    Completes (exec (.resumeSignalSend i waited) s) fun r =>
      (r.den i.val).wave.z = (s.den i.val).wave.z + (2 * (s.den i.val).rect.span + waited) ∧
      (r.den i.val).slipCyc = slipAdd 0 (2 * (s.den i.val).rect.span + waited) (s.den i.val).slipCyc ∧
      (r.den i.val).slipCnt = slipAdd 0 1 (s.den i.val).slipCnt ∧ (r.den i.val).wave.sources = [] ∧ (r.den i.val).wave.resuming = true := by
  change Completes (execResumeSignalSend i waited s) _
  unfold execResumeSignalSend
  dsimp only
  rw [need_true _ _ _ (by simp [hp, hst, hso]), needSome_some ha, needSome_some hb, need_true _ _ _ (by simpa using hab)]
  refine ⟨_, rfl, ?_⟩
  beta_reduce
  rw [den_of_dens_eq (wakeBanks_frame _ _ _).2.2.2.1]
  obtain ⟨-, hwave, hcyc, hcnt⟩ := recordSlip_den (s := s) (slot := i.val) (l := 2 * (s.den i.val).rect.span + waited) (old := none) hso
  obtain ⟨hz, hcyc', hcnt', hsrc, hres⟩ := sendResume_den ((s.recordSlip i.val (s.den i.val).wave.sources
    (2 * (s.den i.val).rect.span + waited)).modDen i.val fun d => { d with wave := { d.wave with
      z := d.wave.z + (2 * (s.den i.val).rect.span + waited) } }) i.val ((s.den i.val).wave.sources, 2 * (s.den i.val).rect.span + waited)
  rw [modDen_den, if_pos rfl] at hz hcyc' hcnt'
  exact ⟨hz.trans (congrArg (fun w : Wave => w.z + _) hwave), hcyc'.trans hcyc, hcnt'.trans hcnt, hsrc, hres⟩

theorem exec_resumeSignal {s : State} {t : TileIx} {slot n : Nat} {f : Frozen} (hs : s.slotOf t.val = some slot)
    (hf : (s.tile t.val).frozen = some f) (hr : f.resumed = false) (hto : (s.den slot).wave.toResume.contains t.val)
    (hn : (s.den slot).rect.next t.val .west = some n) (hnn : (s.den slot).wave.toResume.contains n = false) :
    exec (.resumeSignal t) s = .next ((s.modDen slot fun d =>
      { d with wave := { d.wave with toResume := d.wave.toResume.erase t.val } }).setTile t.val
        { s.tile t.val with frozen := some { f with resumed := true } }) := by
  change execResumeSignal t s = _
  unfold execResumeSignal
  rw [needSome_some hs]
  dsimp only
  rw [needSome_some hf, need_true _ _ _ (by simp [-List.contains_eq_mem, hr, hto, hn, hnn]), occurs_next]

theorem resumeCountdownExpiry_thaws {s : State} {t : TileIx} {slot : Nat} {f : Frozen} (hs : s.slotOf t.val = some slot)
    (hf : (s.tile t.val).frozen = some f) (hr : f.resumed = true) (htr : (s.den slot).wave.transit = []) :
    Completes (exec (.resumeCountdownExpiry t) s) fun r => (r.tile t.val).frozen = none ∧
      (r.tile t.val).bundle = (s.tile t.val).bundle := by
  change Completes (execResumeCountdownExpiry t s) _
  unfold execResumeCountdownExpiry
  rw [needSome_some hs]
  dsimp only
  rw [needSome_some hf, need_true _ _ _ (by simp [hr, htr])]
  refine ⟨_, rfl, ?_⟩
  have htile : (s.setTile t.val { s.tile t.val with frozen := none }).tile t.val = { s.tile t.val with frozen := none } :=
    (setTile_tile _ _ _ _).trans (if_pos rfl)
  split <;> exact ⟨(congrArg Tile.frozen htile :), (congrArg Tile.bundle htile :)⟩

theorem streamOwlExpiry_faults {s : State} {i : SlotIx} {frozen : Nat} (hp : (s.den i.val).phase = .running)
    (hst : (s.den i.val).wave.stopping = false)
    (hany : (s.den i.val).rect.tiles.any fun t => (s.tile t).frozen.any fun f => !f.resumed) (hso : (s.den i.val).wave.sources ≠ []) :
    Completes (exec (.streamOwlExpiry i frozen) s) fun r =>
      (r.den i.val).phase = .faulted ∧ (r.den i.val).faultCode = 0x000C ∧
      (r.den i.val).slipCyc = slipAdd 0 frozen (s.den i.val).slipCyc ∧ (r.den i.val).slipCnt = slipAdd 0 1 (s.den i.val).slipCnt := by
  change Completes (execStreamOwlExpiry i frozen s) _
  unfold execStreamOwlExpiry
  dsimp only
  rw [need_true _ _ _ (by simp [-List.any_eq_true, hp, hst, hany, hso]), if_neg (by simpa using hso)]
  refine ⟨_, rfl, ?_⟩
  obtain ⟨hphase, -, hcyc, hcnt⟩ := recordSlip_den (s := s) (slot := i.val) (l := frozen) (old := none) hso
  obtain ⟨hf, hcode, hcyc', hcnt'⟩ := owlFault_den (slot := i.val) 0 frozen (hphase.trans hp)
  exact ⟨hf, hcode, hcyc'.trans hcyc, hcnt'.trans hcnt⟩

theorem streamOwlExpiry_faults_after_resume {s : State} {i : SlotIx} {frozen : Nat} (hp : (s.den i.val).phase = .running)
    (hst : (s.den i.val).wave.stopping = false)
    (hany : (s.den i.val).rect.tiles.any fun t => (s.tile t).frozen.any fun f => !f.resumed) (hso : (s.den i.val).wave.sources = [])
    (hen : (s.den i.val).wave.ended.1 ≠ []) :
    Completes (exec (.streamOwlExpiry i frozen) s) fun r =>
      (r.den i.val).phase = .faulted ∧ (r.den i.val).faultCode = 0x000C ∧
      (r.den i.val).slipCyc = slipAdd (s.den i.val).wave.ended.2 frozen (s.den i.val).slipCyc := by
  change Completes (execStreamOwlExpiry i frozen s) _
  unfold execStreamOwlExpiry
  dsimp only
  rw [need_true _ _ _ (by simp [-List.any_eq_true, hp, hst, hany, hso, hen]), if_pos (by simpa using hso)]
  refine ⟨_, rfl, ?_⟩
  obtain ⟨hphase, -, hcyc, -⟩ := recordSlip_den (s := s) (slot := i.val) (l := frozen) (old := some (s.den i.val).wave.ended.2) hen
  obtain ⟨hf, hcode, hcyc', -⟩ := owlFault_den (slot := i.val) (s.den i.val).wave.ended.2 frozen (hphase.trans hp)
  exact ⟨hf, hcode, hcyc'.trans hcyc⟩

theorem exec_seamFollowEngage_stretches {s : State} {p : Rat} {d : Int} (hd : d = Int.tdiv p.num p.den) (htr : s.seam.trained)
    (hfo : s.seam.follow) (hstr : s.seam.stretched = none) (hd0 : d ≠ 0) (hd2 : d.natAbs ≤ 2) :
    exec (.seamFollowEngage p) s = .next { s with seam := { s.seam with
      p := p, dpeak := min 255 (max s.seam.dpeak d.natAbs), stretched := some (if 0 < p then .east else .west),
      followCnt := BitVec.ofNat 64 (min (2 ^ 64 - 1) (s.seam.followCnt.toNat + 1)) } } := by
  change execSeamFollowEngage p s = _
  have hmd : (s.seam.measure p).d = d := hd.symm
  unfold execSeamFollowEngage
  dsimp only
  rw [hmd, need_true _ _ _ (show (s.seam.measure p).trained = true from htr), need_true _ _ _ (by simp [hd2]),
    need_true _ _ _ (by simp [Seam.measure, hstr]), if_pos (by simp [Seam.measure, hfo, hstr, hd0]), occurs_next]
  subst hd
  rfl

theorem exec_seamFollowEngage_measures {s : State} {p : Rat} {d : Int} (hd : d = Int.tdiv p.num p.den) (htr : s.seam.trained)
    (hcase : s.seam.follow = false ∨ d = 0 ∨ (s.seam.stretched ≠ none ∧ d.natAbs ≤ 2)) (heast : s.seam.stretched = some .east → 0 < p)
    (hwest : s.seam.stretched = some .west → p < 0) :
    exec (.seamFollowEngage p) s = .next { s with seam := { s.seam with p := p, dpeak := min 255 (max s.seam.dpeak d.natAbs) } } := by
  change execSeamFollowEngage p s = _
  have hmd : (s.seam.measure p).d = d := hd.symm
  have hstr : (s.seam.measure p).stretched = s.seam.stretched := rfl
  unfold execSeamFollowEngage
  dsimp only
  rw [hmd, need_true _ _ _ (show (s.seam.measure p).trained = true from htr), need_true _ _ _ ?_, need_true _ _ _ ?_, if_neg ?_,
    occurs_next]
  · subst hd
    rfl
  · obtain h | h | h := hcase <;> simp [Seam.measure, h]
  · rw [hstr]
    cases h : s.seam.stretched with
    | none => rfl
    | some k =>
      cases k with
      | east => exact decide_eq_true (heast h)
      | west => exact decide_eq_true (hwest h)
  · obtain h | h | h := hcase <;> simp [Seam.measure, h]

theorem exec_seamFollowRelease {s : State} {h : Half} (cycles : Nat) (hstr : s.seam.stretched = some h) :
    exec (.seamFollowRelease cycles) s = .next { s with seam := { s.seam with
      p := 0, stretched := none, followCyc := BitVec.ofNat 64 (min (2 ^ 64 - 1) (s.seam.followCyc.toNat + cycles)) } } := by
  change execSeamFollowRelease cycles s = _
  unfold execSeamFollowRelease
  dsimp only
  rw [needSome_some hstr]
  rfl

/-- Settles O47, clause by clause. -/
theorem slipEvents : Obligations.SlipEvents := by
  refine ⟨fun s t d slot v hs hv hr hfe hl => relayArrival_lands hs hv hr hfe hl,
    fun s t came slot g hs hg hf hr hat => freezeSignal_freezes hs hg hf hr hat,
    fun s t slot g f hs hg hsig hf => clearReport_notes hs hg hsig hf,
    fun s i waited a b hp hst hso ha hb hab => resumeSignalSend_counts hp hst hso ha hb hab,
    fun s t slot n f hs hf hr hto hn hnn => exec_resumeSignal hs hf hr hto hn hnn,
    fun s t slot f hs hf hr htr => resumeCountdownExpiry_thaws hs hf hr htr,
    fun s i frozen hp hst hany => ⟨streamOwlExpiry_faults hp hst hany, streamOwlExpiry_faults_after_resume hp hst hany⟩,
    fun s p d hd htr => ⟨exec_seamFollowEngage_stretches hd htr, exec_seamFollowEngage_measures hd htr⟩,
    fun s cycles h hstr => exec_seamFollowRelease cycles hstr,
    fun s row relay eastward wires hph htr => ?_⟩
  change Completes (execSeamTraining _ s) _
  unfold execSeamTraining
  rw [need_true _ _ _ (by simpa [htr] using hph)]
  exact ⟨_, rfl, train_one s.seam _⟩

end Sys2Proof.Proofs
end

section
/-! PROOFS. The frame of the memories (O4): the answer to an RMW through a window changes a well. -/

namespace Sys2Proof.Proofs
open Sys2Proof Sys2Proof.Machine Sys2Proof.Laws

/-- A den of one tile, whose pump has made the RMW of a byte through a window: the line's old value, all ones, has come back and goes to
the start of the tile's own shaft (R246), in well 0, which is in service. -/
def awaitsOld : State :=
  { dens := [(0, { phase := .running, rect := { w := 1, h := 1 } })]
    tiles := [(0, { pump := {
      tags := [(0, some { desc := [], due := 0 })]
      remote := [{ tag := 0, loc := 2 ^ 63, kind := .rmw, via := .link, ans := some (kOk, List.replicate 64 1),
                   send := some { va := 0, data := [0], rmw := some (0, 0), oldTo := some 0 } }] } })]
    dict := { regs := [(elemKey 0x300 0, 1)] } }

/-- The pump takes the answer. -/
def takesOld : Instr := .pumpLineResponse 0 0 false kOk (2 ^ 63) [] false

/-- Byte 0 of well 0, in the state that a command answers. -/
def firstByte : Act → Byte
  | .next t => kget 0 (t.well 0).data 0
  | _ => 0

theorem firstByte_takesOld : firstByte (exec takesOld awaitsOld) = 1 := by decide +kernel

theorem firstByte_next {t : State} (h : t.wells = awaitsOld.wells) : firstByte (.next t) = 0 := by
  change kget 0 (kget {} t.wells 0).data 0 = 0
  rw [h]
  rfl

/-- Refutes O4: the pump writes the old values of an RMW through a window where W5 says, once they are there (R246, R344). So
PUMP_LINE_RESPONSE may change a well, and it is not among the commands listed for the wells. -/
theorem not_frameOfMemory : ¬ Obligations.FrameOfMemory := by
  unfold Obligations.FrameOfMemory
  intro h
  have hbyte := firstByte_takesOld
  cases he : exec takesOld awaitsOld with
  | next t =>
    obtain ⟨hwells, -⟩ := h takesOld awaitsOld t he
    rw [he, firstByte_next (hwells rfl)] at hbyte
    exact absurd hbyte (by decide)
  | fault f => simp [he, firstByte] at hbyte
  | refused r => simp [he, firstByte] at hbyte

end Sys2Proof.Proofs
end

section
/-! PROOFS. The operations of the M slot, and what an operation of the V slot puts in flight (R119 to R128, R176 to R184). -/

namespace Sys2Proof.Proofs

open Sys2Proof Sys2Proof.Machine Sys2Proof.Laws

/-! ### The M slot -/

/-- An operation of the M slot as a command, where its checks pass (R119). -/
theorem occurs_slotM {s u : State} {t : TileIx} {slot : Nat} {f : MFields} (o : MOp) (h : s.ready u t slot = true)
    (hf : mFault o f (u.snap t slot) = none) : occurs s (slotM o t.val f s) = .next (mEffect o f (u.snap t slot) u) := by
  rw [slotM_clean o h hf, occurs_next]

/-- An operation of the M slot is not stopped where its fields are legal, its block has no other mode, and the unit, if it needs it, is
free (R739). -/
theorem mFault_eq_none {o : MOp} {f : MFields} {x : Snap} (hb : o.bad f = false)
    (hbusy : o = .mnop ∨ o = .mrd ∨ x.tile.matBusy = 0) (hc : o.modeClash f (kget {} x.tile.acc f.td.toNat).mode = false) :
    mFault o f x = none := by
  obtain rfl | rfl | hbusy := hbusy
  · simp [mFault, hb, hc]
  · simp [mFault, hb, hc]
  · simp [mFault, hb, hc, hbusy]

/-- Settles O13: each operation of the M slot has the effect of its kind; the format that MMA and MMAZ name gives the block's new mode
(R164). -/
theorem matrixSlot : Obligations.MatrixSlot := by
  refine ⟨fun s u t slot f h hb => ?_, fun s u t slot f m h hb hbusy hm hmode => ?_, fun s u t slot f m h hb hbusy hm => ?_,
    fun s u t slot f h hb hbusy => ?_, fun s u t slot f h hb => ?_⟩
  · exact occurs_slotM .mnop h (mFault_eq_none hb (.inl rfl) rfl)
  · have hc : MOp.mma.modeClash f (kget {} (u.tile t.val).acc f.td.toNat).mode = false := by
      obtain h0 | h0 := hmode <;> simp [MOp.modeClash, MOp.newMode, hm, h0]
    refine (occurs_slotM .mma h (mFault_eq_none hb (.inr (.inr hbusy)) hc)).trans ?_
    simp [mEffect, MOp.newMode, hm, State.modTile]
  · refine (occurs_slotM .mmaz h (mFault_eq_none hb (.inr (.inr hbusy)) rfl)).trans ?_
    simp [mEffect, MOp.newMode, hm, State.modTile]
  · exact occurs_slotM .mzero h (mFault_eq_none hb (.inr (.inr hbusy)) rfl)
  · exact occurs_slotM .mrd h (mFault_eq_none hb (.inr (.inl rfl)) rfl)

/-! ### What an operation of the V slot puts in flight -/

/-- An operation of the V slot is not stopped where its fields are legal and the vector unit, if it needs it, is free (R184, R739). -/
theorem vFault_eq_none {o : VOp} {f : VFields} {x : Snap} (hb : o.bad f = false) (hbusy : o.needsVector = false ∨ x.tile.vecBusy = 0) :
    vFault o f x = none := by
  obtain h | h := hbusy <;> simp [vFault, hb, h]

/-- An operation of the V slot as a command: its result is in flight (R103). -/
theorem occurs_slotV {s u : State} {t : TileIx} {slot : Nat} {f : VFields} {o : VOp} (h : s.ready u t slot = true) (hb : o.bad f = false)
    (hbusy : o.needsVector = false ∨ (u.tile t.val).vecBusy = 0) (hm : o ≠ .vcmul ∧ o ≠ .vcfma) :
    occurs s (slotV o t.val f s) = .next (u.inFlight t (vLanding o f (u.snap t slot)).toList) := by
  rw [slotV_clean o h (vFault_eq_none hb hbusy), occurs_next, vEffect_inFlight o hm.1 hm.2]

/-- A complex product as a command (R184): its result is in flight, and it holds the vector unit for two bundles. -/
theorem occurs_slotV_product {s u : State} {t : TileIx} {slot : Nat} {f : VFields} {o : VOp} (h : s.ready u t slot = true)
    (hb : o.bad f = false) (hbusy : (u.tile t.val).vecBusy = 0) (hm : o = .vcmul ∨ o = .vcfma) :
    occurs s (slotV o t.val f s) = .next (u.modTile t.val fun z =>
      { z with vecBusy := 2, landings := z.landings ++ (vLanding o f (u.snap t slot)).toList }) := by
  rw [slotV_clean o h (vFault_eq_none hb (.inr hbusy)), occurs_next]
  simp [vEffect, hm]

/-- The result of an operation for a V register. -/
theorem vLanding_vector {o : VOp} (f : VFields) (x : Snap) (hc : o.cls = .v) :
    vLanding o f x = some (x.vResult f o.latency (vecResult o f x).1 (vecResult o f x).2) := by
  simp only [vLanding, hc, Snap.vResult, Snap.pred]

/-- The result of an operation for an S or A register. -/
theorem vLanding_scalar {o : VOp} (f : VFields) (x : Snap) (hc : o.cls = .s) :
    vLanding o f x = some (x.result f o.latency (sDest f.vd.toNat) (scalarResult o f x)) := by
  cases hp : f.pred <;> simp [vLanding, hc, Snap.result, Snap.pred, hp]

/-- The result of an operation for a predicate register that compares no vectors. -/
theorem vLanding_pred {o : VOp} (f : VFields) (x : Snap) (hc : o.cls = .p) (hv : ¬ (o = .vcmpeq ∨ o = .vcmplt ∨ o = .vcmple)) :
    vLanding o f x = some (x.result f o.latency (.p f.vd.toNat) (predResult o f x)) := by
  cases hp : f.pred <;> simp [vLanding, hc, Snap.result, Snap.pred, hp, hv]

/-- An operation for a V register as a command, from the elements that it gives. -/
theorem occurs_vector {s u : State} {t : TileIx} {slot w : Nat} {f : VFields} {es : List (Nat × FFlags)} (o : VOp)
    (h : s.ready u t slot = true) (hbusy : (u.tile t.val).vecBusy = 0) (hb : o.bad f = false) (hc : o.cls = .v)
    (hm : o ≠ .vcmul ∧ o ≠ .vcfma) (he : vecResult o f (u.snap t slot) = (w, es)) :
    occurs s (slotV o t.val f s) = .next (u.inFlight t [(u.snap t slot).vResult f o.latency w es]) := by
  rw [occurs_slotV h hb (.inr hbusy) hm, vLanding_vector f _ hc, he]
  rfl

/-! ### Elements -/

/-- The operations that act on each element by itself (R178 to R180, R184, R185). -/
def elementwise : VOp → Bool
  | .smovs | .vcvt | .vbcast | .vperm | .vsel | .vredsum => false
  | _ => true

/-- The elements of an element-wise operation; an operand that it does not use is no argument (R124). -/
theorem vecResult_elements {o : VOp} {f : VFields} {x : Snap} {g : Nat → Nat → Nat → Nat × FFlags} (ho : elementwise o = true)
    (hg : ∀ a b c, elemOp o (ETy.ofField f.ty.toNat) (Rnd.ofField f.rnd.toNat) a (if 2 ≤ o.use.codes then b else 0)
      (if 3 ≤ o.use.codes then c else 0) = g a b c) :
    vecResult o f x = ((ETy.ofField f.ty.toNat).bits, x.elements f g) := by
  have hif (p : Prop) [Decidable p] (l : List Nat) (i : Nat) : (if p then l else []).getD i 0 = if p then l.getD i 0 else 0 := by
    split <;> rfl
  have hel : x.elements f g = (List.range (512 / (ETy.ofField f.ty.toNat).bits)).map fun i =>
      elemOp o (ETy.ofField f.ty.toNat) (Rnd.ofField f.rnd.toNat) ((x.vector (ETy.ofField f.ty.toNat).bits f.s1.toNat).getD i 0)
        ((if 2 ≤ o.use.codes then x.vector (ETy.ofField f.ty.toNat).bits f.s2.toNat else []).getD i 0)
        ((if 3 ≤ o.use.codes then x.vector (ETy.ofField f.ty.toNat).bits f.s3.toNat else []).getD i 0) := by
    simp only [hif, hg]
    rfl
  rw [hel]
  unfold vecResult
  split
  case h_7 => rfl
  all_goals cases ho

/-- A floating-point element of a type (R178): the operation on the number, or on each part of a complex one. -/
theorem elemOp_float {o : VOp} {y : ETy} (r : Rnd) (hy : y.fmt.isSome = true) (ho : o ≠ .vcmul ∧ o ≠ .vcfma ∧ o ≠ .vconj) (a b c : Nat) :
    elemOp o y r a b c = onParts y (fun m a b c => floatElem o m r a b c) a b c := by
  obtain ⟨h1, h2, h3⟩ := ho
  cases y
  case f64 | f32 => rfl
  case c64 | c32 =>
    unfold elemOp
    dsimp only [ETy.isComplex, ETy.fmt]
    split
    · exact absurd rfl h1
    · exact absurd rfl h2
    · exact absurd rfl h3
    · rfl
  all_goals cases hy

/-- An integer element of a type (R185). -/
theorem elemOp_int (o : VOp) {y : ETy} (r : Rnd) (hy : y.fmt = none) (a b c : Nat) :
    elemOp o y r a b c = (intElem o y.bits a b, {}) := by
  unfold elemOp realElem
  rw [hy]
  cases y.isComplex <;> rfl

/-- A legal operation has an element type that it accepts (R177). -/
theorem accepts_of_legal {o : VOp} {f : VFields} (ho : o ≠ .vnop) (hb : o.bad f = false) : o.accepts (ETy.ofField f.ty.toNat) = true := by
  simp only [VOp.bad, if_neg ho, Bool.or_eq_false_iff, Bool.not_eq_false'] at hb
  tauto

end Sys2Proof.Proofs
end

section
/-! PROOFS. The floating-point operations, conversions, selections, sums and complex products of the V slot (R127, R178 to R184). -/

namespace Sys2Proof.Proofs

open Sys2Proof Sys2Proof.Machine Sys2Proof.Laws

/-! ### Floating-point operations -/

/-- The operations on numbers and on complex numbers alone (R177, R178, R181). -/
def floatOps : List VOp := [.vadd, .vsub, .vneg, .vmul, .vfma, .vfms, .vfnma, .vrcp, .vrsq]

theorem fmt_isSome_of_accepts {o : VOp} {y : ETy} (ho : o ∈ floatOps) (ha : o.accepts y = true) : y.fmt.isSome = true := by
  cases y
  case f64 | f32 | c64 | c32 => rfl
  all_goals fin_cases ho <;> exact absurd ha (by decide)

/-- An operand that a floating-point operation does not use changes nothing (R127). -/
theorem onParts_unused {o : VOp} (ho : o ∈ floatOps ++ [.vmin, .vmax, .vabs]) (y : ETy) (r : Rnd) (a b c : Nat) :
    onParts y (fun m a b c => floatElem o m r a b c) a (if 2 ≤ o.use.codes then b else 0) (if 3 ≤ o.use.codes then c else 0) =
      onParts y (fun m a b c => floatElem o m r a b c) a b c := by
  fin_cases ho <;> rfl

/-- An element-wise operation for a V register as a command, from what it does to an element. -/
theorem occurs_elements {s u : State} {t : TileIx} {slot : Nat} {f : VFields} {g : Nat → Nat → Nat → Nat × FFlags} (o : VOp)
    (h : s.ready u t slot = true) (hbusy : (u.tile t.val).vecBusy = 0) (hb : o.bad f = false) (hc : o.cls = .v)
    (hm : o ≠ .vcmul ∧ o ≠ .vcfma) (ho : elementwise o = true)
    (hg : ∀ a b c, elemOp o (ETy.ofField f.ty.toNat) (Rnd.ofField f.rnd.toNat) a (if 2 ≤ o.use.codes then b else 0)
      (if 3 ≤ o.use.codes then c else 0) = g a b c) :
    occurs s (slotV o t.val f s) = .next (u.inFlight t
      [(u.snap t slot).vResult f o.latency (ETy.ofField f.ty.toNat).bits ((u.snap t slot).elements f g)]) :=
  occurs_vector o h hbusy hb hc hm (vecResult_elements ho hg)

/-- A floating-point operation as a command (R178, R181). -/
theorem occurs_float {s u : State} {t : TileIx} {slot : Nat} {f : VFields} {o : VOp} (ho : o ∈ floatOps) (h : s.ready u t slot = true)
    (hbusy : (u.tile t.val).vecBusy = 0) (hb : o.bad f = false) :
    occurs s (slotV o t.val f s) = .next (u.inFlight t [(u.snap t slot).vResult f o.latency (ETy.ofField f.ty.toNat).bits
      ((u.snap t slot).elements f (onParts (ETy.ofField f.ty.toNat) fun m a b c =>
        floatElem o m (Rnd.ofField f.rnd.toNat) a b c))]) := by
  have hall : o.cls = .v ∧ (o ≠ .vcmul ∧ o ≠ .vcfma ∧ o ≠ .vconj) ∧ elementwise o = true ∧ o ≠ .vnop := by fin_cases ho <;> decide
  obtain ⟨hc, hm, hel, hn⟩ := hall
  have hy := fmt_isSome_of_accepts ho (accepts_of_legal hn hb)
  exact occurs_elements o h hbusy hb hc ⟨hm.1, hm.2.1⟩ hel fun a b c =>
    (elemOp_float _ hy hm a _ _).trans (onParts_unused (List.mem_append_left _ ho) _ _ a b c)

/-- An operation on numbers or on signed integers as a command (R179). -/
theorem occurs_number {s u : State} {t : TileIx} {slot : Nat} {f : VFields} {o : VOp} (ho : o ∈ [VOp.vmin, .vmax, .vabs])
    (h : s.ready u t slot = true) (hbusy : (u.tile t.val).vecBusy = 0) (hb : o.bad f = false) :
    occurs s (slotV o t.val f s) = .next (u.inFlight t [(u.snap t slot).vResult f o.latency (ETy.ofField f.ty.toNat).bits
      ((u.snap t slot).elements f fun a b c => if (ETy.ofField f.ty.toNat).fmt.isSome
        then onParts (ETy.ofField f.ty.toNat) (fun m a b c => floatElem o m (Rnd.ofField f.rnd.toNat) a b c) a b c
        else (intElem o (ETy.ofField f.ty.toNat).bits a b, {}))]) := by
  have hall : o.cls = .v ∧ (o ≠ .vcmul ∧ o ≠ .vcfma ∧ o ≠ .vconj) ∧ elementwise o = true := by fin_cases ho <;> decide
  obtain ⟨hc, hm, hel⟩ := hall
  refine occurs_elements o h hbusy hb hc ⟨hm.1, hm.2.1⟩ hel fun a b c => ?_
  by_cases hy : (ETy.ofField f.ty.toNat).fmt.isSome = true
  · rw [if_pos hy, elemOp_float _ hy hm, onParts_unused (List.mem_append_right _ ho)]
  · rw [if_neg hy, elemOp_int o _ (by simpa using hy)]
    fin_cases ho <;> rfl

/-- Settles O14: each operation acts on the number, or on each part of a complex one; VMIN, VMAX and VABS take signed integers too. -/
theorem vectorFloat : Obligations.VectorFloat := by
  rintro s u t slot f y x r h hbusy rfl rfl rfl
  exact ⟨occurs_float (o := .vadd) (by decide) h hbusy, occurs_float (o := .vsub) (by decide) h hbusy,
    occurs_float (o := .vmul) (by decide) h hbusy, occurs_float (o := .vfma) (by decide) h hbusy,
    occurs_float (o := .vfms) (by decide) h hbusy, occurs_float (o := .vfnma) (by decide) h hbusy,
    occurs_float (o := .vneg) (by decide) h hbusy, occurs_float (o := .vrcp) (by decide) h hbusy,
    occurs_float (o := .vrsq) (by decide) h hbusy, occurs_number (o := .vmin) (by decide) h hbusy,
    occurs_number (o := .vmax) (by decide) h hbusy, occurs_number (o := .vabs) (by decide) h hbusy⟩

/-! ### Conversions, selections, sums and complex products -/

/-- An element of a complex product or of a conjugate (R127, R184). -/
theorem elemOp_complex {y : ETy} {m : FloatFmt} (r : Rnd) (hy : y.isComplex = true) (hm : y.fmt = some m) (a b c : Nat) :
    elemOp .vcmul y r a b c = complexMul m r y.partBits a b none ∧ elemOp .vcfma y r a b c = complexMul m r y.partBits a b (some c) ∧
      elemOp .vconj y r a b c = (complexConj m y.partBits a, {}) := by
  unfold elemOp
  rw [hy, hm]
  exact ⟨rfl, rfl, rfl⟩

/-- A bit of the mask by which VSEL chooses is that of the element's lowest byte (R53). -/
theorem predMask_getD {w n p i : Nat} (hi : i < n) : (predMask w n p).getD i false = p.testBit (w / 8 * i) := by
  rw [predMask, List.getD_eq_getElem?_getD, List.getElem?_map, List.getElem?_range hi]
  simp [Nat.testBit_eq_decide_div_mod_eq, Bool.beq_eq_decide_eq]

/-- VSEL takes each element from one operand or the other (R127). -/
theorem vecResult_vsel (f : VFields) (x : Snap) :
    let y := ETy.ofField f.ty.toNat
    vecResult .vsel f x = (y.bits, (List.range (512 / y.bits)).map fun i =>
      (if (x.tile.preg (f.s3.toNat % 16)).testBit (y.bits / 8 * i) then (x.vector y.bits f.s1.toNat).getD i 0
        else (x.vector y.bits f.s2.toNat).getD i 0, {})) := by
  intro y
  simp only [vecResult, List.map_map]
  refine congrArg (Prod.mk y.bits) (List.map_congr_left fun i hi => ?_)
  rw [← predMask_getD (List.mem_range.mp hi)]
  rfl

/-- Settles O16: what each operation gives, element by element or from the whole operand. -/
theorem vectorElements : Obligations.VectorElements := by
  rintro s u t slot f y x r h hbusy rfl rfl rfl a b n
  have hcomplex {o : VOp} (ho : o ∈ [VOp.vconj, .vcmul, .vcfma]) (hn : o ≠ .vnop) (hb : o.bad f = false) :
      (ETy.ofField f.ty.toNat).isComplex = true := by
    have ha := accepts_of_legal hn hb
    fin_cases ho <;> exact ha
  refine ⟨fun hb => occurs_slotV h hb (.inl rfl) (by decide), fun hb z hz => ?_, fun hb => ?_, fun hb => ?_, fun hb => ?_, fun hb => ?_,
    fun hb m hm => ?_, fun hb m hm => ?_, fun hb m hm => ?_⟩
  · subst hz
    exact occurs_vector .vcvt h hbusy hb rfl (by decide) rfl
  · exact occurs_vector .vsel h hbusy hb rfl (by decide) (vecResult_vsel f _)
  · refine occurs_vector .vbcast h hbusy hb rfl (by decide) ?_
    simp only [vecResult, List.map_replicate]
    rfl
  · refine occurs_vector .vperm h hbusy hb rfl (by decide) ?_
    simp only [vecResult, List.map_map]
    rfl
  · exact occurs_vector .vredsum h hbusy hb rfl (by decide) rfl
  · exact occurs_elements .vconj h hbusy hb rfl (by decide) rfl fun a b c =>
      (elemOp_complex _ (hcomplex (by simp) (by decide) hb) hm a _ _).2.2
  · have he := vecResult_elements (x := u.snap t slot) (o := .vcmul) rfl fun a b c =>
      (elemOp_complex (Rnd.ofField f.rnd.toNat) (hcomplex (by simp) (by decide) hb) hm a b 0).1
    refine (occurs_slotV_product h hb hbusy (.inl rfl)).trans ?_
    rw [vLanding_vector f _ rfl, he]
    rfl
  · have he := vecResult_elements (x := u.snap t slot) (o := .vcfma) rfl fun a b c =>
      (elemOp_complex (Rnd.ofField f.rnd.toNat) (hcomplex (by simp) (by decide) hb) hm a b c).2.1
    refine (occurs_slotV_product h hb hbusy (.inr rfl)).trans ?_
    rw [vLanding_vector f _ rfl, he]
    rfl

end Sys2Proof.Proofs
end

section
/-! PROOFS. The integer, logic, scalar and predicate operations of the V slot (R108, R124, R127, R128, R185). -/

namespace Sys2Proof.Proofs

open Sys2Proof Sys2Proof.Machine Sys2Proof.Laws

/-! ### Elements and their bit string -/

theorem joinElems_lt (w : Nat) (es : List Nat) : joinElems w es < 2 ^ (w * es.length) := by
  induction es with
  | nil => simp [joinElems]
  | cons e es ih =>
    have hpos : 0 < 2 ^ w := Nat.two_pow_pos w
    calc joinElems w (e :: es) < 2 ^ w + 2 ^ w * joinElems w es := Nat.add_lt_add_right (Nat.mod_lt e hpos) _
      _ = 2 ^ w * (joinElems w es + 1) := by ring
      _ ≤ 2 ^ w * 2 ^ (w * es.length) := Nat.mul_le_mul_left _ ih
      _ = 2 ^ (w * (e :: es).length) := by rw [List.length_cons, Nat.mul_succ, Nat.add_comm, Nat.pow_add]

/-- An element of a bit string is the one it was made of (R151). -/
theorem bitsOf_joinElems (w : Nat) (es : List Nat) {i : Nat} (hi : i < es.length) :
    bitsOf (joinElems w es) (w * i) w = es.getD i 0 % 2 ^ w := by
  have hpos : 0 < 2 ^ w := Nat.two_pow_pos w
  induction es generalizing i with
  | nil => cases hi
  | cons e es ih =>
    cases i with
    | zero => simp [bitsOf, joinElems]
    | succ i =>
      rw [List.getD_cons_succ, ← ih (Nat.lt_of_succ_lt_succ hi), bitsOf, bitsOf, joinElems, Nat.mul_succ, Nat.add_comm (w * i),
        Nat.pow_add, ← Nat.div_div_eq_div_mul, Nat.add_mul_div_left _ _ hpos, Nat.div_eq_of_lt (Nat.mod_lt e hpos), Nat.zero_add]

theorem toNat_ofNat_of_lt_pow {n k v : Nat} (hv : v < 2 ^ k) (hk : k ≤ n) : (BitVec.ofNat n v).toNat = v := by
  rw [BitVec.toNat_ofNat, Nat.mod_eq_of_lt (hv.trans_le (Nat.pow_le_pow_right (by decide) hk))]

/-- An element of a result for a V register whose elements raise no flags. -/
theorem bitsOf_vResult (x : Snap) (f : VFields) (left : Nat) {w : Nat} {es : List Nat} (hw : w * es.length ≤ 512) {i : Nat}
    (hi : i < es.length) :
    bitsOf (x.vResult f left w (es.map fun e => (e, {}))).val.toNat (w * i) w = es.getD i 0 % 2 ^ w := by
  have hes : (es.map fun e => (e, ({} : FFlags))).map (·.1) = es := by rw [List.map_map]; exact List.map_id es
  rw [Snap.vResult, hes, toNat_ofNat_of_lt_pow (joinElems_lt w es) hw, bitsOf_joinElems w es hi]

/-- Elements without flags raise none (R159). -/
theorem flagsOf_none (m : List Bool) (es : List Nat) : flagsOf m ((es.map fun e => (e, ({} : FFlags))).map (·.2)) = {} := by
  induction es generalizing m with
  | nil => cases m with
    | nil => rfl
    | cons b m => cases b <;> rfl
  | cons e es ih => cases m with
    | nil => rfl
    | cons b m =>
      cases b
      · exact ih m
      · exact congrArg (FFlags.or {}) (ih m)

theorem getD_elemsOf (w n v : Nat) {i : Nat} (hi : i < n) : (elemsOf w n v).getD i 0 = bitsOf v (w * i) w := by
  rw [elemsOf, List.getD_eq_getElem?_getD, List.getElem?_map, List.getElem?_range hi]
  rfl

/-- Each element of a vector operand has its width (R124, R151). -/
theorem vector_getD_lt (x : Snap) {w : Nat} (hw : w ≤ 64) (c i : Nat) : (x.vector w c).getD i 0 < 2 ^ w := by
  have hpos : 0 < 2 ^ w := Nat.two_pow_pos w
  have helems (n v : Nat) : (elemsOf w n v).getD i 0 < 2 ^ w := by
    by_cases hi : i < n
    · rw [getD_elemsOf w n v hi]
      exact Nat.mod_lt _ hpos
    · rw [List.getD_eq_default _ _ (by simpa [elemsOf] using hi)]
      exact hpos
  have hrep {n v : Nat} (hv : v < 2 ^ w) : (List.replicate n v).getD i 0 < 2 ^ w := by
    by_cases hi : i < n
    · rwa [List.getD_replicate _ hi]
    · rw [List.getD_eq_default _ _ (by simpa using hi)]
      exact hpos
  have hbroad (v : Nat) : broadcastElem w v < 2 ^ w := by
    rw [broadcastElem, if_pos hw]
    exact Nat.mod_lt _ hpos
  unfold Snap.vector
  split
  · exact helems _ _
  · exact helems _ _
  · exact hrep (hbroad _)
  · exact hrep (hbroad _)
  · exact hrep hpos

/-! ### Integer and logic operations -/

theorem wrapInt_lt (n : Nat) (v : Int) : wrapInt n v < 2 ^ n := by
  have hpos : (0 : Int) < (2 ^ n : Nat) := by exact_mod_cast Nat.two_pow_pos n
  have h0 := Int.emod_nonneg v hpos.ne'
  have h1 := Int.emod_lt_of_pos v hpos
  unfold wrapInt
  omega

/-- A number wraps as it does without a sign. -/
theorem wrapInt_natCast (n v : Nat) : wrapInt n (v : Int) = v % 2 ^ n := by
  unfold wrapInt
  rw [← Int.natCast_mod, Int.toNat_natCast]

/-- A number and its sum with the modulus wrap alike. -/
theorem wrapInt_add_pow (n : Nat) (v : Int) : wrapInt n (v + (2 ^ n : Nat)) = wrapInt n v := by
  unfold wrapInt
  rw [Int.add_emod_right]

/-- A difference wraps as the sum with the two's complement (R185). -/
theorem wrapInt_sub {n a b : Nat} (hb : b < 2 ^ n) : wrapInt n ((a : Int) - b) = (a + (2 ^ n - b)) % 2 ^ n := by
  rw [← wrapInt_natCast, ← wrapInt_add_pow]
  congr 1
  omega

/-- The operations of R185 and the logic operations of R127 on integer elements. -/
def intOps : List VOp := [.viadd, .visub, .vimul, .vand, .vor, .vxor, .vshl, .vshr, .vsra]

/-- An integer element has its width after each operation (R185). -/
theorem intElem_lt {o : VOp} (ho : o ∈ intOps) {w a b : Nat} (ha : a < 2 ^ w) (hb : b < 2 ^ w) : intElem o w a b < 2 ^ w := by
  have hpos : 0 < 2 ^ w := Nat.two_pow_pos w
  fin_cases ho
  · exact Nat.mod_lt _ hpos
  · exact wrapInt_lt w _
  · exact Nat.mod_lt _ hpos
  · exact Nat.and_lt_two_pow a hb
  · exact Nat.or_lt_two_pow ha hb
  · exact Nat.xor_lt_two_pow ha hb
  · exact Nat.mod_lt _ hpos
  · exact (Nat.div_le_self a _).trans_lt ha
  · exact wrapInt_lt w _

/-- An integer type is real, and its elements fill a V register (R151, R177). -/
theorem integer_of_accepts {o : VOp} {y : ETy} (ho : o ∈ intOps) (ha : o.accepts y = true) :
    y.fmt = none ∧ y.bits ≤ 64 ∧ y.bits * (512 / y.bits) = 512 := by
  cases y
  case i64 | i32 | i16 | i8 => exact ⟨rfl, by decide, by decide⟩
  all_goals fin_cases ho <;> exact absurd ha (by decide)

theorem elements_plain (x : Snap) {f : VFields} {w : Nat} (hw : w = (ETy.ofField f.ty.toNat).bits) (g : Nat → Nat → Nat) :
    x.elements f (fun a b _ => (g a b, {})) = ((List.range (512 / w)).map fun i =>
      g ((x.vector w f.s1.toNat).getD i 0) ((x.vector w f.s2.toNat).getD i 0)).map fun e => (e, {}) := by
  unfold Snap.elements
  rw [← hw, List.map_map]
  rfl

/-- An integer operation as a command: the elements of what is in flight, which has no flags (R185). -/
theorem intOp_lands {s u : State} {t : TileIx} {slot w : Nat} {f : VFields} {o : VOp} (ho : o ∈ intOps) (h : s.ready u t slot = true)
    (hbusy : (u.tile t.val).vecBusy = 0) (hw : w = (ETy.ofField f.ty.toNat).bits) (hb : o.bad f = false) {g : Nat → Nat → Nat}
    (hg : ∀ a b, a < 2 ^ w → b < 2 ^ w → intElem o w a b = g a b) :
    ∃ l : Landing, occurs s (slotV o t.val f s) = .next (u.inFlight t [l]) ∧ l.left = o.latency ∧ l.dest = .v f.vd.toNat ∧
      l.vflags = {} ∧ l.mask = BitVec.ofNat 512 (maskBits w (predMask w (512 / w) ((u.snap t slot).pred f))) ∧
      ∀ i < 512 / w, bitsOf l.val.toNat (w * i) w =
        g (((u.snap t slot).vector w f.s1.toNat).getD i 0) (((u.snap t slot).vector w f.s2.toNat).getD i 0) := by
  have hall : o.cls = .v ∧ (o ≠ .vcmul ∧ o ≠ .vcfma) ∧ elementwise o = true ∧ o ≠ .vnop ∧ 2 ≤ o.use.codes := by
    fin_cases ho <;> decide
  obtain ⟨hc, hm, hel, hn, hcodes⟩ := hall
  obtain ⟨hy, hle, hfull⟩ := integer_of_accepts ho (accepts_of_legal hn hb)
  rw [← hw] at hle hfull
  have hrun := occurs_elements o h hbusy hb hc hm hel (g := fun a b _ => (intElem o w a b, {})) fun a b c => by
    rw [elemOp_int o _ hy, if_pos hcodes, hw]
  rw [elements_plain _ hw, ← hw] at hrun
  refine ⟨_, hrun, rfl, rfl, flagsOf_none _ _, rfl, fun i hi => ?_⟩
  have ha := vector_getD_lt (u.snap t slot) hle f.s1.toNat i
  have hb := vector_getD_lt (u.snap t slot) hle f.s2.toNat i
  rw [bitsOf_vResult _ f _ (by simp [hfull]) (by simpa using hi), ← hg _ _ ha hb, ← Nat.mod_eq_of_lt (intElem_lt ho ha hb)]
  simp [List.getD_eq_getElem?_getD, hi]

/-- Settles O17: each operation gives its elements one by one; a difference wraps as the sum with the two's complement. -/
theorem vectorInteger : Obligations.VectorInteger := by
  rintro s u t slot f x w h hbusy rfl hw a b lands
  exact ⟨fun hb => intOp_lands (o := .viadd) (by decide) h hbusy hw hb fun _ _ _ _ => rfl,
    fun hb => intOp_lands (o := .visub) (by decide) h hbusy hw hb fun _ _ _ hlt => wrapInt_sub hlt,
    fun hb => intOp_lands (o := .vimul) (by decide) h hbusy hw hb fun _ _ _ _ => rfl,
    fun hb => intOp_lands (o := .vand) (by decide) h hbusy hw hb fun _ _ _ _ => rfl,
    fun hb => intOp_lands (o := .vor) (by decide) h hbusy hw hb fun _ _ _ _ => rfl,
    fun hb => intOp_lands (o := .vxor) (by decide) h hbusy hw hb fun _ _ _ _ => rfl,
    fun hb => intOp_lands (o := .vshl) (by decide) h hbusy hw hb fun _ _ _ _ => rfl,
    fun hb => intOp_lands (o := .vshr) (by decide) h hbusy hw hb fun _ _ _ _ => rfl,
    fun hb => intOp_lands (o := .vsra) (by decide) h hbusy hw hb fun _ _ _ _ => rfl⟩

/-! ### Scalar and predicate operations -/

theorem scalar_lt (x : Snap) (c : Nat) : x.scalar c < 2 ^ 64 := by
  unfold Snap.scalar
  split
  · exact Nat.mod_lt _ (by decide)
  · exact Nat.mod_lt _ (by decide)
  · exact BitVec.isLt _
  · exact BitVec.isLt _
  · decide

theorem imm14_lt (f : VFields) : imm14 f < 2 ^ 14 := by
  have h2 := f.s2.isLt
  have h3 := f.s3.isLt
  unfold imm14
  omega

/-- An immediate of 14 bits, sign-extended to 64 (R127). -/
theorem wrapInt_add_sextNat {a imm : Nat} (hi : imm < 2 ^ 14) :
    wrapInt 64 ((a : Int) + sextNat 14 imm) = (a + if imm < 2 ^ 13 then imm else imm + (2 ^ 64 - 2 ^ 14)) % 2 ^ 64 := by
  rw [← wrapInt_natCast, sextNat, Nat.mod_eq_of_lt hi]
  by_cases h : imm < 2 ^ 13
  · rw [if_pos h, if_pos (by omega), Nat.cast_add]
  · rw [if_neg h, if_neg (by omega), ← wrapInt_add_pow]
    congr 1
    omega

theorem wrapInt_sextNat {imm : Nat} (hi : imm < 2 ^ 14) :
    wrapInt 64 (sextNat 14 imm) = if imm < 2 ^ 13 then imm else imm + (2 ^ 64 - 2 ^ 14) := by
  have h := wrapInt_add_sextNat (a := 0) hi
  rw [Nat.cast_zero, Int.zero_add, Nat.zero_add] at h
  rw [h, Nat.mod_eq_of_lt]
  split <;> omega

/-- A result for one register of 64 bits is in flight with its value, and raises no flags (R103, R108). -/
theorem result_lands {u : State} {t : TileIx} {x : Snap} {f : VFields} {c : Act} {left v : Nat} {r : Reg}
    (h : c = .next (u.inFlight t [x.result f left r v])) (hv : v < 2 ^ 64) :
    ∃ l : Landing, c = .next (u.inFlight t [l]) ∧ l.left = left ∧ l.dest = r ∧ l.vote = none ∧ l.vflags = {} ∧ l.mflags = {} ∧
      l.val.toNat = v ∧ l.mask = (if x.pred f % 2 = 1 then BitVec.allOnes 512 else 0) :=
  ⟨_, h, rfl, rfl, rfl, rfl, rfl, toNat_ofNat_of_lt_pow hv (by decide), rfl⟩

/-- The operations of class S (R127). -/
def scalarOps : List VOp := [.sadd, .ssub, .smul, .sand, .sor, .sxor, .sshl, .sshr, .saddi, .sli, .slui, .smovv, .sstat]

/-- The operations that give a predicate from scalars or predicates (R127). -/
def predOps : List VOp := [.scmpeq, .scmplt, .pset, .pand, .por, .pnot]

/-- An operation of class S as a command: the value in flight to the register that VD names. -/
theorem scalarOp_lands {s u : State} {t : TileIx} {slot v : Nat} {f : VFields} {o : VOp} (ho : o ∈ scalarOps)
    (h : s.ready u t slot = true) (hb : o.bad f = false) (hr : scalarResult o f (u.snap t slot) = v) (hv : v < 2 ^ 64) :
    ∃ l : Landing, occurs s (slotV o t.val f s) = .next (u.inFlight t [l]) ∧ l.left = o.latency ∧ l.dest = sDest f.vd.toNat ∧
      l.vote = none ∧ l.vflags = {} ∧ l.mflags = {} ∧ l.val.toNat = v ∧
      l.mask = (if (u.snap t slot).pred f % 2 = 1 then BitVec.allOnes 512 else 0) := by
  have hall : o.cls = .s ∧ o.needsVector = false ∧ o ≠ .vcmul ∧ o ≠ .vcfma := by fin_cases ho <;> decide
  obtain ⟨hc, hnv, hm⟩ := hall
  refine result_lands ?_ hv
  rw [occurs_slotV h hb (.inl hnv) hm, vLanding_scalar f _ hc, hr]
  rfl

/-- An operation that gives a predicate from scalars or predicates, as a command: all its bits land one bundle later. -/
theorem predOp_lands {s u : State} {t : TileIx} {slot v : Nat} {f : VFields} {o : VOp} (ho : o ∈ predOps)
    (h : s.ready u t slot = true) (hb : o.bad f = false) (hr : predResult o f (u.snap t slot) = v) (hv : v < 2 ^ 64) :
    ∃ l : Landing, occurs s (slotV o t.val f s) = .next (u.inFlight t [l]) ∧ l.left = 1 ∧ l.dest = .p f.vd.toNat ∧
      l.vote = none ∧ l.vflags = {} ∧ l.mflags = {} ∧ l.val.toNat = v ∧
      l.mask = (if (u.snap t slot).pred f % 2 = 1 then BitVec.allOnes 512 else 0) := by
  have hall : o.cls = .p ∧ ¬ (o = .vcmpeq ∨ o = .vcmplt ∨ o = .vcmple) ∧ o.latency = 1 ∧ o.needsVector = false ∧ o ≠ .vcmul ∧
      o ≠ .vcfma := by fin_cases ho <;> decide
  obtain ⟨hc, hcmp, hlat, hnv, hm⟩ := hall
  refine result_lands ?_ hv
  rw [occurs_slotV h hb (.inl hnv) hm, vLanding_pred f _ hc hcmp, hr, hlat]
  rfl

/-- A predicate of all ones or all zeros fits its register. -/
theorem ones_or_zero_lt (c : Prop) [Decidable c] : (if c then 2 ^ 64 - 1 else 0) < 2 ^ 64 := by
  split <;> decide

/-- SMOVV reads an element of a V register (R127). -/
theorem smovvValue_vector {f : VFields} {x : Snap} (h : f.s1.toNat < 0x40) :
    smovvValue f x = x.tile.vreg f.s1.toNat / 2 ^ (64 * (f.s2.toNat % 8)) % 2 ^ 64 := by
  have hvec : x.vector 64 f.s1.toNat = elemsOf 64 8 (x.tile.vreg f.s1.toNat) := by simp [Snap.vector, OpCode.of, h]
  rw [smovvValue, if_pos h, hvec, getD_elemsOf 64 8 _ (Nat.mod_lt _ (by decide))]
  rfl

/-- SMOVV reads a latch, or an S or A register that has its one element, as every scalar operation does (R124). -/
theorem smovvValue_scalar {f : VFields} {x : Snap} (h : 0x40 ≤ f.s1.toNat) (hk : f.s1.toNat < 0x50 ∨ f.s2.toNat % 8 = 0) :
    smovvValue f x = x.scalar f.s1.toNat := by
  rw [smovvValue, if_neg h.not_gt, if_pos hk]

theorem smovvValue_lt (f : VFields) (x : Snap) : smovvValue f x < 2 ^ 64 := by
  unfold smovvValue
  dsimp only
  split
  · exact vector_getD_lt x le_rfl _ _
  · split
    · exact scalar_lt x _
    · exact BitVec.isLt _

/-- A tile's column and row as SSTAT gives them (R128). -/
theorem position_lt (t : TileIx) : colOf t.val + 256 * rowOf t.val < 2 ^ 64 := by
  have ht := t.isLt
  unfold colOf rowOf
  omega

/-- A tile's skew is small (R67). -/
theorem skew_lt (q : Rect) (t : TileIx) : q.skew t.val < 2 ^ 64 := by
  have ht := t.isLt
  unfold Rect.skew colOf rowOf
  split <;> omega

/-- SMOVS replaces one element of a V register (R127). -/
theorem smovs_lands {s u : State} {t : TileIx} {slot : Nat} {f : VFields} (h : s.ready u t slot = true) (hb : VOp.smovs.bad f = false)
    (hbusy : (u.tile t.val).vecBusy = 0) :
    ∃ l : Landing, occurs s (slotV .smovs t.val f s) = .next (u.inFlight t [l]) ∧ l.left = 2 ∧ l.dest = .v f.vd.toNat ∧
      l.vflags = {} ∧ l.mask = BitVec.ofNat 512 (maskBits 64 (predMask 64 8 ((u.snap t slot).pred f))) ∧
      ∀ i < 8, bitsOf l.val.toNat (64 * i) 64 = if i = f.s2.toNat % 8 then (u.snap t slot).scalar f.s1.toNat
        else bitsOf ((u.snap t slot).tile.vreg f.vd.toNat) (64 * i) 64 := by
  refine ⟨_, occurs_vector .smovs h hbusy hb rfl (by decide) rfl, rfl, rfl, flagsOf_none _ _, rfl, fun i hi => ?_⟩
  rw [bitsOf_vResult _ f _ (by simp [elemsOf]) (by simpa [elemsOf] using hi)]
  split
  · next he =>
    subst he
    rw [List.getD_eq_getElem?_getD, List.getElem?_set_self (by simpa [elemsOf] using hi), Option.getD_some,
      Nat.mod_eq_of_lt (scalar_lt _ _)]
  · next hne =>
    rw [List.getD_eq_getElem?_getD, List.getElem?_set_ne (Ne.symm hne), ← List.getD_eq_getElem?_getD, getD_elemsOf 64 8 _ hi]
    exact Nat.mod_eq_of_lt (Nat.mod_lt _ (by decide))

/-- Settles O18: the value of each operation, which fits its register. -/
theorem scalarSlot : Obligations.ScalarSlot := by
  rintro s u t slot f x a b p q imm d h rfl rfl rfl rfl rfl rfl rfl lands gives
  have ha : (u.snap t slot).scalar f.s1.toNat < 2 ^ 64 := scalar_lt _ _
  have hb : (u.snap t slot).scalar f.s2.toNat < 2 ^ 64 := scalar_lt _ _
  have hp : (u.snap t slot).tile.preg (f.s1.toNat % 16) < 2 ^ 64 := BitVec.isLt _
  have hq : (u.snap t slot).tile.preg (f.s2.toNat % 16) < 2 ^ 64 := BitVec.isLt _
  have hi := imm14_lt f
  have hmod (n : Nat) : n % 2 ^ 64 < 2 ^ 64 := Nat.mod_lt _ (by decide)
  refine ⟨fun hbad => scalarOp_lands (o := .sadd) (by decide) h hbad rfl (hmod _),
    fun hbad => scalarOp_lands (o := .ssub) (by decide) h hbad (wrapInt_sub hb) (hmod _),
    fun hbad => scalarOp_lands (o := .smul) (by decide) h hbad rfl (hmod _),
    fun hbad => scalarOp_lands (o := .sand) (by decide) h hbad rfl (Nat.and_lt_two_pow _ hb),
    fun hbad => scalarOp_lands (o := .sor) (by decide) h hbad rfl (Nat.or_lt_two_pow ha hb),
    fun hbad => scalarOp_lands (o := .sxor) (by decide) h hbad rfl (Nat.xor_lt_two_pow ha hb),
    fun hbad => scalarOp_lands (o := .sshl) (by decide) h hbad rfl (hmod _),
    fun hbad => scalarOp_lands (o := .sshr) (by decide) h hbad rfl ((Nat.div_le_self _ _).trans_lt ha),
    fun hbad => scalarOp_lands (o := .saddi) (by decide) h hbad (wrapInt_add_sextNat hi) (hmod _),
    fun hbad => scalarOp_lands (o := .sli) (by decide) h hbad (wrapInt_sextNat hi) (by change _ < 2 ^ 14 at hi; split <;> omega),
    fun hbad => scalarOp_lands (o := .slui) (by decide) h hbad rfl (Nat.or_lt_two_pow (hmod _) (hi.trans (by decide))),
    fun hbad => ⟨fun hv => ?_, fun h1 hk => ?_, fun _ _ => ?_⟩, fun hbad hbusy => smovs_lands h hbad hbusy,
    fun hbad => ⟨fun hi => ?_, fun hi => ?_, fun hi => ?_, fun hi hspan => ?_, fun hi => ?_, fun hi => ?_⟩,
    fun hbad => predOp_lands (o := .scmpeq) (by decide) h hbad rfl (ones_or_zero_lt _),
    fun hbad => predOp_lands (o := .scmplt) (by decide) h hbad rfl (ones_or_zero_lt _),
    fun hbad => predOp_lands (o := .pset) (by decide) h hbad rfl (ones_or_zero_lt _),
    fun hbad => predOp_lands (o := .pand) (by decide) h hbad rfl (Nat.and_lt_two_pow _ hq),
    fun hbad => predOp_lands (o := .por) (by decide) h hbad rfl (Nat.or_lt_two_pow hp hq),
    fun hbad => predOp_lands (o := .pnot) (by decide) h hbad rfl ((Nat.sub_le _ _).trans_lt (by decide))⟩
  · exact scalarOp_lands (o := .smovv) (by decide) h hbad (smovvValue_vector hv) (hmod _)
  · exact scalarOp_lands (o := .smovv) (by decide) h hbad (smovvValue_scalar h1 hk) ha
  · exact ⟨_, scalarOp_lands (o := .smovv) (by decide) h hbad rfl (smovvValue_lt f _)⟩
  all_goals refine scalarOp_lands (o := .sstat) (by decide) h hbad (congrArg (sstatItem · (u.snap t slot)) hi) ?_
  · exact (Nat.mod_lt _ (by decide)).trans_le (Nat.pow_le_pow_right (by decide) (by decide) : 2 ^ 48 ≤ 2 ^ 64)
  · exact position_lt t
  · exact skew_lt _ t
  · exact hspan
  · exact BitVec.isLt _
  · exact hmod _

end Sys2Proof.Proofs
end

section
/-! PROOFS. The operations of the P slot: descriptors accepted by the pump and ordering points (R139, R140, R236, R258). -/

namespace Sys2Proof.Proofs

open Sys2Proof Sys2Proof.Machine Sys2Proof.Laws

/-! ### Descriptors -/

/-- ISSUE.V on a free tag is not stopped (R739). -/
theorem issueFault_vector {tag : Fin 16} {lat : BitVec 16} {x : Snap} (hl : lat ≠ 0) (ht : kget none x.tile.pump.tags tag.val = none) :
    issueFault tag lat none x = none := by
  rw [issueFault, if_neg hl]
  simp [Pump.busy, ht]

/-- ISSUE.A on a free tag is not stopped where its descriptor is a line of banks that are on (R61, R739). -/
theorem issueFault_address {tag : Fin 16} {lat : BitVec 16} {x : Snap} {a : Nat} (hl : lat ≠ 0)
    (ht : kget none x.tile.pump.tags tag.val = none) (ha : a % 64 = 0) (hb : x.tile.banksReady a 64 = true) :
    issueFault tag lat (some a) x = none := by
  rw [issueFault, if_neg hl]
  simp [Pump.busy, ht, ha, hb]

/-- A descriptor that passes its checks is in flight on its tag, due LAT bundles on, behind the operations noted (R139, R258). -/
theorem acceptDesc_tile {u : State} {t : TileIx} {slot : Nat} (tag : Fin 16) (lat : BitVec 16) {bs : List Byte}
    (hc : (Desc.of bs).check = none) (hn : (Desc.of bs).count ≠ 0) :
    ((acceptDesc tag lat bs (u.snap t slot) u).tile t.val).landings = (u.snap t slot).tile.landings ∧
      ∃ op, kget none ((acceptDesc tag lat bs (u.snap t slot) u).tile t.val).pump.tags tag.val = some op ∧ op.desc = bs ∧
        op.due = (u.snap t slot).tile.bundle + lat.toNat ∧ op.status = none ∧ op.after = (u.snap t slot).tile.pump.notes := by
  unfold acceptDesc
  simp only [hc, if_neg hn]
  rw [snap_t, modTile_tile, if_pos rfl]
  dsimp only
  rw [kget_kput_same]
  exact ⟨rfl, _, rfl, rfl, rfl, rfl, rfl⟩

/-! ### Ordering points -/

/-- A tag whose operation is in flight joins the tags noted so far (R258). -/
def noteTag (m : BitVec 16) (p : Nat × Option TagOp) : BitVec 16 :=
  match p.2 with
  | some op => if op.status.isNone then m ||| BitVec.ofNat 16 (2 ^ p.1) else m
  | none => m

/-- Whether an entry of the pump's tags is an operation in flight on a tag. -/
def inFlightOn (k : Nat) (p : Nat × Option TagOp) : Bool :=
  p.1 == k && (match p.2 with | some op => op.status.isNone | none => false)

theorem getLsbD_noteTag (m : BitVec 16) (p : Nat × Option TagOp) {k : Nat} (hk : k < 16) :
    (noteTag m p).getLsbD k = (m.getLsbD k || inFlightOn k p) := by
  obtain ⟨j, o⟩ := p
  have hbit : (BitVec.ofNat 16 (2 ^ j)).getLsbD k = (j == k) := by
    rw [BitVec.getLsbD_ofNat, Nat.testBit_two_pow, Bool.beq_eq_decide_eq]
    simp [hk]
  cases o with
  | none => simp [noteTag, inFlightOn]
  | some op =>
    dsimp only [noteTag, inFlightOn]
    cases op.status.isNone
    · simp
    · rw [if_pos rfl, BitVec.getLsbD_or, hbit, Bool.and_true]

theorem getLsbD_foldl_noteTag (tags : KMap (Option TagOp)) {k : Nat} (hk : k < 16) :
    (tags.foldl noteTag 0).getLsbD k = tags.any (inFlightOn k) := by
  have hfrom (m : BitVec 16) : (tags.foldl noteTag m).getLsbD k = (m.getLsbD k || tags.any (inFlightOn k)) := by
    induction tags generalizing m with
    | nil => simp
    | cons p tags ih => rw [List.foldl_cons, ih, getLsbD_noteTag m p hk, List.any_cons, Bool.or_assoc]
  exact (hfrom 0).trans (by simp)

/-- PORD adds the operations in flight on the masked tags to those noted (R258). -/
theorem pordEffect_notes (u : State) (t : TileIx) (slot : Nat) (mask : BitVec 16) :
    ((pordEffect mask (u.snap t slot) u).tile t.val).pump.notes =
      (u.tile t.val).pump.notes ||| (mask &&& (u.tile t.val).pump.tags.foldl noteTag 0) := by
  rw [pordEffect, snap_t, modTile_tile, if_pos rfl]
  rfl

/-- Settles O21: a descriptor that passes its checks is in flight on its tag; PORD notes the tags in flight one by one. -/
theorem pumpSlot : Obligations.PumpSlot := by
  rintro s u t slot x h rfl
  refine ⟨occurs_slotOp h rfl, fun tag lat v bs hl ht hbs hc hn => ?_, fun tag lat a inc bs hl ha hb ht hbs hc hn => ?_,
    fun mask => ⟨_, occurs_slotOp h rfl, fun k hk => ?_⟩⟩
  · subst hbs
    obtain ⟨hland, op, hget, hdesc, hdue, hst, hafter⟩ := acceptDesc_tile (u := u) (t := t) (slot := slot) tag lat hc hn
    have hrun := occurs_slotOp (fault := issueFault tag lat none) (effect := issueVEffect tag lat v) h (issueFault_vector hl ht)
    exact ⟨_, hrun, op, hget, hdesc, hdue, hst, hafter, hland⟩
  · subst hbs
    obtain ⟨hland, op, hget, hdesc, hdue, hst, hafter⟩ := acceptDesc_tile (u := u) (t := t) (slot := slot) tag lat hc hn
    have hrun := slotReads_clean (fault := fun x => issueFault tag lat (some (x.aAddr a)) x) (addr := fun x => x.aAddr a)
      (effect := issueAEffect tag lat a inc) h (issueFault_address hl ht ha hb)
    refine ⟨_, (congrArg (occurs s) hrun).trans (occurs_next _ _), op, ?_⟩
    rw [issueAEffect, snap_t, modTile_tile, if_pos rfl]
    exact ⟨hget, hdesc, hdue, hst, hafter, congrArg (· ++ _) hland⟩
  · rw [pordEffect_notes, BitVec.getLsbD_or, BitVec.getLsbD_and, getLsbD_foldl_noteTag _ hk]
    rfl

end Sys2Proof.Proofs
end

section
/-! PROOFS. The bundles that continue or leave the run of addresses (R105 to R116). -/

namespace Sys2Proof.Proofs

open Sys2Proof Sys2Proof.Machine Sys2Proof.Laws

/-! ### A tile's place in its program -/

/-- What a tile keeps of its place in its program: phase, addresses, bundle number, idle run, open loops and return addresses. -/
def place (x : Tile) : Tile :=
  { phase := x.phase, addr := x.addr, last := x.last, bundle := x.bundle, idle := x.idle, loops := x.loops, calls := x.calls }

theorem place_setTile {s : State} {t : Nat} {x : Tile} (n : Nat) (hx : place x = place (s.tile t)) :
    place ((s.setTile t x).tile n) = place (s.tile n) := by
  rw [setTile_tile]
  split
  · next h => rw [hx, h]
  · rfl

theorem place_modTile {s : State} {f : Tile → Tile} (t n : Nat) (hf : ∀ y, place (f y) = place y := by intro _; rfl) :
    place ((s.modTile t f).tile n) = place (s.tile n) := place_setTile n (hf _)

theorem place_flush (x : Tile) : place x.flush = place x := by
  unfold Tile.flush
  split <;> rfl

theorem place_setBank (x : Tile) (b st : Nat) : place (x.setBank b st) = place x := by
  rw [← place_flush x]
  unfold Tile.setBank
  dsimp only
  split <;> rfl

theorem place_consume (s : State) (x : Snap) (m : BitVec 4) (n : Nat) : place ((s.consume x m).tile n) = place (s.tile n) :=
  place_modTile _ _ fun y => foldl_keeps_of place _ _ y fun z d => by split <;> rfl

theorem place_storeClash (s : State) (t a k mask n : Nat) : place ((s.storeClash t a k mask).tile n) = place (s.tile n) := by
  unfold State.storeClash
  dsimp only
  split
  · rfl
  · change place ((s.setTile t _).tile n) = _
    exact place_setTile n (place_flush (s.tile t))

theorem place_mEffect (o : MOp) (f : MFields) (x : Snap) (s : State) (n : Nat) :
    place ((mEffect o f x s).tile n) = place (s.tile n) := by
  unfold mEffect
  split
  · rfl
  · exact place_modTile _ _
  · exact place_modTile _ _

theorem place_vEffect (o : VOp) (f : VFields) (x : Snap) (s : State) (n : Nat) :
    place ((vEffect o f x s).tile n) = place (s.tile n) := place_modTile _ _

theorem place_aEffect (o : AOp) (f : AFields) (x : Snap) (s : State) (n : Nat) :
    place ((aEffect o f x s).tile n) = place (s.tile n) := by
  unfold aEffect
  dsimp only
  split
  · rw [place_storeClash]
    refine (place_modTile _ _ fun y => ?_).trans (place_modTile _ _)
    split <;> exact place_flush y
  · exact place_modTile _ _

theorem place_bankctlEffect (mask : BitVec 16) (st : BitVec 2) (x : Snap) (s : State) (n : Nat) :
    place ((bankctlEffect mask st x s).tile n) = place (s.tile n) :=
  place_modTile _ _ fun y => foldl_keeps_of place _ _ y fun z b => by
    split
    · exact place_setBank z b _
    · rfl

theorem place_sendEffect (consume dirs : BitVec 4) (src hops : BitVec 7) (x : Snap) (s : State) (n : Nat) :
    place ((sendEffect consume dirs src hops x s).tile n) = place (s.tile n) := place_consume _ _ _ _

theorem place_voteEffect (consume : BitVec 4) (kind : BitVec 3) (src : BitVec 7) (dst : BitVec 6) (x : Snap) (s : State) (n : Nat) :
    place ((voteEffect consume kind src dst x s).tile n) = place (s.tile n) :=
  (place_consume _ _ _ _).trans (place_modTile _ _)

theorem place_psetuEffect (consume : BitVec 4) (q : BitVec 2) (value : Bool) (x : Snap) (s : State) (n : Nat) :
    place ((psetuEffect consume q value x s).tile n) = place (s.tile n) :=
  (place_consume _ _ _ _).trans (place_modTile _ _)

theorem place_acceptDesc (tag : Fin 16) (lat : BitVec 16) (bs : List Byte) (x : Snap) (s : State) (n : Nat) :
    place ((acceptDesc tag lat bs x s).tile n) = place (s.tile n) := place_modTile _ _

theorem place_issueAEffect (tag : Fin 16) (lat : BitVec 16) (a inc : BitVec 4) (x : Snap) (s : State) (n : Nat) :
    place ((issueAEffect tag lat a inc x s).tile n) = place (s.tile n) :=
  (place_modTile _ _).trans (place_acceptDesc _ _ _ _ _ _)

theorem place_pordEffect (mask : BitVec 16) (x : Snap) (s : State) (n : Nat) :
    place ((pordEffect mask x s).tile n) = place (s.tile n) := place_modTile _ _

/-! ### The slots of a bundle -/

/-- The M slot of a bundle (R118). -/
def runM (x : Snap) (b : Bundle) (s : State) : State :=
  match b.mSlot with
  | (some o, f) => mEffect o f x s
  | _ => s

/-- The V slot of a bundle, which a control bundle does not have (R105, R125). -/
def runV (x : Snap) (b : Bundle) (s : State) : State :=
  if b.control then s
  else match b.vSlot with
    | (some o, f) => vEffect o f x s
    | _ => s

/-- The A slot of a bundle (R129). -/
def runA (x : Snap) (b : Bundle) (s : State) : State :=
  match b.aSlot with
  | .op o f => aEffect o f x s
  | .bankctl mask st => bankctlEffect mask st x s
  | .bad => s

/-- The X slot of a bundle (R132). -/
def runX (x : Snap) (b : Bundle) (s : State) : State :=
  match b.xSlot with
  | .nop => s.consume x b.consume
  | .send ds src h => sendEffect b.consume ds src h x s
  | .vote k src dst => voteEffect b.consume k src dst x s
  | .psetu q v => psetuEffect b.consume q v x s
  | .bad => s

/-- The P slot of a bundle (R138). -/
def runP (x : Snap) (b : Bundle) (s : State) : State :=
  match b.pSlot with
  | .issueV tag lat v => issueVEffect tag lat v x s
  | .issueA tag lat a inc => issueAEffect tag lat a inc x s
  | .pord mask => pordEffect mask x s
  | _ => s

/-- The slots of a bundle one after the other (R102). -/
theorem slotEffect_eq (x : Snap) (b : Bundle) (s : State) :
    slotEffect x b s = runP x b (runX x b (runA x b (runV x b (runM x b s)))) := rfl

theorem place_runM (x : Snap) (b : Bundle) (s : State) (n : Nat) : place ((runM x b s).tile n) = place (s.tile n) := by
  unfold runM
  split
  · exact place_mEffect _ _ _ _ _
  · rfl

theorem place_runV (x : Snap) (b : Bundle) (s : State) (n : Nat) : place ((runV x b s).tile n) = place (s.tile n) := by
  unfold runV
  split
  · rfl
  · split
    · exact place_vEffect _ _ _ _ _
    · rfl

theorem place_runA (x : Snap) (b : Bundle) (s : State) (n : Nat) : place ((runA x b s).tile n) = place (s.tile n) := by
  unfold runA
  split
  · exact place_aEffect _ _ _ _ _
  · exact place_bankctlEffect _ _ _ _ _
  · rfl

theorem place_runX (x : Snap) (b : Bundle) (s : State) (n : Nat) : place ((runX x b s).tile n) = place (s.tile n) := by
  unfold runX
  split
  · exact place_consume _ _ _ _
  · exact place_sendEffect _ _ _ _ _ _ _
  · exact place_voteEffect _ _ _ _ _ _ _
  · exact place_psetuEffect _ _ _ _ _ _
  · rfl

theorem place_runP (x : Snap) (b : Bundle) (s : State) (n : Nat) : place ((runP x b s).tile n) = place (s.tile n) := by
  unfold runP
  split
  · exact place_acceptDesc _ _ _ _ _ _
  · exact place_issueAEffect _ _ _ _ _ _ _
  · exact place_pordEffect _ _ _ _
  · rfl

/-- No slot of a bundle moves a tile in its program (R102). -/
theorem place_slotEffect (x : Snap) (b : Bundle) (s : State) (n : Nat) : place ((slotEffect x b s).tile n) = place (s.tile n) := by
  rw [slotEffect_eq, place_runP, place_runX, place_runA, place_runV, place_runM]

end Sys2Proof.Proofs
end

section
/-! PROOFS. The bundles that continue or leave the run of addresses (R105 to R116), from their opening to their end. -/

namespace Sys2Proof.Proofs

open Sys2Proof Sys2Proof.Machine Sys2Proof.Laws

/-! ### The HALT that a den keeps -/

/-- What a den keeps of its HALT (R116, R202): the address after it, and its bundle. -/
def haltMark (d : Den) : Nat × Option Nat := (d.nextAddr, d.wave.halt)

theorem haltMark_setDen {s : State} {slot : Nat} {d : Den} (n : Nat) (hd : haltMark d = haltMark (s.den slot)) :
    haltMark ((s.setDen slot d).den n) = haltMark (s.den n) := by
  rw [setDen_den]
  split
  · next h => rw [hd, h]
  · rfl

theorem haltMark_modDen {s : State} {f : Den → Den} (slot n : Nat) (hf : ∀ d, haltMark (f d) = haltMark d := by intro _; rfl) :
    haltMark ((s.modDen slot f).den n) = haltMark (s.den n) := haltMark_setDen n (hf _)

theorem haltMark_failStep (s : State) (slot : Nat) (code : Code) (n : Nat) :
    haltMark ((s.failStep slot code).den n) = haltMark (s.den n) := by
  unfold State.failStep
  dsimp only
  split
  · split
    · rw [den_of_dens_eq (setCur_frame _ _ _).2.2.2.2.1]
      exact haltMark_setDen n rfl
    · exact haltMark_setDen n rfl
  · rfl

theorem haltMark_dropMove (d : Den) : haltMark d.dropMove = haltMark d := by
  unfold Den.dropMove
  split <;> rfl

theorem haltMark_enterFaulted (s : State) (slot : Nat) (code : Code) (i : FaultInfo) (n : Nat) :
    haltMark ((s.enterFaulted slot code i).den n) = haltMark (s.den n) := by
  unfold State.enterFaulted
  dsimp only
  split
  case h_5 => rfl
  all_goals
    rw [if_pos rfl, den_of_dens_eq (beginReset_frame _ _ _).2.2.2.2.1, den_of_dens_eq (raise_frame _ _).2.2.2.2.1, haltMark_failStep]
    exact haltMark_setDen n (haltMark_dropMove (s.den slot))

theorem haltMark_reportError (s : State) (slot t : Nat) (code : Code) (src tag n : Nat) :
    haltMark ((s.reportError slot t code src tag).den n) = haltMark (s.den n) := by
  unfold State.reportError
  dsimp only
  split
  · rfl
  · split
    · exact haltMark_enterFaulted _ _ _ _ _
    · exact haltMark_modDen _ _

theorem haltMark_settleTile (s : State) (slot t n : Nat) : haltMark ((s.settleTile slot t).den n) = haltMark (s.den n) := by
  unfold State.settleTile
  dsimp only
  split
  · rfl
  split
  · rfl
  split
  · exact haltMark_reportError _ _ _ _ _ _ _
  split
  · split
    · exact haltMark_modDen _ _
    · exact haltMark_modDen _ _
  · rfl

theorem haltMark_settleAcross (s : State) (slot t n : Nat) : haltMark ((s.settleAcross slot t).den n) = haltMark (s.den n) := by
  unfold State.settleAcross
  dsimp only
  split
  · split
    · exact haltMark_settleTile _ _ _ _
    · rfl
  · rfl

theorem haltMark_reportHalt (s : State) (slot t n : Nat) : haltMark ((s.reportHalt slot t).den n) = haltMark (s.den n) := by
  unfold State.reportHalt State.reportStop
  split
  · split
    · rfl
    · exact haltMark_modDen _ _
  · rfl

theorem den_withSeam (s : State) (m : Seam) (n : Nat) : ({ s with seam := m } : State).den n = s.den n := rfl

/-- The end of a bundle leaves the HALT as its den has it (R93, R201). -/
theorem haltMark_endBundle (s : State) (slot t n : Nat) : haltMark ((s.endBundle slot t).den n) = haltMark (s.den n) := by
  have hhalt : haltMark (((s.modTile t endTile).reportHalt slot t).den n) = haltMark (s.den n) := haltMark_reportHalt _ _ _ _
  have horigin (d : Den) (f : Den → Den) (hf : ∀ d, haltMark (f d) = haltMark d) :
      haltMark ((if t = d.rect.origin then ((s.modTile t endTile).reportHalt slot t).modDen slot f
        else (s.modTile t endTile).reportHalt slot t).den n) = haltMark (s.den n) := by
    rw [← hhalt]
    split
    · exact haltMark_modDen _ _ hf
    · rfl
  unfold State.endBundle
  dsimp only
  split
  · exact horigin _ _ (by intro _; rfl)
  · refine (haltMark_settleAcross _ _ _ _).trans ?_
    rw [den_withSeam]
    exact (haltMark_modDen slot n).trans (horigin _ _ (by intro _; rfl))

/-! ### The cycle of a stored bundle -/

/-- A bundle that an operation of its slots has opened before opens as it stands (R102). -/
theorem opens_opened {s u : State} {t : TileIx} {slot : Nat} {kind : BundleKind} (h : s.opens t slot kind = some u)
    (hop : (s.tile t.val).opened = true) : u = s := by
  unfold State.opens State.passed at h
  dsimp only at h
  rw [if_pos hop] at h
  split at h
  · cases h
  · dsimp only at h
    split at h
    · cases h
    · exact (Option.some.inj h).symm

/-- The state that a stored bundle's slots see has the tile where it stood in its program (R102). -/
theorem place_of_opens {s u : State} {t : TileIx} {slot : Nat} {kind : BundleKind} (h : s.opens t slot kind = some u) :
    place (u.tile t.val) = place (s.tile t.val) := by
  cases hop : (s.tile t.val).opened
  · obtain ⟨-, d, pu, la, hu⟩ := opens_tile h hop
    have hbare := bare_landTile d { s.tile t.val with pump := pu, latches := la }
      (heldResults (s.tile t.val) ((s.tile t.val).halts kind))
    rw [hu]
    exact (congrArg place hbare :)
  · rw [opens_opened h hop]

/-- A stored bundle after its slots: stream control has moved the tile on, and a HALT stands in its den (R106 to R116). -/
def afterControl (u : State) (t : TileIx) (slot : Nat) (x : Tile) : State :=
  let v := (slotEffect (u.snap t slot) x.fetch u).modTile t.val fun y => y.control x.fetch (u.tile t.val)
  if x.fetch.ctl = 6 then v.modDen slot fun d =>
    { d with nextAddr := x.addr + 1, wave := { d.wave with halt := some x.bundle } } else v

theorem afterControl_tile (u : State) (t : TileIx) (slot : Nat) (x : Tile) : (afterControl u t slot x).tile t.val =
    ((slotEffect (u.snap t slot) x.fetch u).tile t.val).control x.fetch (u.tile t.val) := by
  have h := (modTile_tile (slotEffect (u.snap t slot) x.fetch u) t.val t.val fun y => y.control x.fetch (u.tile t.val)).trans (if_pos rfl)
  unfold afterControl
  dsimp only
  split <;> exact h

/-- A HALT stands in its den with its bundle and the address after it (R116, R202). -/
theorem haltMark_afterControl {u : State} {t : TileIx} {slot : Nat} {x : Tile} (h : x.fetch.ctl = 6) :
    haltMark ((afterControl u t slot x).den slot) = (x.addr + 1, some x.bundle) := by
  unfold afterControl
  dsimp only
  rw [if_pos h, modDen_den, if_pos rfl]
  rfl

/-- The cycle of a stored bundle that no fault stops, without upsets (R102). -/
theorem issueCycle_stored {s u : State} {t : TileIx} {slot : Nat} (h : s.clean u t slot .stored = true) :
    issueCycle s slot (s.den slot) t.val (s.tile t.val) .stored {} =
      .next ((afterControl u t slot (s.tile t.val)).endBundle slot t.val) := by
  have hu := opens_of_clean h
  simp only [State.clean, bne_self_eq_false, Bool.false_or, Bool.and_eq_true, Option.isNone_iff_eq_none] at h
  obtain ⟨-, hheader, hslots⟩ := h
  have hsnap : ({ t := t.val, slot := slot, den := u.den slot, tile := u.tile t.val } : Snap) = u.snap t slot := rfl
  rw [issueCycle, (openBundle_of_opens hu _).2]
  simp only [if_true, hheader, hsnap, hslots]
  simp [State.corrected, afterControl]

/-- A stored bundle opens at an address of the store alone (R64). -/
theorem addr_of_opens {s u : State} {t : TileIx} {slot : Nat} (h : s.opens t slot .stored = some u) : ¬ 0xFFF < (s.tile t.val).addr := by
  intro ha
  unfold State.opens at h
  dsimp only at h
  split at h
  · cases h
  · split at h
    · cases h
    · rw [if_pos ⟨rfl, ha⟩] at h
      cases h

/-- A stored bundle as a command: it runs its cycle where its CTL is the command's (R106). -/
theorem occurs_issueStored {s u : State} {t : TileIx} {slot c : Nat} (h : s.clean u t slot .stored = true)
    (hidle : (s.tile t.val).idle = 0) (hth : throttled (s.den slot) t.val (s.tile t.val) = false)
    (hc : (s.tile t.val).fetch.ctl = c) (h7 : c < 7) :
    occurs s (issueStored c t.val {} s) = .next ((afterControl u t slot (s.tile t.val)).endBundle slot t.val) := by
  have hu := opens_of_clean h
  have hctl : ¬ (0xFFF < (s.tile t.val).addr ∨ (s.tile t.val).fetch.ctl = 7) := by
    rintro (ha | h')
    · exact addr_of_opens hu ha
    · omega
  rw [issueStored, withIssue_of_issues (openBundle_of_opens hu .next).1, if_neg (not_not_intro hidle), if_neg (by simp [hth])]
  dsimp only
  rw [if_neg hctl, if_pos hc, issueCycle_stored h, occurs_next]

/-! ### Stream control -/

theorem control_next {b : Bundle} (h : b.ctl = 0) {x : Tile} (hl : ∀ l, x.loops.head? = some l → l.last ≠ x.addr) (o : Tile) :
    x.control b o = { x with last := x.addr, idle := b.arg, addr := x.addr + 1 } := by
  unfold Tile.control
  rw [h]
  dsimp only
  cases hx : x.loops with
  | nil => rfl
  | cons l ls => exact if_neg (hl l (by rw [hx]; rfl))

theorem control_next_again {b : Bundle} (h : b.ctl = 0) {x : Tile} {l : Loop} {ls : List Loop} (hl : x.loops = l :: ls)
    (ha : l.last = x.addr) (hleft : 1 < l.left) (o : Tile) : x.control b o =
      { x with last := x.addr, idle := b.arg, addr := l.first, loops := { l with left := l.left - 1 } :: ls } := by
  unfold Tile.control
  rw [h]
  dsimp only
  rw [hl]
  exact (if_pos ha).trans (if_pos hleft)

theorem control_next_done {b : Bundle} (h : b.ctl = 0) {x : Tile} {l : Loop} {ls : List Loop} (hl : x.loops = l :: ls)
    (ha : l.last = x.addr) (hleft : l.left ≤ 1) (o : Tile) :
    x.control b o = { x with last := x.addr, idle := b.arg, addr := x.addr + 1, loops := ls } := by
  unfold Tile.control
  rw [h]
  dsimp only
  rw [hl]
  exact (if_pos ha).trans (if_neg hleft.not_gt)

/-- NEXT sets the idle run whether or not a loop turns (R107, R111). -/
theorem control_next_idle {b : Bundle} (h : b.ctl = 0) (x o : Tile) :
    (x.control b o).bundle = x.bundle ∧ (x.control b o).last = x.addr ∧ (x.control b o).idle = b.arg := by
  cases hl : x.loops with
  | nil => rw [control_next h (by rw [hl]; simp)]; exact ⟨rfl, rfl, rfl⟩
  | cons l ls =>
    by_cases ha : l.last = x.addr
    · by_cases hleft : 1 < l.left
      · rw [control_next_again h hl ha hleft]; exact ⟨rfl, rfl, rfl⟩
      · rw [control_next_done h hl ha (Nat.le_of_not_lt hleft)]; exact ⟨rfl, rfl, rfl⟩
    · rw [control_next h (by rw [hl]; simpa using ha)]; exact ⟨rfl, rfl, rfl⟩

theorem control_br_taken {b : Bundle} (h : b.ctl = 1) (x : Tile) {o : Tile}
    (ht : (o.preg (12 + b.arg % 4)).testBit 0 = b.arg.testBit 2) : x.control b o =
      { x with last := x.addr, addr := b.target, idle := 1,
               loops := x.loops.filter fun l => l.first ≤ b.target && b.target ≤ l.last } := by
  unfold Tile.control taken
  rw [h]
  exact if_pos (beq_iff_eq.mpr ht)

theorem control_br_not_taken {b : Bundle} (h : b.ctl = 1) (x : Tile) {o : Tile}
    (ht : (o.preg (12 + b.arg % 4)).testBit 0 ≠ b.arg.testBit 2) : x.control b o = { x with last := x.addr, addr := x.addr + 1 } := by
  unfold Tile.control taken
  rw [h]
  exact if_neg fun h' => ht (beq_iff_eq.mp h')

theorem control_jmp {b : Bundle} (h : b.ctl = 2) (x o : Tile) : x.control b o =
    { x with last := x.addr, addr := b.target, idle := 1, loops := x.loops.filter fun l => l.first ≤ b.target && b.target ≤ l.last } := by
  unfold Tile.control
  rw [h]
  rfl

theorem control_loop {b : Bundle} (h : b.ctl = 3) (x o : Tile) : x.control b o =
    { x with last := x.addr, addr := x.addr + 1, loops := { first := x.addr + 1, last := b.target, left := b.times } :: x.loops } := by
  unfold Tile.control
  rw [h]
  rfl

theorem control_call {b : Bundle} (h : b.ctl = 4) (x o : Tile) : x.control b o =
    { x with last := x.addr, addr := b.target, idle := 1, calls := (x.addr + 1) :: x.calls } := by
  unfold Tile.control
  rw [h]
  rfl

theorem control_ret {b : Bundle} (h : b.ctl = 5) {x : Tile} {c : Nat} {cs : List Nat} (hc : x.calls = c :: cs) (o : Tile) :
    x.control b o = { x with last := x.addr, addr := c, idle := 1, calls := cs } := by
  unfold Tile.control
  rw [h]
  dsimp only
  rw [hc]
  rfl

theorem control_halt {b : Bundle} (h : b.ctl = 6) (x o : Tile) :
    x.control b o = { x with last := x.addr, addr := x.addr + 1, phase := .draining } := by
  unfold Tile.control
  rw [h]
  rfl

/-- Stream control goes by a tile's place in its program (R106). -/
theorem place_control {x y : Tile} (h : place y = place x) (b : Bundle) (o : Tile) :
    place (y.control b o) = place (x.control b o) := by
  have hphase : y.phase = x.phase := (congrArg Tile.phase h :)
  have haddr : y.addr = x.addr := (congrArg Tile.addr h :)
  have hbundle : y.bundle = x.bundle := (congrArg Tile.bundle h :)
  have hidle : y.idle = x.idle := (congrArg Tile.idle h :)
  have hloops : y.loops = x.loops := (congrArg Tile.loops h :)
  have hcalls : y.calls = x.calls := (congrArg Tile.calls h :)
  unfold Tile.control place
  dsimp only
  rw [hphase, haddr, hbundle, hidle, hloops, hcalls]
  split
  · split
    · split
      · split <;> rfl
      · rfl
    · rfl
  · split <;> rfl
  · rfl
  · rfl
  · rfl
  · split <;> rfl
  · rfl
  · rfl

/-- Only HALT starts the drain cycles (R116). -/
theorem control_phase {b : Bundle} (h : b.ctl ≠ 6) (x o : Tile) : (x.control b o).phase = x.phase := by
  unfold Tile.control
  dsimp only
  split
  · split
    · split
      · split <;> rfl
      · rfl
    · rfl
  · split <;> rfl
  · rfl
  · rfl
  · rfl
  · split <;> rfl
  · next h6 => exact absurd h6 h
  · rfl

/-- A tile that runs no drain cycles ends its bundle where stream control put it, one bundle on (R102). -/
theorem place_endTile {x : Tile} (h : x.phase ≠ .draining) : place (endTile x) = { place x with bundle := x.bundle + 1 } := by
  rw [endTile, Tile.settleHalt, if_neg fun h' => h h'.1]
  rfl

/-- A tile ends its HALT bundle one bundle on, in its drain cycles or stopped (R116). -/
theorem endTile_halt {x : Tile} (h : x.phase = .draining) :
    (endTile x).bundle = x.bundle + 1 ∧ (endTile x).last = x.last ∧
      ((endTile x).phase = .draining ∨ (endTile x).phase = .stopped) := by
  unfold endTile Tile.settleHalt
  split
  · exact ⟨rfl, rfl, .inr rfl⟩
  · exact ⟨rfl, rfl, .inl h⟩

/-- A stored bundle that no fault stops, from its opening to its end: the tile is where stream control puts it, and its den has the HALT
that the bundle gives it. -/
theorem storedBundle_runs {s u : State} {t : TileIx} {slot c : Nat} (h : s.clean u t slot .stored = true)
    (hidle : (s.tile t.val).idle = 0) (hth : throttled (s.den slot) t.val (s.tile t.val) = false)
    (hc : (s.tile t.val).fetch.ctl = c) (h7 : c < 7) :
    ∃ r y f, occurs s (issueStored c t.val {} s) = .next r ∧
      place y = place ((s.tile t.val).control (s.tile t.val).fetch (u.tile t.val)) ∧ r.tile t.val = { endTile y with frozen := f } ∧
      haltMark (r.den slot) = haltMark ((afterControl u t slot (s.tile t.val)).den slot) := by
  obtain ⟨f, hf⟩ := endBundle_tile (afterControl u t slot (s.tile t.val)) slot t.val
  refine ⟨_, _, f, occurs_issueStored h hidle hth hc h7, ?_, hf, haltMark_endBundle _ _ _ _⟩
  rw [afterControl_tile]
  exact place_control ((place_slotEffect _ _ _ _).trans (place_of_opens (opens_of_clean h))) _ _

/-- A stored bundle but HALT: where its tile stands afterwards (R106 to R113). -/
theorem storedBundle_moves {s u : State} {t : TileIx} {slot c : Nat} (h : s.clean u t slot .stored = true)
    (hidle : (s.tile t.val).idle = 0) (hth : throttled (s.den slot) t.val (s.tile t.val) = false)
    (hc : (s.tile t.val).fetch.ctl = c) (h6 : c < 6) :
    ∃ r, occurs s (issueStored c t.val {} s) = .next r ∧ place (r.tile t.val) =
      place { (s.tile t.val).control (s.tile t.val).fetch (u.tile t.val) with
        bundle := ((s.tile t.val).control (s.tile t.val).fetch (u.tile t.val)).bundle + 1 } := by
  obtain ⟨r, y, f, hrun, hy, hr, -⟩ := storedBundle_runs h hidle hth hc (by omega)
  have hbundle : y.bundle = _ := (congrArg Tile.bundle hy :)
  have hphase : y.phase = .running := (congrArg Tile.phase hy :).trans
    ((control_phase (by omega) _ _).trans (phase_of_issues (openBundle_of_opens (opens_of_clean h) .next).1))
  refine ⟨r, hrun, ?_⟩
  rw [hr]
  refine (place_endTile (by rw [hphase]; decide)).trans ?_
  rw [hy, hbundle]
  rfl

/-- Settles O11: a bundle moves its tile by stream control alone, and its end adds one to the bundle number. -/
theorem streamControl : Obligations.StreamControl := by
  rintro s u t slot x b rfl rfl hidle hth h -
  refine ⟨fun hc => ?_, fun hc => ?_, fun hc => ?_, fun hc => ?_, fun hc => ?_, fun hc c cs hcs => ?_, fun hc => ?_⟩
  · obtain ⟨r, hrun, hr⟩ := storedBundle_moves h hidle hth hc (by decide)
    obtain ⟨hbundle, hlast, hi⟩ := control_next_idle hc (s.tile t.val) (u.tile t.val)
    refine ⟨r, hrun, (congrArg Tile.bundle hr :).trans (congrArg (· + 1) hbundle), (congrArg Tile.last hr :).trans hlast,
      (congrArg Tile.idle hr :).trans hi, fun hl => ?_, fun l ls hl ha => ⟨fun hleft => ?_, fun hleft => ?_⟩⟩
    · rw [control_next hc hl] at hr
      exact ⟨(congrArg Tile.addr hr :), (congrArg Tile.loops hr :)⟩
    · rw [control_next_again hc hl ha hleft] at hr
      exact ⟨(congrArg Tile.addr hr :), (congrArg Tile.loops hr :)⟩
    · rw [control_next_done hc hl ha hleft] at hr
      exact ⟨(congrArg Tile.addr hr :), (congrArg Tile.loops hr :)⟩
  · obtain ⟨r, hrun, hr⟩ := storedBundle_moves h hidle hth hc (by decide)
    by_cases ht : ((u.tile t.val).preg (12 + (s.tile t.val).fetch.arg % 4)).testBit 0 = (s.tile t.val).fetch.arg.testBit 2
    · rw [control_br_taken hc _ ht] at hr
      exact ⟨r, hrun, (congrArg Tile.bundle hr :), (congrArg Tile.last hr :),
        fun _ => ⟨(congrArg Tile.addr hr :), (congrArg Tile.idle hr :), (congrArg Tile.loops hr :)⟩, fun hn => absurd ht hn⟩
    · rw [control_br_not_taken hc _ ht] at hr
      exact ⟨r, hrun, (congrArg Tile.bundle hr :), (congrArg Tile.last hr :), fun ht' => absurd ht' ht,
        fun _ => ⟨(congrArg Tile.addr hr :), (congrArg Tile.idle hr :).trans hidle, (congrArg Tile.loops hr :)⟩⟩
  · obtain ⟨r, hrun, hr⟩ := storedBundle_moves h hidle hth hc (by decide)
    rw [control_jmp hc] at hr
    exact ⟨r, hrun, (congrArg Tile.bundle hr :), (congrArg Tile.last hr :), (congrArg Tile.addr hr :), (congrArg Tile.idle hr :),
      (congrArg Tile.loops hr :)⟩
  · obtain ⟨r, hrun, hr⟩ := storedBundle_moves h hidle hth hc (by decide)
    rw [control_loop hc] at hr
    exact ⟨r, hrun, (congrArg Tile.bundle hr :), (congrArg Tile.last hr :), (congrArg Tile.addr hr :), (congrArg Tile.loops hr :)⟩
  · obtain ⟨r, hrun, hr⟩ := storedBundle_moves h hidle hth hc (by decide)
    rw [control_call hc] at hr
    exact ⟨r, hrun, (congrArg Tile.bundle hr :), (congrArg Tile.last hr :), (congrArg Tile.addr hr :), (congrArg Tile.idle hr :),
      (congrArg Tile.calls hr :)⟩
  · obtain ⟨r, hrun, hr⟩ := storedBundle_moves h hidle hth hc (by decide)
    rw [control_ret hc hcs] at hr
    exact ⟨r, hrun, (congrArg Tile.bundle hr :), (congrArg Tile.last hr :), (congrArg Tile.addr hr :), (congrArg Tile.idle hr :),
      (congrArg Tile.calls hr :)⟩
  · obtain ⟨r, y, f, hrun, hy, hr, hmark⟩ := storedBundle_runs h hidle hth hc (by decide)
    rw [control_halt hc] at hy
    obtain ⟨hbundle, hlast, hphase⟩ := endTile_halt (x := y) (congrArg Tile.phase hy :)
    obtain ⟨hnext, hhalt⟩ := Prod.mk.inj (hmark.trans (haltMark_afterControl hc))
    refine ⟨r, hrun, ?_⟩
    beta_reduce
    rw [hr]
    exact ⟨hbundle.trans (congrArg (fun z => z.bundle + 1) hy :), hlast.trans (congrArg Tile.last hy :), hphase, hnext, hhalt⟩

end Sys2Proof.Proofs
end

section
/-! PROOFS. The comparisons of the V slot (R180). -/

namespace Sys2Proof.Proofs

open Sys2Proof Sys2Proof.Machine Sys2Proof.Laws

/-- The comparisons of vectors (R127, R180). -/
def compareOps : List VOp := [.vcmpeq, .vcmplt, .vcmple]

/-- What a comparison says of two elements of a type (R180): `k` of numbers, `int` of signed integers, which raise no flags. -/
def compareElem (y : ETy) (k : FCmp) (int : Int → Int → Bool) (a b : Nat) : Bool × FFlags :=
  match y.fmt with
  | some m => m.cmp k a b
  | none => (int (sextNat y.bits a) (sextNat y.bits b), {})

/-- The elements of two operands, compared pair by pair (R180). -/
def compareElements (x : Snap) (f : VFields) (g : Nat → Nat → Bool × FFlags) : List (Bool × FFlags) :=
  let w := (ETy.ofField f.ty.toNat).bits
  (List.range (512 / w)).map fun i => g ((x.vector w f.s1.toNat).getD i 0) ((x.vector w f.s2.toNat).getD i 0)

/-- A result for a predicate register (R53, R108, R180): a bit for every byte of each element of `w` bits, those that the predicate lets
through, and the flags of the elements written. -/
def compareLanding (x : Snap) (f : VFields) (w : Nat) (es : List (Bool × FFlags)) : Landing :=
  { left := 2, dest := .p f.vd.toNat, val := BitVec.ofNat 512 (maskBits (w / 8) (es.map (·.1))),
    mask := BitVec.ofNat 512 (maskBits (w / 8) (predMask w (512 / w) (x.pred f))),
    vflags := flagsOf (predMask w (512 / w) (x.pred f)) (es.map (·.2)) }

/-- The result of a comparison of vectors. -/
theorem vLanding_compare {o : VOp} (ho : o ∈ compareOps) (f : VFields) (x : Snap) :
    vLanding o f x = some (compareLanding x f (cmpResult o f x).1 (cmpResult o f x).2) := by
  fin_cases ho <;> rfl

theorem cmpResult_vcmpeq (f : VFields) (x : Snap) : cmpResult .vcmpeq f x = ((ETy.ofField f.ty.toNat).bits,
    compareElements x f (compareElem (ETy.ofField f.ty.toNat) .eq fun a b => a == b)) := rfl

theorem cmpResult_vcmplt (f : VFields) (x : Snap) : cmpResult .vcmplt f x = ((ETy.ofField f.ty.toNat).bits,
    compareElements x f (compareElem (ETy.ofField f.ty.toNat) .lt fun a b => a < b)) := rfl

theorem cmpResult_vcmple (f : VFields) (x : Snap) : cmpResult .vcmple f x = ((ETy.ofField f.ty.toNat).bits,
    compareElements x f (compareElem (ETy.ofField f.ty.toNat) .le fun a b => a ≤ b)) := rfl

/-- A comparison of vectors as a command, from what it says of each pair of elements: its bits are in flight. -/
theorem occurs_compare {s u : State} {t : TileIx} {slot w : Nat} {f : VFields} {o : VOp} {es : List (Bool × FFlags)} (ho : o ∈ compareOps)
    (h : s.ready u t slot = true) (hbusy : (u.tile t.val).vecBusy = 0) (he : cmpResult o f (u.snap t slot) = (w, es))
    (hb : o.bad f = false) :
    occurs s (slotV o t.val f s) = .next (u.inFlight t [compareLanding (u.snap t slot) f w es]) := by
  have hm : o ≠ .vcmul ∧ o ≠ .vcfma := by fin_cases ho <;> decide
  rw [occurs_slotV h hb (.inr hbusy) hm, vLanding_compare ho, he]
  rfl

/-- Settles O15: each comparison says of every pair of elements what its relation does, on numbers or on signed integers. -/
theorem vectorCompare : Obligations.VectorCompare := by
  rintro s u t slot f y x m h hbusy rfl rfl rfl cmp bits
  exact ⟨occurs_compare (o := .vcmpeq) (by decide) h hbusy (cmpResult_vcmpeq f _),
    occurs_compare (o := .vcmplt) (by decide) h hbusy (cmpResult_vcmplt f _),
    occurs_compare (o := .vcmple) (by decide) h hbusy (cmpResult_vcmple f _)⟩

end Sys2Proof.Proofs
end

section
/-! PROOFS. Line accesses of a well (R219, R224 to R226). -/

namespace Sys2Proof.Proofs

open Sys2Proof Sys2Proof.Machine Sys2Proof.Laws

/-! ### The wells after the shared operations -/

theorem well_of_wells_eq {s u : State} (h : u.wells = s.wells) (m : Nat) : u.well m = s.well m := by
  rw [State.well, State.well, h]

@[simp] theorem emit_well (s : State) (x : Sent) (m : Nat) : (s.emit x).well m = s.well m := rfl
@[simp] theorem bump_well (s : State) (ix el k m : Nat) : (s.bump ix el k).well m = s.well m := rfl
@[simp] theorem setReg_well (s : State) (ix el v m : Nat) : (s.setReg ix el v).well m = s.well m := rfl
@[simp] theorem raiseAt_well (s : State) (agent floor k m : Nat) : (s.raiseAt agent floor k).well m = s.well m := rfl
@[simp] theorem noteSpares_well (s : State) (w m : Nat) : (s.noteSpares w).well m = s.well m := rfl
@[simp] theorem settleWarn_well (s : State) (m : Nat) : s.settleWarn.well m = s.well m := rfl

@[simp] theorem haul_well (s : State) (kind : PacketKind) (src dst : Option MeshEnd) (slot lines m : Nat) :
    (s.haul kind src dst slot lines).well m = s.well m := well_of_wells_eq (by simp) m

@[simp] theorem faultAll_well (s : State) (c : Code) (ds : List Nat) (m : Nat) : (s.faultAll c ds).well m = s.well m :=
  well_of_wells_eq (by simp) m

theorem setWell_well_same (s : State) (n : Nat) (x : Well) : (s.setWell n x).well n = x := by rw [setWell_well, if_pos rfl]

/-- A well that is set with the bytes it has: no well changes a byte. -/
theorem setWell_data {s : State} {n : Nat} {x : Well} (h : x.data = (s.well n).data) (m : Nat) :
    ((s.setWell n x).well m).data = (s.well m).data := by
  rw [setWell_well]
  split
  · rw [h, ‹m = n›]
  · rfl

@[simp] theorem want_data (w : Well) (sh : Nat) : (w.want sh).data = w.data := by
  unfold Well.want
  split <;> split <;> rfl

/-! ### The bytes of a line -/

theorem length_memRead (m : KMap Byte) (a n : Nat) : (memRead m a n).length = n := by simp [memRead]

theorem getElem_memRead (m : KMap Byte) (a n i : Nat) (h : i < (memRead m a n).length) : (memRead m a n)[i] = kget 0 m (a + i) := by
  simp [memRead]

/-- A line of a store after it is written with some of its bytes replaced: those bytes, and every other byte of the store as before. -/
theorem kget_memWrite_line (m : KMap Byte) (a off : Nat) (bs l : List Byte) (hfit : off + bs.length ≤ 64)
    (hl : accessLine (.write off bs) (memRead m a 64) = some l) (b : Nat) :
    kget 0 (memWrite m a l) b =
      if h : a + off ≤ b ∧ b < a + off + bs.length then bs[b - (a + off)]'(by omega) else kget 0 m b := by
  obtain rfl : (memRead m a 64).take off ++ bs ++ (memRead m a 64).drop (off + bs.length) = l := Option.some.inj hl
  have hlen : ((memRead m a 64).take off ++ bs ++ (memRead m a 64).drop (off + bs.length)).length = 64 := by
    simp [length_memRead]; omega
  rw [kget_memWrite]
  by_cases hline : a ≤ b ∧ b < a + 64
  · rw [dif_pos (by rw [hlen]; exact hline)]
    obtain ⟨i, rfl⟩ : ∃ i, b = a + i := ⟨b - a, by omega⟩
    have hi : a + i - a = i := by omega
    simp only [hi, List.getElem_append, List.length_append, List.length_take, length_memRead, List.getElem_take, List.getElem_drop,
      getElem_memRead]
    grind
  · rw [dif_neg (by rw [hlen]; exact hline), dif_neg (by omega)]

/-! ### An access to a line -/

/-- A line with no bad symbol is read as it stands (R224). -/
theorem lineRead_good (s : State) (n line : Nat) : s.lineRead n line 0 = (kOk, s) := rfl

/-- A read of a line changes no byte of any well, whatever symbols are bad (R224, R225). -/
theorem lineRead_data (s : State) (n line b m : Nat) : ((s.lineRead n line b).2.well m).data = (s.well m).data := by
  unfold State.lineRead
  dsimp only
  split
  · rfl
  split
  · rw [bump_well]
    exact setWell_data (by rfl) m
  · rw [raiseAt_well, setReg_well, bump_well]
    exact setWell_data (by rw [apply_ite Well.data, want_data, ite_self]) m

/-- What an access to a well leaves (R224 to R226): the bytes of every well as they were, or those of its line as the access makes
them. -/
theorem wellAccess_data (s : State) (a : Nat) (k : Access) (bad : Nat) :
    (∀ m, ((s.wellAccess a k bad).2.2.well m).data = (s.well m).data) ∨
    ∃ l, accessLine k (memRead (s.well (a / 2 ^ 37 % 16)).data (64 * (a % 2 ^ 37 / 64)) 64) = some l ∧
      ∀ m, ((s.wellAccess a k bad).2.2.well m).data =
        if m = a / 2 ^ 37 % 16 then memWrite (s.well (a / 2 ^ 37 % 16)).data (64 * (a % 2 ^ 37 / 64)) l else (s.well m).data := by
  unfold State.wellAccess
  generalize a / 2 ^ 37 % 16 = n, a % 2 ^ 37 / 64 = line
  dsimp only
  split
  · exact .inl fun _ => rfl
  split
  · exact .inl fun _ => rfl
  generalize hp : (if accessFull k then _ else _ : Code × State) = p
  have hread : ∀ m, (p.2.well m).data = (s.well m).data := by
    intro m
    subst hp
    split
    · exact setWell_data (n := n) (by rfl) m
    · exact lineRead_data s n line _ m
  split
  · exact .inl hread
  cases hl : accessLine k (memRead (s.well n).data (64 * line) 64) with
  | none => exact .inl hread
  | some l =>
    refine .inr ⟨l, rfl, fun m => ?_⟩
    rw [setWell_well]
    split
    · simp only [hread]
    · exact hread m

/-- A read of a good line in a well in service (R224). -/
theorem wellAccess_read_good {s : State} {a n line : Nat} (hn : n = a / 2 ^ 37 % 16) (hline : line = a % 2 ^ 37 / 64)
    (hin : s.reg (0x300 + n) 0 = 1) (hlost : ¬ (s.well n).lost.contains (line / 2 ^ 22)) (hbad : kget 0 (s.well n).bad line = 0) :
    s.wellAccess a .read 0 = (kOk, memRead (s.well n).data (64 * line) 64, s) := by
  subst hn hline
  unfold State.wellAccess
  dsimp only
  rw [if_neg (not_not.mpr hin), if_neg hlost, hbad]
  rfl

/-- An access that changes a good line in a well in service (R224 to R226): its answer, the bytes it leaves, and nothing else. -/
theorem wellAccess_change_good {s : State} {a n line : Nat} {k : Access} {l : List Byte} (hn : n = a / 2 ^ 37 % 16)
    (hline : line = a % 2 ^ 37 / 64) (hin : s.reg (0x300 + n) 0 = 1) (hlost : ¬ (s.well n).lost.contains (line / 2 ^ 22))
    (hbad : kget 0 (s.well n).bad line = 0) (hl : accessLine k (memRead (s.well n).data (64 * line) 64) = some l) :
    ∃ u, s.wellAccess a k 0 = (kOk, accessAnswer k (memRead (s.well n).data (64 * line) 64), u) ∧
      (u.well n).data = memWrite (s.well n).data (64 * line) l ∧ ∀ m, m ≠ n → u.well m = s.well m := by
  subst hn hline
  unfold State.wellAccess
  dsimp only
  rw [if_neg (not_not.mpr hin), if_neg hlost, hbad, Nat.add_zero, lineRead_good, hl]
  split <;> exact ⟨_, rfl, by simp only [setWell_well_same], fun m hm => by simp only [setWell_well, if_neg hm]⟩

/-! ### The command -/

theorem exec_wellAccess {k : Access} (hk : accessFits k = true) (a : BitVec 41) (who : Agent) (bad : Nat) (s : State) :
    exec (.wellAccess a k who bad) s = .next ((s.wellAccess a.toNat k bad).2.2.emit
      (.line who (s.wellAccess a.toNat k bad).1 (s.wellAccess a.toNat k bad).2.1)) := by
  change execWellAccess a k who bad s = _
  unfold execWellAccess
  rw [need_true _ _ _ hk]
  rfl

/-- A good line that a command reads in a well in service. -/
theorem exec_wellAccess_read {s : State} {a : BitVec 41} {n line : Nat} (who : Agent) (hn : n = a.toNat / 2 ^ 37 % 16)
    (hline : line = a.toNat % 2 ^ 37 / 64) (hin : s.reg (0x300 + n) 0 = 1) (hlost : ¬ (s.well n).lost.contains (line / 2 ^ 22))
    (hbad : kget 0 (s.well n).bad line = 0) :
    exec (.wellAccess a .read who 0) s = .next (s.emit (.line who kOk (memRead (s.well n).data (64 * line) 64))) := by
  rw [exec_wellAccess rfl, wellAccess_read_good hn hline hin hlost hbad]

/-- A good line that a command changes in a well in service. -/
theorem exec_wellAccess_change {s : State} {a : BitVec 41} {n line : Nat} {k : Access} {l : List Byte} (who : Agent)
    (hn : n = a.toNat / 2 ^ 37 % 16) (hline : line = a.toNat % 2 ^ 37 / 64) (hin : s.reg (0x300 + n) 0 = 1)
    (hlost : ¬ (s.well n).lost.contains (line / 2 ^ 22)) (hbad : kget 0 (s.well n).bad line = 0) (hk : accessFits k = true)
    (hl : accessLine k (memRead (s.well n).data (64 * line) 64) = some l) :
    Completes (exec (.wellAccess a k who 0) s) fun r => (r.well n).data = memWrite (s.well n).data (64 * line) l ∧
      (∀ m, m ≠ n → r.well m = s.well m) ∧
      r.outbox = .line who kOk (accessAnswer k (memRead (s.well n).data (64 * line) 64)) :: s.outbox := by
  obtain ⟨u, hu, hdata, hother⟩ := wellAccess_change_good hn hline hin hlost hbad hl
  have hout : u.outbox = s.outbox := by
    have := (wellAccess_frame s a.toNat k 0).2.2.1
    rwa [hu] at this
  refine ⟨_, exec_wellAccess hk a who 0 s, ?_⟩
  rw [hu]
  exact ⟨hdata, hother, congrArg _ hout⟩

/-- Settles O8: an access leaves the bytes of every well, or those of its line as it makes them (R224). -/
theorem wellMemory : Obligations.WellMemory := by
  rintro s t a who n line rfl rfl
  have hframe : ∀ {k bad}, accessFits k = true → exec (.wellAccess a k who bad) s = .next t →
      (∀ m, t.well m = (s.wellAccess a.toNat k bad).2.2.well m) ∧ t.tiles = s.tiles ∧ t.cisterns = s.cisterns := by
    intro k bad hk h
    rw [exec_wellAccess hk] at h
    obtain rfl := Host.Outcome.next.inj h
    exact ⟨fun m => rfl, by simp, by simp⟩
  refine ⟨fun bad h => ?_, fun bad off bs hfit h => ?_, fun off bs hfit hin hlost hbad => ?_⟩
  · obtain ⟨hwell, hrest⟩ := hframe rfl h
    refine ⟨fun m b => ?_, hrest⟩
    obtain hsame | ⟨l, hl, -⟩ := wellAccess_data s a.toNat .read bad
    · rw [hwell, hsame]
    · cases hl
  · obtain ⟨hwell, hrest⟩ := hframe (k := .write off bs) (decide_eq_true hfit) h
    refine ⟨fun m b hb => ?_, hrest⟩
    rw [hwell]
    obtain hsame | ⟨l, hl, hdata⟩ := wellAccess_data s a.toNat (.write off bs) bad
    · rw [hsame]
    · rw [hdata]
      split
      · rw [kget_memWrite_line _ _ off bs l hfit hl, dif_neg (by omega), ‹m = _›]
      · rfl
  · obtain ⟨r, hr, hdata, -⟩ :=
      exec_wellAccess_change (k := .write off bs) who rfl rfl hin hlost hbad (decide_eq_true hfit) rfl
    refine ⟨r, hr, fun i hi => ?_⟩
    rw [hdata, kget_memWrite_line _ _ off bs _ hfit rfl, dif_pos (by omega)]
    congr 1
    omega

end Sys2Proof.Proofs
end

section
/-! PROOFS. The upkeep of a well: refresh, patrol, row repair and the remap of a shaft (R227, R228, R272 to R278). -/

namespace Sys2Proof.Proofs

open Sys2Proof Sys2Proof.Machine Sys2Proof.Laws

/-! ### Refresh and patrol -/

theorem refresh_advances {s : State} {w : WellIx} (shaft : Fin 512) (bank : Fin 64) (hin : s.reg (0x300 + w.val) 0 = 1) :
    Completes (exec (.refresh w shaft bank) s) fun r =>
      kget 0 (r.well w.val).refresh (64 * shaft.val + bank.val) = (kget 0 (s.well w.val).refresh (64 * shaft.val + bank.val) + 1) % 2048 ∧
      (r.well w.val).data = (s.well w.val).data := by
  change Completes (execRefresh w shaft bank s) _
  unfold execRefresh
  rw [need_true _ _ _ (beq_iff_eq.mpr hin)]
  refine ⟨_, rfl, ?_⟩
  beta_reduce
  rw [setWell_well_same, kget_kmod, if_pos rfl]
  exact ⟨rfl, rfl⟩

theorem patrolScrub_advances {s : State} {w : WellIx} (bad : Nat) (hin : s.reg (0x300 + w.val) 0 = 1) :
    Completes (exec (.patrolScrub w bad) s) fun r => r.reg (0x300 + w.val) 0x0B = (s.reg (0x300 + w.val) 0x0B + 1) % 2 ^ 31 ∧
      (r.well w.val).data = (s.well w.val).data := by
  change Completes (execPatrolScrub w bad s) _
  unfold execPatrolScrub
  rw [need_true _ _ _ (beq_iff_eq.mpr hin)]
  refine ⟨_, rfl, ?_, ?_⟩
  · rw [setReg_reg _ _ (by decide) (by decide), if_pos ⟨rfl, rfl⟩]
  · rw [setReg_well]
    dsimp only
    generalize hp : (if (s.well w.val).lost.contains _ then s else _ : State) = p
    have hread : (p.well w.val).data = (s.well w.val).data := by
      subst hp
      split
      · rfl
      · exact lineRead_data _ _ _ _ _
    split
    · rw [setWell_data (by rfl)]
      exact hread
    · exact hread

/-! ### Row repair -/

/-- A spare row for a bank that has one left (R272). -/
theorem spend_row {x : Well} {sh : Nat} {b : Fin 64} (h : kget 0 x.rowsUsed (64 * sh + b.val) < 32) :
    x.spend sh (.row b) =
      { x with rowsUsed := kput 0 x.rowsUsed (64 * sh + b.val) (kget 0 x.rowsUsed (64 * sh + b.val) + 1) } := by
  unfold Well.spend spendSpare
  simp only [if_pos h]

/-- A bank with no spare row left needs its shaft remapped (R274). -/
theorem spend_row_none {x : Well} {sh : Nat} {b : Fin 64} (h : 32 ≤ kget 0 x.rowsUsed (64 * sh + b.val)) :
    x.spend sh (.row b) = x.want sh := by
  unfold Well.spend spendSpare
  simp only [if_neg (not_lt.mpr h)]

theorem contains_wanted_want {x : Well} {sh : Nat} (hlost : x.lost.contains sh = false) (hcopy : x.copying = none) :
    (x.want sh).wanted.contains sh = true := by
  unfold Well.want
  rw [hlost, hcopy]
  dsimp only
  split
  next h => simpa only [Bool.or_false] using h
  next => simp

theorem noteSpares_rows (s : State) (w : Nat) : (s.noteSpares w).reg (0x300 + w) 8 = sparesMin (s.well w).rowsUsed 32 := by
  unfold State.noteSpares
  rw [setReg_reg _ _ (by decide) (by decide), if_neg (by simp), setReg_reg _ _ (by decide) (by decide), if_pos ⟨rfl, rfl⟩]

/-- A row's repair (R272 to R274): its errors are counted anew, and what it takes is a spare row of its bank. -/
theorem exec_rowRepair {s : State} {w : WellIx} {shaft : Fin 512} {bank : Fin 64} {row : Fin 2048}
    (h : 4 ≤ (kget [] (s.well w.val).corrected (2048 * (64 * shaft.val + bank.val) + row.val)).length) :
    ∃ x : Well, exec (.rowRepair w shaft bank row) s = .next ((s.setWell w.val (x.spend shaft.val (.row bank))).noteSpares w.val) ∧
      x.rowsUsed = (s.well w.val).rowsUsed ∧ x.lost = (s.well w.val).lost ∧ x.copying = (s.well w.val).copying ∧
      x.data = (s.well w.val).data := by
  have hrun : exec (.rowRepair w shaft bank row) s = execRowRepair w shaft bank row s := rfl
  unfold execRowRepair at hrun
  dsimp only at hrun
  rw [need_true _ _ _ (decide_eq_true h)] at hrun
  exact ⟨_, hrun, rfl, rfl, rfl, rfl⟩

theorem rowRepair_spends {s : State} {w : WellIx} {shaft : Fin 512} {bank : Fin 64} {row : Fin 2048}
    (h : 4 ≤ (kget [] (s.well w.val).corrected (2048 * (64 * shaft.val + bank.val) + row.val)).length)
    (hleft : kget 0 (s.well w.val).rowsUsed (64 * shaft.val + bank.val) < 32) :
    Completes (exec (.rowRepair w shaft bank row) s) fun r =>
      kget 0 (r.well w.val).rowsUsed (64 * shaft.val + bank.val) = kget 0 (s.well w.val).rowsUsed (64 * shaft.val + bank.val) + 1 ∧
      r.reg (0x300 + w.val) 8 = sparesMin (r.well w.val).rowsUsed 32 ∧ (r.well w.val).data = (s.well w.val).data := by
  obtain ⟨x, hrun, hrows, -, -, hdata⟩ := exec_rowRepair h
  refine ⟨_, hrun, ?_⟩
  rw [← hrows] at hleft ⊢
  rw [noteSpares_rows, noteSpares_well, setWell_well_same, spend_row hleft]
  exact ⟨by rw [kget_kput_same], rfl, hdata⟩

theorem rowRepair_wants {s : State} {w : WellIx} {shaft : Fin 512} {bank : Fin 64} {row : Fin 2048}
    (h : 4 ≤ (kget [] (s.well w.val).corrected (2048 * (64 * shaft.val + bank.val) + row.val)).length)
    (hnone : 32 ≤ kget 0 (s.well w.val).rowsUsed (64 * shaft.val + bank.val)) (hlost : (s.well w.val).lost.contains shaft.val = false)
    (hcopy : (s.well w.val).copying = none) :
    Completes (exec (.rowRepair w shaft bank row) s) fun r => (r.well w.val).wanted.contains shaft.val := by
  obtain ⟨x, hrun, hrows, hlost', hcopy', -⟩ := exec_rowRepair h
  refine ⟨_, hrun, ?_⟩
  beta_reduce
  rw [noteSpares_well, setWell_well_same, spend_row_none (hrows ▸ hnone)]
  exact contains_wanted_want (hlost' ▸ hlost) (hcopy'.trans hcopy)

/-! ### The remap of a shaft -/

theorem remapStart_copies {s : State} {w : WellIx} {shaft : Fin 512} {sp : Fin 16} (hw : (s.well w.val).wanted.contains shaft.val)
    (hcopy : (s.well w.val).copying = none) (hfree : (s.well w.val).spareFree sp.val) :
    Completes (exec (.remapStart w shaft sp) s) fun r => (r.well w.val).copying = some { shaft := shaft.val, spare := sp.val } ∧
      (r.well w.val).wanted = (s.well w.val).wanted.filter (· != shaft.val) := by
  change Completes (execRemapStart w shaft sp s) _
  obtain ⟨j, hj⟩ : ∃ j, (s.well w.val).freeSpare = some j := by
    rw [← Option.isSome_iff_exists, Well.freeSpare, List.find?_isSome]
    exact ⟨sp.val, List.mem_range.mpr sp.isLt, hfree⟩
  have hj' : ({ s.well w.val with wanted := (s.well w.val).wanted.filter (· != shaft.val) } : Well).freeSpare = some j := hj
  unfold execRemapStart
  dsimp only
  rw [need_true _ _ _ (by rw [hw, hcopy]; rfl), hj']
  dsimp only
  rw [need_true _ _ _ (by exact hfree)]
  refine ⟨_, rfl, ?_⟩
  beta_reduce
  rw [raiseAt_well, setWell_well_same]
  exact ⟨rfl, rfl⟩

theorem loseShaft_lost (s : State) (w sh : Nat) : ((s.loseShaft w sh).well w).lost.contains sh = true := by
  unfold State.loseShaft
  rw [faultAll_well, raiseAt_well, setWell_well_same]
  dsimp only
  split
  · assumption
  · simp

theorem remapStart_loses {s : State} {w : WellIx} {shaft : Fin 512} (sp : Fin 16) (hw : (s.well w.val).wanted.contains shaft.val)
    (hcopy : (s.well w.val).copying = none) (hfree : (s.well w.val).freeSpare = none) :
    Completes (exec (.remapStart w shaft sp) s) fun r => (r.well w.val).lost.contains shaft.val := by
  change Completes (execRemapStart w shaft sp s) _
  have hnone : ({ s.well w.val with wanted := (s.well w.val).wanted.filter (· != shaft.val) } : Well).freeSpare = none := hfree
  unfold execRemapStart
  dsimp only
  rw [need_true _ _ _ (by rw [hw, hcopy]; rfl), hnone]
  exact ⟨_, rfl, loseShaft_lost _ _ _⟩

/-- The copy passes lines of which none is unreadable (R275): the boundary moves, and no byte of the well changes. -/
theorem copyLines_readable {s : State} {w upto : Nat} {c : Remap} (hup : upto ≤ 2 ^ 22)
    (hgood : ∀ l, 2 ^ 22 * c.shaft + c.next ≤ l → l < 2 ^ 22 * (c.shaft + 1) → kget 0 (s.well w).bad l < 2) :
    s.copyLines w c upto [] = s.setWell w { s.well w with
      bad := kclear (s.well w).bad (2 ^ 22 * c.shaft + c.next) (2 ^ 22 * c.shaft + upto - (2 ^ 22 * c.shaft + c.next)),
      copying := some { c with next := upto } } := by
  have hnone : ((kkeys (s.well w).bad).filter fun l =>
      2 ^ 22 * c.shaft + c.next ≤ l && l < 2 ^ 22 * c.shaft + upto && 2 ≤ kget 0 (s.well w).bad l) = [] := by
    refine List.filter_eq_nil_iff.mpr fun l _ h => ?_
    simp only [Bool.and_eq_true, decide_eq_true_eq] at h
    obtain ⟨⟨hlo, hhi⟩, hbad⟩ := h
    exact absurd (hgood l hlo (by omega)) (by omega)
  unfold State.copyLines
  dsimp only
  rw [hnone]
  rfl

/-- The spare of a remap holds the shaft when its copy ends (R275, R278). -/
theorem takeSpare_spares (x : Well) (sh sp : Nat) : kget 0xFFFF (x.takeSpare sh sp).spares sp = sh := by
  have hfold : ∀ (l : List Nat) (m : KMap Nat), sp ∉ l →
      kget 0xFFFF (l.foldl (fun m j => kput 0xFFFF m j 0xFFFF) m) sp = kget 0xFFFF m sp := by
    intro l
    induction l with
    | nil => exact fun m _ => rfl
    | cons j l ih =>
      intro m h
      rw [List.mem_cons, not_or] at h
      rw [List.foldl_cons, ih _ h.2, kget_kput_other _ _ _ h.1]
  unfold Well.takeSpare
  dsimp only
  rw [hfold _ _ (by simp), kget_kput_same]

theorem remapCopyEnd_moves {s : State} {w : WellIx} {c : Remap} {lines : Nat} (hc : (s.well w.val).copying = some c)
    (hgood : ∀ l, 2 ^ 22 * c.shaft + c.next ≤ l → l < 2 ^ 22 * (c.shaft + 1) → kget 0 (s.well w.val).bad l < 2)
    (hmore : c.next + lines < 2 ^ 22) :
    Completes (exec (.remapCopyEnd { well := w, lines := lines }) s) fun r =>
      (r.well w.val).copying = some { c with next := c.next + lines } ∧ (r.well w.val).data = (s.well w.val).data := by
  change Completes (execRemapCopyEnd { well := w, lines := lines } s) _
  unfold execRemapCopyEnd
  dsimp only
  rw [needSome_some hc, need_true _ _ _ (by rfl), min_eq_right hmore.le, if_pos hmore, List.map_nil, copyLines_readable hmore.le hgood]
  refine ⟨_, rfl, ?_⟩
  beta_reduce
  rw [haul_well, setWell_well_same]
  exact ⟨rfl, rfl⟩

theorem remapCopyEnd_ends {s : State} {w : WellIx} {c : Remap} {lines : Nat} (hc : (s.well w.val).copying = some c)
    (hgood : ∀ l, 2 ^ 22 * c.shaft + c.next ≤ l → l < 2 ^ 22 * (c.shaft + 1) → kget 0 (s.well w.val).bad l < 2)
    (hend : 2 ^ 22 ≤ c.next + lines) :
    Completes (exec (.remapCopyEnd { well := w, lines := lines }) s) fun r => (r.well w.val).copying = none ∧
      kget 0xFFFF (r.well w.val).spares c.spare = c.shaft ∧ (r.well w.val).data = (s.well w.val).data := by
  change Completes (execRemapCopyEnd { well := w, lines := lines } s) _
  unfold execRemapCopyEnd
  dsimp only
  rw [needSome_some hc, need_true _ _ _ (by rfl), min_eq_left hend, if_neg (lt_irrefl _), List.map_nil, copyLines_readable le_rfl hgood]
  refine ⟨_, rfl, ?_⟩
  beta_reduce
  rw [settleWarn_well, setReg_well, bump_well, noteSpares_well, setWell_well_same, haul_well, setWell_well_same]
  exact ⟨rfl, takeSpare_spares _ _ _, rfl⟩

/-- Settles O48, clause by clause. -/
theorem wellEvents : Obligations.WellEvents := by
  refine ⟨fun s a who n line hn hline hin hlost hbad => exec_wellAccess_read who hn hline hin hlost hbad,
    fun s a k who n line l hn hline hin hlost hbad hk hl => exec_wellAccess_change who hn hline hin hlost hbad hk hl,
    fun s w shaft bank hin => refresh_advances shaft bank hin, fun s w bad hin => patrolScrub_advances bad hin, ?_,
    fun s w shaft sp hw hcopy => ⟨remapStart_copies hw hcopy, remapStart_loses sp hw hcopy⟩,
    fun s w c lines hc hgood => ⟨remapCopyEnd_moves hc hgood, remapCopyEnd_ends hc hgood⟩⟩
  rintro s w shaft bank row b rfl h
  exact ⟨rowRepair_spends h, rowRepair_wants h⟩

end Sys2Proof.Proofs
end

section
/-! PROOFS. The pump operations as commands (R240, R245 to R253, R268). -/

namespace Sys2Proof.Proofs

open Sys2Proof Sys2Proof.Machine Sys2Proof.Laws

/-- The run of an operation that goes on from the accesses it has made (R245, log entry 30). -/
def pumpRun (s : State) (slot t tag : Nat) (op : TagOp) (f : PumpFacts) : PumpRun :=
  { s := s, slot := slot, t := t, tag := tag, op := op, meets := f.meets, order := f.order, replay := op.trace, left := f.accesses,
    sends := op.sends }

/-- A pump operation in flight, with no error met and not behind an ordering point, comes to what its run leaves (R258, R268). -/
theorem runPump_outcome {s : State} {slot t tag code : Nat} {op : TagOp} (eval : Desc → PM Unit) (f : PumpFacts)
    (hs : s.slotOf t = some slot) (hop : kget none (s.tile t).pump.tags tag = some op) (hcode : (Desc.of op.desc).op = code)
    (hdone : op.done = false) (hst : op.status = none) (herr : op.err = none) (hafter : op.after = 0) :
    occurs s (runPump code eval t tag f s) = .next (pumpOutcome (Desc.of op.desc) op
      (eval (Desc.of op.desc) (pumpRun s slot t tag op f)).1 (eval (Desc.of op.desc) (pumpRun s slot t tag op f)).2) := by
  unfold runPump
  rw [needSome_some hs, needSome_some hop]
  dsimp only
  rw [need_true _ _ _ (by simp [hcode, hdone, hst, herr, hafter])]
  rfl

/-- What a run leaves of an operation (R141, R268): done, with the result it leaves in a V register. -/
theorem pumpOutcome_done (d : Desc) (op : TagOp) (r : PumpRun) : pumpOutcome d op (.ok ()) r =
    r.s.setTag r.t r.tag (some { r.leave op with
      done := true, trace := [],
      result := if d.dkind = 1 then some (.v (d.w2 % 64), BitVec.ofNat 512 (leNat (memRead r.reg 0 64))) else none }) := rfl

/-- Ended by an error (R268). -/
theorem pumpOutcome_error (d : Desc) (op : TagOp) (r : PumpRun) (e : Code) (loc : Nat) : pumpOutcome d op (.error (.error e loc)) r =
    (r.s.setTag r.t r.tag (some { r.leave op with done := true, trace := [] })).pumpError r.t r.tag e loc := rfl

/-- Waiting for a line of a window or of host memory (R344). -/
theorem pumpOutcome_want (d : Desc) (op : TagOp) (r : PumpRun) (va : Nat) : pumpOutcome d op (.error (.want va)) r =
    r.s.setTag r.t r.tag (some { r.leave op with want := some va }) := rfl

/-- Keeping its place (R257, R330). -/
theorem pumpOutcome_wait (d : Desc) (op : TagOp) (r : PumpRun) : pumpOutcome d op (.error .wait) r =
    r.s.setTag r.t r.tag (some (r.leave op)) := rfl

/-- Settles O45: each command runs its operation, and what the run leaves is one of the four outcomes. -/
theorem pumpOperations : Obligations.PumpOperations := by
  rintro s t tag f slot op d hs hop rfl hdone hst herr hafter run takes
  have htakes : ∀ {c : Instr} {code : Nat} {eval : Desc → PM Unit}, exec c s = occurs s (runPump code eval t.val tag.val f s) →
      (Desc.of op.desc).op = code → takes c (eval (Desc.of op.desc)) := by
    intro c code eval hc hcode
    have hrun := hc.trans (runPump_outcome eval f hs hop hcode hdone hst herr hafter)
    refine ⟨fun r hr => ?_, fun r e loc hr => ?_, fun r va hr => ?_, fun r hr => ?_⟩ <;>
      rw [hrun, show eval (Desc.of op.desc) (pumpRun s slot t.val tag.val op f) = _ from hr]
    · rw [pumpOutcome_done]
    · rw [pumpOutcome_error]
    · rw [pumpOutcome_want]
    · rw [pumpOutcome_wait]
  exact ⟨htakes rfl, htakes rfl, htakes rfl, htakes rfl, htakes rfl, htakes rfl, htakes rfl, htakes rfl, htakes rfl, htakes rfl,
    htakes rfl, htakes rfl, htakes rfl⟩

end Sys2Proof.Proofs
end

section
/-! PROOFS. The line requests of a pump: requests, fills, responses and holds (R221, R230, R327, R330, R331, R378, R431). -/

namespace Sys2Proof.Proofs

open Sys2Proof Sys2Proof.Machine Sys2Proof.Laws

/-! ### Requests -/

/-- The descriptor that a request serves, where none is kept in a slot (R232). -/
theorem exec_pumpLineRequest {s : State} {t : TileIx} {slot tag : Nat} {loc : BitVec 64} {k : LineAsk} {op : TagOp}
    (hs : s.slotOf t.val = some slot)
    (hkept : (s.tile t.val).pump.remote.find? (fun y => y.via == .kept && y.loc == loc && y.kind == k.kind) = none)
    (hturn : (s.tile t.val).turn t.val loc.toNat = some tag) (hkeeps : (s.tile t.val).keeps tag (locAddr loc.toNat) = false)
    (hop : kget none (s.tile t.val).pump.tags tag = some op) :
    exec (.pumpLineRequest t loc k) s = occurs s (lineRequest slot t.val tag loc k.kind (k.more.val + 1) op s) := by
  change execPumpLineRequest t loc k s = _
  unfold execPumpLineRequest
  rw [needSome_some hs]
  dsimp only
  rw [hkept]
  dsimp only
  rw [needSome_some hturn, need_true _ _ _ (by rw [hkeeps]; rfl), needSome_some hop]

/-- A request for a line of the tile's own shaft (R221, R230). -/
theorem lineRequest_own {s : State} {t tag : Nat} {loc : BitVec 64} (slot : Nat) (k : LineKind) (n : Nat) (op : TagOp)
    (hkind : locKind loc.toNat = 0) (hroom : (s.tile t).pump.room true) :
    lineRequest slot t tag loc k n op s = .next ((s.modTile t fun x => x.served tag).chipLine slot t tag loc k true
      (.well (ownAddr t (locAddr loc.toNat)))) := by
  unfold lineRequest
  dsimp only
  rw [if_pos hkind, need_true _ _ _ hroom]

/-- A request whose translation misses asks for a fill (R330, R331). -/
theorem lineRequest_miss {s : State} {t tag : Nat} {loc : BitVec 64} (slot : Nat) (k : LineKind) (n : Nat) (op : TagOp)
    (hkind : locKind loc.toNat = 2) (hmiss : (s.modTile t fun x => x.served tag).pumpHit t (locAddr loc.toNat) = none)
    (hfree : (s.tile t).pump.misses.length < 4) :
    lineRequest slot t tag loc k n op s =
      .next ((s.modTile t fun x => x.served tag).pumpAsks slot t tag (locAddr loc.toNat)) := by
  unfold lineRequest
  dsimp only
  rw [if_neg (by omega), need_true _ _ _ (beq_iff_eq.mpr hkind), hmiss]
  dsimp only
  rw [need_true _ _ _ (decide_eq_true hfree)]

/-- The right that a request needs (R323): of a read that fills up a line to be written, that of the write. -/
def rightOf (k : LineKind) (op : TagOp) (loc : BitVec 64) : LineKind :=
  if k = .read ∧ op.needsLine (locAddr loc.toNat) then .write else k

/-- A request that its extent does not allow (R323). -/
theorem lineRequest_refused {s s2 : State} {t tag : Nat} {loc : BitVec 64} {k : LineKind} {op : TagOp} {e : Extent} (slot n : Nat)
    (hkind : locKind loc.toNat = 2) (hhit : (s.modTile t fun x => x.served tag).pumpHit t (locAddr loc.toNat) = some (e, s2))
    (hright : e.allows (rightOf k op loc) = false) :
    lineRequest slot t tag loc k n op s = .next (s2.pumpError t tag kExtRights loc.toNat) := by
  unfold lineRequest
  dsimp only
  rw [if_neg (by omega), need_true _ _ _ (beq_iff_eq.mpr hkind), hhit]
  dsimp only
  rw [← rightOf, hright]
  rfl

/-- A request for one line that its extent places in the chip's memory (R230, R325). -/
theorem lineRequest_chip {s s2 : State} {t tag : Nat} {loc : BitVec 64} {k : LineKind} {op : TagOp} {e : Extent} {a : Nat}
    (slot : Nat) (hkind : locKind loc.toNat = 2)
    (hhit : (s.modTile t fun x => x.served tag).pumpHit t (locAddr loc.toNat) = some (e, s2))
    (hright : e.allows (rightOf k op loc) = true)
    (htarget : e.target (locAddr loc.toNat) = .well a ∨ e.target (locAddr loc.toNat) = .cistern a)
    (hroom : (s.tile t).pump.room ((e.target (locAddr loc.toNat)).own t) 1) :
    lineRequest slot t tag loc k 1 op s = .next (s2.chipLine slot t tag loc k ((e.target (locAddr loc.toNat)).own t)
      (e.target (locAddr loc.toNat))) := by
  unfold lineRequest
  dsimp only
  rw [if_neg (by omega), need_true _ _ _ (beq_iff_eq.mpr hkind), hhit]
  dsimp only
  rw [← rightOf, hright, if_neg (by decide), need_true _ _ _ (by rw [hroom, Bool.or_true])]
  obtain h | h := htarget <;> rw [h] <;> rfl

/-! ### Fills -/

theorem fillResponse_fills {s : State} {t : TileIx} {tag : Fin 16} {slot : Nat} {m : MissSlot} {e : Extent}
    (hs : s.slotOf t.val = some slot) (hm : (s.tile t.val).pump.misses.find? (·.tag == tag.val) = some m)
    (he : (s.den slot).lookup m.va = some e) :
    Completes (exec (.fillResponse (.pump t) tag) s) fun r =>
      (r.tile t.val).pump.cache = cacheFill 16 e (s.tile t.val).pump.cache ∧
      (r.tile t.val).pump.misses = (s.tile t.val).pump.misses.filter (·.tag != tag.val) := by
  change Completes (execFillResponse (.pump t) tag s) _
  unfold execFillResponse
  dsimp only
  rw [needSome_some hs, needSome_some hm, den_of_dens_eq (u := State.sayFill _ _ _ _ _ _) (s := s) (by simp), he]
  refine ⟨_, rfl, ?_⟩
  beta_reduce
  rw [modTile_tile, if_pos rfl, tile_of_tiles_eq (sayFill_frame _ _ _ _ _ _).2.2.2.1, tile_of_tiles_eq (bump_frame _ _ _ _).2.2.2.1,
    modTile_tile, if_pos rfl]
  exact ⟨rfl, rfl⟩

/-! ### Responses -/

/-- The slots of a pump once a line of an operation is answered (R221, R378): its slot is free, or stays occupied for the hold. -/
def answeredSlots (tag : Nat) (loc : BitVec 64) (ns : Nat) (l : List LineSlot) : List LineSlot :=
  if ns = 0 then dropFirst (fun y => y.tag == tag && y.loc == loc && y.hold.isNone && y.via != .kept) l
  else updFirst (fun y => y.tag == tag && y.loc == loc && y.hold.isNone && y.via != .kept) (fun y => { y with hold := some ns }) l

/-- A pump once a line of an operation is answered. -/
def answeredPump (p : Pump) (own : Bool) (tag : Nat) (loc : BitVec 64) (ns : Nat) : Pump :=
  if own then { p with own := answeredSlots tag loc ns p.own } else { p with remote := answeredSlots tag loc ns p.remote }

/-- The mark on a den's next response is its controller's (R377). -/
theorem takeMark_mark {s u : State} (h : u.ctls = s.ctls) (slot : Nat) (c : Option Nat) :
    (u.takeMark slot c).1 = (s.takeMark slot c).1 := by
  unfold State.takeMark
  rw [h]
  split
  · rfl
  · dsimp only
    split <;> rfl

theorem modTag_pump (s : State) (t tag : Nat) (f : TagOp → TagOp) : ((s.modTag t tag f).tile t).pump =
    { (s.tile t).pump with tags := kmod none (s.tile t).pump.tags tag fun o => o.map f } := by
  rw [State.modTag, modTile_tile, if_pos rfl]

/-- A line of the chip's memory is answered (R259, R378): its slot is free, or is held, and the mark is the operation's. -/
theorem exec_pumpLineResponse {s : State} {t : TileIx} {tag : Fin 16} {own : Bool} {slot : Nat} {loc : BitVec 64} {z : LineSlot}
    {h : HoldMark} (c : Code) (data : List Byte) (hs : s.slotOf t.val = some slot)
    (hz : (if own then (s.tile t.val).pump.own else (s.tile t.val).pump.remote).find?
      (fun y => y.tag == tag.val && y.loc == loc && y.hold.isNone && y.via != .kept) = some z)
    (hvia : z.via = .chip) (hwaits : z.waits (s.tile t.val) = none) (hmark : (s.takeMark slot (s.lineCtl slot t.val loc)).1 = h) :
    ∃ u : State, (u.tile t.val).pump = answeredPump (s.tile t.val).pump own tag.val loc h.ns ∧
      exec (.pumpLineResponse t tag own c loc data h.contended) s =
        .next (if h.contended then u.modTag t.val tag.val fun op => { op with contended := true } else u) := by
  have hrun : exec (.pumpLineResponse t tag own c loc data h.contended) s =
    execPumpLineResponse t tag own c loc data h.contended s := rfl
  unfold execPumpLineResponse at hrun
  dsimp only at hrun
  rw [needSome_some hs, needSome_some hz, need_true _ _ _ (by rw [hvia]; rfl), hwaits, ite_self] at hrun
  dsimp only at hrun
  rw [need_true _ _ _ (by rw [hvia]; rfl), hvia] at hrun
  generalize hv : s.answers slot t.val tag.val z _ = v at hrun
  obtain ⟨hctls, htiles, hctl⟩ : v.ctls = s.ctls ∧ v.tiles = s.tiles ∧ v.lineCtl slot t.val loc = s.lineCtl slot t.val loc := by
    subst hv; exact ⟨rfl, rfl, rfl⟩
  obtain ⟨m, u, hu⟩ : ∃ m u, v.takeMark slot (v.lineCtl slot t.val loc) = (m, u) := ⟨_, _, rfl⟩
  obtain rfl : m = h := by rw [← hmark, ← takeMark_mark hctls, ← hctl, hu]
  have htile : u.tile t.val = s.tile t.val := tile_of_tiles_eq (by
    rw [← htiles, ← (takeMark_frame v slot (v.lineCtl slot t.val loc)).2.2.2.1, hu]) _
  rw [hu] at hrun
  dsimp only at hrun
  rw [need_true _ _ _ (by simp)] at hrun
  refine ⟨_, ?_, hrun⟩
  rw [modTile_tile, if_pos rfl, htile, answeredPump, answeredSlots, answeredSlots]
  obtain hns | hns := Nat.eq_zero_or_pos m.ns
  · rw [if_neg hns.not_gt, if_neg hns.not_gt, if_pos hns, if_pos hns]
    split <;> rfl
  · rw [if_pos hns, if_pos hns, if_neg hns.ne', if_neg hns.ne']
    split <;> rfl

theorem pumpLineResponse_answers {s : State} {t : TileIx} {tag : Fin 16} {own : Bool} {slot : Nat} {loc : BitVec 64} {z : LineSlot}
    {h : HoldMark} (c : Code) (data : List Byte) (hs : s.slotOf t.val = some slot)
    (hz : (if own then (s.tile t.val).pump.own else (s.tile t.val).pump.remote).find?
      (fun y => y.tag == tag.val && y.loc == loc && y.hold.isNone && y.via != .kept) = some z)
    (hvia : z.via = .chip) (hwaits : z.waits (s.tile t.val) = none) (hmark : (s.takeMark slot (s.lineCtl slot t.val loc)).1 = h) :
    Completes (exec (.pumpLineResponse t tag own c loc data h.contended) s) fun r =>
      (r.tile t.val).pump.own =
        (if own then answeredSlots tag.val loc h.ns (s.tile t.val).pump.own else (s.tile t.val).pump.own) ∧
      (r.tile t.val).pump.remote =
        (if own then (s.tile t.val).pump.remote else answeredSlots tag.val loc h.ns (s.tile t.val).pump.remote) ∧
      (h.contended → ∀ op, kget none (r.tile t.val).pump.tags tag.val = some op → op.contended) := by
  obtain ⟨u, hpump, hrun⟩ := exec_pumpLineResponse c data hs hz hvia hwaits hmark
  have hslots : (u.tile t.val).pump.own =
        (if own then answeredSlots tag.val loc h.ns (s.tile t.val).pump.own else (s.tile t.val).pump.own) ∧
      (u.tile t.val).pump.remote =
        (if own then (s.tile t.val).pump.remote else answeredSlots tag.val loc h.ns (s.tile t.val).pump.remote) := by
    rw [hpump]
    cases own <;> exact ⟨rfl, rfl⟩
  obtain ⟨hown, hremote⟩ := hslots
  refine ⟨_, hrun, ?_⟩
  split
  · rw [modTag_pump]
    refine ⟨hown, hremote, fun _ op hop => ?_⟩
    rw [kget_kmod, if_pos rfl, Option.map_eq_some_iff] at hop
    obtain ⟨_, -, rfl⟩ := hop
    rfl
  · exact ⟨hown, hremote, fun hc => absurd hc ‹_›⟩

/-! ### Holds -/

/-- A pump after the hold of its first held slot is over (R378). -/
def endHold (p : Pump) (own : Bool) : Pump :=
  if own then { p with own := dropFirst (fun z => z.hold.isSome) p.own }
  else { p with remote := dropFirst (fun z => z.hold.isSome) p.remote }

theorem holdExpiry_pump {s : State} {t : TileIx} {own : Bool}
    (h : (if own then (s.tile t.val).pump.own else (s.tile t.val).pump.remote).any fun z => z.hold.isSome) :
    Completes (exec (.holdExpiry (.pump t) own) s) fun r => (r.tile t.val).pump = endHold (s.tile t.val).pump own := by
  change Completes (execHoldExpiry (.pump t) own s) _
  unfold execHoldExpiry
  dsimp only
  rw [need_true _ _ _ (by exact h)]
  refine ⟨_, rfl, ?_⟩
  beta_reduce
  rw [setTile_tile, if_pos rfl]
  cases own <;> rfl

theorem holdExpiry_link {s : State} {l : LinkIx} (own : Bool) (h : (s.link l.val).places ≠ []) :
    Completes (exec (.holdExpiry (.link l) own) s) fun r => (r.link l.val).places = (s.link l.val).places.drop 1 := by
  change Completes (execHoldExpiry (.link l) own s) _
  unfold execHoldExpiry
  dsimp only
  rw [need_true _ _ _ (by simpa using h)]
  refine ⟨_, rfl, ?_⟩
  beta_reduce
  rw [modLink_link, if_pos rfl]

theorem holdExpiry_host {s : State} (own : Bool) (h : s.host.places ≠ []) :
    Completes (exec (.holdExpiry .host own) s) fun r => r.host.places = s.host.places.drop 1 := by
  change Completes (execHoldExpiry .host own s) _
  unfold execHoldExpiry
  dsimp only
  rw [need_true _ _ _ (by simpa using h)]
  exact ⟨_, rfl, rfl⟩

/-! ### The end of an operation -/

/-- A function of the values of a store whose unlisted keys it leaves as they are. -/
theorem kget_map {α : Type} {d : α} {g : α → α} (hg : g d = d) (m : KMap α) (i : Nat) :
    kget d (m.map fun p => (p.1, g p.2)) i = g (kget d m i) := by
  induction m with
  | nil => exact hg.symm
  | cons p m ih =>
    simp only [List.map_cons, kget, ih]
    split <;> rfl

/-- What an operation's end leaves of its pump (R258, R259, R268): the tag's status, and the tag out of the round robin. -/
theorem completeTag_pump {s : State} {t tag : Nat} {op : TagOp} (c : Code) (loc : Nat)
    (hop : kget none (s.tile t).pump.tags tag = some op) :
    ∃ o, kget none ((s.completeTag t tag c loc).tile t).pump.tags tag = some o ∧ o.status = some c ∧
      o.failLoc = BitVec.ofNat 64 loc ∧ tag ∉ ((s.completeTag t tag c loc).tile t).pump.order := by
  unfold State.completeTag
  dsimp only
  generalize hu : State.modTag _ t tag _ = u
  have hpump : ∃ o, kget none (u.tile t).pump.tags tag = some o ∧ o.status = some c ∧ o.failLoc = BitVec.ofNat 64 loc ∧
      tag ∉ (u.tile t).pump.order := by
    have htags := kget_map (d := none) (g := Option.map fun op : TagOp => { op with after := op.after &&& ~~~BitVec.ofNat 16 (2 ^ tag) })
      rfl (s.tile t).pump.tags tag
    rw [hop] at htags
    subst hu
    rw [modTag_pump, modTile_tile, if_pos rfl, kget_kmod, if_pos rfl, htags]
    exact ⟨_, rfl, rfl, rfl, by simp⟩
  split
  next slot _ =>
    obtain ⟨f, hf⟩ := settleTile_tile u slot t t
    rw [hf]
    exact hpump
  next => exact hpump

theorem pumpComplete_ok {s : State} {t : TileIx} {tag : Fin 16} {op : TagOp}
    (hop : kget none (s.tile t.val).pump.tags tag.val = some op) (hst : op.status = none)
    (hout : (s.tile t.val).linesOut tag.val = false) (herr : op.err = none) (hdone : op.done) (hsends : op.sends = []) :
    Completes (exec (.pumpComplete t tag) s) fun r =>
      ∃ o, kget none (r.tile t.val).pump.tags tag.val = some o ∧ o.status = some kOk ∧ ¬ tag.val ∈ (r.tile t.val).pump.order := by
  change Completes (execPumpComplete t tag s) _
  unfold execPumpComplete
  dsimp only
  rw [needSome_some hop, need_true _ _ _ (by simp [hst, hout, herr, hdone, hsends]), herr]
  obtain ⟨o, ho, hstatus, -, horder⟩ := completeTag_pump kOk 0 hop
  exact ⟨_, rfl, o, ho, hstatus, horder⟩

theorem pumpComplete_error {s : State} {t : TileIx} {tag : Fin 16} {op : TagOp} {c : Code} {loc : Nat}
    (hop : kget none (s.tile t.val).pump.tags tag.val = some op) (hst : op.status = none)
    (hout : (s.tile t.val).linesOut tag.val = false) (herr : op.err = some (c, loc)) :
    Completes (exec (.pumpComplete t tag) s) fun r =>
      ∃ o, kget none (r.tile t.val).pump.tags tag.val = some o ∧ o.status = some c ∧ o.failLoc = BitVec.ofNat 64 loc := by
  change Completes (execPumpComplete t tag s) _
  unfold execPumpComplete
  dsimp only
  rw [needSome_some hop, need_true _ _ _ (by simp [hst, hout, herr]), herr]
  obtain ⟨o, ho, hstatus, hloc, -⟩ := completeTag_pump c loc hop
  exact ⟨_, rfl, o, ho, hstatus, hloc⟩

/-- An error leaves an operation on its tag (R268). -/
theorem pumpError_tag {s : State} {t tag : Nat} {op : TagOp} (c : Code) (loc : Nat)
    (hop : kget none (s.tile t).pump.tags tag = some op) : ∃ o, kget none ((s.pumpError t tag c loc).tile t).pump.tags tag = some o := by
  unfold State.pumpError
  dsimp only
  rw [modTile_tile, if_pos rfl, modTag_pump, kget_kmod, if_pos rfl, hop]
  exact ⟨_, rfl⟩

theorem pumpOwlExpiry_ends {s : State} {t : TileIx} {tag : Fin 16} {op : TagOp}
    (hop : kget none (s.tile t.val).pump.tags tag.val = some op) (hst : op.status = none) :
    Completes (exec (.pumpOwlExpiry t tag) s) fun r =>
      ∃ o, kget none (r.tile t.val).pump.tags tag.val = some o ∧ o.status = some (op.err.elim kTimeout (·.1)) := by
  change Completes (execPumpOwlExpiry t tag s) _
  unfold execPumpOwlExpiry
  rw [needSome_some hop, need_true _ _ _ (by rw [hst]; rfl)]
  refine ⟨_, rfl, ?_⟩
  obtain ⟨p, hp⟩ := pumpError_tag (op.err.getD (kTimeout, 0)).1 (op.err.getD (kTimeout, 0)).2 hop
  obtain ⟨o, ho, hstatus, -⟩ := completeTag_pump (op.err.getD (kTimeout, 0)).1 (op.err.getD (kTimeout, 0)).2 hp
  refine ⟨o, ho, hstatus.trans ?_⟩
  cases op.err <;> rfl

theorem exec_pumpTagReset {s : State} {t : TileIx} {tag : Fin 16} {op : TagOp} {c : Code}
    (hop : kget none (s.tile t.val).pump.tags tag.val = some op) (hst : op.status = some c) (hc : c ≠ kOk)
    (hout : (s.tile t.val).linesOut tag.val) :
    exec (.pumpTagReset t tag) s = .next (s.beginReset (.engine (.pump t.val)) kTimeout) := by
  change execPumpTagReset t tag s = _
  unfold execPumpTagReset
  rw [needSome_some hop, need_true _ _ _ (by rw [hst, hout, Option.any_some, Bool.and_true]; exact bne_iff_ne.mpr hc)]
  rfl

/-- Settles O46, clause by clause. -/
theorem pumpLines : Obligations.PumpLines := by
  refine ⟨?_, fun s t tag slot m e hs hm he => fillResponse_fills hs hm he,
    fun s t tag own slot loc z c data h hs hz hvia hwaits hmark => pumpLineResponse_answers c data hs hz hvia hwaits hmark,
    fun s t h => holdExpiry_pump (own := false) h, fun s t h => holdExpiry_pump (own := true) h,
    fun s l own h => holdExpiry_link own h, fun s own h => holdExpiry_host own h,
    fun s t tag op hop hst hout => ⟨pumpComplete_ok hop hst hout, fun c loc => pumpComplete_error hop hst hout⟩,
    fun s t tag op hop hst => pumpOwlExpiry_ends hop hst,
    fun s t tag op c hop hst hc hout => exec_pumpTagReset hop hst hc hout⟩
  rintro s s0 t slot tag loc k op hs hkept hturn hkeeps hop rfl
  rw [exec_pumpLineRequest hs hkept hturn hkeeps hop]
  refine ⟨fun hkind hroom => ?_, fun hkind hmiss hfree => ?_, fun e s2 right hkind hhit hright => ?_⟩
  · rw [lineRequest_own _ _ _ _ hkind hroom, occurs_next]
  · rw [lineRequest_miss _ _ _ _ hkind hmiss hfree, occurs_next]
  · obtain rfl : right = rightOf k.kind op loc := hright
    refine ⟨fun hno => ?_, fun a hyes hmore htarget hroom => ?_⟩
    · rw [lineRequest_refused _ _ hkind hhit hno, occurs_next]
    · rw [hmore, lineRequest_chip _ hkind hhit hyes htarget hroom, occurs_next]

end Sys2Proof.Proofs
end

section
/-! PROOFS. The elements that are registers with a range (R315, R384, R468, R560, R670, R687), and the state after reset. -/

namespace Sys2Proof.Proofs

open Sys2Proof Sys2Proof.Machine Sys2Proof.Laws

/-! ### Registers with a range -/

theorem ranged_outside {lo hi : Nat} {v : List Byte} (id ix el : Nat) (s : State) (h : leNat v < lo ∨ hi < leNat v) :
    ranged lo hi id ix el v s = (.now kRange [], s) := by
  unfold ranged
  rw [if_pos h]
  rfl

theorem ranged_inside {lo hi : Nat} {v : List Byte} (id ix el : Nat) (s : State) (hlo : lo ≤ leNat v) (hhi : leNat v ≤ hi) :
    ranged lo hi id ix el v s = persistReg id ix el (leNat v) s := by
  unfold ranged
  rw [if_neg (by omega)]

/-- A commit that is queued, or the want of one, touches no register (R446). -/
theorem persist_reg (id : Nat) (old : List (Nat × Nat × List Byte)) (changed : Bool) (s : State) (ix el : Nat) :
    (persist id old changed s).2.reg ix el = s.reg ix el := by
  unfold persist
  split <;> rfl

/-- A persistent register takes its value as it is written (R446), and no other register does. -/
theorem persistReg_reg (id v : Nat) (s : State) {ix el jx fl : Nat} (h : el < 256) (h' : fl < 256) :
    (persistReg id ix el v s).2.reg jx fl = if jx = ix ∧ fl = el then v else s.reg jx fl := by
  unfold persistReg
  rw [persist_reg, setReg_reg _ _ h h']

/-- The registers with a range whose writes are `writeElem`'s, with their least and greatest values (R315, R384, R468, R560, R670, R687). -/
def rangedTable : List (Nat × Nat × Nat × Nat) :=
  [(0x0110, 3, 10, 10000), (0x0110, 5, 0, 1), (0x0200, 1, 0, 7), (0x0210, 2, 1, 10), (0x0210, 3, 8, 26), (0x0340, 5, 8, 4096),
    (0x1100, 2, 1, 64), (0x1100, 3, 1, 384), (0x1100, 4, 5, 10000), (0x1100, 5, 1, 64), (0x2300, 1, 10, 10000),
    (0x3000, 0, 100, 10000000), (0x3000, 1, 10, 1000000), (0x3000, 2, 10, 100000), (0x3000, 3, 1, 1000), (0x3000, 4, 2, 100),
    (0x3000, 5, 2, 20)]

theorem rangedTable_el_lt {r : Nat × Nat × Nat × Nat} (hr : r ∈ rangedTable) : r.2.1 < 256 := by
  revert r
  decide

/-- The write of each of them is that of a register with its range. -/
theorem writeElem_ranged {r : Nat × Nat × Nat × Nat} (hr : r ∈ rangedTable) (id : Nat) (v : List Byte) (s : State) :
    writeElem id r.1 r.2.1 v s = ranged r.2.2.1 r.2.2.2 id r.1 r.2.1 v s := by
  fin_cases hr <;> rfl

/-- Settles O7: each element is a register with its range, and the two branches of such a write are its two clauses. -/
theorem rangedElements : Obligations.RangedElements := by
  intro r hr s id v
  rw [writeElem_ranged hr]
  have hel := rangedTable_el_lt hr
  refine ⟨ranged_outside id r.1 r.2.1 s, fun hlo hhi => ?_⟩
  rw [ranged_inside id r.1 r.2.1 s hlo hhi]
  refine ⟨by rw [persistReg_reg id _ s hel hel, if_pos ⟨rfl, rfl⟩], fun ix el _ hel' hne => ?_⟩
  rw [persistReg_reg id _ s hel hel', if_neg fun h => hne (Prod.ext h.1 h.2)]

/-! ### The state after reset -/

/-- Nothing is listed after reset, so that a register of the dictionary has its default of the catalogue (R438). -/
theorem reset_reg (ix el : Nat) : State.reset.reg ix el = elemDefault ix el := rfl

/-- A moderation group after reset (R578): COUNT 1 and no time. -/
theorem reset_grp (g : Nat) : State.reset.ic.grp g = (1, 0, 0) := by
  change (bitsOf grpReset.toNat 0 8, bitsOf grpReset.toNat 8 16, bitsOf grpReset.toNat 24 16) = (1, 0, 0)
  decide

/-- A domain after reset (R581): MODE is RETAIN, and it is awake. -/
theorem reset_dom (d : Nat) : (State.reset.ic.dom d).retain = true ∧ (State.reset.ic.dom d).asleep = false := ⟨rfl, rfl⟩

/-- After reset nothing scarce is in use, and BAR4 has a size that it offers (R482, R532, R599, R600). -/
theorem reset_limits : State.reset.Limits := by
  change State.reset.scarce.within
  unfold Scarce.within
  decide

/-- Settles O2: the values after reset, each read from the catalogue or from the parts of the state as they begin. -/
theorem resetState : Obligations.ResetState := by
  refine ⟨?_, fun g _ => reset_grp g, fun d _ => reset_dom d, fun n => ⟨rfl, rfl, rfl⟩, rfl, rfl, reset_limits⟩
  simp only [reset_reg]
  decide

end Sys2Proof.Proofs
end

section
/-! PROOFS. A line access in the reservoir (R283, R290, R296). -/

namespace Sys2Proof.Proofs

open Sys2Proof Sys2Proof.Machine Sys2Proof.Laws

/-! ### A cistern but for its caches -/

/-- What a cistern holds but for its caches, and the digests and root copies that their write-backs keep (R295, R296). -/
def uncached (x : Cistern) : Cistern := { x with cache := [], macs := [], digests := [], rootA := none, rootB := none }

@[simp] theorem uncached_keep (x : Cistern) (l : List (Nat × Nat)) : uncached (x.keep l) = uncached x := rfl
@[simp] theorem uncached_dirtyItem (x : Cistern) (level ix : Nat) : uncached (x.dirtyItem level ix) = uncached x := rfl
@[simp] theorem uncached_touchMac (x : Cistern) (line : Nat) (dirty : Bool) : uncached (x.touchMac line dirty) = uncached x := rfl

@[simp] theorem uncached_writeBack (x : Cistern) (n level ix : Nat) : uncached (x.writeBack n level ix) = uncached x := by
  unfold Cistern.writeBack
  dsimp only
  split <;> rfl

/-- `t` is `s` with cistern `c` standing as `y` but for its caches: no other cistern and no other part of the module has changed. -/
structure CisternSet (c : Nat) (s : State) (y : Cistern) (t : State) : Prop where
  cis : uncached (t.cis c) = uncached y
  other : ∀ d, d ≠ c → t.cis d = s.cis d
  rest : t = { s with cisterns := t.cisterns }

namespace CisternSet

variable {c : Nat} {s t u : State} {y z : Cistern}

theorem refl (c : Nat) (s : State) : CisternSet c s (s.cis c) s := ⟨rfl, fun _ _ => rfl, rfl⟩

theorem trans (h : CisternSet c s y t) (g : CisternSet c t z u) : CisternSet c s z u :=
  ⟨g.cis, fun d hd => (g.other d hd).trans (h.other d hd), by rw [g.rest, h.rest]⟩

theorem congr (h : CisternSet c s y t) (e : uncached y = uncached z) : CisternSet c s z t := ⟨h.cis.trans e, h.other, h.rest⟩

/-- What is done next, to a cistern that stands as it was. -/
theorem next (h : CisternSet c s y t) (g : CisternSet c t (t.cis c) u) : CisternSet c s y u := (h.trans g).congr h.cis

theorem data (h : CisternSet c s y t) : (t.cis c).data = y.data := (congrArg Cistern.data h.cis :)
theorem major (h : CisternSet c s y t) : (t.cis c).major = y.major := (congrArg Cistern.major h.cis :)
theorem minor (h : CisternSet c s y t) : (t.cis c).minor = y.minor := (congrArg Cistern.minor h.cis :)
theorem moved (h : CisternSet c s y t) : (t.cis c).moved = y.moved := (congrArg Cistern.moved h.cis :)
theorem corrupt (h : CisternSet c s y t) : (t.cis c).corrupt = y.corrupt := (congrArg Cistern.corrupt h.cis :)
theorem new (h : CisternSet c s y t) : (t.cis c).new = y.new := (congrArg Cistern.new h.cis :)
theorem swept (h : CisternSet c s y t) : (t.cis c).swept = y.swept := (congrArg Cistern.swept h.cis :)
theorem sweepRegion (h : CisternSet c s y t) : (t.cis c).sweepRegion = y.sweepRegion := (congrArg Cistern.sweepRegion h.cis :)
theorem sweepPage (h : CisternSet c s y t) : (t.cis c).sweepPage = y.sweepPage := (congrArg Cistern.sweepPage h.cis :)

theorem wells (h : CisternSet c s y t) : t.wells = s.wells := (congrArg State.wells h.rest :)
theorem tiles (h : CisternSet c s y t) : t.tiles = s.tiles := (congrArg State.tiles h.rest :)
theorem outbox (h : CisternSet c s y t) : t.outbox = s.outbox := (congrArg State.outbox h.rest :)

end CisternSet

theorem setCis_cis_same (s : State) (c : Nat) (x : Cistern) : (s.setCis c x).cis c = x := by rw [setCis_cis, if_pos rfl]

/-- A cistern that is set. -/
theorem cisternSet_setCis {c : Nat} {s : State} {x y : Cistern} (h : uncached x = uncached y) : CisternSet c s y (s.setCis c x) :=
  ⟨by rw [setCis_cis_same, h], fun d hd => by rw [setCis_cis, if_neg hd], rfl⟩

/-! ### The caches, where nothing fails (R296) -/

/-- The items above an offset verify where none fails. -/
theorem verifyPath_good (s : State) (c off level : Nat) :
    s.verifyPath c off level {} = (none, s.setCis c ((s.cis c).keep ((s.cis c).verify off 10 level))) := by
  have h : (((s.cis c).verify off 10 level).reverse.find? fun i => ([] : List (Nat × Nat)).contains i) = none :=
    List.find?_eq_none.mpr fun _ _ => by simp
  unfold State.verifyPath
  dsimp only
  rw [h]

theorem evictItem_cisternSet (s : State) (c : Nat) (i : CacheItem) : CisternSet c s (s.cis c) (s.evictItem c {} i) := by
  have h0 : CisternSet c s (s.cis c) (s.setCis c { s.cis c with cache := (s.cis c).cache.erase i }) := cisternSet_setCis rfl
  unfold State.evictItem
  dsimp only
  split
  · exact h0
  split
  · exact h0.next (cisternSet_setCis (uncached_writeBack _ _ _ _))
  · rw [verifyPath_good]
    exact (h0.next (cisternSet_setCis (uncached_keep _ _))).next (cisternSet_setCis (by rw [uncached_dirtyItem, uncached_writeBack]))

theorem trimCache_cisternSet (s : State) (c fuel : Nat) : CisternSet c s (s.cis c) (s.trimCache c {} fuel) := by
  induction fuel generalizing s with
  | zero => exact .refl c s
  | succ fuel ih =>
    unfold State.trimCache
    split
    · exact .refl c s
    cases (s.cis c).cache.getLast? with
    | none => exact .refl c s
    | some i => exact (evictItem_cisternSet s c i).next (ih _)

/-- No item is being evicted. -/
theorem evictAll_cisternSet (s : State) (c : Nat) : CisternSet c s (s.cis c) (s.evictAll c {}) := by
  have h : ((s.cis c).cache.filter fun i => ([] : List (Nat × Nat)).contains (i.level, i.ix)) = [] :=
    List.filter_eq_nil_iff.mpr fun _ _ => by simp
  unfold State.evictAll
  dsimp only
  rw [h]
  exact cisternSet_setCis rfl

/-- The counter block over an offset is read and verified. -/
theorem verified_cisternSet (s : State) (c off : Nat) :
    ∃ t, (s.evictAll c {}).verifyPath c off 0 {} = (none, t) ∧ CisternSet c s (s.cis c) t :=
  ⟨_, verifyPath_good _ _ _ _, (evictAll_cisternSet s c).next (cisternSet_setCis (uncached_keep _ _))⟩

/-! ### A line that is served -/

/-- A cistern with a line written that needs no page work (R290, R292). -/
def written (x : Cistern) (line : Nat) (l : List Byte) : Cistern :=
  { x with data := memWrite x.data (64 * line) l, minor := kput 0 x.minor line (kget 0 x.minor line + 1),
           corrupt := kput false x.corrupt line false }

theorem uncached_written {x y : Cistern} (h : uncached x = uncached y) (line : Nat) (l : List Byte) :
    uncached (written x line l) = uncached (written y line l) := congrArg (written · line l) h

/-- No page work comes before a write outside a roll whose minor counter has room (R292). -/
theorem work_none {x : Cistern} {line : Nat} (hnew : x.new = none) (hminor : kget 0 x.minor line < 127) : x.work line = .none := by
  unfold Cistern.work
  rw [hnew]
  exact if_neg (by omega)

/-- The work before a write does not go by the caches. -/
theorem work_of_uncached {x y : Cistern} (h : uncached x = uncached y) (line : Nat) : x.work line = y.work line :=
  (congrArg (Cistern.work · line) h :)

theorem cisWrite_plain {s : State} {c line : Nat} (full : Bool) (l : List Byte) (f : CisFacts) (h : (s.cis c).work line = .none) :
    s.cisWrite c line full l f = (kOk, s.setCis c (written (s.cis c) line l)) := by
  unfold State.cisWrite
  dsimp only
  rw [h]
  rfl

/-- The state once the cache has been trimmed and the MAC line that an access reads is cached (R296). -/
def fetched (s : State) (c line : Nat) (k : Access) : State :=
  let t := s.trimCache c {} 64
  if decide (kget 0 (s.cis c).minor line = 0) || accessFull k then t else t.setCis c ((t.cis c).touchMac line false)

theorem fetched_cisternSet (s : State) (c line : Nat) (k : Access) : CisternSet c s (s.cis c) (fetched s c line k) := by
  have htrim := trimCache_cisternSet s c 64
  unfold fetched
  dsimp only
  split
  · exact htrim
  · exact htrim.next (cisternSet_setCis (uncached_touchMac _ _ _))

section

variable {s : State} {c line : Nat} {k : Access} (hgood : kget false (s.cis c).corrupt line = false)
include hgood

/-- A line whose MAC is good is read (R290). -/
theorem cisServe_read (hread : accessLine k ((s.cis c).lineBytes line) = none) :
    s.cisServe c line k {} = (kOk, accessAnswer k ((s.cis c).lineBytes line), fetched s c line k) := by
  unfold State.cisServe
  unfold Cistern.lineBytes at *
  simp only [(trimCache_cisternSet s c 64).corrupt, hgood, hread, Bool.false_or, show (Mac.good == Mac.bad) = false from rfl,
    show (Mac.good == Mac.retryGood) = false from rfl, Bool.and_false, Bool.false_eq_true, if_false]
  rfl

/-- A line whose MAC is good is changed, where its page needs no work (R290, R292). -/
theorem cisServe_change {l : List Byte} (hl : accessLine k ((s.cis c).lineBytes line) = some l) (hwork : (s.cis c).work line = .none) :
    ∃ t, CisternSet c s (written (s.cis c) line l) t ∧
      s.cisServe c line k {} = (kOk, accessAnswer k ((s.cis c).lineBytes line), t) := by
  have ht := fetched_cisternSet s c line k
  have hw := cisWrite_plain (accessFull k) l {} ((work_of_uncached ht.cis line).trans hwork)
  refine ⟨_, (ht.trans (cisternSet_setCis (uncached_written ht.cis line l))).next
    (cisternSet_setCis (x := (Cistern.dirtyItem _ 0 (line / 64)).touchMac line true) rfl), ?_⟩
  unfold State.cisServe
  unfold Cistern.lineBytes at *
  simp only [(trimCache_cisternSet s c 64).corrupt, hgood, hl, Bool.false_or, show (Mac.good == Mac.bad) = false from rfl,
    show (Mac.good == Mac.retryGood) = false from rfl, Bool.and_false, Bool.false_eq_true, if_false]
  unfold fetched at hw ⊢
  dsimp only at hw ⊢
  rw [hw, if_pos rfl]

end

/-! ### An access to a line -/

/-- An access at physical address `a` meets line `line` of cistern `c` in service, neither fenced nor corrupt (R283, R303 to R306). -/
structure LineOpen (s : State) (a c line : Nat) : Prop where
  cistern : c = a / 2 ^ 37 % 32
  place : line = a % 2 ^ 37 / 64
  inside : 64 * line < cisBytes
  key : s.reg 0x340 8 ≠ 1
  up : s.reg (0x320 + c) 0 = 1
  unfenced : (((s.cis c).fenced ++ (s.cis c).rebuilding ++ (s.cis c).retired).any fun r =>
    r.start ≤ 64 * line && 64 * line < r.start + r.len) = false
  good : kget false (s.cis c).corrupt line = false

/-- An access to an open line is served once its counter block is verified (R290, R296). -/
theorem cisAccess_open {s : State} {a c line : Nat} (h : LineOpen s a c line) (k : Access) :
    ∃ t, CisternSet c s (s.cis c) t ∧ s.cisAccess a k {} = t.cisServe c line k {} := by
  obtain ⟨rfl, hplace, hinside, hkey, hup, hunfenced, -⟩ := h
  have hoff : a % 2 ^ 37 / 64 * 64 = 64 * line := by rw [hplace, Nat.mul_comm]
  obtain ⟨t, ht, hset⟩ := verified_cisternSet s (a / 2 ^ 37 % 32) (64 * line)
  refine ⟨t, hset, ?_⟩
  unfold State.cisAccess
  dsimp only
  rw [hoff, if_neg (Nat.not_le.mpr hinside), if_neg hkey, if_neg (not_not.mpr hup), hunfenced, if_neg Bool.false_ne_true,
    if_neg (by decide), if_neg (by decide), ht, Nat.mul_div_cancel_left _ (by decide)]

theorem lineBytes_of_uncached {x y : Cistern} (h : uncached x = uncached y) (line : Nat) : x.lineBytes line = y.lineBytes line :=
  (congrArg (Cistern.lineBytes · line) h :)

theorem cisAccess_read {s : State} {a c line : Nat} (h : LineOpen s a c line) :
    ∃ t, CisternSet c s (s.cis c) t ∧ s.cisAccess a .read {} = (kOk, (s.cis c).lineBytes line, t) := by
  obtain ⟨t, ht, hserve⟩ := cisAccess_open h .read
  refine ⟨_, ht.next (fetched_cisternSet t c line .read), ?_⟩
  rw [hserve, cisServe_read (by rw [ht.corrupt, h.good]) rfl, lineBytes_of_uncached ht.cis]
  rfl

theorem cisAccess_change {s : State} {a c line : Nat} {k : Access} {l : List Byte} (h : LineOpen s a c line)
    (hnew : (s.cis c).new = none) (hminor : kget 0 (s.cis c).minor line < 127)
    (hl : accessLine k ((s.cis c).lineBytes line) = some l) :
    ∃ t, CisternSet c s (written (s.cis c) line l) t ∧
      s.cisAccess a k {} = (kOk, accessAnswer k ((s.cis c).lineBytes line), t) := by
  obtain ⟨t, ht, hserve⟩ := cisAccess_open h k
  have hbytes := lineBytes_of_uncached ht.cis line
  obtain ⟨u, hu, hanswer⟩ := cisServe_change (k := k) (l := l) (by rw [ht.corrupt, h.good]) (by rw [hbytes, hl])
    ((work_of_uncached ht.cis line).trans (work_none hnew hminor))
  exact ⟨u, (ht.trans hu).congr (uncached_written ht.cis line l), by rw [hserve, hanswer, hbytes]⟩

/-! ### The command -/

theorem exec_cisternAccess {k : Access} (hk : accessFits k = true) (a : BitVec 42) (who : Agent) (f : CisFacts) (s : State) :
    exec (.cisternAccess a k who f) s = .next ((s.cisAccess a.toNat k f).2.2.emit
      (.line who (s.cisAccess a.toNat k f).1 (s.cisAccess a.toNat k f).2.1)) := by
  change execCisternAccess a k who f s = _
  unfold execCisternAccess
  rw [need_true _ _ _ hk]
  rfl

/-- What a command sends outside changes no cistern. -/
theorem CisternSet.emit {c : Nat} {s t : State} {y : Cistern} (h : CisternSet c s y t) (x : Sent) :
    ((t.emit x).cis c).data = y.data ∧ ((t.emit x).cis c).minor = y.minor ∧ (∀ d, d ≠ c → (t.emit x).cis d = s.cis d) ∧
      (t.emit x).wells = s.wells ∧ (t.emit x).tiles = s.tiles ∧ (t.emit x).outbox = x :: s.outbox :=
  ⟨h.data, h.minor, h.other, h.wells, h.tiles, congrArg _ h.outbox⟩

/-- An open line that a command reads (R290). -/
theorem exec_cisternAccess_read {s : State} {a : BitVec 42} {c line : Nat} (who : Agent) (h : LineOpen s a.toNat c line) :
    Completes (exec (.cisternAccess a .read who {}) s) fun r => (r.cis c).data = (s.cis c).data ∧
      r.outbox = .line who kOk ((s.cis c).lineBytes line) :: s.outbox := by
  obtain ⟨t, ht, hread⟩ := cisAccess_read h
  obtain ⟨hdata, -, -, -, -, hout⟩ := ht.emit (.line who kOk ((s.cis c).lineBytes line))
  exact ⟨_, by rw [exec_cisternAccess rfl, hread], hdata, hout⟩

/-- An open line that a command changes, where its page needs no work (R290, R292). -/
theorem exec_cisternAccess_change {s : State} {a : BitVec 42} {c line : Nat} {k : Access} {l : List Byte} (who : Agent)
    (h : LineOpen s a.toNat c line) (hk : accessFits k = true) (hnew : (s.cis c).new = none)
    (hminor : kget 0 (s.cis c).minor line < 127) (hl : accessLine k ((s.cis c).lineBytes line) = some l) :
    Completes (exec (.cisternAccess a k who {}) s) fun r => (r.cis c).data = memWrite (s.cis c).data (64 * line) l ∧
      (r.cis c).minor = kput 0 (s.cis c).minor line (kget 0 (s.cis c).minor line + 1) ∧
      (∀ d, d ≠ c → r.cis d = s.cis d) ∧ r.wells = s.wells ∧ r.tiles = s.tiles := by
  obtain ⟨t, ht, hchange⟩ := cisAccess_change h hnew hminor hl
  obtain ⟨hdata, hminors, hother, hwells, htiles, -⟩ := ht.emit (.line who kOk (accessAnswer k ((s.cis c).lineBytes line)))
  exact ⟨_, by rw [exec_cisternAccess hk, hchange], hdata, hminors, hother, hwells, htiles⟩

/-! ### The bytes of a line after a write -/

theorem memRead_memWrite_same (m : KMap Byte) (a : Nat) (l : List Byte) : memRead (memWrite m a l) a l.length = l := by
  refine List.ext_getElem (length_memRead _ _ _) fun i h h' => ?_
  rw [getElem_memRead, kget_memWrite, dif_pos (by omega)]
  congr 1
  omega

theorem memRead_memWrite_apart (m : KMap Byte) {a b n : Nat} {l : List Byte} (h : b + n ≤ a ∨ a + l.length ≤ b) :
    memRead (memWrite m a l) b n = memRead m b n := by
  refine List.map_congr_left fun i hi => ?_
  rw [List.mem_range] at hi
  rw [kget_memWrite, dif_neg (by omega)]

section

variable {x y : Cistern} {line : Nat} {l : List Byte} (hdata : y.data = memWrite x.data (64 * line) l)
  (hminor : y.minor = kput 0 x.minor line (kget 0 x.minor line + 1)) (hlen : l.length = 64)
include hdata hminor hlen

/-- A line that has been written reads as what was written: its minor counter is not 0 (R290). -/
theorem lineBytes_written_same : y.lineBytes line = l := by
  unfold Cistern.lineBytes
  rw [hdata, hminor, kget_kput_same, if_neg (Nat.succ_ne_zero _), ← hlen, memRead_memWrite_same]

theorem lineBytes_written_other {m : Nat} (hm : m ≠ line) : y.lineBytes m = x.lineBytes m := by
  unfold Cistern.lineBytes
  rw [hdata, hminor, kget_kput_other 0 _ _ hm, memRead_memWrite_apart _ (by omega)]

end

/-- Settles O9: the access writes the line into the cistern's store and moves its minor counter on (R290, R292), and nothing else is
read differently. -/
theorem reservoirMemory : Obligations.ReservoirMemory := by
  intro s a who c line l k hc hline hinside hkey hup hunfenced hgood hnew hminor hk hl hlen
  have hopen : LineOpen s a.toNat c line := ⟨hc, hline, hinside, hkey, hup, hunfenced, hgood⟩
  obtain ⟨r, hr, hdata, hminors, hother, hwells, htiles⟩ := exec_cisternAccess_change who hopen hk hnew hminor hl
  exact ⟨r, hr, lineBytes_written_same hdata hminors hlen, fun x hx => lineBytes_written_other hdata hminors hlen hx, hother,
    hwells, htiles⟩

end Sys2Proof.Proofs
end

section
/-! PROOFS. Key rolls, the sweep and rebuilds of the reservoir (R297 to R302, R307, R308). -/

namespace Sys2Proof.Proofs

open Sys2Proof Sys2Proof.Machine Sys2Proof.Laws

@[simp] theorem raise_cis (s : State) (n c : Nat) : (s.raise n).cis c = s.cis c := rfl
@[simp] theorem raiseAt_cis (s : State) (agent floor n c : Nat) : (s.raiseAt agent floor n).cis c = s.cis c := rfl
@[simp] theorem bump_cis (s : State) (ix el n c : Nat) : (s.bump ix el n).cis c = s.cis c := rfl
@[simp] theorem setReg_cis (s : State) (ix el v c : Nat) : (s.setReg ix el v).cis c = s.cis c := rfl
@[simp] theorem raise_reg (s : State) (n ix el : Nat) : (s.raise n).reg ix el = s.reg ix el := rfl

theorem cis_of_cisterns_eq {s u : State} (h : u.cisterns = s.cisterns) (c : Nat) : u.cis c = s.cis c := by
  rw [State.cis, State.cis, h]

/-! ### A controller's part of a roll begins (R297, R298) -/

/-- A controller with the key of a roll in its free slot, its sweep at the first page (R297). -/
def keyLoaded (x : Cistern) (k : BitVec 256) : Cistern :=
  { x with key0 := if !x.live then x.key0 else some k, key1 := if !x.live then some k else x.key1, new := some (!x.live),
           sweepRegion := 0, sweepPage := 0 }

theorem exec_rollKeyLoad {s : State} {c : CisIx} (hroll : s.reg 0x340 3 = 1) (hnew : (s.cis c.val).new = none)
    (hswept : (s.cis c.val).swept = false) :
    exec (.rollKeyLoad c) s = .next (s.rollKey.2.setCis c.val (keyLoaded (s.cis c.val) s.rollKey.1)) := by
  have hcis : s.rollKey.2.cis c.val = s.cis c.val := cis_of_cisterns_eq (by simp) c.val
  change execRollKeyLoad c s = _
  unfold execRollKeyLoad
  rw [need_true _ _ _ (by rw [hroll, hnew, hswept]; rfl), ← hcis]
  rfl

/-- The slot that is free takes the key, the other keeps its own (R297). -/
theorem keyLoaded_slots (x : Cistern) (k : BitVec 256) :
    if x.live then (keyLoaded x k).key0 = some k ∧ (keyLoaded x k).key1 = x.key1
    else (keyLoaded x k).key1 = some k ∧ (keyLoaded x k).key0 = x.key0 := by
  unfold keyLoaded
  cases x.live with
  | true => exact ⟨rfl, rfl⟩
  | false => exact ⟨rfl, rfl⟩

theorem rollKeyLoad_loads {s : State} {c : CisIx} (hroll : s.reg 0x340 3 = 1) (hnew : (s.cis c.val).new = none)
    (hswept : (s.cis c.val).swept = false) :
    Completes (exec (.rollKeyLoad c) s) fun r => (r.cis c.val).new = some (!(s.cis c.val).live) ∧
      (if (s.cis c.val).live then (r.cis c.val).key0 = some s.rollKey.1 ∧ (r.cis c.val).key1 = (s.cis c.val).key1
        else (r.cis c.val).key1 = some s.rollKey.1 ∧ (r.cis c.val).key0 = (s.cis c.val).key0) ∧
      (r.cis c.val).sweepRegion = 0 ∧ (r.cis c.val).sweepPage = 0 ∧ (r.cis c.val).data = (s.cis c.val).data := by
  refine ⟨_, exec_rollKeyLoad hroll hnew hswept, ?_⟩
  dsimp only
  rw [setCis_cis_same]
  exact ⟨rfl, keyLoaded_slots _ _, rfl, rfl, rfl⟩

/-! ### The sweep (R300) -/

/-- Moving on past a page changes no contents and no counter. -/
theorem advance_frame (x : Cistern) (n : Bool) :
    (x.advance n).data = x.data ∧ (x.advance n).major = x.major ∧ (x.advance n).minor = x.minor := by
  unfold Cistern.advance
  dsimp only
  split
  · exact ⟨rfl, rfl, rfl⟩
  split <;> exact ⟨rfl, rfl, rfl⟩

/-- Where the sweep stands next goes by where it stands. -/
theorem advance_position {x y : Cistern} (n : Bool) (hregion : x.sweepRegion = y.sweepRegion) (hpage : x.sweepPage = y.sweepPage)
    (hswept : x.swept = y.swept) : (x.advance n).sweepPage = (y.advance n).sweepPage ∧
      (x.advance n).sweepRegion = (y.advance n).sweepRegion ∧ (x.advance n).swept = (y.advance n).swept := by
  unfold Cistern.advance
  rw [hpage]
  dsimp only
  split
  · exact ⟨rfl, hregion, hswept⟩
  rw [hregion]
  split
  · exact ⟨rfl, rfl, rfl⟩
  · exact ⟨rfl, rfl, hswept⟩

/-- Where every MAC is good, reading a page finds no line that is newly corrupt (R304, R737). -/
theorem meetPage_good (x : Cistern) (page : Nat) (except_ : Option Nat) : x.meetPage page except_ {} = x := by
  have h : (x.liveLines page).filter (fun l => some l != except_ && pageMac {} l == .bad) = [] :=
    List.filter_eq_nil_iff.mpr fun l _ => by simp [pageMac]
  unfold Cistern.meetPage
  rw [h]
  rfl

theorem pageRetries_good (x : Cistern) (page : Nat) (except_ : Option Nat) : x.pageRetries page except_ {} = 0 := by
  unfold Cistern.pageRetries
  rw [List.filter_eq_nil_iff.mpr fun l _ => by simp [pageMac]]
  rfl

theorem readPage_good (s : State) (c page : Nat) (except_ : Option Nat) :
    s.readPage c page except_ {} = ((s.cis c).firstBad page except_, s.setCis c (s.cis c)) := by
  unfold State.readPage
  dsimp only
  rw [meetPage_good, pageRetries_good, if_pos rfl]

/-- Which lines of a page are corrupt does not go by the caches. -/
theorem firstBad_of_uncached {x y : Cistern} (h : uncached x = uncached y) (page : Nat) (except_ : Option Nat) :
    x.firstBad page except_ = y.firstBad page except_ := (congrArg (Cistern.firstBad · page except_) h :)

/-- One value put at every key of a list. -/
theorem kget_foldl_kput {α : Type} [DecidableEq α] (d x : α) (ls : List Nat) (m : KMap α) (j : Nat) :
    kget d (ls.foldl (fun m l => kput d m l x) m) j = if j ∈ ls then x else kget d m j := by
  induction ls generalizing m with
  | nil => simp
  | cons l ls ih =>
    rw [List.foldl_cons, ih, kget_kput]
    by_cases hj : j = l <;> simp [hj]

theorem mem_liveLines (x : Cistern) (page : Nat) {l : Nat} (hl : l < 64) :
    64 * page + l ∈ x.liveLines page ↔ kget 0 x.minor (64 * page + l) ≠ 0 := by
  simp [Cistern.liveLines, hl]

/-- The minor counters of a page that is rewritten: 1 but at its zero lines (R290, R292, R300). -/
theorem rewrite_minor (x : Cistern) (page major : Nat) {l : Nat} (hl : l < 64) :
    kget 0 (x.rewrite page major).minor (64 * page + l) = if kget 0 x.minor (64 * page + l) = 0 then 0 else 1 := by
  unfold Cistern.rewrite
  rw [kget_foldl_kput]
  simp only [mem_liveLines x page hl]
  by_cases h : kget 0 x.minor (64 * page + l) = 0 <;> simp [h]

section

variable {s : State} {c : CisIx} {n : Bool} {page : Nat} (hnew : (s.cis c.val).new = some n) (hswept : (s.cis c.val).swept = false)
  (hpage : page = 2 ^ 18 * (s.cis c.val).sweepRegion + (s.cis c.val).sweepPage)
include hnew hswept hpage

/-- The sweep passes over a page (R300). -/
theorem sweepStep_skips (hskip : s.sweepSkips c.val page = true) :
    exec (.sweepStep c {}) s = .next (s.setCis c.val ((s.cis c.val).advance n)) := by
  change execSweepStep c {} s = _
  unfold execSweepStep
  rw [hnew]
  dsimp only
  rw [need_true _ _ _ (by rw [hswept]; rfl), ← hpage, if_pos hskip, occurs_next]

/-- The sweep rewrites a page whose lines are all good (R300): `t` is the state once its counter block is verified and marked, and stands
as `s` but for the caches. -/
theorem sweepStep_rewrites (hskip : s.sweepSkips c.val page = false) (hmoved : kget false (s.cis c.val).moved page = false)
    (hbad : (s.cis c.val).firstBad page none = none) :
    ∃ t, CisternSet c.val s (s.cis c.val) t ∧
      exec (.sweepStep c {}) s = .next (t.setCis c.val (((t.cis c.val).rewrite page 0).advance n)) := by
  obtain ⟨u, hu, hset⟩ := verified_cisternSet s c.val (4096 * page)
  have hmark := (hset.next (trimCache_cisternSet u c.val 64)).next (cisternSet_setCis (uncached_dirtyItem _ 0 page))
  have hfirst := (firstBad_of_uncached hmark.cis page none).trans hbad
  refine ⟨_, hmark.next (cisternSet_setCis rfl), ?_⟩
  change execSweepStep c {} s = _
  unfold execSweepStep
  rw [hnew]
  dsimp only
  rw [need_true _ _ _ (by rw [hswept]; rfl), ← hpage, hskip, if_neg Bool.false_ne_true, hu]
  dsimp only
  rw [hmark.moved, hmoved, if_neg Bool.false_ne_true, readPage_good, hfirst, occurs_next]

theorem sweepStep_rewrites_counters (hskip : s.sweepSkips c.val page = false) (hmoved : kget false (s.cis c.val).moved page = false)
    (hbad : (s.cis c.val).firstBad page none = none) :
    Completes (exec (.sweepStep c {}) s) fun r => (r.cis c.val).data = (s.cis c.val).data ∧ kget 0 (r.cis c.val).major page = 0 ∧
      (∀ l < 64, kget 0 (r.cis c.val).minor (64 * page + l) = if kget 0 (s.cis c.val).minor (64 * page + l) = 0 then 0 else 1) ∧
      (r.cis c.val).sweepPage = ((s.cis c.val).advance n).sweepPage ∧
      (r.cis c.val).sweepRegion = ((s.cis c.val).advance n).sweepRegion ∧ (r.cis c.val).swept = ((s.cis c.val).advance n).swept := by
  obtain ⟨t, ht, hexec⟩ := sweepStep_rewrites hnew hswept hpage hskip hmoved hbad
  obtain ⟨hdata, hmajor, hminor⟩ := advance_frame ((t.cis c.val).rewrite page 0) n
  refine ⟨_, hexec, ?_⟩
  dsimp only
  rw [setCis_cis_same, hdata, hmajor, hminor]
  refine ⟨ht.data, kget_kput_same 0 0 _ page, fun l hl => ?_, advance_position n ht.sweepRegion ht.sweepPage ht.swept⟩
  rw [rewrite_minor _ _ _ hl, ht.minor]

end

/-! ### The end of a roll (R302) -/

/-- A controller whose old key is destroyed (R302). -/
def rollEnded (x : Cistern) : Cistern :=
  { x with key0 := if x.new.getD false then none else x.key0, key1 := if x.new.getD false then x.key1 else none, new := none,
           swept := false, sweepRegion := 0, sweepPage := 0 }

/-- A change of the first `n` cisterns, one after another, changes each once. -/
theorem foldl_setCis_cis (f : Cistern → Cistern) (s : State) (n d : Nat) :
    ((List.range n).foldl (fun s c => s.setCis c (f (s.cis c))) s).cis d = if d < n then f (s.cis d) else s.cis d := by
  induction n generalizing d with
  | zero => rfl
  | succ n ih =>
    rw [List.range_succ, List.foldl_append, List.foldl_cons, List.foldl_nil, setCis_cis]
    obtain hd | rfl | hd := Nat.lt_trichotomy d n
    · rw [if_neg hd.ne, ih d, if_pos hd, if_pos (by omega)]
    · rw [if_pos rfl, ih d, if_neg (Nat.lt_irrefl d), if_pos (Nat.lt_succ_self d)]
    · rw [if_neg hd.ne', ih d, if_neg (by omega), if_neg (by omega)]

/-- Once every controller has swept, the roll ends in each of them (R302). -/
theorem rollEnd_ends {s : State} (hroll : s.reg 0x340 3 = 1) (hswept : ∀ c < 32, (s.cis c).swept = true) :
    Completes (exec .rollEnd s) fun r => r.reg 0x340 3 = 0 ∧ ∀ c < 32, r.cis c = rollEnded (s.cis c) := by
  have hall : (s.reg 0x340 3 == 1 && (List.range 32).all fun c => (s.cis c).swept) = true := by
    rw [hroll, List.all_eq_true.mpr fun c hc => hswept c (List.mem_range.mp hc)]
    rfl
  change Completes (execRollEnd s) _
  unfold execRollEnd
  rw [need_true _ _ _ hall, occurs_next]
  refine ⟨_, rfl, ?_, fun c hc => ?_⟩
  · rw [raise_reg, setReg_reg _ _ (by decide) (by decide), if_pos ⟨rfl, rfl⟩]
  · rw [raise_cis, setReg_cis, bump_cis]
    exact (foldl_setCis_cis rollEnded s 32 c).trans (if_pos hc)

/-! ### Rebuilds of fenced ranges (R307, R308) -/

/-- A rebuild of a fenced range that no extent overlaps begins (R307). -/
theorem rebuild_begins {s : State} {c : CisIx} {i : Nat} {g : CRange} (hg : (s.cis c.val).fenced[i]? = some g)
    (hfree : ¬ (s.dens.any fun p => p.2.extents.any fun e => e.kind == 2 && overlaps e.tbase e.len (2 ^ 37 * c.val + g.start) g.len)) :
    exec (.rebuild c i) s = .next (s.setCis c.val { s.cis c.val with
      fenced := (s.cis c.val).fenced.eraseIdx i, rebuilding := (s.cis c.val).rebuilding ++ [g] }) := by
  change execRebuild c i s = _
  unfold execRebuild
  rw [needSome_some hg, need_true _ _ _ (by rw [Bool.not_eq_true']; exact Bool.eq_false_iff.mpr hfree), occurs_next]

/-- A range that is cleared lists no key of it. -/
theorem mem_kclear {α : Type} {m : KMap α} {a n k : Nat} {v : α} (h : (k, v) ∈ kclear m a n) : k < a ∨ a + n ≤ k := by
  have := (List.mem_filter.mp h).2
  simpa using this

/-- A cistern whose oldest rebuild, of range `g`, has ended (R307). -/
def rebuilt (x : Cistern) (g : CRange) (gs : List CRange) : Cistern :=
  ({ x with rebuilding := gs, data := kclear x.data g.start g.len, major := kclear x.major (g.start / 4096) (g.len / 4096),
            minor := kclear x.minor (g.start / 64) (g.len / 64), moved := kclear x.moved (g.start / 4096) (g.len / 4096),
            corrupt := kclear x.corrupt (g.start / 64) (g.len / 64),
            cache := x.cache.filter fun i => !overlaps (i.ix * (4096 * 8 ^ i.level)) (4096 * 8 ^ i.level) g.start g.len,
            macs := x.macs.filter fun m => !overlaps (512 * m.1) 512 g.start g.len } : Cistern).writeTree

theorem exec_rebuildEnd {s : State} {c : CisIx} {g : CRange} {gs : List CRange} (hg : (s.cis c.val).rebuilding = g :: gs) (ok : Bool) :
    exec (.rebuildEnd c ok) s = .next (if ok then s.setCis c.val (rebuilt (s.cis c.val) g gs)
      else ((s.setCis c.val { rebuilt (s.cis c.val) g gs with retired := (s.cis c.val).retired ++ [g] }).bump
        (0x320 + c.val) 0x0C g.len).raiseAt (64 + c.val) (c.val / 2) (1554 + c.val)) := by
  change execRebuildEnd c ok s = _
  unfold execRebuildEnd
  dsimp only
  rw [hg]
  cases ok <;> rfl

/-- The oldest rebuild ends (R307, R308): the range's lines are zero lines, or it is retired. -/
theorem rebuildEnd_ends {s : State} {c : CisIx} {g : CRange} {gs : List CRange} (hg : (s.cis c.val).rebuilding = g :: gs) :
    Completes (exec (.rebuildEnd c true) s) (fun r => (r.cis c.val).rebuilding = gs ∧ (r.cis c.val).fenced = (s.cis c.val).fenced ∧
      ∀ k v, (k, v) ∈ (r.cis c.val).minor → k < g.start / 64 ∨ g.start / 64 + g.len / 64 ≤ k) ∧
    Completes (exec (.rebuildEnd c false) s) fun r => (r.cis c.val).rebuilding = gs ∧
      (r.cis c.val).retired = (s.cis c.val).retired ++ [g] := by
  refine ⟨⟨_, exec_rebuildEnd hg true, ?_⟩, ⟨_, exec_rebuildEnd hg false, ?_⟩⟩
  · dsimp only
    rw [if_pos rfl, setCis_cis_same]
    exact ⟨rfl, rfl, fun k v h => mem_kclear h⟩
  · dsimp only
    rw [if_neg Bool.false_ne_true, raiseAt_cis, bump_cis, setCis_cis_same]
    exact ⟨rfl, rfl⟩

/-- Settles O49, clause by clause. -/
theorem reservoirEvents : Obligations.ReservoirEvents := by
  refine ⟨?_, fun s c hroll hnew hswept => rollKeyLoad_loads hroll hnew hswept, ?_, ?_,
    fun s c i g hg hfree => rebuild_begins hg hfree, fun s c g gs hg => rebuildEnd_ends hg⟩
  · rintro s a who c off hc rfl hinside hkey hup hunfenced hgood
    obtain ⟨line, hline⟩ : ∃ line, line = a.toNat % 2 ^ 37 / 64 := ⟨_, rfl⟩
    rw [← hline, Nat.mul_comm line] at hinside hunfenced hgood ⊢
    rw [Nat.mul_div_cancel_left line (by decide)] at hgood ⊢
    have hopen : LineOpen s a.toNat c line := ⟨hc, hline, hinside, hkey, hup, hunfenced, hgood⟩
    refine ⟨exec_cisternAccess_read who hopen, fun k l hk hnew hminor hl => ?_⟩
    obtain ⟨r, hr, hdata, hminors, -⟩ := exec_cisternAccess_change who hopen hk hnew hminor hl
    exact ⟨r, hr, hdata, by rw [hminors, kget_kput_same]⟩
  · rintro s c n x page rfl hnew hswept hpage
    exact ⟨sweepStep_skips hnew hswept hpage, sweepStep_rewrites_counters hnew hswept hpage⟩
  · intro s hroll hswept
    obtain ⟨r, hr, hreg, hcis⟩ := rollEnd_ends hroll hswept
    refine ⟨r, hr, hreg, fun c hc => ?_⟩
    rw [hcis c hc]
    unfold rollEnded
    dsimp only
    cases (s.cis c).new.getD false <;> simp

end Sys2Proof.Proofs
end

section
/-! PROOFS. Extents granted, revoked and resized (R324, R334, R335), and windows opened and closed (R343, R349). -/

namespace Sys2Proof.Proofs

open Sys2Proof Sys2Proof.Machine Sys2Proof.Laws

/-! ### Extents -/

/-- A slot whose phase allows a change of its directory, and whose TDI is not locked, refuses none (R334, R483). -/
theorem not_conflict {phase lock : Bool} (hphase : phase = true) (hlock : ¬ lock = true) : ¬ (!phase || lock) = true := by
  simp [hphase, hlock]

/-- A grant that passes its checks enters the directory. -/
theorem exec_extGrant {s : State} {q : Req} {v : List Byte} {e : Extent} (h : s.serves q 0x0C00 0 v) (hzero : natAt v 1 7 = 0)
    (hparse : parseExtent (v.drop 8) = some e) (hphase : grantPhase ((s.beginReq q v).den (natAt v 0 1)))
    (hlock : ¬ (s.beginReq q v).tdiLocked (natAt v 0 1)) (hcheck : (s.beginReq q v).checkEntry (natAt v 0 1) e none = none) :
    exec (.extGrant q v) s = .next (((s.beginReq q v).addExtent (natAt v 0 1) e).reply s.dict.nextId q kOk []) := by
  change execExtGrant q v s = _
  unfold execExtGrant
  rw [requestOf_serves h rfl, occurs_next]
  dsimp only
  rw [if_neg (not_not_intro hzero), hparse]
  dsimp only
  rw [if_neg (not_conflict hphase hlock), hcheck]
  rfl

/-- A revoke of an entry of the directory begins its invalidation, and its response waits. -/
theorem exec_extRevoke {s : State} {q : Req} {v : List Byte} {e : Extent} (h : s.serves q 0x0C00 1 v) (hzero : natAt v 1 7 = 0)
    (hphase : revokePhase ((s.beginReq q v).den (natAt v 0 1))) (hlock : ¬ (s.beginReq q v).tdiLocked (natAt v 0 1))
    (hfind : ((s.beginReq q v).den (natAt v 0 1)).extents.find? (·.vbase == natAt v 8 8) = some e) :
    exec (.extRevoke q v) s =
      .next (((s.beginReq q v).startInval (natAt v 0 1) e 0 (some s.dict.nextId)).await s.dict.nextId q) := by
  change execExtRevoke q v s = _
  unfold execExtRevoke
  rw [requestOf_serves h rfl, occurs_next]
  dsimp only
  rw [if_neg (not_not_intro hzero), if_neg (not_conflict hphase hlock), hfind]
  rfl

/-- A resize of an entry of the directory: a shrink begins an invalidation, the present length changes nothing, and a growth has its
new length at once. -/
theorem exec_extResize {s s' : State} {q : Req} {v : List Byte} {e : Extent} (h : s.serves q 0x0C00 2 v) (hs : s' = s.beginReq q v)
    (hzero : natAt v 1 7 = 0) (hend : natAt v 8 8 + natAt v 16 8 ≤ 2 ^ 56) (halign : natAt v 16 8 % 4096 = 0)
    (hlen : natAt v 16 8 ≠ 0) (hlock : ¬ s'.tdiLocked (natAt v 0 1))
    (hfind : (s'.den (natAt v 0 1)).extents.find? (·.vbase == natAt v 8 8) = some e) :
    (natAt v 16 8 < e.len → revokePhase (s'.den (natAt v 0 1)) →
      exec (.extResize q v) s =
        .next ((s'.startInval (natAt v 0 1) e (natAt v 16 8) (some s.dict.nextId)).await s.dict.nextId q)) ∧
    (natAt v 16 8 = e.len → revokePhase (s'.den (natAt v 0 1)) →
      exec (.extResize q v) s = .next (s'.reply s.dict.nextId q kOk [])) ∧
    (e.len < natAt v 16 8 → grantPhase (s'.den (natAt v 0 1)) → ({ e with len := natAt v 16 8 } : Extent).inSpace →
      s'.checkEntry (natAt v 0 1) { e with len := natAt v 16 8 } (some (natAt v 8 8)) = none →
      exec (.extResize q v) s = .next ((s'.modDen (natAt v 0 1) fun d => { d with
        extents := d.extents.map fun x => if x = e then { e with len := natAt v 16 8 } else x }).reply s.dict.nextId q kOk [])) := by
  change (_ → _ → execExtResize q v s = _) ∧ (_ → _ → execExtResize q v s = _) ∧ (_ → _ → _ → _ → execExtResize q v s = _)
  unfold execExtResize
  rw [requestOf_serves h rfl, occurs_next, ← hs]
  dsimp only
  rw [if_neg (by omega), hfind]
  dsimp only
  refine ⟨fun hlt hphase => ?_, fun heq hphase => ?_, fun hgt hphase hspace hcheck => ?_⟩
  · rw [if_pos hlt.le, if_neg (not_conflict hphase hlock), if_neg hlt.ne]
    rfl
  · rw [if_pos heq.le, if_neg (not_conflict hphase hlock), if_pos heq]
    rfl
  · rw [if_neg hgt.not_ge, if_neg (not_conflict hphase hlock), hspace, if_neg (by decide), hcheck]
    rfl

/-! ### Windows -/

/-- A free entry of the window table is opened for a job that exists (R343, R349). -/
theorem exec_winOpen {s : State} {q : Req} {v : List Byte} {e : WinEntry} (h : s.serves q 0x0C01 0 v) (hix : natAt v 0 2 < 4096)
    (hzero : natAt v 2 6 = 0) (hparse : parseWindow (v.drop 8) = some e) (hmay : s.mayOpen q.fe v)
    (hfree : (s.beginReq q v).window (natAt v 0 2) = none) (hlock : ¬ (s.beginReq q v).tdiRefuses q.fe e.slot)
    (hphase : revokePhase ((s.beginReq q v).den e.slot)) (hjob : ((s.beginReq q v).job e.job).isSome) :
    exec (.winOpen q v) s = .next (({ s.beginReq q v with
      wins := kput none (s.beginReq q v).wins (natAt v 0 2) (some e) } : State).reply s.dict.nextId q kOk []) := by
  obtain ⟨htakes, hcheck⟩ := serves_takes h
  obtain ⟨hindex, helem⟩ := takes_at htakes
  change execWinOpen q v s = _
  unfold execWinOpen
  rw [need_true _ _ _ (by rw [hindex, helem]; rfl), hmay, request_takes htakes hcheck, occurs_next]
  dsimp only
  rw [if_neg (by omega), hparse]
  dsimp only
  rw [hfree, if_neg (by simp [hlock, hphase]), if_neg (by simp [Option.isSome_iff_ne_none.mp hjob])]
  rfl

/-- A valid entry of the window table is closed (R349). -/
theorem exec_winClose {s : State} {q : Req} {v : List Byte} {e : WinEntry} (h : s.serves q 0x0C01 1 v) (hix : leNat v < 4096)
    (hwin : (s.beginReq q v).window (leNat v) = some e) (hmay : s.mayClose q.fe (leNat v))
    (hlock : ¬ (s.beginReq q v).tdiRefuses q.fe e.slot) (hphase : revokePhase ((s.beginReq q v).den e.slot)) :
    exec (.winClose q v) s = .next (({ s.beginReq q v with
      wins := kput none (s.beginReq q v).wins (leNat v) none } : State).reply s.dict.nextId q kOk []) := by
  obtain ⟨htakes, hcheck⟩ := serves_takes h
  obtain ⟨hindex, helem⟩ := takes_at htakes
  change execWinClose q v s = _
  unfold execWinClose
  rw [need_true _ _ _ (by rw [hindex, helem]; rfl)]
  dsimp only
  rw [hmay, request_takes htakes hcheck, occurs_next, if_neg (by omega), hwin]
  dsimp only
  rw [if_neg (by simp [hlock, hphase])]
  rfl

/-- Settles O26: each write passes the checks of its element, command by command. -/
theorem extentRequests : Obligations.ExtentRequests := by
  refine ⟨?_, ?_, ?_, ?_, ?_⟩
  · rintro s _ q v e h rfl hzero hparse hphase hlock hcheck
    exact exec_extGrant h hzero hparse hphase hlock hcheck
  · rintro s _ q v e h rfl hzero hphase hlock hfind
    exact exec_extRevoke h hzero hphase hlock hfind
  · intro s s' q v e h hs hzero hend halign hlen hlock hfind
    exact exec_extResize h hs hzero hend halign hlen hlock hfind
  · rintro s _ q v e h rfl hix hzero hparse hmay hfree hlock hphase hjob
    exact exec_winOpen h hix hzero hparse hmay hfree hlock hphase hjob
  · rintro s _ q v e h rfl hix hwin hmay hlock hphase
    exact exec_winClose h hix hwin hmay hlock hphase

end Sys2Proof.Proofs
end

section
/-! PROOFS. Requests at the receiver of a window (R345, R346), and transactions at their sender (R347, R348, R545, R687). -/

namespace Sys2Proof.Proofs

open Sys2Proof Sys2Proof.Machine Sys2Proof.Laws

/-! ### The receiver of a window -/

/-- A command that is a window request (R345, R346): one that fails a check of its window, or whose lines have no translation to the chip's
memory, is refused and counted; one that passes runs its accesses and is answered. -/
theorem exec_inboundReq {i : Instr} {s s1 : State} {opc l : Nat} {kind : LineKind} {ms : List LineMeet}
    {acts : Frame → List (Nat × Access)} {answers : Frame → Bool} {f : Frame}
    (hi : exec i s = occurs s (inboundReq opc l kind ms acts answers s)) (hf : s.nextRequest opc l kind acts = some (f, s1)) :
    (∀ c, s1.inboundCheck f (64 * (acts f).length) kind = .error c →
      exec i s = .next ((s1.bump 0x0C01 3).respond l f c [])) ∧
    (∀ (e : WinEntry) (work : List (Nat × Access)) (s2 : State), s1.inboundCheck f (64 * (acts f).length) kind = .ok e →
      work = (acts f).map (fun (i, k) => (e.base + frameOff f + 64 * i, k)) →
      (∀ c, s1.inboundLines l e.slot kind (work.map (·.1)) = (some c, s2) →
        exec i s = .next (((s2.engineSpend l e.slot (work.map (·.1))).bump 0x0C01 3).respond l f c [])) ∧
      (∀ (c : Code) (bs : List Byte) (s3 : State), s1.inboundLines l e.slot kind (work.map (·.1)) = (none, s2) →
        (s2.engineSpend l e.slot (work.map (·.1))).inboundRun l e.slot kind ms work [] = (c, bs, s3) →
        ∀ (con : Bool) (t : State), s3.keepPlace l e.slot (work.map (·.1)) = (con, t) →
          exec i s = .next ((if frameSrc f = s3.endpoint then { t with fab := s3.fab } else t).respond
            l f c (if c = kOk ∧ answers f then bs else []) con))) := by
  rw [hi]
  unfold inboundReq
  rw [hf]
  dsimp only
  refine ⟨fun c hc => by rw [hc, occurs_next], fun e work s2 he hw => ?_⟩
  rw [he]
  dsimp only
  rw [← hw]
  refine ⟨fun c hlines => by rw [hlines, occurs_next], fun c bs s3 hlines hrun con t hplace => ?_⟩
  rw [hlines]
  dsimp only
  rw [hrun]
  dsimp only
  rw [hplace, occurs_next]
  simp only [Bool.and_eq_true, decide_eq_true_eq]

/-- Settles O34: each of the four commands is a window request with its own accesses and answer. -/
theorem inboundRequests : Obligations.InboundRequests :=
  ⟨fun _ _ _ _ _ hf => exec_inboundReq (answers := fun _ => true) rfl hf,
    fun _ _ _ _ _ hf => exec_inboundReq (answers := fun _ => false) rfl hf,
    fun _ _ _ _ _ hf => exec_inboundReq (answers := fun f => decide (6 ≤ bitsOf (frameArg f) 0 3)) rfl hf,
    fun _ _ _ _ _ hf => exec_inboundReq (answers := fun _ => false) rfl hf⟩

/-! ### The sender of a transaction -/

/-- A response to an outstanding transaction (R344, R348): one with a payload that is not its own is dropped and counted, BUSY has it
sent again, and any other ends it. -/
theorem exec_rsp {s s1 : State} {l : LinkIx} {f : Frame} {t : Tx} (hf : s.takeRx l.val (fun f => frameKind f == 1) = some (f, s1))
    (ht : (s1.link l.val).txs.find? (fun t => t.tag == frameTag f && t.job == frameJob f && t.peer == frameSrc f) = some t) :
    (f.payload.length ≠ (if frameArg f = 0 then rspBytes t.msg else 0) → exec (.rsp l) s = .next (s1.bump (0x1000 + l.val) 0x0E)) ∧
    (f.payload = [] → frameArg f = kBusy.toNat → exec (.rsp l) s = .next (s1.modLink l.val fun x => { x with
      txs := updFirst (fun t => t.tag == frameTag f && t.job == frameJob f && t.peer == frameSrc f) (fun t => { t with busy := true })
        x.txs })) ∧
    (f.payload.length = (if frameArg f = 0 then rspBytes t.msg else 0) → frameArg f ≠ kBusy.toNat → exec (.rsp l) s =
      .next ((s1.endTx l.val t (BitVec.ofNat 16 (frameArg f)) f.payload f.contended).dropOld t.job t.peer).retryWaiting) := by
  change (_ → execRsp l s = _) ∧ (_ → _ → execRsp l s = _) ∧ (_ → _ → execRsp l s = _)
  unfold execRsp
  rw [needSome_some hf]
  dsimp only
  rw [ht]
  dsimp only
  refine ⟨fun hlen => ?_, fun hnil hbusy => ?_, fun hlen hbusy => ?_⟩
  · rw [if_pos hlen]
    rfl
  · have harg : frameArg f ≠ 0 := by rw [hbusy]; decide
    rw [if_neg (by simp [hnil, harg]), if_pos hbusy]
    rfl
  · rw [if_neg (not_not_intro hlen), if_neg hbusy]
    rfl

section
variable {s : State} {l : LinkIx} {tx : Nat} {t : Tx}

/-- A transaction that has no route any more ends with the code (R523, R524). -/
theorem exec_busyResend_unroutable {c : Code} (ht : ((s.link l.val).txs.find? fun t => t.tag == tx && t.busy) = some t)
    (hlink : s.linkTo t.peer t.job t.msg.rwin (.den t.slot) = .error c) :
    exec (.busyResend l tx) s = .next (s.endTx l.val t c []).retryWaiting := by
  change execBusyResend l tx s = _
  unfold execBusyResend
  rw [needSome_some ht, hlink]
  rfl

/-- A transaction that finds no room on another link waits for it (R347). -/
theorem exec_busyResend_full {o : Nat} {mac : BitVec 48} (ht : ((s.link l.val).txs.find? fun t => t.tag == tx && t.busy) = some t)
    (hlink : s.linkTo t.peer t.job t.msg.rwin (.den t.slot) = .ok (o, mac)) (ho : o ≠ l.val) (hpeer : t.peer ≠ s.endpoint)
    (hroom : s.linkRoom o t.slot = false) : exec (.busyResend l tx) s = .next s := by
  change execBusyResend l tx s = _
  unfold execBusyResend
  rw [needSome_some ht, hlink]
  dsimp only
  rw [if_pos ⟨ho, hpeer, by rw [hroom]; rfl⟩, occurs_next]

/-- A transaction is sent again on the link that its route now gives, under its pair's present key (R348). -/
theorem exec_busyResend_sends {o : Nat} {mac : BitVec 48} {u : Tx} {s2 r : State} {k : Pair}
    (ht : ((s.link l.val).txs.find? fun t => t.tag == tx && t.busy) = some t)
    (hlink : s.linkTo t.peer t.job t.msg.rwin (.den t.slot) = .ok (o, mac))
    (hroom : o = l.val ∨ t.peer = s.endpoint ∨ s.linkRoom o t.slot)
    (hmove : (s.bump 0x0C01 4).moveTx l.val o { t with busy := false } = (u, s2)) (hpair : s2.pair u.job u.peer = some k)
    (hsend : (s2.modLink o fun x => { x with
        txs := updFirst (·.tag == u.tag) (fun t => { t with busy := false, gen := k.gen }) x.txs }).sendOn
      o mac u.job u.peer (.den u.slot) false true u.msg = .ok r) :
    exec (.busyResend l tx) s = .next r := by
  have hgo : ¬ (o ≠ l.val ∧ t.peer ≠ s.endpoint ∧ (!s.linkRoom o t.slot) = true) := by
    rintro ⟨ho, hpeer, hfull⟩
    obtain h | h | h := hroom
    · exact ho h
    · exact hpeer h
    · rw [h] at hfull; cases hfull
  change execBusyResend l tx s = _
  unfold execBusyResend
  rw [needSome_some ht, hlink]
  dsimp only
  rw [if_neg hgo, hmove]
  dsimp only
  rw [hpair]
  dsimp only
  rw [hsend, occurs_next]

/-- An expiry ends the transaction with TIMEOUT; the key it went out under becomes SUSPECT, unless it still waits for one (R545). -/
theorem exec_windowOwlExpiry (ht : (s.link l.val).txs.find? (·.tag == tx) = some t) :
    (s.txWaits l.val t = false → exec (.windowOwlExpiry l tx) s =
      .next (((s.endTx l.val t kTimeout []).dropOld t.job t.peer).modPair t.job t.peer fun k =>
        if k.gen = t.gen then { k with suspect := k.live } else k).retryWaiting) ∧
    (s.txWaits l.val t →
      exec (.windowOwlExpiry l tx) s = .next ((s.endTx l.val t kTimeout []).dropOld t.job t.peer).retryWaiting) := by
  change (_ → execWindowOwlExpiry l tx s = _) ∧ (_ → execWindowOwlExpiry l tx s = _)
  unfold execWindowOwlExpiry
  rw [needSome_some ht]
  dsimp only
  refine ⟨fun hsent => ?_, fun hwaits => ?_⟩
  · rw [hsent, if_neg Bool.false_ne_true, occurs_next]
  · rw [if_pos hwaits, occurs_next]

end

/-- Settles O35: a response, a resend and an expiry, case by case. -/
theorem senderTransactions : Obligations.SenderTransactions := by
  refine ⟨fun s s1 l f t hf ht => exec_rsp hf ht, fun s l tx t ht => ⟨fun c hlink => exec_busyResend_unroutable ht hlink,
    fun o mac hlink => ⟨exec_busyResend_full ht hlink, ?_⟩⟩, fun s l tx t ht => exec_windowOwlExpiry ht⟩
  intro u s2 r k hroom hmove hpair hsend
  exact exec_busyResend_sends ht hlink hroom hmove hpair hsend

end Sys2Proof.Proofs
end

section
/-! PROOFS. The slots of a regulated controller (R371 to R377), its monitor (R382), the mesh's reports and routes (R364, R368, R370), and
the invalidations of extents and of host translations (R335, R340, R342). -/

namespace Sys2Proof.Proofs

open Sys2Proof Sys2Proof.Machine Sys2Proof.Laws

/-! ### Lists and stores -/

theorem nodup_eraseDups {α : Type} [BEq α] [LawfulBEq α] (l : List α) : l.eraseDups.Nodup := by
  match l with
  | [] => simp
  | a :: as =>
    rw [List.eraseDups_cons]
    exact List.nodup_cons.mpr ⟨by simp [List.mem_eraseDups], nodup_eraseDups (as.filter fun b => !b == a)⟩
termination_by l.length
decreasing_by exact Nat.lt_succ_of_le (List.length_filter_le _ _)

section

variable {α : Type} [DecidableEq α] (d : α) (g : Nat → α → α)

theorem kget_foldl_kmod_other {j : Nat} (ls : List Nat) (m : KMap α) (hj : j ∉ ls) :
    kget d (ls.foldl (fun m l => kmod d m l (g l)) m) j = kget d m j := by
  induction ls generalizing m with
  | nil => rfl
  | cons l ls ih =>
    obtain ⟨hl, hls⟩ := not_or.mp (mt List.mem_cons.mpr hj)
    rw [List.foldl_cons, ih _ hls, kget_kmod, if_neg hl]

/-- Every key of a list changed once, by a function of the key and its value. -/
theorem kget_foldl_kmod {j : Nat} (ls : List Nat) (m : KMap α) (hnodup : ls.Nodup) (hj : j ∈ ls) :
    kget d (ls.foldl (fun m l => kmod d m l (g l)) m) j = g j (kget d m j) := by
  induction ls generalizing m with
  | nil => cases hj
  | cons l ls ih =>
    obtain ⟨hl, hls⟩ := List.nodup_cons.mp hnodup
    rw [List.foldl_cons]
    obtain rfl | hj := List.mem_cons.mp hj
    · rw [kget_foldl_kmod_other d g ls _ hl, kget_kmod, if_pos rfl]
    · rw [ih _ hls hj, kget_kmod, if_neg (fun h : j = l => hl (h ▸ hj))]

end

theorem reg_of_dict_eq {s u : State} (h : u.dict = s.dict) (ix el : Nat) : u.reg ix el = s.reg ix el := by
  rw [State.reg, State.reg, h]

theorem hear_reg (s : State) (f : Flit) (ix el : Nat) : (s.hear f).reg ix el = s.reg ix el := reg_of_dict_eq (by simp) ix el

theorem answer_den (s : State) (id : Nat) (c : Code) (v : List Byte) (n : Nat) : (s.answer id c v).den n = s.den n :=
  den_of_dens_eq (by simp) n

/-! ### A slot of a controller (R371 to R377) -/

/-- The state once the level of the measured queue is known: the port's level, and QLEVEL, the largest of the controller's ports. -/
def queueLevelled (s : State) (k : Nat) (u : SlotUse) : State :=
  let s := s.setCtl k { s.ctl k with levels := kput 0 (s.ctl k).levels u.port.val u.level }
  s.setReg (0x2100 + k) 0 ((s.ctl k).levels.foldl (fun m x => max m x.2) 0)

section

variable (s : State) (k : Nat) (u : SlotUse)

theorem queueLevelled_ctl : (queueLevelled s k u).ctl k = { s.ctl k with levels := kput 0 (s.ctl k).levels u.port.val u.level } := by
  change (s.setCtl k _).ctl k = _
  rw [setCtl_ctl, if_pos rfl]

theorem queueLevelled_guar (n : Nat) : (queueLevelled s k u).guar k n = s.guar k n := rfl

theorem queueLevelled_balLim : (queueLevelled s k u).balLim k = s.balLim k := by
  have hreg : (queueLevelled s k u).reg (0x2100 + k) 6 = s.reg (0x2100 + k) 6 := by
    unfold queueLevelled
    dsimp only
    rw [setReg_reg _ _ (by decide) (by decide), if_neg (by simp)]
    rfl
  rw [State.balLim, State.balLim, hreg]

end

/-- What REG_SLOT asks of its facts (R371, R372): the level fits the queue, the save requests are of the den served, and only a well has
more than one port. -/
def SlotFits (k : CtlIx) (u : SlotUse) : Prop :=
  u.level ≤ queueDepth k.val ∧ oneSave u ∧ (k.val < 16 ∨ u.port = 0 ∧ u.elsewhere = [] ∧ u.rtElsewhere = [])

theorem SlotFits.check {k : CtlIx} {u : SlotUse} (h : SlotFits k u) :
    (u.level ≤ queueDepth k.val && oneSave u &&
      (k.val < 16 || (u.port == 0 && u.elsewhere.isEmpty && u.rtElsewhere.isEmpty))) = true := by
  obtain ⟨hlevel, hsave, hport⟩ := h
  simp [hlevel, hsave, hport, and_assoc]

/-- A slot that a refresh takes, in a phase that counts no classes (R371, R383): only the level of the queue is noted. -/
theorem exec_regSlot_refresh {s : State} {k : CtlIx} {u : SlotUse} (hfits : SlotFits k u) (hphase : s.reg 0x2300 0 ≠ 1)
    (hrefresh : u.refresh = true) : exec (.regSlot k u) s = .next (queueLevelled s k.val u) := by
  change execRegSlot k u s = _
  unfold execRegSlot
  rw [need_true _ _ _ hfits.check]
  dsimp only
  rw [if_pos hrefresh, if_neg hphase]
  rfl

/-- A den's balance after a slot's rise (R373): its guarantee more where a request of it waits or it is in debt, within the limit in
force. -/
def risenBalance (s : State) (k : Nat) (u : SlotUse) (n : Nat) (v : Int) : Int :=
  clampBal (s.balLim k) (if ((u.dens ++ u.elsewhere).any (·.val == n) || saveWaits u n) || v < 0 then v + s.guar k n else v)

/-- The rise of a den with a request that waits. -/
theorem rise_balance (s : State) (k : Nat) {u : SlotUse} {n : SlotIx} (hn : n ∈ u.dens) :
    kget 0 (s.rise k u).balance n.val = clampBal (s.balLim k) (kget 0 (s.ctl k).balance n.val + s.guar k n.val) := by
  have hwaits : ((u.dens ++ u.elsewhere).any (·.val == n.val) || saveWaits u n.val) = true := by
    rw [Bool.or_eq_true, List.any_eq_true]
    exact .inl ⟨n, List.mem_append_left _ hn, beq_self_eq_true _⟩
  have hlisted : n.val ∈ (kkeys s.dens ++ kkeys (s.ctl k).balance ++ (u.dens ++ u.elsewhere).map (·.val)).eraseDups :=
    List.mem_eraseDups.mpr (List.mem_append_right _ (List.mem_map_of_mem (List.mem_append_left _ hn)))
  calc kget 0 (s.rise k u).balance n.val
    _ = risenBalance s k u n.val (kget 0 (s.ctl k).balance n.val) :=
      kget_foldl_kmod 0 (risenBalance s k u) _ _ (nodup_eraseDups _) hlisted
    _ = _ := by rw [risenBalance, hwaits, Bool.true_or, if_pos rfl]

theorem clampBal_of_le {lim b : Int} (hlow : -lim ≤ b) (hhigh : b ≤ lim) : clampBal lim b = b := by
  rw [clampBal, min_eq_right hhigh, max_eq_right hlow]

/-- A den of positive balance that waits alone is granted its slot, and is not held (R374, R377). -/
theorem grantOf_alone {c : Ctl} {n : SlotIx} {level : Nat} (h : 0 < kget 0 c.balance n.val) :
    grantOf c { dens := [n], level := level } = .den n.val false := by
  simp [grantOf, firstRt, h]

/-- A slot granted to a den that is not held: it is counted, the den pays for it, and its own count rises (R372 to R374). -/
theorem regSlot_grants {s : State} {k : CtlIx} {u : SlotUse} {n : Nat} (hfits : SlotFits k u) (hphase : s.reg 0x2300 0 ≠ 1)
    (hrefresh : u.refresh = false) (hgrant : grantOf ((queueLevelled s k.val u).rise k.val u) u = .den n false) :
    Completes (exec (.regSlot k u) s) fun r =>
      (r.ctl k.val).slots = (s.ctl k.val).slots + 1 ∧
      kget 0 (r.ctl k.val).balance n =
        clampBal (s.balLim k.val) (kget 0 ((queueLevelled s k.val u).rise k.val u).balance n - 256) ∧
      kget 0 (r.den n).slots k.val = bvInc (kget 0 (s.den n).slots k.val) := by
  change Completes (execRegSlot k u s) _
  unfold execRegSlot
  rw [need_true _ _ _ hfits.check]
  extract_lets counting own q0 q c lim g full counted pay took charge q'
  have hq : q' = q := if_neg hphase
  have hcounted : counted = _ := if_neg hphase
  rw [if_neg (by rw [hrefresh]; decide), show g = .den n false from hgrant, hq]
  simp only [Bool.false_eq_true, if_false, if_true, true_and, occurs_next]
  generalize hpaid : (if (!counted.passed.contains n) = true then passBy u (some n) (pay n counted) else _) = paid
  obtain ⟨hslots, hbalance⟩ : paid.slots = counted.slots ∧ paid.balance = (pay n counted).balance := by
    subst hpaid
    split <;> exact ⟨rfl, rfl⟩
  have hctl : (charge n (q.setCtl k.val paid)).ctl k.val = paid := (setCtl_ctl q k.val k.val paid).trans (if_pos rfl)
  refine ⟨_, rfl, ?_⟩
  dsimp only
  rw [hctl, hslots, hbalance, hcounted]
  refine ⟨congrArg (·.slots + 1) (queueLevelled_ctl s k.val u), ?_, ?_⟩
  · rw [kget_kmod, if_pos rfl, ← queueLevelled_balLim s k.val u]
    rfl
  · rw [modDen_den, if_pos rfl, kget_kmod, if_pos rfl]
    rfl

/-- A den that waits alone, of positive balance below its limit once it has risen, is granted the slot (R372 to R374). -/
theorem regSlot_grants_alone {s : State} {k : CtlIx} {n : SlotIx} {level b : Nat} (hphase : s.reg 0x2300 0 ≠ 1)
    (hlevel : level ≤ queueDepth k.val) (hb : kget 0 (s.ctl k.val).balance n.val = (b : Int)) (hpos : 0 < b + s.guar k.val n.val)
    (hlim : (b : Int) + s.guar k.val n.val < s.balLim k.val) :
    Completes (exec (.regSlot k { dens := [n], level := level }) s) fun r =>
      (r.ctl k.val).slots = (s.ctl k.val).slots + 1 ∧
      kget 0 (r.ctl k.val).balance n.val = clampBal (s.balLim k.val) ((b : Int) + s.guar k.val n.val - 256) ∧
      kget 0 (r.den n.val).slots k.val = bvInc (kget 0 (s.den n.val).slots k.val) := by
  generalize hu : ({ dens := [n], level := level } : SlotUse) = u
  have hrisen : kget 0 ((queueLevelled s k.val u).rise k.val u).balance n.val = (b : Int) + s.guar k.val n.val := by
    rw [rise_balance _ _ (by simp [← hu]), queueLevelled_balLim, queueLevelled_ctl, queueLevelled_guar, hb]
    exact clampBal_of_le (by omega) (by omega)
  have hgrant : grantOf ((queueLevelled s k.val u).rise k.val u) u = .den n.val false := by
    rw [← hu] at hrisen ⊢
    exact grantOf_alone (by omega)
  have hfits : SlotFits k u := by
    rw [← hu]
    exact ⟨hlevel, rfl, .inr ⟨rfl, rfl, rfl⟩⟩
  rw [← hrisen]
  exact regSlot_grants hfits hphase (by rw [← hu]) hgrant

/-! ### The monitor (R382) -/

/-- A window in which no den stood at its limit with a request waiting: the counts begin again, and nothing is missed. -/
theorem exec_monWindowEnd {s : State} {k : CtlIx} (hphase : s.reg 0x2300 0 = 0) (hstarved : (s.ctl k.val).starved = []) :
    exec (.monWindowEnd k) s = .next (s.setCtl k.val { s.ctl k.val with slots := 0, starved := [] }) := by
  change execMonWindowEnd k s = _
  unfold execMonWindowEnd
  rw [need_true _ _ _ (by rw [hphase]; rfl)]
  dsimp only
  rw [hstarved]
  rfl

/-! ### The mesh (R364, R368, R370) -/

/-- The ejection of the first VC0 flit of its source and destination whose time has come (R370). -/
theorem vc0Eject_ejects {s : State} {i time : Nat} {f : Flit} (hi : s.mesh.arrived[i]? = some (time, f)) (htime : time ≤ s.mesh.clock)
    (hvc : f.vc = 0) (hfirst : ((s.mesh.arrived.take i).any fun p => p.2.vc == 0 && p.2.src == f.src && p.2.dst == f.dst) = false) :
    Completes (exec (.vc0Eject i) s) fun r =>
      r.reg 0x2300 3 = max (s.reg 0x2300 3) (BitVec.ofNat 16 time - f.stamp).toNat ∧ r.mesh.arrived = s.mesh.arrived.eraseIdx i := by
  change Completes (execVc0Eject i s) _
  unfold execVc0Eject
  rw [needSome_some hi]
  dsimp only
  rw [need_true _ _ _ (by simp [htime, hvc, hfirst])]
  refine ⟨_, rfl, ?_, by simp⟩
  rw [hear_reg, setReg_reg _ _ (by decide) (by decide), if_pos ⟨rfl, rfl⟩]
  rfl

/-- Two reports that can become one do (R368). -/
theorem exec_reportMerge {s : State} {here : Fin 8448} {i j : Nat} {a b : Nat × Nat} (h : s.mesh.joinable here.val i j = some (a, b)) :
    exec (.reportMerge here i j) s = .next (({ s with mesh := s.mesh.join a b } : State).bump 0x2300 4) := by
  change execReportMerge here i j s = _
  unfold execReportMerge
  rw [needSome_some h]
  rfl

/-- The routes follow a change of the repair map while the mesh carries nothing (R364). -/
theorem exec_routeCompute {s : State} (hstale : s.repair.routesStale = true) (hidle : s.mesh.idle = true) :
    exec .routeCompute s = .next s.computeRoutes := by
  change execRouteCompute s = _
  unfold execRouteCompute
  rw [need_true _ _ _ (by rw [hstale, hidle]; rfl), occurs_next]

/-! ### Invalidations of extents (R335) -/

/-- Whether an agent has accesses through an entry under way does not go by the copy of the entry that it drops. -/
theorem dropEntry_agentBusy (s : State) (who : Agent) (slot : Nat) (e e' : Extent) :
    (s.dropEntry who slot e).agentBusy who e' = s.agentBusy who e' := by
  cases who with
  | pump t =>
    unfold State.agentBusy State.dropEntry
    dsimp only
    rw [modTile_tile, if_pos rfl]
  | engine l => rfl
  | hostIf => rfl
  | sett => rfl

/-- An invalidation reaches a recipient: it drops the entry, and reports once no access through it is under way. -/
theorem exec_extInvalidate {s : State} {i : SlotIx} {who : Agent} {v : Inval}
    (hv : (s.den i.val).invals.find? (fun v => v.left.contains who) = some v) :
    (s.agentBusy who v.old → exec (.extInvalidate i who) s = .next (s.dropEntry who i.val v.old)) ∧
    (¬ s.agentBusy who v.old → exec (.extInvalidate i who) s = .next (((s.dropEntry who i.val v.old).modDen i.val fun d =>
      { d with invals := updFirst (fun v => v.left.contains who) (fun v => { v with left := v.left.filter (· != who) }) d.invals }).reportInval
        i.val v.seq who)) := by
  change (_ → execExtInvalidate i who s = _) ∧ (_ → execExtInvalidate i who s = _)
  unfold execExtInvalidate
  rw [needSome_some hv]
  dsimp only
  rw [dropEntry_agentBusy]
  exact ⟨fun hbusy => by rw [if_pos hbusy, occurs_next], fun hidle => by rw [if_neg hidle, occurs_next]⟩

/-- The den's first invalidation is over once its last report has arrived. -/
theorem invalidationDone_ends {s : State} {i : SlotIx} {v : Inval} {vs : List Inval} (hv : (s.den i.val).invals = v :: vs)
    (hleft : v.left = []) (hgot : v.got = v.expect) :
    Completes (exec (.invalidationDone i) s) fun r => (r.den i.val).invals = vs := by
  change Completes (execInvalidationDone i s) _
  unfold execInvalidationDone
  rw [hv]
  dsimp only
  rw [need_true _ _ _ (by simp [hleft, hgot])]
  have hended : ((s.modDen i.val fun d => { d with invals := vs }).den i.val).invals = vs := by rw [modDen_den, if_pos rfl]
  cases v.resp with
  | none => exact ⟨_, rfl, hended⟩
  | some id => exact ⟨_, rfl, (congrArg Den.invals (answer_den _ _ _ _ _)).trans hended⟩

/-! ### Host translations (R340, R342) -/

/-- The completions that go out leave the translations as they are. -/
theorem settleAts_atc (s : State) : s.settleAts.host.atc = s.host.atc := by
  unfold State.settleAts
  dsimp only
  split
  · rfl
  · exact foldl_keeps (fun s => s.host.atc) _ _ _ fun _ _ => rfl

/-- The one completion that waits goes out where no pump has a request to the host under way (R342). -/
theorem settleAts_completes {s : State} {h : AtsHold} (hholds : s.host.atsHolds = [h])
    (hnone : ∀ t z, z ∈ (s.tile t).pump.remote → z.via ≠ .host) : s.settleAts.outbox = .atsDone h.pasid h.base :: s.outbox := by
  have hout : (h.slots.any fun (t, tag, loc) =>
      (s.tile t).pump.remote.any fun z => z.tag == tag && z.loc == loc && z.via == .host && z.hold.isNone) = false := by
    simp only [List.any_eq_false]
    rintro ⟨t, tag, loc⟩ - hany
    obtain ⟨z, hz, hvia⟩ := List.any_eq_true.mp hany
    simp [hnone t z hz] at hvia
  unfold State.settleAts
  dsimp only
  rw [hholds]
  simp [hout]

theorem atsInvalidate_ends (s : State) (pasid : BitVec 20) (base : BitVec 64) (len : Nat) :
    Completes (exec (.atsInvalidate pasid base len) s) fun r =>
      (∀ e ∈ r.host.atc, e ∈ s.host.atc ∧ ¬ (e.pasid = pasid.toNat ∧ overlaps (4096 * e.page) 4096 base.toNat len)) ∧
      (s.host.atsHolds = [] → (∀ t z, z ∈ (s.tile t).pump.remote → z.via ≠ .host) →
        r.outbox = .atsDone pasid.toNat base.toNat :: s.outbox) := by
  change Completes (execAtsInvalidate pasid base len s) _
  unfold execAtsInvalidate
  extract_lets hit under slots hold s'
  refine ⟨_, rfl, fun e he => ?_, fun hholds hnone => ?_⟩
  · rw [settleAts_atc] at he
    obtain ⟨hmem, hkept⟩ := List.mem_filter.mp he
    exact ⟨hmem, by simpa [hit, imp_iff_not_or] using hkept⟩
  · exact settleAts_completes (h := hold) (congrArg (· ++ [hold]) hholds) hnone

/-- A translation that grants a right enters the cache, the oldest of 2048 leaving it (R340). -/
theorem atsTranslation_enters {s : State} {pasid : BitVec 20} {page xlat : BitVec 64} {rd wr : Bool} (hright : (rd || wr) = true)
    (hwait : (s.host.atsWaits.any fun w => w.pasid == pasid.toNat && w.page == page.toNat) = true) :
    Completes (exec (.atsTranslation pasid page rd wr xlat) s) fun r =>
      r.host.atc = (({ pasid := pasid.toNat, page := page.toNat, rd := rd, wr := wr, xlat := xlat.toNat } : AtcEntry) ::
        s.host.atc).take 2048 := by
  change Completes (execAtsTranslation pasid page rd wr xlat s) _
  unfold execAtsTranslation
  extract_lets mine e before served cached s' stuck
  rw [need_true _ _ _ hwait]
  refine ⟨_, rfl, ?_⟩
  have hhost : s'.host.atc = (e :: s.host.atc).take 2048 := congrArg HostPort.atc (if_pos hright : cached = _)
  rw [← hhost]
  refine foldl_keeps (fun s => s.host.atc) _ _ s' fun s t => ?_
  dsimp only
  refine (foldl_keeps (fun s => s.host.atc) _ _ _ fun s z => ?_).trans ?_
  · simp
  · split <;> simp

/-- Settles O50, clause by clause. -/
theorem regulationEvents : Obligations.RegulationEvents := by
  refine ⟨?_, fun s k n level b hphase hlevel hb hpos hlim => regSlot_grants_alone hphase hlevel hb hpos hlim,
    fun s k hphase hstarved => exec_monWindowEnd hphase hstarved, fun s i time f hi htime hvc hfirst => vc0Eject_ejects hi htime hvc hfirst,
    fun s here i j a b h => exec_reportMerge h,
    fun s hstale hidle => ⟨_, exec_routeCompute hstale hidle, rfl, rfl⟩, fun s i who v hv => exec_extInvalidate hv,
    fun s i v vs hv hleft hgot => invalidationDone_ends hv hleft hgot, atsInvalidate_ends,
    fun s pasid page xlat rd wr hright hwait => atsTranslation_enters hright hwait⟩
  rintro s s' k u hrefresh hphase hlevel hsave hport rfl
  exact exec_regSlot_refresh ⟨hlevel, hsave, hport⟩ hphase hrefresh

end Sys2Proof.Proofs
end

section
/-! PROOFS. The elements of a slot that say what its den holds (R375, R389, R391, R412, R424, R435), and the requests of wells and
reservoir (R279, R298). -/

namespace Sys2Proof.Proofs

open Sys2Proof Sys2Proof.Machine Sys2Proof.Laws

/-! ### Writes of a slot's elements -/

theorem modDen_congr {s : State} {n : Nat} {f g : Den → Den} (h : f (s.den n) = g (s.den n)) : s.modDen n f = s.modDen n g :=
  congrArg (s.setDen n) h

/-- A served write of an element of a slot's object whose own work succeeds: the change goes to the Meter, and the answer is OK (R629). -/
theorem slotRequest_done {s t : State} {q : Req} {el : Nat} {v : List Byte} {slot : SlotIx} {run : Nat → Nat → State → Ans × State}
    (h : s.serves q (0x0800 + slot.val) el v) (hrun : run slot.val s.dict.nextId (s.beginReq q v) = done t) :
    slotRequest el q v run s = .next ((t.noteChange slot.val).reply s.dict.nextId q kOk []) := by
  obtain ⟨htakes, hcheck⟩ := serves_takes h
  obtain ⟨hindex, helem⟩ := takes_at htakes
  have hslot := slot.isLt
  unfold slotRequest
  dsimp only
  rw [need_true _ _ _ (by simp [hindex, helem]; omega), request_takes htakes hcheck, hindex, Nat.add_sub_cancel_left, hrun]
  rfl

theorem revokePhase_of_grantPhase {d : Den} (h : grantPhase d = true) : revokePhase d = true := by simp [revokePhase, h]

/-- A slot that takes a grant is not FREE (R334). -/
theorem ne_free_of_grantPhase {d : Den} (h : grantPhase d = true) : d.phase ≠ .free := by
  intro hfree
  simp [grantPhase, hfree] at h

/-! ### Holdings -/

/-- A holding that is free, whole and not fenced is added (R389). -/
theorem exec_holdAdd {s s' : State} {q : Req} {v : List Byte} {slot : SlotIx} {r : PRange} (h : s.serves q (0x0800 + slot.val) 0x09 v)
    (hs : s' = s.beginReq q v) (hparse : parseHolding v = some r) (hphase : grantPhase (s'.den slot.val))
    (hlock : ¬ s'.tdiLocked slot.val) (hfence : ¬ s'.rangeFenced r) (hfree : ¬ s'.occupied r none) (hgood : ¬ s'.rangeBad r)
    (hroom : (s'.den slot.val).holdings.length < 64) :
    exec (.holdAdd q v) s = .next (((s'.modDen slot.val fun d => { d with holdings := d.holdings ++ [r] }).noteChange slot.val).reply
      s.dict.nextId q kOk []) := by
  change execHoldAdd q v s = _
  unfold execHoldAdd
  rw [slotRequest_done h, occurs_next]
  rw [← hs, hparse]
  dsimp only
  rw [if_neg (by simp [hphase, hlock, hfence]), if_neg hfree, if_neg hgood, if_neg hroom.not_ge]

/-- A holding that nothing uses is removed, and its range goes to the scrub (R391). -/
theorem exec_holdRemove {s s' : State} {q : Req} {v : List Byte} {slot : SlotIx} {r : PRange} {i : Nat}
    (h : s.serves q (0x0800 + slot.val) 0x0A v) (hs : s' = s.beginReq q v) (hparse : parseHolding v = some r)
    (hfind : (s'.den slot.val).holdings.findIdx? (· == r) = some i) (hphase : revokePhase (s'.den slot.val))
    (hlock : ¬ s'.tdiLocked slot.val) (htarget : ¬ (s'.den slot.val).targets r) (hpool : ¬ (s'.den slot.val).pools.contains i)
    (harea : natAt (s'.den slot.val).saveArea 0 1 ≠ 2) :
    exec (.holdRemove q v) s = .next (((s'.modDen slot.val fun d =>
      { d with holdings := d.holdings.eraseIdx i, scrubs := d.scrubs ++ [.range r], pools := d.pools.map (shiftIx i) }).noteChange
        slot.val).reply s.dict.nextId q kOk []) := by
  have hused : (s'.den slot.val).areaHoldings = [] := if_neg harea
  change execHoldRemove q v s = _
  unfold execHoldRemove
  rw [slotRequest_done h (t := s'.modDen slot.val fun d => { d with
    holdings := d.holdings.eraseIdx i, scrubs := d.scrubs ++ [.range r], pools := d.pools.map (shiftIx i) }), occurs_next]
  rw [← hs, hparse]
  dsimp only
  rw [hfind]
  dsimp only
  rw [if_neg (by simp [hphase, hlock, htarget, hused]; simpa using hpool)]
  exact congrArg done (modDen_congr (by rw [if_neg harea]))

/-! ### Banks, save area, budgets and guarantees -/

/-- The banks that a mask names, of one tile of a den that stands, get their state, and the wake time passes (R60, R435). -/
theorem exec_bankCtl {s s' : State} {q : Req} {v : List Byte} {slot : SlotIx} {t : Nat} (h : s.serves q (0x0800 + slot.val) 0x15 v)
    (hs : s' = s.beginReq q v) (hmask : natAt v 2 2 ≠ 0) (hst : natAt v 4 1 ≤ 2) (hzero : natAt v 5 3 = 0)
    (hphase : (s'.den slot.val).phase = .loaded ∨ (s'.den slot.val).phase = .frozen) (hone : natAt v 0 2 ≠ 0xFFFF)
    (htile : (s'.den slot.val).rect.tiles[natAt v 0 2]? = some t) :
    exec (.bankCtl q v) s = .next (((s'.modTile t fun x =>
      ((((List.range 16).filter (natAt v 2 2).testBit).foldl (fun (x : Tile) b => x.setBank b (natAt v 4 1)) x).ageBanks 4208
        ((List.range 16).filter (natAt v 2 2).testBit).contains)).noteChange
        slot.val).reply s.dict.nextId q kOk []) := by
  change execBankCtl q v s = _
  unfold execBankCtl
  rw [slotRequest_done h, occurs_next]
  rw [← hs]
  dsimp only
  rw [if_neg hone, htile, if_neg (by omega), if_neg (by tauto), if_neg (List.cons_ne_nil _ _)]
  rfl

/-- A save area in the wells that fits beneath the own shafts' ends and above what the image uses (R412). -/
theorem exec_saveArea {s s' : State} {q : Req} {v : List Byte} {slot : SlotIx} (h : s.serves q (0x0800 + slot.val) 0x0C v)
    (hs : s' = s.beginReq q v) (hkind : natAt v 0 1 = 1) (hnone : natAt v 1 1 = 0) (hzero : natAt v 2 6 = 0) (hlen : v.length = 16)
    (halign : natAt v 8 8 % 0x10000 = 0) (hend : natAt v 8 8 + 0xD0000 ≤ 2 ^ 28)
    (huse : (s'.den slot.val).image.shaftUse ≤ natAt v 8 8) (hlock : ¬ s'.tdiLocked slot.val) :
    exec (.saveArea q v) s =
      .next (((s'.modDen slot.val fun d => { d with saveArea := v }).noteChange slot.val).reply s.dict.nextId q kOk []) := by
  change execSaveArea q v s = _
  unfold execSaveArea
  rw [slotRequest_done h, occurs_next]
  rw [← hs]
  dsimp only
  rw [if_neg (by omega), if_neg hlock, if_neg (by omega), if_neg (by omega)]

/-- Budgets that no link exceeds, for a slot that takes a grant (R424). -/
theorem exec_linkBudget {s s' : State} {q : Req} {v : List Byte} {slot : SlotIx} (h : s.serves q (0x0800 + slot.val) 0x0D v)
    (hs : s' = s.beginReq q v) (hphase : grantPhase (s'.den slot.val)) (hmax : ∀ l < 32, natAt v (2 * l) 2 ≤ 384)
    (hsum : ∀ l < 32, s'.budgetSum l slot.val + natAt v (2 * l) 2 ≤ 384) :
    exec (.linkBudget q v) s = .next (((s'.modDen slot.val fun d =>
      { d with linkBudget := (List.range 32).foldl (fun m l => kput 0 m l (natAt v (2 * l) 2)) [] }).noteChange slot.val).reply
        s.dict.nextId q kOk []) := by
  change execLinkBudget q v s = _
  unfold execLinkBudget
  rw [slotRequest_done h, occurs_next]
  rw [← hs]
  dsimp only
  rw [if_neg (by simpa using hmax), if_neg (by simp [hphase, ne_free_of_grantPhase hphase]), if_neg (by simpa using hsum)]

/-- A slot's guarantee at a controller changes, within what the controller has left; its balance keeps to its limits (R375). -/
theorem exec_guarantee {s s' : State} {q : Req} {v : List Byte} {slot : SlotIx} {k : CtlIx} (h : s.serves q (0x2200 + k.val) slot.val v)
    (hs : s' = s.beginReq q v) (hphase : grantPhase (s'.den slot.val)) (hnew : leNat v ≠ kget 0 (s'.den slot.val).guarantees k.val)
    (hsum : s'.guarSum k.val - kget 0 (s'.den slot.val).guarantees k.val + leNat v + s'.reg (0x2100 + k.val) 4 ≤ 256) :
    exec (.guarantee q v) s = .next ((((s'.setCtl k.val { s'.ctl k.val with
        balance := kmod 0 (s'.ctl k.val).balance slot.val (clampBal (s'.balLim k.val)) }).modDen slot.val fun d =>
      { d with guarantees := kput 0 d.guarantees k.val (leNat v) }).noteChange slot.val).reply s.dict.nextId q kOk []) := by
  obtain ⟨htakes, hcheck⟩ := serves_takes h
  obtain ⟨hindex, helem⟩ := takes_at htakes
  have hk := k.isLt
  change execGuarantee q v s = _
  unfold execGuarantee
  dsimp only
  rw [need_true _ _ _ (by simp [hindex]; omega), request_takes htakes hcheck, occurs_next, ← hs, hindex, helem,
    Nat.add_sub_cancel_left, if_neg hnew, if_neg (by simp [hphase, ne_free_of_grantPhase hphase]), if_neg (by omega)]
  rfl

/-! ### Wells and reservoir -/

/-- A shaft that has no spare yet is to be remapped to a free one (R279). -/
theorem exec_remapReq {s s' : State} {q : Req} {v : List Byte} {w : WellIx} (h : s.serves q (0x0300 + w.val) 0x0C v)
    (hs : s' = s.beginReq q v) (hshaft : leNat v ≤ 511) (hspare : ¬ (s'.well w.val).spares.any (fun p => p.2 == leNat v))
    (hcopy : (s'.well w.val).copying = none) (hwant : (s'.well w.val).wanted = []) (hfree : (s'.well w.val).freeSpare ≠ none) :
    exec (.remapReq q v) s = .next ((s'.setWell w.val ((s'.well w.val).want (leNat v))).reply s.dict.nextId q kOk []) := by
  obtain ⟨htakes, hcheck⟩ := serves_takes h
  obtain ⟨hindex, helem⟩ := takes_at htakes
  have hw := w.isLt
  change execRemapReq q v s = _
  unfold execRemapReq
  dsimp only
  rw [need_true _ _ _ (by simp [hindex, helem]; omega), request_takes htakes hcheck, occurs_next, ← hs, hindex,
    Nat.add_sub_cancel_left, if_neg (by rintro (hbig | hany); exacts [absurd hshaft (by omega), hspare hany]),
    if_neg (by simp [hcopy, hwant]), if_neg (by simpa [Option.isNone_iff_eq_none] using hfree)]
  rfl

/-- A key roll begins where none is in progress (R298). -/
theorem exec_rollReq {s s' : State} {q : Req} {v : List Byte} (h : s.serves q 0x0340 4 v) (hs : s' = s.beginReq q v) (hone : leNat v = 1)
    (hidle : s'.reg 0x0340 3 ≠ 1) : exec (.rollReq q v) s = .next (s'.startRoll.reply s.dict.nextId q kOk []) := by
  change execRollReq q v s = _
  unfold execRollReq
  rw [requestOf_serves h rfl, occurs_next, ← hs, if_neg (not_not_intro hone), if_neg hidle]
  rfl

/-- Settles O27: each write passes the checks of its element, command by command. -/
theorem denElementRequests : Obligations.DenElementRequests := by
  refine ⟨?_, ?_, ?_, ?_, ?_, ?_, ?_, ?_⟩
  · intro s s' q v slot r h hs hparse hphase hlock hfence hfree hgood hroom
    exact exec_holdAdd h hs hparse hphase hlock hfence hfree hgood hroom
  · intro s s' q v slot r i h hs hparse hfind hphase hlock htarget hpool harea
    exact exec_holdRemove h hs hparse hfind hphase hlock htarget hpool harea
  · intro s s' q v slot t h hs hmask hst hzero hphase hone htile
    exact exec_bankCtl h hs hmask hst hzero hphase hone htile
  · intro s s' q v slot h hs hkind hnone hzero hlen halign hend huse hlock
    exact exec_saveArea h hs hkind hnone hzero hlen halign hend huse hlock
  · intro s s' q v slot h hs hphase hmax hsum
    exact exec_linkBudget h hs hphase hmax hsum
  · intro s s' q v slot k h hs hphase hnew hsum
    exact exec_guarantee h hs hphase hnew hsum
  · intro s s' q v w h hs hshaft hspare hcopy hwant hfree
    exact exec_remapReq h hs hshaft hspare hcopy hwant hfree
  · intro s s' q v h hs hone hidle
    exact exec_rollReq h hs hone hidle

end Sys2Proof.Proofs
end

section
/-! PROOFS. The den commands on their command in flight (R395, R403 to R422, R429). -/

namespace Sys2Proof.Proofs

open Sys2Proof Sys2Proof.Machine Sys2Proof.Laws

/-! ### The command in flight and its result -/

theorem modDen_den_same (s : State) (n : Nat) (f : Den → Den) : (s.modDen n f).den n = f (s.den n) :=
  (modDen_den s n n f).trans (if_pos rfl)

theorem modDen_den_other (s : State) {n m : Nat} (h : m ≠ n) (f : Den → Den) : (s.modDen n f).den m = s.den m :=
  (modDen_den s n m f).trans (if_neg h)

/-- The command in flight of a slot whose work is not done. -/
theorem working_eq_some {d : Den} {op : Nat} {c : DenCmd} (h : d.working op = some c) :
    d.cmd = some c ∧ c.op = op ∧ c.result = none ∧ c.cancelled = false := by
  unfold Den.working at h
  split at h
  · split at h
    · cases h
      exact ⟨‹_›, ‹_›⟩
    · cases h
  · cases h

/-- A command in flight of a den that its operation accepts does its own work (R395, R410). -/
theorem denWork_runs {s : State} {op slot : Nat} {c : DenCmd} {k : DenCmd → Den → Out State} (hc : (s.den slot).working op = some c)
    (hphase : (s.den slot).phase ≠ .faulted ∨ (cmdStates op).contains .faulted = true) :
    denWork op slot s k = k c (s.den slot) := by
  unfold denWork
  rw [needSome_some hc]
  dsimp only
  rw [if_neg]
  simpa [imp_iff_not_or] using hphase

/-- A result of a command whose work was not done (R394). -/
theorem cmdResult_den {s : State} {slot : Nat} {c : DenCmd} (k : Code) (hc : (s.den slot).cmd = some c) (hr : c.result = none) :
    (s.cmdResult slot k).den slot = { s.den slot with cmd := some { c with result := some k } } := by
  unfold State.cmdResult
  rw [modDen_den, if_pos rfl, hc]
  simp [hr]

/-- A result changes nothing of its den but the command in flight. -/
theorem cmdResult_den_cmd (s : State) (slot : Nat) (k : Code) : ∃ c, (s.cmdResult slot k).den slot = { s.den slot with cmd := c } :=
  ⟨_, modDen_den_same s slot _⟩

theorem cmdResult_den_other {s : State} {slot n : Nat} (k : Code) (h : n ≠ slot) : (s.cmdResult slot k).den n = s.den n :=
  modDen_den_other s h _

/-! ### RESERVE, LOAD, START, FREEZE, RESUME -/

/-- A slot takes a rectangle that passes the placement checks, with its counters at zero (R387, R395). -/
theorem reserve_takes {s : State} {i : SlotIx} {c : DenCmd} {q : Rect} (hc : (s.den i.val).working 1 = some c)
    (hphase : (s.den i.val).phase ≠ .faulted) (hparse : parseRect (c.a1 % 2 ^ 32) = some q) (hplace : s.placeCheck q none none = none) :
    Completes (exec (.reserve i) s) fun t => (t.den i.val).phase = .reserved ∧ (t.den i.val).rect = q ∧
      (t.den i.val).cmd = some { c with result := some kOk } ∧ (t.den i.val).slipCyc = 0 ∧ (t.den i.val).slipCnt = 0 ∧
      (t.den i.val).bundle = 0 ∧ (t.den i.val).causes = [] ∧ (t.den i.val).misses = 0 ∧ (t.den i.val).stepFlags = 0 ∧
      (t.den i.val).fp64Counts = [] ∧ ∀ n, n ≠ i.val → t.den n = s.den n := by
  obtain ⟨hcmd, -, hresult, -⟩ := working_eq_some hc
  change Completes (execReserve i s) _
  unfold execReserve
  rw [denWork_runs hc (.inl hphase), hparse]
  dsimp -zeta only
  rw [hplace]
  dsimp -zeta only
  extract_lets taken energy metered
  have hdens : metered.dens = taken.dens := rfl
  have htaken : taken.den i.val = _ := modDen_den_same s i.val _
  have hden := (den_of_dens_eq hdens i.val).trans htaken
  refine ⟨_, rfl, ?_⟩
  dsimp only
  rw [cmdResult_den kOk ((congrArg Den.cmd hden).trans hcmd) hresult, hden]
  refine ⟨rfl, rfl, rfl, rfl, rfl, rfl, rfl, rfl, rfl, rfl, fun n hn => ?_⟩
  have hother : taken.den n = s.den n := modDen_den_other s hn _
  exact (cmdResult_den_other kOk hn).trans ((den_of_dens_eq hdens n).trans hother)

/-- An image that is well formed and fits enters the den in its shape (R399 to R403). -/
theorem exec_load {s s' : State} {i : SlotIx} {c : DenCmd} {img : HostRead} {ok : Bool} {g : Image} {sh : Shape}
    (hc : (s.den i.val).working 2 = some c) (hs : s' = s.askImage (s.den i.val) c.a1 c.a2) (hphase : (s.den i.val).phase ≠ .faulted)
    (hsays : imageSays img ok) (hread : readImage img c.a2 = .ok g)
    (hshape : (g.shapes.find? fun sh => sh.w == (s.den i.val).rect.w && sh.h == (s.den i.val).rect.h) = some sh)
    (hfit : s'.fitFails i.val (s.den i.val).rect g sh = none) :
    exec (.load i img ok) s =
      .next (((s'.install i.val g sh).modDen i.val fun d => { d with phase := .loaded }).cmdResult i.val kOk) := by
  change execLoad i img ok s = _
  unfold execLoad
  rw [denWork_runs hc (.inl hphase), need_true _ _ _ hsays]
  dsimp only
  rw [← hs, hread]
  dsimp only
  rw [hshape]
  dsimp only
  rw [hfit, occurs_next]

theorem exec_start {s : State} {i : SlotIx} {c : DenCmd} (hc : (s.den i.val).working 3 = some c)
    (hphase : (s.den i.val).phase ≠ .faulted) :
    exec (.start i) s = .next ((s.modDen i.val fun d => { d with phase := .running }).cmdResult i.val kOk) := by
  change execStart i s = _
  unfold execStart
  rw [denWork_runs hc (.inl hphase), occurs_next]

/-- The guard of a freeze: the den runs, and no freeze is under way. -/
theorem running_not_stopping {d : Den} (hphase : d.phase = .running) (hstop : d.wave.stopping = false) :
    (d.phase == .running && !d.wave.stopping) = true := by
  rw [hphase, hstop]
  rfl

/-- The freeze message of FREEZE reaches the origin of a den that runs (R407, R411). -/
theorem exec_freeze {s : State} {i : SlotIx} {c : DenCmd} (ran : Nat) (hc : (s.den i.val).working 4 = some c)
    (hphase : (s.den i.val).phase = .running) (hstop : (s.den i.val).wave.stopping = false) :
    exec (.freeze i ran) s =
      .next ((s.say (2 + s.settCore) .command s.settEnd (s.tileEnd (s.den i.val).rect.origin) i.val 4).stopWave i.val ran) := by
  change execFreeze i ran s = _
  unfold execFreeze
  rw [denWork_runs hc (.inl (by rw [hphase]; decide)), need_true _ _ _ (running_not_stopping hphase hstop), occurs_next]

theorem sendResume_den_command (s : State) (slot : Nat) (ended : List SlipSource × Nat) :
    ((s.sendResume slot ended).den slot).phase = (s.den slot).phase ∧ ((s.sendResume slot ended).den slot).cmd = (s.den slot).cmd := by
  unfold State.sendResume
  dsimp only
  rw [den_of_dens_eq (modTile_frame _ _ _).2.2.2.1, setDen_den, if_pos rfl]
  exact ⟨rfl, rfl⟩

/-- A den resumes with its Z and its slip counters as they were (R411). -/
theorem resume_runs {s : State} {i : SlotIx} {c : DenCmd} (waited : Nat) (hc : (s.den i.val).working 5 = some c)
    (hphase : (s.den i.val).phase ≠ .faulted) (hrestored : (s.den i.val).restored = false) :
    Completes (exec (.resume i waited) s) fun t => (t.den i.val).phase = .running ∧
      (t.den i.val).cmd = some { c with result := some kOk } ∧ (t.den i.val).wave.z = (s.den i.val).wave.z ∧
      (t.den i.val).slipCyc = (s.den i.val).slipCyc ∧ (t.den i.val).slipCnt = (s.den i.val).slipCnt := by
  obtain ⟨hcmd, -, hresult, -⟩ := working_eq_some hc
  change Completes (execResume i waited s) _
  unfold execResume
  rw [denWork_runs hc (.inl hphase)]
  extract_lets named q runs takes told resumed
  have hdens : told.dens = runs.dens := by
    change takes.dens = _
    simp only [takes, named, hrestored, Bool.false_and, Bool.false_eq_true, if_false]
  have hden : told.den i.val = _ := (den_of_dens_eq hdens i.val).trans (modDen_den_same s i.val _)
  have hresumed : (resumed.den i.val).phase = .running ∧ (resumed.den i.val).cmd = some c ∧
      (resumed.den i.val).wave.z = (s.den i.val).wave.z ∧ (resumed.den i.val).slipCyc = (s.den i.val).slipCyc ∧
      (resumed.den i.val).slipCnt = (s.den i.val).slipCnt := by
    unfold resumed
    split
    · obtain ⟨hz, hcyc, hcnt, -⟩ := sendResume_den told i.val ([], 0)
      obtain ⟨hp, hcmd'⟩ := sendResume_den_command told i.val ([], 0)
      rw [hz, hcyc, hcnt, hp, hcmd', hden]
      exact ⟨rfl, hcmd, rfl, rfl, rfl⟩
    · rw [modDen_den_same, hden]
      exact ⟨rfl, hcmd, rfl, rfl, rfl⟩
  obtain ⟨hp, hcmd', hz, hcyc, hcnt⟩ := hresumed
  refine ⟨_, rfl, ?_⟩
  dsimp only
  rw [cmdResult_den kOk hcmd' hresult]
  exact ⟨hp, rfl, hz, hcyc, hcnt⟩

/-! ### SAVE and RESTORE -/

/-- A save of a den that stands and has drained ends with the code of its writes (R413 to R416). -/
theorem exec_save {s s' : State} {i : SlotIx} {c : DenCmd} {f : SaveFacts} {k : Code} (hc : (s.den i.val).working 6 = some c)
    (hquiet : s.denQuiet i.val) (hstill : s.allStill i.val) (hunc : f.unc = none)
    (hwrite : s.writeSave f.meets i.val (c.a1 == 1) = (k, s')) :
    exec (.save i f) s = .next (s'.cmdResult i.val k) := by
  change execSave i f s = _
  unfold execSave
  rw [denWork_runs hc (.inr rfl), need_true _ _ _ (by rw [hquiet, hstill]; rfl), hunc]
  dsimp only
  rw [hwrite, occurs_next]

/-- A restore whose image, header, fit and digests agree loads the save, and the den is FROZEN (R417). -/
theorem exec_restore {s u s' w : State} {i : SlotIx} {c : DenCmd} {img : HostRead} {ok : Bool} {f : SaveFacts} {g : Image}
    {kind hdr kind' hdr' : Nat} {places recs : List Nat} {h : List Byte} {sh : Shape} {sv : Saved}
    (hc : (s.den i.val).working 7 = some c) (hu : u = s.askImage (s.den i.val) c.a1 c.a2) (hsays : imageSays img ok)
    (hread : readImage img c.a2 = .ok g) (hplaces : (s.den i.val).savePlaces 0 = some (kind, hdr, places))
    (hheader : u.areaRead f.meets kind 257 hdr 256 = (kOk, h, s'))
    (hshape : (g.shapes.find? fun sh => sh.ix == natAt h 4 1 && sh.w == (s.den i.val).rect.w && sh.h == (s.den i.val).rect.h) = some sh)
    (hversion : natAt h 0 2 = 1) (hdigest : natAt h 0x30 32 = g.digest.toNat)
    (hfit : s'.fitFails i.val (s.den i.val).rect g sh = none)
    (hrecs : (s.den i.val).savePlaces (natAt h 0x50 4) = some (kind', hdr', recs))
    (hfind : (((s.den i.val).rect.tiles.zip recs).foldl (fun (s : State) p => s.haulRecord i.val kind p.1 p.2 false) s').findSave
      f.meets kind recs h = (kOk, some sv, w)) :
    exec (.restore i img ok f) s = .next ((((w.loadSave i.val g sh sv).emptyCaches i.val).modDen i.val fun d =>
      { d with phase := .frozen }).cmdResult i.val kOk) := by
  change execRestore i img ok f s = _
  unfold execRestore
  rw [denWork_runs hc (.inr rfl), need_true _ _ _ hsays]
  dsimp only
  rw [← hu, hread, hplaces]
  dsimp only
  rw [hheader]
  dsimp only
  rw [if_neg (not_not_intro rfl), hshape]
  dsimp only
  rw [if_neg (by rw [hversion, hdigest]; simp), hfit]
  dsimp only
  rw [hrecs]
  dsimp only
  rw [hfind]
  rfl

/-! ### RELOCATE and RESHAPE -/

/-- Without CARRY a move copies nothing and ends at once (R420). -/
theorem moveOn_uncarried {c : DenCmd} (hcarry : c.a1.testBit 32 = false) (s : State) (slot : Nat) (m : Move) (n : Nat)
    (ms : List LineMeet) (es : List Extent) : s.moveOn slot c m n ms es = (s.endMove slot m.dest es).cmdResult slot kOk := by
  unfold State.moveOn
  rw [hcarry]
  rfl

/-- A den whose move has ended (R420): its rectangle, its extents and what is left to scrub. -/
theorem endMove_den (s : State) (slot : Nat) (q : Rect) (es : List Extent) :
    (s.endMove slot q es).den slot = { s.den slot with
      rect := q, extents := es, wave := (s.den slot).wave.moved (s.den slot).rect q,
      scrubs := (s.den slot).scrubs ++ (s.den slot).rect.tiles.map .shaft, moving := none } := by
  unfold State.endMove
  extract_lets old emptied moved seam fifos refilled
  have hdens : refilled.dens = s.dens := by
    change moved.dens = _
    simp [moved, emptied]
  rw [modDen_den_same, den_of_dens_eq hdens]

theorem relocate_moves {s : State} {i : SlotIx} {n : Nat} {ms : List LineMeet} {c : DenCmd} {q : Rect} {es : List Extent}
    (hc : (s.den i.val).working 8 = some c) (hphase : (s.den i.val).phase ≠ .faulted)
    (hq : q = { (s.den i.val).rect with bc := bitsOf c.a1 0 5, br := bitsOf c.a1 8 4 })
    (hplace : s.placeCheck q (some i.val) (some (s.den i.val).image.seamCol) = none)
    (hapart : ¬ q.tiles.any (s.den i.val).rect.has)
    (hes : allSome ((s.den i.val).extents.map fun e =>
      if e.onShafts (s.den i.val).rect.tiles then carried (s.den i.val).rect q e else some e) = some es)
    (hidle : (s.den i.val).moving = none) (hcarry : c.a1.testBit 32 = false) :
    Completes (exec (.relocate { slot := i, shafts := n, meets := ms }) s) fun t =>
      (t.den i.val).rect = q ∧ (t.den i.val).extents = es ∧ (t.den i.val).moving = none ∧
      (t.den i.val).scrubs = (s.den i.val).scrubs ++ (s.den i.val).rect.tiles.map ScrubUnit.shaft ∧
      ∃ x, (t.den i.val).cmd = some x ∧ x.result = some kOk := by
  obtain ⟨hcmd, -, hresult, -⟩ := working_eq_some hc
  change Completes (execRelocate { slot := i, shafts := n, meets := ms } s) _
  unfold execRelocate
  dsimp only
  rw [denWork_runs hc (.inl hphase), hidle, ← hq, hes]
  dsimp only
  rw [hplace]
  dsimp only
  rw [if_neg hapart, moveOn_uncarried hcarry]
  have hdens : (q.tiles.foldl State.zeroShaft s).dens = s.dens := by simp
  have hden := modDen_den_same (q.tiles.foldl State.zeroShaft s) i.val fun d => { d with moving := some ({ dest := q } : Move) }
  rw [den_of_dens_eq hdens] at hden
  have hend := endMove_den ((q.tiles.foldl State.zeroShaft s).modDen i.val fun d => { d with moving := some { dest := q } }) i.val q es
  rw [hden] at hend
  refine ⟨_, rfl, ?_⟩
  dsimp only
  rw [cmdResult_den kOk ((congrArg Den.cmd hend).trans hcmd) hresult, hend]
  exact ⟨rfl, rfl, rfl, rfl, _, rfl, rfl⟩

theorem exec_relocate_goes_on {s : State} {i : SlotIx} {n : Nat} {ms : List LineMeet} {c : DenCmd} {q : Rect} {m : Move}
    {es : List Extent} (hc : (s.den i.val).working 8 = some c) (hphase : (s.den i.val).phase ≠ .faulted)
    (hmove : (s.den i.val).moving = some m) (hq : q = { (s.den i.val).rect with bc := bitsOf c.a1 0 5, br := bitsOf c.a1 8 4 })
    (hes : allSome ((s.den i.val).extents.map fun e =>
      if e.onShafts (s.den i.val).rect.tiles then carried (s.den i.val).rect q e else some e) = some es) :
    exec (.relocate { slot := i, shafts := n, meets := ms }) s = .next (s.moveOn i.val c m n ms es) := by
  change execRelocate { slot := i, shafts := n, meets := ms } s = _
  unfold execRelocate
  dsimp only
  rw [denWork_runs hc (.inl hphase), hmove, ← hq, hes]
  rfl

/-- A write to the wells touches no den. -/
theorem areaWrite_wells_dens (s : State) (ms : List LineMeet) (fuel a : Nat) (bs : List Byte) :
    (s.areaWrite ms 1 fuel a bs).2.dens = s.dens := by
  have hline (s : State) (a : Nat) (k : Access) : (s.areaLine ms 1 a k).2.2.dens = s.dens := by
    unfold State.areaLine
    rw [if_pos rfl]
    simp
  induction fuel generalizing s a bs with
  | zero => rfl
  | succ fuel ih =>
    unfold State.areaWrite
    split
    · rfl
    · dsimp only
      split
      · rw [ih, hline]
      · exact hline _ _ _

theorem writeInit_dens (s : State) (tiles : List Nat) (e : InitData) : (s.writeInit tiles e).dens = s.dens := by
  unfold State.writeInit
  refine foldl_dens _ _ _ fun s t => ?_
  split
  · simp
  · exact areaWrite_wells_dens _ _ _ _ _

/-- An image that enters a den leaves the command in flight. -/
theorem install_cmd (s : State) (slot : Nat) (g : Image) (sh : Shape) : ((s.install slot g sh).den slot).cmd = (s.den slot).cmd := by
  unfold State.install
  extract_lets tiles streams one streamed filled
  have hdens : filled.dens = s.dens := by
    refine (foldl_dens _ _ _ fun s e => writeInit_dens s tiles e).trans (foldl_dens _ _ _ fun s p => ?_)
    simp [one]
  rw [modDen_den_same, den_of_dens_eq hdens]

/-- A den whose new rectangle, image and shape fit is LOADED in it (R421). -/
theorem reshape_loads {s s' : State} {i : SlotIx} {c : DenCmd} {img : HostRead} {ok : Bool} {q : Rect} {g : Image} {sh : Shape}
    (hc : (s.den i.val).working 9 = some c) (hs : s' = s.askImage (s.den i.val) c.a1 (c.a2 % 2 ^ 32))
    (hphase : (s.den i.val).phase ≠ .faulted) (hsays : imageSays img ok) (hparse : parseRect (bitsOf c.a2 32 32) = some q)
    (hplace : s.placeCheck q (some i.val) (some (s.den i.val).image.seamCol) = none)
    (hext : ¬ ((s.den i.val).extents.any fun e => e.onShafts ((s.den i.val).rect.tiles.filter fun t => !q.has t)))
    (hread : readImage img (c.a2 % 2 ^ 32) = .ok g) (hshape : (g.shapes.find? fun sh => sh.w == q.w && sh.h == q.h) = some sh)
    (hfit : s'.fitFails i.val q g sh = none) :
    Completes (exec (.reshape i img ok) s) fun t => (t.den i.val).phase = .loaded ∧
      ∃ x, (t.den i.val).cmd = some x ∧ x.result = some kOk := by
  subst hs
  obtain ⟨hcmd, -, hresult, -⟩ := working_eq_some hc
  change Completes (execReshape i img ok s) _
  unfold execReshape
  rw [denWork_runs hc (.inl hphase), need_true _ _ _ hsays, hparse]
  dsimp -zeta only
  extract_lets gone asked cleared zeroed placed
  rw [hplace]
  dsimp -zeta only
  rw [if_neg hext, hread]
  dsimp -zeta only
  rw [hshape]
  dsimp -zeta only
  rw [show asked.fitFails i.val q g sh = none from hfit]
  dsimp -zeta only
  extract_lets loaded
  have hdens : zeroed.dens = s.dens := by
    simp [zeroed, cleared, asked]
  have hplaced : (placed.den i.val).cmd = some c := by
    rw [modDen_den_same, den_of_dens_eq hdens]
    exact hcmd
  have hloaded := modDen_den_same (placed.install i.val g sh) i.val fun d => { d with phase := .loaded }
  refine ⟨_, rfl, ?_⟩
  dsimp only
  rw [cmdResult_den kOk ((congrArg Den.cmd hloaded).trans ((install_cmd _ _ _ _).trans hplaced)) hresult]
  exact ⟨congrArg Den.phase hloaded, _, rfl, rfl⟩

/-! ### RELEASE and COPY_OUT -/

theorem exec_release {s : State} {i : SlotIx} {c : DenCmd} (hc : (s.den i.val).working 10 = some c) (hphase : revokePhase (s.den i.val)) :
    exec (.release i) s = .next (s.beginRelease i.val) := by
  change execRelease i s = _
  unfold execRelease
  rw [denWork_runs hc (.inr rfl), need_true _ _ _ hphase, occurs_next]

/-- The writes of a COPY_OUT through its window (R422): it ends with OK once all are sent and acknowledged, and sends more before. -/
theorem exec_copyOut {s : State} {i : SlotIx} {c : DenCmd} {w : WinEntry} {h : PRange} (ms : List LineMeet)
    (hc : (s.den i.val).working 11 = some c) (hhold : (s.den i.val).holdings[c.a1]? = some h) (hwin : s.window c.a2 = some w)
    (hcheck : s.winCheck i.val c.a2 0 0 .write = none) :
    (h.len ≤ c.sent → ¬ (s.fab.links.any fun p => p.2.txs.any fun t => t.slot == i.val && t.who == .copyOut (s.den i.val).cmdSeq.toNat) →
      exec (.copyOut i ms) s = .next (s.cmdResult i.val kOk)) ∧
    (c.sent < h.len → exec (.copyOut i ms) s = .next (s.copySend ms i.val c.a2 w h 400)) := by
  change (_ → _ → execCopyOut i ms s = _) ∧ (_ → execCopyOut i ms s = _)
  unfold execCopyOut
  rw [denWork_runs hc (.inr rfl), hhold, hwin]
  dsimp only
  rw [hcheck]
  dsimp only
  refine ⟨fun hsent hdone => ?_, fun hmore => ?_⟩
  · rw [if_pos hsent, need_true _ _ _ (by simpa using hdone), occurs_next]
  · rw [if_neg hmore.not_ge, occurs_next]

/-- Settles O28: the eleven operations, each on its command in flight. -/
theorem denCommands : Obligations.DenCommands := by
  refine ⟨?_, ?_, ?_, ?_, ?_, ?_, ?_, ?_, ?_, ?_, ?_, ?_⟩
  · intro s i c q hc hphase hparse hplace
    exact reserve_takes hc hphase hparse hplace
  · intro s s' i c img ok g sh hc hs hphase hsays hread hshape hfit
    exact exec_load hc hs hphase hsays hread hshape hfit
  · intro s i c hc hphase
    exact exec_start hc hphase
  · intro s i c ran hc hphase hstop
    exact exec_freeze ran hc hphase hstop
  · intro s i c waited hc hphase hrestored
    exact resume_runs waited hc hphase hrestored
  · intro s s' i c f k hc hquiet hstill hunc hwrite
    exact exec_save hc hquiet hstill hunc hwrite
  · intro s u s' w i c img ok f g kind hdr kind' hdr' places recs h sh sv hc hu hsays hread hplaces hheader hshape hversion hdigest hfit
      hrecs hfind
    exact exec_restore hc hu hsays hread hplaces hheader hshape hversion hdigest hfit hrecs hfind
  · intro s i n ms c q es hc hphase hq hplace hapart hes hidle hcarry
    exact relocate_moves hc hphase hq hplace hapart hes hidle hcarry
  · intro s i n ms c q m es hc hphase hmove hq hes
    exact exec_relocate_goes_on hc hphase hmove hq hes
  · intro s s' i c img ok q g sh hc hs hphase hsays hparse hplace hext hread hshape hfit
    exact reshape_loads hc hs hphase hsays hparse hplace hext hread hshape hfit
  · intro s i c hc hphase
    exact exec_release hc hphase
  · intro s i c w h hc hhold hwin hcheck
    exact ⟨fun hsent hdone ms => (exec_copyOut ms hc hhold hwin hcheck).1 hsent hdone,
      fun hmore ms => (exec_copyOut ms hc hhold hwin hcheck).2 hmore⟩

end Sys2Proof.Proofs
end

section
/-! PROOFS. What happens to a slot of itself (R394, R405 to R409, R427 to R430, R433). -/

namespace Sys2Proof.Proofs

open Sys2Proof Sys2Proof.Machine Sys2Proof.Laws

/-! ### Completion and freezing -/

/-- A command that has its result completes (R394). -/
theorem exec_cmdComplete {s u : State} {i : SlotIx} {c : DenCmd} {r : Code} (hcmd : (s.den i.val).cmd = some c)
    (hresult : c.result = some r)
    (hu : u = (s.modDen i.val fun d => { d with cmd := d.release, release := none, cmdResult := r, cmdSeq := d.cmdSeq + 1 })) :
    exec (.cmdComplete i) s =
      .next (((if c.fen then u.signalFence c.fence c.fval else u).raise (514 + i.val)).noteChange i.val) := by
  change execCmdComplete i s = _
  unfold execCmdComplete
  dsimp only
  rw [needSome_some hcmd, needSome_some hresult, occurs_next, hu]
  rfl

/-- A den that stands and has drained is FROZEN (R408, R409). -/
theorem denFrozen_freezes {s : State} {i : SlotIx} (hphase : (s.den i.val).phase = .running) (hstop : (s.den i.val).wave.stopping)
    (hstill : s.allStill i.val) (hquiet : s.denQuiet i.val) (hpush : s.pushQuiet i.val) :
    Completes (exec (.denFrozen i) s) fun t => (t.den i.val).phase = .frozen := by
  change Completes (execDenFrozen i s) _
  unfold execDenFrozen
  extract_lets d emptied ended frozen
  have hfrozen : (frozen.den i.val).phase = .frozen := congrArg Den.phase (modDen_den_same ended i.val _)
  rw [need_true _ _ _ (by simp [d, hphase, hstop, hstill, hquiet, hpush])]
  refine ⟨_, rfl, ?_⟩
  dsimp only
  split
  · obtain ⟨c, hden⟩ := cmdResult_den_cmd frozen i.val kOk
    rw [hden]
    exact hfrozen
  · exact hfrozen

/-- The Sett freezes a den that runs without a command (R396, R407). -/
theorem exec_settFreeze {s : State} {i : SlotIx} (ran : Nat) (hphase : (s.den i.val).phase = .running)
    (hstop : (s.den i.val).wave.stopping = false) :
    exec (.settFreeze i ran) s = .next (((s.say (2 + s.settCore) .command s.settEnd (s.tileEnd (s.den i.val).rect.origin) i.val 4).modDen
      i.val fun d => { d with settFreeze := true }).stopWave i.val ran) := by
  change execSettFreeze i ran s = _
  unfold execSettFreeze
  dsimp only
  rw [need_true _ _ _ (running_not_stopping hphase hstop), occurs_next]

/-! ### Steps -/

/-- What the end of a step leaves in its den (R405). -/
theorem endStep_den (s : State) (slot : Nat) :
    ((s.endStep slot).den slot).stepActive = false ∧ ((s.endStep slot).den slot).stepQueue = none ∧
      ((s.endStep slot).den slot).stepCount = bvInc (s.den slot).stepCount := by
  unfold State.endStep
  extract_lets d left fifos seam emptied flags count ready wave w d' q ended
  have hden : ended.den slot = d' := (setDen_den _ _ _ _).trans (if_pos rfl)
  clear_value q
  cases q with
  | none =>
    dsimp only
    rw [hden]
    exact ⟨rfl, rfl, rfl⟩
  | some q =>
    dsimp only
    rw [den_of_dens_eq (setCur_frame _ _ _).2.2.2.2.1, hden]
    exact ⟨rfl, rfl, rfl⟩

theorem stepEnd_ends {s : State} {i : SlotIx} (hphase : (s.den i.val).phase = .running) (hover : s.stepOver i.val) :
    Completes (exec (.stepEnd i) s) fun t => (t.den i.val).stepActive = false ∧ (t.den i.val).stepQueue = none ∧
      (t.den i.val).stepCount = bvInc (s.den i.val).stepCount := by
  change Completes (execStepEnd i s) _
  unfold execStepEnd
  dsimp only
  rw [need_true _ _ _ (by rw [hphase, hover]; rfl)]
  exact ⟨_, rfl, endStep_den s i.val⟩

/-- What the start of a step leaves in its den and in its queue (R405, R492). -/
theorem startStep_starts (s : State) (slot q waited : Nat) (c : Cur) :
    ((s.startStep slot q waited c).den slot).stepActive = true ∧ ((s.startStep slot q waited c).den slot).stepQueue = some q ∧
      ((s.startStep slot q waited c).den slot).reshapeReady = false ∧
      ((s.startStep slot q waited c).queue q).cur = (s.queue q).cur.map fun c => { c with phase := .running } := by
  unfold State.startStep
  extract_lets d woken args begun first active told host noted
  have hdens : (noted.setCur q .running).dens = active.dens := by
    change told.dens = _
    simp [told]
  have hqueue : noted.queue q = s.queue q := by
    have hhost : begun.host = s.host := by simp [begun, woken]
    have htold : told.host = active.host := by simp [told]
    unfold State.queue
    change kget {} told.host.queues q = _
    rw [htold]
    exact congrArg (fun h => kget {} (HostPort.queues h) q) hhost
  rw [den_of_dens_eq hdens, show active.den slot = _ from modDen_den_same begun slot _]
  refine ⟨rfl, rfl, rfl, ?_⟩
  unfold State.setCur
  dsimp only
  rw [setQueue_queue, if_pos rfl, hqueue]

/-- A list of no entries is admitted, and names no leave. -/
theorem admitBatch_nil (s : State) (slot : Nat) : s.admitBatch slot [] = .ok (s.setDen slot (s.den slot)) ∧ (s.den slot).leaves [] = [] := by
  have hleaves : (s.den slot).leaves [] = [] := by simp [Den.leaves, leavesOf]
  refine ⟨?_, hleaves⟩
  unfold State.admitBatch
  dsimp only
  rw [hleaves]
  simp [State.batchAll]

/-- At a step boundary the batch list of the ready entry whose turn it is is judged: it is refused, or its joins are granted and the step
starts, or its leaves are revoked first (R427, R428). -/
theorem exec_stepStart {s : State} {i : SlotIx} {n : Nat} {c : Cur} (waited : Nat) (hphase : (s.den i.val).phase = .running)
    (hstop : (s.den i.val).wave.stopping = false) (hidle : (s.den i.val).stepActive = false)
    (htiles : ((s.den i.val).rect.tiles.all fun t => (s.tile t).phase == .stopped)) (hturn : s.turnQueue i.val = some n)
    (hcur : (s.queue n).cur = some c) (hleft : c.left = false) :
    (∀ k j, s.admitBatch i.val (batchOf c.batch) = .error (j, k) → exec (.stepStart i waited) s =
      .next ((s.reportMembers i.val (((batchOf c.batch).drop j).take 1) k).endEntry n kBatchRefused j k)) ∧
    (∀ t, s.admitBatch i.val (batchOf c.batch) = .ok t → (s.den i.val).leaves (batchOf c.batch) = [] → exec (.stepStart i waited) s =
      .next ((t.reportMembers i.val (batchOf c.batch) kOk).startStep i.val n waited c)) ∧
    (∀ t u, s.admitBatch i.val (batchOf c.batch) = .ok t → (s.den i.val).leaves (batchOf c.batch) ≠ [] →
      u = ((s.den i.val).leaves (batchOf c.batch)).foldl (fun (s : State) x => s.startInval i.val x 0 none) s →
      exec (.stepStart i waited) s = .next (u.setQueue n { u.queue n with cur := some { c with left := true } })) := by
  change (∀ k j, _ → execStepStart i waited s = _) ∧ (∀ t, _ → _ → execStepStart i waited s = _) ∧
    (∀ t u, _ → _ → _ → execStepStart i waited s = _)
  unfold execStepStart
  dsimp only
  rw [need_true _ _ _ (by simp only [hphase, hstop, hidle, htiles]; rfl), needSome_some hturn, needSome_some hcur, hleft,
    if_neg Bool.false_ne_true]
  refine ⟨fun k j hjudged => ?_, fun t hjudged hnone => ?_, fun t u hjudged hsome hu => ?_⟩ <;> rw [hjudged] <;> dsimp only
  · rw [occurs_next]
  · rw [hnone, List.isEmpty_nil, if_pos rfl, occurs_next]
  · rw [if_neg (by simpa using hsome), occurs_next, hu]

/-! ### Drain and scrub -/

theorem startInval_phase (s : State) (slot : Nat) (old : Extent) (newLen : Nat) (resp : Option Nat) (n : Nat) :
    ((s.startInval slot old newLen resp).den n).phase = (s.den n).phase := by
  unfold State.startInval
  dsimp only
  rw [den_of_dens_eq (tellAll_frame _ _ _ _).2.2.2.2.1, setDen_den]
  split
  next h => rw [h]
  next => rfl

/-- The first command of a drain's end: windows are closed, and the extents are revoked (R429, R335). -/
theorem drainEnd_revokes {s : State} {i : SlotIx} (hphase : (s.den i.val).phase = .draining) (hstill : s.allStill i.val)
    (hquiet : s.denQuiet i.val) (hext : (s.den i.val).extents ≠ []) :
    Completes (exec (.drainEnd i) s) fun t => (t.den i.val).phase = .draining ∧
      t = (s.den i.val).extents.foldl (fun (s : State) e => s.startInval i.val e 0 none)
        { s with wins := s.wins.filter fun p => match p.2 with | some e => e.slot != i.val | none => false } := by
  change Completes (execDrainEnd i s) _
  unfold execDrainEnd
  dsimp only
  rw [need_true _ _ _ (by rw [hphase, hstill, hquiet]; rfl), if_pos (by simpa using hext)]
  refine ⟨_, rfl, ?_, rfl⟩
  exact (foldl_keeps (fun s => (s.den i.val).phase) _ _ _ fun s e => startInval_phase s i.val e 0 none i.val).trans hphase

/-- The last command of a drain's end (R430): nothing is left to revoke, and the scrub of every own shaft and holding begins. -/
theorem drainEnd_scrubs {s : State} {i : SlotIx} (hphase : (s.den i.val).phase = .draining) (hstill : s.allStill i.val)
    (hquiet : s.denQuiet i.val) (hext : (s.den i.val).extents = []) (hinval : (s.den i.val).invals = []) :
    Completes (exec (.drainEnd i) s) fun t => (t.den i.val).phase = .scrubbing ∧ (t.den i.val).extents = [] ∧
      (t.den i.val).guarantees = [] ∧ (t.den i.val).linkBudget = [] ∧
      (t.den i.val).scrubs = (s.den i.val).scrubs ++ ((s.den i.val).rect.tiles.map ScrubUnit.shaft ++
        (s.den i.val).holdings.map ScrubUnit.range) := by
  change Completes (execDrainEnd i s) _
  unfold execDrainEnd
  extract_lets d shut closed emptied cleared fifos seam refilled units scrubbing
  rw [need_true _ _ _ (by simp [d, hphase, hstill, hquiet]), if_neg (by simp [d, hext]), need_true _ _ _ (by simp [d, hinval])]
  have hdens : refilled.dens = s.dens := by
    change cleared.dens = _
    simp [cleared, emptied, closed]
  have hden : scrubbing.den i.val = _ := modDen_den_same refilled i.val _
  rw [den_of_dens_eq hdens] at hden
  refine ⟨_, rfl, ?_⟩
  dsimp only
  rw [den_of_dens_eq (noteChange_frame scrubbing i.val).2.2.2.2.1, hden]
  exact ⟨rfl, hext, rfl, rfl, rfl⟩

/-- The well of a tile's own shaft (R219). -/
theorem wellOf_of_ownAddr {t : Nat} (off : Nat) (ht : t < 8192) : ownAddr t off / 2 ^ 37 = wellOf t := by
  unfold ownAddr shaftOf rowOf colOf
  omega

/-- The scrub of an own shaft ends (R430): with a slot's last unit the slot is FREE. -/
theorem scrubEnd_shaft {s : State} {i : SlotIx} {n tl : Nat} (hunit : (s.den i.val).scrubs[n]? = some (.shaft tl))
    (hwell : s.reg (0x300 + wellOf tl) 0 ≠ 2) (htile : tl < 8192) :
    Completes (exec (.scrubEnd i n {}) s) fun t => (t.den i.val).scrubs = (s.den i.val).scrubs.eraseIdx n ∧
      ((s.den i.val).phase = .scrubbing → (s.den i.val).scrubs.length = 1 → (t.den i.val).phase = .free) := by
  change Completes (execScrubEnd i n {} s) _
  unfold execScrubEnd
  dsimp -zeta only
  extract_lets d
  rw [needSome_some hunit]
  dsimp -zeta only
  extract_lets r zeroed counted dropped d' freed
  have hdens : counted.dens = s.dens := by simp [counted, zeroed]
  have hden : d' = { s.den i.val with scrubs := (s.den i.val).scrubs.eraseIdx n } := by
    rw [← den_of_dens_eq hdens]
    exact modDen_den_same counted i.val _
  obtain ⟨c, hfreed⟩ := cmdResult_den_cmd freed i.val kOk
  have hopen : s.reg (0x300 + r.start / 2 ^ 37) 0 ≠ 2 := by
    rw [show r.start / 2 ^ 37 = wellOf tl from wellOf_of_ownAddr 0 htile]
    exact hwell
  rw [need_true _ _ _ (Bool.or_eq_true_iff.mpr (.inr (bne_iff_ne.mpr hopen)))]
  split
  next hlast =>
    refine ⟨_, rfl, ?_⟩
    dsimp only
    rw [den_of_dens_eq (noteChange_frame _ _).2.2.2.2.1, hfreed, show freed.den i.val = _ from (setDen_den _ _ _ _).trans (if_pos rfl)]
    refine ⟨?_, fun _ _ => rfl⟩
    rw [hden] at hlast
    exact hlast.2.symm
  next hmore =>
    refine ⟨_, rfl, ?_⟩
    dsimp only
    rw [den_of_dens_eq (noteChange_frame _ _).2.2.2.2.1, show dropped.den i.val = _ from hden]
    refine ⟨rfl, fun hphase hone => absurd ?_ hmore⟩
    rw [hden]
    refine ⟨hphase, ?_⟩
    have hn := (List.getElem?_eq_some_iff.mp hunit).1
    exact List.eq_nil_of_length_eq_zero (by rw [List.length_eraseIdx_of_lt hn, hone])

/-- An SDI window ends (R433): its slow-down and its misses are noted, and the next begins. -/
theorem sdiWindowEnd_notes {s : State} {i : SlotIx} (hphase : (s.den i.val).phase ≠ .free) (hbundles : (s.den i.val).winBundles ≠ 0)
    (hwin : (s.den i.val).sdiWin.toNat ≤ (s.den i.val).winBundles) :
    Completes (exec (.sdiWindowEnd i) s) fun t => (t.den i.val).winBundles = 0 ∧
      (t.den i.val).sdi = BitVec.ofNat 32 (min 0xFFFFFFFF (65536 * (s.den i.val).winAttr / (s.den i.val).sdiWin.toNat)) ∧
      (t.den i.val).sdiMisses = BitVec.ofNat 32 (s.den i.val).winMisses := by
  change Completes (execSdiWindowEnd i s) _
  unfold execSdiWindowEnd
  extract_lets d sdi noted
  have hden : noted.den i.val = _ := (setDen_den s i.val i.val _).trans (if_pos rfl)
  rw [need_true _ _ _ (by simp [d, hphase, hbundles, hwin])]
  refine ⟨_, rfl, ?_⟩
  dsimp only
  split
  · rw [den_of_dens_eq (raise_frame noted _).2.2.2.2.1, hden]
    exact ⟨rfl, rfl, rfl⟩
  · rw [hden]
    exact ⟨rfl, rfl, rfl⟩

/-- A step without a batch list starts at once (R405, R492). -/
theorem stepStart_starts {s : State} {i : SlotIx} {n : Nat} {c : Cur} (waited : Nat) (hcur : (s.queue n).cur = some c)
    (hstart : ∀ t, s.admitBatch i.val (batchOf c.batch) = .ok t → (s.den i.val).leaves (batchOf c.batch) = [] →
      exec (.stepStart i waited) s = .next ((t.reportMembers i.val (batchOf c.batch) kOk).startStep i.val n waited c))
    (hnone : c.batch = []) :
    Completes (exec (.stepStart i waited) s) fun t => (t.den i.val).stepActive = true ∧
      (t.den i.val).stepQueue = some n ∧ (t.queue n).cur = some { c with phase := .running } ∧ (t.den i.val).reshapeReady = false := by
  have hbatch : batchOf c.batch = [] := by rw [hnone]; rfl
  obtain ⟨hadmit, hleaves⟩ := admitBatch_nil s i.val
  rw [hbatch] at hstart
  obtain ⟨hactive, hqueue, hready, hentry⟩ := startStep_starts (s.setDen i.val (s.den i.val)) i.val n waited c
  refine ⟨_, hstart _ hadmit hleaves, hactive, hqueue, ?_, hready⟩
  exact hentry.trans (congrArg (Option.map _) hcur)

/-- Settles O29: each event of a slot. -/
theorem denEvents : Obligations.DenEvents := by
  refine ⟨?_, ?_, ?_, ?_, ?_, ?_, ?_, ?_⟩
  · intro s u i c r hcmd hresult hu
    exact exec_cmdComplete hcmd hresult hu
  · intro s i hphase hstop hstill hquiet hpush
    exact denFrozen_freezes hphase hstop hstill hquiet hpush
  · intro s i ran hphase hstop
    exact exec_settFreeze ran hphase hstop
  · intro s i waited n c hphase hstop hidle htiles hturn hcur hleft
    obtain ⟨hrefused, hstart, hrevoke⟩ := exec_stepStart waited hphase hstop hidle htiles hturn hcur hleft
    exact ⟨stepStart_starts waited hcur hstart, hrefused, hstart, hrevoke⟩
  · intro s i hphase hover
    exact stepEnd_ends hphase hover
  · intro s i hphase hstill hquiet
    exact ⟨drainEnd_revokes hphase hstill hquiet, drainEnd_scrubs hphase hstill hquiet⟩
  · intro s i n tl hunit hwell htile
    exact scrubEnd_shaft hunit hwell htile
  · intro s i hphase hbundles hwin
    exact sdiWindowEnd_notes hphase hbundles hwin

end Sys2Proof.Proofs
end

section
/-! PROOFS. What a refused dictionary request does (R449, R451, R461, R462). -/

namespace Sys2Proof.Proofs

open Sys2Proof Sys2Proof.Machine Sys2Proof.Laws

/-! ### The event of a command that is a request -/

/-- What the event of a command that is a dictionary request comes to: none, or the request with its element's own work. -/
inductive RequestEvent (q : Req) (op : DictOp) (v : List Byte) (permit : Bool) (s : State) : Out State → Prop
  | off (g : Guard) : RequestEvent q op v permit s (.off g)
  | request (run : Nat → State → Ans × State) : RequestEvent q op v permit s (request q op v permit run s)

namespace RequestEvent

variable {q : Req} {op : DictOp} {v : List Byte} {permit : Bool} {s t : State} {o : Out State} {c : Code}

theorem need {g : Guard} {b : Bool} (h : RequestEvent q op v permit s o) : RequestEvent q op v permit s (need g b o) := by
  unfold Machine.need
  split
  · exact h
  · exact .off g

/-- A refused request leaves the state as it was, where its event does not occur, or answers the refusal. -/
theorem refused (h : RequestEvent q op v permit s o) (hc : s.checkReq q op v permit = some c) (ho : occurs s o = .next t) :
    t = s ∨ t = (s.beginReq q v).reply s.dict.nextId q c [] := by
  cases h with
  | off g =>
    cases ho
    exact .inl rfl
  | request run =>
    obtain hnext | rfl := occurs_eq ho
    · obtain ⟨-, hnext⟩ := need_next hnext
      obtain ⟨-, hnext⟩ := need_next hnext
      obtain ⟨-, hnext⟩ := need_next hnext
      rw [hc] at hnext
      cases hnext
      exact .inr rfl
    · exact .inl rfl

theorem requestOf {els : List (Nat × Nat)} {run : Nat → State → Ans × State} :
    RequestEvent q .write v true s (requestOf els q v run s) := need (request run)

theorem slotRequest {el : Nat} {run : Nat → Nat → State → Ans × State} :
    RequestEvent q .write v true s (slotRequest el q v run s) := need (request _)

theorem lcRequest {mine : Nat → Bool} {auth : State → Bool} : RequestEvent q .write v true s (lcRequest mine auth q v s) :=
  need requestOf

theorem queueCtl {n : Nat} {run : Nat → Queue → State → Ans × State} :
    RequestEvent q .write v true s (queueCtl n q v run s) := need requestOf

theorem chanCtl {n : Nat} {run : Nat → Chan → State → Ans × State} :
    RequestEvent q .write v true s (chanCtl n q v run s) := need requestOf

theorem marchRun {mine : Nat → Bool} : RequestEvent q .write v true s (marchRun mine q v s) := need requestOf

theorem resetReq {mine : Nat → Bool} {run : ResetDom → State → Ans × State} :
    RequestEvent q .write v true s (resetReq mine q v run s) := need requestOf

end RequestEvent

/-- Every command that is a dictionary request is one by its own definition, with what its role may write. -/
theorem exec_requestEvent {i : Instr} {q : Req} {op : DictOp} {v : List Byte} (s : State) (h : asRequest i = some (q, op, v)) :
    ∃ o, exec i s = occurs s o ∧ RequestEvent q op v (s.permits i) s o := by
  cases i with
  | dictRead | dictDescribe | dictNext | dictSnapshot => cases h; exact ⟨_, rfl, .request _⟩
  | rollReq | extGrant | extRevoke | extResize | defaultsRestore | calImport | seamCtl | queueCreate | queueDestroy | fenCreate | fenRef
  | fenUnref | fenExport | ownerTeardown | aperMap | aperUnmap | endpointId | routeSet | routeClear | jobCreate | jobMember | jobEnd
  | fenceSend | pushChCreate | logSelect | custodySelect | logClear | svnCommit | fenceTile | unfenceTile | repairApply | dumpCfg =>
    cases h; exact ⟨_, rfl, .requestOf⟩
  | remapReq | winOpen | winClose | guarantee | dictWrite | calibrationWrite | slotOwner | keyInstall | pushRelease | linkEnable =>
    cases h; exact ⟨_, rfl, .need (.request _)⟩
  | holdAdd | holdRemove | bankCtl | saveArea | linkBudget => cases h; exact ⟨_, rfl, .slotRequest⟩
  | queueStop | queueStart => cases h; exact ⟨_, rfl, .queueCtl⟩
  | queueDiscard => cases h; exact ⟨_, rfl, .need .queueCtl⟩
  | pushStart | retarget | pushStop | pushDestroy => cases h; exact ⟨_, rfl, .chanCtl⟩
  | lcDeploy | lcReturn | lcScrap => cases h; exact ⟨_, rfl, .lcRequest⟩
  | marchDestructive | marchPreserving => cases h; exact ⟨_, rfl, .marchRun⟩
  | denReset | engineReset | halfReset | moduleReset => cases h; exact ⟨_, rfl, .resetReq⟩
  | chipReset by_ =>
    cases by_ with
    | request q v => cases h; exact ⟨_, rfl, .resetReq⟩
    | chip c => cases h
  | _ => cases h

/-! ### What an answer leaves -/

/-- Taking a request and answering it leave every part of the state but those that carry requests and responses (R449, R462). -/
theorem answeredOnly_reply (s : State) (id : Nat) (q : Req) (v : List Byte) (c : Code) :
    s.answeredOnly ((s.beginReq q v).reply id q c []) := by
  simp [State.answeredOnly]

/-- Settles O6: a command that is a request answers a refusal of R451 without its element's own work. -/
theorem refusedRequests : Obligations.RefusedRequests := by
  intro i s t q op v code hi hcheck ht
  obtain ⟨o, hexec, hevent⟩ := exec_requestEvent s hi
  refine (hevent.refused hcheck (hexec ▸ ht)).imp id fun hreply => ⟨hreply, ?_⟩
  rw [hreply]
  exact answeredOnly_reply s _ q v code

end Sys2Proof.Proofs
end

section
/-! PROOFS. What EMPTY does to a ring page (R453, R454). -/

namespace Sys2Proof.Proofs

open Sys2Proof Sys2Proof.Machine Sys2Proof.Laws

/-- A page that is emptied: its pointers and OVERRUN are clear, its two enables and the bytes of its rings stay. -/
theorem emptyPage_page (s : State) (p : Nat) : (s.emptyPage p).page p =
    { enable := (s.page p).enable, irqEn := (s.page p).irqEn, req := (s.page p).req, rsp := (s.page p).rsp } :=
  (setPage_page _ p p _).trans (if_pos rfl)

/-- EMPTY of a disabled page empties it. -/
theorem exec_empty_disabled {s : State} {p : PageIx} (h : (s.page p.val).enable = false) :
    exec (.empty p) s = .next (s.emptyPage p.val) := by
  change execEmpty p s = _
  unfold execEmpty
  rw [h]
  rfl

/-- A module after reset, but for a byte of a request in the request ring of page 0, which is still disabled. -/
def requestInRing : State := { dict := { pages := [(0, { req := [(0, 1)] })] } }

/-- Refutes O25: EMPTY clears the pointers of a disabled page, but the bytes of its rings stay, where the statement has none left. -/
theorem not_hostPort : ¬ Obligations.HostPort := by
  unfold Obligations.HostPort
  rintro ⟨-, -, -, -, -, -, -, -, -, -, -, -, -, -, -, hempty, -⟩
  obtain ⟨t, ht, hpage⟩ := (hempty requestInRing 0).2 rfl
  rw [exec_empty_disabled rfl] at ht
  cases ht
  rw [emptyPage_page] at hpage
  exact absurd (congrArg RingPage.req hpage) (by decide)

end Sys2Proof.Proofs
end

section
/-! PROOFS. The dictionary's own operations (R423, R434, R448 to R450). -/

namespace Sys2Proof.Proofs

open Sys2Proof Sys2Proof.Machine Sys2Proof.Laws

/-! ### Requests without a payload -/

/-- A request that stands with no payload has LEN 0 (R448). -/
theorem takes_empty {s : State} {q : Req} {op : DictOp} {ix el : Nat} (h : s.takes q op ix el [] = true) :
    List.replicate q.len.toNat (0 : Byte) = [] := by
  have hlen : q.len.toNat = 0 := by
    simp only [State.takes, Bool.and_eq_true, beq_iff_eq] at h
    obtain ⟨⟨⟨⟨-, hlen⟩, -⟩, -⟩, -⟩ := h
    exact hlen.symm
  rw [hlen]
  rfl

/-- A request without a payload that no check refuses: the operation's own work decides. -/
theorem request_empty {s : State} {q : Req} {op : DictOp} {ix el : Nat} {run : Nat → State → Ans × State}
    (h : s.takes q op ix el [] = true) (hcheck : s.checkReq q op [] true = none) :
    occurs s (request q op (List.replicate q.len.toNat 0) true run s) =
      .next (finishReq s.dict.nextId q (run s.dict.nextId (s.beginReq q []))) := by
  rw [takes_empty h, request_takes h hcheck, occurs_next]

/-- A read gives the element's bytes (R449). -/
theorem exec_dictRead {s : State} {q : Req} {ix el : Nat} (h : s.takes q .read ix el []) (hcheck : s.checkReq q .read [] true = none) :
    exec (.dictRead q) s = .next (({ s.beginReq q [] with fresh := (s.beginReq q []).fresh + 1 } : State).reply s.dict.nextId q kOk
      ((s.beginReq q []).readElem q.fe ix el)) := by
  obtain ⟨rfl, rfl⟩ := takes_at h
  exact request_empty h hcheck

/-- DESCRIBE gives the descriptor of an element that the role has an access to (R449). -/
theorem exec_dictDescribe {s : State} {q : Req} {ix el e : Nat} {row : ElemRow} (h : s.takes q .describe ix el [])
    (hcheck : s.checkReq q .describe [] true = none)
    (hfind : ((s.beginReq q []).visible (roleOf q.fe) ix).find? (fun p => p.1 == el) = some (e, row)) :
    exec (.dictDescribe q) s = .next ((s.beginReq q []).reply s.dict.nextId q kOk
      (toLE 8 (row.ty + 2 ^ 16 * row.lmax + 2 ^ 32 * row.acc + 2 ^ 52 * row.pers))) := by
  obtain ⟨rfl, rfl⟩ := takes_at h
  change execDictDescribe q s = _
  unfold execDictDescribe
  rw [request_empty h hcheck, hfind]
  rfl

/-- DESCRIBE knows no element that the role has no access to (R449). -/
theorem exec_dictDescribe_unknown {s : State} {q : Req} {ix el : Nat} (h : s.takes q .describe ix el [])
    (hcheck : s.checkReq q .describe [] true = none)
    (hfind : ((s.beginReq q []).visible (roleOf q.fe) ix).find? (fun p => p.1 == el) = none) :
    exec (.dictDescribe q) s = .next ((s.beginReq q []).reply s.dict.nextId q kNoElement []) := by
  obtain ⟨rfl, rfl⟩ := takes_at h
  change execDictDescribe q s = _
  unfold execDictDescribe
  rw [request_empty h hcheck, hfind]
  rfl

/-- NEXT gives the next element there is (R449, R450). -/
theorem exec_dictNext {s : State} {q : Req} {ix el i e : Nat} (h : s.takes q .next ix el [])
    (hcheck : s.checkReq q .next [] true = none) (hnext : (s.beginReq q []).nextElem (roleOf q.fe) ix el = some (i, e)) :
    exec (.dictNext q) s = .next ((s.beginReq q []).reply s.dict.nextId q kOk (toLE 2 i ++ toLE 1 e ++ [0])) := by
  obtain ⟨rfl, rfl⟩ := takes_at h
  change execDictNext q s = _
  unfold execDictNext
  rw [request_empty h hcheck, hnext]
  rfl

/-- SNAPSHOT gives all that the role reads of an object, where it fits a response (R449, R450). -/
theorem exec_dictSnapshot {s : State} {q : Req} {ix : Nat} (h : s.takes q .snapshot ix 0 [])
    (hcheck : s.checkReq q .snapshot [] true = none) (hfits : ((s.beginReq q []).snapshot q.fe ix).length ≤ 4096) :
    exec (.dictSnapshot q) s = .next (({ s.beginReq q [] with fresh := (s.beginReq q []).fresh + 1 } : State).reply s.dict.nextId q kOk
      ((s.beginReq q []).snapshot q.fe ix)) := by
  obtain ⟨rfl, -⟩ := takes_at h
  change execDictSnapshot q s = _
  unfold execDictSnapshot
  rw [request_empty h hcheck, if_neg hfits.not_gt]
  rfl

/-! ### Writes -/

/-- A write to an element without a command of its own does the element's own work (R449). -/
theorem exec_dictWrite {s : State} {q : Req} {ix el : Nat} {v : List Byte} (h : s.takes q .write ix el v) (hrow : ownRow ix el = false)
    (hcheck : s.checkReq q .write v (writePermit (roleOf q.fe) ix el v) = none) :
    exec (.dictWrite q v) s = .next (finishReq s.dict.nextId q (writeElem s.dict.nextId ix el v (s.beginReq q v))) := by
  obtain ⟨rfl, rfl⟩ := takes_at h
  change execDictWrite q v s = _
  unfold execDictWrite
  dsimp only
  rw [need_true _ _ _ (by rw [hrow]; rfl), request_takes h hcheck, occurs_next]

/-- POWER_CLASS of a slot has no command of its own. -/
theorem ownRow_powerClass (slot : SlotIx) : ownRow (0x0800 + slot.val) 0x06 = false := by
  have hslot := slot.isLt
  simp [ownRow]
  omega

/-- A power class within its range, of a slot that takes a grant, is the slot's new one (R423, R434). -/
theorem writeElem_powerClass {s : State} {v : List Byte} {slot : SlotIx} (id : Nat) (hclass : leNat v ≤ 7)
    (hphase : grantPhase (s.den slot.val)) : writeElem id (0x0800 + slot.val) 0x06 v s =
      done (s.modDen slot.val fun d => { d with powerClass := leNat v }) := by
  have hslot := slot.isLt
  unfold writeElem
  rw [if_neg (by omega), if_pos (by omega), Nat.add_sub_cancel_left]
  unfold writeDenElem
  dsimp only
  rw [if_neg hclass.not_gt, hphase]
  rfl

/-- Settles O30: a read, a write, a description, the next element and a snapshot. -/
theorem dictionaryRequests : Obligations.DictionaryRequests := by
  refine ⟨?_, ?_, ?_, ?_, ?_, ?_⟩
  · rintro s _ q ix el h hcheck rfl
    exact exec_dictRead h hcheck
  · rintro s _ q ix el v h hrow hcheck rfl
    exact exec_dictWrite h hrow hcheck
  · rintro s _ q v d h hcheck rfl hclass hphase
    rw [exec_dictWrite h (ownRow_powerClass d) hcheck, writeElem_powerClass _ hclass hphase, finish_done]
  · rintro s _ q ix el h hcheck rfl
    exact ⟨fun e row hfind => exec_dictDescribe h hcheck hfind, exec_dictDescribe_unknown h hcheck⟩
  · rintro s _ q ix el i e h hcheck rfl hnext
    exact exec_dictNext h hcheck hnext
  · rintro s _ q ix h hcheck rfl hfits
    exact exec_dictSnapshot h hcheck hfits

end Sys2Proof.Proofs
end

section
/-! PROOFS. What keeps the dictionary (R210, R211, R215, R216, R446, R465, R469 to R477). -/

namespace Sys2Proof.Proofs

open Sys2Proof Sys2Proof.Machine Sys2Proof.Laws

/-! ### Commits and timeouts -/

/-- The oldest commit ends: in flash and counted, or with the old values back in force; its response goes out (R446, R468). -/
theorem exec_persistCommit {s : State} {id : Nat} {c : Commit} {rest : List Commit} (h : s.dict.commits = c :: rest)
    (hid : c.id = some id) :
    exec (.persistCommit true) s =
      .next ((({ s with dict := { s.dict with commits := rest } } : State).bump 0x0110 4).answer id kOk) ∧
    exec (.persistCommit false) s =
      .next ((c.old.foldl State.undo ({ s with dict := { s.dict with commits := rest } } : State)).answer id 0x0B02) := by
  change execPersistCommit true s = _ ∧ execPersistCommit false s = _
  unfold execPersistCommit
  rw [h]
  dsimp only
  rw [hid]
  exact ⟨rfl, rfl⟩

/-- A request that has waited for its work too long is answered TIMEOUT (R465). -/
theorem exec_dictOwlExpiry {s : State} {q : Req} {r : Resp} (h : s.dict.waiting.find? (·.q == q) = some r) :
    exec (.dictOwlExpiry q) s = .next ((s.bump 0x0110 2).answer r.id kTimeout) := by
  change execDictOwlExpiry q s = _
  unfold execDictOwlExpiry
  rw [h]
  rfl

/-! ### Registers that the links and the responses leave -/

/-- A register keeps its value where another is written. -/
theorem setReg_reg_other (s : State) {ix el jx fl : Nat} (v : Nat) (h : el < 256) (h' : fl < 256) (hne : ¬ (jx = ix ∧ fl = el)) :
    (s.setReg ix el v).reg jx fl = s.reg jx fl := by
  rw [setReg_reg s v h h', if_neg hne]

theorem bump_reg_other (s : State) {ix el jx fl : Nat} (n : Nat) (h : el < 256) (h' : fl < 256) (hne : ¬ (jx = ix ∧ fl = el)) :
    (s.bump ix el n).reg jx fl = s.reg jx fl := setReg_reg_other s _ h h' hne

section

variable {ix el : Nat}

/-! The state of a link is in its own registers, from 0x1000 on (R559). -/

theorem setLinkState_reg (s : State) (l st : Nat) (hix : ix < 0x1000) (hel : el < 256) :
    (s.setLinkState l st).reg ix el = s.reg ix el := by
  unfold State.setLinkState
  split
  · rfl
  · exact setReg_reg_other s st (by decide) hel (by omega)

theorem linkDown_reg (s : State) (l st : Nat) (hix : ix < 0x1000) (hel : el < 256) : (s.linkDown l st).reg ix el = s.reg ix el := by
  unfold State.linkDown
  rw [setLinkState_reg _ _ _ hix hel, bump_reg_other _ _ (by decide) hel (by omega), setReg_reg_other _ _ (by decide) hel (by omega),
    setReg_reg_other _ _ (by decide) hel (by omega)]
  rfl

theorem linkEnabled_reg (s : State) (l : Nat) (on : Bool) (hix : ix < 0x1000) (hel : el < 256) :
    (s.linkEnabled l on).reg ix el = s.reg ix el := by
  have hset (st : Nat) := setLinkState_reg s l st hix hel
  unfold State.linkEnabled
  dsimp only
  split
  · split
    · exact hset 1
    · rfl
  · split
    · exact linkDown_reg s l 0 hix hel
    · split
      · rfl
      · exact hset 0

theorem linksFollow_reg (s : State) (hix : ix < 0x1000) (hel : el < 256) : s.linksFollow.reg ix el = s.reg ix el :=
  foldl_keeps (fun s => s.reg ix el) _ _ s fun s l => linkEnabled_reg s l _ hix hel

theorem settleWarn_reg (s : State) : s.settleWarn.reg ix el = s.reg ix el := reg_of_dict_eq (by simp) ix el

/-! Of all registers a response that goes out touches at most the count of those dropped, 0x0110/7 (R457). -/

theorem deliver_reg (s : State) (q : Req) (c : Code) (v : List Byte) (hel : el < 256) (hne : ¬ (ix = 0x0110 ∧ el = 7)) :
    (s.deliver q c v).reg ix el = s.reg ix el := by
  unfold State.deliver
  dsimp only
  split
  · split <;> rfl
  · rfl
  · split
    · refine reg_of_dict_eq ?_ ix el
      split <;> simp
    · exact bump_reg_other s 1 (by decide) hel hne
  · split <;> rfl

theorem deliverNext_reg (s : State) (q : Req) (c : Code) (v : List Byte) (hel : el < 256) (hne : ¬ (ix = 0x0110 ∧ el = 7)) :
    (s.deliverNext q c v).reg ix el = s.reg ix el := by
  unfold State.deliverNext
  split
  · exact bump_reg_other _ 1 (by decide) hel hne
  · exact deliver_reg s q c v hel hne

theorem flush_reg (s : State) (hel : el < 256) (hne : ¬ (ix = 0x0110 ∧ el = 7)) : s.flush.reg ix el = s.reg ix el := by
  refine (foldl_fst_keeps (fun s => s.reg ix el) _ s.dict.waiting (s, []) fun p r => ?_)
  dsimp only
  split
  · split
    · rfl
    · exact deliverNext_reg _ _ _ _ hel hne
  · rfl

/-- A request that ends as a persistent write leaves the registers as the write has made them (R446, R457). -/
theorem finishReq_persist_reg (id : Nat) (q : Req) (old : List (Nat × Nat × List Byte)) (changed : Bool) (s : State) (hel : el < 256)
    (hne : ¬ (ix = 0x0110 ∧ el = 7)) : (finishReq id q (persist id old changed s)).reg ix el = s.reg ix el := by
  cases changed <;> exact flush_reg _ hel hne

end

/-! ### Defaults (R469) -/

/-- The state once every persistent element has its default, but those that DEFAULTS_RESTORE leaves alone (R469). -/
def defaultsBack (s : State) : State :=
  let maps := (kkeys s.wells).filter fun w => !(s.well w).spares.isEmpty
  let d := { s.dict with regs := s.dict.regs.filter fun p => defaultsKeep p.1, blobs := s.dict.blobs.filter fun p => defaultsKeep p.1 }
  let t := maps.foldl (fun (s : State) w => s.setWell w { s.well w with spares := [] }) ({ s with dict := d } : State)
  ((t.setHostFences []).setDomModes.linksFollow).settleWarn

theorem exec_defaultsRestore {s : State} {q : Req} {v : List Byte} (h : s.serves q 0x0110 6 v) (hv : leNat v ≠ 0)
    (hfree : (s.dens.any fun p => p.2.phase != .free) = false) :
    ∃ old changed, exec (.defaultsRestore q v) s =
      .next (finishReq s.dict.nextId q (persist s.dict.nextId old changed (defaultsBack (s.beginReq q v)))) := by
  have hfree' : ((s.beginReq q v).dens.any fun p => p.2.phase != .free) = false := by
    have hdens : (s.beginReq q v).dens = s.dens := by simp
    rw [hdens, hfree]
  change ∃ old changed, execDefaultsRestore q v s = _
  unfold execDefaultsRestore
  rw [requestOf_serves h rfl, occurs_next, if_neg hv, hfree', if_neg (by decide)]
  exact ⟨_, _, rfl⟩

theorem setHostFences_hostFenced (s : State) (l : List Nat) : (s.setHostFences l).repair.hostFenced = l := by
  simp [State.setHostFences]

theorem defaultsBack_hostFenced (s : State) : (defaultsBack s).repair.hostFenced = [] := by
  simp [defaultsBack, setHostFences_hostFenced]

/-- Every persistent register below the links' has its default. -/
theorem defaultsBack_reg (s : State) {ix el : Nat} (hix : ix < 0x1000) (hel : el < 256) (hkeep : defaultsKeep (elemKey ix el) = false) :
    (defaultsBack s).reg ix el = ({} : Dict).reg ix el := by
  unfold defaultsBack
  dsimp only
  rw [settleWarn_reg, linksFollow_reg _ hix hel]
  simp [State.reg, Dict.reg, kget_filter, hkeep]

/-- The count of dropped responses is one that DEFAULTS_RESTORE leaves alone: it is not persistent. -/
theorem ne_dropped_of_not_defaultsKeep {ix el : Nat} (h : defaultsKeep (elemKey ix el) = false) : ¬ (ix = 0x0110 ∧ el = 7) := by
  rintro ⟨rfl, rfl⟩
  exact absurd h (by decide)

theorem finishReq_repair (id : Nat) (q : Req) (r : Ans × State) : (finishReq id q r).repair = r.2.repair := by
  unfold finishReq
  split <;> simp

/-- The defaults come back: no tile is fenced by the host, and every persistent register has its default but those left alone (R469). -/
theorem defaultsRestore_restores {s : State} {q : Req} {v : List Byte} (h : s.serves q 0x0110 6 v) (hv : leNat v ≠ 0)
    (hfree : (s.dens.any fun p => p.2.phase != .free) = false) :
    Completes (exec (.defaultsRestore q v) s) fun t => t.repair.hostFenced = [] ∧
      ∀ ix el, ix < 0x1000 → el < 256 → defaultsKeep (elemKey ix el) = false → t.reg ix el = ({} : Dict).reg ix el := by
  obtain ⟨old, changed, hexec⟩ := exec_defaultsRestore h hv hfree
  refine ⟨_, hexec, ?_, fun ix el hix hel hkeep => ?_⟩
  · rw [finishReq_repair]
    simp [defaultsBack_hostFenced]
  · rw [finishReq_persist_reg _ q old changed _ hel (ne_dropped_of_not_defaultsKeep hkeep), defaultsBack_reg _ hix hel hkeep]

/-! ### The calibration set (R472 to R477) -/

/-- A container of the layout of R477. -/
structure CalContainer (v : List Byte) : Prop where
  version : natAt v 0 2 = 1
  reserved : natAt v 2 2 = 0
  length : natAt v 4 4 = v.length
  zeros : ∀ i < 32, natAt v (24 + i) 1 = 0
  setLength : natAt v 56 2 = 1924
  reserved' : natAt v 58 6 = 0
  chain : v.length = 64 + 1924 + 2 + natAt v 1988 2 + 384

/-- A container that passes its checks for this chip brings in its set, with CAL_ORIGIN 0, as one commit (R477). -/
theorem exec_calImport {s s' : State} {q : Req} {v : List Byte} (h : s.serves q 0x02BF 3 v) (hs : s' = s.beginReq q v)
    (hshape : CalContainer v) :
    (bytesAt v 8 16 = bytesAt (s'.dict.blob 0x0000 2) 0 16 → ∀ new old : List (Nat × Nat × List Byte),
      new = cutElems calElems (bytesAt v 64 1924) ++ [(0x02BF, 0, toLE 4 0), (0x02BF, 1, trimZeros (bytesAt v 8 16))] →
      old = new.map (fun o => if o.1 = 0x02BF ∧ o.2.1 = 1 then (0x02BF, 1, s'.dict.blob 0x02BF 1)
        else (o.1, o.2.1, s'.stored o.1 o.2.1)) →
      exec (.calImport q v true) s = .next (finishReq s.dict.nextId q (persist s.dict.nextId old (old != new)
        (new.foldl (fun (s : State) o => s.putBytes o.1 o.2.1 o.2.2) s')))) ∧
    exec (.calImport q v false) s = .next (s'.reply s.dict.nextId q 0x0B04 []) := by
  obtain ⟨hversion, hreserved, hlength, hzeros, hset, hreserved', hchain⟩ := hshape
  have hzeros' : (List.range 32).all (fun i => natAt v (24 + i) 1 == 0) = true := by simpa using hzeros
  have hbroken : (!(natAt v 0 2 == 1 && natAt v 2 2 == 0 && natAt v 4 4 == v.length &&
      (List.range 32).all (fun i => natAt v (24 + i) 1 == 0) && natAt v 56 2 == 1924 && natAt v 58 6 == 0 &&
      v.length == 64 + 1924 + 2 + natAt v 1988 2 + 384)) = false := by
    simp [hversion, hreserved, hlength, hzeros', hset, hreserved', ← hchain]
  change (_ → ∀ new old : List (Nat × Nat × List Byte), _ → _ → execCalImport q v true s = _) ∧ execCalImport q v false s = _
  unfold execCalImport
  rw [requestOf_serves h rfl, requestOf_serves h rfl, occurs_next, occurs_next, ← hs]
  dsimp only
  rw [hbroken, if_neg (by decide), if_neg (by decide)]
  constructor
  · rintro hserial new old rfl rfl
    rw [if_neg (not_not_intro hserial)]
  · rfl

/-- A value of the calibration set takes effect in its range, and its object's bit of CAL_ORIGIN with it, as one commit; outside it the
write is refused (R472 to R475). -/
theorem exec_calibrationWrite {s s' : State} {q : Req} {v : List Byte} {i : Fin 4} {el : Nat} (h : s.serves q (0x0280 + i.val) el v)
    (hs : s' = s.beginReq q v) :
    (calRange (0x0280 + i.val) el v = false → exec (.calibrationWrite q v) s = .next (s'.reply s.dict.nextId q kRange [])) ∧
    (calRange (0x0280 + i.val) el v = true → s'.stored (0x0280 + i.val) el ≠ v → exec (.calibrationWrite q v) s =
      .next (finishReq s.dict.nextId q (persist s.dict.nextId
        [(0x0280 + i.val, el, s'.stored (0x0280 + i.val) el), (0x02BF, 0, toLE 4 (s'.reg 0x02BF 0))] true
        ((s'.putBytes (0x0280 + i.val) el v).setReg 0x02BF 0
          (if (s'.reg 0x02BF 0).testBit i.val then s'.reg 0x02BF 0 else s'.reg 0x02BF 0 + 2 ^ i.val))))) := by
  obtain ⟨htakes, hcheck⟩ := serves_takes h
  obtain ⟨hindex, helem⟩ := takes_at htakes
  have hi := i.isLt
  change (_ → execCalibrationWrite q v s = _) ∧ (_ → _ → execCalibrationWrite q v s = _)
  unfold execCalibrationWrite
  dsimp only
  rw [need_true _ _ _ (by simp [hindex]; omega), request_takes htakes hcheck, occurs_next, ← hs, hindex, helem, Nat.add_sub_cancel_left]
  refine ⟨fun hrange => ?_, fun hrange hnew => ?_⟩
  · rw [hrange]
    rfl
  · rw [hrange, if_neg (by decide), if_neg hnew]

/-! ### FOLLOW (R210, R211, R215, R216) -/

/-- FOLLOW is written: to 0 at once, and from 0 to 1 with P and DPEAK at 0 (R211, R215, R216). -/
theorem exec_seamCtl {s s' : State} {q : Req} {v : List Byte} (h : s.serves q 0x0410 0 v) (hs : s' = s.beginReq q v) :
    (leNat v = 0 → exec (.seamCtl q v) s =
      .next (({ s' with seam := { s'.seam with follow := false } } : State).reply s.dict.nextId q kOk [])) ∧
    (leNat v = 1 → s'.seam.follow = false → exec (.seamCtl q v) s =
      .next (({ s' with seam := { s'.seam with follow := true, p := 0, dpeak := 0 } } : State).reply s.dict.nextId q kOk [])) := by
  change (_ → execSeamCtl q v s = _) ∧ (_ → _ → execSeamCtl q v s = _)
  unfold execSeamCtl
  rw [requestOf_serves h rfl, occurs_next, ← hs]
  refine ⟨fun hv => ?_, fun hv hfollow => ?_⟩
  · rw [hv, if_neg (by decide), if_pos rfl]
    rfl
  · rw [hv, if_neg (by decide), if_neg (by decide)]
    dsimp only
    rw [hfollow, if_neg (by decide)]
    rfl

/-- Settles O31: commits, timeouts, defaults, the calibration set and FOLLOW. -/
theorem dictionaryUpkeep : Obligations.DictionaryUpkeep := by
  refine ⟨?_, ?_, ?_, ?_, ?_, ?_⟩
  · intro s id c rest hcommits hid
    exact exec_persistCommit hcommits hid
  · intro s q r hwaits
    exact exec_dictOwlExpiry hwaits
  · intro s q v h hv hfree
    exact defaultsRestore_restores h hv hfree
  · intro s s' q v new old h hs hversion hreserved hlength hzeros hset hreserved' hchain hserial hnew hold
    obtain ⟨hgood, hbad⟩ := exec_calImport h hs ⟨hversion, hreserved, hlength, hzeros, hset, hreserved', hchain⟩
    exact ⟨hgood hserial new old hnew hold, hbad⟩
  · rintro s s' q v i el _ h hs
    refine ⟨(exec_calibrationWrite h hs).1, ?_⟩
    rintro hrange hnew rfl
    exact (exec_calibrationWrite h hs).2 hrange hnew
  · intro s s' q v h hs
    exact exec_seamCtl h hs

end Sys2Proof.Proofs
end

section
/-! PROOFS. The management bus and firmware update (R458 to R460, R598). -/

namespace Sys2Proof.Proofs

open Sys2Proof Sys2Proof.Machine Sys2Proof.Laws

/-! ### MCTP control and discovery -/

/-- An MCTP control command reaches a running AON island (R458). -/
theorem exec_mctpControl {s : State} {c : MctpCmd} {t : State} (haon : s.aonRuns = true)
    (hrun : execMctpControl c s = occurs s (need .chipPhase s.aonRuns (.next t))) : exec (.mctpControl c) s = .next t := by
  change execMctpControl c s = _
  rw [hrun, need_true _ _ _ haon, occurs_next]

/-- A PLDM discovery command needs a server of PLDM besides (R458, R460). -/
theorem exec_pldm {s : State} {c : MctpCmd} {t : State} (haon : s.aonRuns = true) (hserves : s.pldmServes = true)
    (hrun : execMctpControl c s = occurs s (need .chipPhase s.aonRuns (need .chipPhase s.pldmServes (.next t)))) :
    exec (.mctpControl c) s = .next t :=
  exec_mctpControl haon (by rw [hrun, need_true _ s.pldmServes _ hserves])

theorem mctpTypes_settBooted {s : State} (h : s.settBooted = true) : s.mctpTypes = [0x00, 0x01, 0x05, 0x7E] := if_pos h

theorem mctpTypes_recovery {s : State} (h : s.chip.phase = .recovery) : s.mctpTypes = [0x00, 0x01] := by
  have hbooted : ¬ s.settBooted = true := by simp [State.settBooted, h]
  exact (if_neg hbooted).trans (if_pos h)

/-- A dictionary message of the management bus is queued with role tray; one of another vendor is refused (R459). -/
theorem exec_vendorDictMessage {s : State} (vendorOk : Bool) (bytes : List Byte) (h : s.settBooted = true) :
    exec (.vendorDictMessage vendorOk bytes) s =
      .next (if vendorOk then s.queueMsg .tray 8 bytes else s.deliver (parseMsg .tray bytes).2.1 0x0B03 []) := by
  change execVendorDictMessage vendorOk bytes s = _
  unfold execVendorDictMessage
  rw [need_true _ _ _ h, occurs_next]

/-! ### Firmware update -/

/-- What the verification of an image comes to (R598). -/
def imageCode (f : FwImage) (s : State) : Code :=
  if !f.sigOk then kFwVerify else if f.svn < s.reg 0x1801 4 then kFwRollback else kOk

/-- An image as a bank holds it. -/
def bankOf (f : FwImage) : FwBank := { version := f.version, svn := f.svn, sigOk := f.sigOk, digest := f.digest }

/-- The root of trust once an image has gone to the bank that does not run; `code` is what its verification has come to (R598). -/
def trustAfter (f : FwImage) (code : Code) (s : State) : Trust :=
  { (if s.chip.runsB then { s.trust with bankA := bankOf f } else { s.trust with bankB := bankOf f }) with
    activeB := if code = kOk then !s.chip.runsB else s.chip.runsB }

/-- An update of a booted Sett: the image goes to a bank, FW_STATUS and FW_STAGED say what became of it, and ApplyComplete goes out
(R598). -/
def imageTaken (f : FwImage) (code : Code) (s : State) : State :=
  (((({ s with trust := trustAfter f code s } : State).setReg 0x1801 1 code.toNat).setReg 0x0000 5
    (if code = kOk then f.version else 0)).raise 1815).emit (.applyComplete (code == kOk))

theorem exec_pldmFirmwareUpdate {s : State} (f : FwImage) (h : s.settBooted = true) :
    exec (.pldmFirmwareUpdate f) s = .next (imageTaken f (imageCode f s) s) := by
  have hphase : s.chip.phase ≠ .recovery := by
    intro hphase
    simp [State.settBooted, hphase] at h
  change execPldmFirmwareUpdate f s = _
  unfold execPldmFirmwareUpdate
  rw [need_true _ _ _ (by rw [h]; rfl), occurs_next]
  dsimp only
  rw [if_neg hphase]
  rfl

theorem imageCode_ok {f : FwImage} {s : State} (hsig : f.sigOk = true) (hsvn : s.reg 0x1801 4 ≤ f.svn) : imageCode f s = kOk := by
  rw [imageCode, hsig, if_neg (by decide), if_neg hsvn.not_gt]

theorem imageCode_unverified {f : FwImage} {s : State} (hsig : f.sigOk = false) : imageCode f s = kFwVerify := by
  rw [imageCode, hsig, if_pos (by decide)]

theorem imageCode_rollback {f : FwImage} {s : State} (hsig : f.sigOk = true) (hsvn : f.svn < s.reg 0x1801 4) :
    imageCode f s = kFwRollback := by
  rw [imageCode, hsig, if_neg (by decide), if_pos hsvn]

/-- Verification succeeds for a signed image that is no rollback, and for no other (R598). -/
theorem imageCode_beq_ok (f : FwImage) (s : State) : (imageCode f s == kOk) = (f.sigOk && decide (s.reg 0x1801 4 ≤ f.svn)) := by
  cases hsig : f.sigOk with
  | false => rw [imageCode_unverified hsig]; rfl
  | true =>
    obtain hsvn | hsvn := Nat.lt_or_ge f.svn (s.reg 0x1801 4)
    · rw [imageCode_rollback hsig hsvn, decide_eq_false hsvn.not_ge]
      rfl
    · rw [imageCode_ok hsig hsvn, decide_eq_true hsvn]
      rfl

/-- The image goes to the bank that does not run; the one that runs stays as it is. -/
theorem imageTaken_banks (f : FwImage) (code : Code) (s : State) :
    (s.chip.runsB = false → (imageTaken f code s).trust.bankB = bankOf f ∧ (imageTaken f code s).trust.bankA = s.trust.bankA) ∧
    (s.chip.runsB = true → (imageTaken f code s).trust.bankA = bankOf f ∧ (imageTaken f code s).trust.bankB = s.trust.bankB) := by
  change (_ → (trustAfter f code s).bankB = _ ∧ (trustAfter f code s).bankA = _) ∧
    (_ → (trustAfter f code s).bankA = _ ∧ (trustAfter f code s).bankB = _)
  unfold trustAfter
  exact ⟨fun h => by rw [h]; exact ⟨rfl, rfl⟩, fun h => by rw [h]; exact ⟨rfl, rfl⟩⟩

theorem imageTaken_result (f : FwImage) (code : Code) (s : State) : (imageTaken f code s).reg 0x1801 1 = code.toNat := by
  change (State.setReg (State.setReg _ 0x1801 1 code.toNat) 0x0000 5 _).reg 0x1801 1 = _
  rw [setReg_reg _ _ (by decide) (by decide), if_neg (by decide), setReg_reg _ _ (by decide) (by decide), if_pos ⟨rfl, rfl⟩]

/-- A bank that has verified is the next to boot, and FW_STAGED names its version. -/
theorem imageTaken_ok (f : FwImage) (s : State) :
    (imageTaken f kOk s).trust.activeB = !s.chip.runsB ∧ (imageTaken f kOk s).reg 0x0000 5 = f.version := by
  refine ⟨rfl, ?_⟩
  change (State.setReg _ 0x0000 5 _).reg 0x0000 5 = _
  rw [setReg_reg _ _ (by decide) (by decide), if_pos ⟨rfl, rfl⟩]
  rfl

/-- After a failed update the bank that runs is the next to boot. -/
theorem imageTaken_failed (f : FwImage) {code : Code} (s : State) (h : code ≠ kOk) :
    (imageTaken f code s).trust.activeB = s.chip.runsB := if_neg h

/-- Settles O32: the commands of MCTP control and discovery, the vendor messages, and the update of firmware. -/
theorem managementBus : Obligations.ManagementBus := by
  refine ⟨fun s haon => ⟨?_, ?_, ?_, ?_, ?_, ?_, ?_, fun hserves => ⟨?_, ?_, ?_⟩⟩, fun s bytes h => ⟨?_, ?_⟩, fun s f h => ?_⟩
  · exact fun e => exec_mctpControl haon rfl
  · exact exec_mctpControl haon rfl
  · exact fun h => mctpTypes_settBooted h ▸ exec_mctpControl haon rfl
  · exact fun h => mctpTypes_recovery h ▸ exec_mctpControl haon rfl
  · exact fun a => exec_mctpControl haon rfl
  · intro t ht
    exact (exec_mctpControl haon rfl).trans (by rw [ht]; rfl)
  · intro t ht
    exact (exec_mctpControl haon rfl).trans (by rw [ht]; rfl)
  · exact fun t => exec_pldm haon hserves rfl
  · exact exec_pldm haon hserves rfl
  · exact exec_pldm haon hserves rfl
  · exact exec_vendorDictMessage true bytes h
  · exact exec_vendorDictMessage false bytes h
  · refine ⟨_, exec_pldmFirmwareUpdate f h, (imageTaken_banks f _ s).1, (imageTaken_banks f _ s).2, fun hsig hsvn => ?_, fun hsig => ?_,
      fun hsig hsvn => ?_, ?_⟩
    · rw [imageCode_ok hsig hsvn]
      exact ⟨(imageTaken_ok f s).1, imageTaken_result f kOk s, (imageTaken_ok f s).2⟩
    · rw [imageCode_unverified hsig]
      exact ⟨imageTaken_failed f s (by decide), imageTaken_result f kFwVerify s⟩
    · rw [imageCode_rollback hsig hsvn]
      exact ⟨imageTaken_failed f s (by decide), imageTaken_result f kFwRollback s⟩
    · exact congrArg (fun ok => Sent.applyComplete ok :: s.outbox) (imageCode_beq_ok f s)

end Sys2Proof.Proofs
end

section
/-! PROOFS. Fence frames, FENCE_SEND and dictionary segments (R455 to R459, R498, R529, R560). -/

namespace Sys2Proof.Proofs

open Sys2Proof Sys2Proof.Machine Sys2Proof.Laws

/-! ### Fence frames -/

/-- A fence frame that stands before its engine goes to the fence it names (R498). -/
theorem exec_fenceFrame {s s1 : State} {l : LinkIx} {f : Frame} (h : s.takeRx l.val (fun f => frameKind f == 2) = some (f, s1)) :
    exec (.fenceFrame l) s =
      .next ((s1.say (16 + l.val) .fence (s1.floorEnd (l.val / 2) 0) s1.hostEnd 0 (natAt f.payload 0 2)).fabricSignal (frameJob f)
        (natAt f.payload 0 2) (bitsOf (natAt f.payload 8 8) 0 40)) := by
  change execFenceFrame l s = _
  unfold execFenceFrame
  rw [h]
  rfl

/-- A fence that is exported to the job of the frame takes its value (R498). -/
theorem fabricSignal_exported {s : State} {job n : Nat} (v : Nat) (hlive : (s.fence n).live = true) (hfabric : (s.fence n).fabric = true)
    (hjob : (s.fence n).job.toNat = job) : s.fabricSignal job n v = s.signalFence n v := by
  unfold State.fabricSignal
  dsimp only
  rw [hlive, hfabric, hjob, if_pos (by simp)]

/-- A fence that is not counts a stale write (R498). -/
theorem fabricSignal_stale {s : State} {job n : Nat} (v : Nat)
    (h : (s.fence n).live = false ∨ (s.fence n).fabric = false ∨ (s.fence n).job.toNat ≠ job) :
    s.fabricSignal job n v = s.setFence n { s.fence n with stale := bvInc (s.fence n).stale } := by
  unfold State.fabricSignal
  dsimp only
  rw [if_neg]
  rintro hall
  simp only [Bool.and_eq_true, beq_iff_eq] at hall
  obtain ⟨⟨hlive, hfabric⟩, hjob⟩ := hall
  obtain hno | hno | hno := h
  · simp [hno] at hlive
  · simp [hno] at hfabric
  · exact hno hjob

/-! ### FENCE_SEND -/

/-- A fence value for a job that exists and a peer of it goes out as a fence frame (R498, R560). -/
theorem exec_fenceSend {s s' r : State} {q : Req} {v : List Byte} {l : Nat} {route : Route} (h : s.serves q 0x1100 6 v)
    (hs : s' = s.beginReq q v) (hzero : natAt v 3 1 = 0) (hzero' : natAt v 10 6 = 0) (hval : natAt v 16 8 < 2 ^ 40)
    (hjob : (s'.job (natAt v 4 4)).isSome) (hpeer : natAt v 0 3 = s'.endpoint ∨ s'.isMember (natAt v 4 4) (natAt v 0 3))
    (hsend : s'.sendMsg (natAt v 4 4) (natAt v 0 3) .engine
      { kind := 2, payload := toLE 2 (natAt v 8 2) ++ List.replicate 6 0 ++ toLE 8 (natAt v 16 8) } = .ok r)
    (hlink : s'.pickLink (natAt v 0 3) (natAt v 4 4) 0 .engine = .ok (l, route)) :
    exec (.fenceSend q v) s =
      .next ((r.say 1 .fence s'.hostEnd (s'.floorEnd (l / 2) 0) 0 (natAt v 8 2)).reply s.dict.nextId q kOk []) := by
  have hnone : ¬ (s'.job (natAt v 4 4)).isNone = true := by simp [Option.isSome_iff_ne_none.mp hjob]
  have hmember : ¬ (natAt v 0 3 ≠ s'.endpoint ∧ (!s'.isMember (natAt v 4 4) (natAt v 0 3)) = true) := by
    rintro ⟨hother, hno⟩
    obtain heq | hyes := hpeer
    · exact hother heq
    · simp [hyes] at hno
  change execFenceSend q v s = _
  unfold execFenceSend
  rw [requestOf_serves h rfl, occurs_next, ← hs]
  dsimp only
  rw [if_neg (by omega), if_neg hnone, if_neg hmember, hsend]
  dsimp only
  rw [hlink]
  rfl

/-! ### Dictionary segments -/

/-- A field of two bytes holds a number below 2^16. -/
theorem natAt_two_lt (bs : List Byte) (i : Nat) : natAt bs i 2 < 2 ^ 16 := by
  have hlo := (bs.getD (i + 0) 0).isLt
  have hhi := (bs.getD (i + 1) 0).isLt
  change (bs.getD (i + 0) 0).toNat + 256 * ((bs.getD (i + 1) 0).toNat + 256 * 0) < 2 ^ 16
  omega

/-- Where no message is being put together, a message of one segment is whole, and is queued (R455, R457, R529). -/
theorem exec_dictSegment_whole {s s1 : State} {l : LinkIx} {f : Frame} (h : s.takeRx l.val (fun f => frameKind f == 3) = some (f, s1))
    (hnone : s1.dict.reassembly = []) (htotal : natAt f.payload 3 1 = 1) (hseg : natAt f.payload 2 1 = 0) (hen : s1.reg 0x0110 5 ≠ 0) :
    exec (.dictSegment l) s =
      .next ((s1.say (16 + l.val) .frame (s1.floorEnd (l.val / 2) 0) s1.settEnd 0 (natAt f.payload 0 2)).queueMsg
        (.fabric (BitVec.ofNat 24 (frameSrc f)) (BitVec.ofNat 32 (frameJob f))) 64 (f.payload.drop 8)) := by
  have hsame : ({ s1 with dict := { s1.dict with reassembly := [] } } : State) = s1 := by rw [← hnone]
  have hmsg : (BitVec.ofNat 16 (natAt f.payload 0 2)).toNat = natAt f.payload 0 2 := by
    rw [BitVec.toNat_ofNat, Nat.mod_eq_of_lt (natAt_two_lt _ _)]
  change execDictSegment l s = _
  unfold execDictSegment
  rw [needSome_some h]
  simp only [hnone, List.find?_nil, Option.getD_none, List.filter_nil, kins, List.length_singleton, List.flatMap_singleton, htotal, hseg,
    hmsg]
  rw [if_neg (by decide), if_neg (by decide), hsame]
  exact congrArg (occurs s) (if_neg hen)

/-- Where no message is being put together, the first of several segments to come is kept (R529). -/
theorem exec_dictSegment_first {s s1 : State} {l : LinkIx} {f : Frame} (h : s.takeRx l.val (fun f => frameKind f == 3) = some (f, s1))
    (hnone : s1.dict.reassembly = []) (hlo : 1 < natAt f.payload 3 1) (hhi : natAt f.payload 3 1 ≤ 17)
    (hseg : natAt f.payload 2 1 < natAt f.payload 3 1) :
    exec (.dictSegment l) s = .next { s1 with dict := { s1.dict with reassembly :=
      [{ src := BitVec.ofNat 24 (frameSrc f), job := BitVec.ofNat 32 (frameJob f), msg := BitVec.ofNat 16 (natAt f.payload 0 2),
         total := natAt f.payload 3 1, segs := [(natAt f.payload 2 1, f.payload.drop 8)] }] } } := by
  change execDictSegment l s = _
  unfold execDictSegment
  rw [needSome_some h]
  simp only [hnone, List.find?_nil, Option.getD_none, List.filter_nil, List.nil_append, kins, List.length_singleton]
  rw [if_neg (by omega), if_pos hlo, occurs_next]

/-- A message whose segments have not all come in time is dropped and counted at the link to its source (R529). -/
theorem exec_dictReassemblyTimeout {s : State} {src : BitVec 24} {job : BitVec 32} {msg : BitVec 16} {l : Nat} {route : Route}
    (h : s.dict.reassembly.any fun r => r.src == src && r.job == job && r.msg == msg)
    (hlink : s.pickLink src.toNat job.toNat 0 .engine = .ok (l, route)) :
    exec (.dictReassemblyTimeout src job msg) s = .next (({ s with dict := { s.dict with
      reassembly := s.dict.reassembly.filter fun r => !(r.src == src && r.job == job && r.msg == msg) } } : State).bump
        (0x1000 + l) 0x0E) := by
  change execDictReassemblyTimeout src job msg s = _
  unfold execDictReassemblyTimeout
  rw [need_true _ _ _ h, hlink]
  rfl

/-- Settles O36: fence frames, FENCE_SEND, and the segments of a dictionary message. -/
theorem fabricMessages : Obligations.FabricMessages := by
  refine ⟨?_, ?_, ?_, ?_⟩
  · rintro s s1 _ l f n v h rfl rfl rfl
    rw [exec_fenceFrame h]
    exact ⟨fun hlive hfabric hjob => congrArg _ (fabricSignal_exported _ hlive hfabric hjob),
      fun hno => congrArg _ (fabricSignal_stale _ hno)⟩
  · intro s s' r q v l route h hs hzero hzero' hval hjob hpeer hsend hlink
    exact exec_fenceSend h hs hzero hzero' hval hjob hpeer hsend hlink
  · intro s s1 l f h hnone
    refine ⟨fun htotal hseg hen => exec_dictSegment_whole h hnone htotal hseg hen, ?_⟩
    rintro _ hlo hhi hseg rfl
    exact exec_dictSegment_first h hnone hlo hhi hseg
  · intro s src job msg l route h hlink
    exact exec_dictReassemblyTimeout h hlink

end Sys2Proof.Proofs
end

section
/-! PROOFS. The dictionary writes of the host queues and of the fences (R487 to R490, R495 to R500). -/

namespace Sys2Proof.Proofs

open Sys2Proof Sys2Proof.Machine Sys2Proof.Laws

/-! ### A request that its element's work answers at once -/

/-- A served write whose work is done answers OK. -/
theorem served_done {s t : State} {q : Req} {ix el : Nat} {v : List Byte} {els : List (Nat × Nat)} {run : Nat → State → Ans × State}
    (h : s.serves q ix el v) (hm : els.contains (ix, el) = true) (hrun : run s.dict.nextId (s.beginReq q v) = done t) :
    requestOf els q v run s = .next (t.reply s.dict.nextId q kOk []) := by
  rw [requestOf_serves h hm, hrun]
  rfl

/-- A served write whose work refuses answers the refusal's code. -/
theorem served_refuse {s : State} {q : Req} {ix el : Nat} {v : List Byte} {els : List (Nat × Nat)} {run : Nat → State → Ans × State}
    {c : Code} (h : s.serves q ix el v) (hm : els.contains (ix, el) = true)
    (hrun : run s.dict.nextId (s.beginReq q v) = refuse c (s.beginReq q v)) :
    requestOf els q v run s = .next ((s.beginReq q v).reply s.dict.nextId q c []) := by
  rw [requestOf_serves h hm, hrun]
  rfl

/-- Taking a request leaves the queues of the host interface. -/
theorem beginReq_queue (s : State) (q : Req) (v : List Byte) (n : Nat) : (s.beginReq q v).queue n = s.queue n := by
  unfold State.beginReq State.takeReq State.ringHolds
  cases q.fe with
  | page p => by_cases hclean : q.clean = true <;> simp [State.queue, State.setPage, hclean]
  | _ => simp [State.queue]

/-! ### QUEUE_CREATE, QUEUE_CTL and QUEUE_DESTROY -/

/-- A queue is created at a disabled number for the slot's owner, where every field is in range (R488, R490). -/
theorem exec_queueCreate {s s' : State} {q : Req} {v : List Byte} {n : Nat} (h : s.serves q 0x1210 0 v) (hs : s' = s.beginReq q v)
    (hn : n = natAt v 0 3) (hclass : natAt v 3 1 = 1)
    (hrange : ¬ (4095 < n ∨ natAt v 4 4 ≠ 0 ∨ natAt v 9 1 ≠ 0 ∨ natAt v 26 6 ≠ 0 ∨ natAt v 48 16 ≠ 0 ∨
      (255 < natAt v 10 2 ∧ natAt v 10 2 ≠ 0xFFFF) ∨ natAt v 24 1 < 4 ∨ 15 < natAt v 24 1 ∨ natAt v 25 1 < 4 ∨ 15 < natAt v 25 1 ∨
      natAt v 16 8 % 4096 ≠ 0 ∨ natAt v 32 8 % 4096 ≠ 0 ∨ bitsOf (natAt v 40 4) 20 11 ≠ 0 ∨ 3600000 < natAt v 44 4 ∨
      natAt v 12 4 ≠ s'.owner (natAt v 8 1)))
    (hfree : (s'.queue n).phase = .disabled) (hslot : noQueues (s'.den (natAt v 8 1)) = false) :
    exec (.queueCreate q v) s = .next ((s'.setQueue n
      { phase := .active, slot := natAt v 8 1, gen := (s'.queue n).gen + 1, source := natAt v 10 2, owner := natAt v 12 4,
        sqBase := natAt v 16 8, sqLog := natAt v 24 1, cqBase := natAt v 32 8, cqLog := natAt v 25 1,
        pasid := BitVec.ofNat 32 (natAt v 40 4), waitOwl := natAt v 44 4 }).reply s.dict.nextId q kOk []) := by
  subst hs hn
  refine congrArg (occurs s) (served_done h rfl ?_)
  dsimp only [handle]
  rw [if_neg (not_not_intro hclass), if_neg hrange, if_neg (by simp [hfree, hslot])]

/-- A served write of QUEUE_CTL with a handle that names its queue does its row's own work. -/
theorem queueCtl_serves {s s' t : State} {q : Req} {v : List Byte} {n op : Nat} {run : Nat → Queue → State → Ans × State}
    (h : s.serves q 0x1210 1 v) (hs : s' = s.beginReq q v) (hn : n = natAt v 0 3) (hmax : n ≤ 4095) (hclass : natAt v 3 1 = 1)
    (hgen : natAt v 4 4 = (s'.queue n).gen.toNat) (hzero : natAt v 9 7 = 0) (hop : natAt v 8 1 = op)
    (hrun : run n (s'.queue n) s' = done t) :
    queueCtl op q v run s = .next (t.reply s.dict.nextId q kOk []) := by
  subst hs hn
  unfold queueCtl
  rw [need_true _ _ _ (by simp [hop])]
  refine served_done h rfl ?_
  dsimp only [handle]
  rw [if_neg (not_not_intro hclass), if_neg (by omega), hrun]

/-- An active queue is stopped (R488). -/
theorem exec_queueStop {s s' : State} {q : Req} {v : List Byte} {n : Nat} (h : s.serves q 0x1210 1 v) (hs : s' = s.beginReq q v)
    (hn : n = natAt v 0 3) (hmax : n ≤ 4095) (hclass : natAt v 3 1 = 1) (hgen : natAt v 4 4 = (s'.queue n).gen.toNat)
    (hzero : natAt v 9 7 = 0) (hop : natAt v 8 1 = 1) (hphase : (s'.queue n).phase = .active) :
    exec (.queueStop q v) s = .next ((s'.stopQueue n none).reply s.dict.nextId q kOk []) :=
  congrArg (occurs s) (queueCtl_serves h hs hn hmax hclass hgen hzero hop (if_neg (not_not_intro hphase)))

/-- A stopped queue of a slot that takes queues is started (R488). -/
theorem exec_queueStart {s s' : State} {q : Req} {v : List Byte} {n : Nat} (h : s.serves q 0x1210 1 v) (hs : s' = s.beginReq q v)
    (hn : n = natAt v 0 3) (hmax : n ≤ 4095) (hclass : natAt v 3 1 = 1) (hgen : natAt v 4 4 = (s'.queue n).gen.toNat)
    (hzero : natAt v 9 7 = 0) (hop : natAt v 8 1 = 2) (hphase : (s'.queue n).phase = .stopped)
    (hslot : noQueues (s'.den (s'.queue n).slot) = false) :
    exec (.queueStart q v) s = .next ((s'.setQueue n { s'.queue n with phase := .active }).reply s.dict.nextId q kOk []) :=
  congrArg (occurs s) (queueCtl_serves h hs hn hmax hclass hgen hzero hop (if_neg (by simp [hphase, hslot])))

/-- DISCARD of a stopped queue with an empty ring writes no record (R488). -/
theorem exec_queueDiscard_nil {s s' : State} {q : Req} {v : List Byte} {n : Nat} (h : s.serves q 0x1210 1 v) (hs : s' = s.beginReq q v)
    (hn : n = natAt v 0 3) (hmax : n ≤ 4095) (hclass : natAt v 3 1 = 1) (hgen : natAt v 4 4 = (s'.queue n).gen.toNat)
    (hzero : natAt v 9 7 = 0) (hop : natAt v 8 1 = 3) (hphase : (s.queue n).phase = .stopped)
    (hempty : (s.queue n).sqTail = (s.queue n).sqHead) :
    exec (.queueDiscard q v []) s =
      .next ((s'.setQueue n { s'.queue n with sqHead := (s'.queue n).sqTail }).reply s.dict.nextId q kOk []) := by
  have hphase' : (s'.queue n).phase = .stopped := by rw [hs, beginReq_queue, hphase]
  change execQueueDiscard q v [] s = _
  unfold execQueueDiscard
  dsimp only
  rw [← hn, need_true _ _ _ (by simp [hempty])]
  exact congrArg (occurs s) (queueCtl_serves h hs hn hmax hclass hgen hzero hop (if_neg (not_not_intro hphase')))

/-- A stopped queue is destroyed (R488). -/
theorem exec_queueDestroy {s s' : State} {q : Req} {v : List Byte} {n : Nat} (h : s.serves q 0x1210 2 v) (hs : s' = s.beginReq q v)
    (hn : n = natAt v 0 3) (hmax : n ≤ 4095) (hclass : natAt v 3 1 = 1) (hgen : natAt v 4 4 = (s'.queue n).gen.toNat)
    (hphase : (s'.queue n).phase = .stopped) :
    exec (.queueDestroy q v) s = .next ((s'.disableQueue n).reply s.dict.nextId q kOk []) := by
  subst hs hn
  refine congrArg (occurs s) (served_done h rfl ?_)
  dsimp only [handle]
  rw [if_neg (not_not_intro hclass), if_neg (by omega), if_neg (not_not_intro hphase)]

/-- Settles O24: each write passes the checks of its element, command by command. -/
theorem queueRequests : Obligations.QueueRequests := by
  refine ⟨?_, ?_, ?_⟩
  · intro s s' q v n h hs hn hmax hclass hgen hz1 hz2 hz3 hsource hsq hsq' hcq hcq' hsb hcb hpasid howl howner hfree hslot
    exact exec_queueCreate h hs hn hclass (by omega) hfree hslot
  · intro s s' q v n h hs hn hmax hclass hgen hzero
    exact ⟨exec_queueStop h hs hn hmax hclass hgen hzero, exec_queueStart h hs hn hmax hclass hgen hzero,
      exec_queueDiscard_nil h hs hn hmax hclass hgen hzero⟩
  · intro s s' q v n h hs hn hmax hclass hgen hphase
    exact exec_queueDestroy h hs hn hmax hclass hgen hphase

/-! ### The four dictionary writes of fences -/

/-- A fence slot that is FREE becomes a fence (R495, R500). -/
theorem exec_fenCreate {s s' : State} {q : Req} {v : List Byte} {n : Nat} (h : s.serves q 0x1220 0 v) (hs : s' = s.beginReq q v)
    (hn : n = natAt v 0 3) (hclass : natAt v 3 1 = 2)
    (hrange : ¬ (65535 < n ∨ natAt v 4 4 ≠ 0 ∨ natAt v 12 4 ≠ 0 ∨ 2 ^ 40 ≤ natAt v 16 8)) (hfree : (s'.fence n).live = false) :
    exec (.fenCreate q v) s = .next ((s'.setFence n
      { live := true, value := BitVec.ofNat 40 (natAt v 16 8), creator := natAt v 8 4, refs := [natAt v 8 4],
        gen := (s'.fence n).gen + 1 }).reply s.dict.nextId q kOk []) := by
  subst hs hn
  refine congrArg (occurs s) (served_done h rfl ?_)
  dsimp only [handle]
  rw [if_neg (not_not_intro hclass), if_neg hrange, if_neg (by simp [hfree])]

/-- A live fence with room takes a further reference (R500). -/
theorem exec_fenRef {s s' : State} {q : Req} {v : List Byte} {n : Nat} (h : s.serves q 0x1220 1 v) (hs : s' = s.beginReq q v)
    (hname : s'.fenceNamed v = .ok n) (hzero : natAt v 12 4 = 0) (hlive : (s'.fence n).live) (hleft : (s'.fence n).abandoned = false)
    (hroom : (s'.fence n).refs.length + (s'.fence n).waiters.length < 255) :
    exec (.fenRef q v) s =
      .next ((s'.setFence n { s'.fence n with refs := (s'.fence n).refs ++ [natAt v 8 4] }).reply s.dict.nextId q kOk []) := by
  subst hs
  refine congrArg (occurs s) (served_done h rfl ?_)
  dsimp only
  rw [hname]
  dsimp only
  rw [if_neg (not_not_intro hzero), if_neg (by simp [hlive, hleft]), if_neg (by omega)]

/-- A reference that the fence has is released, and with its last reference and waiter the fence returns to FREE (R500). -/
theorem exec_fenUnref {s s' : State} {q : Req} {v : List Byte} {n : Nat} (h : s.serves q 0x1220 2 v) (hs : s' = s.beginReq q v)
    (hname : s'.fenceNamed v = .ok n) (hzero : natAt v 12 4 = 0) (hheld : (s'.fence n).refs.contains (natAt v 8 4)) :
    exec (.fenUnref q v) s =
      .next ((s'.setFence n ({ s'.fence n with refs := (s'.fence n).refs.erase (natAt v 8 4) }).settle).reply
        s.dict.nextId q kOk []) := by
  subst hs
  refine congrArg (occurs s) (served_done h rfl ?_)
  dsimp only
  rw [hname]
  dsimp only
  rw [hheld, if_neg (by simp [hzero])]

/-- A live fence is exported to PCI Express and to the fabric as the flags say (R500). -/
theorem exec_fenExport {s s' : State} {q : Req} {v : List Byte} {n : Nat} (h : s.serves q 0x1220 3 v) (hs : s' = s.beginReq q v)
    (hname : s'.fenceNamed v = .ok n) (hflags : natAt v 8 1 ≤ 3) (hzero : natAt v 9 3 = 0) (hlive : (s'.fence n).live) :
    exec (.fenExport q v) s = .next ((s'.setFence n { s'.fence n with
      pci := (natAt v 8 1).testBit 0, fabric := (natAt v 8 1).testBit 1, job := BitVec.ofNat 32 (natAt v 12 4) }).reply
        s.dict.nextId q kOk []) := by
  subst hs
  refine congrArg (occurs s) (served_done h rfl ?_)
  dsimp only
  rw [hname]
  dsimp only
  rw [if_neg (by omega), if_neg (by simp [hlive])]

/-- A handle of another class names no fence (R440). -/
theorem fenceNamed_type {s : State} {v : List Byte} (h : natAt v 3 1 ≠ 2) : s.fenceNamed v = .error kType := if_pos h

/-- Each of the four writes answers TYPE to a handle of another class (R440, R500). -/
theorem exec_fence_type {s : State} {q : Req} {v : List Byte} {cmd : Req → List Byte → Instr} {el : Nat}
    (hcmd : (cmd, el) ∈ [(Instr.fenCreate, 0), (.fenRef, 1), (.fenUnref, 2), (.fenExport, 3)]) (h : s.serves q 0x1220 el v)
    (htype : natAt v 3 1 ≠ 2) : exec (cmd q v) s = .next ((s.beginReq q v).reply s.dict.nextId q kType []) := by
  have hnone := fenceNamed_type (s := s.beginReq q v) htype
  simp only [List.mem_cons, Prod.mk.injEq, List.not_mem_nil, or_false] at hcmd
  obtain ⟨rfl, rfl⟩ | ⟨rfl, rfl⟩ | ⟨rfl, rfl⟩ | ⟨rfl, rfl⟩ := hcmd
  · exact congrArg (occurs s) (served_refuse h rfl (if_pos htype))
  · exact congrArg (occurs s) (served_refuse h rfl (by dsimp only; rw [hnone]))
  · exact congrArg (occurs s) (served_refuse h rfl (by dsimp only; rw [hnone]))
  · exact congrArg (occurs s) (served_refuse h rfl (by dsimp only; rw [hnone]))

/-! ### Signals at a fence -/

@[simp] theorem setQueue_fence (s : State) (q f : Nat) (x : Queue) : (s.setQueue q x).fence f = s.fence f := rfl
@[simp] theorem setFence_queue (s : State) (f q : Nat) (x : Fence) : (s.setFence f x).queue q = s.queue q := rfl

/-- A wait that is satisfied changes its queue's entry, and no fence (R492). -/
@[simp] theorem waitDone_fence (s : State) (q f : Nat) : (s.waitDone q).fence f = s.fence f := by
  unfold State.waitDone State.endEntry State.setCur
  split
  · split <;> rw [setQueue_fence]
  · rfl

@[simp] theorem foldl_waitDone_fence (l : List Nat) (s : State) (f : Nat) : (l.foldl State.waitDone s).fence f = s.fence f := by
  induction l generalizing s with
  | nil => rfl
  | cons q l ih => rw [List.foldl_cons, ih, waitDone_fence]

/-- A fence that stays live when its last waiter or reference goes is as it was. -/
theorem settle_live {x : Fence} (h : x.settle.live = true) : x.settle = x := by
  unfold Fence.settle at h ⊢
  split
  · rename_i hfree
    rw [if_pos hfree] at h
    cases h
  · rfl

/-- Where the waits that its value satisfies leave a fence and it stays live, its value and its count of stale signals stay (R497). -/
theorem wakeWaits_live {s : State} {f : Nat} (h : ((s.wakeWaits f).fence f).live = true) :
    ((s.wakeWaits f).fence f).value = (s.fence f).value ∧ ((s.wakeWaits f).fence f).stale = (s.fence f).stale := by
  unfold State.wakeWaits at h ⊢
  simp only [foldl_waitDone_fence, setFence_fence, if_pos] at h ⊢
  rw [settle_live h]
  exact ⟨rfl, rfl⟩

/-- A signal that advances the value of a fence that is neither FREE nor ABANDONED is applied (R496). -/
theorem signalFence_applied {s : State} {f v d : Nat} (hd : d = (v + 2 ^ 40 - (s.fence f).value.toNat) % 2 ^ 40) (hv : v < 2 ^ 40)
    (hlive : (s.fence f).live = true) (hleft : (s.fence f).abandoned = false) (hlo : 1 ≤ d) (hhi : d < 2 ^ 39) :
    s.signalFence f v true = (s.setFence f { s.fence f with value := BitVec.ofNat 40 v }).wakeWaits f := by
  unfold State.signalFence
  dsimp only
  rw [← hd]
  exact if_pos (by simp only [hlive, hleft, decide_eq_true hv, decide_eq_true hlo, decide_eq_true hhi]; rfl)

/-- A signal that is not 64 bits wide, has an upper bit, finds no fence, or does not advance the value is counted stale (R496). -/
theorem signalFence_stale {s : State} {f v d : Nat} {wide : Bool} (hd : d = (v + 2 ^ 40 - (s.fence f).value.toNat) % 2 ^ 40)
    (h : wide = false ∨ 2 ^ 40 ≤ v ∨ (s.fence f).live = false ∨ (s.fence f).abandoned = true ∨ d = 0 ∨ 2 ^ 39 ≤ d) :
    s.signalFence f v wide = s.setFence f { s.fence f with stale := bvInc (s.fence f).stale } := by
  unfold State.signalFence
  dsimp only
  rw [← hd]
  refine if_neg ?_
  simp only [Bool.and_eq_true, Bool.not_eq_true', decide_eq_true_eq]
  rintro ⟨⟨⟨⟨⟨hwide, hv⟩, hlive⟩, hleft⟩, hlo⟩, hhi⟩
  obtain hno | hno | hno | hno | hno | hno := h
  · exact absurd hwide (by simp [hno])
  · omega
  · exact absurd hlive (by simp [hno])
  · exact absurd hno (by simp [hleft])
  · omega
  · omega

/-- A fence that a signal reaches and that stays live has the signal's value (R496). -/
theorem signalFence_value {s : State} {f v d : Nat} (hd : d = (v + 2 ^ 40 - (s.fence f).value.toNat) % 2 ^ 40) (hv : v < 2 ^ 40)
    (hlive : (s.fence f).live = true) (hleft : (s.fence f).abandoned = false) (hlo : 1 ≤ d) (hhi : d < 2 ^ 39)
    (hstays : ((s.signalFence f v true).fence f).live = true) :
    ((s.signalFence f v true).fence f).value.toNat = v ∧ ((s.signalFence f v true).fence f).stale = (s.fence f).stale := by
  rw [signalFence_applied hd hv hlive hleft hlo hhi] at hstays ⊢
  obtain ⟨hvalue, hstale⟩ := wakeWaits_live hstays
  rw [hvalue, hstale, setFence_fence, if_pos rfl]
  exact ⟨Nat.mod_eq_of_lt hv, rfl⟩

/-- Settles O23: a signal by whether it advances the value, and the four writes by the checks of their elements. -/
theorem fences : Obligations.Fences := by
  refine ⟨?_, ?_, ?_, ?_, ?_, ?_⟩
  · intro s f v wide d hd
    refine ⟨?_, fun hstale => congrArg _ (signalFence_stale hd hstale), fun hpci => ?_, fun hpci => ?_⟩
    · rintro rfl hv hlive hleft hlo hhi
      exact ⟨_, rfl, signalFence_value hd hv hlive hleft hlo (by omega)⟩
    · change execFenSignalAlias f v wide s = _
      rw [execFenSignalAlias, hpci, Bool.and_true, occurs_next]
    · change execFenSignalAlias f v wide s = _
      rw [execFenSignalAlias, hpci, Bool.and_false, occurs_next, signalFence_stale hd (.inl rfl)]
  · intro s s' q v n h hs hn hmax hclass hz1 hz2 hval hfree
    exact exec_fenCreate h hs hn hclass (by omega) hfree
  · intro s s' q v n h hs hname hzero hlive hleft hroom
    exact exec_fenRef h hs hname hzero hlive hleft hroom
  · intro s s' q v n h hs hname hzero hheld
    exact exec_fenUnref h hs hname hzero hheld
  · intro s s' q v n h hs hname hflags hzero hlive
    exact exec_fenExport h hs hname hflags hzero hlive
  · rintro s _ q v cmd el hcmd h rfl htype
    exact exec_fence_type hcmd h htype

end Sys2Proof.Proofs
end

section
/-! PROOFS. Doorbells, submission entries, waits and completion records (R485, R486, R491 to R497). -/

namespace Sys2Proof.Proofs

open Sys2Proof Sys2Proof.Machine Sys2Proof.Laws

/-! ### Doorbells -/

/-- A pointer does not move to a place outside its ring. -/
theorem ringMove_outside {n a b room : Nat} (h : n ≤ b) : ringMove n a b room = false := by
  simp [ringMove, h]

/-- A doorbell that moves its queue's pointer sets the queue. -/
theorem doorbell_moves {s : State} {page v : Nat} {kindOk : Bool} {move : Queue → Nat → Option Queue} {x : Queue} (hkind : kindOk = true)
    (hphase : (s.queue (v % 4096)).phase ≠ .disabled) (hslot : (s.queue (v % 4096)).slot = page)
    (hmove : move (s.queue (v % 4096)) (v / 2 ^ 16) = some x) : doorbell page v kindOk move s = s.setQueue (v % 4096) x := by
  unfold doorbell
  dsimp only
  rw [if_neg (by simp [hphase, hslot, hkind]), hmove]

/-- A doorbell whose pointer would pass its opposite is counted, and stops its queue. -/
theorem doorbell_stops {s : State} {page v : Nat} {kindOk : Bool} {move : Queue → Nat → Option Queue} (hkind : kindOk = true)
    (hphase : (s.queue (v % 4096)).phase ≠ .disabled) (hslot : (s.queue (v % 4096)).slot = page)
    (hmove : move (s.queue (v % 4096)) (v / 2 ^ 16) = none) :
    doorbell page v kindOk move s = (s.bump 0x1200 2).stopQueue (v % 4096) (some kRange) := by
  unfold doorbell
  dsimp only
  rw [if_neg (by simp [hphase, hslot, hkind]), hmove]
  rfl

/-- A submission doorbell moves the tail, or stops its queue where the tail would leave the ring (R485, R486). -/
theorem exec_submissionDoorbell {s : State} {page : SlotIx} {v : BitVec 32} {q i : Nat} (hq : q = v.toNat % 4096)
    (hi : i = v.toNat / 2 ^ 16) (hkind : bitsOf v.toNat 12 4 = 0) (hphase : (s.queue q).phase ≠ .disabled)
    (hslot : (s.queue q).slot = page.val) :
    (ringMove (2 ^ (s.queue q).sqLog) (s.queue q).sqTail i
        (((s.queue q).sqHead + 2 ^ (s.queue q).sqLog - (s.queue q).sqTail + 2 ^ (s.queue q).sqLog - 1) % 2 ^ (s.queue q).sqLog) = true →
      exec (.submissionDoorbell page v) s = .next (s.setQueue q { s.queue q with sqTail := i })) ∧
    (2 ^ (s.queue q).sqLog ≤ i → exec (.submissionDoorbell page v) s = .next ((s.bump 0x1200 2).stopQueue q (some kRange))) := by
  subst hq hi
  change (_ → execSubmissionDoorbell page v s = _) ∧ (_ → execSubmissionDoorbell page v s = _)
  unfold execSubmissionDoorbell
  dsimp only
  rw [need_true _ _ _ (by simp [hkind]), occurs_next]
  exact ⟨fun hmove => congrArg _ (doorbell_moves (by simp [hkind]) hphase hslot (if_pos hmove)),
    fun hout => congrArg _ (doorbell_stops (by simp [hkind]) hphase hslot (if_neg (by rw [ringMove_outside hout]; decide)))⟩

/-- A completion doorbell moves the head, or stops its queue where the head would leave the ring (R485, R486). -/
theorem exec_completionDoorbell {s : State} {page : SlotIx} {v : BitVec 32} {q i : Nat} (hq : q = v.toNat % 4096)
    (hi : i = v.toNat / 2 ^ 16) (hkind : bitsOf v.toNat 12 4 = 1) (hphase : (s.queue q).phase ≠ .disabled)
    (hslot : (s.queue q).slot = page.val) :
    (ringMove (2 ^ (s.queue q).cqLog) (s.queue q).cqHead i
        (((s.queue q).cqTail + 2 ^ (s.queue q).cqLog - (s.queue q).cqHead) % 2 ^ (s.queue q).cqLog) = true →
      exec (.completionDoorbell page v) s = .next (s.setQueue q { s.queue q with cqHead := i })) ∧
    (2 ^ (s.queue q).cqLog ≤ i → exec (.completionDoorbell page v) s = .next ((s.bump 0x1200 2).stopQueue q (some kRange))) := by
  subst hq hi
  change (_ → execCompletionDoorbell page v s = _) ∧ (_ → execCompletionDoorbell page v s = _)
  unfold execCompletionDoorbell
  rw [need_true _ _ _ (by simp [hkind]), occurs_next]
  exact ⟨fun hmove => congrArg _ (doorbell_moves rfl hphase hslot (if_pos hmove)),
    fun hout => congrArg _ (doorbell_stops rfl hphase hslot (if_neg (by rw [ringMove_outside hout]; decide)))⟩

/-! ### Submission entries -/

@[simp] theorem emit_queue (s : State) (x : Sent) (q : Nat) : (s.emit x).queue q = s.queue q := rfl
@[simp] theorem emit_fence (s : State) (x : Sent) (f : Nat) : (s.emit x).fence f = s.fence f := rfl

/-- A queue's entry that changes its phase changes nothing else of its queue, and no other queue. -/
theorem setCur_queue (s : State) (q r : Nat) (p : CurPhase) : (s.setCur q p).queue r =
    if r = q then { s.queue q with cur := (s.queue q).cur.map fun c => { c with phase := p } } else s.queue r :=
  setQueue_queue s q r _

/-- The entry that a queue takes, before it waits. -/
def takenCur (bs : List Byte) (index : Nat) : Cur := { entry := parseEntry bs, index := index, batch := [], phase := .waiting }

/-- The state in which a queue has taken the entry at its head and has read its bytes (R491). -/
def entryTaken (s : State) (q : Nat) (bs : List Byte) : State :=
  (s.setQueue q { s.queue q with
    sqHead := ((s.queue q).sqHead + 1) % 2 ^ (s.queue q).sqLog, cur := some (takenCur bs (s.queue q).sqHead) }).emit
      (.hostRead (s.queue q).ringPasid ((s.queue q).sqBase + 64 * (s.queue q).sqHead) 64 false)

/-- The queue that has taken an entry: its head has moved. -/
theorem entryTaken_queue (s : State) (q : Nat) (bs : List Byte) : (entryTaken s q bs).queue q = { s.queue q with
    sqHead := ((s.queue q).sqHead + 1) % 2 ^ (s.queue q).sqLog, cur := some (takenCur bs (s.queue q).sqHead) } :=
  (setQueue_queue s q q _).trans (if_pos rfl)

@[simp] theorem entryTaken_fence (s : State) (q f : Nat) (bs : List Byte) : (entryTaken s q bs).fence f = s.fence f := rfl
@[simp] theorem entryTaken_den (s : State) (q n : Nat) (bs : List Byte) : (entryTaken s q bs).den n = s.den n := rfl

/-- A valid entry without a batch list goes on to its wait (R492). -/
theorem takeEntry_valid {s : State} {q : Nat} {bs : List Byte} (batch : HostRead) (hvalid : (parseEntry bs).valid)
    (hben : (parseEntry bs).ben = false) : s.takeEntry q (some bs) batch = (entryTaken s q bs).entryWait q (parseEntry bs) := by
  unfold State.takeEntry
  extract_lets x e c taken read
  have he : e = parseEntry bs := rfl
  rw [if_neg (by simp), if_neg (by rw [he, hvalid]; decide), if_neg (by rw [he, hben]; decide)]
  rfl

/-- An entry that waits for no fence goes on (R492). -/
theorem entryWait_free {s : State} {q : Nat} {e : Entry} (h : e.wen = false) : s.entryWait q e = s.waitDone q :=
  if_pos (by simp [h])

/-- An entry whose fence has not come joins the fence's waiters (R497). -/
theorem entryWait_waits {s : State} {q : Nat} {e : Entry} (h : e.wen) (hlive : (s.fence e.wfen).live)
    (hleft : (s.fence e.wfen).abandoned = false) (hmet : waitMet (s.fence e.wfen).value.toNat e.w1 = false)
    (hroom : (s.fence e.wfen).refs.length + (s.fence e.wfen).waiters.length < 255) :
    s.entryWait q e = s.setFence e.wfen { s.fence e.wfen with waiters := (s.fence e.wfen).waiters ++ [q] } := by
  unfold State.entryWait
  dsimp only
  rw [if_neg (by simp [h]), if_neg (by simp [hlive]), if_neg (by simp [hmet]), if_neg (by simp [hleft]), if_neg (by omega)]

/-- Past its wait, a STEP entry is ready for its slot (R492). -/
theorem waitDone_step {s : State} {q : Nat} {c : Cur} (hcur : (s.queue q).cur = some c) (hop : c.entry.op ≠ 2) :
    s.waitDone q = s.setCur q .ready := by
  unfold State.waitDone
  rw [hcur]
  exact if_neg hop

/-- Past its wait, a FENCE entry completes (R492). -/
theorem waitDone_fenceEntry {s : State} {q : Nat} {c : Cur} (hcur : (s.queue q).cur = some c) (hop : c.entry.op = 2) :
    s.waitDone q = s.endEntry q 0 := by
  unfold State.waitDone
  rw [hcur]
  exact if_pos hop

/-- STEP takes a valid entry that is not a FENCE entry (R491, R492). -/
theorem exec_step_takes {s : State} {q : QIx} {bs : List Byte} (htakes : s.takesEntry q.val) (hlen : bs.length = 64)
    (hvalid : (parseEntry bs).valid) (hben : (parseEntry bs).ben = false) (hop : (parseEntry bs).op = 1) :
    exec (.step q (.data bs) .refused) s = .next ((entryTaken s q.val bs).entryWait q.val (parseEntry bs)) := by
  change execStep q (.data bs) .refused s = _
  unfold execStep
  rw [need_true _ _ _ htakes, need_true _ _ _ (by simp [entryFits, hlen])]
  dsimp only
  rw [need_true _ _ _ (by simp [hop]), occurs_next, takeEntry_valid _ hvalid hben]

/-- A STEP entry that waits for nothing is ready (R492). -/
theorem exec_step_ready {s : State} {q : QIx} {bs : List Byte} (htakes : s.takesEntry q.val) (hlen : bs.length = 64)
    (hvalid : (parseEntry bs).valid) (hben : (parseEntry bs).ben = false) (hop : (parseEntry bs).op = 1)
    (hwen : (parseEntry bs).wen = false) : Completes (exec (.step q (.data bs) .refused) s) fun r =>
      (r.queue q.val).cur = some { entry := parseEntry bs, index := (s.queue q.val).sqHead, batch := [], phase := .ready } ∧
      (r.queue q.val).sqHead = ((s.queue q.val).sqHead + 1) % 2 ^ (s.queue q.val).sqLog := by
  have hcur : ((entryTaken s q.val bs).queue q.val).cur = some (takenCur bs (s.queue q.val).sqHead) := by rw [entryTaken_queue]
  refine ⟨_, exec_step_takes htakes hlen hvalid hben hop, ?_⟩
  beta_reduce
  rw [entryWait_free hwen, waitDone_step hcur (by simp [takenCur, hop]), setCur_queue, if_pos rfl, entryTaken_queue]
  exact ⟨rfl, rfl⟩

/-- A STEP entry whose fence has not come waits on it (R492, R497). -/
theorem exec_step_waits {s : State} {q : QIx} {bs : List Byte} (htakes : s.takesEntry q.val) (hlen : bs.length = 64)
    (hvalid : (parseEntry bs).valid) (hben : (parseEntry bs).ben = false) (hop : (parseEntry bs).op = 1)
    (hwen : (parseEntry bs).wen) (hlive : (s.fence (parseEntry bs).wfen).live) (hleft : (s.fence (parseEntry bs).wfen).abandoned = false)
    (hmet : waitMet (s.fence (parseEntry bs).wfen).value.toNat (parseEntry bs).w1 = false)
    (hroom : (s.fence (parseEntry bs).wfen).refs.length + (s.fence (parseEntry bs).wfen).waiters.length < 255) :
    Completes (exec (.step q (.data bs) .refused) s) fun r =>
      (r.queue q.val).cur = some { entry := parseEntry bs, index := (s.queue q.val).sqHead, batch := [], phase := .waiting } ∧
      (r.fence (parseEntry bs).wfen).waiters = (s.fence (parseEntry bs).wfen).waiters ++ [q.val] := by
  refine ⟨_, exec_step_takes htakes hlen hvalid hben hop, ?_⟩
  beta_reduce
  rw [entryWait_waits (s := entryTaken s q.val bs) hwen hlive hleft hmet hroom, setFence_queue, entryTaken_queue, setFence_fence, if_pos rfl]
  exact ⟨rfl, rfl⟩

/-- A FENCE entry that waits for nothing completes (R492). -/
theorem exec_fenceEntry_done {s : State} {q : QIx} {bs : List Byte} (htakes : s.takesEntry q.val) (hlen : bs.length = 64)
    (hvalid : (parseEntry bs).valid) (hop : (parseEntry bs).op = 2) (hwen : (parseEntry bs).wen = false) :
    Completes (exec (.fenceEntry q (.data bs)) s) fun r => (r.queue q.val).cur = some
      { entry := parseEntry bs, index := (s.queue q.val).sqHead, batch := [],
        phase := .done kOk 0 0 0 (s.den (s.queue q.val).slot).stepCount } := by
  have hben : (parseEntry bs).ben = false := by
    simp only [Entry.valid, hop, Bool.and_eq_true, Bool.or_eq_true, Bool.not_eq_true'] at hvalid
    obtain ⟨-, hone | ⟨⟨-, hben⟩, -⟩⟩ := hvalid
    · cases hone
    · exact hben
  have hcur : ((entryTaken s q.val bs).queue q.val).cur = some (takenCur bs (s.queue q.val).sqHead) := by rw [entryTaken_queue]
  change Completes (execFenceEntry q (.data bs) s) _
  unfold execFenceEntry
  rw [need_true _ _ _ htakes]
  dsimp only
  rw [need_true _ _ _ (by simp [hlen]), need_true _ _ _ (by simp [hop]), occurs_next, takeEntry_valid _ hvalid hben,
    entryWait_free hwen, waitDone_fenceEntry hcur (by simp [takenCur, hop])]
  refine ⟨_, rfl, ?_⟩
  beta_reduce
  rw [State.endEntry, setCur_queue, if_pos rfl, entryTaken_queue]
  rfl

/-! ### Waits that run out -/

/-- An entry that stops waiting leaves its queue as it is, and every den. -/
theorem dropWait_queue (s : State) (q r : Nat) : (s.dropWait q).queue r = s.queue r := by
  unfold State.dropWait
  split
  · split <;> rfl
  · rfl

/-- A wait that runs out ends its entry with TIMEOUT (R490, R492). -/
theorem exec_waitOwlExpiry {s : State} {q : QIx} {c : Cur} (hcur : (s.queue q.val).cur = some c) (hphase : c.phase = .waiting)
    (howl : (s.queue q.val).waitOwl ≠ 0) : Completes (exec (.waitOwlExpiry q) s) fun r => (r.queue q.val).cur =
      some { c with phase := .done kTimeout 0 0 0 (s.den (s.queue q.val).slot).stepCount } := by
  change Completes (execWaitOwlExpiry q s) _
  unfold execWaitOwlExpiry
  dsimp only
  rw [needSome_some hcur, need_true _ _ _ (by simp [hphase, howl]), occurs_next]
  refine ⟨_, rfl, ?_⟩
  beta_reduce
  rw [State.endEntry, setCur_queue, if_pos rfl, dropWait_queue, hcur]
  simp [State.den]

/-! ### Completion records -/

/-- A satisfied wait changes no queue that has taken no entry. -/
theorem waitDone_idle {s : State} {r : Nat} (h : (s.queue r).cur = none) (q : Nat) : (s.waitDone q).queue r = s.queue r := by
  unfold State.waitDone
  split
  · rename_i c hcur
    have hother : r ≠ q := by
      rintro rfl
      rw [h] at hcur
      cases hcur
    unfold State.endEntry
    split <;> rw [setCur_queue, if_neg hother]
  · rfl

theorem foldl_waitDone_idle {r : Nat} (l : List Nat) {s : State} (h : (s.queue r).cur = none) :
    (l.foldl State.waitDone s).queue r = s.queue r := by
  induction l generalizing s with
  | nil => rfl
  | cons q l ih =>
    have hsame := waitDone_idle h q
    rw [List.foldl_cons, ih (by rw [hsame, h]), hsame]

/-- A signal changes no queue that has taken no entry. -/
theorem signalFence_idle {s : State} {r : Nat} (h : (s.queue r).cur = none) (f v : Nat) (wide : Bool) :
    (s.signalFence f v wide).queue r = s.queue r := by
  unfold State.signalFence State.wakeWaits
  dsimp only
  split
  · exact foldl_waitDone_idle _ (s := State.setFence _ f _) h
  · rfl

/-- A queue that has taken no entry stops as it stands (R488, R493). -/
theorem stopQueue_idle {s : State} {q : Nat} (h : (s.queue q).cur = none) (st : Code) :
    s.stopQueue q (some st) = s.setQueue q { s.queue q with phase := .stopped, lastStatus := st } := by
  have hkeep : s.untake q = s := by
    unfold State.untake
    rw [h]
  unfold State.stopQueue
  dsimp only
  rw [hkeep]
  rfl

/-- A state in which a queue's record has been written (R493): the fence that its entry names is signalled, and its interrupt raised. -/
def recordTold (s : State) (st : Code) (c : Cur) (source : Nat) : State :=
  let t := if st = kOk ∧ c.entry.sen then s.signalFence c.entry.sfen c.entry.w2 else s
  if !c.entry.noirq && source != 0xFFFF then t.raise (258 + source) else t

/-- Telling of a record sends nothing and changes no queue that has taken no entry. -/
theorem recordTold_idle {s : State} {q : Nat} (h : (s.queue q).cur = none) (st : Code) (c : Cur) (source : Nat) :
    (recordTold s st c source).queue q = s.queue q ∧ (recordTold s st c source).outbox = s.outbox := by
  have hsignal : (if st = kOk ∧ c.entry.sen then s.signalFence c.entry.sfen c.entry.w2 else s).queue q = s.queue q ∧
      (if st = kOk ∧ c.entry.sen then s.signalFence c.entry.sfen c.entry.w2 else s).outbox = s.outbox := by
    split
    · exact ⟨signalFence_idle h _ _ _, by simp⟩
    · exact ⟨rfl, rfl⟩
  unfold recordTold
  dsimp only
  split
  · exact hsignal
  · exact hsignal

/-- The queue after its record: its tail has moved, and it holds no entry. -/
def recordedQueue (x : Queue) : Queue :=
  { x with cur := none, cqTail := (x.cqTail + 1) % 2 ^ x.cqLog, first := if (x.cqTail + 1) % 2 ^ x.cqLog = 0 then !x.first else x.first }

/-- The state in which a queue's record has left for host memory, before anyone is told of it. -/
def recordWritten (s : State) (q : Nat) (c : Cur) : State :=
  (s.setQueue q (recordedQueue (s.queue q))).emit (.hostWrite (s.queue q).ringPasid
    ((s.queue q).cqBase + 32 * (s.queue q).cqTail) (recordBytes (s.queue q).first c).2 false)

/-- A queue whose record is written holds no entry. -/
theorem recordWritten_queue (s : State) (q : Nat) (c : Cur) : (recordWritten s q c).queue q = recordedQueue (s.queue q) :=
  (setQueue_queue s q q _).trans (if_pos rfl)

/-- The record of an entry that has ended is written where the ring has room, and its queue goes on, or stops with its status
(R493, R494). -/
theorem exec_completionRecordWrite {s : State} {q : QIx} {c : Cur} {st badCode : Code} {flags : BitVec 16} {badIx t : Nat}
    {steps : BitVec 64} (hcur : (s.queue q.val).cur = some c) (hphase : c.phase = .done st flags badIx badCode steps)
    (ht : t = ((s.queue q.val).cqTail + 1) % 2 ^ (s.queue q.val).cqLog) (hroom : t ≠ (s.queue q.val).cqHead) :
    Completes (exec (.completionRecordWrite q) s) fun r => (r.queue q.val).cur = none ∧ (r.queue q.val).cqTail = t ∧
      r.outbox = .hostWrite (s.queue q.val).ringPasid ((s.queue q.val).cqBase + 32 * (s.queue q.val).cqTail)
        (recordBytes (s.queue q.val).first c).2 false :: s.outbox ∧
      (st = kOk → (r.queue q.val).phase = (s.queue q.val).phase) ∧
      (st ≠ kOk → (r.queue q.val).phase = .stopped ∧ (r.queue q.val).lastStatus = st) := by
  have hqueue := recordWritten_queue s q.val c
  have hnone : ((recordWritten s q.val c).queue q.val).cur = none := by rw [hqueue]; rfl
  obtain ⟨htold, hsent⟩ := recordTold_idle hnone st c (s.queue q.val).source
  have hnext : (s.queue q.val).nextRecord = some (c, { s.queue q.val with cur := none }) := by
    unfold Queue.nextRecord
    rw [hcur]
    dsimp only
    rw [hphase]
  have hstatus : (recordBytes (s.queue q.val).first c).1 = st := by
    unfold recordBytes
    rw [hphase]
  have hexec : exec (.completionRecordWrite q) s = .next (if st = kOk then recordTold (recordWritten s q.val c) st c (s.queue q.val).source
      else (recordTold (recordWritten s q.val c) st c (s.queue q.val).source).stopQueue q.val (some st)) := by
    change execCompletionRecordWrite q s = _
    unfold execCompletionRecordWrite
    dsimp only
    rw [needSome_some hnext]
    dsimp only
    rw [need_true _ _ _ (by rw [← ht]; simpa using hroom), occurs_next, hstatus]
    rfl
  refine ⟨_, hexec, ?_⟩
  beta_reduce
  by_cases hok : st = kOk
  · rw [if_pos hok, htold, hqueue, hsent, ht]
    exact ⟨rfl, rfl, rfl, fun _ => rfl, fun hbad => absurd hok hbad⟩
  · rw [if_neg hok, stopQueue_idle (by rw [htold, hnone]), setQueue_queue, if_pos rfl, htold, hqueue, ht]
    exact ⟨rfl, rfl, hsent, fun hyes => absurd hyes hok, fun _ => ⟨rfl, rfl⟩⟩

/-- Settles O22: doorbells, then entries as they are taken, then waits and records. -/
theorem hostQueues : Obligations.HostQueues := by
  refine ⟨?_, ?_, ?_, ?_, ?_, ?_⟩
  · intro s page v q i hq hi hkind hphase hslot
    exact exec_submissionDoorbell hq hi hkind hphase hslot
  · intro s page v q i hq hi hkind hphase hslot
    exact exec_completionDoorbell hq hi hkind hphase hslot
  · intro s q bs htakes hlen hvalid hben hop
    exact ⟨exec_step_ready htakes hlen hvalid hben hop, exec_step_waits htakes hlen hvalid hben hop⟩
  · intro s q bs htakes hlen hvalid hop hwen
    exact exec_fenceEntry_done htakes hlen hvalid hop hwen
  · intro s q c hcur hphase howl
    exact exec_waitOwlExpiry hcur hphase howl
  · intro s q c st badCode flags badIx t steps hcur hphase ht hroom
    exact exec_completionRecordWrite hcur hphase ht hroom

end Sys2Proof.Proofs
end

section
/-! PROOFS. The tamper response, SPDM sessions, IDE keys and TDISP (R483, R600 to R604, R612, R613). -/

namespace Sys2Proof.Proofs

open Sys2Proof Sys2Proof.Machine Sys2Proof.Laws

/-! ### Sessions that end -/

/-- The end of a session changes, of what the trust holds, the sessions alone (R600, R602). -/
theorem endSession_trust (s : State) (id : Nat) :
    (s.endSession id).trust = { s.trust with sessions := s.trust.sessions.filter (·.id != id) } := rfl

/-- The end of several sessions leaves the others. -/
theorem foldl_endSession_trust (ids : List Nat) (s : State) :
    (ids.foldl State.endSession s).trust = { s.trust with sessions := s.trust.sessions.filter fun x => !ids.contains x.id } := by
  induction ids generalizing s with
  | nil => simp
  | cons id ids ih =>
    rw [List.foldl_cons, ih, endSession_trust]
    simp [List.filter_filter, Bool.and_comm, bne, beq_eq_decide]

/-- With the secure SRAM go the key `alias_` and every session, and nothing else that the trust holds (R610, R613). -/
theorem wipeSram_trust (s : State) : s.wipeSram.trust = { s.trust with alias_ := none, sessions := [] } := by
  unfold State.wipeSram
  rw [foldl_endSession_trust]
  simp only [Trust.mk.injEq, true_and, and_true]
  exact List.filter_eq_nil_iff.mpr fun x hx => by simpa using ⟨x, hx, rfl⟩

/-! ### Tamper -/

/-- A tamper event destroys the keys and owes a chip reset (R611, R612). -/
theorem exec_tamperEvent {s : State} {ev : Fin 5} {half : Fin 3} {ms : BitVec 32} (haon : s.aonRuns) (hfirst : s.trust.tampered = false)
    (hlife : ev.val ≠ 4 ∨ s.lifecycle = 1 ∨ s.lifecycle = 2 ∨ s.lifecycle = 4) :
    Completes (exec (.tamperEvent ev half ms) s) fun r => r.trust.tampered = true ∧ r.trust.vault = none ∧ r.trust.alias_ = none ∧
      r.trust.sessions = [] ∧ r.trust.ide = [] ∧ r.chip.due = some kTamper := by
  change Completes (execTamperEvent ev half ms s) _
  unfold execTamperEvent
  dsimp only
  rw [need_true _ _ _ (by simp [haon, hfirst]), need_true _ _ _ (by simpa [or_assoc] using hlife), occurs_next]
  exact ⟨_, rfl, by simp [wipeSram_trust]⟩

/-! ### Requests outside a session -/

/-- The responder of a module that is not scrapped answers measurements with a signature (R600). -/
theorem exec_getMeasurements {s : State} {tr : SpdmTransport} (hup : s.spdmUp tr) (hlife : s.lifecycle ≠ 4) :
    Completes (exec (.getMeasurements tr) s) fun r => ∃ sig, sig.length = 384 ∧
      r.outbox = .measurements tr s.measureBlocks sig :: s.outbox := by
  change Completes (execGetMeasurements tr s) _
  unfold execGetMeasurements
  rw [need_true _ _ _ hup, if_neg hlife]
  exact ⟨_, rfl, (s.freeBytes 384).1, by simp [State.freeBytes], rfl⟩

/-- A transport with fewer than four sessions gets one more (R600). -/
theorem exec_keyExchange_opens {s : State} {tr : SpdmTransport} (hup : s.spdmUp tr) (hlife : s.lifecycle ≠ 4)
    (hroom : (s.trust.sessions.filter (·.tr == tr)).length < 4) : Completes (exec (.keyExchange tr) s) fun r =>
      (∃ k, r.trust.sessions = s.trust.sessions ++ [{ id := s.trust.nextSession, tr := tr, key := k }]) ∧
      r.trust.nextSession = s.trust.nextSession + 1 ∧ r.outbox = .session s.trust.nextSession :: s.outbox := by
  change Completes (execKeyExchange tr s) _
  unfold execKeyExchange
  rw [need_true _ _ _ hup, if_neg hlife, if_neg hroom.not_ge]
  exact ⟨_, rfl, ⟨s.freeKey.1, rfl⟩, rfl, rfl⟩

/-- A transport with four sessions is busy (R600). -/
theorem exec_keyExchange_busy {s : State} {tr : SpdmTransport} (hup : s.spdmUp tr) (hlife : s.lifecycle ≠ 4)
    (hfull : 4 ≤ (s.trust.sessions.filter (·.tr == tr)).length) : exec (.keyExchange tr) s = .next (s.emit (.spdmBusy tr)) := by
  change execKeyExchange tr s = _
  unfold execKeyExchange
  rw [need_true _ _ _ hup, if_neg hlife, if_pos hfull, occurs_next]

/-- A scrapped module answers neither measurements nor a key exchange (R604). -/
theorem exec_spdm_scrapped {s : State} {tr : SpdmTransport} (hup : s.spdmUp tr) (hlife : s.lifecycle = 4) :
    exec (.getMeasurements tr) s = .next (s.emit (.spdmUnspecified tr)) ∧
      exec (.keyExchange tr) s = .next (s.emit (.spdmUnspecified tr)) := by
  change execGetMeasurements tr s = _ ∧ execKeyExchange tr s = _
  unfold execGetMeasurements execKeyExchange
  rw [need_true _ _ _ hup, need_true _ _ _ hup, if_pos hlife, if_pos hlife]
  exact ⟨rfl, rfl⟩

/-! ### Requests in a session -/

/-- A request in a session that stands does its own work, unless the module is scrapped. -/
theorem inSession_open {s : State} {id : Nat} {x : Session} (h : s.trust.session id = some x) (hlife : s.lifecycle ≠ 4) (k : Out State) :
    inSession id s k = k := by
  unfold inSession
  rw [needSome_some h, if_neg hlife]

/-- A request in a session of a scrapped module is answered ERROR Unspecified (R604). -/
theorem inSession_scrapped {s : State} {id : Nat} {x : Session} (h : s.trust.session id = some x) (hlife : s.lifecycle = 4) (k : Out State) :
    inSession id s k = .next (s.emit (.spdmUnspecified x.tr)) := by
  unfold inSession
  rw [needSome_some h, if_pos hlife]

/-- Two missed heartbeats end the session (R600). -/
theorem exec_spdmHeartbeatLoss {s : State} {id : Nat} {x : Session} (h : s.trust.session id = some x) :
    exec (.spdmHeartbeatLoss id) s = .next (s.endSession id) := by
  change execSpdmHeartbeatLoss id s = _
  unfold execSpdmHeartbeatLoss
  rw [needSome_some h, occurs_next]

/-- KEY_UPDATE replaces the key of its session (R600, R613). -/
theorem exec_keyUpdate {s : State} {id : Nat} {x : Session} (h : s.trust.session id = some x) (hlife : s.lifecycle ≠ 4) :
    Completes (exec (.keyUpdate id) s) fun r => (∃ k, r.trust = { s.trust with
      sessions := updFirst (·.id == id) (fun x => { x with updates := x.updates + 1, key := k }) s.trust.sessions }) ∧
      r.outbox = .session id :: s.outbox := by
  change Completes (execKeyUpdate id s) _
  unfold execKeyUpdate
  rw [inSession_open h hlife]
  exact ⟨_, rfl, ⟨s.freeKey.1, rfl⟩, rfl⟩

/-! ### Application data on the data-object mailbox -/

section
variable {s : State} {id : Nat} {x : Session} (h : s.trust.session id = some x) (hdoe : x.tr = .doe) (hlife : s.lifecycle ≠ 4)
include h hdoe hlife

/-- Application data of a session on the data-object mailbox is carried, unless the module is scrapped (R602, R604). -/
theorem onDoe_open (k : Out State) : onDoe id s k = k := by
  unfold onDoe
  rw [inSession_open h hlife, need_true _ _ _ (by simp [h, hdoe])]

/-- A dictionary message that is whole is queued with its session's role (R602). -/
theorem exec_securedDictMessage_whole {bytes : List Byte} (hlen : 16 + (parseMsg (.secured id) bytes).2.1.len.toNat ≤ bytes.length) :
    exec (.securedDictMessage id true bytes) s =
      .next { s with dict := { s.dict with queued := s.dict.queued ++ [{ fe := .secured id, bytes := bytes }] } } := by
  change execSecuredDictMessage id true bytes s = _
  unfold execSecuredDictMessage
  rw [onDoe_open h hdoe hlife, occurs_next]
  exact congrArg _ ((if_pos rfl).trans (if_neg hlen.not_gt))

/-- A message of another vendor is answered MSG_FORMAT (R459, R602). -/
theorem exec_securedDictMessage_vendor (bytes : List Byte) :
    exec (.securedDictMessage id false bytes) s = .next (s.deliver (parseMsg (.secured id) bytes).2.1 0x0B03 []) := by
  change execSecuredDictMessage id false bytes s = _
  unfold execSecuredDictMessage
  rw [onDoe_open h hdoe hlife, occurs_next]
  rfl

/-- KEY_PROG puts a key in its key set (R602, R613). -/
theorem exec_keyProg (stream : Fin 9) (set : Bool) : Completes (exec (.keyProg id stream set) s) fun r =>
    (∃ x, r.trust = (s.setIde (ideKey stream.val set) { kget {} s.trust.ide (ideKey stream.val set) with key := some x }).trust) ∧
      r.outbox = .ideKm id true :: s.outbox := by
  change Completes (execKeyProg id stream set s) _
  unfold execKeyProg
  rw [onDoe_open h hdoe hlife]
  exact ⟨_, rfl, ⟨s.freeKey.1, rfl⟩, rfl⟩

/-- K_SET_GO starts a key set that holds a key, and fails at one that holds none (R602). -/
theorem exec_kSetGo (stream : Fin 9) (set : Bool) :
    ((kget {} s.trust.ide (ideKey stream.val set)).key ≠ none → exec (.kSetGo id stream set) s =
      .next ((s.setIde (ideKey stream.val set) { kget {} s.trust.ide (ideKey stream.val set) with active := true }).emit
        (.ideKm id true))) ∧
    ((kget {} s.trust.ide (ideKey stream.val set)).key = none →
      exec (.kSetGo id stream set) s = .next (s.emit (.ideKm id false))) := by
  change (_ → execKSetGo id stream set s = _) ∧ (_ → execKSetGo id stream set s = _)
  unfold execKSetGo
  rw [onDoe_open h hdoe hlife, occurs_next]
  exact ⟨fun hkey => congrArg _ (if_pos (Option.isSome_iff_ne_none.mpr hkey)), fun hnone => congrArg _ (if_neg (by simp [hnone]))⟩

/-- K_SET_STOP destroys a key set's keys (R602, R613). -/
theorem exec_kSetStop (stream : Fin 9) (set : Bool) :
    exec (.kSetStop id stream set) s = .next ((s.setIde (ideKey stream.val set) {}).emit (.ideKm id true)) := by
  change execKSetStop id stream set s = _
  unfold execKSetStop
  rw [onDoe_open h hdoe hlife, occurs_next]

/-- A TDISP request that is granted puts its TDI in the new state (R603). -/
theorem tdisp_granted (n : Nat) (p : TdiPhase) : tdisp id n s (some p) =
    .next (({ s with trust := { s.trust with tdis := kput .unlocked s.trust.tdis n p } } : State).emit (.tdisp id n true)) :=
  onDoe_open h hdoe hlife _

/-- A TDISP request that is refused changes no TDI (R603). -/
theorem tdisp_refused (n : Nat) : tdisp id n s none = .next (s.emit (.tdisp id n false)) := onDoe_open h hdoe hlife _

/-- A TDI is locked from CONFIG_UNLOCKED (R483, R603). -/
theorem exec_lockInterfaceRequest {n : SlotIx} (hphase : s.tdi n.val = .unlocked) : exec (.lockInterfaceRequest id n) s =
    .next (({ s with trust := { s.trust with tdis := kput .unlocked s.trust.tdis n.val .locked } } : State).emit (.tdisp id n.val true)) := by
  change execLockInterfaceRequest id n s = _
  unfold execLockInterfaceRequest
  rw [if_pos hphase, tdisp_granted h hdoe hlife, occurs_next]

/-- A TDI runs from CONFIG_LOCKED while its slot is LOADED, RUNNING or FROZEN (R603). -/
theorem exec_startInterfaceRequest_granted {n : SlotIx} (hphase : s.tdi n.val = .locked)
    (hden : (s.den n.val).phase = .loaded ∨ (s.den n.val).phase = .running ∨ (s.den n.val).phase = .frozen) :
    exec (.startInterfaceRequest id n) s =
      .next (({ s with trust := { s.trust with tdis := kput .unlocked s.trust.tdis n.val .run } } : State).emit (.tdisp id n.val true)) := by
  change execStartInterfaceRequest id n s = _
  unfold execStartInterfaceRequest
  dsimp only
  rw [if_pos ⟨hphase, hden⟩, tdisp_granted h hdoe hlife, occurs_next]

/-- A TDI that is not locked does not start (R603). -/
theorem exec_startInterfaceRequest_refused {n : SlotIx} (hphase : s.tdi n.val ≠ .locked) :
    exec (.startInterfaceRequest id n) s = .next (s.emit (.tdisp id n.val false)) := by
  change execStartInterfaceRequest id n s = _
  unfold execStartInterfaceRequest
  dsimp only
  rw [if_neg fun hboth => hphase hboth.1, tdisp_refused h hdoe hlife, occurs_next]

/-- A TDI is unlocked from any state (R603). -/
theorem exec_stopInterfaceRequest (n : SlotIx) : exec (.stopInterfaceRequest id n) s =
    .next (({ s with trust := { s.trust with tdis := kput .unlocked s.trust.tdis n.val .unlocked } } : State).emit
      (.tdisp id n.val true)) := by
  change execStopInterfaceRequest id n s = _
  rw [execStopInterfaceRequest, tdisp_granted h hdoe hlife, occurs_next]

end

/-- Settles O60: the tamper response, then requests outside a session, in a session, and on the data-object mailbox. -/
theorem tamperAndSessions : Obligations.TamperAndSessions := by
  refine ⟨?_, ?_, ?_, ?_, ?_⟩
  · intro s ev half ms haon hfirst hlife
    exact exec_tamperEvent haon hfirst hlife
  · intro s tr hup hlife
    exact ⟨exec_getMeasurements hup hlife, exec_keyExchange_opens hup hlife, exec_keyExchange_busy hup hlife⟩
  · intro s tr hup hlife
    exact exec_spdm_scrapped hup hlife
  · intro s id x h
    refine ⟨exec_spdmHeartbeatLoss h, rfl, fun hlife => ⟨?_, exec_keyUpdate h hlife⟩, fun hlife => ⟨?_, ?_⟩⟩
    · exact congrArg (occurs s) (inSession_open h hlife _)
    · exact congrArg (occurs s) (inSession_scrapped h hlife _)
    · exact congrArg (occurs s) (inSession_scrapped h hlife _)
  · intro s id x h hdoe hlife
    refine ⟨fun bytes hlen => exec_securedDictMessage_whole h hdoe hlife hlen, exec_securedDictMessage_vendor h hdoe hlife, ?_, ?_⟩
    · rintro stream set _ rfl
      obtain ⟨hgo, hfail⟩ := exec_kSetGo h hdoe hlife stream set
      exact ⟨exec_keyProg h hdoe hlife stream set, hgo, hfail, exec_kSetStop h hdoe hlife stream set⟩
    · rintro n _ rfl
      exact ⟨exec_lockInterfaceRequest h hdoe hlife, exec_startInterfaceRequest_granted h hdoe hlife,
        exec_startInterfaceRequest_refused h hdoe hlife, exec_stopInterfaceRequest h hdoe hlife n⟩

end Sys2Proof.Proofs
end

section
/-! PROOFS. What the shared operations leave of the size of BAR4 (R482). -/

namespace Sys2Proof.Proofs

open Sys2Proof Sys2Proof.Machine Sys2Proof.Laws

@[simp] theorem foldl_bar4Log {α : Type} (f : State → α → State) (l : List α) (s : State)
    (h : ∀ s a, (f s a).host.bar4Log = s.host.bar4Log) : (l.foldl f s).host.bar4Log = s.host.bar4Log :=
  foldl_keeps (fun s => s.host.bar4Log) f l s h

@[simp] theorem foldl_jobs {α : Type} (f : State → α → State) (l : List α) (s : State)
    (h : ∀ s a, (f s a).fab.jobs = s.fab.jobs) : (l.foldl f s).fab.jobs = s.fab.jobs :=
  foldl_keeps (fun s => s.fab.jobs) f l s h

@[simp] theorem foldl_members {α : Type} (f : State → α → State) (l : List α) (s : State)
    (h : ∀ s a, (f s a).fab.members = s.fab.members) : (l.foldl f s).fab.members = s.fab.members :=
  foldl_keeps (fun s => s.fab.members) f l s h

@[simp] theorem foldl_sessions {α : Type} (f : State → α → State) (l : List α) (s : State)
    (h : ∀ s a, (f s a).trust.sessions = s.trust.sessions) : (l.foldl f s).trust.sessions = s.trust.sessions :=
  foldl_keeps (fun s => s.trust.sessions) f l s h

@[simp] theorem foldl_svnUsed {α : Type} (f : State → α → State) (l : List α) (s : State)
    (h : ∀ s a, (f s a).trust.svnUsed = s.trust.svnUsed) : (l.foldl f s).trust.svnUsed = s.trust.svnUsed :=
  foldl_keeps (fun s => s.trust.svnUsed) f l s h

@[simp] theorem setFence_bar4Log (s : State) (f : Nat) (x : Fence) : (s.setFence f x).host.bar4Log = s.host.bar4Log := by
  simp [State.setFence]

@[simp] theorem setQueue_bar4Log (s : State) (q : Nat) (x : Queue) : (s.setQueue q x).host.bar4Log = s.host.bar4Log := by
  simp [State.setQueue]

@[simp] theorem setCur_bar4Log (s : State) (q : Nat) (p : CurPhase) : (s.setCur q p).host.bar4Log = s.host.bar4Log := by
  simp [State.setCur]

@[simp] theorem endEntry_bar4Log (s : State) (q : Nat) (status : Code) (badIx : Nat) (badCode : Code) :
    (s.endEntry q status badIx badCode).host.bar4Log = s.host.bar4Log := by simp [State.endEntry]

@[simp] theorem dropWait_bar4Log (s : State) (q : Nat) : (s.dropWait q).host.bar4Log = s.host.bar4Log := by
  unfold State.dropWait; (repeat' split) <;> simp

@[simp] theorem untake_bar4Log (s : State) (q : Nat) : (s.untake q).host.bar4Log = s.host.bar4Log := by
  unfold State.untake; (repeat' split) <;> simp

@[simp] theorem stopQueue_bar4Log (s : State) (q : Nat) (status : Option Code) :
    (s.stopQueue q status).host.bar4Log = s.host.bar4Log := by simp [State.stopQueue]

@[simp] theorem waitDone_bar4Log (s : State) (q : Nat) : (s.waitDone q).host.bar4Log = s.host.bar4Log := by
  unfold State.waitDone; (repeat' split) <;> simp

@[simp] theorem wakeWaits_bar4Log (s : State) (f : Nat) : (s.wakeWaits f).host.bar4Log = s.host.bar4Log := by simp [State.wakeWaits]

@[simp] theorem signalFence_bar4Log (s : State) (f v : Nat) (wide : Bool) : (s.signalFence f v wide).host.bar4Log = s.host.bar4Log := by
  unfold State.signalFence; dsimp only; split <;> simp

@[simp] theorem failStep_bar4Log (s : State) (slot : Nat) (code : Code) : (s.failStep slot code).host.bar4Log = s.host.bar4Log := by
  unfold State.failStep; dsimp only; (repeat' split) <;> simp

@[simp] theorem enterFaulted_bar4Log (s : State) (slot : Nat) (code : Code) (i : FaultInfo) (ladder : Bool) :
    (s.enterFaulted slot code i ladder).host.bar4Log = s.host.bar4Log := by
  unfold State.enterFaulted; dsimp only; (repeat' split) <;> simp

@[simp] theorem tileFault_bar4Log (s : State) (slot t : Nat) (code : Code) (i : FaultInfo) :
    (s.tileFault slot t code i).host.bar4Log = s.host.bar4Log := by simp [State.tileFault]

@[simp] theorem denFault_bar4Log (s : State) (slot : Nat) (code : Code) (ladder : Bool) :
    (s.denFault slot code ladder).host.bar4Log = s.host.bar4Log := by unfold State.denFault; dsimp only; split <;> simp

@[simp] theorem faultAny_bar4Log (s : State) (slot : Nat) (code : Code) (ladder : Bool) :
    (s.faultAny slot code ladder).host.bar4Log = s.host.bar4Log := by unfold State.faultAny; dsimp only; (repeat' split) <;> simp

@[simp] theorem faultAll_bar4Log (s : State) (c : Code) (ds : List Nat) : (s.faultAll c ds).host.bar4Log = s.host.bar4Log := by
  simp [State.faultAll]

@[simp] theorem faultUsers_bar4Log (s : State) (c : Nat) (r : CRange) : (s.faultUsers c r).host.bar4Log = s.host.bar4Log := by
  simp [State.faultUsers]

@[simp] theorem fenceCistern_bar4Log (s : State) (c : Nat) : (s.fenceCistern c).host.bar4Log = s.host.bar4Log := by
  simp [State.fenceCistern]

@[simp] theorem fenceRange_bar4Log (s : State) (c : Nat) (r : CRange) : (s.fenceRange c r).host.bar4Log = s.host.bar4Log := by
  unfold State.fenceRange; dsimp only; split <;> simp

@[simp] theorem verifyPath_bar4Log (s : State) (c off level : Nat) (f : CisFacts) :
    (s.verifyPath c off level f).2.host.bar4Log = s.host.bar4Log := by unfold State.verifyPath; dsimp only; split <;> simp

@[simp] theorem evictItem_bar4Log (s : State) (c : Nat) (f : CisFacts) (i : CacheItem) :
    (s.evictItem c f i).host.bar4Log = s.host.bar4Log := by
  unfold State.evictItem
  dsimp only
  split
  · simp
  split
  · simp
  · split <;> simp [snd_of_eq ‹_ = (_, _)›]

@[simp] theorem trimCache_bar4Log (s : State) (c : Nat) (f : CisFacts) (fuel : Nat) :
    (s.trimCache c f fuel).host.bar4Log = s.host.bar4Log := by
  induction fuel generalizing s with
  | zero => simp [State.trimCache]
  | succ fuel ih =>
    simp only [State.trimCache]
    (repeat' split) <;> simp [ih]

@[simp] theorem evictAll_bar4Log (s : State) (c : Nat) (f : CisFacts) : (s.evictAll c f).host.bar4Log = s.host.bar4Log := by
  simp [State.evictAll]

@[simp] theorem cisServe_bar4Log (s : State) (c line : Nat) (k : Access) (f : CisFacts) :
    (s.cisServe c line k f).2.2.host.bar4Log = s.host.bar4Log := by unfold State.cisServe; dsimp only; (repeat' split) <;> simp

@[simp] theorem cisAccess_bar4Log (s : State) (a : Nat) (k : Access) (f : CisFacts) :
    (s.cisAccess a k f).2.2.host.bar4Log = s.host.bar4Log := by
  unfold State.cisAccess
  extract_lets c off line x s'
  have hs : s'.host.bar4Log = s.host.bar4Log := by
    unfold s'
    split <;> simp
  repeat' split
  case h_1 | h_2 => simp [snd_of_eq ‹_ = (_, _)›, hs]
  all_goals simp [hs]

@[simp] theorem fenceTile_bar4Log (s : State) (t : Nat) (code : Code) (byHost : Bool) (i : FaultInfo) :
    (s.fenceTile t code byHost i).host.bar4Log = s.host.bar4Log := by unfold State.fenceTile; dsimp only; (repeat' split) <;> simp

@[simp] theorem access_bar4Log (s : State) (x : Target) (k : Access) (m : LineMeet) :
    (s.access x k m).2.2.host.bar4Log = s.host.bar4Log := by unfold State.access; split <;> simp

@[simp] theorem reportError_bar4Log (s : State) (slot t : Nat) (code : Code) (src tag : Nat) :
    (s.reportError slot t code src tag).host.bar4Log = s.host.bar4Log := by unfold State.reportError; dsimp only; (repeat' split) <;> simp

@[simp] theorem settleTile_bar4Log (s : State) (slot t : Nat) : (s.settleTile slot t).host.bar4Log = s.host.bar4Log := by
  unfold State.settleTile; dsimp only; (repeat' split) <;> simp

@[simp] theorem settleAcross_bar4Log (s : State) (slot t : Nat) : (s.settleAcross slot t).host.bar4Log = s.host.bar4Log := by
  unfold State.settleAcross; dsimp only; (repeat' split) <;> simp

@[simp] theorem endBundle_bar4Log (s : State) (slot t : Nat) : (s.endBundle slot t).host.bar4Log = s.host.bar4Log := by
  unfold State.endBundle; dsimp only; (repeat' split) <;> simp

@[simp] theorem uncorrectable_bar4Log (s : State) (t : Nat) (el array : Nat) (code : Code) (i : FaultInfo) :
    (s.uncorrectable t el array code i).host.bar4Log = s.host.bar4Log := by unfold State.uncorrectable; dsimp only; split <;> simp

@[simp] theorem atsAsk_bar4Log (s : State) (pasid page : Nat) (who : Agent) (tag : Nat) :
    (s.atsAsk pasid page who tag).host.bar4Log = s.host.bar4Log := by unfold State.atsAsk; (repeat' split) <;> simp

@[simp] theorem hostLine_bar4Log (s : State) (slot t tag : Nat) (loc : BitVec 64) (k : LineKind) (a : Nat) (z : Option LineSend) :
    (s.hostLine slot t tag loc k a z).host.bar4Log = s.host.bar4Log := by unfold State.hostLine; dsimp only; (repeat' split) <;> simp

@[simp] theorem settleAts_bar4Log (s : State) : s.settleAts.host.bar4Log = s.host.bar4Log := by
  unfold State.settleAts; dsimp only; split <;> simp

@[simp] theorem completeTag_bar4Log (s : State) (t tag : Nat) (c : Code) (loc : Nat) :
    (s.completeTag t tag c loc).host.bar4Log = s.host.bar4Log := by unfold State.completeTag; dsimp only; split <;> simp

@[simp] theorem endStep_bar4Log (s : State) (slot : Nat) : (s.endStep slot).host.bar4Log = s.host.bar4Log := by
  unfold State.endStep; dsimp only; split <;> simp

@[simp] theorem areaLine_bar4Log (s : State) (ms : List LineMeet) (kind a : Nat) (k : Access) :
    (s.areaLine ms kind a k).2.2.host.bar4Log = s.host.bar4Log := by unfold State.areaLine; split <;> simp

@[simp] theorem areaWrite_bar4Log (s : State) (ms : List LineMeet) (kind fuel : Nat) (a : Nat) (bs : List Byte) :
    (s.areaWrite ms kind fuel a bs).2.host.bar4Log = s.host.bar4Log := by
  induction fuel generalizing s a bs with
  | zero => simp [State.areaWrite]
  | succ fuel ih =>
    simp only [State.areaWrite]
    (repeat' split) <;> simp [ih]

@[simp] theorem areaRead_bar4Log (s : State) (ms : List LineMeet) (kind fuel : Nat) (a n : Nat) :
    (s.areaRead ms kind fuel a n).2.2.host.bar4Log = s.host.bar4Log := by
  induction fuel generalizing s a n with
  | zero => simp [State.areaRead]
  | succ fuel ih =>
    simp only [State.areaRead]
    (repeat' split) <;> simp [ih]

@[simp] theorem writeInit_bar4Log (s : State) (tiles : List Nat) (e : InitData) :
    (s.writeInit tiles e).host.bar4Log = s.host.bar4Log := by unfold State.writeInit; (repeat' split) <;> simp

@[simp] theorem install_bar4Log (s : State) (slot : Nat) (g : Image) (sh : Shape) :
    (s.install slot g sh).host.bar4Log = s.host.bar4Log := by simp [State.install]

@[simp] theorem fabricSignal_bar4Log (s : State) (job f v : Nat) : (s.fabricSignal job f v).host.bar4Log = s.host.bar4Log := by
  unfold State.fabricSignal; dsimp only; split <;> simp

@[simp] theorem loseShaft_bar4Log (s : State) (w sh : Nat) : (s.loseShaft w sh).host.bar4Log = s.host.bar4Log := by simp [State.loseShaft]

@[simp] theorem loseLine_bar4Log (s : State) (w sh line : Nat) : (s.loseLine w sh line).host.bar4Log = s.host.bar4Log := by
  simp [State.loseLine]

@[simp] theorem copyLines_bar4Log (s : State) (w : Nat) (c : Remap) (upto : Nat) (unreadable : List Nat) :
    (s.copyLines w c upto unreadable).host.bar4Log = s.host.bar4Log := by simp [State.copyLines]

@[simp] theorem takeRestored_bar4Log (s : State) (q : Nat) : (s.takeRestored q).host.bar4Log = s.host.bar4Log := by
  simp [State.takeRestored]

@[simp] theorem copyShafts_bar4Log (s : State) (ms : List LineMeet) (a b : Rect) (bytes : Nat) (ts : List Nat) :
    (s.copyShafts ms a b bytes ts).2.host.bar4Log = s.host.bar4Log := by
  induction ts generalizing s with
  | nil => simp [State.copyShafts]
  | cons x xs ih =>
    simp only [State.copyShafts]
    (repeat' split) <;> simp [ih]

@[simp] theorem dropApers_bar4Log (s : State) (slot : Nat) : (s.dropApers slot).host.bar4Log = s.host.bar4Log := by simp [State.dropApers]

@[simp] theorem stopQueues_bar4Log (s : State) (slot : Nat) : (s.stopQueues slot).host.bar4Log = s.host.bar4Log := by
  refine foldl_bar4Log _ _ _ fun u a => ?_
  dsimp only
  (repeat' split) <;> simp

@[simp] theorem scrubShaftFail_bar4Log (s : State) (t : Nat) : (s.scrubShaftFail t).host.bar4Log = s.host.bar4Log := by
  unfold State.scrubShaftFail; dsimp only; split <;> simp

@[simp] theorem zeroCis_bar4Log (s : State) (ms : List LineMeet) (r : PRange) : (s.zeroCis ms r).host.bar4Log = s.host.bar4Log := by
  simp [State.zeroCis]

@[simp] theorem startStep_bar4Log (s : State) (slot q waited : Nat) (c : Cur) :
    (s.startStep slot q waited c).host.bar4Log = s.host.bar4Log := by simp [State.startStep]

@[simp] theorem doorbell_bar4Log (page v : Nat) (kindOk : Bool) (move : Queue → Nat → Option Queue) (s : State) :
    (doorbell page v kindOk move s).host.bar4Log = s.host.bar4Log := by unfold doorbell; dsimp only; (repeat' split) <;> simp

@[simp] theorem entryGo_bar4Log (s : State) (q : Nat) : (s.entryGo q).host.bar4Log = s.host.bar4Log := by simp [State.entryGo]

@[simp] theorem entryWait_bar4Log (s : State) (q : Nat) (e : Entry) : (s.entryWait q e).host.bar4Log = s.host.bar4Log := by
  unfold State.entryWait; dsimp only; (repeat' split) <;> simp

@[simp] theorem takeEntry_bar4Log (s : State) (q : Nat) (bs : Option (List Byte)) (batch : HostRead) :
    (s.takeEntry q bs batch).host.bar4Log = s.host.bar4Log := by unfold State.takeEntry; dsimp only; (repeat' split) <;> simp

@[simp] theorem disableQueue_bar4Log (s : State) (q : Nat) : (s.disableQueue q).host.bar4Log = s.host.bar4Log := by
  simp [State.disableQueue]

@[simp] theorem discardEntry_bar4Log (s : State) (q index : Nat) (r : HostRead) :
    (s.discardEntry q index r).host.bar4Log = s.host.bar4Log := by unfold State.discardEntry; split <;> simp

@[simp] theorem abandonFence_bar4Log (s : State) (f : Nat) : (s.abandonFence f).host.bar4Log = s.host.bar4Log := by
  simp [State.abandonFence]

@[simp] theorem refusedRead_bar4Log (s : State) : s.refusedRead.host.bar4Log = s.host.bar4Log := by simp [State.refusedRead]

@[simp] theorem keepDma_bar4Log (s : State) (slot : Nat) (t : Target) : (s.keepDma slot t).host.bar4Log = s.host.bar4Log := by
  unfold State.keepDma; dsimp only; split <;> simp

@[simp] theorem marchFault_bar4Log (s : State) (t n : Nat) : (s.marchFault t n).host.bar4Log = s.host.bar4Log := by
  unfold State.marchFault; dsimp only; (repeat' split) <;> simp

@[simp] theorem resetPump_bar4Log (s : State) (t : Nat) (c : Code) : (s.resetPump t c).host.bar4Log = s.host.bar4Log := by
  simp [State.resetPump]

@[simp] theorem resetDen_bar4Log (s : State) (slot : Nat) (c : Code) : (s.resetDen slot c).host.bar4Log = s.host.bar4Log := by
  simp [State.resetDen]

@[simp] theorem thermalTrip_bar4Log (s : State) : s.thermalTrip.host.bar4Log = s.host.bar4Log := by
  unfold State.thermalTrip; split <;> simp

end Sys2Proof.Proofs
end

section
/-! PROOFS. What the shared operations leave of the jobs and their members (R532). -/

namespace Sys2Proof.Proofs

open Sys2Proof Sys2Proof.Machine Sys2Proof.Laws

@[simp] theorem setLink_jobs (s : State) (l : Nat) (x : Link) :
    (s.setLink l x).fab.jobs = s.fab.jobs ∧ (s.setLink l x).fab.members = s.fab.members := by simp [State.setLink]

@[simp] theorem modLink_jobs (s : State) (l : Nat) (f : Link → Link) :
    (s.modLink l f).fab.jobs = s.fab.jobs ∧ (s.modLink l f).fab.members = s.fab.members := by simp [State.modLink]

@[simp] theorem setChan_jobs (s : State) (c : Nat) (x : Option Chan) :
    (s.setChan c x).fab.jobs = s.fab.jobs ∧ (s.setChan c x).fab.members = s.fab.members := by simp [State.setChan]

@[simp] theorem modChan_jobs (s : State) (c : Nat) (f : Chan → Chan) :
    (s.modChan c f).fab.jobs = s.fab.jobs ∧ (s.modChan c f).fab.members = s.fab.members := by simp [State.modChan]

@[simp] theorem storeClash_jobs (s : State) (t a n mask : Nat) :
    (s.storeClash t a n mask).fab.jobs = s.fab.jobs ∧ (s.storeClash t a n mask).fab.members = s.fab.members := by
  unfold State.storeClash; dsimp only; split <;> simp

@[simp] theorem aEffect_jobs (o : AOp) (f : AFields) (x : Snap) (s : State) :
    (aEffect o f x s).fab.jobs = s.fab.jobs ∧ (aEffect o f x s).fab.members = s.fab.members := by unfold aEffect; (repeat' split) <;> simp

@[simp] theorem modPair_jobs (s : State) (job peer : Nat) (f : Pair → Pair) :
    (s.modPair job peer f).fab.jobs = s.fab.jobs ∧ (s.modPair job peer f).fab.members = s.fab.members := by simp [State.modPair]

@[simp] theorem transmit_jobs (s : State) (l : Nat) (by_ : SendBy) (f : Frame) :
    (s.transmit l by_ f).fab.jobs = s.fab.jobs ∧ (s.transmit l by_ f).fab.members = s.fab.members := by
  unfold State.transmit; dsimp only; (repeat' split) <;> simp

@[simp] theorem sealFrame_jobs (s : State) (l : Nat) (dmac : BitVec 48) (exp : Bool) (job peer : Nat) (m : Msg) :
    (s.sealFrame l dmac exp job peer m).2.fab.jobs = s.fab.jobs ∧ (s.sealFrame l dmac exp job peer m).2.fab.members = s.fab.members := by
  unfold State.sealFrame; split <;> simp

@[simp] theorem sendKeyx_jobs (s : State) (job peer : Nat) (payload : List Byte) :
    (s.sendKeyx job peer payload).fab.jobs = s.fab.jobs ∧ (s.sendKeyx job peer payload).fab.members = s.fab.members := by
  unfold State.sendKeyx; split <;> simp

@[simp] theorem turnAround_jobs (s : State) (job : Nat) (exp : Bool) (m : Msg) :
    (s.turnAround job exp m).fab.jobs = s.fab.jobs ∧ (s.turnAround job exp m).fab.members = s.fab.members := by simp [State.turnAround]

theorem agree_jobs {s t : State} {job peer : Nat} (h : s.agree job peer = .ok t) :
    t.fab.jobs = s.fab.jobs ∧ t.fab.members = s.fab.members := by
  unfold State.agree at h
  split at h
  · split at h <;> cases h <;> simp
  · split at h <;> cases h
    simp

theorem sendOn_jobs {s t : State} {l : Nat} {dmac : BitVec 48} {job peer : Nat} {by_ : SendBy} {exp tx fixed : Bool} {m : Msg}
    (h : s.sendOn l dmac job peer by_ exp tx m fixed = .ok t) : t.fab.jobs = s.fab.jobs ∧ t.fab.members = s.fab.members := by
  unfold State.sendOn at h
  extract_lets live compat old at h
  split at h
  · cases h
  split at h
  · cases h
    simp
  split at h
  · simp only [Except.ok.injEq] at h
    subst h
    simp
  split at h
  · cases h
  cases ha : s.agree job peer with
  | error c =>
    rw [ha] at h
    cases h
  | ok u =>
    rw [ha] at h
    cases h
    exact agree_jobs (t := u) ha

theorem sendMsg_jobs {s t : State} {job peer : Nat} {by_ : SendBy} {m : Msg} (h : s.sendMsg job peer by_ m = .ok t) :
    t.fab.jobs = s.fab.jobs ∧ t.fab.members = s.fab.members := by
  unfold State.sendMsg at h
  split at h
  · cases h
  split at h
  · cases h
    simp
  split at h
  · cases h
  · exact sendOn_jobs h

theorem startTx_jobs {s t : State} {slot : Nat} {w : WinEntry} {who : TxFor} {msg : Msg} (h : s.startTx slot w who msg = .sent t) :
    t.fab.jobs = s.fab.jobs ∧ t.fab.members = s.fab.members := by
  unfold State.startTx at h
  split at h
  · cases h
  split at h
  · cases h
  split at h
  · cases h
  dsimp only at h
  split at h <;> cases h
  simpa using sendOn_jobs ‹_›

@[simp] theorem sendDict_jobs (s : State) (peer job : Nat) (bs : List Byte) :
    (s.sendDict peer job bs).fab.jobs = s.fab.jobs ∧ (s.sendDict peer job bs).fab.members = s.fab.members := by
  unfold State.sendDict
  refine ⟨foldl_jobs _ _ _ fun u a => ?_, foldl_members _ _ _ fun u a => ?_⟩
  all_goals
    dsimp only
    split
    · simp [sendMsg_jobs ‹_›]
    · rfl

@[simp] theorem setEngCache_jobs (s : State) (e : Nat) (l : List (Nat × Extent)) :
    (s.setEngCache e l).fab.jobs = s.fab.jobs ∧ (s.setEngCache e l).fab.members = s.fab.members := by simp [State.setEngCache]

@[simp] theorem setEngMisses_jobs (s : State) (e : Nat) (l : List EngMiss) :
    (s.setEngMisses e l).fab.jobs = s.fab.jobs ∧ (s.setEngMisses e l).fab.members = s.fab.members := by simp [State.setEngMisses]

@[simp] theorem engineFill_jobs (s : State) (e slot : Nat) (x : Extent) :
    (s.engineFill e slot x).fab.jobs = s.fab.jobs ∧ (s.engineFill e slot x).fab.members = s.fab.members := by
  unfold State.engineFill; dsimp only; split <;> simp

@[simp] theorem engineLookup_jobs (s : State) (e slot va : Nat) :
    (s.engineLookup e slot va).2.fab.jobs = s.fab.jobs ∧ (s.engineLookup e slot va).2.fab.members = s.fab.members := by
  unfold State.engineLookup
  split
  · next h =>
    obtain ⟨a, -, ha⟩ := Option.map_eq_some_iff.mp h
    cases ha
    simp
  · dsimp only
    (repeat' split) <;> simp

@[simp] theorem engineMiss_jobs (s : State) (e slot va : Nat) :
    (s.engineMiss e slot va).fab.jobs = s.fab.jobs ∧ (s.engineMiss e slot va).fab.members = s.fab.members := by
  unfold State.engineMiss; dsimp only; split <;> simp

@[simp] theorem engineSpend_jobs (s : State) (e slot : Nat) (vas : List Nat) :
    (s.engineSpend e slot vas).fab.jobs = s.fab.jobs ∧ (s.engineSpend e slot vas).fab.members = s.fab.members := by
  simp [State.engineSpend]

@[simp] theorem dropOld_jobs (s : State) (job peer : Nat) :
    (s.dropOld job peer).fab.jobs = s.fab.jobs ∧ (s.dropOld job peer).fab.members = s.fab.members := by simp [State.dropOld]

@[simp] theorem dropHeld_jobs (s : State) (job peer : Nat) :
    (s.dropHeld job peer).fab.jobs = s.fab.jobs ∧ (s.dropHeld job peer).fab.members = s.fab.members := by simp [State.dropHeld]

@[simp] theorem moveTx_jobs (s : State) (l l' : Nat) (t : Tx) :
    (s.moveTx l l' t).2.fab.jobs = s.fab.jobs ∧ (s.moveTx l l' t).2.fab.members = s.fab.members := by unfold State.moveTx; split <;> simp

@[simp] theorem dropWaiter_jobs (s : State) (w : Waiter) :
    (s.dropWaiter w).fab.jobs = s.fab.jobs ∧ (s.dropWaiter w).fab.members = s.fab.members := by simp [State.dropWaiter]

@[simp] theorem slotEffect_jobs (x : Snap) (b : Bundle) (s : State) :
    (slotEffect x b s).fab.jobs = s.fab.jobs ∧ (slotEffect x b s).fab.members = s.fab.members := by
  unfold slotEffect; (repeat' split) <;> simp

@[simp] theorem windowLine_jobs (s : State) (slot t tag : Nat) (loc : BitVec 64) (k right : LineKind) (w off size : Nat)
    (z : Option LineSend) (m : Msg) :
    (s.windowLine slot t tag loc k right w off size z m).fab.jobs = s.fab.jobs ∧
    (s.windowLine slot t tag loc k right w off size z m).fab.members = s.fab.members := by
  unfold State.windowLine
  dsimp only
  split
  · simp
  split
  · simp
  split
  · simp
  · simp
  · simp [startTx_jobs ‹_›]

@[simp] theorem deliver_jobs (s : State) (q : Req) (c : Code) (v : List Byte) :
    (s.deliver q c v).fab.jobs = s.fab.jobs ∧ (s.deliver q c v).fab.members = s.fab.members := by
  unfold State.deliver; dsimp only; (repeat' split) <;> simp

@[simp] theorem deliverNext_jobs (s : State) (q : Req) (c : Code) (v : List Byte) :
    (s.deliverNext q c v).fab.jobs = s.fab.jobs ∧ (s.deliverNext q c v).fab.members = s.fab.members := by
  unfold State.deliverNext; split <;> simp

@[simp] theorem flush_jobs (s : State) : s.flush.fab.jobs = s.fab.jobs ∧ s.flush.fab.members = s.fab.members := by
  unfold State.flush
  refine ⟨foldl_fst_keeps (fun s => s.fab.jobs) _ _ _ fun p a => ?_, foldl_fst_keeps (fun s => s.fab.members) _ _ _ fun p a => ?_⟩
  all_goals (repeat' split) <;> simp

@[simp] theorem answer_jobs (s : State) (id : Nat) (c : Code) (v : List Byte) :
    (s.answer id c v).fab.jobs = s.fab.jobs ∧ (s.answer id c v).fab.members = s.fab.members := by
  simp [State.answer]

@[simp] theorem reply_jobs (s : State) (id : Nat) (q : Req) (c : Code) (v : List Byte) :
    (s.reply id q c v).fab.jobs = s.fab.jobs ∧ (s.reply id q c v).fab.members = s.fab.members := by
  unfold State.reply; dsimp only; (repeat' split) <;> simp

@[simp] theorem await_jobs (s : State) (id : Nat) (q : Req) :
    (s.await id q).fab.jobs = s.fab.jobs ∧ (s.await id q).fab.members = s.fab.members := by
  simp [State.await]

@[simp] theorem dropEntry_jobs (s : State) (who : Agent) (slot : Nat) (e : Extent) :
    (s.dropEntry who slot e).fab.jobs = s.fab.jobs ∧ (s.dropEntry who slot e).fab.members = s.fab.members := by
  unfold State.dropEntry; split <;> simp

@[simp] theorem emptyCaches_jobs (s : State) (slot : Nat) :
    (s.emptyCaches slot).fab.jobs = s.fab.jobs ∧ (s.emptyCaches slot).fab.members = s.fab.members := by simp [State.emptyCaches]

@[simp] theorem forward_jobs (s : State) (l : Nat) (f : Frame) :
    (s.forward l f).fab.jobs = s.fab.jobs ∧ (s.forward l f).fab.members = s.fab.members := by
  unfold State.forward; dsimp only; (repeat' split) <;> simp

@[simp] theorem respond_jobs (s : State) (l : Nat) (f : Frame) (st : Code) (data : List Byte) (contended : Bool) :
    (s.respond l f st data contended).fab.jobs = s.fab.jobs ∧ (s.respond l f st data contended).fab.members = s.fab.members := by
  unfold State.respond
  extract_lets m live
  split
  · simp
  split
  · exact sendOn_jobs ‹_›
  · simp

@[simp] theorem settlePause_jobs (s : State) (l : Nat) :
    (s.settlePause l).fab.jobs = s.fab.jobs ∧ (s.settlePause l).fab.members = s.fab.members := by
  unfold State.settlePause; dsimp only; split <;> simp

@[simp] theorem putRx_jobs (s : State) (l : Nat) (f : Frame) :
    (s.putRx l f).fab.jobs = s.fab.jobs ∧ (s.putRx l f).fab.members = s.fab.members := by unfold State.putRx; split <;> simp

@[simp] theorem inboundLine_jobs (s : State) (l slot line : Nat) (kind : LineKind) :
    (s.inboundLine l slot line kind).2.fab.jobs = s.fab.jobs ∧ (s.inboundLine l slot line kind).2.fab.members = s.fab.members := by
  unfold State.inboundLine
  (repeat' split) <;> simp [snd_of_eq ‹_ = (_, _)›]

@[simp] theorem inboundLines_jobs (s : State) (l slot : Nat) (kind : LineKind) (vas : List Nat) :
    (s.inboundLines l slot kind vas).2.fab.jobs = s.fab.jobs ∧ (s.inboundLines l slot kind vas).2.fab.members = s.fab.members := by
  induction vas generalizing s with
  | nil => simp [State.inboundLines]
  | cons a as ih =>
    simp only [State.inboundLines]
    split <;> simp [snd_of_eq ‹_ = (_, _)›, ih]

@[simp] theorem queueMsg_jobs (s : State) (fe : FrontEnd) (limit : Nat) (bs : List Byte) :
    (s.queueMsg fe limit bs).fab.jobs = s.fab.jobs ∧ (s.queueMsg fe limit bs).fab.members = s.fab.members := by
  unfold State.queueMsg; dsimp only; (repeat' split) <;> simp

@[simp] theorem sendCustody_jobs (s : State) (job peer kind : Nat) (body : List Byte) :
    (s.sendCustody job peer kind body).fab.jobs = s.fab.jobs ∧ (s.sendCustody job peer kind body).fab.members = s.fab.members := by
  unfold State.sendCustody
  split
  · exact sendMsg_jobs ‹_›
  · simp

@[simp] theorem loseLog_jobs (s : State) (hit : LogEntry → Bool) :
    (s.loseLog hit).fab.jobs = s.fab.jobs ∧ (s.loseLog hit).fab.members = s.fab.members := by unfold State.loseLog; split <;> simp

@[simp] theorem linkDown_jobs (s : State) (l st : Nat) :
    (s.linkDown l st).fab.jobs = s.fab.jobs ∧ (s.linkDown l st).fab.members = s.fab.members := by simp [State.linkDown]

@[simp] theorem linkSpent_jobs (s : State) (l : Nat) :
    (s.linkSpent l).fab.jobs = s.fab.jobs ∧ (s.linkSpent l).fab.members = s.fab.members := by simp [State.linkSpent]

@[simp] theorem endMove_jobs (s : State) (slot : Nat) (q : Rect) (es : List Extent) :
    (s.endMove slot q es).fab.jobs = s.fab.jobs ∧ (s.endMove slot q es).fab.members = s.fab.members := by simp [State.endMove]

@[simp] theorem loseCustody_jobs (s : State) (slot : Nat) :
    (s.loseCustody slot).fab.jobs = s.fab.jobs ∧ (s.loseCustody slot).fab.members = s.fab.members := by simp [State.loseCustody]

@[simp] theorem dropChans_jobs (s : State) (slot : Nat) :
    (s.dropChans slot).fab.jobs = s.fab.jobs ∧ (s.dropChans slot).fab.members = s.fab.members := by simp [State.dropChans]

@[simp] theorem aperture_jobs (s : State) (off : Nat) (k : Access) :
    (s.aperture off k).2.fab.jobs = s.fab.jobs ∧ (s.aperture off k).2.fab.members = s.fab.members := by
  unfold State.aperture
  dsimp only
  split
  · simp
  split
  · simp
  · split <;> simp [snd_of_eq ‹_ = (_, _)›]

@[simp] theorem setRoute_jobs (s : State) (i : Nat) (r : Option Route) :
    (s.setRoute i r).fab.jobs = s.fab.jobs ∧ (s.setRoute i r).fab.members = s.fab.members := by simp [State.setRoute]

@[simp] theorem sendKeyend_jobs (s : State) (k : Pair) :
    (s.sendKeyend k).fab.jobs = s.fab.jobs ∧ (s.sendKeyend k).fab.members = s.fab.members := by
  unfold State.sendKeyend; dsimp only; (repeat' split) <;> simp

@[simp] theorem linkEnabled_jobs (s : State) (l : Nat) (on : Bool) :
    (s.linkEnabled l on).fab.jobs = s.fab.jobs ∧ (s.linkEnabled l on).fab.members = s.fab.members := by
  unfold State.linkEnabled; dsimp only; (repeat' split) <;> simp

@[simp] theorem dropPairKeys_jobs (s : State) : s.dropPairKeys.fab.jobs = s.fab.jobs ∧ s.dropPairKeys.fab.members = s.fab.members := by
  simp [State.dropPairKeys]

@[simp] theorem stopLinks_jobs (s : State) : s.stopLinks.fab.jobs = s.fab.jobs ∧ s.stopLinks.fab.members = s.fab.members := by
  simp [State.stopLinks]

@[simp] theorem dropEngine_jobs (s : State) (e : Nat) :
    (s.dropEngine e).fab.jobs = s.fab.jobs ∧ (s.dropEngine e).fab.members = s.fab.members := by simp [State.dropEngine]

@[simp] theorem restoreElem_jobs (s : State) (o : Nat × Nat × List Byte) :
    (s.restoreElem o).fab.jobs = s.fab.jobs ∧ (s.restoreElem o).fab.members = s.fab.members := by
  unfold State.restoreElem; (repeat' split) <;> simp

@[simp] theorem undo_jobs (s : State) (o : Nat × Nat × List Byte) :
    (s.undo o).fab.jobs = s.fab.jobs ∧ (s.undo o).fab.members = s.fab.members := by unfold State.undo; split <;> simp

@[simp] theorem lateAnswer_jobs (s : State) (q : Req) (c : Code) :
    (s.lateAnswer q c).fab.jobs = s.fab.jobs ∧ (s.lateAnswer q c).fab.members = s.fab.members := by simp [State.lateAnswer]

@[simp] theorem linksFollow_jobs (s : State) : s.linksFollow.fab.jobs = s.fab.jobs ∧ s.linksFollow.fab.members = s.fab.members := by
  simp [State.linksFollow]

end Sys2Proof.Proofs
end

section
/-! PROOFS. What the shared operations leave of the sessions and the fuses (R599, R600), and of several of the scarce things. -/

namespace Sys2Proof.Proofs

open Sys2Proof Sys2Proof.Machine Sys2Proof.Laws

@[simp] theorem setIde_sessions (s : State) (k : Nat) (x : IdeSet) :
    (s.setIde k x).trust.sessions = s.trust.sessions ∧ (s.setIde k x).trust.svnUsed = s.trust.svnUsed := by simp [State.setIde]

@[simp] theorem deriveKeys_sessions (s : State) (b : FwBank) :
    (s.deriveKeys b).trust.sessions = s.trust.sessions ∧ (s.deriveKeys b).trust.svnUsed = s.trust.svnUsed := by simp [State.deriveKeys]

@[simp] theorem clearCdi_sessions (s : State) :
    s.clearCdi.trust.sessions = s.trust.sessions ∧ s.clearCdi.trust.svnUsed = s.trust.svnUsed := by simp [State.clearCdi]

@[simp] theorem engineAccess_bar4Log_jobs (s : State) (l slot line : Nat) (kind : LineKind) (k : Access) (m : LineMeet) (push : Bool) :
    (s.engineAccess l slot line kind k m push).2.2.host.bar4Log = s.host.bar4Log ∧
    (s.engineAccess l slot line kind k m push).2.2.fab.jobs = s.fab.jobs ∧
    (s.engineAccess l slot line kind k m push).2.2.fab.members = s.fab.members := by
  unfold State.engineAccess
  (repeat' split) <;> simp [snd_of_eq ‹_ = (_, _)›]

@[simp] theorem engineRead_bar4Log_jobs (s : State) (l slot : Nat) (ms : List LineMeet) (fuel va : Nat) (got : List Byte) :
    (s.engineRead l slot ms fuel va got).2.2.host.bar4Log = s.host.bar4Log ∧
    (s.engineRead l slot ms fuel va got).2.2.fab.jobs = s.fab.jobs ∧
    (s.engineRead l slot ms fuel va got).2.2.fab.members = s.fab.members := by
  induction fuel generalizing s va got with
  | zero => simp [State.engineRead]
  | succ fuel ih =>
    simp only [State.engineRead]
    (repeat' split) <;> simp [ih]

@[simp] theorem writeDone_bar4Log_jobs (s : State) (c : Nat) :
    (s.writeDone c).2.host.bar4Log = s.host.bar4Log ∧
    (s.writeDone c).2.fab.jobs = s.fab.jobs ∧
    (s.writeDone c).2.fab.members = s.fab.members := by unfold State.writeDone; split <;> simp

@[simp] theorem holdChan_bar4Log_jobs (s : State) (c : Nat) (f : Chan → Chan) :
    (s.holdChan c f).host.bar4Log = s.host.bar4Log ∧
    (s.holdChan c f).fab.jobs = s.fab.jobs ∧
    (s.holdChan c f).fab.members = s.fab.members := by unfold State.holdChan; (repeat' split) <;> simp

@[simp] theorem holdAt_bar4Log_jobs (s : State) (c : Nat) (st : Code) :
    (s.holdAt c st).host.bar4Log = s.host.bar4Log ∧
    (s.holdAt c st).fab.jobs = s.fab.jobs ∧
    (s.holdAt c st).fab.members = s.fab.members := by simp [State.holdAt]

@[simp] theorem noteDone_bar4Log_jobs (s : State) (c : Nat) :
    (s.noteDone c).host.bar4Log = s.host.bar4Log ∧ (s.noteDone c).fab.jobs = s.fab.jobs ∧ (s.noteDone c).fab.members = s.fab.members := by
  unfold State.noteDone; dsimp only; split <;> simp

@[simp] theorem failUnit_bar4Log_jobs (s : State) (c n : Nat) (st : Code) :
    (s.failUnit c n st).host.bar4Log = s.host.bar4Log ∧
    (s.failUnit c n st).fab.jobs = s.fab.jobs ∧
    (s.failUnit c n st).fab.members = s.fab.members := by unfold State.failUnit; split <;> simp

@[simp] theorem sendCommit_bar4Log_jobs (s : State) (c : Nat) (x : Chan) (u : PushUnit) :
    (s.sendCommit c x u).host.bar4Log = s.host.bar4Log ∧
    (s.sendCommit c x u).fab.jobs = s.fab.jobs ∧
    (s.sendCommit c x u).fab.members = s.fab.members := by
  unfold State.sendCommit
  dsimp only
  split
  · simp
  split
  · simp
  split
  · simp
  · simp [sendMsg_jobs ‹_›, sendMsg_frame ‹_›]

@[simp] theorem runCommits_bar4Log_jobs (s : State) (c : Nat) :
    (s.runCommits c).host.bar4Log = s.host.bar4Log ∧
    (s.runCommits c).fab.jobs = s.fab.jobs ∧
    (s.runCommits c).fab.members = s.fab.members := by
  unfold State.runCommits
  split
  · simp
  · refine ⟨foldl_bar4Log _ _ _ fun s a => ?_, foldl_jobs _ _ _ fun s a => ?_, foldl_members _ _ _ fun s a => ?_⟩
    all_goals split <;> simp

@[simp] theorem freedLogs_bar4Log_jobs (s : State) :
    s.freedLogs.host.bar4Log = s.host.bar4Log ∧ s.freedLogs.fab.jobs = s.fab.jobs ∧ s.freedLogs.fab.members = s.fab.members := by
  simp [State.freedLogs]

@[simp] theorem pushEnd_bar4Log_jobs (s : State) (c n attempt bytes : Nat) (st : Code) :
    (s.pushEnd c n attempt bytes st).host.bar4Log = s.host.bar4Log ∧
    (s.pushEnd c n attempt bytes st).fab.jobs = s.fab.jobs ∧
    (s.pushEnd c n attempt bytes st).fab.members = s.fab.members := by unfold State.pushEnd; (repeat' split) <;> simp

@[simp] theorem endTx_bar4Log_jobs (s : State) (l : Nat) (x : Tx) (st : Code) (data : List Byte) (delayed : Bool) :
    (s.endTx l x st data delayed).host.bar4Log = s.host.bar4Log ∧
    (s.endTx l x st data delayed).fab.jobs = s.fab.jobs ∧
    (s.endTx l x st data delayed).fab.members = s.fab.members := by unfold State.endTx; dsimp only; (repeat' split) <;> simp

@[simp] theorem endTxs_bar4Log_jobs (s : State) (p : Nat → Tx → Bool) (st : Code) :
    (s.endTxs p st).host.bar4Log = s.host.bar4Log ∧
    (s.endTxs p st).fab.jobs = s.fab.jobs ∧
    (s.endTxs p st).fab.members = s.fab.members := by simp [State.endTxs]

@[simp] theorem endUnits_bar4Log_jobs (s : State) (job peer : Nat) (keep : Bool) (c : Nat) :
    (s.endUnits job peer keep c).host.bar4Log = s.host.bar4Log ∧
    (s.endUnits job peer keep c).fab.jobs = s.fab.jobs ∧
    (s.endUnits job peer keep c).fab.members = s.fab.members := by unfold State.endUnits; split <;> simp

@[simp] theorem endPair_bar4Log_jobs (s : State) (job peer : Nat) (keep : Bool) :
    (s.endPair job peer keep).host.bar4Log = s.host.bar4Log ∧
    (s.endPair job peer keep).fab.jobs = s.fab.jobs ∧
    (s.endPair job peer keep).fab.members = s.fab.members := by unfold State.endPair; dsimp only; (repeat' split) <;> simp

@[simp] theorem failCommit_bar4Log_jobs (s : State) (job peer id : Nat) (code : Code) (c : Nat) :
    (s.failCommit job peer id code c).host.bar4Log = s.host.bar4Log ∧
    (s.failCommit job peer id code c).fab.jobs = s.fab.jobs ∧
    (s.failCommit job peer id code c).fab.members = s.fab.members := by unfold State.failCommit; (repeat' split) <;> simp

@[simp] theorem failWaiter_bar4Log_jobs (s : State) (code : Code) (w : Waiter) :
    (s.failWaiter code w).host.bar4Log = s.host.bar4Log ∧
    (s.failWaiter code w).fab.jobs = s.fab.jobs ∧
    (s.failWaiter code w).fab.members = s.fab.members := by unfold State.failWaiter; (repeat' split) <;> simp

@[simp] theorem failAgree_bar4Log_jobs (s : State) (job peer : Nat) :
    (s.failAgree job peer).host.bar4Log = s.host.bar4Log ∧
    (s.failAgree job peer).fab.jobs = s.fab.jobs ∧
    (s.failAgree job peer).fab.members = s.fab.members := by simp [State.failAgree]

@[simp] theorem newIncarnation_bar4Log_jobs (s : State) (peer : Nat) (old : BitVec 64) :
    (s.newIncarnation peer old).host.bar4Log = s.host.bar4Log ∧
    (s.newIncarnation peer old).fab.jobs = s.fab.jobs ∧
    (s.newIncarnation peer old).fab.members = s.fab.members := by unfold State.newIncarnation; dsimp only; split <;> simp

@[simp] theorem inboundRun_bar4Log_jobs (s : State) (l slot : Nat) (kind : LineKind) (ms : List LineMeet)
    (work : List (Nat × Access)) (got : List Byte) :
    (s.inboundRun l slot kind ms work got).2.2.host.bar4Log = s.host.bar4Log ∧
    (s.inboundRun l slot kind ms work got).2.2.fab.jobs = s.fab.jobs ∧
    (s.inboundRun l slot kind ms work got).2.2.fab.members = s.fab.members := by
  induction work generalizing s got with
  | nil => simp [State.inboundRun]
  | cons x xs ih =>
    simp only [State.inboundRun]
    (repeat' split) <;> simp [ih]

@[simp] theorem takeUnits_bar4Log_jobs (s : State) (c tail : Nat) (ms : List LineMeet) (fuel : Nat) :
    (s.takeUnits c tail ms fuel).host.bar4Log = s.host.bar4Log ∧
    (s.takeUnits c tail ms fuel).fab.jobs = s.fab.jobs ∧
    (s.takeUnits c tail ms fuel).fab.members = s.fab.members := by
  induction fuel generalizing s with
  | zero => simp [State.takeUnits]
  | succ fuel ih =>
    simp only [State.takeUnits]
    (repeat' split) <;> simp [ih]

@[simp] theorem moveOn_bar4Log_jobs (s : State) (slot : Nat) (c : DenCmd) (m : Move) (n : Nat) (ms : List LineMeet) (es : List Extent) :
    (s.moveOn slot c m n ms es).host.bar4Log = s.host.bar4Log ∧
    (s.moveOn slot c m n ms es).fab.jobs = s.fab.jobs ∧
    (s.moveOn slot c m n ms es).fab.members = s.fab.members := by unfold State.moveOn; dsimp only; (repeat' split) <;> simp

@[simp] theorem tdiError_sessions (s : State) (slot : Nat) :
    (s.tdiError slot).trust.sessions = s.trust.sessions ∧ (s.tdiError slot).trust.svnUsed = s.trust.svnUsed := by
  unfold State.tdiError; split <;> simp

@[simp] theorem beginRelease_bar4Log_jobs_sessions (s : State) (slot : Nat) :
    (s.beginRelease slot).host.bar4Log = s.host.bar4Log ∧
    (s.beginRelease slot).fab.jobs = s.fab.jobs ∧
    (s.beginRelease slot).fab.members = s.fab.members ∧
    (s.beginRelease slot).trust.sessions = s.trust.sessions ∧
    (s.beginRelease slot).trust.svnUsed = s.trust.svnUsed := by unfold State.beginRelease; dsimp only; split <;> simp

@[simp] theorem tearSlot_bar4Log_sessions (s : State) (keep : Bool) (slot : Nat) :
    (s.tearSlot keep slot).host.bar4Log = s.host.bar4Log ∧
    (s.tearSlot keep slot).trust.sessions = s.trust.sessions ∧
    (s.tearSlot keep slot).trust.svnUsed = s.trust.svnUsed := by unfold State.tearSlot; split <;> simp

@[simp] theorem teardown_bar4Log_sessions (s : State) (owner : Nat) (keep : Bool) :
    (s.teardown owner keep).host.bar4Log = s.host.bar4Log ∧
    (s.teardown owner keep).trust.sessions = s.trust.sessions ∧
    (s.teardown owner keep).trust.svnUsed = s.trust.svnUsed := by simp [State.teardown]

@[simp] theorem changeLife_jobs_sessions (s : State) (to_ : Nat) :
    (s.changeLife to_).fab.jobs = s.fab.jobs ∧
    (s.changeLife to_).fab.members = s.fab.members ∧
    (s.changeLife to_).trust.sessions = s.trust.sessions ∧
    (s.changeLife to_).trust.svnUsed = s.trust.svnUsed := by unfold State.changeLife; split <;> simp

end Sys2Proof.Proofs
end

section
/-! PROOFS. The commands that take nothing scarce (R482, R532, R599, R600). -/

namespace Sys2Proof.Proofs

open Sys2Proof Sys2Proof.Machine Sys2Proof.Laws

/-! ### What takes nothing scarce -/

/-- A state that holds the same scarce things as another, part by part. -/
theorem scarce_eq {s t : State} : t.scarce = s.scarce ↔ t.pending = s.pending ∧ t.host.bar4Log = s.host.bar4Log ∧
    t.trust.sessions = s.trust.sessions ∧ t.fab.jobs = s.fab.jobs ∧ t.fab.members = s.fab.members ∧ t.trust.svnUsed = s.trust.svnUsed := by
  simp [State.scarce]

/-- An event that, where it occurs, leaves what is scarce as it was. -/
def Spares (s : State) : Out State → Prop
  | .next t => t.scarce = s.scarce
  | .off _ => True

/-- An event that occurs spares what is scarce where each part of it stays. -/
@[simp] theorem spares_next {s t : State} : Spares s (.next t) ↔ t.pending = s.pending ∧ t.host.bar4Log = s.host.bar4Log ∧
    t.trust.sessions = s.trust.sessions ∧ t.fab.jobs = s.fab.jobs ∧ t.fab.members = s.fab.members ∧ t.trust.svnUsed = s.trust.svnUsed :=
  scarce_eq

@[simp] theorem spares_off {s : State} {g : Guard} : Spares s (.off g) := trivial

/-- A command whose event, in every state, leaves what is scarce as it was. -/
def Spared (c : Instr) : Prop := ∀ s, ∃ o, exec c s = occurs s o ∧ Spares s o

/-- A run over a list takes nothing scarce where each of its steps takes none. -/
theorem foldl_scarce {α : Type} {f : State → α → State} (h : ∀ s a, (f s a).scarce = s.scarce) (l : List α) (s : State) :
    (l.foldl f s).scarce = s.scarce := foldl_keeps State.scarce f l s h

/-! ### Requests -/

section
variable {s : State} {q : Req} {op : DictOp} {v : List Byte} {permit : Bool}

/-- The response to a request takes nothing scarce. -/
theorem finishReq_scarce {id : Nat} {r : Ans × State} (h : r.2.scarce = s.scarce) : (finishReq id q r).scarce = s.scarce := by
  unfold finishReq
  split <;> (rw [scarce_eq] at h ⊢; simpa using h)

/-- A request spares what is scarce where its element's own work does. -/
theorem spares_request {run : Nat → State → Ans × State} (h : ∀ id u, (run id u).2.scarce = u.scarce) :
    Spares s (request q op v permit run s) := by
  simp only [request, need]
  split
  · split
    · split
      · refine finishReq_scarce ?_
        split
        · simp [scarce_eq]
        · rw [h]
          simp [scarce_eq]
      · trivial
    · trivial
  · trivial

theorem spares_need {g : Guard} {b : Bool} {o : Out State} (h : Spares s o) : Spares s (need g b o) := by
  unfold need
  split
  · exact h
  · trivial

theorem spares_requestOf {els : List (Nat × Nat)} {run : Nat → State → Ans × State} (h : ∀ id u, (run id u).2.scarce = u.scarce) :
    Spares s (requestOf els q v run s) := spares_need (spares_request h)

theorem spares_slotRequest {el : Nat} {run : Nat → Nat → State → Ans × State} (h : ∀ slot id u, (run slot id u).2.scarce = u.scarce) :
    Spares s (slotRequest el q v run s) := by
  refine spares_need (spares_request fun id u => ?_)
  rw [← h (q.index.toNat - 0x0800) id u]
  simp [scarce_eq]

end

end Sys2Proof.Proofs
end

section
/-! PROOFS. The commands of a tile's bundles take nothing scarce. -/

namespace Sys2Proof.Proofs

open Sys2Proof Sys2Proof.Machine Sys2Proof.Laws

/-! ### Bundles -/

theorem spares_withIssue {s : State} {t : Nat} {k : Nat → Den → Tile → Out State} (h : ∀ slot d x, Spares s (k slot d x)) :
    Spares s (withIssue s t k) := by
  unfold withIssue
  (repeat' split) <;> simp [h]

theorem spares_openBundle {s : State} {slot t : Nat} {d : Den} {x : Tile} {kind : BundleKind} {u : Upsets} {k : State → Out State}
    (h : ∀ r, r.scarce = s.scarce → Spares s (k r)) : Spares s (openBundle s slot d t x kind u k) := by
  unfold openBundle
  dsimp only
  split
  · simp
  · simp
  · (repeat' split) <;> simp [h, scarce_eq]

theorem spares_slotRun {s : State} {t : Nat} {fault : Snap → Option Code} {effect : Snap → State → Out State}
    (h : ∀ x r, r.scarce = s.scarce → Spares s (effect x r)) : Spares s (slotRun t s fault effect) := by
  refine spares_withIssue fun slot d x => spares_need (spares_openBundle fun r hr => ?_)
  dsimp only
  split
  · simp
  · exact h _ r hr

theorem spares_slotOp {s : State} {t : Nat} {fault : Snap → Option Code} {effect : Snap → State → State}
    (h : ∀ x r, (effect x r).scarce = r.scarce) : Spares s (slotOp t s fault effect) :=
  spares_slotRun fun x r hr => (h x r).trans hr

theorem spares_slotReads {s : State} {t : Nat} {fault : Snap → Option Code} {addr : Snap → Nat} {u : Upset}
    {effect : Snap → State → State} (h : ∀ x r, (effect x r).scarce = r.scarce) : Spares s (slotReads t s fault addr u effect) := by
  refine spares_slotRun fun x r hr => ?_
  dsimp only
  split
  · simp
  · have hcorrected : ((effect x r).corrected u 0).scarce = (effect x r).scarce := by simp [scarce_eq]
    exact hcorrected.trans ((h x r).trans hr)

theorem spares_slotV (s : State) (o : VOp) (t : Nat) (f : VFields) : Spares s (slotV o t f s) :=
  spares_slotOp fun x r => by simp [scarce_eq]

theorem spares_slotM (s : State) (o : MOp) (t : Nat) (f : MFields) : Spares s (slotM o t f s) :=
  spares_slotOp fun x r => by simp [scarce_eq]

theorem spares_slotA (s : State) (o : AOp) (t : Nat) (f : AFields) (u : Upset) : Spares s (slotA o t f u s) := by
  unfold slotA
  split
  · exact spares_slotReads fun x r => by simp [scarce_eq]
  · exact spares_slotOp fun x r => by simp [scarce_eq]

theorem spares_issueCycle {s : State} {slot t : Nat} {d : Den} {x : Tile} {kind : BundleKind} {u : Upsets} :
    Spares s (issueCycle s slot d t x kind u) := by
  refine spares_openBundle fun r hr => ?_
  rw [scarce_eq] at hr
  dsimp only
  (repeat' split) <;> simp [hr]

theorem spares_issueStored {s : State} {c t : Nat} {u : Upsets} : Spares s (issueStored c t u s) := by
  refine spares_withIssue fun slot d x => ?_
  dsimp only
  (repeat' split) <;> simp [spares_issueCycle]

end Sys2Proof.Proofs
end

section
/-! PROOFS. The pump operations take nothing scarce (R240, R245 to R253). -/

namespace Sys2Proof.Proofs

open Sys2Proof Sys2Proof.Machine Sys2Proof.Laws

/-- A computation of the pump that, begun with given scarce things, ends with them. -/
def Holds {α : Type} (x : Scarce) (m : PM α) : Prop := ∀ r : PumpRun, r.s.scarce = x → (m r).2.s.scarce = x

namespace Holds

/-! ### How computations are put together -/

section
variable {α β : Type} {x : Scarce}

theorem pure {a : α} : Holds x (pure a) := fun _ h => h

theorem throw {e : PumpStop} : Holds x (throw e : PM α) := fun _ h => h

theorem error {c : Code} {kind : Nat} {a : Int} : Holds x (PM.error c kind a : PM α) := throw

theorem bind {m : PM α} {f : α → PM β} (hm : Holds x m) (hf : ∀ a, Holds x (f a)) : Holds x (m >>= f) := by
  intro r hr
  have hnext := hm r hr
  change ((ExceptT.bind m f) r).2.s.scarce = x
  simp only [ExceptT.bind, ExceptT.mk]
  change ((ExceptT.bindCont f (m r).1) (m r).2).2.s.scarce = x
  cases (m r).1 with
  | ok a => exact hf a _ hnext
  | error e => exact hnext

/-- What reads the run knows what it holds. -/
theorem get {f : PumpRun → PM β} (hf : ∀ r, r.s.scarce = x → Holds x (f r)) : Holds x (get >>= f) :=
  fun r hr => hf r hr r hr

theorem modify {f : PumpRun → PumpRun} (hf : ∀ r, r.s.scarce = x → (f r).s.scarce = x) : Holds x (modify f : PM PUnit) := hf

theorem set {r : PumpRun} (hr : r.s.scarce = x) : Holds x (set r : PM PUnit) := fun _ _ => hr

theorem setS {s : State} (hs : s.scarce = x) : Holds x (PM.setS s) := fun _ _ => hs

theorem ite {p : Prop} [Decidable p] {m n : PM α} (hm : Holds x m) (hn : Holds x n) : Holds x (if p then m else n) := by
  split
  · exact hm
  · exact hn

theorem forM {l : List α} {f : α → PM PUnit} (hf : ∀ a, Holds x (f a)) : Holds x (l.forM f) := by
  induction l with
  | nil => exact pure
  | cons a l ih => exact bind (hf a) fun _ => ih

theorem foldlM {l : List α} {f : β → α → PM β} (hf : ∀ b a, Holds x (f b a)) (b : β) : Holds x (l.foldlM f b) := by
  induction l generalizing b with
  | nil => exact pure
  | cons a l ih => exact bind (hf b a) ih

theorem mapM {l : List α} {f : α → PM β} (hf : ∀ a, Holds x (f a)) : Holds x (l.mapM f) := by
  induction l with
  | nil => exact pure
  | cons a l ih =>
    rw [List.mapM_cons]
    exact bind (hf a) fun _ => bind ih fun _ => pure

theorem upTo {n : Nat} {f : Nat → PM Unit} (hf : ∀ i, Holds x (f i)) : Holds x (PM.upTo n f) := forM hf

theorem foldUpTo {n : Nat} {a : α} {f : α → Nat → PM α} (hf : ∀ a i, Holds x (f a i)) : Holds x (PM.foldUpTo n a f) := foldlM hf a

end

/-! ### Accesses -/

section
variable {x : Scarce}

theorem access {act : PM (List Byte)} (h : Holds x act) : Holds x (PM.access act) := by
  refine get fun r hr => ?_
  split
  · exact bind (set hr) fun _ => pure
  · exact ite throw (bind h fun _ => bind (modify fun _ hr => hr) fun _ => pure)

theorem target {kind line : Nat} {k : LineKind} : Holds x (PM.target kind line k) := by
  refine get fun r hr => ite pure ?_
  split
  · exact bind (setS (by rw [← hr]; simp [scarce_eq])) fun _ => throw
  · rename_i e s hhit
    refine bind (setS ?_) fun _ => ite pure error
    simp only [State.pumpHit, Option.map_eq_some_iff] at hhit
    obtain ⟨e', -, hpair⟩ := hhit
    cases hpair
    rw [← hr]
    simp [scarce_eq]

theorem away {r : PumpRun} {line : Nat} {k : Access} {bad : Option Code} {oldTo : Option Nat} :
    Holds x (PM.line.away r line k bad oldTo) := by
  unfold PM.line.away
  split
  · exact error
  · split
    · split
      · exact pure
      · exact throw
    · exact bind (modify fun _ hr => hr) fun _ => pure
    · exact bind (modify fun _ hr => hr) fun _ => pure
    · exact pure

theorem line {kind line : Nat} {k : Access} {oldTo : Option Nat} : Holds x (PM.line kind line k oldTo) := by
  refine access (bind target fun target => bind (modify fun _ hr => hr) fun _ => get fun r hr => ?_)
  cases target with
  | well a =>
    dsimp only
    refine bind (setS ?_) fun _ => ite pure error
    rw [← hr]
    simp [scarce_eq]
  | cistern a =>
    dsimp only
    refine bind (setS ?_) fun _ => ite pure error
    rw [← hr]
    simp [scarce_eq]
  | host a => exact away
  | window w off => exact away

theorem spadCheck {a : Int} {n : Nat} : Holds x (PM.spadCheck a n) := by
  refine get fun r hr => ite error (ite error ?_)
  split
  · exact bind (setS (by rw [← hr]; simp [scarce_eq])) fun _ => error
  · exact setS (by rw [← hr]; simp [scarce_eq])
  · exact pure

theorem settled {a : Nat} {bs : List Byte} : Holds x (PM.settled a bs) := by
  refine get fun r hr => ite (bind (setS hr) fun _ => ?_) ?_
  · exact bind (modify fun _ hr => hr) fun _ => ite (bind (modify fun r hr => by rw [← hr]; simp [scarce_eq]) fun _ => pure) pure
  · exact bind (modify fun _ hr => hr) fun _ => ite (bind (modify fun r hr => by rw [← hr]; simp [scarce_eq]) fun _ => pure) pure

theorem spadRead {a : Int} {n : Nat} : Holds x (PM.spadRead a n) :=
  access (bind spadCheck fun _ => get fun _ _ => settled)

theorem spadWrite {a : Int} {bs : List Byte} : Holds x (PM.spadWrite a bs) :=
  bind (access (bind spadCheck fun _ => bind settled fun _ =>
    bind (modify fun r hr => by rw [← hr]; simp [scarce_eq]) fun _ => pure)) fun _ => pure

theorem readB {kind : Nat} {a : Int} {n : Nat} : Holds x (PM.readB kind a n) := by
  refine ite spadRead ?_
  split
  · exact error
  · exact bind (mapM fun _ => bind line fun _ => pure) fun _ => pure

theorem writeB {kind : Nat} {a : Int} {bs : List Byte} : Holds x (PM.writeB kind a bs) := by
  refine ite spadWrite ?_
  split
  · exact error
  · exact forM fun _ => bind line fun _ => pure

theorem fetch {w : Nat} {off : Int} {n : Nat} : Holds x (PM.fetch w off n) := readB

theorem fetchNat {w : Nat} {off : Int} {n : Nat} : Holds x (PM.fetchNat w off n) := bind fetch fun _ => pure

theorem store {w : Nat} {off : Int} {bs : List Byte} : Holds x (PM.store w off bs) := writeB

theorem out {d : Desc} {off : Nat} {bs : List Byte} : Holds x (PM.out d off bs) := ite (modify fun _ hr => hr) store

theorem outBundle {addr : Nat} {bs : List Byte} : Holds x (PM.outBundle addr bs) :=
  bind (access (bind (modify fun r hr => by rw [← hr]; simp [scarce_eq]) fun _ => pure)) fun _ => pure

theorem index {w i n : Nat} : Holds x (PM.index w i n) := bind fetchNat fun _ => ite error pure

theorem segment {w j : Nat} {data : List (Nat × Nat)} : Holds x (PM.segment w j data) :=
  bind index fun _ => bind index fun _ => get fun _ _ => ite error pure

theorem free {n : Nat} : Holds x (PM.free n) := access (get fun r hr => bind (setS (by rw [← hr]; simp [scarce_eq])) fun _ => pure)

theorem elemOffset {d : Desc} {size i : Nat} : Holds x (elemOffset d size i) := ite pure (bind index fun _ => pure)

theorem rmwPiece {d : Desc} {kind : Nat} {a : Int} {v cmp : List Byte} {oldTo : Option Nat} : Holds x (rmwPiece d kind a v cmp oldTo) := by
  refine ite (bind spadRead fun _ => bind spadWrite fun _ => pure) ?_
  split
  · exact error
  · exact line

end

/-! ### Operations -/

section
variable {x : Scarce} {d : Desc}

theorem evalCopy : Holds x (evalCopy d) := ite (upTo fun _ => bind fetch fun _ => outBundle) (upTo fun _ => bind fetch fun _ => out)

theorem evalGather : Holds x (evalGather d) := upTo fun _ => bind elemOffset fun _ => bind fetchNat fun _ => out

theorem evalScatter : Holds x (evalScatter d) := upTo fun _ => bind fetchNat fun _ => bind elemOffset fun _ => store

theorem evalRmw : Holds x (evalRmw d) :=
  upTo fun _ => bind index fun _ => forM fun _ => bind fetch fun _ => bind (ite fetch pure) fun _ => bind rmwPiece fun _ => ite writeB pure

theorem evalSegred : Holds x (evalSegred d) :=
  upTo fun _ => bind segment fun _ => bind (mapM fun _ => bind fetchNat fun _ => pure) fun _ => get fun _ _ => out

theorem evalStencil : Holds x (evalStencil d) :=
  upTo fun _ => bind (upTo fun _ => upTo fun _ => bind fetchNat fun _ => store) fun _ => bind free fun _ => ite store pure

theorem evalSpmv : Holds x (evalSpmv d) :=
  upTo fun _ => bind segment fun _ =>
    bind (foldUpTo fun _ _ => bind fetchNat fun _ => bind index fun _ => bind fetchNat fun _ => pure) fun _ =>
      bind (ite (bind fetchNat fun _ => pure) pure) fun _ => out

theorem evalEmbed : Holds x (evalEmbed d) :=
  upTo fun _ => bind segment fun _ =>
    bind (mapM fun _ => bind index fun _ => bind fetch fun _ => bind (ite pure (bind fetchNat fun _ => pure)) fun _ => pure) fun _ =>
      get fun _ _ => upTo fun _ => out

theorem evalHist : Holds x (evalHist d) := upTo fun _ => bind fetchNat fun _ => bind fetchNat fun _ => store

theorem evalCompress : Holds x (evalCompress d) := by
  unfold Machine.evalCompress
  refine bind (foldUpTo fun _ _ => bind fetch fun _ => ?_) fun _ => store
  exact ite (bind store fun _ => ite (bind store fun _ => pure) pure) (ite (bind store fun _ => pure) pure)

theorem evalExpand : Holds x (evalExpand d) :=
  bind (foldUpTo fun _ _ => bind fetchNat fun _ => ite (bind fetch fun _ => bind store fun _ => pure) (bind store fun _ => pure))
    fun _ => pure

theorem evalConvert : Holds x (evalConvert d) := by
  refine upTo fun _ => bind fetch fun _ => bind (ite pure (ite ?_ (ite ?_ pure))) fun _ => out
  · exact bind (ite pure fetchNat) fun _ => pure
  · exact ite (bind store fun _ => pure) pure

theorem evalMerge : Holds x (evalMerge d) := by
  refine bind (foldUpTo fun _ _ => bind (ite (bind fetchNat fun _ => pure) pure) fun _ =>
    bind (ite (bind fetchNat fun _ => pure) pure) fun _ => ?_) fun _ => pure
  dsimp only
  exact bind store fun _ => ite (bind (ite fetch fetch) fun _ => bind store fun _ => pure) pure

end
end Holds

/-! ### Runs -/

theorem pumpOutcome_scarce (d : Desc) (op : TagOp) (e : Except PumpStop Unit) (r : PumpRun) :
    (pumpOutcome d op e r).scarce = r.s.scarce := by
  unfold pumpOutcome
  (repeat' split) <;> simp [scarce_eq]

theorem spares_runPump {code : Nat} {eval : Desc → PM Unit} {t tag : Nat} {f : PumpFacts} {s : State}
    (h : ∀ d, Holds s.scarce (eval d)) : Spares s (runPump code eval t tag f s) := by
  simp only [runPump, need, needSome]
  split
  · split
    · split
      · rename_i slot _ op _ _
        refine (pumpOutcome_scarce _ _ _ _).trans ?_
        exact h _ _ rfl
      · trivial
    · trivial
  · trivial

end Sys2Proof.Proofs
end

section
/-! PROOFS. Shared operations that take nothing scarce (R482, R532, R599, R600). -/

namespace Sys2Proof.Proofs

open Sys2Proof Sys2Proof.Machine Sys2Proof.Laws

/-! ### The window path and the key exchange -/

theorem takeRx_scarce {s t : State} {l : Nat} {p : Frame → Bool} {f : Frame} (h : s.takeRx l p = some (f, t)) : t.scarce = s.scarce := by
  simp only [State.takeRx, Option.map_eq_some_iff] at h
  obtain ⟨g, -, hpair⟩ := h
  cases hpair
  simp [scarce_eq]

theorem takeSignal_scarce {s t : State} {slot n : Nat} {came : Dir} {p : WaveSig → Bool} {g : Signal}
    (h : s.takeSignal slot n came p = some (g, t)) : t.scarce = s.scarce := by
  simp only [State.takeSignal, Option.map_eq_some_iff] at h
  obtain ⟨g, -, hpair⟩ := h
  cases hpair
  simp [scarce_eq]

theorem sendMsg_scarce {s t : State} {job peer : Nat} {by_ : SendBy} {m : Msg} (h : s.sendMsg job peer by_ m = .ok t) :
    t.scarce = s.scarce := by
  have hframe := sendMsg_frame h
  have hjobs := sendMsg_jobs h
  simp [scarce_eq, hframe, hjobs]

theorem sendOn_scarce {s t : State} {l : Nat} {dmac : BitVec 48} {job peer : Nat} {by_ : SendBy} {exp tx fixed : Bool} {m : Msg}
    (h : s.sendOn l dmac job peer by_ exp tx m fixed = .ok t) : t.scarce = s.scarce := by
  have hframe := sendOn_frame h
  have hjobs := sendOn_jobs h
  simp [scarce_eq, hframe, hjobs]

theorem startTx_scarce {s t : State} {slot : Nat} {w : WinEntry} {who : TxFor} {m : Msg} (h : s.startTx slot w who m = .sent t) :
    t.scarce = s.scarce := by
  have hframe := startTx_frame h
  have hjobs := startTx_jobs h
  simp [scarce_eq, hframe, hjobs]

theorem sendWaiter_scarce (s : State) (w : Waiter) (l : Nat) (mac : BitVec 48) : (s.sendWaiter w l mac).scarce = s.scarce := by
  unfold State.sendWaiter
  dsimp only
  (repeat' split) <;> simp [scarce_eq]

theorem sendWaiting_scarce (s : State) (job peer : Nat) : (s.sendWaiting job peer).scarce = s.scarce := by
  refine (foldl_scarce (fun u x => ?_) _ _).trans ((foldl_scarce (fun u x => ?_) _ _).trans rfl)
  · exact sendWaiter_scarce _ _ _ _
  · dsimp only
    split <;> simp [scarce_eq]

theorem retryWaiting_scarce (s : State) : s.retryWaiting.scarce = s.scarce := by
  unfold State.retryWaiting
  exact foldl_scarce (fun u (p : Nat × Nat) => sendWaiting_scarce u p.1 p.2) _ _

theorem newKeys_scarce (s : State) (job peer : Nat) (inc : BitVec 64) (responder : Bool) (tx rx : BitVec 256) :
    (s.newKeys job peer inc responder tx rx).scarce = s.scarce := by
  unfold State.newKeys
  have hwait := fun (u : State) => scarce_eq.mp (sendWaiting_scarce u job peer)
  dsimp only
  simp [scarce_eq, hwait]

theorem completeKeyx_scarce (s : State) (job src : Nat) (f : Frame) : (s.completeKeyx job src f).scarce = s.scarce := by
  unfold State.completeKeyx
  dsimp only
  split
  · rw [newKeys_scarce]
    simp [scarce_eq]
  · split
    · exact newKeys_scarce _ _ _ _ _ _ _
    · rfl

/-! ### Push units -/

theorem sendUnit_scarce (fuel : Nat) (s : State) (c n : Nat) (ms : List LineMeet) : (s.sendUnit c n ms fuel).scarce = s.scarce := by
  induction fuel generalizing s with
  | zero => rfl
  | succ fuel ih =>
    unfold State.sendUnit
    split
    · rfl
    · split
      · rfl
      · dsimp only
        split
        · simp [scarce_eq]
        · split
          · simp [scarce_eq]
          · split
            · rfl
            · split
              · simp [scarce_eq]
              · split
                · simp [scarce_eq]
                · simp [scarce_eq]
                · rename_i hsent
                  have hstart := scarce_eq.mp (startTx_scarce hsent)
                  split
                  · simp [scarce_eq, hstart]
                  · rw [ih]
                    simp [scarce_eq, hstart]

theorem sendUnits_scarce (s : State) (c : Nat) (ms : List LineMeet) : (s.sendUnits c ms).scarce = s.scarce := by
  unfold State.sendUnits
  split
  · rfl
  · exact foldl_scarce (fun t (u : PushUnit) => sendUnit_scarce 400 t c u.n ms) _ _

/-! ### Repair -/

theorem marchTiles_scarce (s : State) (l : List SramNeed) : (s.marchTiles l).2.scarce = s.scarce := by
  refine foldl_keeps_of (fun acc : List SramNeed × State => acc.2.scarce) _ l ([], s) fun acc n => ?_
  dsimp only
  split <;> simp [scarce_eq]

theorem marchPlaces_scarce (s : State) (l : List SramNeed) : (s.marchPlaces l).scarce = s.scarce := marchTiles_scarce s l

/-! ### Steps -/

theorem batchEntry_scarce {s t : State} {slot : Nat} {old : List Extent} {seen : List (Option Batch)} {e : Option Batch}
    (h : s.batchEntry slot old seen e = .ok t) : t.scarce = s.scarce := by
  unfold State.batchEntry at h
  split at h
  · cases h
  · split at h
    · cases h; rfl
    · cases h
  · split at h
    · cases h
    · split at h
      · cases h
      · dsimp only at h
        split at h
        · cases h
        · simp only [Except.ok.injEq] at h
          subst h
          simp [scarce_eq]

theorem batchAll_scarce {slot : Nat} {old : List Extent} {es : List (Option Batch)} {s t : State} {seen : List (Option Batch)}
    (h : s.batchAll slot old seen es = .ok t) : t.scarce = s.scarce := by
  induction es generalizing s seen with
  | nil => cases h; rfl
  | cons e es ih =>
    unfold State.batchAll at h
    split at h
    · cases h
    · exact (ih h).trans (batchEntry_scarce ‹_›)

theorem admitBatch_scarce {s t : State} {slot : Nat} {es : List (Option Batch)} (h : s.admitBatch slot es = .ok t) :
    t.scarce = s.scarce := (batchAll_scarce h).trans (by simp [scarce_eq])

/-! ### Lines -/

theorem writeB_scarce {run after : PumpRun} {e : Except PumpStop Unit} {kind : Nat} {a : Int} {bs : List Byte}
    (h : PM.writeB kind a bs run = (e, after)) : after.s.scarce = run.s.scarce := by
  have hkeeps := Holds.writeB (kind := kind) (a := a) (bs := bs) run rfl
  rw [h] at hkeeps
  exact hkeeps

theorem lineLands_scarce (s : State) (slot t tag : Nat) (z : LineSlot) (c : Code) (data : List Byte) :
    (s.lineLands slot t tag z c data).scarce = s.scarce := by
  unfold State.lineLands
  dsimp only
  split
  · simp [scarce_eq]
  · split
    · simp [scarce_eq]
    · rename_i y _ _
      split
      · rfl
      · rename_i w _
        have hold : (if data.length = 64 then (bytesAt data (y.va % 64) y.data.length, s) else s.freeBytes y.data.length).2.scarce =
            s.scarce := by
          split
          · rfl
          · simp [scarce_eq]
        revert hold
        generalize (if data.length = 64 then (bytesAt data (y.va % 64) y.data.length, s) else s.freeBytes y.data.length) = p
        intro hold
        rw [← hold]
        split
        · rfl
        · split
          · rfl
          · split
            · rename_i hrun
              rw [← writeB_scarce hrun]
              simp [scarce_eq]
            · rename_i hrun
              rw [← writeB_scarce hrun]
              simp [scarce_eq]
            · simp [scarce_eq]
    · rfl

/-! ### The meter and the resets -/

theorem mirror_scarce (s : State) : s.mirror.scarce = s.scarce := by
  refine (foldl_scarce (fun u p => ?_) _ _).trans (by simp [scarce_eq])
  dsimp only
  split <;> simp [scarce_eq]

theorem recordParts_scarce (s : State) (ms : List LineMeet) (t shaft : Nat) (full : Bool) :
    (s.recordParts ms t shaft full).2.2.scarce = s.scarce := by
  have hfree : ∀ (l : List (Nat × Nat)) (acc : List (Nat × List Byte) × State),
      (l.foldl (fun (acc : List (Nat × List Byte) × State) p => (acc.1 ++ [(p.1, (acc.2.freeBytes p.2).1)], (acc.2.freeBytes p.2).2))
        acc).2.scarce = acc.2.scarce := fun l acc =>
    foldl_keeps_of (fun acc : List (Nat × List Byte) × State => acc.2.scarce) _ l acc fun acc p => by simp [scarce_eq]
  unfold State.recordParts
  dsimp only
  have harea : ∀ (u : State) n a m, (u.areaRead ms 1 n a m).2.2.scarce = u.scarce := fun u n a m => by simp [scarce_eq]
  refine (harea _ _ _ _).trans ((hfree _ _).trans ?_)
  simp [scarce_eq]

theorem sample_scarce (s : State) (d : ResetDom) (refused : Option Nat) : (s.sample d refused).scarce = s.scarce := by
  have hlast : ∀ u : State, (if refused.isNone then u.raise 1953 else u).scarce = u.scarce := fun u => by
    split <;> simp [scarce_eq]
  have hfree : ∀ (u : State) n, (u.freeBytes n).2.scarce = u.scarce := fun u n => by simp [scarce_eq]
  unfold State.sample
  obtain ⟨control, hcontrol⟩ : ∃ n, n = 4096 := ⟨_, rfl⟩
  rw [← hcontrol]
  extract_lets cfg len bit tiles addr pasid coords record
  have hrecord : ∀ acc p, (record acc p).2.scarce = acc.2.scarce := fun acc p => by
    simp only [record]
    exact recordParts_scarce acc.2 [] p.2 0 true
  split
  · rfl
  · dsimp only
    rw [hlast, foldl_scarce fun u w => by simp [scarce_eq],
      foldl_keeps_of (fun acc : List (Nat × List Byte) × State => acc.2.scarce) record _ _ hrecord, hfree, hfree]

theorem resetEngine_scarce (s : State) (e : EngineIx) : (s.resetEngine e).scarce = s.scarce := by
  unfold State.resetEngine
  split
  · simp [scarce_eq]
  · simp [scarce_eq]
  · have hdrop : ∀ u : State, (u.dropEngine 33).scarce = u.scarce := fun u => by simp [scarce_eq]
    refine (hdrop _).trans (foldl_scarce (fun u n => ?_) _ _)
    (repeat' split) <;> simp [scarce_eq]
  · simp [scarce_eq]
  · simp [scarce_eq]

theorem returnHalf_scarce (s : State) (h : Half) (f : HalfFacts) : (s.returnHalf h f).scarce = s.scarce := by
  unfold State.returnHalf
  extract_lets wells bad trained repaired seamed marched keys rows parts halted derived
  have htrained : trained.scarce = s.scarce := foldl_scarce (fun u w => by simp [scarce_eq]) _ _
  have hmarched : marched.scarce = s.scarce := by
    have hseamed : seamed.scarce = trained.scarce := by simp [seamed, repaired, scarce_eq]
    have hsett : marched.scarce = seamed.scarce := by
      have hplaces := scarce_eq.mp (marchPlaces_scarce seamed (f.march.needs.filter fun n => (n.col.val < 66) == (h == .west)))
      simp [marched, scarce_eq, hplaces]
    rw [hsett, hseamed, htrained]
  have hhalted : halted.scarce = marched.scarce := by simp [halted, rows, scarce_eq]
  have hderived : derived.scarce = halted.scarce := by
    simp only [derived]
    split <;> simp [scarce_eq]
  rw [← hmarched, ← hhalted, ← hderived]
  simp [scarce_eq]

end Sys2Proof.Proofs
end

section
/-! PROOFS. Events and families of commands that take nothing scarce (R482, R532, R599, R600). -/

namespace Sys2Proof.Proofs

open Sys2Proof Sys2Proof.Machine Sys2Proof.Laws

/-! ### Events under a condition -/

section
variable {s : State}

/-- What spares the scarce things of a state that holds the same spares this one's. -/
theorem spares_congr {t : State} (hsame : t.scarce = s.scarce) {o : Out State} (h : Spares t o) : Spares s o := by
  cases o with
  | next u => exact (show u.scarce = t.scarce from h).trans hsame
  | off g => trivial

theorem spares_needSome {α : Type} {g : Guard} {x : Option α} {k : α → Out State} (h : ∀ a, x = some a → Spares s (k a)) :
    Spares s (needSome g x k) := by
  unfold needSome
  split
  · exact h _ rfl
  · trivial

theorem spares_ite {p : Prop} [Decidable p] {a b : Out State} (ha : Spares s a) (hb : Spares s b) : Spares s (if p then a else b) := by
  split
  · exact ha
  · exact hb

/-- A command that takes a frame from a link's receive buffer: its work is that of the state without the frame. -/
theorem spares_takeRx {l : Nat} {p : Frame → Bool} {k : Frame × State → Out State} (h : ∀ f u, Spares u (k (f, u))) :
    Spares s (needSome .noSuch (s.takeRx l p) k) :=
  spares_needSome fun a ha => spares_congr (takeRx_scarce ha) (h a.1 a.2)

end

/-- What a frame's lines hold at the controllers is kept with the link. -/
theorem keepPlace_scarce (s : State) (l slot : Nat) (vas : List Nat) : (s.keepPlace l slot vas).2.scarce = s.scarce := by
  unfold State.keepPlace
  split
  rename_i ns con t hfold
  have ht : t.scarce = s.scarce := by
    rw [snd2_of_eq hfold]
    exact foldl_keeps_of (fun acc : Nat × Bool × State => acc.2.2.scarce) _ vas (0, false, s) fun acc va => by simp [scarce_eq]
  rw [← ht]
  dsimp only
  split <;> simp [scarce_eq]

/-! ### Families of commands -/

section
variable {s : State} {q : Req} {v : List Byte}

theorem spares_queueCtl {op : Nat} {run : Nat → Queue → State → Ans × State} (h : ∀ n x u, (run n x u).2.scarce = u.scarce) :
    Spares s (queueCtl op q v run s) := by
  refine spares_need (spares_requestOf fun id u => ?_)
  dsimp only
  split
  · rfl
  · split
    · rfl
    · exact h _ _ _

theorem spares_chanCtl {op : Nat} {run : Nat → Chan → State → Ans × State} (h : ∀ c x u, (run c x u).2.scarce = u.scarce) :
    Spares s (chanCtl op q v run s) := by
  refine spares_need (spares_requestOf fun id u => ?_)
  extract_lets c
  split
  · rfl
  · split
    · rfl
    · exact h _ _ _

theorem spares_lcRequest {mine : Nat → Bool} {auth : State → Bool} : Spares s (lcRequest mine auth q v s) := by
  refine spares_need (spares_requestOf fun id u => ?_)
  dsimp only
  (repeat' split) <;> simp [scarce_eq]

theorem spares_marchRun {mine : Nat → Bool} : Spares s (marchRun mine q v s) := by
  refine spares_need (spares_requestOf fun id u => ?_)
  dsimp only
  (repeat' split) <;> simp [scarce_eq]

theorem spares_denWork {op slot : Nat} {k : DenCmd → Den → Out State} (h : ∀ c, Spares s (k c (s.den slot))) :
    Spares s (denWork op slot s k) :=
  spares_needSome fun c _ => spares_ite (by simp) (h c)

theorem spares_inSession {id : Nat} {k : Out State} (h : Spares s k) : Spares s (inSession id s k) :=
  spares_needSome fun x _ => spares_ite (by simp) h

theorem spares_onDoe {id : Nat} {k : Out State} (h : Spares s k) : Spares s (onDoe id s k) := spares_inSession (spares_need h)

theorem spares_tdisp {id slot : Nat} {to_ : Option TdiPhase} : Spares s (tdisp id slot s to_) := by
  refine spares_onDoe ?_
  split <;> simp

theorem spares_bootStep {n : Nat} {k : Out State} (h : Spares s k) : Spares s (bootStep n s k) := spares_need h

theorem spares_inboundReq {opc l : Nat} {kind : LineKind} {ms : List LineMeet} {acts : Frame → List (Nat × Access)}
    {answer : Frame → Bool} : Spares s (inboundReq opc l kind ms acts answer s) := by
  unfold inboundReq
  split
  · exact spares_needSome fun w _ => spares_need (by simp)
  · rename_i f u hnext
    refine spares_congr (takeRx_scarce hnext) ?_
    extract_lets work
    split
    · simp
    · rename_i e _
      extract_lets lines
      split
      rename_i bad w hlines
      obtain rfl := snd_of_eq hlines
      extract_lets x
      split
      · simp [x]
      · split
        rename_i c bs y hrun
        obtain rfl := snd2_of_eq hrun
        split
        rename_i con z hkeep
        obtain rfl := snd_of_eq hkeep
        have hkept := scarce_eq.mp (keepPlace_scarce (x.inboundRun l e.slot kind ms lines []).2.2 l e.slot (lines.map (·.1)))
        split <;> simp [x, hkept]

end

end Sys2Proof.Proofs
end

section
/-! PROOFS. The commands of a tile and of its pump take nothing scarce (R482, R532, R599, R600). -/

namespace Sys2Proof.Proofs

open Sys2Proof Sys2Proof.Machine Sys2Proof.Laws

@[simp] theorem issueStored_spared :
    (∀ t u, Spared (.next t u)) ∧ (∀ t u, Spared (.br t u)) ∧ (∀ t u, Spared (.jmp t u)) ∧ (∀ t u, Spared (.loop t u)) ∧
    (∀ t u, Spared (.call t u)) ∧ (∀ t u, Spared (.ret t u)) ∧ (∀ t u, Spared (.halt t u)) := by
  and_intros
  all_goals exact fun t u s => ⟨_, rfl, spares_issueStored⟩

@[simp] theorem slotM_spared :
    (∀ t f, Spared (.mnop t f)) ∧ (∀ t f, Spared (.mma t f)) ∧ (∀ t f, Spared (.mmaz t f)) ∧ (∀ t f, Spared (.mzero t f)) ∧
    (∀ t f, Spared (.mrd t f)) := by
  and_intros
  all_goals exact fun t f s => ⟨_, rfl, spares_slotM _ _ _ _⟩

@[simp] theorem slotV_spared :
    (∀ t f, Spared (.vnop t f)) ∧ (∀ t f, Spared (.vadd t f)) ∧ (∀ t f, Spared (.vsub t f)) ∧ (∀ t f, Spared (.vmul t f)) ∧
    (∀ t f, Spared (.vfma t f)) ∧ (∀ t f, Spared (.vfms t f)) ∧ (∀ t f, Spared (.vfnma t f)) ∧ (∀ t f, Spared (.vmin t f)) ∧
    (∀ t f, Spared (.vmax t f)) ∧ (∀ t f, Spared (.vabs t f)) ∧ (∀ t f, Spared (.vneg t f)) ∧ (∀ t f, Spared (.vrcp t f)) ∧
    (∀ t f, Spared (.vrsq t f)) ∧ (∀ t f, Spared (.vcmpeq t f)) ∧ (∀ t f, Spared (.vcmplt t f)) ∧ (∀ t f, Spared (.vcmple t f)) ∧
    (∀ t f, Spared (.vcvt t f)) ∧ (∀ t f, Spared (.vsel t f)) ∧ (∀ t f, Spared (.vcmul t f)) ∧ (∀ t f, Spared (.vcfma t f)) ∧
    (∀ t f, Spared (.vconj t f)) ∧ (∀ t f, Spared (.viadd t f)) ∧ (∀ t f, Spared (.visub t f)) ∧ (∀ t f, Spared (.vimul t f)) ∧
    (∀ t f, Spared (.vand t f)) ∧ (∀ t f, Spared (.vor t f)) ∧ (∀ t f, Spared (.vxor t f)) ∧ (∀ t f, Spared (.vshl t f)) ∧
    (∀ t f, Spared (.vshr t f)) ∧ (∀ t f, Spared (.vsra t f)) ∧ (∀ t f, Spared (.vbcast t f)) ∧ (∀ t f, Spared (.vperm t f)) ∧
    (∀ t f, Spared (.vredsum t f)) ∧ (∀ t f, Spared (.sadd t f)) ∧ (∀ t f, Spared (.ssub t f)) ∧ (∀ t f, Spared (.smul t f)) ∧
    (∀ t f, Spared (.sand t f)) ∧ (∀ t f, Spared (.sor t f)) ∧ (∀ t f, Spared (.sxor t f)) ∧ (∀ t f, Spared (.sshl t f)) ∧
    (∀ t f, Spared (.sshr t f)) ∧ (∀ t f, Spared (.saddi t f)) ∧ (∀ t f, Spared (.sli t f)) ∧ (∀ t f, Spared (.slui t f)) ∧
    (∀ t f, Spared (.scmpeq t f)) ∧ (∀ t f, Spared (.scmplt t f)) ∧ (∀ t f, Spared (.smovv t f)) ∧ (∀ t f, Spared (.smovs t f)) ∧
    (∀ t f, Spared (.sstat t f)) ∧ (∀ t f, Spared (.pset t f)) ∧ (∀ t f, Spared (.pand t f)) ∧ (∀ t f, Spared (.por t f)) ∧
    (∀ t f, Spared (.pnot t f)) := by
  and_intros
  all_goals exact fun t f s => ⟨_, rfl, spares_slotV _ _ _ _⟩

@[simp] theorem slotA_spared :
    (∀ t f u, Spared (.ld t f u)) ∧ (∀ t f u, Spared (.st t f u)) ∧ (∀ t f u, Spared (.ldst t f u)) ∧
    (∀ t f u, Spared (.lds t f u)) ∧ (∀ t f u, Spared (.sts t f u)) := by
  and_intros
  all_goals exact fun t f u s => ⟨_, rfl, spares_slotA _ _ _ _ _⟩

@[simp] theorem anop_spared (t : TileIx) (f : AFields) : Spared (.anop t f) := fun _ => ⟨_, rfl, spares_slotA _ _ _ _ _⟩

@[simp] theorem bankctl_spared (t : TileIx) (mask : BitVec 16) (st : BitVec 2) : Spared (.bankctl t mask st) :=
  fun s => ⟨_, rfl, spares_slotOp fun x r => by simp [scarce_eq]⟩

@[simp] theorem slotX_spared :
    (∀ t c, Spared (.xnop t c)) ∧ (∀ t c d i h, Spared (.send t c d i h)) ∧ (∀ t c k i d, Spared (.vote t c k i d)) ∧
    (∀ t c q v, Spared (.psetu t c q v)) := by
  and_intros
  all_goals
    intros
    exact fun s => ⟨_, rfl, spares_slotOp fun x r => by simp [scarce_eq]⟩

@[simp] theorem slotP_spared :
    (∀ t, Spared (.pnop t)) ∧ (∀ t g l v, Spared (.issueV t g l v)) ∧ (∀ t m, Spared (.pord t m)) := by
  and_intros
  all_goals
    intros
    exact fun s => ⟨_, rfl, spares_slotOp fun x r => by simp [scarce_eq]⟩

@[simp] theorem issueA_spared (t : TileIx) (tag : Fin 16) (lat : BitVec 16) (a inc : BitVec 4) (u : Upset) :
    Spared (.issueA t tag lat a inc u) :=
  fun s => ⟨_, rfl, spares_slotReads fun x r => by simp [scarce_eq]⟩

@[simp] theorem emptyBundle_spared (t : TileIx) (u : Upsets) : Spared (.emptyBundle t u) :=
  fun _ => ⟨_, rfl, spares_withIssue fun _ _ _ => spares_ite trivial (spares_ite trivial spares_issueCycle)⟩

@[simp] theorem throttleBundle_spared (t : TileIx) (u : Upsets) : Spared (.throttleBundle t u) :=
  fun _ => ⟨_, rfl, spares_withIssue fun _ _ _ => spares_ite spares_issueCycle trivial⟩

@[simp] theorem fixedResultLand_spared (t : TileIx) : Spared (.fixedResultLand t) :=
  fun _ => ⟨_, rfl, spares_withIssue fun _ _ _ => spares_need (spares_openBundle fun _ hr => hr)⟩

/-! ### The pump's operations -/

@[simp] theorem runPump_spared :
    (∀ t tag f, Spared (.copy t tag f)) ∧ (∀ t tag f, Spared (.gather t tag f)) ∧ (∀ t tag f, Spared (.scatter t tag f)) ∧
    (∀ t tag f, Spared (.rmw t tag f)) ∧ (∀ t tag f, Spared (.segred t tag f)) ∧ (∀ t tag f, Spared (.stencil t tag f)) ∧
    (∀ t tag f, Spared (.spmv t tag f)) ∧ (∀ t tag f, Spared (.embed t tag f)) ∧ (∀ t tag f, Spared (.hist t tag f)) ∧
    (∀ t tag f, Spared (.compress t tag f)) ∧ (∀ t tag f, Spared (.expand t tag f)) ∧ (∀ t tag f, Spared (.convert t tag f)) ∧
    (∀ t tag f, Spared (.merge t tag f)) := by
  and_intros
  · exact fun t g f s => ⟨_, rfl, spares_runPump fun _ => Holds.evalCopy⟩
  · exact fun t g f s => ⟨_, rfl, spares_runPump fun _ => Holds.evalGather⟩
  · exact fun t g f s => ⟨_, rfl, spares_runPump fun _ => Holds.evalScatter⟩
  · exact fun t g f s => ⟨_, rfl, spares_runPump fun _ => Holds.evalRmw⟩
  · exact fun t g f s => ⟨_, rfl, spares_runPump fun _ => Holds.evalSegred⟩
  · exact fun t g f s => ⟨_, rfl, spares_runPump fun _ => Holds.evalStencil⟩
  · exact fun t g f s => ⟨_, rfl, spares_runPump fun _ => Holds.evalSpmv⟩
  · exact fun t g f s => ⟨_, rfl, spares_runPump fun _ => Holds.evalEmbed⟩
  · exact fun t g f s => ⟨_, rfl, spares_runPump fun _ => Holds.evalHist⟩
  · exact fun t g f s => ⟨_, rfl, spares_runPump fun _ => Holds.evalCompress⟩
  · exact fun t g f s => ⟨_, rfl, spares_runPump fun _ => Holds.evalExpand⟩
  · exact fun t g f s => ⟨_, rfl, spares_runPump fun _ => Holds.evalConvert⟩
  · exact fun t g f s => ⟨_, rfl, spares_runPump fun _ => Holds.evalMerge⟩

end Sys2Proof.Proofs
end

section
/-! PROOFS. The commands that take nothing scarce: events, and requests to the dictionary (R482, R532, R599, R600). -/

namespace Sys2Proof.Proofs

open Sys2Proof Sys2Proof.Machine Sys2Proof.Laws

/-! ### Events -/

/-- The events of the interrupt controller, of the mesh and of the fabric. -/
@[simp] theorem interruptEvents_spared :
    (∀ n cond, Spared (.sourceOccurrence n cond)) ∧ (∀ t, Spared (.notification t)) ∧
    (∀ t g holdoff, Spared (.moderationTimeExpiry t g holdoff)) ∧ (∀ d, Spared (.domainSleep d)) ∧
    (∀ d pmeEn, Spared (.domainWake d pmeEn)) ∧ (∀ n, Spared (.vc0Eject n)) ∧ (∀ r ix j, Spared (.reportMerge r ix j)) ∧
    (∀ src job msg, Spared (.dictReassemblyTimeout src job msg)) ∧ (∀ job peer, Spared (.keyxResend job peer)) ∧
    (∀ job peer, Spared (.keyRetainExpiry job peer)) ∧ (∀ ch unit, Spared (.pushRetryExpiry ch unit)) ∧
    (∀ l lanes, Spared (.linkUp l lanes)) ∧ (∀ l lane, Spared (.linkDown l lane)) ∧ (∀ l lane, Spared (.spareSwap l lane)) ∧
    (∀ l pause, Spared (.priorityFlowControl l pause)) ∧ (∀ l ok, Spared (.macMergeVerification l ok)) := by
  and_intros
  all_goals
    intros
    refine fun s => ⟨_, rfl, ?_⟩
    simp only [need, needSome]
    (repeat' split) <;> simp

/-- The events of the pump, of the extents, of regulation and of the wells and the reservoir. -/
@[simp] theorem memoryEvents_spared :
    (∀ who tag, Spared (.fillResponse who tag)) ∧ (∀ at_ own, Spared (.holdExpiry at_ own)) ∧
    (∀ t tag, Spared (.pumpComplete t tag)) ∧ (∀ t tag, Spared (.pumpOwlExpiry t tag)) ∧
    (∀ t tag, Spared (.pumpTagReset t tag)) ∧ (∀ slot who, Spared (.extInvalidate slot who)) ∧
    (∀ slot, Spared (.invalidationDone slot)) ∧ (∀ k cls, Spared (.regSlot k cls)) ∧ (∀ k, Spared (.monWindowEnd k)) ∧
    (∀ slot, Spared (.sdiWindowEnd slot)) ∧ (∀ a k who bad, Spared (.wellAccess a k who bad)) ∧
    (∀ w shaft bank, Spared (.refresh w shaft bank)) ∧ (∀ w bad, Spared (.patrolScrub w bad)) ∧
    (∀ w shaft bank row, Spared (.rowRepair w shaft bank row)) ∧ (∀ w shaft spare, Spared (.remapStart w shaft spare)) ∧
    (∀ p, Spared (.remapCopyEnd p)) ∧ (∀ a k who f, Spared (.cisternAccess a k who f)) ∧ (∀ c, Spared (.rollKeyLoad c)) ∧
    (∀ c ix, Spared (.rebuild c ix)) := by
  and_intros
  all_goals
    intros
    refine fun s => ⟨_, rfl, ?_⟩
    simp only [need, needSome]
    (repeat' split) <;> simp

/-- The events of the wave, of the dens and of the host's queues. -/
@[simp] theorem denEvents_spared :
    (∀ t d, Spared (.relayArrival t d)) ∧ (∀ slot waited, Spared (.resumeSignalSend slot waited)) ∧
    (∀ t, Spared (.resumeSignal t)) ∧ (∀ t, Spared (.resumeCountdownExpiry t)) ∧
    (∀ slot frozen, Spared (.streamOwlExpiry slot frozen)) ∧ (∀ p, Spared (.seamFollowEngage p)) ∧
    (∀ cycles, Spared (.seamFollowRelease cycles)) ∧ (∀ fails, Spared (.seamTraining fails)) ∧
    (∀ slot ran, Spared (.settFreeze slot ran)) ∧ (∀ slot, Spared (.denFrozen slot)) ∧ (∀ slot, Spared (.drainEnd slot)) ∧
    (∀ slot ix f, Spared (.scrubEnd slot ix f)) ∧ (∀ slot, Spared (.cmdComplete slot)) ∧ (∀ slot, Spared (.stepEnd slot)) ∧
    (∀ page v, Spared (.submissionDoorbell page v)) ∧ (∀ page v, Spared (.completionDoorbell page v)) ∧
    (∀ q entry batch, Spared (.step q entry batch)) ∧ (∀ q entry, Spared (.fenceEntry q entry)) ∧
    (∀ q, Spared (.waitOwlExpiry q)) ∧ (∀ q, Spared (.completionRecordWrite q)) := by
  and_intros
  all_goals
    intros
    refine fun s => ⟨_, rfl, ?_⟩
    simp only [need, needSome]
    (repeat' split) <;> simp

/-- The events of repair, trust, resets, the meter, bring-up, power and the dictionary. -/
@[simp] theorem moduleEvents_spared :
    (∀ t, Spared (.parityError t)) ∧ (∀ p r, Spared (.routerFault p r)) ∧ (∀ cmd, Spared (.mctpControl cmd)) ∧
    (∀ vendorOk bytes, Spared (.vendorDictMessage vendorOk bytes)) ∧ (∀ f, Spared (.pldmFirmwareUpdate f)) ∧
    (∀ l, Spared (.linkOwlExpiry l)) ∧ (∀ core, Spared (.settHeartbeatExpiry core)) ∧
    (∀ seam aon, Spared (.leaseRenewal seam aon)) ∧
    (∀ seamLapsed aonLapsed late, Spared (.leaseCheck seamLapsed aonLapsed late)) ∧
    (∀ meterSide ms, Spared (.meterLinkLost meterSide ms)) ∧ (∀ gapTicks ms, Spared (.unmeteredReceipt gapTicks ms)) ∧
    (∀ mJ ticks, Spared (.energySample mJ ticks)) ∧ (∀ sel off, Spared (.powerOn sel off)) ∧
    (∀ rails, Spared (.gainCorrection rails)) ∧ (∀ h tripped deep, Spared (.droopTrip h tripped deep)) ∧
    (∀ h cycles, Spared (.stretchDecay h cycles)) ∧ (∀ low, Spared (.pwrBrake low)) ∧ (∀ g raw, Spared (.sensorSample g raw)) ∧
    (∀ q, Spared (.dictOwlExpiry q)) ∧ (∀ tr, Spared (.getMeasurements tr)) := by
  and_intros
  all_goals
    intros
    refine fun s => ⟨_, rfl, ?_⟩
    simp only [need, needSome]
    (repeat' split) <;> simp

/-- The events whose first choice is one between two states. -/
@[simp] theorem branchEvents_spared :
    (∀ t v, Spared (.icComplete t v)) ∧ (∀ c v who wide, Spared (.mbxData c v who wide)) ∧ (∀ c v, Spared (.mbxAck c v)) ∧
    (∀ c v, Spared (.mbxCfg c v)) ∧ (∀ v mask, Spared (.msiXVectorControl v mask)) ∧ (∀ p v, Spared (.hifDrqTail p v)) ∧
    (∀ p v, Spared (.hifDrsHead p v)) ∧ (∀ b, Spared (.configurationRequest b)) ∧ (∀ ok, Spared (.persistCommit ok)) ∧
    (∀ c ok, Spared (.rebuildEnd c ok)) ∧ (∀ t, Spared (.drainCycle t)) := by
  and_intros
  all_goals
    intros
    refine fun s => ⟨_, rfl, ?_⟩
    dsimp only
    (repeat' split) <;> simp

/-- The events that always occur. -/
@[simp] theorem plainEvents_spared :
    (∀ t, Spared (.icClaim t)) ∧ (∀ t v, Spared (.icThresh t v)) ∧ (∀ pasid base len, Spared (.atsInvalidate pasid base len)) ∧
    (∀ p v, Spared (.hifDctl p v)) := by
  and_intros
  all_goals
    intros
    refine fun s => ⟨.next _, rfl, ?_⟩
    (repeat' split) <;> simp

/-! ### Requests to the dictionary -/

@[simp] theorem dictReads_spared :
    (∀ q, Spared (.dictRead q)) ∧ (∀ q, Spared (.dictSnapshot q)) := by
  and_intros
  all_goals
    intros
    refine fun s => ⟨_, rfl, spares_request fun id u => ?_⟩
    dsimp only
    (repeat' split) <;> simp [scarce_eq]

/-- The writes whose work is a choice between refusals and one change of the state. -/
@[simp] theorem dictWrites_spared :
    (∀ q v, Spared (.extGrant q v)) ∧ (∀ q v, Spared (.extRevoke q v)) ∧ (∀ q v, Spared (.extResize q v)) ∧
    (∀ q v, Spared (.endpointId q v)) ∧ (∀ q v, Spared (.routeSet q v)) ∧ (∀ q v, Spared (.pushChCreate q v)) ∧
    (∀ q v, Spared (.logSelect q v)) ∧ (∀ q v, Spared (.custodySelect q v)) ∧ (∀ q v, Spared (.logClear q v)) ∧
    (∀ q v, Spared (.queueCreate q v)) ∧ (∀ q v, Spared (.queueDestroy q v)) ∧ (∀ q v, Spared (.fenCreate q v)) ∧
    (∀ q v, Spared (.fenRef q v)) ∧ (∀ q v, Spared (.fenUnref q v)) ∧ (∀ q v, Spared (.fenExport q v)) ∧
    (∀ q v, Spared (.ownerTeardown q v)) ∧ (∀ q v, Spared (.aperMap q v)) ∧ (∀ q v, Spared (.aperUnmap q v)) ∧
    (∀ q v, Spared (.fenceTile q v)) ∧ (∀ q v, Spared (.unfenceTile q v)) ∧ (∀ q v, Spared (.dumpCfg q v)) ∧
    (∀ q v, Spared (.defaultsRestore q v)) ∧ (∀ q v sigOk, Spared (.calImport q v sigOk)) ∧ (∀ q v, Spared (.seamCtl q v)) := by
  and_intros
  all_goals
    intros
    refine fun s => ⟨_, rfl, spares_requestOf fun id u => ?_⟩
    dsimp only
    (repeat' split) <;> simp [scarce_eq]

end Sys2Proof.Proofs
end

section
/-! PROOFS. The writes to the dictionary, and steps, push units, meter frames and fence signals, take nothing scarce (R482, R532, R599, R600). -/

namespace Sys2Proof.Proofs

open Sys2Proof Sys2Proof.Machine Sys2Proof.Laws

/-! ### Writes and enumeration -/

@[simp] theorem rollReq_spared (q : Req) (v : List Byte) : Spared (.rollReq q v) := by
  refine fun s => ⟨_, rfl, spares_requestOf fun id u => ?_⟩
  (repeat' split) <;> simp [scarce_eq]

@[simp] theorem routeClear_spared (q : Req) (v : List Byte) : Spared (.routeClear q v) := by
  refine fun s => ⟨_, rfl, spares_requestOf fun id u => ?_⟩
  split <;> simp [scarce_eq]

@[simp] theorem dictEnumeration_spared : (∀ q, Spared (.dictDescribe q)) ∧ (∀ q, Spared (.dictNext q)) := by
  and_intros
  all_goals
    intros
    refine fun s => ⟨_, rfl, spares_request fun id u => ?_⟩
    split <;> simp [scarce_eq]

/-- The writes to an element among several, with a choice between refusals and a change of the state. -/
@[simp] theorem rangedWrites_spared :
    (∀ q v, Spared (.remapReq q v)) ∧ (∀ q v, Spared (.guarantee q v)) ∧ (∀ q v, Spared (.calibrationWrite q v)) := by
  and_intros
  all_goals
    intros
    refine fun s => ⟨_, rfl, spares_need (spares_request fun id u => ?_)⟩
    dsimp only
    (repeat' split) <;> simp [scarce_eq]

@[simp] theorem plainWrites_spared : (∀ q v, Spared (.dictWrite q v)) ∧ (∀ q v, Spared (.linkEnable q v)) := by
  and_intros
  all_goals exact fun q v s => ⟨_, rfl, spares_need (spares_request fun id u => by simp [scarce_eq])⟩

@[simp] theorem fenceSend_spared (q : Req) (v : List Byte) : Spared (.fenceSend q v) := by
  refine fun s => ⟨_, rfl, spares_requestOf fun id u => ?_⟩
  dsimp only
  split
  · rfl
  · split
    · rfl
    · split
      · rfl
      · split
        · rfl
        · rename_i t hsend
          rw [← sendMsg_scarce hsend]
          split <;> simp [scarce_eq]

@[simp] theorem repairApply_spared (q : Req) (v : List Byte) (f : MarchFacts) : Spared (.repairApply q v f) := by
  refine fun s => ⟨_, rfl, spares_requestOf fun id u => ?_⟩
  dsimp only
  split
  · rfl
  · split
    · rfl
    · split
      · rfl
      · have hplaces := fun l => scarce_eq.mp (marchPlaces_scarce u l)
        simp [scarce_eq, hplaces]

@[simp] theorem queueDiscard_spared (q : Req) (v : List Byte) (e : List HostRead) : Spared (.queueDiscard q v e) := by
  refine fun s => ⟨_, rfl, spares_need (spares_queueCtl fun n x u => ?_)⟩
  dsimp only
  split
  · rfl
  · simp [scarce_eq]

/-! ### Dens, push channels, the meter and fences -/

@[simp] theorem relocate_spared (p : MovePart) : Spared (.relocate p) := by
  refine fun s => ⟨_, rfl, spares_denWork fun c => ?_⟩
  dsimp only
  (repeat' split) <;> simp

@[simp] theorem stepStart_spared (i : SlotIx) (waited : Nat) : Spared (.stepStart i waited) := by
  refine fun s => ⟨_, rfl, spares_need ?_⟩
  simp only [needSome, need]
  split
  · split
    · split
      · split
        · split
          · simp
          · rename_i t hbatch
            have hparts := scarce_eq.mp (batchAll_scarce hbatch)
            simp [hparts]
        · trivial
      · split
        · simp
        · rename_i t hbatch
          have hparts := scarce_eq.mp (admitBatch_scarce hbatch)
          split <;> simp [hparts]
    · trivial
  · trivial

@[simp] theorem pushPoll_spared (ch : Fin 64) (ms : List LineMeet) : Spared (.pushPoll ch ms) := by
  refine fun s => ⟨_, rfl, ?_⟩
  have hunits := fun (u : State) => scarce_eq.mp (sendUnits_scarce u ch.val ms)
  simp only [need, needSome]
  (repeat' split) <;> simp [hunits]

@[simp] theorem meterFrame_spared (f : MeterFrame) : Spared (.meterFrame f) := by
  refine fun s => ⟨_, rfl, ?_⟩
  have hmirror := fun (u : State) => scarce_eq.mp (mirror_scarce u)
  simp only [need]
  (repeat' split) <;> simp [hmirror]

@[simp] theorem fenSignal_spared (f : FenIx) (v : BitVec 64) (w : Bool) : Spared (.fenSignal f v w) :=
  fun s => ⟨_, rfl, spares_next.mpr (by simp)⟩
@[simp] theorem fenSignalAlias_spared (f : FenIx) (v : BitVec 64) (w : Bool) : Spared (.fenSignalAlias f v w) :=
  fun s => ⟨_, rfl, spares_next.mpr (by simp)⟩

end Sys2Proof.Proofs
end

section
/-! PROOFS. The commands of lines, the wave, the reservoir, the fabric and the slots take nothing scarce (R482, R532, R599, R600). -/

namespace Sys2Proof.Proofs

open Sys2Proof Sys2Proof.Machine Sys2Proof.Laws

/-! ### Pump lines and the wave -/

section
variable {s : State}

theorem pumpHit_scarce {s : State} {t va : Nat} {e : Extent} {u : State} (h : s.pumpHit t va = some (e, u)) : u.scarce = s.scarce := by
  simp only [State.pumpHit, Option.map_eq_some_iff] at h
  obtain ⟨g, -, hpair⟩ := h
  cases hpair
  simp [scarce_eq]

theorem spares_lineRequest {slot t tag n : Nat} {loc : BitVec 64} {k : LineKind} {op : TagOp} :
    Spares s (lineRequest slot t tag loc k n op s) := by
  unfold lineRequest
  dsimp only
  split
  · exact spares_need (by simp)
  · refine spares_need ?_
    split
    · exact spares_need (by simp)
    · rename_i e u hhit
      have hu := scarce_eq.mp (pumpHit_scarce hhit)
      refine spares_ite (by simp [hu]) <| spares_need ?_
      split
      · exact spares_need (by simp [hu])
      · exact spares_need (by simp [hu])
      · exact spares_need <| spares_ite (by simp [hu]) <| spares_need (by simp [hu])
      · refine spares_need <| spares_ite (by simp [hu]) ?_
        split
        · trivial
        · exact spares_need (by simp [hu])

end

@[simp] theorem pumpLineRequest_spared (t : TileIx) (loc : BitVec 64) (k : LineAsk) : Spared (.pumpLineRequest t loc k) := by
  refine fun s => ⟨_, rfl, spares_needSome fun slot _ => ?_⟩
  dsimp only
  split
  · exact spares_needSome fun op _ => spares_need <| spares_congr (by simp [scarce_eq]) spares_lineRequest
  · exact spares_needSome fun tag _ => spares_need <| spares_needSome fun op _ => spares_lineRequest

@[simp] theorem pumpLineResponse_spared (t : TileIx) (tag : Fin 16) (own : Bool) (st : Code) (loc : BitVec 64) (data : List Byte)
    (delayed : Bool) : Spared (.pumpLineResponse t tag own st loc data delayed) := by
  have hlands := fun (u : State) (slot : Nat) (z : LineSlot) (c : Code) (bs : List Byte) =>
    scarce_eq.mp (lineLands_scarce u slot t.val tag.val z c bs)
  refine fun s => ⟨_, rfl, spares_needSome fun slot _ => spares_needSome fun z _ => spares_need ?_⟩
  extract_lets failed v
  split
  · exact spares_need (by simp)
  · refine spares_need ?_
    split
    rename_i h u hmark
    obtain rfl := snd_of_eq hmark
    refine spares_need ?_
    extract_lets put w x y
    have hx := scarce_eq.mp (show x.scarce = s.scarce by unfold x; split <;> simp [scarce_eq, w, v])
    split
    · simp [hlands, hx]
    · have hy := scarce_eq.mp (show y.scarce = s.scarce by unfold y; split <;> simp [scarce_eq, hx])
      simp [hlands, hy]
    · exact spares_next.mpr hx

@[simp] theorem freezeSignal_spared (t : TileIx) (came : Dir) : Spared (.freezeSignal t came) := by
  refine fun s => ⟨_, rfl, spares_needSome fun slot _ => spares_needSome fun a ha => ?_⟩
  have hsame := scarce_eq.mp (takeSignal_scarce ha)
  refine spares_need ?_
  split
  · exact spares_next.mpr hsame
  · exact spares_need (by simp [hsame])

@[simp] theorem clearReport_spared (t : TileIx) (came : Dir) : Spared (.clearReport t came) := by
  refine fun s => ⟨_, rfl, spares_needSome fun slot _ => spares_needSome fun a ha => spares_needSome fun f _ => ?_⟩
  have hsame := scarce_eq.mp (takeSignal_scarce ha)
  dsimp only
  split
  · split <;> simp [hsame]
  · simp [hsame]

@[simp] theorem sweepStep_spared (c : CisIx) (f : CisFacts) : Spared (.sweepStep c f) := by
  refine fun s => ⟨_, rfl, ?_⟩
  split
  · trivial
  · refine spares_need ?_
    extract_lets x page
    clear_value page
    split
    · simp
    · split
      · rename_i l u hverify
        obtain rfl := snd_of_eq hverify
        simp
      · rename_i u hverify
        obtain rfl := snd_of_eq hverify
        extract_lets v w y
        have hw : w.scarce = s.scarce := by simp [scarce_eq, w, v]
        refine spares_congr hw ?_
        clear_value w
        refine spares_ite (by simp) ?_
        split
        · rename_i l z hread
          obtain rfl := snd_of_eq hread
          simp
        · rename_i z hread
          obtain rfl := snd_of_eq hread
          simp

@[simp] theorem rollEnd_spared : Spared .rollEnd := by
  refine fun s => ⟨_, rfl, spares_need ?_⟩
  simp

@[simp] theorem routeCompute_spared : Spared .routeCompute :=
  fun s => ⟨_, rfl, spares_need (by simp)⟩

/-! ### Window and fabric -/

@[simp] theorem busyResend_spared (l : LinkIx) (tx : Nat) : Spared (.busyResend l tx) := by
  refine fun s => ⟨_, rfl, spares_needSome fun t _ => ?_⟩
  have hretry := fun (u : State) => scarce_eq.mp (retryWaiting_scarce u)
  split
  · simp [hretry]
  · split
    · simp
    · dsimp only
      split
      · rename_i u hsend
        have hsent := scarce_eq.mp (sendOn_scarce hsend)
        simp [hsent]
      · simp [hretry]

@[simp] theorem windowOwlExpiry_spared (l : LinkIx) (tx : Nat) : Spared (.windowOwlExpiry l tx) := by
  refine fun s => ⟨_, rfl, spares_needSome fun t _ => ?_⟩
  have hretry := fun (u : State) => scarce_eq.mp (retryWaiting_scarce u)
  dsimp only
  split <;> simp [hretry]

@[simp] theorem dictSegment_spared (l : LinkIx) : Spared (.dictSegment l) := by
  refine fun s => ⟨_, rfl, spares_takeRx fun f u => ?_⟩
  dsimp only
  (repeat' split) <;> simp

@[simp] theorem frameReceive_spared (l : LinkIx) (f : Frame) (ok : Bool) (key : TagKey) : Spared (.frameReceive l f ok key) := by
  refine fun s => ⟨_, rfl, spares_need ?_⟩
  refine spares_ite (by simp) <| spares_ite (by simp) <| spares_ite (by simp) <| spares_ite (by simp) <| spares_ite ?_ ?_
  · exact spares_ite (by simp) (by simp)
  · split
    · simp
    · refine spares_ite (by simp) <| spares_ite (by simp) <| spares_need <| spares_ite (by simp) ?_
      split
      · simp
      · exact spares_ite (by simp) <| spares_ite (by simp) (by simp)

@[simp] theorem rsp_spared (l : LinkIx) : Spared (.rsp l) := by
  refine fun s => ⟨_, rfl, spares_takeRx fun f u => ?_⟩
  have hretry := fun (u : State) => scarce_eq.mp (retryWaiting_scarce u)
  dsimp only
  (repeat' split) <;> simp [hretry]

@[simp] theorem fenceFrame_spared (l : LinkIx) : Spared (.fenceFrame l) :=
  fun s => ⟨_, rfl, spares_takeRx fun f u => by simp⟩

@[simp] theorem keyx_spared (l : LinkIx) (digest : BitVec 256) (ok : Bool) : Spared (.keyx l digest ok) := by
  refine fun s => ⟨_, rfl, spares_takeRx fun f u => spares_need ?_⟩
  extract_lets member known older ours accept v
  have hv : v.scarce = u.scarce := by
    unfold v
    clear_value known
    split
    · split <;> simp [scarce_eq]
    · rfl
  refine spares_ite (by simp) <| spares_ite (by simp) <| spares_congr hv <| spares_ite (by simp) ?_
  exact completeKeyx_scarce _ _ _ _

@[simp] theorem keyend_spared (l : LinkIx) : Spared (.keyend l) :=
  fun s => ⟨_, rfl, spares_takeRx fun f u => by simp⟩

@[simp] theorem pcommit_spared (l : LinkIx) : Spared (.pcommit l) := by
  refine fun s => ⟨_, rfl, spares_takeRx fun f u => ?_⟩
  dsimp only
  (repeat' split) <;> simp

@[simp] theorem pack_spared (l : LinkIx) : Spared (.pack l) := by
  refine fun s => ⟨_, rfl, spares_takeRx fun f u => ?_⟩
  dsimp only
  (repeat' split) <;> simp

@[simp] theorem pdone_spared (l : LinkIx) : Spared (.pdone l) := by
  refine fun s => ⟨_, rfl, spares_takeRx fun f u => ?_⟩
  dsimp only
  split <;> simp

/-! ### Slots -/
@[simp] theorem holdAdd_spared (q : Req) (v : List Byte) : Spared (.holdAdd q v) := by
  refine fun s => ⟨_, rfl, spares_slotRequest fun slot id u => ?_⟩
  (repeat' split) <;> simp [scarce_eq]

@[simp] theorem heldWrites_spared : (∀ q v, Spared (.holdRemove q v)) ∧ (∀ q v, Spared (.saveArea q v)) ∧
    (∀ q v, Spared (.linkBudget q v)) := by
  and_intros
  all_goals
    intros
    refine fun s => ⟨_, rfl, spares_slotRequest fun slot id u => ?_⟩
    extract_lets
    (repeat' split) <;> simp [scarce_eq]

@[simp] theorem bankCtl_spared (q : Req) (v : List Byte) : Spared (.bankCtl q v) := by
  refine fun s => ⟨_, rfl, spares_slotRequest fun slot id u => ?_⟩
  extract_lets
  split
  · rfl
  · split
    · split <;> rfl
    · split
      · rfl
      · exact foldl_scarce (fun t n => by simp [scarce_eq]) _ _

/-! ### Host -/
@[simp] theorem functionLevelReset_spared : Spared .functionLevelReset := by
  refine fun s => ⟨.next _, rfl, ?_⟩
  simp
@[simp] theorem d3hotEntry_spared : Spared .d3hotEntry := fun s => ⟨_, rfl, spares_need (by simp)⟩
@[simp] theorem d0Return_spared : Spared .d0Return := fun s => ⟨_, rfl, spares_need (by simp)⟩

end Sys2Proof.Proofs
end

section
/-! PROOFS. The commands of the host port, keys, push, trust, the meter, power and repair take nothing scarce (R482, R532, R599, R600). -/

namespace Sys2Proof.Proofs

open Sys2Proof Sys2Proof.Machine Sys2Proof.Laws

@[simp] theorem atsTranslation_spared (pasid : BitVec 20) (page : BitVec 64) (rd wr : Bool) (xlat : BitVec 64) :
    Spared (.atsTranslation pasid page rd wr xlat) := by
  refine fun s => ⟨_, rfl, spares_need ?_⟩
  extract_lets mine e h k u stuck
  have hu : u.scarce = s.scarce := by
    unfold u k
    split <;> simp [scarce_eq, h, e]
  refine (foldl_scarce (fun w t => ?_) _ _).trans hu
  refine (foldl_scarce (fun x z => by simp [scarce_eq]) _ _).trans ?_
  split <;> simp [scarce_eq]

@[simp] theorem apertureAccess_spared (off : BitVec 42) (k : Access) (m : LineMeet) : Spared (.apertureAccess off k m) := by
  refine fun s => ⟨_, rfl, spares_need ?_⟩
  dsimp only
  split
  · rename_i u haper
    obtain rfl := snd_of_eq haper
    split <;> simp
  · rename_i t u haper
    obtain rfl := snd_of_eq haper
    (repeat' split) <;> simp

@[simp] theorem windowCommands_spared : (∀ q v, Spared (.winOpen q v)) ∧ (∀ q v, Spared (.winClose q v)) := by
  and_intros
  all_goals
    intros
    refine fun s => ⟨_, rfl, spares_need (spares_request fun id u => ?_)⟩
    extract_lets
    (repeat' split) <;> simp [scarce_eq]

@[simp] theorem slotOwner_spared (q : Req) (v : List Byte) : Spared (.slotOwner q v) :=
  fun _ => ⟨_, rfl, spares_need (spares_request fun _ _ => rfl)⟩

@[simp] theorem empty_spared (p : PageIx) : Spared (.empty p) := by
  refine fun s => ⟨.next _, rfl, ?_⟩
  split <;> simp

/-! ### Queues -/

@[simp] theorem queueStop_spared (q : Req) (v : List Byte) : Spared (.queueStop q v) := by
  refine fun s => ⟨_, rfl, spares_queueCtl fun n x u => ?_⟩
  split <;> simp [scarce_eq]

@[simp] theorem queueStart_spared (q : Req) (v : List Byte) : Spared (.queueStart q v) := by
  refine fun s => ⟨_, rfl, spares_queueCtl fun n x u => ?_⟩
  split <;> simp [scarce_eq]

/-! ### Keys and push -/

@[simp] theorem keyInstall_spared (q : Req) (v : List Byte) : Spared (.keyInstall q v) := by
  refine fun s => ⟨_, rfl, spares_need (spares_request fun id u => ?_)⟩
  have hkeys := fun (job peer : Nat) (inc : BitVec 64) (r : Bool) (tx rx : BitVec 256) =>
    scarce_eq.mp (newKeys_scarce u job peer inc r tx rx)
  extract_lets
  (repeat' split) <;> simp [scarce_eq, hkeys]

@[simp] theorem pushStart_spared (q : Req) (v : List Byte) : Spared (.pushStart q v) := by
  refine fun s => ⟨_, rfl, spares_chanCtl fun c x u => ?_⟩
  extract_lets
  split <;> simp [scarce_eq]

@[simp] theorem retarget_spared (q : Req) (v : List Byte) : Spared (.retarget q v) := by
  refine fun s => ⟨_, rfl, spares_chanCtl fun c x u => ?_⟩
  (repeat' split) <;> simp [scarce_eq]

@[simp] theorem pushEnds_spared : (∀ q v, Spared (.pushStop q v)) ∧ (∀ q v, Spared (.pushDestroy q v)) := by
  and_intros
  all_goals
    intros
    refine fun s => ⟨_, rfl, spares_chanCtl fun c x u => ?_⟩
    split <;> simp [scarce_eq]

@[simp] theorem pushRelease_spared (q : Req) (v : List Byte) : Spared (.pushRelease q v) := by
  refine fun s => ⟨_, rfl, spares_need (spares_request fun id u => ?_)⟩
  split <;> simp [scarce_eq]

/-! ### Interrupts -/

@[simp] theorem icSrcCfg_spared (r : IcReg) (v : BitVec 64) (who : Writer) : Spared (.icSrcCfg r v who) := by
  refine fun s => ⟨_, rfl, ?_⟩
  split
  · split <;> simp
  · simp
  · simp

@[simp] theorem clr_spared (n : Fin 2048) (v : BitVec 64) : Spared (.clr n v) := by
  refine fun s => ⟨_, rfl, ?_⟩
  split <;> simp

/-! ### Trust -/

/-- A free key is not one of the scarce things. -/
@[simp] theorem freeKey_scarce (s : State) : s.freeKey.2.scarce = s.scarce := rfl

@[simp] theorem lcRequests_spared : (∀ q v, Spared (.lcDeploy q v)) ∧ (∀ q v ok, Spared (.lcReturn q v ok)) ∧
    (∀ q v, Spared (.lcScrap q v)) :=
  ⟨fun _ _ _ => ⟨_, rfl, spares_lcRequest⟩, fun _ _ _ _ => ⟨_, rfl, spares_lcRequest⟩, fun _ _ _ => ⟨_, rfl, spares_lcRequest⟩⟩

@[simp] theorem securedDictMessage_spared (id : Nat) (ok : Bool) (bs : List Byte) : Spared (.securedDictMessage id ok bs) := by
  refine fun s => ⟨_, rfl, spares_onDoe ?_⟩
  (repeat' split) <;> simp

@[simp] theorem keyProg_spared (id : Nat) (n : Fin 9) (set : Bool) : Spared (.keyProg id n set) :=
  fun s => ⟨_, rfl, spares_onDoe (by simp [scarce_eq.mp (freeKey_scarce s)])⟩

@[simp] theorem kSetGo_spared (id : Nat) (n : Fin 9) (set : Bool) : Spared (.kSetGo id n set) := by
  refine fun s => ⟨_, rfl, spares_onDoe ?_⟩
  extract_lets k x
  change State.scarce _ = s.scarce
  split <;> simp [scarce_eq]

@[simp] theorem kSetStop_spared (id : Nat) (n : Fin 9) (set : Bool) : Spared (.kSetStop id n set) :=
  fun s => ⟨_, rfl, spares_onDoe (by simp)⟩

@[simp] theorem tdisps_spared : (∀ id n, Spared (.lockInterfaceRequest id n)) ∧ (∀ id n, Spared (.startInterfaceRequest id n)) ∧
    (∀ id n, Spared (.stopInterfaceRequest id n)) :=
  ⟨fun _ _ _ => ⟨_, rfl, spares_tdisp⟩, fun _ _ _ => ⟨_, rfl, spares_tdisp⟩, fun _ _ _ => ⟨_, rfl, spares_tdisp⟩⟩

/-! ### Meter -/

@[simp] theorem meterPairing_spared (a b : Bool) : Spared (.meterPairing a b) := by
  have hkey := fun u : State => scarce_eq.mp (freeKey_scarce u)
  exact fun s => ⟨_, rfl, spares_need (spares_need (spares_ite (by simp) (by simp [hkey])))⟩

@[simp] theorem meterSealOpen_spared : Spared .meterSealOpen := fun s => ⟨_, rfl, spares_need (by simp)⟩

@[simp] theorem periodReceipt_spared : Spared .periodReceipt := fun s => ⟨_, rfl, spares_need (spares_need (by simp))⟩

/-! ### Power -/

@[simp] theorem powerEval_spared (f : PowerFacts) : Spared (.powerEval f) := by
  refine fun s => ⟨_, rfl, spares_need ?_⟩
  simp

@[simp] theorem stepChangeSettled_spared : Spared .stepChangeSettled :=
  fun s => ⟨_, rfl, spares_needSome fun k _ => spares_need (by simp)⟩

@[simp] theorem brakeEnd_spared : Spared .brakeEnd := fun s => ⟨_, rfl, spares_need (by simp)⟩

@[simp] theorem inputSag_spared : Spared .inputSag := fun s => ⟨_, rfl, spares_need (by simp)⟩

@[simp] theorem sagEnd_spared : Spared .sagEnd := fun s => ⟨_, rfl, spares_need (by simp)⟩

@[simp] theorem thermalLevelTick_spared (r : Bool) : Spared (.thermalLevelTick r) := by
  refine fun s => ⟨_, rfl, spares_need ?_⟩
  -- a variable in the place of a condition on rationals, so that it is not unfolded
  refine spares_ite ?_ ?_
  · generalize (List.any _ _ || _) = hot
    exact spares_need (by simp)
  · generalize (List.all _ _ && _) = cool
    exact spares_need (by simp)

@[simp] theorem tripCooldown_spared : Spared .tripCooldown := by
  refine fun s => ⟨_, rfl, spares_need ?_⟩
  generalize (List.all _ _ && _) = cool
  exact spares_need (by simp)

@[simp] theorem regulatorTimeout_spared (r : Fin 15) : Spared (.regulatorTimeout r) := by
  refine fun s => ⟨_, rfl, ?_⟩
  split <;> simp

@[simp] theorem perstDeassert_spared : Spared .perstDeassert := fun s => ⟨_, rfl, spares_need (by simp)⟩

/-! ### Repair -/

@[simp] theorem marchRuns_spared : (∀ q v, Spared (.marchDestructive q v)) ∧ (∀ q v, Spared (.marchPreserving q v)) :=
  ⟨fun _ _ _ => ⟨_, rfl, spares_marchRun⟩, fun _ _ _ => ⟨_, rfl, spares_marchRun⟩⟩

@[simp] theorem marchEnd_spared (h : Half) (f : MarchFacts) : Spared (.marchEnd h f) := by
  refine fun s => ⟨_, rfl, spares_needSome fun m _ => spares_need ?_⟩
  split
  rename_i bad u htiles
  have hu : u.scarce = s.scarce := by
    rw [snd_of_eq htiles, marchTiles_scarce]
    simp [scarce_eq]
  refine spares_congr hu ?_
  extract_lets v tile repaired fenced hit w code ix bytes x
  have hv : v.scarce = u.scarce := by
    unfold v
    split <;> simp [scarce_eq]
  have hw := scarce_eq.mp hv
  simp [x, w, hw]

@[simp] theorem returnToService_spared (i : Nat) (ms : BitVec 32) (f : HalfFacts) : Spared (.returnToService i ms f) := by
  refine fun s => ⟨_, rfl, spares_needSome fun x _ => spares_need ?_⟩
  split
  · simp
  · simp
  · rename_i h _
    have hreturn := scarce_eq.mp (returnHalf_scarce s h f)
    refine spares_need ?_
    split <;> simp [hreturn]
  · trivial

end Sys2Proof.Proofs
end

section
/-! PROOFS. The commands of the dens, of bring-up, of inbound requests and of resets take nothing scarce (R482, R532, R599, R600). -/

namespace Sys2Proof.Proofs

open Sys2Proof Sys2Proof.Machine Sys2Proof.Laws

/-! ### What a saved state reads and writes -/

theorem haulRecord_scarce (s : State) (slot kind t base : Nat) (out : Bool) : (s.haulRecord slot kind t base out).scarce = s.scarce := by
  unfold State.haulRecord
  (repeat' split) <;> simp [scarce_eq]

theorem areaWrite_scarce (s : State) (ms : List LineMeet) (kind fuel a : Nat) (bs : List Byte) :
    (s.areaWrite ms kind fuel a bs).2.scarce = s.scarce := by simp [scarce_eq]

theorem areaRead_scarce (s : State) (ms : List LineMeet) (kind fuel a n : Nat) : (s.areaRead ms kind fuel a n).2.2.scarce = s.scarce := by
  simp [scarce_eq]

theorem readParts_scarce (s : State) (ms : List LineMeet) (kind : Nat) (recs : List Nat) (want : List (Nat × Nat × Nat)) :
    (s.readParts ms kind recs want).2.2.scarce = s.scarce := by
  refine foldl_keeps_of (fun acc : Code × List (Nat × Nat × List Byte) × State => acc.2.2.scarce) _ want (kOk, [], s) fun acc p => ?_
  dsimp only
  split
  · rfl
  · exact areaRead_scarce _ _ _ _ _ _

theorem findSave_scarce (s : State) (ms : List LineMeet) (kind : Nat) (recs : List Nat) (header : List Byte) :
    (s.findSave ms kind recs header).2.2.scarce = s.scarce := by
  unfold State.findSave
  split
  · exact readParts_scarce _ _ _ _ _
  · extract_lets
    split
    rename_i k heads u hread
    have hu : u.scarce = s.scarce := by rw [snd2_of_eq hread, readParts_scarce]
    split
    · dsimp only
      split
      · exact (readParts_scarce _ _ _ _ _).trans hu
      · exact hu
    · exact hu

theorem loadSave_scarce (s : State) (slot : Nat) (g : Image) (sh : Shape) (sv : Saved) : (s.loadSave slot g sh sv).scarce = s.scarce := by
  unfold State.loadSave
  extract_lets h flags tiles streams one u v q fifos seam w
  have hu : u.scarce = s.scarce := foldl_scarce (fun _ _ => by simp [scarce_eq, one]) _ _
  have hv : v.scarce = u.scarce := by
    unfold v
    split
    · refine foldl_scarce (fun x p => ?_) _ _
      split
      · exact areaWrite_scarce _ _ _ _ _ _
      · rfl
    · rfl
  have hparts := scarce_eq.mp (hv.trans hu)
  simp [scarce_eq, w, hparts]

theorem snd3_of_eq {α β γ δ : Type} {p : α × β × γ × δ} {a : α} {b : β} {c : γ} {d : δ} (h : p = (a, b, c, d)) : d = p.2.2.2 := by
  rw [h]

theorem writeSave_scarce (s : State) (ms : List LineMeet) (slot : Nat) (shafts : Bool) :
    (s.writeSave ms slot shafts).2.scarce = s.scarce := by
  unfold State.writeSave
  extract_lets d shaft
  split
  · rfl
  · extract_lets record put
    have hput : ∀ acc p, (put acc p).2.scarce = acc.2.scarce := fun acc p => by
      dsimp only [put]
      split
      · exact areaWrite_scarce _ _ _ _ _ _
      · rfl
    split
    rename_i k parts digests u hrecords
    have hu : u.scarce = s.scarce := by
      rw [snd3_of_eq hrecords]
      refine foldl_keeps_of (fun acc : Code × List (Nat × Nat × List Byte) × List Byte × State => acc.2.2.2.scarce) record _
        (kOk, [], [], s) fun acc p => ?_
      dsimp only [record]
      split
      · rfl
      · rw [haulRecord_scarce, recordParts_scarce]
    rw [← hu]
    extract_lets head header
    split
    rename_i c v hheader
    have hv : v.scarce = u.scarce := by
      rw [snd_of_eq hheader]
      split
      · exact areaWrite_scarce _ _ _ _ _ _
      · rfl
    split
    rename_i c' w hparts
    have hw : w.scarce = v.scarce := by
      rw [snd_of_eq hparts]
      exact foldl_keeps_of (fun acc : Code × State => acc.2.scarce) put parts (c, v) hput
    rw [← hv, ← hw]
    split <;> rfl

theorem copySend_scarce (ms : List LineMeet) (slot win : Nat) (w : WinEntry) (h : PRange) (fuel : Nat) (s : State) :
    (s.copySend ms slot win w h fuel).scarce = s.scarce := by
  induction fuel generalizing s with
  | zero => rfl
  | succ fuel ih =>
    unfold State.copySend
    split
    · rfl
    · split
      · rfl
      · extract_lets link size at_ u
        split
        · simp [scarce_eq]
        · split
          rename_i k bs v hread
          have hv : v.scarce = s.scarce := by
            rw [snd2_of_eq hread, areaRead_scarce]
            simp [scarce_eq, u]
          rw [← hv]
          split
          · simp [scarce_eq]
          · split
            · simp [scarce_eq]
            · rfl
            · rename_i x hsent
              rw [ih, ← startTx_scarce hsent]
              simp [scarce_eq]

/-! ### Den work -/

@[simp] theorem reserve_spared (i : SlotIx) : Spared (.reserve i) := by
  refine fun s => ⟨_, rfl, spares_denWork fun c => ?_⟩
  split
  · trivial
  · split <;> simp

@[simp] theorem load_spared (i : SlotIx) (img : HostRead) (ok : Bool) : Spared (.load i img ok) := by
  refine fun s => ⟨_, rfl, spares_denWork fun c => spares_need ?_⟩
  dsimp only
  (repeat' split) <;> simp

@[simp] theorem start_spared (i : SlotIx) : Spared (.start i) :=
  fun s => ⟨_, rfl, spares_denWork fun c => by simp⟩

@[simp] theorem freeze_spared (i : SlotIx) (ran : Nat) : Spared (.freeze i ran) :=
  fun s => ⟨_, rfl, spares_denWork fun c => spares_need (by simp)⟩

@[simp] theorem resume_spared (i : SlotIx) (waited : Nat) : Spared (.resume i waited) := by
  refine fun s => ⟨_, rfl, spares_denWork fun c => ?_⟩
  extract_lets named q u v w x
  have hv : v.scarce = s.scarce := by
    unfold v
    split <;> simp [scarce_eq, u]
  have hx : x.scarce = v.scarce := by
    unfold x
    split <;> simp [scarce_eq, w]
  have hparts := scarce_eq.mp (hx.trans hv)
  simp [hparts]

@[simp] theorem save_spared (i : SlotIx) (f : SaveFacts) : Spared (.save i f) := by
  refine fun s => ⟨_, rfl, spares_denWork fun c => spares_need ?_⟩
  split
  · exact spares_need (by simp)
  · have hwrite := scarce_eq.mp (writeSave_scarce s f.meets i.val (c.a1 == 1))
    simp [hwrite]

@[simp] theorem restore_spared (i : SlotIx) (img : HostRead) (ok : Bool) (f : SaveFacts) : Spared (.restore i img ok f) := by
  refine fun s => ⟨_, rfl, spares_denWork fun c => spares_need ?_⟩
  extract_lets u
  split
  · simp [u]
  · split
    · simp [u]
    · split
      rename_i k h v hread
      have hv : v.scarce = s.scarce := by
        rw [snd2_of_eq hread, areaRead_scarce]
        simp [scarce_eq, u]
      refine spares_congr hv (spares_ite (by simp) ?_)
      extract_lets shape stride
      clear_value shape
      split
      · simp
      · refine spares_ite (by simp) ?_
        split
        · simp
        · split
          · simp
          · extract_lets w
            have hw : w.scarce = v.scarce := foldl_scarce (fun _ _ => haulRecord_scarce _ _ _ _ _ _) _ _
            refine spares_congr hw ?_
            split
            · rename_i sv x hfind
              have hx := scarce_eq.mp ((congrArg State.scarce (snd2_of_eq hfind)).trans (findSave_scarce _ _ _ _ _))
              have hload := fun (g : Image) (sh : Shape) => scarce_eq.mp (loadSave_scarce x i.val g sh sv)
              simp [hload, hx]
            · rename_i x hfind
              have hx := scarce_eq.mp ((congrArg State.scarce (snd2_of_eq hfind)).trans (findSave_scarce _ _ _ _ _))
              extract_lets y
              have hy := scarce_eq.mp (show y.scarce = x.scarce by unfold y; split <;> simp [scarce_eq])
              simp [hy, hx]
            · rename_i k sv x hfind
              have hx := scarce_eq.mp ((congrArg State.scarce (snd2_of_eq hfind)).trans (findSave_scarce _ _ _ _ _))
              simp [hx]

@[simp] theorem reshape_spared (i : SlotIx) (img : HostRead) (ok : Bool) : Spared (.reshape i img ok) := by
  refine fun s => ⟨_, rfl, spares_denWork fun c => spares_need ?_⟩
  dsimp only
  split
  · trivial
  · split
    · simp
    · refine spares_ite (by simp) ?_
      (repeat' split) <;> simp

@[simp] theorem copyOut_spared (i : SlotIx) (ms : List LineMeet) : Spared (.copyOut i ms) := by
  refine fun s => ⟨_, rfl, spares_denWork fun c => ?_⟩
  split
  · simp
  · split
    · simp
    · simp
    · exact spares_ite (spares_need (by simp)) (copySend_scarce _ _ _ _ _ _ _)

@[simp] theorem release_spared (i : SlotIx) : Spared (.release i) :=
  fun s => ⟨_, rfl, spares_denWork fun c => spares_need (by simp)⟩

/-! ### Bring-up -/

@[simp] theorem romBoot_spared (n : List (Half × SettNeed)) : Spared (.romBoot n) := by
  refine fun s => ⟨_, rfl, spares_bootStep ?_⟩
  extract_lets of u power v halted repair w
  have hw : w.scarce = s.scarce := by simp [scarce_eq, w, v, u, power, repair]
  refine spares_congr hw (spares_ite (by simp) ?_)
  split
  rename_i m x hbytes
  obtain rfl := snd_of_eq hbytes
  split
  rename_i cert y hcert
  obtain rfl := snd_of_eq hcert
  simp

@[simp] theorem firmwareRelease_spared (b : List (BitVec 16 × Byte)) (l : List (Fin 2048)) : Spared (.firmwareRelease b l) := by
  refine fun s => ⟨_, rfl, spares_bootStep <| spares_need ?_⟩
  dsimp only
  split
  · simp
  · (repeat' split) <;> simp

@[simp] theorem wellTraining_spared (b : List WellIx) (r : List WellRepair) : Spared (.wellTraining b r) :=
  fun s => ⟨_, rfl, spares_bootStep (by simp)⟩

@[simp] theorem cisternTraining_spared (b : List CisIx) : Spared (.cisternTraining b) :=
  fun s => ⟨_, rfl, spares_bootStep (spares_need (by simp))⟩

@[simp] theorem repairMapBuild_spared (d g : List (Fin 132 × Fin 64)) (f : MarchFacts) : Spared (.repairMapBuild d g f) := by
  refine fun s => ⟨_, rfl, spares_bootStep (spares_need ?_)⟩
  extract_lets u r r' v w x floor y link
  have hx : x.scarce = u.scarce := by simp [scarce_eq, x, w, v]
  have hy : y.scarce = x.scarce := foldl_scarce (fun z c => by split <;> simp [scarce_eq]) _ _
  have hlink : ∀ (z : State) (l : Nat), (link z l).scarce = z.scarce := fun z l => by
    unfold link
    (repeat' split) <;> simp [scarce_eq]
  have hlinks := scarce_eq.mp ((foldl_scarce hlink (List.range 32) y).trans (hy.trans (hx.trans (marchPlaces_scarce s f.needs))))
  simp [hlinks]

@[simp] theorem linkTrainingEnd_spared (b : Bool) : Spared (.linkTrainingEnd b) :=
  fun s => ⟨_, rfl, spares_bootStep (spares_need (by simp))⟩

@[simp] theorem dictReady_spared (ms aon : BitVec 32) : Spared (.dictReady ms aon) := by
  refine fun s => ⟨_, rfl, spares_bootStep ?_⟩
  extract_lets u owed five dict repair chip v w x y z
  have hx : x.scarce = s.scarce := by simp [scarce_eq, x, w, v, u]
  have hy : y.scarce = x.scarce := by
    unfold y
    split <;> simp [scarce_eq]
  have hz : z.scarce = y.scarce := by simp [scarce_eq, z]
  exact spares_congr (hz.trans (hy.trans hx)) (spares_ite (by simp) (by simp))

/-! ### Inbound requests -/

@[simp] theorem inbound_spared : (∀ l ms, Spared (.reqRead l ms)) ∧ (∀ l ms, Spared (.reqWrite l ms)) ∧
    (∀ l ms, Spared (.reqRmw l ms)) ∧ (∀ l ms, Spared (.pushw l ms)) := by
  and_intros
  all_goals exact fun l ms s => ⟨_, rfl, spares_inboundReq⟩

/-! ### Resets -/

theorem spares_resetReq {s : State} {q : Req} {v : List Byte} {mine : Nat → Bool} {run : ResetDom → State → Ans × State}
    (h : ∀ d u, (run d u).2.scarce = u.scarce) : Spares s (resetReq mine q v run s) := by
  refine spares_need (spares_requestOf fun id u => ?_)
  split
  · rfl
  · split
    · rfl
    · exact h _ _

@[simp] theorem engineReset_spared (q : Req) (v : List Byte) : Spared (.engineReset q v) :=
  fun s => ⟨_, rfl, spares_resetReq fun d u => by simp [scarce_eq]⟩

@[simp] theorem moduleReset_spared (q : Req) (v : List Byte) : Spared (.moduleReset q v) :=
  fun s => ⟨_, rfl, spares_resetReq fun d u => by simp [scarce_eq]⟩

@[simp] theorem denReset_spared (q : Req) (v : List Byte) : Spared (.denReset q v) := by
  refine fun s => ⟨_, rfl, spares_resetReq fun d u => ?_⟩
  split
  · split <;> simp [scarce_eq]
  · rfl

end Sys2Proof.Proofs
end

section
/-! PROOFS. States that hold no more of what is scarce, and events within the limits (R482, R532, R599, R600). -/

namespace Sys2Proof.Proofs

open Sys2Proof Sys2Proof.Machine Sys2Proof.Laws

/-! ### No more than before -/

/-- A state that holds no more of what is scarce than another, and whose BAR4 has that one's size or the one after reset. -/
def Lessens (s t : State) : Prop :=
  (t.host.bar4Log = s.host.bar4Log ∨ t.host.bar4Log = 36) ∧ (∀ tr, t.scarce.sessionsOn tr ≤ s.scarce.sessionsOn tr) ∧
    t.fab.jobs.length ≤ s.fab.jobs.length ∧ t.fab.members.length ≤ s.fab.members.length ∧ t.trust.svnUsed ≤ s.trust.svnUsed

theorem Lessens.of_scarce {s t : State} (h : t.scarce = s.scarce) : Lessens s t := by
  obtain ⟨-, hbar, hsessions, hjobs, hmembers, hsvn⟩ := scarce_eq.mp h
  exact ⟨.inl hbar, fun tr => by rw [h], by rw [hjobs], by rw [hmembers], by rw [hsvn]⟩

theorem Lessens.trans {s t u : State} (h : Lessens s t) (h' : Lessens t u) : Lessens s u := by
  obtain ⟨hbar, hsessions, hjobs, hmembers, hsvn⟩ := h
  obtain ⟨hbar', hsessions', hjobs', hmembers', hsvn'⟩ := h'
  refine ⟨?_, fun tr => (hsessions' tr).trans (hsessions tr), hjobs'.trans hjobs, hmembers'.trans hmembers, hsvn'.trans hsvn⟩
  obtain h | h := hbar'
  · rw [h]
    exact hbar
  · exact .inr h

/-- A state that holds no more than one within the limits is within them. -/
theorem Lessens.limits {s t : State} (h : Lessens s t) (hs : s.Limits) : t.Limits := by
  obtain ⟨hbar, hsessions, hjobs, hmembers, hsvn⟩ := h
  obtain ⟨hmin, hmax, hdoe, hmctp, hjobs', hmembers', hsvn'⟩ := hs
  have hsize : 36 ≤ t.host.bar4Log ∧ t.host.bar4Log ≤ 42 := by
    change 36 ≤ s.host.bar4Log at hmin
    change s.host.bar4Log ≤ 42 at hmax
    omega
  exact ⟨hsize.1, hsize.2, (hsessions _).trans hdoe, (hsessions _).trans hmctp, hjobs.trans hjobs', hmembers.trans hmembers',
    hsvn.trans hsvn'⟩

/-- A state that holds the same scarce things is within the limits with the other. -/
theorem limits_of_scarce {s t : State} (h : t.scarce = s.scarce) (hs : s.Limits) : t.Limits := (Lessens.of_scarce h).limits hs

/-! ### Events within the limits -/

/-- An event that, where it occurs in a state within the limits, keeps them. -/
def Bounded (s : State) : Out State → Prop
  | .next t => s.Limits → t.Limits
  | .off _ => True

section
variable {s : State}

theorem Spares.bounded {o : Out State} (h : Spares s o) : Bounded s o := by
  cases o with
  | next t => exact limits_of_scarce h
  | off g => trivial

theorem bounded_next {t : State} (h : Lessens s t) : Bounded s (.next t) := h.limits

theorem bounded_congr {t : State} (hless : Lessens s t) {o : Out State} (h : Bounded t o) : Bounded s o := by
  cases o with
  | next u => exact fun hs => h (hless.limits hs)
  | off g => trivial

theorem bounded_need {g : Guard} {b : Bool} {o : Out State} (h : Bounded s o) : Bounded s (need g b o) := by
  unfold need
  split
  · exact h
  · trivial

theorem bounded_needSome {α : Type} {g : Guard} {x : Option α} {k : α → Out State} (h : ∀ a, Bounded s (k a)) :
    Bounded s (needSome g x k) := by
  unfold needSome
  split
  · exact h _
  · trivial

theorem bounded_ite {p : Prop} [Decidable p] {a b : Out State} (ha : Bounded s a) (hb : Bounded s b) : Bounded s (if p then a else b) := by
  split
  · exact ha
  · exact hb

/-- A request keeps the limits where its element's own work does. -/
theorem bounded_requestOf {els : List (Nat × Nat)} {q : Req} {v : List Byte} {run : Nat → State → Ans × State}
    (h : ∀ id u, u.Limits → (run id u).2.Limits) : Bounded s (requestOf els q v run s) := by
  refine bounded_need ?_
  simp only [request, need]
  split
  · split
    · split
      · intro hs
        refine limits_of_scarce (finishReq_scarce rfl) ?_
        split
        · exact limits_of_scarce (by simp [scarce_eq]) hs
        · exact h _ _ (limits_of_scarce (by simp [scarce_eq]) hs)
      · trivial
    · trivial
  · trivial

end

/-- A command whose event keeps the limits in every state. -/
def Keeps (c : Instr) : Prop := ∀ s, ∃ o, exec c s = occurs s o ∧ Bounded s o

theorem Spared.keeps {c : Instr} (h : Spared c) : Keeps c := fun s => by
  obtain ⟨o, hexec, hspares⟩ := h s
  exact ⟨o, hexec, hspares.bounded⟩

end Sys2Proof.Proofs
end

section
/-! PROOFS. The commands that change what is scarce, and the limits of every step (R482, R532, R599, R600). -/

namespace Sys2Proof.Proofs

open Sys2Proof Sys2Proof.Machine Sys2Proof.Laws

/-! ### Jobs and their members (R532) -/

theorem jobCreate_keeps (q : Req) (v : List Byte) : Keeps (.jobCreate q v) := by
  refine fun s => ⟨_, rfl, bounded_requestOf fun id u hu => ?_⟩
  extract_lets job mode jobs fab
  split
  · exact hu
  · split
    · exact hu
    · split
      · exact hu
      · rename_i hroom
        obtain ⟨hmin, hmax, hdoe, hmctp, -, hmembers, hsvn⟩ := hu
        refine limits_of_scarce (s := { u with fab := { u.fab with jobs := jobs } })
          (by simp [scarce_eq, fab]) ⟨hmin, hmax, hdoe, hmctp, ?_, hmembers, hsvn⟩
        simp only [State.scarce, jobs, List.length_append, List.length_singleton]
        omega

theorem jobMember_keeps (q : Req) (v : List Byte) : Keeps (.jobMember q v) := by
  refine fun s => ⟨_, rfl, bounded_requestOf fun id u hu => ?_⟩
  extract_lets job peer mine rest
  split
  · exact hu
  · split
    · exact hu
    · split
      · exact hu
      · rename_i hroom
        obtain ⟨hmin, hmax, hdoe, hmctp, hjobs, -, hsvn⟩ := hu
        refine ⟨hmin, hmax, hdoe, hmctp, hjobs, ?_, hsvn⟩
        simp only [done, State.scarce, List.length_append, List.length_singleton]
        omega

/-- The end of a job leaves no more jobs and members than there were. -/
theorem endJob_lessens (s : State) (job : Nat) : Lessens s (s.endJob job) := by
  unfold State.endJob
  extract_lets pairs u v chanPeers peers w keep before fab x
  have hu : u.scarce = s.scarce := foldl_scarce (fun _ _ => by simp [scarce_eq]) _ _
  have hv : v.scarce = u.scarce := foldl_scarce (fun _ _ => by simp [scarce_eq]) _ _
  have hw : w.scarce = v.scarce := foldl_scarce (fun _ _ => by simp [scarce_eq]) _ _
  have hx : Lessens w x := ⟨.inl rfl, fun _ => le_rfl, List.length_filter_le _ _, List.length_filter_le _ _, le_rfl⟩
  exact ((Lessens.of_scarce (hw.trans (hv.trans hu))).trans hx).trans (.of_scarce (by simp [scarce_eq]))

theorem jobEnd_keeps (q : Req) (v : List Byte) : Keeps (.jobEnd q v) := by
  refine fun s => ⟨_, rfl, bounded_requestOf fun id u hu => ?_⟩
  split
  · exact hu
  · exact (endJob_lessens u _).limits hu

/-! ### Fuses and BAR4 (R482, R599) -/

theorem svnCommit_keeps (q : Req) (v : List Byte) : Keeps (.svnCommit q v) := by
  refine fun s => ⟨_, rfl, bounded_requestOf fun id u hu => ?_⟩
  extract_lets svn fuse trust
  split
  · exact hu
  · split
    · exact hu
    · split
      · exact hu
      · rename_i hroom
        obtain ⟨hmin, hmax, hdoe, hmctp, hjobs, hmembers, -⟩ := hu
        refine limits_of_scarce (s := { u with trust := { u.trust with svnUsed := u.trust.svnUsed + (svn - fuse) } })
          (by simp [scarce_eq, trust]) ⟨hmin, hmax, hdoe, hmctp, hjobs, hmembers, ?_⟩
        exact Nat.le_of_not_lt hroom

theorem resizableBar_keeps (log : BitVec 6) : Keeps (.resizableBar log) := by
  refine fun s => ⟨_, rfl, ?_⟩
  split
  · exact id
  · rename_i hsize
    rintro ⟨-, -, hrest⟩
    refine ⟨?_, ?_, hrest⟩
    · exact Nat.le_of_not_lt fun h => hsize (.inr (.inl h))
    · exact Nat.le_of_not_lt fun h => hsize (.inr (.inr h))

/-! ### Sessions (R600) -/

theorem endSession_lessens (s : State) (id : Nat) : Lessens s (s.endSession id) := by
  refine ⟨.inl (by simp), fun tr => ?_, by simp, by simp, by simp [endSession_trust]⟩
  simp only [Scarce.sessionsOn, State.scarce, endSession_trust]
  exact (List.filter_sublist.filter _).length_le

theorem wipeSram_lessens (s : State) : Lessens s s.wipeSram := by
  refine ⟨by simp, fun tr => ?_, by simp, by simp, by simp [wipeSram_trust]⟩
  simp [Scarce.sessionsOn, State.scarce, wipeSram_trust]

theorem endSession_keeps (id : Nat) : Keeps (.endSession id) :=
  fun s => ⟨_, rfl, bounded_needSome fun x => bounded_ite (Spares.bounded (by simp)) (bounded_next (endSession_lessens s id))⟩

theorem spdmHeartbeatLoss_keeps (id : Nat) : Keeps (.spdmHeartbeatLoss id) :=
  fun s => ⟨_, rfl, bounded_needSome fun _ => bounded_next (endSession_lessens s id)⟩

/-- A session whose transport is kept is on the same one. -/
theorem filter_tr_updFirst (p : Session → Bool) (f : Session → Session) (hf : ∀ x, (f x).tr = x.tr) (tr : SpdmTransport)
    (l : List Session) : ((updFirst p f l).filter (·.tr == tr)).length = (l.filter (·.tr == tr)).length := by
  induction l with
  | nil => rfl
  | cons x xs ih =>
    unfold updFirst
    split
    · simp only [List.filter_cons, hf]
      split <;> rfl
    · simp only [List.filter_cons]
      split <;> simp [ih]

theorem keyUpdate_keeps (id : Nat) : Keeps (.keyUpdate id) := by
  refine fun s => ⟨_, rfl, bounded_needSome fun x => bounded_ite (Spares.bounded (by simp)) (bounded_next ?_)⟩
  exact ⟨.inl rfl, fun tr => (filter_tr_updFirst (·.id == id)
    (fun x => { x with updates := x.updates + 1, key := s.freeKey.1 }) (fun _ => rfl) tr s.trust.sessions).le, le_rfl, le_rfl, le_rfl⟩

/-- One more session on a transport that has fewer than four leaves at most four on each. -/
theorem filter_tr_append_le {l : List Session} {x : Session} (hroom : (l.filter (·.tr == x.tr)).length < 4) {tr : SpdmTransport}
    (h : (l.filter (·.tr == tr)).length ≤ 4) : ((l ++ [x]).filter (·.tr == tr)).length ≤ 4 := by
  rw [List.filter_append, List.length_append]
  by_cases hx : x.tr = tr
  · subst hx
    simpa using hroom
  · simpa [hx] using h

theorem keyExchange_keeps (tr : SpdmTransport) : Keeps (.keyExchange tr) := by
  refine fun s => ⟨_, rfl, bounded_need (bounded_ite (Spares.bounded (by simp)) ?_)⟩
  split
  · exact Spares.bounded (by simp)
  · rename_i hroom
    rintro ⟨hmin, hmax, hdoe, hmctp, hrest⟩
    have hnew : ∀ tr', (s.trust.sessions.filter (·.tr == tr')).length ≤ 4 →
        ((s.trust.sessions ++ [(⟨s.trust.nextSession, tr, 0, s.freeKey.1⟩ : Session)]).filter (·.tr == tr')).length ≤ 4 :=
      fun tr' h => filter_tr_append_le (x := ⟨s.trust.nextSession, tr, 0, s.freeKey.1⟩) (Nat.lt_of_not_le hroom) h
    exact ⟨hmin, hmax, hnew .doe hdoe, hnew .mctp hmctp, hrest⟩

theorem tamperEvent_keeps (ev : Fin 5) (half : Fin 3) (ms : BitVec 32) : Keeps (.tamperEvent ev half ms) := by
  refine fun s => ⟨_, rfl, bounded_need (bounded_need ?_)⟩
  extract_lets u v w repair trust chip x y e z
  have hw : Lessens s w := (Lessens.of_scarce (by simp [scarce_eq, v, u])).trans (wipeSram_lessens _)
  have hy : y.scarce = w.scarce := foldl_scarce (fun _ _ => by simp [scarce_eq]) _ x
  have hz := scarce_eq.mp (show z.scarce = w.scarce from hy)
  exact bounded_congr hw (Spares.bounded (by simp [hz]))

/-! ### Resets -/

theorem beginHalf_lessens (s : State) (h : Half) (cause denCode : Code) : Lessens s (s.beginHalf h cause denCode) := by
  unfold State.beginHalf
  extract_lets u hit v wells w x y z repair r
  have hv : v.scarce = u.scarce := foldl_scarce (fun _ _ => by simp [scarce_eq]) _ u
  have hw : w.scarce = v.scarce := foldl_scarce (fun _ _ => by split <;> simp [scarce_eq]) _ v
  have hx : x.scarce = s.scarce := (show x.scarce = w.scarce from rfl).trans (hw.trans (hv.trans (by simp [scarce_eq, u])))
  have hy : Lessens x y := by
    unfold y
    split
    · exact wipeSram_lessens x
    · exact .of_scarce rfl
  have hr : r.scarce = y.scarce := by
    unfold r
    split <;> simp [scarce_eq, z]
  exact ((Lessens.of_scarce hx).trans hy).trans (.of_scarce ((show r.holdPhase.scarce = r.scarce by simp [scarce_eq]).trans hr))

/-- Commits cut short put back old values of the dictionary. -/
theorem cutCommits_scarce (s : State) : s.cutCommits.scarce = s.scarce := by
  refine (foldl_scarce (fun u (c : Commit) => ?_) _ _).trans ?_
  · exact foldl_scarce (fun _ _ => by simp [scarce_eq]) _ _
  · simp [scarce_eq]

theorem clearLogic_lessens (s : State) : Lessens s s.clearLogic := by
  unfold State.clearLogic
  exact ⟨.inr rfl, fun _ => Nat.zero_le _, Nat.zero_le _, Nat.zero_le _, (congrArg Scarce.svnUsed (cutCommits_scarce s)).le⟩

theorem resetChip_lessens (s : State) : Lessens s s.resetChip :=
  (clearLogic_lessens s).trans (.of_scarce (by simp [scarce_eq, State.resetChip]))

theorem loseInput_lessens (s : State) : Lessens s s.loseInput :=
  (clearLogic_lessens s).trans (.of_scarce (by simp [scarce_eq, State.loseInput]))

theorem halfReset_keeps (q : Req) (v : List Byte) : Keeps (.halfReset q v) := by
  refine fun s => ⟨_, rfl, bounded_need (bounded_requestOf fun id u hu => ?_)⟩
  dsimp only
  split
  · exact hu
  · split
    · exact hu
    · split
      · exact (beginHalf_lessens _ _ _ _).limits hu
      · exact hu

theorem perstAssert_keeps (cold : Bool) : Keeps (.perstAssert cold) := by
  refine fun s => ⟨_, rfl, ?_⟩
  dsimp only
  split
  · exact Spares.bounded (spares_ite (by simp) (by simp))
  · exact bounded_next ((Lessens.of_scarce rfl).trans (resetChip_lessens _))
  · exact bounded_next ((Lessens.of_scarce rfl).trans (resetChip_lessens _))
  · exact Spares.bounded (by simp)

theorem railFault_keeps (rail : Fin 16) : Keeps (.railFault rail) := by
  refine fun s => ⟨_, rfl, bounded_need ?_⟩
  extract_lets u v chip
  have hu : Lessens s u := .of_scarce (by simp [scarce_eq, u])
  have hv : v.scarce = u.scarce := foldl_scarce (fun _ _ => by simp [scarce_eq]) _ u
  refine bounded_congr hu (bounded_ite (bounded_next (beginHalf_lessens _ _ _ _)) (bounded_ite (Spares.bounded ?_) ?_))
  · exact spares_congr hv (by simp)
  · exact bounded_next (loseInput_lessens u)

theorem inputLoss_keeps : Keeps .inputLoss := fun s => ⟨_, rfl, bounded_need (bounded_next (loseInput_lessens s))⟩

theorem drainLimitExpiry_keeps (i : Nat) (ms : BitVec 32) (refused : Option Nat) : Keeps (.drainLimitExpiry i ms refused) := by
  refine fun s => ⟨_, rfl, bounded_needSome fun x => bounded_need ?_⟩
  have hsample := fun (u : State) (d : ResetDom) => scarce_eq.mp (sample_scarce u d refused)
  have hengine := fun (e : EngineIx) => scarce_eq.mp (resetEngine_scarce s e)
  dsimp only
  split
  · exact Spares.bounded (by simp [hsample])
  · exact Spares.bounded (by simp [hengine])
  · exact Spares.bounded (by simp [hsample])
  · exact Spares.bounded (by simp)
  · refine bounded_ite (Spares.bounded (by simp)) ?_
    exact bounded_next ((Lessens.of_scarce (by simp [scarce_eq, hsample])).trans (resetChip_lessens _))

theorem escalationOwlExpiry_keeps (i : Option Nat) (ms : BitVec 32) : Keeps (.escalationOwlExpiry i ms) := by
  refine fun s => ⟨_, rfl, ?_⟩
  dsimp only
  split
  · exact bounded_need (Spares.bounded (by simp))
  · refine bounded_needSome fun x => bounded_need ?_
    split
    · exact Spares.bounded (by simp)
    · split
      · exact bounded_next ((Lessens.of_scarce (by simp [scarce_eq])).trans (beginHalf_lessens _ _ _ _))
      · exact Spares.bounded (by simp)
    · exact Spares.bounded (by simp)
    · exact Spares.bounded (by simp)
    · trivial

theorem chipReset_spared (by_ : ResetBy) : Spared (.chipReset by_) := by
  refine fun s => ⟨_, rfl, ?_⟩
  split
  · exact spares_resetReq fun d u => by simp [scarce_eq]
  · exact spares_need (by simp)

/-! ### Every command, every step -/

theorem exec_keeps (c : Instr) : Keeps c := by
  cases c with
  | jobCreate q v => exact jobCreate_keeps q v
  | jobMember q v => exact jobMember_keeps q v
  | jobEnd q v => exact jobEnd_keeps q v
  | svnCommit q v => exact svnCommit_keeps q v
  | resizableBar log => exact resizableBar_keeps log
  | endSession id => exact endSession_keeps id
  | spdmHeartbeatLoss id => exact spdmHeartbeatLoss_keeps id
  | keyUpdate id => exact keyUpdate_keeps id
  | keyExchange tr => exact keyExchange_keeps tr
  | tamperEvent ev half ms => exact tamperEvent_keeps ev half ms
  | halfReset q v => exact halfReset_keeps q v
  | perstAssert cold => exact perstAssert_keeps cold
  | railFault rail => exact railFault_keeps rail
  | inputLoss => exact inputLoss_keeps
  | drainLimitExpiry i ms refused => exact drainLimitExpiry_keeps i ms refused
  | escalationOwlExpiry i ms => exact escalationOwlExpiry_keeps i ms
  | chipReset by_ => exact (chipReset_spared by_).keeps
  | _ => exact Spared.keeps (by simp)

theorem exec_limits {c : Instr} {s t : State} (hs : s.Limits) (h : exec c s = .next t) : t.Limits := by
  obtain ⟨o, hexec, hbounded⟩ := exec_keeps c s
  rw [hexec] at h
  obtain ho | rfl := occurs_eq h
  · subst ho
    exact hbounded hs
  · exact hs

/-- Settles O3: the commands that touch what is scarce keep to the limits, and the others, with the mesh's own cycle, leave it as it is. -/
theorem stepKeepsLimits : Obligations.StepKeepsLimits := by
  unfold Obligations.StepKeepsLimits
  intro s t hs h
  unfold step at h
  split at h
  · cases h
    exact limits_of_scarce (by simp [scarce_eq]) hs
  · rename_i c rest hpending
    exact exec_limits (s := { s with pending := rest }) hs h

end Sys2Proof.Proofs
end

section
/-! PROOFS. The dictionary writes of the fabric: endpoint, routes, jobs, members and link enables (R522, R523, R532, R540, R559). -/

namespace Sys2Proof.Proofs

open Sys2Proof Sys2Proof.Machine Sys2Proof.Laws

/-! ### A row that tells its element, and who may write it, itself -/

/-- A served write of a row that names its element itself, by a front end that may make it: the element's own work decides. -/
theorem served_finish {s : State} {q : Req} {ix el : Nat} {v : List Byte} {g : Guard} {b permit : Bool}
    {run : Nat → State → Ans × State} (h : s.serves q ix el v) (hb : q.index.toNat = ix → q.element.toNat = el → b = true)
    (hpermit : permit = true) :
    need g b (request q .write v permit run s) = .next (finishReq s.dict.nextId q (run s.dict.nextId (s.beginReq q v))) := by
  obtain ⟨htakes, hcheck⟩ := serves_takes h
  obtain ⟨hindex, helem⟩ := takes_at htakes
  rw [need_true _ _ _ (hb hindex helem), request_takes htakes (by rw [hpermit, hcheck])]

section
variable {s s' : State} {q : Req} {v : List Byte}

/-! ### Endpoint and routes (R522, R523) -/

/-- While no job lives, an endpoint number in range is written as a persistent register (R522). -/
theorem exec_endpointId (h : s.serves q 0x1100 0 v) (hs : s' = s.beginReq q v) (hzero : leNat v ≠ 0) (hmax : leNat v ≤ 0xFFFFFE)
    (hjobs : s'.fab.jobs = []) :
    exec (.endpointId q v) s = .next (finishReq s.dict.nextId q (persistReg s.dict.nextId 0x1100 0 (leNat v) s')) := by
  change execEndpointId q v s = _
  unfold execEndpointId
  rw [requestOf_serves h rfl, occurs_next, ← hs]
  dsimp only
  rw [if_neg (by omega), if_neg (not_not_intro hjobs)]

/-- A route entry with VALID 1 is put in the table, one with VALID 0 is taken out of it (R523). -/
theorem exec_routeSet {r : Route} (h : s.serves q 0x1101 0 v) (hs : s' = s.beginReq q v) (hix : natAt v 0 2 ≤ 1023)
    (hz1 : natAt v 11 1 = 0) (hz2 : natAt v 15 1 = 0) (hz3 : natAt v 19 1 = 0)
    (hr : r = { plink := natAt v 3 1, links := BitVec.ofNat 32 (natAt v 4 4), value := natAt v 8 3, mask := natAt v 12 3,
                via := natAt v 16 3 }) :
    (natAt v 2 1 = 1 → exec (.routeSet q v) s = .next ((s'.setRoute (natAt v 0 2) (some r)).reply s.dict.nextId q kOk [])) ∧
    (natAt v 2 1 = 0 → exec (.routeSet q v) s = .next ((s'.setRoute (natAt v 0 2) none).reply s.dict.nextId q kOk [])) := by
  subst hs hr
  refine ⟨fun hvalid => congrArg (occurs s) (served_done h rfl ?_), fun hvalid => congrArg (occurs s) (served_done h rfl ?_)⟩
  · dsimp only
    rw [if_neg (by omega), if_pos hvalid]
  · dsimp only
    rw [if_neg (by omega), if_neg (by omega)]

/-- A route entry is taken out of the table, and one that the table does not have is RANGE (R523). -/
theorem exec_routeClear (h : s.serves q 0x1101 1 v) (hs : s' = s.beginReq q v) :
    (leNat v ≤ 1023 → exec (.routeClear q v) s = .next ((s'.setRoute (leNat v) none).reply s.dict.nextId q kOk [])) ∧
    (1023 < leNat v → exec (.routeClear q v) s = .next (s'.reply s.dict.nextId q kRange [])) := by
  subst hs
  exact ⟨fun hix => congrArg (occurs s) (served_done h rfl (if_neg (by omega))),
    fun hix => congrArg (occurs s) (served_refuse h rfl (if_pos hix))⟩

/-! ### Jobs and members (R532, R540) -/

/-- A job with a new number begins where one of the 64 is free (R532). -/
theorem exec_jobCreate (h : s.serves q 0x1110 0 v) (hs : s' = s.beginReq q v) (hid : natAt v 0 4 ≠ 0) (hmode : natAt v 4 4 ≤ 1)
    (hnew : (s'.job (natAt v 0 4)).isSome = false) (hend : s'.endpoint ≠ 0) :
    (s'.fab.jobs.length < 64 → exec (.jobCreate q v) s = .next ((({ s' with fab := { s'.fab with
      jobs := s'.fab.jobs ++ [{ id := natAt v 0 4, compat := natAt v 4 4 == 1 }] } } : State).setReg 0x1110 4
        (s'.fab.jobs.length + 1)).reply s.dict.nextId q kOk [])) ∧
    (64 ≤ s'.fab.jobs.length → exec (.jobCreate q v) s = .next (s'.reply s.dict.nextId q kNoResource [])) := by
  subst hs
  have hrange : ¬ (natAt v 0 4 = 0 ∨ 1 < natAt v 4 4) := by omega
  have hconflict : ¬ (((s.beginReq q v).job (natAt v 0 4)).isSome = true ∨ (s.beginReq q v).endpoint = 0) := by simp [hnew, hend]
  refine ⟨fun hroom => congrArg (occurs s) (served_done h rfl ?_), fun hfull => congrArg (occurs s) (served_refuse h rfl ?_)⟩
  · dsimp only
    rw [if_neg hrange, if_neg hconflict, if_neg (by omega), List.length_append, List.length_singleton]
  · dsimp only
    rw [if_neg hrange, if_neg hconflict, if_pos hfull]

/-- A member of a job is entered with its digest, in the place of one with its endpoint (R532). -/
theorem exec_jobMember {j : Job} {rest : List Member} (h : s.serves q 0x1110 1 v) (hs : s' = s.beginReq q v) (hlo : natAt v 4 3 ≠ 0)
    (hhi : natAt v 4 3 ≠ 0xFFFFFF) (hzero : natAt v 7 1 = 0) (hjob : s'.job (natAt v 0 4) = some j) (hnative : j.compat = false)
    (hrest : rest = s'.fab.members.filter (fun m => !(m.job == natAt v 0 4 && m.peer == natAt v 4 3))) (hroom : rest.length < 8192) :
    exec (.jobMember q v) s = .next (({ s' with fab := { s'.fab with
      members := rest ++ [{ job := natAt v 0 4, peer := natAt v 4 3, digest := BitVec.ofNat 256 (natAt v 8 32) }] } } :
        State).reply s.dict.nextId q kOk []) := by
  subst hs
  refine congrArg (occurs s) (served_done h rfl ?_)
  dsimp only
  rw [← hrest, if_neg (by omega), hjob]
  dsimp only
  rw [if_neg (by omega), hnative, if_neg Bool.false_ne_true]

/-- A live job ends (R540). -/
theorem exec_jobEnd {j : Job} (h : s.serves q 0x1110 2 v) (hs : s' = s.beginReq q v) (hjob : s'.job (leNat v) = some j) :
    exec (.jobEnd q v) s = .next ((s'.endJob (leNat v)).reply s.dict.nextId q kOk []) := by
  subst hs
  exact congrArg (occurs s) (served_done h rfl (if_neg (by simp [hjob])))

/-! ### Link enables (R512, R559) -/

/-- A link's ENABLE is written as a persistent register, and the link follows it (R512, R559). -/
theorem exec_linkEnable {l : LinkIx} {r : Ans × State} (h : s.serves q (0x1000 + l.val) 1 v) (hs : s' = s.beginReq q v)
    (hr : r = persistReg s.dict.nextId (0x1000 + l.val) 1 (leNat v) s') :
    exec (.linkEnable q v) s = .next (finishReq s.dict.nextId q (r.1, r.2.linkEnabled l.val (leNat v == 1))) := by
  have hl := l.isLt
  obtain ⟨hindex, helem⟩ := takes_at (serves_takes h).1
  change execLinkEnable q v s = _
  unfold execLinkEnable
  dsimp only
  rw [served_finish h (fun _ _ => by rw [hindex, helem]; simp; omega) rfl, occurs_next, hindex, Nat.add_sub_cancel_left, ← hs, ← hr]

end

/-- Settles O38: each write passes the checks of its element, command by command. -/
theorem fabricElements : Obligations.FabricElements := by
  refine ⟨?_, ?_, ?_, ?_, ?_, ?_, ?_⟩
  · intro s s' q v h hs hzero hmax hjobs
    exact exec_endpointId h hs hzero hmax hjobs
  · intro s s' q v r h hs hix _ hz1 hz2 hz3 hr
    exact exec_routeSet h hs hix hz1 hz2 hz3 hr
  · intro s s' q v h hs
    exact exec_routeClear h hs
  · intro s s' q v h hs hid hmode hnew hend
    exact exec_jobCreate h hs hid hmode hnew hend
  · rintro s s' q v j rest _ h hs hlo hhi hzero hjob hnative hrest hroom rfl
    exact exec_jobMember h hs hlo hhi hzero hjob hnative hrest hroom
  · intro s s' q v j h hs hjob
    exact exec_jobEnd h hs hjob
  · intro s s' q v l r h hs hr
    exact exec_linkEnable h hs hr

end Sys2Proof.Proofs
end

section
/-! PROOFS. The dictionary writes of push channels and custody (R547, R551, R555 to R558). -/

namespace Sys2Proof.Proofs

open Sys2Proof Sys2Proof.Machine Sys2Proof.Laws

section
variable {s s' : State} {q : Req} {v : List Byte}

/-! ### PUSH_CH_CREATE (R547) -/

/-- A channel that does not exist is created for a slot in its grant phases, where every field is in range, its window serves it, and
its ring and its two words lie in extents that grant their accesses (R547). -/
theorem exec_pushChCreate {x : Chan} (h : s.serves q 0x1120 0 v) (hs : s' = s.beginReq q v)
    (hrange : ¬ (63 < natAt v 0 1 ∨ 4095 < natAt v 2 2 ∨ natAt v 4 4 ≠ 0 ∨ natAt v 17 7 ≠ 0 ∨ natAt v 44 4 ≠ 0 ∨ natAt v 16 1 < 4 ∨
      12 < natAt v 16 1 ∨ natAt v 40 4 < 50 ∨ 100000 < natAt v 40 4 ∨ natAt v 8 8 % 64 ≠ 0 ∨ natAt v 24 8 % 8 ≠ 0 ∨
      natAt v 32 8 % 8 ≠ 0 ∨ 2 ^ 56 ≤ natAt v 8 8 ∨ 2 ^ 56 ≤ natAt v 24 8 ∨ 2 ^ 56 ≤ natAt v 32 8))
    (hphase : grantPhase (s'.den (natAt v 1 1))) (hnew : s'.chan (natAt v 0 1) = none)
    (hserves : s'.chanWindow (natAt v 1 1) (natAt v 2 2) = none)
    (hring : (s'.den (natAt v 1 1)).covers .read 65 (natAt v 8 8) (64 * 2 ^ natAt v 16 1) = none)
    (htail : (s'.den (natAt v 1 1)).covers .read 1 (natAt v 24 8) 1 = none)
    (hdone : (s'.den (natAt v 1 1)).covers .write 1 (natAt v 32 8) 1 = none)
    (hx : x = { slot := natAt v 1 1, win := natAt v 2 2, ring := natAt v 8 8, ringLog := natAt v 16 1, tailw := natAt v 24 8,
                donew := natAt v 32 8, poll := natAt v 40 4 }) :
    exec (.pushChCreate q v) s = .next (((s'.setChan (natAt v 0 1) (some x)).noteDone (natAt v 0 1)).reply s.dict.nextId q kOk []) := by
  change execPushChCreate q v s = _
  unfold execPushChCreate
  rw [requestOf_serves h rfl, occurs_next, ← hs]
  dsimp only
  rw [if_neg hrange, if_neg (by simp [hphase, hnew]), hserves, hring, htail, hdone, ← hx]
  rfl

/-! ### PUSH_CH_CTL (R555) -/

/-- A served write of PUSH_CH_CTL to a channel that exists does its row's own work. -/
theorem chanCtl_serves {t : State} {c op : Nat} {x : Chan} {run : Nat → Chan → State → Ans × State} (h : s.serves q 0x1120 1 v)
    (hs : s' = s.beginReq q v) (hc : c = natAt v 0 1) (hmax : c ≤ 63) (hx : s'.chan c = some x) (hop : natAt v 1 1 = op)
    (harg : op = 2 ∧ natAt v 2 2 ≤ 4095 ∨ natAt v 2 2 = 0) (hrun : run c x s' = done t) :
    chanCtl op q v run s = .next (t.reply s.dict.nextId q kOk []) := by
  subst hs hc
  unfold chanCtl
  dsimp only
  rw [need_true _ _ _ (by simp [hop])]
  refine served_done h rfl ?_
  rw [if_neg (by omega), hx, ← hrun]

section
variable {c : Nat} {x : Chan} (h : s.serves q 0x1120 1 v) (hs : s' = s.beginReq q v) (hc : c = natAt v 0 1) (hmax : c ≤ 63)
  (hx : s'.chan c = some x)
include h hs hc hmax hx

/-- START: a channel that does not run runs, and its failed units start over through its window as it stands (R551, R555). -/
theorem exec_pushStart {w : WinEntry} (hop : natAt v 1 1 = 1) (harg : natAt v 2 2 = 0) (hphase : x.phase ≠ .running)
    (hw : s'.window x.win = some w) :
    exec (.pushStart q v) s = .next (((s'.setChan c (some { x with
      phase := .running, status := 0, stuck := none,
      units := x.units.map fun u => if u.failed.isSome then
        { u with failed := none, sent := 0, got := 0, phase := .sending, attempt := u.attempt + 1, win := x.win,
                 job := w.job, peer := w.peer }
        else u })).noteDone c).reply s.dict.nextId q kOk []) := by
  refine congrArg (occurs s) (chanCtl_serves h hs hc hmax hx hop (.inr harg) ?_)
  dsimp only
  rw [if_neg hphase, hw]
  rfl

/-- RETARGET: a channel that does not run has another window, which serves it (R555). -/
theorem exec_retarget (hop : natAt v 1 1 = 2) (harg : natAt v 2 2 ≤ 4095) (hphase : x.phase ≠ .running)
    (hserves : s'.chanWindow x.slot (natAt v 2 2) = none) :
    exec (.retarget q v) s = .next ((s'.setChan c (some { x with win := natAt v 2 2 })).reply s.dict.nextId q kOk []) := by
  refine congrArg (occurs s) (chanCtl_serves h hs hc hmax hx hop (.inl ⟨rfl, harg⟩) ?_)
  rw [if_neg hphase, hserves]

/-- STOP: a channel that runs stops (R555). -/
theorem exec_pushStop (hop : natAt v 1 1 = 3) (harg : natAt v 2 2 = 0) (hphase : x.phase = .running) :
    exec (.pushStop q v) s = .next (((s'.setChan c (some { x with phase := .stopped })).noteDone c).reply s.dict.nextId q kOk []) :=
  congrArg (occurs s) (chanCtl_serves h hs hc hmax hx hop (.inr harg) (if_neg (not_not_intro hphase)))

/-- DESTROY: a channel that does not run is no more (R555). -/
theorem exec_pushDestroy (hop : natAt v 1 1 = 4) (harg : natAt v 2 2 = 0) (hphase : x.phase ≠ .running) :
    exec (.pushDestroy q v) s = .next ((s'.setChan c none).freedLogs.reply s.dict.nextId q kOk []) :=
  congrArg (occurs s) (chanCtl_serves h hs hc hmax hx hop (.inr harg) (if_neg hphase))

end

/-! ### Selections, releases and the log (R556 to R558) -/

/-- A selection whose reserved bytes are zero names a push and an endpoint (R560). -/
theorem parseSel_some (hzero : natAt v 11 5 = 0) : parseSel v = some (BitVec.ofNat 64 (natAt v 0 8), natAt v 8 3) :=
  if_neg (not_not_intro hzero)

/-- Whether a selection names a push of an endpoint. -/
theorem parseSel_beq (hzero : natAt v 11 5 = 0) (id : BitVec 64) (peer : Nat) :
    (parseSel v == some (id, peer)) = (id == BitVec.ofNat 64 (natAt v 0 8) && peer == natAt v 8 3) := by
  rw [parseSel_some hzero, Bool.eq_iff_iff]
  simp only [Option.some_beq_some, Bool.and_eq_true, beq_iff_eq, Prod.mk.injEq]
  exact and_congr eq_comm eq_comm

/-- A log entry is selected for its front end; where it is LOST the answer says so (R557). -/
theorem exec_logSelect {e : LogEntry} {k : BitVec 64 × Nat} (h : s.serves q 0x1120 2 v) (hs : s' = s.beginReq q v)
    (hzero : natAt v 11 5 = 0) (hk : k = (BitVec.ofNat 64 (natAt v 0 8), natAt v 8 3)) (he : s'.logEntry k.1 k.2 = some e) :
    exec (.logSelect q v) s = .next (({ s' with fab := { s'.fab with logSel := kput none s'.fab.logSel (frontPlace q.fe) (some k) } } :
      State).reply s.dict.nextId q (if e.lost then kCustodyLost else kOk) []) := by
  subst hk
  change execLogSelect q v s = _
  unfold execLogSelect
  rw [requestOf_serves h rfl, occurs_next, ← hs, parseSel_some hzero]
  dsimp only at he ⊢
  rw [he]
  rfl

/-- A custody entry is selected for its front end (R557). -/
theorem exec_custodySelect {c : Custody} {k : BitVec 64 × Nat} (h : s.serves q 0x1120 4 v) (hs : s' = s.beginReq q v)
    (hzero : natAt v 11 5 = 0) (hk : k = (BitVec.ofNat 64 (natAt v 0 8), natAt v 8 3)) (hc : s'.custodyEntry k.1 k.2 = some c) :
    exec (.custodySelect q v) s = .next (({ s' with fab := { s'.fab with
      custodySel := kput none s'.fab.custodySel (frontPlace q.fe) (some k) } } : State).reply s.dict.nextId q kOk []) := by
  subst hs hk
  refine congrArg (occurs s) (served_done h rfl ?_)
  rw [parseSel_some hzero]
  dsimp only at hc ⊢
  rw [hc]

/-- The host administrator writes through page 0, the owner of a den through any other (R441). -/
theorem roleOf_page (p : PageIx) : roleOf (.page p) = .hostAdmin ∨ ∃ n, roleOf (.page p) = .denOwner n := by
  by_cases hp : p.val = 0
  · exact .inl (if_pos hp)
  · exact .inr ⟨_, if_neg hp⟩

/-- A host page releases a custody entry: it leaves the table, and its source has a PDONE (R556). -/
theorem exec_pushRelease {c : Custody} {hit : Custody → Bool} {p : PageIx} (h : s.serves q 0x1120 6 v) (hfe : q.fe = .page p)
    (hs : s' = s.beginReq q v) (hzero : natAt v 11 5 = 0)
    (hhit : hit = fun c => c.id == BitVec.ofNat 64 (natAt v 0 8) && c.src == natAt v 8 3) (hc : s'.fab.custody.find? hit = some c) :
    exec (.pushRelease q v) s = .next ((({ s' with fab := { s'.fab with custody := s'.fab.custody.filter fun c => !hit c } } :
      State).sendCustody c.job c.src 8 (toLE 8 c.id.toNat ++ List.replicate 8 0)).reply s.dict.nextId q kOk []) := by
  have hmine (c : Custody) : (parseSel v == some (c.id, c.src)) = hit c := by rw [hhit, parseSel_beq hzero]
  change execPushRelease q v s = _
  unfold execPushRelease
  simp only [hmine]
  rw [served_finish h (fun hindex helem => by rw [hindex, helem]; rfl) ?_, occurs_next, ← hs, hc]
  · rfl
  · rw [hfe]
    obtain hrole | ⟨n, hrole⟩ := roleOf_page p <;> rw [hrole]

/-- Log entries of a push and an endpoint are cleared (R558). -/
theorem exec_logClear {hit : LogEntry → Bool} (h : s.serves q 0x1120 7 v) (hs : s' = s.beginReq q v) (hzero : natAt v 11 5 = 0)
    (hhit : hit = fun e => e.id == BitVec.ofNat 64 (natAt v 0 8) && e.peer == natAt v 8 3) (hany : s'.fab.logs.any hit) :
    exec (.logClear q v) s = .next ((({ s' with fab := { s'.fab with logs := s'.fab.logs.filter fun e => !hit e } } :
      State).freedLogs).reply s.dict.nextId q kOk []) := by
  have hmine (e : LogEntry) : (parseSel v == some (e.id, e.peer)) = hit e := by rw [hhit, parseSel_beq hzero]
  subst hs
  refine congrArg (occurs s) (served_done h rfl ?_)
  simp only [hmine]
  exact if_neg (by rw [hany]; exact Bool.false_ne_true)

end

/-- Settles O39: each write passes the checks of its element, command by command. -/
theorem pushElements : Obligations.PushElements := by
  refine ⟨?_, ?_, ?_, ?_, ?_, ?_⟩
  · intro s s' q v x h hs hc hwin hz1 hz2 hz3 hlo hhi hplo hphi hra hta hda hr ht hd hphase hnew hserves hring htail hdone hx
    exact exec_pushChCreate h hs (by omega) hphase hnew hserves hring htail hdone hx
  · intro s s' q v c x h hs hc hmax hx
    exact ⟨fun w hop harg hphase hw => exec_pushStart h hs hc hmax hx hop harg hphase hw,
      exec_retarget h hs hc hmax hx, exec_pushStop h hs hc hmax hx, exec_pushDestroy h hs hc hmax hx⟩
  · intro s s' q v e k h hs hzero hk he
    exact exec_logSelect h hs hzero hk he
  · intro s s' q v c k h hs hzero hk hc
    exact exec_custodySelect h hs hzero hk hc
  · rintro s s' q v c hit h ⟨p, hfe⟩ hs hzero hhit hc
    exact exec_pushRelease h hfe hs hzero hhit hc
  · intro s s' q v hit h hs hzero hhit hany
    exact exec_logClear h hs hzero hhit hany

end Sys2Proof.Proofs
end

section
/-! PROOFS. Pair keys: KEYX, its resending, retained keys, KEYEND and KEY_INSTALL (R534 to R541, R545). -/

namespace Sys2Proof.Proofs

open Sys2Proof Sys2Proof.Machine Sys2Proof.Laws

/-! ### KEYX (R536, R537) -/

section
variable {s s1 : State} {l : LinkIx} {d : BitVec 256} {ok : Bool} {f : Frame} {asked : List Byte}
  (hf : s.takeRx l.val (fun f => frameKind f == 4) = some (f, s1)) (hd : d.toNat = sha256 (keyxModulus f.payload))
  (hasked : asked =
    (if natAt f.payload 0 1 = 2 then keyxNonce (((s1.pair (frameJob f) (frameSrc f)).bind (·.agr)).getD {}).payload else []))
  (hok : ok = pssVerify (keyxModulus f.payload) (keyxSigned f.payload (frameDst f) (frameSrc f) (frameJob f) asked)
    (keyxSignature f.payload))
include hf hd hasked hok

/-- A KEYX that is not from a member, whose signature fails, whose job is none with key agreement, or that comes to a chip in the SCRAPPED
life-cycle state is counted and raises its source (R537). -/
theorem exec_keyx_rejected
    (hno : (s1.fab.members.any fun m => m.job == frameJob f && m.peer == frameSrc f && m.digest == d) = false ∨ ok = false ∨
      (∀ j, s1.job (frameJob f) = some j → j.compat) ∨ s1.reg 0x0001 0 = 4) :
    exec (.keyx l d ok) s = .next ((s1.bump 0x1110 7).raise 1684) := by
  change execKeyx l d ok s = _
  unfold execKeyx
  rw [needSome_some hf]
  dsimp only
  rw [← hasked, need_true _ _ _ (by simp [hd, hok]), if_pos ?_, occurs_next]
  obtain hmember | hsig | hjob | hphase := hno
  · simp [hmember]
  · simp [hsig]
  · cases hj : s1.job (frameJob f) with
    | none => simp
    | some j => simp [hjob j hj]
  · simp [hphase]

variable (hsig : ok = true) (hmember : s1.fab.members.any fun m => m.job == frameJob f && m.peer == frameSrc f && m.digest == d)
  {j : Job} (hjob : s1.job (frameJob f) = some j) (hnative : j.compat = false) (hphase : s1.reg 0x0001 0 ≠ 4)
  (hknown : (s1.fab.keys.find? fun k => k.peer == frameSrc f && k.known) = none)
include hsig hmember hjob hnative hphase hknown

/-- An initiation for a new pair is answered with a KEYX of the own, and makes the pair's keys from the shared secret (R537). -/
theorem exec_keyx_initiation {p : List Byte} {x : Nat} {s2 : State} {first last : BitVec 256} (hstep : natAt f.payload 0 1 = 1)
    (hpair : s1.pair (frameJob f) (frameSrc f) = none) (hroom : s1.fab.keys.length < 8192)
    (hnew : s1.newKeyx (frameJob f) (frameSrc f) 2 (keyxNonce f.payload) = (p, x, s2))
    (hkeys : agreedKeys (sharedSecret x f.payload) (frameJob f) (frameSrc f, natAt f.payload 4 8, keyxNonce f.payload)
      (s1.endpoint, natAt p 4 8, keyxNonce p) = (first, last)) :
    exec (.keyx l d ok) s = .next ((s2.sendKeyx (frameJob f) (frameSrc f) p).newKeys (frameJob f) (frameSrc f)
      (BitVec.ofNat 64 (natAt f.payload 4 8)) true last first) := by
  change execKeyx l d ok s = _
  unfold execKeyx
  rw [needSome_some hf]
  dsimp only
  rw [← hasked, need_true _ _ _ (by simp [hd, hok]), hpair, hjob, hknown, hmember, hsig]
  dsimp only
  rw [if_neg (by simp [hnative, hphase]), if_pos hstep, if_neg (by simp), if_neg (by simp [hroom]), occurs_next]
  unfold State.completeKeyx
  dsimp only
  rw [if_pos hstep, hnew]
  dsimp only
  rw [hkeys]

/-- The answer to the own initiation makes the pair's keys the other way round (R537). -/
theorem exec_keyx_answer {k : Pair} {a : Agreement} {first last : BitVec 256} (hstep : natAt f.payload 0 1 = 2)
    (hpair : s1.pair (frameJob f) (frameSrc f) = some k) (hfresh : k.known = false) (hagr : k.agr = some a)
    (hkeys : agreedKeys (sharedSecret a.private_ f.payload) (frameJob f) (s1.endpoint, natAt a.payload 4 8, keyxNonce a.payload)
      (frameSrc f, natAt f.payload 4 8, keyxNonce f.payload) = (first, last)) :
    exec (.keyx l d ok) s = .next (s1.newKeys (frameJob f) (frameSrc f) (BitVec.ofNat 64 (natAt f.payload 4 8)) false first last) := by
  have hother : natAt f.payload 0 1 ≠ 1 := by omega
  change execKeyx l d ok s = _
  unfold execKeyx
  rw [needSome_some hf]
  dsimp only
  rw [← hasked, need_true _ _ _ (by simp [hd, hok]), hpair, hjob, hknown, hmember, hsig]
  dsimp only
  rw [if_neg (by simp [hnative, hphase, hfresh]), if_neg hother, if_neg (by simp [hstep, hagr]), hpair, if_neg (by simp),
    occurs_next]
  unfold State.completeKeyx
  dsimp only
  rw [if_neg hother, hpair, Option.bind_some, hagr]
  dsimp only
  rw [hkeys]

end

/-! ### Resending, retained keys and KEYEND (R538, R541, R545) -/

section
variable {s : State} {job : BitVec 32} {peer : BitVec 24} {k : Pair}

/-- An unanswered KEYX is sent again as it stood, four times in all; then the agreement fails (R538). -/
theorem exec_keyxResend {a : Agreement} (hpair : s.pair job.toNat peer.toNat = some k) (hagr : k.agr = some a) :
    (a.tries < 4 → exec (.keyxResend job peer) s =
      .next ((s.modPair job.toNat peer.toNat fun k => { k with agr := some { a with tries := a.tries + 1 } }).sendKeyx
        job.toNat peer.toNat a.payload)) ∧
    (4 ≤ a.tries → exec (.keyxResend job peer) s = .next (s.failAgree job.toNat peer.toNat)) := by
  change (_ → execKeyxResend job peer s = _) ∧ (_ → execKeyxResend job peer s = _)
  unfold execKeyxResend
  rw [hpair, Option.bind_some, needSome_some hagr]
  refine ⟨fun hmore => ?_, fun hspent => ?_⟩
  · rw [if_pos hmore, occurs_next]
  · rw [if_neg (by omega), occurs_next]

/-- A responder's old receive key is dropped when its time is over (R545). -/
theorem exec_keyRetainExpiry {o : OldKey} (hpair : s.pair job.toNat peer.toNat = some k) (hold : k.old = some o) (htimed : o.timed) :
    exec (.keyRetainExpiry job peer) s = .next (s.modPair job.toNat peer.toNat fun k => { k with old := none }) := by
  change execKeyRetainExpiry job peer s = _
  unfold execKeyRetainExpiry
  rw [hpair, Option.bind_some, needSome_some hold, need_true _ _ _ htimed, occurs_next]

end

/-- A KEYEND ends the pair (R541). -/
theorem exec_keyend {s s1 : State} {l : LinkIx} {f : Frame} (hf : s.takeRx l.val (fun f => frameKind f == 5) = some (f, s1)) :
    exec (.keyend l) s = .next (s1.endPair (frameJob f) (frameSrc f) false) := by
  change execKeyend l s = _
  unfold execKeyend
  rw [needSome_some hf, occurs_next]

/-! ### KEY_INSTALL (R539) -/

/-- A secured session installs the keys of a pair of a compatibility job, and no older key is kept (R539). -/
theorem exec_keyInstall {s s' : State} {q : Req} {v : List Byte} {j : Job} {id : Nat} (h : s.serves q 0x1110 3 v)
    (hfe : q.fe = .secured id) (hs : s' = s.beginReq q v) (hzero : natAt v 7 1 = 0) (hjob : s'.job (natAt v 0 4) = some j)
    (hcompat : j.compat) (hmember : s'.isMember (natAt v 0 4) (natAt v 4 3)) (hroom : s'.fab.keys.length < 8192) :
    exec (.keyInstall q v) s = .next (((s'.newKeys (natAt v 0 4) (natAt v 4 3) 0 false (BitVec.ofNat 256 (natAt v 8 32))
      (BitVec.ofNat 256 (natAt v 40 32))).modPair (natAt v 0 4) (natAt v 4 3) fun k => { k with old := none }).reply
        s.dict.nextId q kOk []) := by
  change execKeyInstall q v s = _
  unfold execKeyInstall
  rw [served_finish h (fun hindex helem => by rw [hindex, helem]; rfl) (by rw [hfe]; rfl), occurs_next, ← hs]
  dsimp only
  rw [if_neg (not_not_intro hzero), hjob]
  dsimp only
  rw [if_neg (by simp [hcompat]), if_neg (by simp [hmember]), if_neg (by omega)]
  rfl

/-- Settles O37: a KEYX by what it is, then resending, retained keys, KEYEND and KEY_INSTALL. -/
theorem pairKeys : Obligations.PairKeys := by
  refine ⟨?_, ?_, ?_, ?_, ?_⟩
  · intro s s1 l d ok f asked hf hd hasked hok
    refine ⟨fun hno => exec_keyx_rejected hf hd hasked hok ?_, ?_⟩
    · obtain hmember | hsig | hjob | hphase := hno
      · exact .inl hmember
      · exact .inr (.inl hsig)
      · exact .inr (.inr (.inl fun j hj => by rw [hjob] at hj; cases hj))
      · exact .inr (.inr (.inr hphase))
    · rintro j _ hsig hmember hjob hphase rfl
      refine ⟨fun hcompat => exec_keyx_rejected hf hd hasked hok (.inr (.inr (.inl fun i hi => ?_))),
        fun hnative hknown => ⟨?_, ?_⟩⟩
      · rw [hjob] at hi
        cases hi
        exact hcompat
      · intro p x s2 first last hstep hpair hroom hnew hkeys
        exact exec_keyx_initiation hf hd hasked hok hsig hmember hjob hnative hphase hknown hstep hpair hroom hnew hkeys
      · intro k a first last hstep hpair hfresh hagr hkeys
        exact exec_keyx_answer hf hd hasked hok hsig hmember hjob hnative hphase hknown hstep hpair hfresh hagr hkeys
  · intro s job peer k a hpair hagr
    exact exec_keyxResend hpair hagr
  · intro s job peer k o hpair hold htimed
    exact exec_keyRetainExpiry hpair hold htimed
  · intro s s1 l f hf
    exact exec_keyend hf
  · rintro s s' q v j h ⟨id, hfe⟩ hs hzero hjob hcompat hmember hroom
    exact exec_keyInstall h hfe hs hzero hjob hcompat hmember hroom

end Sys2Proof.Proofs
end

section
/-! PROOFS. Custody frames and the push channels at work (R550 to R557). -/

namespace Sys2Proof.Proofs

open Sys2Proof Sys2Proof.Machine Sys2Proof.Laws

/-! ### PCOMMIT (R552) -/

/-- A PCOMMIT that passes the checks of a write over its unit, and signals no fence: one that the custody table holds at a later epoch is
acknowledged again; a new one enters the table where it has room (R552, R553). -/
theorem exec_pcommit {s s1 : State} {l : LinkIx} {f : Frame} {w : WinEntry} {id : BitVec 64} {epoch : Nat}
    (hf : s.takeRx l.val (fun f => frameKind f == 6) = some (f, s1))
    (hcheck : s1.inboundCheck f (natAt f.payload 16 8) .write = .ok w) (hid : id = BitVec.ofNat 64 (natAt f.payload 0 8))
    (hepoch : epoch = natAt f.payload 8 4) (hquiet : bitsOf (natAt f.payload 12 4) 0 1 = 0) :
    (∀ c, (s1.fab.custody.find? fun c => c.id == id && c.src == frameSrc f) = some c → epoch < c.epoch →
      exec (.pcommit l) s = .next (s1.sendCustody (frameJob f) (frameSrc f) 7
        (toLE 8 id.toNat ++ toLE 4 c.epoch ++ toLE 2 kOk.toNat ++ [0, 0]))) ∧
    (∀ c : Custody, (s1.fab.custody.find? fun c => c.id == id && c.src == frameSrc f) = none → s1.fab.custody.length < 4096 →
      c = { id := id, src := frameSrc f, job := frameJob f, epoch := epoch + 1, inc := BitVec.ofNat 32 (hdrField f 128 32),
            win := frameRwin f } →
      exec (.pcommit l) s = .next ((({ s1 with fab := { s1.fab with custody := s1.fab.custody ++ [c] } } : State).raise
        1683).sendCustody (frameJob f) (frameSrc f) 7 (toLE 8 id.toNat ++ toLE 4 (epoch + 1) ++ toLE 2 kOk.toNat ++ [0, 0]))) := by
  change (∀ c, _ → _ → execPcommit l s = _) ∧ (∀ c, _ → _ → _ → execPcommit l s = _)
  unfold execPcommit
  rw [needSome_some hf]
  dsimp only
  rw [hcheck, ← hid, ← hepoch]
  dsimp only
  refine ⟨fun c hfound hlater => ?_, fun c hnew hroom hc => ?_⟩
  · rw [hfound]
    dsimp only
    rw [if_pos hlater, occurs_next]
  · rw [hnew]
    dsimp only
    rw [if_neg (by omega), if_neg (by omega), occurs_next, ← hc]

/-! ### PACK and PDONE (R554 to R557) -/

/-- Status zero is OK. -/
theorem zero_not_failing : ¬ (BitVec.ofNat 16 0 ≠ kOk) := not_not_intro rfl

section
variable {s s1 : State} {l : LinkIx} {f : Frame} {c n : Nat} {x : Chan} {u : PushUnit}
  (hf : s.takeRx l.val (fun f => frameKind f == 7) = some (f, s1)) (hchans : kkeys s1.fab.chans = [c]) (hx : s1.chan c = some x)
  (hu : (x.units.find? fun u => u.id == BitVec.ofNat 64 (natAt f.payload 0 8) && u.job == frameJob f && u.peer == frameSrc f &&
    u.phase != .acked) = some u)
include hf hchans hx hu

/-- A PACK with another status than OK fails the unit that waits for it (R554). -/
theorem exec_pack_fails (hst : natAt f.payload 12 2 ≠ 0) (hsize : natAt f.payload 12 2 < 2 ^ 16) (hwell : u.failed = none)
    (hphase : u.phase = .committed n) : exec (.pack l) s = .next (s1.failUnit c u.n (BitVec.ofNat 16 (natAt f.payload 12 2))) := by
  have hcode : BitVec.ofNat 16 (natAt f.payload 12 2) ≠ kOk := fun h => hst (by
    have := congrArg BitVec.toNat h
    rwa [BitVec.toNat_ofNat, Nat.mod_eq_of_lt hsize] at this)
  change execPack l s = _
  unfold execPack
  rw [needSome_some hf]
  dsimp only
  rw [hchans, List.findSome?_cons, hx, Option.bind_some, hu]
  dsimp only [Option.map]
  rw [if_pos hcode, occurs_next, hwell, hphase]
  rfl

/-- A PACK with OK of no later epoch changes nothing (R554). -/
theorem exec_pack_stale (hst : natAt f.payload 12 2 = 0) (hepoch : natAt f.payload 8 4 ≤ u.epoch) : exec (.pack l) s = .next s1 := by
  change execPack l s = _
  unfold execPack
  rw [needSome_some hf]
  dsimp only
  rw [hchans, List.findSome?_cons, hx, Option.bind_some, hu, hst]
  dsimp only [Option.map]
  rw [if_neg zero_not_failing, if_pos (.inl hepoch), occurs_next]

/-- A PACK with OK of a later epoch, to a unit that waits for it or while the log has room, makes the log entry, acknowledges the unit and
lets DONE advance (R554). -/
theorem exec_pack_acks {k : Pair} {e : LogEntry} (hst : natAt f.payload 12 2 = 0) (hepoch : u.epoch < natAt f.payload 8 4)
    (hroom : u.failed = none ∧ u.phase = .committed n ∨ s1.fab.logs.length < 4096) (hother : frameSrc f ≠ s1.endpoint)
    (hpair : s1.pair (frameJob f) (frameSrc f) = some k)
    (he : e = { id := BitVec.ofNat 64 (natAt f.payload 0 8), peer := frameSrc f, job := frameJob f, epoch := natAt f.payload 8 4,
                inc := k.inc.truncate 32 }) :
    exec (.pack l) s = .next (((({ s1 with fab := { s1.fab with logs := s1.fab.logs ++ [e] } } : State).modChan c fun x =>
      (x.modUnit u.n fun u => { u with phase := .acked, failed := none }).advance 64).noteDone c).freedLogs) := by
  subst he
  change execPack l s = _
  unfold execPack
  rw [needSome_some hf]
  dsimp only
  rw [hchans, List.findSome?_cons, hx, Option.bind_some, hu, hst]
  dsimp only [Option.map]
  rw [if_neg zero_not_failing, if_neg ?_, if_neg hother, hpair, occurs_next]
  rintro (hold | ⟨hdue, hfull⟩)
  · omega
  · obtain ⟨hwell, hphase⟩ | hspace := hroom
    · simp [hwell, hphase] at hdue
    · omega

end

/-- A PDONE with status zero frees the log entries of its push; another makes them LOST (R556, R557). -/
theorem exec_pdone {s s1 : State} {l : LinkIx} {f : Frame} {mine : LogEntry → Bool}
    (hf : s.takeRx l.val (fun f => frameKind f == 8) = some (f, s1))
    (hmine : mine = fun e => e.id == BitVec.ofNat 64 (natAt f.payload 0 8) && e.peer == frameSrc f) :
    (natAt f.payload 8 2 = 0 → exec (.pdone l) s =
      .next ({ s1 with fab := { s1.fab with logs := s1.fab.logs.filter fun e => !mine e } } : State).freedLogs) ∧
    (natAt f.payload 8 2 ≠ 0 → exec (.pdone l) s = .next (s1.loseLog mine)) := by
  subst hmine
  change (_ → execPdone l s = _) ∧ (_ → execPdone l s = _)
  unfold execPdone
  rw [needSome_some hf]
  dsimp only
  refine ⟨fun hdone => ?_, fun hlost => ?_⟩
  · rw [if_pos hdone, occurs_next]
  · rw [if_neg hlost, occurs_next]

/-! ### Polling and retries (R550, R551, R555) -/

section
variable {s : State} {c : Fin 64} {x : Chan} (hx : s.chan c.val = some x)
include hx

/-- A channel that does not run takes no units, and goes on with those in flight (R551). -/
theorem exec_pushPoll_stopped {ms : List LineMeet} (hphase : x.phase ≠ .running) :
    exec (.pushPoll c ms) s = .next (s.sendUnits c.val ms) := by
  change execPushPoll c ms s = _
  unfold execPushPoll
  dsimp only
  rw [needSome_some hx, if_pos (.inl hphase), occurs_next]

/-- A channel that runs, of a den that does, reads its tail word: one that claims more units than the ring holds makes it HELD, and
another has its units taken and sent (R550, R551). -/
theorem exec_pushPoll_running {ms : List LineMeet} {bs : List Byte} {r : State} (hphase : x.phase = .running)
    (hden : (s.den x.slot).phase = .running) (hfreeze : (s.den x.slot).settFreeze = false) (hcmd : (s.den x.slot).cmd = none)
    (hready : s.engineReady (s.chanLink x) x.slot (x.tailw / 64 * 64))
    (hread : s.engineAccess (s.chanLink x) x.slot (x.tailw / 64 * 64) .read .read (meetAt ms (x.tailw / 64 * 64)) = (kOk, bs, r)) :
    (2 ^ x.ringLog < (natAt bs (x.tailw % 64) 4 + 2 ^ 32 - x.done) % 2 ^ 32 →
      exec (.pushPoll c ms) s = .next (r.holdChan c.val fun x => { x with status := kRange })) ∧
    ((natAt bs (x.tailw % 64) 4 + 2 ^ 32 - x.done) % 2 ^ 32 ≤ 2 ^ x.ringLog →
      exec (.pushPoll c ms) s = .next ((r.takeUnits c.val (natAt bs (x.tailw % 64) 4) ms 4).sendUnits c.val ms)) := by
  change (_ → execPushPoll c ms s = _) ∧ (_ → execPushPoll c ms s = _)
  unfold execPushPoll
  dsimp only
  rw [needSome_some hx, if_neg (by simp [hphase, hden, hfreeze, hcmd]), need_true _ _ _ hready, hread]
  dsimp only
  rw [if_neg (not_not_intro rfl)]
  refine ⟨fun hover => ?_, fun hfits => ?_⟩
  · rw [if_pos hover, occurs_next]
    rfl
  · rw [if_neg (by omega), occurs_next]

/-- A PCOMMIT without its PACK is sent again while tries are left; then its unit fails with TIMEOUT (R555). -/
theorem exec_pushRetryExpiry {unit : BitVec 32} {u : PushUnit} {n : Nat}
    (hu : (x.units.find? fun u => u.n == unit.toNat && u.failed.isNone) = some u) (hphase : u.phase = .committed n) :
    (n < s.reg 0x1100 5 → exec (.pushRetryExpiry c unit) s = .next (s.sendCommit c.val x u)) ∧
    (s.reg 0x1100 5 ≤ n → exec (.pushRetryExpiry c unit) s = .next (s.failUnit c.val u.n kTimeout)) := by
  change (_ → execPushRetryExpiry c unit s = _) ∧ (_ → execPushRetryExpiry c unit s = _)
  unfold execPushRetryExpiry
  dsimp only
  rw [needSome_some hx, needSome_some hu, hphase]
  dsimp only
  refine ⟨fun hmore => ?_, fun hspent => ?_⟩
  · rw [if_pos hmore, occurs_next]
  · rw [if_neg (by omega), occurs_next]

end

/-- Settles O40: PCOMMIT, PACK, PDONE, then a channel's polls and retries. -/
theorem custodyEvents : Obligations.CustodyEvents := by
  refine ⟨?_, ?_, ?_, ?_, ?_⟩
  · intro s s1 l f w id epoch hf hcheck hid hepoch hquiet
    exact exec_pcommit hf hcheck hid hepoch hquiet
  · intro s s1 l f c x u n hf hchans hx hu
    exact ⟨exec_pack_fails hf hchans hx hu, exec_pack_stale hf hchans hx hu, fun k e => exec_pack_acks hf hchans hx hu⟩
  · intro s s1 l f mine hf hmine
    exact exec_pdone hf hmine
  · intro s r c x ms bs hx
    exact ⟨exec_pushPoll_stopped hx, exec_pushPoll_running hx⟩
  · intro s c x unit u n hx hu hphase
    exact exec_pushRetryExpiry hx hu hphase

end Sys2Proof.Proofs
end

section
/-! PROOFS. The state of a link: up and down, the spare lane, pauses and preemption (R509 to R512, R521, R528, R559). -/

namespace Sys2Proof.Proofs

open Sys2Proof Sys2Proof.Machine Sys2Proof.Laws

/-! ### What the operations on a link leave in its registers and its state -/

theorem setReg_reg_same (s : State) {ix el : Nat} (v : Nat) (h : el < 256) : (s.setReg ix el v).reg ix el = v := by
  rw [setReg_reg s v h h, if_pos ⟨rfl, rfl⟩]

@[simp] theorem setReg_link (s : State) (ix el v l : Nat) : (s.setReg ix el v).link l = s.link l := rfl

@[simp] theorem bump_link (s : State) (ix el n l : Nat) : (s.bump ix el n).link l = s.link l := rfl

@[simp] theorem raiseAt_link (s : State) (agent floor n l : Nat) : (s.raiseAt agent floor n).link l = s.link l := rfl

@[simp] theorem settleWarn_link (s : State) (l : Nat) : s.settleWarn.link l = s.link l := rfl

@[simp] theorem setLinkState_link (s : State) (l st m : Nat) : (s.setLinkState l st).link m = s.link m := by
  unfold State.setLinkState
  split <;> rfl

theorem raiseAt_reg (s : State) (agent floor n ix el : Nat) : (s.raiseAt agent floor n).reg ix el = s.reg ix el := rfl

theorem setLink_reg (s : State) (l : Nat) (x : Link) (ix el : Nat) : (s.setLink l x).reg ix el = s.reg ix el := rfl

theorem settlePause_reg (s : State) (l ix el : Nat) : (s.settlePause l).reg ix el = s.reg ix el := reg_of_dict_eq (by simp) ix el

/-- A link whose state is set has it in STATE (R559). -/
theorem setLinkState_state (s : State) (l st : Nat) : (s.setLinkState l st).reg (0x1000 + l) 0 = st := by
  unfold State.setLinkState
  split
  · assumption
  · rw [raiseAt_reg, setReg_reg_same _ _ (by decide)]

/-- The other registers of a link keep their values when its state is set. -/
theorem setLinkState_reg_other (s : State) (l st : Nat) {ix el : Nat} (hel : el < 256) (hne : el ≠ 0) :
    (s.setLinkState l st).reg ix el = s.reg ix el := by
  unfold State.setLinkState
  split
  · rfl
  · rw [raiseAt_reg, setReg_reg_other _ _ (by decide) hel (by omega)]

/-- Settling a link's pause says only whether the link holds its peer's bulk frames back (R521). -/
theorem settlePause_link (s : State) (l : Nat) :
    (s.settlePause l).link l = { s.link l with pausing := decide (2 ^ 20 < (s.link l).bulkBytes s.endpoint + bulkFrameMax) } := by
  unfold State.settlePause
  dsimp only
  split
  next h =>
    have hpausing : decide (2 ^ 20 < (s.link l).bulkBytes s.endpoint + bulkFrameMax) = (s.link l).pausing := by
      rw [Bool.eq_iff_iff, decide_eq_true_eq]
      exact iff_of_eq h
    rw [hpausing]
  next => exact (setLink_link s l l _).trans (if_pos rfl)

/-- A link that leaves service has no lane, no preemption and the state it goes to (R512, R559). -/
theorem linkDown_regs (s : State) (l st : Nat) :
    (s.linkDown l st).reg (0x1000 + l) 0 = st ∧ (s.linkDown l st).reg (0x1000 + l) 4 = 0 ∧ (s.linkDown l st).reg (0x1000 + l) 5 = 0 := by
  unfold State.linkDown
  refine ⟨setLinkState_state _ _ _, ?_, ?_⟩
  · rw [setLinkState_reg_other _ _ _ (by decide) (by decide), bump_reg_other _ _ (by decide) (by decide) (by omega),
      setReg_reg_other _ _ (by decide) (by decide) (by omega), setReg_reg_same _ _ (by decide)]
  · rw [setLinkState_reg_other _ _ _ (by decide) (by decide), bump_reg_other _ _ (by decide) (by decide) (by omega),
      setReg_reg_same _ _ (by decide)]

/-- The frames that a link holds are lost as it leaves service (R512). -/
@[simp] theorem linkDown_link (s : State) (l st : Nat) :
    (s.linkDown l st).link l = { s.link l with paused := false, pausing := false, held := [] } := by
  simp [State.linkDown]

@[simp] theorem linkSpent_link (s : State) (l : Nat) :
    (s.linkSpent l).link l = { s.link l with unavailable := true, paused := false, pausing := false, held := [] } := by
  simp [State.linkSpent]

/-- A link that has lost more lanes than its spare stays down (R511). -/
theorem linkSpent_regs (s : State) (l : Nat) :
    (s.linkSpent l).reg (0x1000 + l) 0 = 4 ∧ (s.linkSpent l).reg (0x1000 + l) 4 = 0 ∧ (s.linkSpent l).reg (0x1000 + l) 5 = 0 :=
  linkDown_regs _ l 4

/-- A link is up while its STATE is 2 (R559). -/
theorem linkUp_of_state {s : State} {l : Nat} (h : s.reg (0x1000 + l) 0 = 2) : s.linkUp l = true := by simp [State.linkUp, h]

/-! ### The order of bulk frames (R530) -/

/-- A frame that its source's credit of the first round covers leaves alone (R530). -/
theorem drrOrder_singleton {α : Type} {source : α → SendBy} {size : α → Nat} {weight : SendBy → Nat} {x : α} (n : Nat)
    (h : size x ≤ 64 * weight (source x)) : drrOrder source size weight (n + 1) [] [x] = [x] := by
  cases n <;> simp [drrOrder, takeCredit, List.eraseDups_cons, h]

/-! ### Training and loss (R509 to R512) -/

/-- Training that ends with eight lanes in service, the spare among them only where it may be, and where it must be, brings the link up
(R509, R511). -/
theorem exec_linkUp {s : State} {l : LinkIx} {lanes : BitVec 9} (hstate : s.reg (0x1000 + l.val) 0 = 1 ∨ s.reg (0x1000 + l.val) 0 = 3)
    (hen : s.reg (0x1000 + l.val) 1 = 1) (hlanes : popCount 9 lanes.toNat = 8)
    (hpartner : lanes.getLsbD 8 = false ∨ s.reg (0x1000 + l.val) 3 = 1)
    (hspare : (s.link l.val).spareUsed = false ∨ lanes.getLsbD (s.link l.val).lostLane = false) :
    Completes (exec (.linkUp l lanes) s) fun r => r.reg (0x1000 + l.val) 0 = 2 ∧ r.reg (0x1000 + l.val) 4 = lanes.toNat ∧
      (r.link l.val).spareUsed = lanes.getLsbD 8 := by
  change Completes (execLinkUp l lanes s) _
  unfold execLinkUp
  dsimp only
  rw [need_true _ _ _ (by simp [hstate, hen]), need_true _ _ _ ?_, occurs_next]
  · refine ⟨_, rfl, ?_, ?_, ?_⟩
    · rw [settleWarn_reg, settlePause_reg, setLinkState_state]
    · rw [settleWarn_reg, settlePause_reg, setLinkState_reg_other _ _ _ (by decide) (by decide), setReg_reg_same _ _ (by decide)]
    · simp [settlePause_link]
  · simp only [Bool.and_eq_true, Bool.or_eq_true, Bool.not_eq_true', beq_iff_eq]
    exact ⟨⟨hlanes, hpartner⟩, hspare⟩

section
variable {s : State} {l : LinkIx} (hstate : s.reg (0x1000 + l.val) 0 = 2)
include hstate

/-- A link that goes down with its lanes whole, or that has no spare to take, trains again (R512). -/
theorem exec_linkDown_trains {lane : Option (Fin 9)} (hlane : ∀ k, lane = some k → (s.reg (0x1000 + l.val) 4).testBit k.val)
    (hspare : lane = none ∨ s.reg (0x1000 + l.val) 3 ≠ 1) : exec (.linkDown l lane) s = .next (s.linkDown l.val 3) := by
  change execLinkDown l lane s = _
  unfold execLinkDown
  rw [need_true _ _ _ (linkUp_of_state hstate)]
  cases lane with
  | none => rfl
  | some k =>
    have hpartner : s.reg (0x1000 + l.val) 3 ≠ 1 := by simpa using hspare
    dsimp only
    rw [need_true _ _ _ (hlane k rfl), if_neg (fun h => hpartner h.1), if_neg hpartner, occurs_next]

/-- A link between Osdin chips that loses a lane trains with the spare in its place; with the spare in use it stays down (R510, R511). -/
theorem exec_linkDown_spare {k : Fin 9} (hlane : (s.reg (0x1000 + l.val) 4).testBit k.val) (hpartner : s.reg (0x1000 + l.val) 3 = 1) :
    exec (.linkDown l (some k)) s = .next (if (s.link l.val).spareUsed then s.linkSpent l.val
      else ((s.linkDown l.val 3).modLink l.val fun x => { x with spareUsed := true, lostLane := k.val }).settleWarn) := by
  change execLinkDown l (some k) s = _
  unfold execLinkDown
  rw [need_true _ _ _ (linkUp_of_state hstate)]
  dsimp only
  rw [need_true _ _ _ hlane]
  cases hused : (s.link l.val).spareUsed with
  | true => rw [if_pos ⟨hpartner, rfl⟩, occurs_next, if_pos rfl]
  | false => rw [if_neg (fun h => Bool.false_ne_true h.2), if_pos hpartner, occurs_next, if_neg Bool.false_ne_true]

/-- What a link that goes down has in its registers and its state (R510 to R512, R559). -/
theorem completes_linkDown {lane : Option (Fin 9)} (hlane : ∀ k, lane = some k → (s.reg (0x1000 + l.val) 4).testBit k.val) :
    Completes (exec (.linkDown l lane) s) fun r =>
      r.reg (0x1000 + l.val) 4 = 0 ∧ r.reg (0x1000 + l.val) 5 = 0 ∧ (r.link l.val).held = [] ∧
      (lane = none ∨ (s.link l.val).spareUsed = false ∨ s.reg (0x1000 + l.val) 3 ≠ 1 → r.reg (0x1000 + l.val) 0 = 3) ∧
      (lane ≠ none → s.reg (0x1000 + l.val) 3 = 1 → (r.link l.val).spareUsed) ∧
      (lane ≠ none → (s.link l.val).spareUsed → s.reg (0x1000 + l.val) 3 = 1 →
        r.reg (0x1000 + l.val) 0 = 4 ∧ (r.link l.val).unavailable) := by
  by_cases htrains : lane = none ∨ s.reg (0x1000 + l.val) 3 ≠ 1
  · obtain ⟨hst, hlanes, hpreempt⟩ := linkDown_regs s l.val 3
    refine ⟨_, exec_linkDown_trains hstate hlane htrains, hlanes, hpreempt, by simp, fun _ => hst, fun hsome hpartner => ?_,
      fun hsome _ hpartner => ?_⟩ <;> simp [hsome, hpartner] at htrains
  obtain ⟨hsome, hpartner⟩ := not_or.mp htrains
  obtain ⟨k, rfl⟩ := Option.ne_none_iff_exists'.mp hsome
  rw [not_not] at hpartner
  refine ⟨_, exec_linkDown_spare hstate (hlane k rfl) hpartner, ?_⟩
  cases hused : (s.link l.val).spareUsed with
  | true =>
    obtain ⟨hst, hlanes, hpreempt⟩ := linkSpent_regs s l.val
    simp [hst, hlanes, hpreempt, hused, hpartner]
  | false =>
    obtain ⟨hst, hlanes, hpreempt⟩ := linkDown_regs s l.val 3
    simp [settleWarn_reg, State.modLink, setLink_reg, hst, hlanes, hpreempt]

/-! ### The spare lane (R511) -/

/-- A failing lane's data move onto the spare of a link between Osdin chips; with the spare in use the link stays down (R511). -/
theorem completes_spareSwap {lane : Fin 8} (hpartner : s.reg (0x1000 + l.val) 3 = 1)
    (hlane : (s.reg (0x1000 + l.val) 4).testBit lane.val) :
    Completes (exec (.spareSwap l lane) s) fun r =>
      ((s.link l.val).spareUsed = false → r.reg (0x1000 + l.val) 0 = 2 ∧ (r.link l.val).spareUsed ∧
        r.reg (0x1000 + l.val) 4 = s.reg (0x1000 + l.val) 4 - 2 ^ lane.val + 2 ^ 8) ∧
      ((s.link l.val).spareUsed → r.reg (0x1000 + l.val) 0 = 4 ∧ (r.link l.val).unavailable) := by
  change Completes (execSpareSwap l lane s) _
  unfold execSpareSwap
  dsimp only
  rw [need_true _ _ _ (by simp [linkUp_of_state hstate, hpartner, hlane])]
  cases hused : (s.link l.val).spareUsed with
  | true =>
    rw [if_pos rfl, occurs_next]
    exact ⟨_, rfl, nofun, fun _ => ⟨(linkSpent_regs s l.val).1, by simp⟩⟩
  | false =>
    rw [if_neg Bool.false_ne_true, occurs_next]
    refine ⟨_, rfl, fun _ => ⟨?_, by simp, ?_⟩, nofun⟩
    · rw [settleWarn_reg, raiseAt_reg, bump_reg_other _ _ (by decide) (by decide) (by omega),
        setReg_reg_other _ _ (by decide) (by decide) (by omega), setLink_reg, hstate]
    · rw [settleWarn_reg, raiseAt_reg, bump_reg_other _ _ (by decide) (by decide) (by omega), setReg_reg_same _ _ (by decide)]

/-! ### Pauses and preemption (R521, R528) -/

/-- A pause of the bulk PCP holds bulk frames (R521). -/
theorem exec_priorityFlowControl_pause :
    exec (.priorityFlowControl l true) s = .next (s.modLink l.val fun x => { x with paused := true }) := by
  change execPriorityFlowControl l true s = _
  unfold execPriorityFlowControl
  rw [need_true _ _ _ (linkUp_of_state hstate)]
  rfl

/-- As the pause ends, a frame of an engine that waits alone goes out (R521, R530). -/
theorem exec_priorityFlowControl_resume {h : HeldFrame} (hheld : (s.link l.val).held = [h]) (hby : h.by_ = .engine)
    (hlen : h.frame.payload.length ≤ 4010) :
    exec (.priorityFlowControl l false) s =
      .next ((s.modLink l.val fun x => { x with paused := false, held := [] }).emit (.frame l.val h.frame)) := by
  have hsize : frameSize h.frame ≤ 64 * drrWeight s l.val h.by_ := by
    rw [hby, show drrWeight s l.val .engine = 64 from rfl]
    unfold frameSize
    split <;> omega
  change execPriorityFlowControl l false s = _
  unfold execPriorityFlowControl
  rw [need_true _ _ _ (linkUp_of_state hstate)]
  dsimp only
  rw [if_neg Bool.false_ne_true, hheld, drrOrder_singleton _ hsize]
  rfl

/-- The verification of preemption begins, succeeds or fails (R528). -/
theorem exec_macMergeVerification (ok : Option Bool) : exec (.macMergeVerification l ok) s =
    .next (s.setReg (0x1000 + l.val) 5 (match ok with | none => 1 | some true => 2 | some false => 0)) :=
  congrArg (occurs s) (need_true _ _ _ (linkUp_of_state hstate))

end

/-- Settles O41: training, loss of the link and of a lane, then pauses and preemption. -/
theorem linkState : Obligations.LinkState := by
  refine ⟨?_, ?_, ?_, ?_, ?_⟩
  · intro s l lanes hstate hen hlanes hpartner hspare
    exact exec_linkUp hstate hen hlanes hpartner hspare
  · intro s l lane hstate hlane
    exact completes_linkDown hstate hlane
  · intro s l lane hstate hpartner hlane
    exact completes_spareSwap hstate hpartner hlane
  · intro s l hstate
    exact ⟨exec_priorityFlowControl_pause hstate, fun h hheld hby hlen => exec_priorityFlowControl_resume hstate hheld hby hlen⟩
  · intro s l hstate
    exact ⟨exec_macMergeVerification hstate none, exec_macMergeVerification hstate (some true),
      exec_macMergeVerification hstate (some false)⟩

end Sys2Proof.Proofs
end

section
/-! PROOFS. The checks of a frame that arrives, and its place before an engine (R513, R518, R520, R521). -/

namespace Sys2Proof.Proofs

open Sys2Proof Sys2Proof.Machine Sys2Proof.Laws

/-! ### What counting corrected codewords leaves (R559) -/

/-- Of all registers, FEC_CORR of a link is counted in its own alone. -/
theorem fecCount_reg (s : State) (l : LinkIx) {ix el : Nat} (hel : el < 256) (hne : ¬ (0x1000 ≤ ix ∧ ix < 0x1020)) :
    (s.fecCount l.val).reg ix el = s.reg ix el := by
  have hl := l.isLt
  exact bump_reg_other _ _ (by decide) hel (by omega)

@[simp] theorem fecCount_endpoint (s : State) (l : LinkIx) : (s.fecCount l.val).endpoint = s.endpoint :=
  fecCount_reg s l (by decide) (by decide)

theorem fecCount_etype (s : State) (l : LinkIx) : (s.fecCount l.val).reg 0x1100 1 = s.reg 0x1100 1 :=
  fecCount_reg s l (by decide) (by decide)

@[simp] theorem fecCount_incarnation (s : State) (l : LinkIx) : (s.fecCount l.val).incarnation = s.incarnation :=
  fecCount_reg s l (by decide) (by decide)

@[simp] theorem fecCount_pair (s : State) (l job peer : Nat) : (s.fecCount l).pair job peer = s.pair job peer := rfl

@[simp] theorem fecCount_job (s : State) (l id : Nat) : (s.fecCount l).job id = s.job id := rfl

@[simp] theorem fecCount_link (s : State) (l m : Nat) : (s.fecCount l).link m = s.link m := rfl

/-! ### A frame before its engine (R521) -/

/-- A frame for which there is room stands last before its engine. -/
theorem putRx_rx {s : State} {l : Nat} {f : Frame} (hroom : hdrField f 8 1 = 1 ∨ (s.link l).bulkBytes s.endpoint + frameSize f ≤ 2 ^ 20) :
    ((s.putRx l f).link l).rx = (s.link l).rx ++ [f] := by
  unfold State.putRx
  rw [if_neg (by omega), settlePause_link, modLink_link, if_pos rfl]

/-- A bulk frame for which there is no room is lost, and counted in DROPS. -/
theorem putRx_full {s : State} {l : Nat} {f : Frame} (hbulk : hdrField f 8 1 = 0)
    (hfull : 2 ^ 20 < (s.link l).bulkBytes s.endpoint + frameSize f) : s.putRx l f = s.bump (0x1000 + l) 0x0E := if_pos ⟨hbulk, hfull⟩

/-! ### The checks (R513, R520) -/

theorem modPair_endpoint (s : State) (job peer : Nat) (g : Pair → Pair) : (s.modPair job peer g).endpoint = s.endpoint := rfl

/-- A frame whose tag verifies under its pair's receive key is opened with it (R520). -/
theorem opens_live {k : Pair} {f g : Frame} (h : frameOpened f k.rxKey = some g) : k.opens f = .live := if_pos (by rw [h]; rfl)

/-- A frame that no key of its pair opens is not opened by the receive key (R520). -/
theorem frameOpened_eq_none {k : Pair} {f : Frame} (h : k.opens f = .none) : frameOpened f k.rxKey = none := by
  cases hg : frameOpened f k.rxKey with
  | none => rfl
  | some g => rw [opens_live hg] at h; cases h

section
variable {s s0 : State} {l : LinkIx} {f : Frame} (hup : s.linkUp l.val) (hs0 : s0 = s.fecCount l.val)
include hup hs0

/-- A frame whose FCS is wrong is dropped and counted (R513). -/
theorem exec_frameReceive_badFcs (key : TagKey) : exec (.frameReceive l f false key) s = .next (s0.bump (0x1000 + l.val) 0x0A) := by
  change execFrameReceive l f false key s = _
  unfold execFrameReceive
  rw [need_true _ _ _ hup, ← hs0]
  rfl

variable {key : TagKey} (hetype : f.etype.toNat = s.reg 0x1100 1) (hmac : f.dmac = macOf s.endpoint l.val)
include hetype hmac

/-- A frame that is addressed to the link (R513, R520): one that is not well formed, or that comes while the chip has no endpoint, is
dropped and counted; one for another endpoint goes on; a KEYX goes before its engine, unless a reserved byte of it is set; another needs
a pair. -/
theorem exec_frameReceive_addressed :
    (frameWellFormed f = false ∨ s.endpoint = 0 → exec (.frameReceive l f true key) s = .next (s0.bump (0x1000 + l.val) 0x0E)) ∧
    (frameWellFormed f → s.endpoint ≠ 0 →
      (frameDst f ≠ s.endpoint → exec (.frameReceive l f true key) s = .next (s0.forward l.val f)) ∧
      (frameDst f = s.endpoint →
        (frameKind f = 4 → controlZero f → exec (.frameReceive l f true key) s = .next (s0.putRx l.val f)) ∧
        (frameKind f = 4 → controlZero f = false →
          exec (.frameReceive l f true key) s = .next (s0.bump (0x1000 + l.val) 0x0E)) ∧
        (frameKind f ≠ 4 → s.pair (frameJob f) (frameSrc f) = none →
          exec (.frameReceive l f true key) s = .next (s0.bump (0x1000 + l.val) 0x0B)))) := by
  subst hs0
  change (_ → execFrameReceive l f true key s = _) ∧ (_ → _ → (_ → execFrameReceive l f true key s = _) ∧
    (_ → (_ → _ → execFrameReceive l f true key s = _) ∧ (_ → _ → execFrameReceive l f true key s = _) ∧
      (_ → _ → execFrameReceive l f true key s = _)))
  unfold execFrameReceive
  rw [need_true _ _ _ hup]
  dsimp only
  rw [fecCount_endpoint, fecCount_etype, fecCount_pair, if_neg (by decide), if_neg (by simp [hetype, hmac])]
  refine ⟨fun hbad => ?_, fun hform hend0 => ?_⟩
  · rw [if_pos (by simpa using hbad), occurs_next]
    rfl
  rw [if_neg (by simp [hform, hend0])]
  refine ⟨fun hdst => ?_, fun hdst => ?_⟩
  · rw [if_pos hdst, occurs_next]
  rw [if_neg (not_not_intro hdst)]
  refine ⟨fun hkeyx hzero => ?_, fun hkeyx hset => ?_, fun hkind hnone => ?_⟩
  · rw [if_pos hkeyx, hzero, if_neg (by decide), occurs_next]
  · rw [if_pos hkeyx, hset, if_pos (by decide), occurs_next]
    rfl
  · rw [if_neg hkind, hnone]
    rfl

variable {k : Pair} {j : Job} (hform : frameWellFormed f) (hend0 : s.endpoint ≠ 0) (hdst : frameDst f = s.endpoint)
  (hkind : frameKind f ≠ 4) (hpair : s.pair (frameJob f) (frameSrc f) = some k) (hlive : k.live)
  (hjob : s.job (frameJob f) = some j)
include hform hend0 hdst hkind hpair hlive hjob

/-- A frame of a live pair (R518, R520): one of other incarnations, one whose tag no key opens, and one whose packet number has been taken
is dropped and counted. An authentic one takes its packet number; with a reserved byte set it is dropped and counted, a request beyond the
384 that the engine holds is answered BUSY, and any other goes before its engine, opened. -/
theorem exec_frameReceive_paired :
    (j.compat = false → hdrField f 160 32 ≠ s.incarnation % 2 ^ 32 ∨ hdrField f 128 32 ≠ k.inc.toNat % 2 ^ 32 →
      exec (.frameReceive l f true key) s = .next (s0.bump (0x1000 + l.val) 0x0C)) ∧
    (j.compat ∨ hdrField f 160 32 = s.incarnation % 2 ^ 32 ∧ hdrField f 128 32 = k.inc.toNat % 2 ^ 32 →
      (key = .none → k.opens f = .none → k.rx.takes (hdrField f 192 64) →
        exec (.frameReceive l f true key) s = .next (s0.bump (0x1000 + l.val) 0x0B)) ∧
      (∀ (g : Frame), key = .live → frameOpened f k.rxKey = some g →
        (k.rx.takes (hdrField f 192 64) = false →
          exec (.frameReceive l f true key) s = .next (s0.bump (0x1000 + l.val) 0x0D)) ∧
        (∀ s', k.rx.takes (hdrField f 192 64) →
          s' = s0.modPair (frameJob f) (frameSrc f) (fun k => { k with rx := k.rx.note (hdrField f 192 64) }) →
          (controlZero g = false → exec (.frameReceive l f true key) s = .next (s'.bump (0x1000 + l.val) 0x0E)) ∧
          (controlZero g → frameKind g = 0 → 384 ≤ (s.link l.val).inbound s.endpoint →
            exec (.frameReceive l f true key) s = .next (s'.respond l.val g kBusy [])) ∧
          (controlZero g → frameKind g ≠ 0 ∨ (s.link l.val).inbound s.endpoint < 384 →
            exec (.frameReceive l f true key) s = .next (s'.putRx l.val g))))) := by
  subst hs0
  change (_ → _ → execFrameReceive l f true key s = _) ∧ (_ → (_ → _ → _ → execFrameReceive l f true key s = _) ∧
    (∀ g, _ → _ → (_ → execFrameReceive l f true key s = _) ∧ (∀ s', _ → _ → (_ → execFrameReceive l f true key s = _) ∧
      (_ → _ → _ → execFrameReceive l f true key s = _) ∧ (_ → _ → execFrameReceive l f true key s = _))))
  unfold execFrameReceive
  rw [need_true _ _ _ hup]
  dsimp only
  rw [fecCount_endpoint, fecCount_incarnation, fecCount_etype, fecCount_pair, fecCount_job, fecCount_link, if_neg (by decide),
    if_neg (by simp [hetype, hmac]), if_neg (by simp [hform, hend0]), if_neg (not_not_intro hdst), if_neg hkind, hpair, hjob]
  dsimp only
  rw [hlive, if_neg (by decide)]
  refine ⟨fun hnative hstale => ?_, fun hfresh => ?_⟩
  · rw [if_pos (by simpa [hnative] using hstale), occurs_next]
    rfl
  have hcurrent : ¬ (!j.compat && (hdrField f 160 32 != s.incarnation % 2 ^ 32 || hdrField f 128 32 != k.inc.toNat % 2 ^ 32)) = true := by
    obtain hcompat | ⟨hdinc, hsinc⟩ := hfresh
    · simp [hcompat]
    · simp [hdinc, hsinc]
  rw [if_neg hcurrent]
  refine ⟨?_, ?_⟩
  · rintro rfl hopens htakes
    simp only [reduceCtorEq, if_false]
    rw [need_true _ _ _ (by rw [hopens]; rfl), htakes, if_neg (by decide), frameOpened_eq_none hopens]
    rfl
  rintro g rfl hopened
  simp only [reduceCtorEq, if_false]
  rw [need_true _ _ _ (by rw [opens_live hopened]; rfl), hopened]
  dsimp only
  rw [modPair_endpoint, fecCount_endpoint]
  refine ⟨fun htaken => ?_, ?_⟩
  · rw [htaken, if_pos (by decide)]
    rfl
  rintro _ htakes rfl
  rw [htakes, if_neg (by decide)]
  refine ⟨fun hset => ?_, fun hzero hrequest hfull => ?_, fun hzero hroom => ?_⟩
  · rw [hset, if_pos (by decide)]
    rfl
  · rw [hzero, if_neg (by decide), if_pos (by simp [hrequest, hfull]), occurs_next]
  · rw [hzero, if_neg (by decide), if_neg (by simpa [imp_iff_not_or] using hroom), occurs_next]

end

/-- Settles O33: the checks that no pair is needed for, those of a live pair, then the place before an engine. -/
theorem frameArrival : Obligations.FrameArrival := by
  intro s s0 l f hup hs0
  refine ⟨exec_frameReceive_badFcs hup hs0, fun hetype hmac => ?_, putRx_rx, putRx_full⟩
  have haddressed (key : TagKey) := exec_frameReceive_addressed (key := key) hup hs0 hetype hmac
  refine ⟨fun hbad key => ?_, fun hform hend0 hdst key => ?_, fun hform hend0 hdst => ⟨fun hkeyx key => ?_, fun hkind hnone key => ?_,
    fun k j hkind hpair hlive hjob => ?_⟩⟩
  · obtain ⟨hmalformed, -⟩ := haddressed key
    exact hmalformed hbad
  · obtain ⟨-, hwell⟩ := haddressed key
    obtain ⟨helsewhere, -⟩ := hwell hform hend0
    exact helsewhere hdst
  · obtain ⟨-, hwell⟩ := haddressed key
    obtain ⟨-, hhere⟩ := hwell hform hend0
    obtain ⟨hplaced, hreserved, -⟩ := hhere hdst
    exact ⟨hplaced hkeyx, hreserved hkeyx⟩
  · obtain ⟨-, hwell⟩ := haddressed key
    obtain ⟨-, hhere⟩ := hwell hform hend0
    obtain ⟨-, -, hunpaired⟩ := hhere hdst
    exact hunpaired hkind hnone
  · have hpaired (key : TagKey) := exec_frameReceive_paired (key := key) hup hs0 hetype hmac hform hend0 hdst hkind hpair hlive hjob
    refine ⟨fun hnative hstale key => ?_, fun hfresh => ⟨?_, fun g hopened => ?_⟩⟩
    · obtain ⟨hdropped, -⟩ := hpaired key
      exact hdropped hnative hstale
    · obtain ⟨-, hcurrent⟩ := hpaired .none
      obtain ⟨hunopened, -⟩ := hcurrent hfresh
      exact hunopened rfl
    · obtain ⟨-, hcurrent⟩ := hpaired .live
      obtain ⟨-, hauthentic⟩ := hcurrent hfresh
      exact hauthentic g rfl hopened

end Sys2Proof.Proofs
end

section
/-! PROOFS. A step runs the command at the front of the queue (log entries 1 and 188). -/

namespace Sys2Proof.Proofs

open Sys2Proof Sys2Proof.Machine Sys2Proof.Laws

/-- Every command answers a next state: that of its event, or the state as it was. -/
theorem exec_completes (c : Instr) (s : State) : Completes (exec c s) fun _ => True := by
  obtain ⟨o, hexec, -⟩ := exec_keeps c s
  rw [hexec]
  obtain ⟨t, -, ht⟩ | ⟨g, -, ht⟩ := occurs_cases s o
  · exact ⟨t, ht, trivial⟩
  · exact ⟨s, ht, trivial⟩

/-- Settles O1: a step is its front command on the state with the rest of the queue, or the mesh's cycle where none waits. -/
theorem stepRunsFront : Obligations.StepRunsFront := by
  refine ⟨fun s c rest => rfl, fun s hempty => ?_, exec_completes⟩
  unfold step
  split
  · rfl
  · rename_i hpending
    rw [hempty] at hpending
    cases hpending

end Sys2Proof.Proofs
end

section
/-! PROOFS. What the interrupt controller keeps through occurrences, claims and completes, and the state of its sources after them
(R567 to R583). -/

namespace Sys2Proof.Proofs

open Sys2Proof Sys2Proof.Machine Sys2Proof.Laws

/-! ### What follows every event: E, REC and wake events -/

/-- The controller without what E, REC and wake events touch: moderation, targets and domains. -/
def icCore (c : Ic) : Ic := { c with mods := [], tgts := [], doms := [] }

theorem countE_core (c : Ic) (n : Nat) : icCore (c.countE n) = icCore c :=
  foldl_keeps_of icCore _ _ _ fun _ _ => by split <;> rfl

theorem countE_tgts (c : Ic) (n : Nat) : (c.countE n).tgts = c.tgts :=
  foldl_keeps_of Ic.tgts _ _ _ fun _ _ => by split <;> rfl

theorem settle_core (before after : Ic) (claimed : Option (Nat × Nat)) : icCore (Ic.settle before after claimed) = icCore after := by
  have hclear : icCore after.clearE = icCore after := foldl_keeps_of icCore _ _ _ fun _ _ => by dsimp only; split <;> rfl
  have htrack : icCore (after.clearE.trackRec claimed) = icCore after.clearE := by
    refine foldl_keeps_of icCore _ _ _ fun c t => ?_
    dsimp only
    (repeat' split) <;> rfl
  have hwake : icCore (Ic.wakeScan before (after.clearE.trackRec claimed)) = icCore (after.clearE.trackRec claimed) :=
    foldl_keeps_of icCore _ _ _ fun _ _ => by dsimp only; split <;> rfl
  exact hwake.trans (htrack.trans hclear)

/-- What the events that follow another leave of a target: all but what became of its notification. -/
def tgtKept (c : Ic) (t : Nat) : Nat × List (Nat × Nat) × Bool × Option Nat :=
  ((c.tgt t).thresh, (c.tgt t).stack, (c.tgt t).notified, (c.tgt t).noted)

theorem tgtKept_setTgt (c : Ic) (t u : Nat) (e : Option NotedEnd) :
    tgtKept (c.setTgt u { c.tgt u with notedEnd := e }) t = tgtKept c t := by
  by_cases h : t = u <;> simp [tgtKept, Ic.tgt, Ic.setTgt, h]

theorem settle_tgtKept (before after : Ic) (claimed : Option (Nat × Nat)) (t : Nat) :
    tgtKept (Ic.settle before after claimed) t = tgtKept after t := by
  have hclear : after.clearE.tgts = after.tgts := foldl_keeps_of Ic.tgts _ _ _ fun _ _ => by dsimp only; split <;> rfl
  have htrack : tgtKept (after.clearE.trackRec claimed) t = tgtKept after.clearE t := by
    refine foldl_keeps_of (fun c => tgtKept c t) _ _ _ fun c u => ?_
    dsimp only
    split
    · split
      · exact tgtKept_setTgt c t u _
      · split
        · rfl
        · exact tgtKept_setTgt c t u _
    · rfl
  have hwake : (Ic.wakeScan before (after.clearE.trackRec claimed)).tgts = (after.clearE.trackRec claimed).tgts :=
    foldl_keeps_of Ic.tgts _ _ _ fun _ _ => by dsimp only; split <;> rfl
  calc tgtKept (Ic.settle before after claimed) t
      = tgtKept (after.clearE.trackRec claimed) t := by simp only [tgtKept, Ic.tgt, Ic.settle, hwake]
    _ = tgtKept after.clearE t := htrack
    _ = tgtKept after t := by simp only [tgtKept, Ic.tgt, hclear]

/-- Whether a domain sleeps changes with no event that follows another. -/
theorem settle_asleep (before after : Ic) (claimed : Option (Nat × Nat)) (d : Nat) :
    ((Ic.settle before after claimed).dom d).asleep = (after.dom d).asleep := by
  have hclear : after.clearE.doms = after.doms := foldl_keeps_of Ic.doms _ _ _ fun _ _ => by dsimp only; split <;> rfl
  have htrack : (after.clearE.trackRec claimed).doms = after.clearE.doms := by
    refine foldl_keeps_of Ic.doms _ _ _ fun c t => ?_
    dsimp only
    (repeat' split) <;> rfl
  calc ((Ic.settle before after claimed).dom d).asleep
      = ((after.clearE.trackRec claimed).dom d).asleep := by
        refine foldl_keeps_of (fun c : Ic => (c.dom d).asleep) _ _ _ fun c k => ?_
        dsimp only
        split
        · by_cases h : d = k <;> simp [Ic.dom, Ic.setDom, h]
        · rfl
    _ = (after.dom d).asleep := by simp only [Ic.dom, htrack, hclear]

/-- Controllers that agree but for moderation, targets and domains agree in all that is read below. -/
theorem icCore_ext {a b : Ic} (h : icCore a = icCore b) : a.srcs = b.srcs ∧ a.groups = b.groups ∧ a.unmasked = b.unmasked ∧
    a.fnMask = b.fnMask ∧ a.pba = b.pba ∧ a.mbx = b.mbx ∧ a.mbxAccepted = b.mbxAccepted ∧ a.wakes = b.wakes := by
  simp only [icCore, Ic.mk.injEq] at h
  simp [h]

section
variable (before after c : Ic) (claimed : Option (Nat × Nat)) (n t : Nat)

@[simp] theorem countE_frame : (c.countE n).srcs = c.srcs ∧ (c.countE n).groups = c.groups ∧ (c.countE n).unmasked = c.unmasked ∧
    (c.countE n).fnMask = c.fnMask ∧ (c.countE n).pba = c.pba ∧ (c.countE n).mbx = c.mbx ∧ (c.countE n).mbxAccepted = c.mbxAccepted ∧
    (c.countE n).wakes = c.wakes := icCore_ext (countE_core c n)

@[simp] theorem settle_frame : (Ic.settle before after claimed).srcs = after.srcs ∧
    (Ic.settle before after claimed).groups = after.groups ∧ (Ic.settle before after claimed).unmasked = after.unmasked ∧
    (Ic.settle before after claimed).fnMask = after.fnMask ∧ (Ic.settle before after claimed).pba = after.pba ∧
    (Ic.settle before after claimed).mbx = after.mbx ∧ (Ic.settle before after claimed).mbxAccepted = after.mbxAccepted ∧
    (Ic.settle before after claimed).wakes = after.wakes := icCore_ext (settle_core before after claimed)

@[simp] theorem settle_src : (Ic.settle before after claimed).src n = after.src n := by simp [Ic.src]
@[simp] theorem countE_src (m : Nat) : (c.countE n).src m = c.src m := by simp [Ic.src]
@[simp] theorem countE_tgt : (c.countE n).tgt t = c.tgt t := by simp [Ic.tgt, countE_tgts]

@[simp] theorem settle_thresh : ((Ic.settle before after claimed).tgt t).thresh = (after.tgt t).thresh :=
  congrArg (·.1) (settle_tgtKept before after claimed t)
@[simp] theorem settle_stack : ((Ic.settle before after claimed).tgt t).stack = (after.tgt t).stack :=
  congrArg (·.2.1) (settle_tgtKept before after claimed t)
@[simp] theorem settle_notified : ((Ic.settle before after claimed).tgt t).notified = (after.tgt t).notified :=
  congrArg (·.2.2.1) (settle_tgtKept before after claimed t)

@[simp] theorem setSrc_src (m : Nat) (x : Src) : (c.setSrc n x).src m = if m = n then x else c.src m := by
  simp [Ic.src, Ic.setSrc]
@[simp] theorem setSrc_tgt (x : Src) : (c.setSrc n x).tgt t = c.tgt t := rfl
@[simp] theorem setTgt_src (x : Tgt) : (c.setTgt t x).src n = c.src n := rfl
@[simp] theorem setTgt_tgt (u : Nat) (x : Tgt) : (c.setTgt t x).tgt u = if u = t then x else c.tgt u := by
  simp [Ic.tgt, Ic.setTgt]

end

/-! ### Occurrences (R567, R569) -/

section
variable {c : Ic} {n : Nat} {cond : Bool}

/-- An occurrence touches neither the vectors' masks nor the mailboxes. -/
@[simp] theorem occur_frame (c : Ic) (n : Nat) (cond : Bool) : (c.occur n cond).unmasked = c.unmasked ∧
    (c.occur n cond).fnMask = c.fnMask ∧ (c.occur n cond).pba = c.pba ∧ (c.occur n cond).mbx = c.mbx ∧
    (c.occur n cond).mbxAccepted = c.mbxAccepted := by
  unfold Ic.occur
  dsimp only
  (repeat' split) <;> simp [Ic.setSrc]

/-- An occurrence of an event source that is not active makes it pending. -/
theorem occur_event (hn : n ≠ 0) (hmax : n ≤ 2004) (hlevel : levelSource n = false) (hact : (c.src n).act = false) :
    (c.occur n cond).src n = { c.src n with pend := true, occ := satAdd 8 (c.src n).occ 1 } := by
  simp [Ic.occur, hn, Nat.not_lt.mpr hmax, hlevel, hact]

/-- An occurrence of an event source that is active is kept for its complete. -/
theorem occur_active (hn : n ≠ 0) (hmax : n ≤ 2004) (hlevel : levelSource n = false) (hact : (c.src n).act = true) :
    (c.occur n cond).src n = { c.src n with repend := true, occ := satAdd 8 (c.src n).occ 1 } := by
  simp [Ic.occur, hn, Nat.not_lt.mpr hmax, hlevel, hact]

/-- A level source whose condition begins to hold is pending, unless it is active. -/
theorem occur_level_rise (hn : n ≠ 0) (hmax : n ≤ 2004) (hlevel : levelSource n = true) (hcond : (c.src n).cond = false)
    (hact : (c.src n).act = false) :
    (c.occur n true).src n = { c.src n with cond := true, pend := true, occ := satAdd 8 (c.src n).occ 1 } := by
  simp [Ic.occur, hn, Nat.not_lt.mpr hmax, hlevel, hcond, hact]

/-- A level source whose condition ends is pending no more. -/
theorem occur_level_fall (hn : n ≠ 0) (hmax : n ≤ 2004) (hlevel : levelSource n = true) (hcond : (c.src n).cond = true) :
    (c.occur n false).src n = { c.src n with cond := false, pend := false } := by
  simp [Ic.occur, hn, Nat.not_lt.mpr hmax, hlevel, hcond]

/-- The condition of a level source is the one it was given last. -/
theorem occur_cond (hn : n ≠ 0) (hmax : n ≤ 2004) (hlevel : levelSource n = true) : ((c.occur n cond).src n).cond = cond := by
  unfold Ic.occur
  rw [if_neg (by omega)]
  dsimp only
  rw [if_pos hlevel]
  (repeat' split) <;> simp_all

/-- No occurrence touches another source. -/
theorem occur_other {m : Nat} (h : m ≠ n) : (c.occur n cond).src m = c.src m := by
  unfold Ic.occur
  dsimp only
  (repeat' split) <;> simp [h]

theorem occur_box (k : Nat) : (c.occur n cond).box k = c.box k := by simp [Ic.box]

end

end Sys2Proof.Proofs
end

section
/-! PROOFS. Occurrences, notifications, moderation, claims and completes as commands (R567 to R579). -/

namespace Sys2Proof.Proofs

open Sys2Proof Sys2Proof.Machine Sys2Proof.Laws

/-! ### Occurrences (R563, R569) -/

theorem exec_sourceOccurrence {s : State} {n : Fin 2048} (cond : Bool) (hn : n.val ≠ 0) (hmax : n.val ≤ 2004) :
    exec (.sourceOccurrence n cond) s = .next (s.level n.val cond) := by
  change execSourceOccurrence n cond s = _
  unfold execSourceOccurrence
  rw [need_true _ _ _ (by simp [hn, hmax]), occurs_next]

/-! ### Notifications (R577, R579) -/

/-- A notification sets its target's mark and REC; the groups it serves count anew. -/
theorem notify_tgt (c : Ic) (t : Nat) :
    (c.notify t).tgt t = { c.tgt t with notified := true, noted := c.best (c.dueSources t), notedEnd := none } := by
  have hgroups (l : List Nat) (d : Ic) :
      (l.foldl (fun c g => c.setMod t g { c.mod t g with e := 0, last := .running }) d).tgts = d.tgts :=
    foldl_keeps_of Ic.tgts _ l d fun _ _ => rfl
  simp [Ic.notify, Ic.tgt, hgroups, Ic.setTgt]

theorem notify_core (c : Ic) (t : Nat) : icCore (c.notify t) = icCore c := by
  unfold Ic.notify
  dsimp only
  refine (foldl_keeps_of icCore _ _ _ ?_).trans rfl
  exact fun _ _ => rfl

/-- A notification of a host vector sends its message, or sets its Pending Bit under a mask; a Sett core's line needs neither. -/
theorem exec_notification {s : State} {t : TgtIx} (h : s.ic.notifiable t.val = true) :
    Completes (exec (.notification t) s) fun r =>
      (r.ic.tgt t.val).notified = true ∧ (r.ic.tgt t.val).noted = s.ic.best (s.ic.dueSources t.val) ∧ r.ic.srcs = s.ic.srcs ∧
      (t.val < 2048 → kget false s.ic.unmasked t.val = true → s.ic.fnMask = false → r.outbox = .msix t.val :: s.outbox) ∧
      (t.val < 2048 → kget false s.ic.unmasked t.val = false ∨ s.ic.fnMask = true →
        r.outbox = s.outbox ∧ kget false r.ic.pba t.val = true) ∧
      (2048 ≤ t.val → r.outbox = s.outbox ∧ r.ic.pba = s.ic.pba) := by
  obtain ⟨hsrcs, -, hunmasked, hmask, hpba, -⟩ := icCore_ext (notify_core s.ic t.val)
  have htgt := notify_tgt s.ic t.val
  change Completes (execNotification t s) _
  unfold execNotification
  rw [need_true _ _ _ h]
  dsimp only
  rw [hunmasked, hmask]
  split
  · rename_i hhost
    split
    · rename_i hopen
      obtain ⟨hvector, hfn⟩ : kget false s.ic.unmasked t.val = true ∧ s.ic.fnMask = false := by simpa using hopen
      exact ⟨_, rfl, congrArg Tgt.notified htgt, congrArg Tgt.noted htgt, hsrcs, fun _ _ _ => rfl,
        fun _ hclosed => by simp [hvector, hfn] at hclosed, fun hcore => absurd hhost (Nat.not_lt.mpr hcore)⟩
    · rename_i hclosed
      refine ⟨_, rfl, congrArg Tgt.notified htgt, congrArg Tgt.noted htgt, hsrcs, fun _ hvector hfn => ?_,
        fun _ _ => ⟨rfl, by simp⟩, fun hcore => absurd hhost (Nat.not_lt.mpr hcore)⟩
      simp [hvector, hfn] at hclosed
  · rename_i hcore
    exact ⟨_, rfl, congrArg Tgt.notified htgt, congrArg Tgt.noted htgt, hsrcs, fun hhost => absurd hhost hcore,
      fun hhost => absurd hhost hcore, fun _ => ⟨by simp, by simpa using hpba⟩⟩

/-! ### Moderation (R579) -/

theorem exec_moderationTimeExpiry {s : State} {t : TgtIx} {g : Fin 64} (hawake : (s.ic.dom (domainOf t.val)).asleep = false) :
    ((s.ic.mod t.val g.val).last = .running → exec (.moderationTimeExpiry t g true) s =
      .next { s with ic := s.ic.setMod t.val g.val { s.ic.mod t.val g.val with last := .passed } }) ∧
    ((s.ic.mod t.val g.val).first ≠ .passed → exec (.moderationTimeExpiry t g false) s =
      .next { s with ic := s.ic.setMod t.val g.val { s.ic.mod t.val g.val with first := .passed } }) := by
  change (_ → execModerationTimeExpiry t g true s = _) ∧ (_ → execModerationTimeExpiry t g false s = _)
  unfold execModerationTimeExpiry
  refine ⟨fun hlast => ?_, fun hfirst => ?_⟩
  · rw [need_true _ _ _ (by simp [hawake, hlast])]
    rfl
  · rw [need_true _ _ _ (by simp [hawake, hfirst])]
    rfl

/-! ### Claims and completes (R571 to R575) -/

/-- A claim that a source answers makes it active on the target, whose level rises. -/
theorem exec_icClaim_some {s : State} {t : TgtIx} {n : Nat} (h : s.ic.best (s.ic.claimables t.val) = some n) :
    Completes (exec (.icClaim t) s) fun r =>
      r.outbox = .claimed t.val n :: s.outbox ∧
      r.ic.src n = { s.ic.src n with pend := false, act := true, owner := t.val, occ := 0 } ∧
      (r.ic.tgt t.val).stack = (n, (s.ic.src n).prio) :: (s.ic.tgt t.val).stack ∧ (r.ic.tgt t.val).notified = false ∧
      ∀ m, m ≠ n → r.ic.src m = s.ic.src m := by
  change Completes (execIcClaim t s) _
  unfold execIcClaim Ic.claim
  rw [h]
  exact ⟨_, rfl, rfl, by simp [State.emit], by simp [State.emit], by simp [State.emit], fun m hm => by simp [State.emit, hm]⟩

/-- A claim that no source answers reads as what became of the last notification. -/
theorem exec_icClaim_none {s : State} {t : TgtIx} (h : s.ic.best (s.ic.claimables t.val) = none) :
    Completes (exec (.icClaim t) s) fun r => r.ic.srcs = s.ic.srcs ∧
      r.outbox = .claimed t.val (match (s.ic.tgt t.val).noted, (s.ic.tgt t.val).notedEnd with
        | some _, some .lost => 0x7FF | some _, some .withdrawn => 0x7FE | _, _ => 0) :: s.outbox := by
  change Completes (execIcClaim t s) _
  unfold execIcClaim Ic.claim
  rw [h]
  refine ⟨_, rfl, ?_⟩
  dsimp only
  (repeat' split) <;> simp_all [State.emit, Ic.setTgt]

/-- The end of a claim: the source is active no more, and pending where its condition holds or it has occurred meanwhile. -/
theorem endClaim_after (c : Ic) (n t : Nat) :
    ((c.endClaim n t).src n).act = false ∧
    ((c.endClaim n t).src n).pend = (if levelSource n then (c.src n).cond else (c.src n).repend) ∧
    ((c.endClaim n t).tgt t).stack = dropFirst (fun p => p.1 == n) (c.tgt t).stack := by
  unfold Ic.endClaim
  dsimp only
  generalize (if levelSource n then (c.src n).cond else (c.src n).repend) = again
  split <;> simp

theorem exec_icComplete {s : State} {t : TgtIx} {v : BitVec 32} {n : Nat} (hn : n = v.toNat % 2048) :
    ((s.ic.src n).act → (s.ic.src n).owner = t.val → Completes (exec (.icComplete t v) s) fun r =>
      (r.ic.src n).act = false ∧ (r.ic.src n).pend = (if levelSource n then (s.ic.src n).cond else (s.ic.src n).repend) ∧
      (r.ic.tgt t.val).stack = dropFirst (fun p => p.1 == n) (s.ic.tgt t.val).stack) ∧
    ((s.ic.src n).act = false ∨ (s.ic.src n).owner ≠ t.val →
      exec (.icComplete t v) s = .next { s with ic := { s.ic with badComplete := bvInc s.ic.badComplete } }) := by
  subst hn
  change (_ → _ → Completes (execIcComplete t v s) _) ∧ (_ → execIcComplete t v s = _)
  unfold execIcComplete
  refine ⟨fun hact howner => ?_, fun hother => ?_⟩
  · rw [if_pos (by simp [hact, howner])]
    obtain ⟨hidle, hpend, hstack⟩ := endClaim_after s.ic (v.toNat % 2048) t.val
    exact ⟨_, rfl, by simpa using hidle, by simpa using hpend, by simpa using hstack⟩
  · rw [if_neg (by grind)]
    rfl

/-- Settles O42: the controller's operations on a source, a target and a group, each as its command. -/
theorem interruptDelivery : Obligations.InterruptDelivery := by
  refine ⟨fun s n cond hn hmax => ?_, fun s t h => exec_notification h, fun s t g hawake => exec_moderationTimeExpiry hawake,
    fun s t => ⟨fun n h => exec_icClaim_some h, fun h => exec_icClaim_none h⟩, fun s t v n hn => exec_icComplete hn⟩
  rw [exec_sourceOccurrence cond hn hmax]
  refine ⟨_, rfl, occur_event hn hmax, occur_active hn hmax, fun hlevel hcond hrise hact => ?_, fun hlevel hcond hfall => ?_,
    fun m => occur_other⟩
  · rw [hrise]
    exact occur_level_rise hn hmax hlevel hcond hact
  · rw [hfall]
    exact occur_level_fall hn hmax hlevel hcond

end Sys2Proof.Proofs
end

section
/-! PROOFS. The registers of the interrupt controller, sleep, the MSI-X table and the mailboxes (R566 to R568, R572, R576 to R588). -/

namespace Sys2Proof.Proofs

open Sys2Proof Sys2Proof.Machine Sys2Proof.Laws

/-- What holds of the state a command answers may be weakened. -/
theorem completes_mono {o : Act} {P Q : State → Prop} (h : Completes o P) (hpq : ∀ t, P t → Q t) : Completes o Q := by
  obtain ⟨t, ho, ht⟩ := h
  exact ⟨t, ho, hpq t ht⟩

/-! ### Sources, groups and domains (R566 to R568, R576, R578, R581) -/

/-- A write to a source's configuration that takes effect leaves LOCK to the Sett: the host's keeps it. -/
theorem writeCfg_cfg {c : Ic} {n : Nat} {v : BitVec 64} {host : Bool} (h : (host && (c.src n).locked) = false) :
    ((c.writeCfg n v host).src n).cfg = (v &&& 0x00000000FFFF3F0F) |||
      (if host then (c.src n).cfg &&& 0x0000000100000000 else v &&& 0x0000000100000000) := by
  simp [Ic.writeCfg, h]

/-- A source that is not locked has LOCK 0. -/
theorem lockBit_of_unlocked {x : Src} (h : x.locked = false) : x.cfg &&& 0x0000000100000000 = 0#64 := by
  have hpow : (0x0000000100000000 : BitVec 64) = BitVec.twoPow 64 32 := by decide
  have hbit : x.cfg.getLsbD 32 = false := h
  rw [hpow, BitVec.and_twoPow, hbit, if_neg Bool.false_ne_true]

section
variable {s : State} {n : Fin 2048} {v : BitVec 64}

theorem exec_icSrcCfg_source {w : Writer} (hn : n.val ≠ 0) (hmax : n.val ≤ 2045) :
    exec (.icSrcCfg (.source n) v w) s = .next { s with ic := s.ic.writeCfg n.val v (isHost w) } := by
  change execIcSrcCfg (.source n) v w s = _
  unfold execIcSrcCfg
  dsimp only
  rw [if_neg (by omega), occurs_next]

/-- A host write to a locked source changes nothing and is counted. -/
theorem exec_icSrcCfg_locked (hn : n.val ≠ 0) (hmax : n.val ≤ 2045) (h : (s.ic.src n.val).locked = true) :
    exec (.icSrcCfg (.source n) v .host) s = .next { s with ic := { s.ic with lockedWrites := bvInc s.ic.lockedWrites } } := by
  rw [exec_icSrcCfg_source hn hmax]
  simp [Ic.writeCfg, h, isHost]

theorem exec_icSrcCfg_host (hn : n.val ≠ 0) (hmax : n.val ≤ 2045) (h : (s.ic.src n.val).locked = false) :
    Completes (exec (.icSrcCfg (.source n) v .host) s) fun r => (r.ic.src n.val).cfg = v &&& 0x00000000FFFF3F0F := by
  rw [exec_icSrcCfg_source hn hmax]
  refine ⟨_, rfl, (writeCfg_cfg (by rw [h, Bool.and_false])).trans ?_⟩
  rw [isHost, if_pos rfl, lockBit_of_unlocked h, BitVec.or_zero]

/-- What holds of an interrupt controller holds of that of the state that a command answers with it. -/
theorem completes_ic {c : Ic} {P : Ic → Prop} (h : P c) : Completes (.next { s with ic := c }) fun r => P r.ic :=
  ⟨_, rfl, h⟩

theorem exec_icSrcCfg_sett (c : Fin 4) (hn : n.val ≠ 0) (hmax : n.val ≤ 2045) :
    Completes (exec (.icSrcCfg (.source n) v (.sett c)) s) fun r => (r.ic.src n.val).cfg = v &&& 0x00000001FFFF3F0F := by
  have hsett : isHost (.sett c) = false := rfl
  have hcfg := writeCfg_cfg (c := s.ic) (n := n.val) (v := v) (host := false) (Bool.false_and _)
  have hmask : (0x00000000FFFF3F0F ||| 0x0000000100000000 : BitVec 64) = 0x00000001FFFF3F0F := by decide
  rw [if_neg Bool.false_ne_true, ← BitVec.and_or_distrib_left, hmask] at hcfg
  rw [exec_icSrcCfg_source hn hmax, hsett]
  exact completes_ic (P := fun ic => (ic.src n.val).cfg = v &&& 0x00000001FFFF3F0F) hcfg

end

/-- The fields of a word under a mask of its low 40 bits. -/
theorem bitsOf_and_low (v : BitVec 64) {lo n : Nat} (h : lo + n ≤ 40) :
    bitsOf (v &&& 0x000000FFFFFFFFFF).toNat lo n = bitsOf v.toNat lo n := by
  have hand : (v &&& 0x000000FFFFFFFFFF).toNat = v.toNat % 2 ^ 40 := by
    rw [BitVec.toNat_and]
    exact Nat.and_two_pow_sub_one_eq_mod v.toNat 40
  have hsplit : 2 ^ 40 = 2 ^ lo * 2 ^ (40 - lo) := by rw [← pow_add]; congr 1; omega
  unfold bitsOf
  rw [hand, hsplit, Nat.mod_mul_right_div_self, Nat.mod_mod_of_dvd _ (Nat.pow_dvd_pow 2 (by omega))]

/-- A group's COUNT, TIME and HOLDOFF after a write: a COUNT of 0 stores 1. -/
theorem writeGroup_grp (c : Ic) (g : Nat) (v : BitVec 64) :
    (c.writeGroup g v).grp g = (max 1 (bitsOf v.toNat 0 8), bitsOf v.toNat 8 16, bitsOf v.toNat 24 16) := by
  have hlow : v.toNat % 256 = (v &&& 0x000000FFFFFFFFFF).toNat % 256 := by
    simpa [bitsOf] using (bitsOf_and_low v (lo := 0) (n := 8) (by decide)).symm
  have htime := bitsOf_and_low v (lo := 8) (n := 16) (by decide)
  have hholdoff := bitsOf_and_low v (lo := 24) (n := 16) (by decide)
  unfold Ic.writeGroup Ic.grp
  dsimp only
  rw [kget_kput_same]
  generalize v &&& 0x000000FFFFFFFFFF = w at hlow htime hholdoff ⊢
  rw [← htime, ← hholdoff]
  simp only [bitsOf, pow_zero, Nat.div_one, show 2 ^ 8 = 256 from rfl]
  rw [hlow]
  split
  · rename_i hzero
    have hroom : (w + 1).toNat = w.toNat + 1 := by bv_omega
    rw [hroom, Prod.mk.injEq, Prod.mk.injEq]
    omega
  · rename_i hcount
    rw [Nat.max_eq_right (Nat.pos_of_ne_zero hcount)]

theorem exec_clr {s : State} {n : Fin 2048} {v : BitVec 64} (hbit : v.toNat.testBit 32 = true) (hn : n.val ≠ 0) (hmax : n.val ≤ 2045) :
    (levelSource n.val = false → Completes (exec (.clr n v) s) fun r => r.ic.src n.val = { s.ic.src n.val with pend := false }) ∧
    (levelSource n.val → exec (.clr n v) s = .next s) := by
  change (_ → Completes (execClr n v s) _) ∧ (_ → execClr n v s = _)
  unfold execClr
  rw [if_pos (by simp [hbit, hn, hmax])]
  refine ⟨fun hevent => ⟨_, rfl, ?_⟩, fun hlevel => ?_⟩
  · simp [Ic.clr, hevent]
  · simp [Ic.clr, hlevel]

theorem exec_icThresh (s : State) (t : TgtIx) (v : BitVec 32) : Completes (exec (.icThresh t v) s) fun r =>
    (r.ic.tgt t.val).thresh = v.toNat % 16 ∧ (r.ic.tgt t.val).stack = (s.ic.tgt t.val).stack ∧ r.ic.srcs = s.ic.srcs :=
  ⟨_, rfl, by simp, by simp, by simp [Ic.setTgt]⟩

/-! ### Sleep (R580 to R583) -/

/-- The release of a target's state touches no domain. -/
theorem release_doms (c : Ic) (t : Nat) : (c.release t).doms = c.doms := by
  have hcount (c : Ic) (n : Nat) : (c.countE n).doms = c.doms := foldl_keeps_of Ic.doms _ _ _ fun _ _ => by split <;> rfl
  have hend (c : Ic) (n t : Nat) : (c.endClaim n t).doms = c.doms := by
    unfold Ic.endClaim
    dsimp only
    generalize (if levelSource n then (c.src n).cond else (c.src n).repend) = again
    split
    · exact hcount _ _
    · rfl
  exact foldl_keeps_of Ic.doms _ (c.tgt t).stack c fun _ _ => hend _ _ _

/-- A domain that goes to sleep is asleep, whether or not it keeps its targets' state. -/
theorem sleep_asleep (c : Ic) (d : Nat) : ((c.sleep d).dom d).asleep = true := by
  have hset (x : Dom) : (c.setDom d { x with asleep := true, wake := false }).dom d = { x with asleep := true, wake := false } := by
    simp [Ic.dom, Ic.setDom]
  unfold Ic.sleep
  dsimp only
  split
  · rw [hset]
  · rw [settle_asleep]
    have hkept (ts : List Nat) (e : Ic) : (ts.foldl Ic.release e).doms = e.doms := foldl_keeps_of Ic.doms _ ts e release_doms
    rw [Ic.dom, hkept]
    exact congrArg Dom.asleep (hset _)

section
variable {s : State} {d : Fin 5}

theorem exec_domainSleep (hawake : (s.ic.dom d.val).asleep = false) (hmay : d.val = 0 → s.host.d3hot = true) :
    exec (.domainSleep d) s = .next { s with ic := s.ic.sleep d.val } := by
  change execDomainSleep d s = _
  unfold execDomainSleep
  rw [need_true _ _ _ (by simpa [hawake, imp_iff_not_or] using hmay), occurs_next]

/-- A domain that retains its targets' state only sleeps. -/
theorem exec_domainSleep_retain (hawake : (s.ic.dom d.val).asleep = false) (hd : d.val ≠ 0) (hretain : (s.ic.dom d.val).retain = true) :
    exec (.domainSleep d) s = .next { s with ic := s.ic.setDom d.val { s.ic.dom d.val with asleep := true, wake := false } } := by
  rw [exec_domainSleep hawake fun h => absurd h hd]
  simp [Ic.sleep, hretain]

theorem exec_domainWake {pme : Bool} (hasleep : (s.ic.dom d.val).asleep = true) (hwake : (s.ic.dom d.val).wake = true) :
    Completes (exec (.domainWake d pme) s) fun r => (r.ic.dom d.val).wake = false ∧ (r.ic.dom d.val).asleep = (d.val == 0) ∧
      r.ic.wakes = bvInc s.ic.wakes ∧ r.outbox = if d.val = 0 ∧ pme then .pme :: s.outbox else s.outbox := by
  change Completes (execDomainWake d pme s) _
  unfold execDomainWake
  rw [need_true _ _ _ (by simp [hasleep, hwake])]
  refine ⟨_, rfl, ?_⟩
  dsimp only
  split
  · rename_i hpme
    rw [if_pos (by simpa using hpme)]
    exact ⟨by simp [Ic.dom, Ic.setDom, State.emit], by simp [Ic.dom, Ic.setDom, State.emit], rfl, rfl⟩
  · rename_i hquiet
    rw [if_neg (by simpa using hquiet)]
    exact ⟨by simp [Ic.dom, Ic.setDom], by simp [Ic.dom, Ic.setDom], rfl, rfl⟩

end

/-! ### The MSI-X table (R577) -/

/-- Under the Function Mask nothing that pends is sent. -/
theorem sendPending_masked {s : State} (h : s.ic.fnMask = true) (v : Nat) : s.sendPending v = s := by
  unfold State.sendPending
  rw [if_neg (by simp [h])]

theorem exec_msiXVectorControl (s : State) (v : Fin 2048) (mask : Bool) :
    Completes (exec (.msiXVectorControl (some v) mask) s) fun r =>
      kget false r.ic.unmasked v.val = !mask ∧
      (mask = false → s.ic.fnMask = false → kget false s.ic.pba v.val = true →
        r.outbox = .msix v.val :: s.outbox ∧ kget false r.ic.pba v.val = false) ∧
      (mask = true ∨ s.ic.fnMask = true ∨ kget false s.ic.pba v.val = false → r.outbox = s.outbox ∧ r.ic.pba = s.ic.pba) := by
  refine ⟨_, rfl, ?_⟩
  unfold State.sendPending
  dsimp only
  rw [kget_kput_same]
  split
  · rename_i hsent
    obtain ⟨⟨hpends, hopen⟩, hfn⟩ : (kget false s.ic.pba v.val = true ∧ mask = false) ∧ s.ic.fnMask = false := by simpa using hsent
    refine ⟨by simp, fun _ _ _ => ⟨rfl, by simp⟩, fun hkept => ?_⟩
    simp [hpends, hopen, hfn] at hkept
  · rename_i hkept
    refine ⟨by simp, fun hopen hfn hpends => ?_, fun _ => ⟨rfl, rfl⟩⟩
    simp [hopen, hfn, hpends] at hkept

theorem exec_msiX_fnMask (s : State) :
    exec (.msiXVectorControl none true) s = .next { s with ic := { s.ic with fnMask := true } } := by
  have hall (vs : List Nat) : vs.foldl State.sendPending { s with ic := { s.ic with fnMask := true } } =
      { s with ic := { s.ic with fnMask := true } } := by
    induction vs with
    | nil => rfl
    | cons v vs ih => rw [List.foldl_cons, sendPending_masked rfl, ih]
  exact congrArg Host.Outcome.next (hall _)

/-- The Function Mask off sends what pends of a vector that is open. -/
theorem exec_msiX_fnOpen {s : State} {v : Nat} (hpba : s.ic.pba = [(v, true)]) (hopen : kget false s.ic.unmasked v = true) :
    Completes (exec (.msiXVectorControl none false) s) fun r =>
      r.ic.fnMask = false ∧ r.ic.pba = [] ∧ r.outbox = .msix v :: s.outbox := by
  refine ⟨_, rfl, ?_⟩
  dsimp only
  rw [hpba]
  simp [kkeys, State.sendPending, kget, hopen, State.emit, kput, kdel]

/-! ### The firmware's release (R568, R710) -/

/-- LOCK is set on a source. -/
def lockSource (c : Ic) (n : Fin 2048) : Ic := c.setSrc n.val { c.src n.val with cfg := (c.src n.val).cfg ||| 0x100000000 }

/-- What is locked stays locked, and a source that is being locked is. -/
theorem lockSource_locked {c : Ic} {n m : Fin 2048} (h : n = m ∨ (c.src n.val).locked = true) :
    ((lockSource c m).src n.val).locked = true := by
  have hbit (x : BitVec 64) : (x ||| 0x100000000#64).toNat.testBit 32 = true := by
    rw [BitVec.toNat_or, Nat.testBit_or]
    exact (Bool.or_eq_true _ _).mpr (.inr (by decide))
  unfold lockSource
  rw [setSrc_src]
  split
  · exact hbit _
  · rename_i hne
    exact h.resolve_left fun hnm => hne (congrArg Fin.val hnm)

theorem foldl_lockSource_locked (locks : List (Fin 2048)) (c : Ic) {n : Fin 2048} (h : n ∈ locks ∨ (c.src n.val).locked = true) :
    ((locks.foldl lockSource c).src n.val).locked = true := by
  induction locks generalizing c with
  | nil => exact h.resolve_left (List.not_mem_nil)
  | cons m locks ih =>
    refine ih _ ?_
    rw [List.mem_cons] at h
    obtain (rfl | hin) | hlocked := h
    · exact .inr (lockSource_locked (.inl rfl))
    · exact .inl hin
    · exact .inr (lockSource_locked (.inr hlocked))

/-- The modes of the domains are written in no source. -/
theorem setDomModes_srcs (s : State) : s.setDomModes.ic.srcs = s.ic.srcs := foldl_keeps_of Ic.srcs _ _ _ fun _ _ => rfl

/-- A register of the dictionary is read from its registers alone. -/
theorem reg_of_regs_eq {s u : State} (h : u.dict.regs = s.dict.regs) (ix el : Nat) : u.reg ix el = s.reg ix el := by
  simp only [State.reg, Dict.reg, h]

/-- The firmware of bank A, which is active and passes, is released: the sources that it handles are locked, and the dictionary is ready
no more than before. -/
theorem exec_firmwareRelease {s : State} (locks : List (Fin 2048)) (hphase : s.chip.phase = .boot 1) (htrip : s.power.trip = false)
    (hactive : s.trust.activeB = false) (hsig : s.trust.bankA.sigOk = true) (hsvn : s.reg 0x1801 4 ≤ s.trust.bankA.svn) :
    Completes (exec (.firmwareRelease [] locks) s) fun r => r.chip.phase = .boot 2 ∧ r.chip.runsB = false ∧
      r.reg 0x0000 4 = s.trust.bankA.version ∧ r.reg 0x1801 3 = s.trust.bankA.svn ∧ r.dict.ready = s.dict.ready ∧
      ∀ n ∈ locks, (r.ic.src n.val).locked = true := by
  have hbank : s.bootBank = some false := by simp [State.bootBank, State.bankOk, Trust.bank, hactive, hsig, hsvn]
  change Completes (execFirmwareRelease [] locks s) _
  unfold execFirmwareRelease bootStep
  rw [need_true _ _ _ (by simp [hphase, htrip]), hbank]
  extract_lets isSealed
  rw [need_true _ ([].all isSealed) _ rfl]
  simp -zeta only [hactive]
  have hregs (u : State) (hu : u.dict.regs =
      ((((s.setReg 0x0000 4 s.trust.bankA.version).setReg 0x1801 3 s.trust.bankA.svn).setReg 0x1801 2 0).setReg 0x0000 5 0).dict.regs) :
      u.reg 0x0000 4 = s.trust.bankA.version ∧ u.reg 0x1801 3 = s.trust.bankA.svn := by
    rw [reg_of_regs_eq hu, reg_of_regs_eq hu]
    simp [setReg_reg]
  obtain ⟨hversion, hsvn'⟩ := hregs _ rfl
  exact ⟨_, rfl, rfl, rfl, hversion, hsvn', rfl, fun n hn => by
    rw [Ic.src, setDomModes_srcs]
    exact foldl_lockSource_locked locks _ (.inl hn)⟩

/-- Settles O43: the registers each as its command; the firmware's release locks its sources. -/
theorem interruptRegisters : Obligations.InterruptRegisters := by
  refine ⟨fun s n v c hn hmax => ⟨exec_icSrcCfg_locked hn hmax, exec_icSrcCfg_host hn hmax, exec_icSrcCfg_sett c hn hmax⟩,
    fun s g v w => ⟨_, rfl, writeGroup_grp s.ic g.val v⟩, fun s d v w => rfl, fun s n v hbit hn hmax => exec_clr hbit hn hmax,
    exec_icThresh, fun s d hawake _ hd3 => ?_, fun s d hawake hd hretain => exec_domainSleep_retain hawake hd hretain,
    fun s d pme hasleep hwake => exec_domainWake hasleep hwake, exec_msiXVectorControl,
    fun s => ⟨exec_msiX_fnMask s, fun v hpba hopen => exec_msiX_fnOpen hpba hopen⟩,
    fun s locks hphase htrip hactive hsig hsvn hready => ?_⟩
  · rw [exec_domainSleep hawake fun _ => hd3]
    exact ⟨_, rfl, sleep_asleep s.ic d.val⟩
  · refine completes_mono (exec_firmwareRelease locks hphase htrip hactive hsig hsvn) fun t ht => ?_
    obtain ⟨-, -, -, -, htready, hlocked⟩ := ht
    exact ⟨htready.trans hready, hlocked⟩

/-! ### Mailboxes (R585 to R588) -/

section
variable {s : State} {c : Fin 64}

/-- A box after a box is set: the one set, every other as before. -/
@[simp] theorem setBox_box (x : Ic) (n m : Nat) (b : Mbx) : (x.setBox n b).box m = if m = n then b else x.box m := by
  simp [Ic.box, Ic.setBox]

@[simp] theorem setBox_frame (x : Ic) (n : Nat) (b : Mbx) : (x.setBox n b).srcs = x.srcs ∧ (x.setBox n b).mbxAccepted = x.mbxAccepted ∧
    (x.setBox n b).mbxOverflows = x.mbxOverflows := ⟨rfl, rfl, rfl⟩

/-- The wake event of a mailbox word touches no mailbox. -/
@[simp] theorem mbxWake_frame (x : Ic) (d : Nat) : (x.mbxWake d).mbx = x.mbx ∧ (x.mbxWake d).mbxAccepted = x.mbxAccepted := by
  unfold Ic.mbxWake
  dsimp only
  split <;> exact ⟨rfl, rfl⟩

@[simp] theorem mbxWake_box (x : Ic) (d n : Nat) : (x.mbxWake d).box n = x.box n := by simp [Ic.box]

/-- The level sources of the mailboxes are 1,685 to 1,748 (R587). -/
theorem mailbox_level (c : Fin 64) : levelSource (1685 + c.val) = true := by
  have hc := c.isLt
  simp only [levelSource, Bool.or_eq_true, Bool.and_eq_true, decide_eq_true_eq]
  omega

/-- The acknowledged sources of the mailboxes are event sources (R588). -/
theorem mailbox_acknowledged (c : Fin 64) : levelSource (1749 + c.val) = false := by
  revert c
  decide

/-- A word of eight bytes that finds its channel not FULL is taken. -/
theorem exec_mbxData_taken {v : BitVec 64} {w : Writer} (h : (s.ic.box c.val).full = false) :
    Completes (exec (.mbxData c v w true) s) fun r =>
      r.ic.box c.val = { s.ic.box c.val with data := v, full := true, ackd := false, ovf := false, seq := (s.ic.box c.val).seq + 1,
                                             wsrc := writerCode w } ∧
      r.ic.mbxAccepted = bvInc s.ic.mbxAccepted ∧ (r.ic.src (1685 + c.val)).cond = true ∧
      ∀ m, m ≠ c.val → r.ic.box m = s.ic.box m := by
  change Completes (execMbxData c v w true s) _
  unfold execMbxData
  dsimp only
  rw [if_neg (by simp [h])]
  refine ⟨_, rfl, ?_, by simp, occur_cond (by omega) (by omega) (mailbox_level c), fun m hm => ?_⟩
  · rw [level_ic, occur_box, mbxWake_box]
    exact (setBox_box _ _ _ _).trans (if_pos rfl)
  · rw [level_ic, occur_box, mbxWake_box]
    exact (setBox_box _ _ _ _).trans (if_neg hm)

/-- A word that finds its channel FULL, or that is narrower, is discarded and counted. -/
theorem exec_mbxData_discarded {v : BitVec 64} {w : Writer} {wide : Bool} (h : (s.ic.box c.val).full = true ∨ wide = false) :
    Completes (exec (.mbxData c v w wide) s) fun r =>
      r.ic.box c.val = { s.ic.box c.val with ovf := true } ∧ r.ic.mbxOverflows = bvInc s.ic.mbxOverflows ∧ r.ic.srcs = s.ic.srcs := by
  change Completes (execMbxData c v w wide s) _
  unfold execMbxData
  dsimp only
  rw [if_pos (by simpa using h)]
  exact ⟨_, rfl, (setBox_box _ _ _ _).trans (if_pos rfl), rfl, rfl⟩

/-- An acknowledgement of a word: the channel is FULL no more, and its acknowledged source occurs. -/
theorem exec_mbxAck {v : BitVec 32} (h : (s.ic.box c.val).full = true) : Completes (exec (.mbxAck c v) s) fun r =>
    r.ic.box c.val = { s.ic.box c.val with full := false, ackd := true, ackCode := v.truncate 16 } ∧
    (r.ic.src (1685 + c.val)).cond = false ∧ ((s.ic.src (1749 + c.val)).act = false → (r.ic.src (1749 + c.val)).pend = true) ∧
    ((s.ic.src (1749 + c.val)).act = true → (r.ic.src (1749 + c.val)).repend = true) := by
  have hc := c.isLt
  change Completes (execMbxAck c v s) _
  unfold execMbxAck
  dsimp only
  rw [if_pos h]
  have hother (x : Ic) : (x.occur (1685 + c.val) false).src (1749 + c.val) = x.src (1749 + c.val) := occur_other (by omega)
  refine ⟨_, rfl, ?_, ?_, fun hact => ?_, fun hact => ?_⟩
  · rw [raise_ic, occur_box, level_ic, occur_box]
    exact (setBox_box _ _ _ _).trans (if_pos rfl)
  · rw [raise_ic, occur_other (by omega), level_ic]
    exact occur_cond (by omega) (by omega) (mailbox_level c)
  · rw [raise_ic, level_ic, occur_event (by omega) (by omega) (mailbox_acknowledged c) (by rw [hother]; exact hact)]
  · rw [raise_ic, level_ic, occur_active (by omega) (by omega) (mailbox_acknowledged c) (by rw [hother]; exact hact)]

theorem exec_mbxAck_stray {v : BitVec 32} (h : (s.ic.box c.val).full = false) :
    exec (.mbxAck c v) s = .next { s with ic := { s.ic with mbxStrayAcks := bvInc s.ic.mbxStrayAcks } } := by
  change execMbxAck c v s = _
  unfold execMbxAck
  dsimp only
  rw [if_neg (by simp [h]), occurs_next]

theorem exec_mbxCfg {v : BitVec 32} :
    ((s.ic.box c.val).full = false → exec (.mbxCfg c v) s =
      .next { s with ic := s.ic.setBox c.val { s.ic.box c.val with rxdom := v.toNat % 8 } }) ∧
    ((s.ic.box c.val).full = true → exec (.mbxCfg c v) s = .next s) := by
  change (_ → execMbxCfg c v s = _) ∧ (_ → execMbxCfg c v s = _)
  unfold execMbxCfg
  refine ⟨fun h => ?_, fun h => ?_⟩
  · rw [if_neg (by simp [h]), occurs_next]
  · rw [if_pos h, occurs_next]

end

/-- Settles O44: words taken and discarded, acknowledgements, and MBX_CFG. -/
theorem mailboxes : Obligations.Mailboxes :=
  ⟨fun _ _ _ _ => ⟨exec_mbxData_taken, fun h _ => exec_mbxData_discarded (.inl h), exec_mbxData_discarded (.inr rfl)⟩,
    fun _ _ _ => ⟨exec_mbxAck, exec_mbxAck_stray⟩, fun _ _ _ => exec_mbxCfg⟩

end Sys2Proof.Proofs
end

section
/-! PROOFS. The life cycle and the fuse of the security version (R599, R605 to R609). -/

namespace Sys2Proof.Proofs

open Sys2Proof Sys2Proof.Machine Sys2Proof.Laws

/-! ### LC_REQUEST (R605, R606) -/

/-- The code that an LC_REQUEST of good form comes to. -/
def lcVerdict (s : State) (target : Nat) (auth : Bool) : Code :=
  if !lcAllowed s.lifecycle target then kLcDenied else if !auth then kLcAuth else kOk

/-- What an LC_REQUEST with such a code does: it executes, or the code is kept in LC_RESULT. -/
def lcResult (s : State) (target : Nat) (c : Code) : State :=
  if c = kOk then s.changeLife target else s.setReg 0x1802 1 c.toNat

theorem lcVerdict_denied {s : State} {target : Nat} (auth : Bool) (h : lcAllowed s.lifecycle target = false) :
    lcVerdict s target auth = kLcDenied := by rw [lcVerdict, h]; rfl

theorem lcVerdict_allowed {s : State} {target : Nat} (auth : Bool) (h : lcAllowed s.lifecycle target = true) :
    lcVerdict s target auth = if auth then kOk else kLcAuth := by rw [lcVerdict, h]; cases auth <;> rfl

/-- The form that R605 and R606 give a payload of LC_REQUEST. -/
def lcForm (v : List Byte) : Prop :=
  natAt v 1 3 = 0 ∧ 8 ≤ v.length ∧ (natAt v 0 1 ≠ 3 → v.length = 8) ∧ (natAt v 0 1 = 3 → natAt v 10 2 = 0 ∧ natAt v 66 6 = 0)

/-- An LC_REQUEST of good form, on a module without dens, jobs and scrubs, is judged. -/
theorem lcRequest_judged {s s' : State} {q : Req} {v : List Byte} {mine : Nat → Bool} {auth : State → Bool} {target : Nat} {c : Code}
    (h : s.serves q 0x0001 1 v) (hs : s' = s.beginReq q v) (hdens : (s'.dens.any fun p => p.2.phase != .free) = false)
    (hjobs : s'.fab.jobs = []) (hscrub : s'.scrubPending = 0) (hform : lcForm v) (htarget : natAt v 0 1 = target)
    (hmine : mine target = true) (hc : lcVerdict s' target (auth s') = c) :
    lcRequest mine auth q v s = .next ((lcResult s' target c).freshNonce.reply s.dict.nextId q c []) := by
  subst hs htarget hc
  obtain ⟨hzero, hlen, hshort, hreturn⟩ := hform
  unfold lcRequest
  rw [need_true _ _ _ hmine, requestOf_serves h rfl, if_neg (by rintro (h | h | ⟨h, h'⟩ | ⟨h, h'⟩) <;> simp_all; omega),
    if_neg (by rw [hdens, hjobs, hscrub]; decide)]
  rfl

/-! ### What an accepted request does (R609) -/

/-- A value put at each key of a list: at a key of the list one of the values put there, elsewhere the former one. -/
theorem kget_foldl_kput_of {α : Type} [DecidableEq α] {d : α} {P : α → Prop} {l : KMap α} (hl : ∀ p ∈ l, P p.2) (m : KMap α) (c : Nat)
    (h : c ∈ l.map (·.1) ∨ P (kget d m c)) : P (kget d (l.foldl (fun m p => kput d m p.1 p.2) m) c) := by
  induction l generalizing m with
  | nil => exact h.resolve_left (List.not_mem_nil)
  | cons p l ih =>
    have hp := hl p (List.mem_cons_self ..)
    refine ih (fun p' hp' => hl p' (List.mem_cons_of_mem _ hp')) _ ?_
    rw [kget_kput]
    by_cases hc : c = p.1
    · exact .inr (by rw [if_pos hc]; exact hp)
    · rw [if_neg hc]
      rw [List.map_cons, List.mem_cons] at h
      exact h.imp_left fun h => h.resolve_left hc

/-- A key that no entry has reads as the default. -/
theorem kget_of_notMem {α : Type} {d : α} {m : KMap α} {i : Nat} (h : i ∉ m.map (·.1)) : kget d m i = d := by
  induction m with
  | nil => rfl
  | cons p m ih =>
    rw [List.map_cons, List.mem_cons, not_or] at h
    rw [kget, if_neg (Ne.symm h.1), ih h.2]

/-- A cistern holds no key. -/
def keyless (x : Cistern) : Prop := x.key0 = none ∧ x.key1 = none

/-- No cistern holds a key any more (R303). -/
theorem dropReservoirKeys_keyless (s : State) (c : Nat) : keyless (s.dropReservoirKeys.cis c) := by
  have hfold := List.foldl_hom State.cisterns (l := s.cisterns.map fun (p : Nat × Cistern) => (p.1, { p.2 with key0 := none, key1 := none }))
    (init := s) (g₁ := fun (s : State) (p : Nat × Cistern) => { s with cisterns := kput {} s.cisterns p.1 p.2 })
    (g₂ := fun m p => kput {} m p.1 p.2) fun _ _ => rfl
  change keyless (kget {} (State.cisterns (List.foldl _ _ _)) c)
  rw [← hfold]
  refine kget_foldl_kput_of (fun p hp => ?_) s.cisterns c ?_
  · obtain ⟨x, -, rfl⟩ := List.mem_map.mp hp
    exact ⟨rfl, rfl⟩
  · by_cases hc : c ∈ s.cisterns.map (·.1)
    · exact .inl (by simpa using hc)
    · rw [kget_of_notMem hc]
      exact .inr ⟨rfl, rfl⟩

/-- LIFECYCLE is a fuse: the sealed elements that are erased are others (R609). -/
theorem eraseSealed_lifecycle (s : State) : s.eraseSealed.lifecycle = s.lifecycle := by
  have hstays := kget_filter (elemDefault 0x0001 0) s.dict.regs (fun k => match elemRow (k / 256) (k % 256) with
    | some r => r.pers != 2 || k == 0x000100 || k == 0x180104 || k == 0x180004
    | none => true) (elemKey 0x0001 0)
  exact hstays.trans (if_pos rfl)

theorem changeLife_lifecycle (s : State) (n : Nat) : (s.changeLife n).lifecycle = n := by
  have hset : (s.dropReservoirKeys.stopLinks.setReg 0x0001 0 n).lifecycle = n := setReg_reg_same _ n (by decide)
  unfold State.changeLife
  split
  · exact (setReg_reg_other _ 0 (by decide) (by decide) (by decide)).trans ((eraseSealed_lifecycle _).trans hset)
  · exact (setReg_reg_other _ 0 (by decide) (by decide) (by decide)).trans hset

theorem stopLinks_keys (s : State) : s.stopLinks.fab.keys = [] := rfl

theorem changeLife_keys (s : State) (n : Nat) : (s.changeLife n).fab.keys = [] := by
  unfold State.changeLife; split <;> simp [stopLinks_keys]

theorem changeLife_cisterns (s : State) (n : Nat) : (s.changeLife n).cisterns = s.dropReservoirKeys.cisterns := by
  unfold State.changeLife; split <;> simp

theorem changeLife_due (s : State) (n : Nat) : (s.changeLife n).chip.due = some 0 := by
  unfold State.changeLife; split <;> rfl

theorem changeLife_udsGone (s : State) : (s.changeLife 4).trust.udsGone = true := by
  unfold State.changeLife; split
  · simp
  · contradiction

/-! ### SVN_COMMIT (R599) -/

section
variable {s : State} {q : Req} {v : List Byte}

/-- A served write to SVN_COMMIT is judged by the running image's SVN, the fuse and the increments that are left. -/
theorem exec_svnCommit (h : s.serves q 0x1801 5 v) :
    exec (.svnCommit q v) s = .next (finishReq s.dict.nextId q (
      if leNat v = 0 then refuse kRange (s.beginReq q v)
      else if (s.beginReq q v).reg 0x1801 3 ≤ (s.beginReq q v).reg 0x1801 4 then done (s.beginReq q v)
      else if 32 < (s.beginReq q v).trust.svnUsed + ((s.beginReq q v).reg 0x1801 3 - (s.beginReq q v).reg 0x1801 4) then
        refuse kNoResource (s.beginReq q v)
      else done (({ s.beginReq q v with trust := { (s.beginReq q v).trust with
        svnUsed := (s.beginReq q v).trust.svnUsed + ((s.beginReq q v).reg 0x1801 3 - (s.beginReq q v).reg 0x1801 4) } } : State).setReg
          0x1801 4 ((s.beginReq q v).reg 0x1801 3)))) := by
  change execSvnCommit q v s = _
  unfold execSvnCommit
  rw [requestOf_serves h rfl, occurs_next]

end

/-- An image below SVN_FUSE does not boot (R599, R593). -/
theorem bankOk_of_svn_lt {s : State} {b : FwBank} (h : b.svn < s.reg 0x1801 4) : s.bankOk b = false := by
  rw [State.bankOk, decide_eq_false h.not_ge, Bool.and_false]

theorem reply_svnFuse (s : State) (id : Nat) (q : Req) (v : List Byte) : (s.reply id q kOk v).reg 0x1801 4 = s.reg 0x1801 4 :=
  flush_reg _ (by decide) (by decide)

/-- Settles O59: each LC_REQUEST of good form by its verdict, and SVN_COMMIT by its four cases. -/
theorem lifeCycle : Obligations.LifeCycle := by
  refine ⟨?_, fun s n _ _ => ⟨changeLife_lifecycle s n, changeLife_keys s n, fun c => ?_, changeLife_due s n, ?_⟩, ?_⟩
  · intro s s' q v h hs hzero hdens hjobs hscrub
    refine ⟨fun htarget hlen hconfirm hlife => ?_, fun htarget hlen hconfirm hlife => ?_,
      fun htarget hlen hconfirm hlow hhigh hlife hcontainer => ?_, fun htarget hlen hconfirm hfrom hto => ?_⟩
    · change occurs s (lcRequest _ _ q v s) = _
      rw [lcRequest_judged h hs hdens hjobs hscrub ⟨hzero, hlen.ge, fun _ => hlen, by omega⟩ htarget rfl
        ((lcVerdict_allowed _ (by rw [hlife]; rfl)).trans (if_pos (by rw [hconfirm]; rfl)))]
      rfl
    · change occurs s (lcRequest _ _ q v s) = _
      rw [lcRequest_judged h hs hdens hjobs hscrub ⟨hzero, hlen.ge, fun _ => hlen, by omega⟩ htarget rfl
        (lcVerdict_denied _ (by simp [lcAllowed, hlife]))]
      rfl
    · have hform : lcForm v := ⟨hzero, hlen, by omega, fun _ => ⟨hlow, hhigh⟩⟩
      have hallowed : lcAllowed s'.lifecycle 3 = true := by rcases hlife with hlife | hlife <;> rw [hlife] <;> rfl
      constructor
      · change occurs s (lcRequest _ _ q v s) = _
        rw [lcRequest_judged h hs hdens hjobs hscrub hform htarget rfl
          ((lcVerdict_allowed _ hallowed).trans (if_pos (by rw [hconfirm, hcontainer]; rfl)))]
        rfl
      · change occurs s (lcRequest _ _ q v s) = _
        rw [lcRequest_judged h hs hdens hjobs hscrub hform htarget rfl
          ((lcVerdict_allowed _ hallowed).trans (if_neg (by simp [State.containerOk])))]
        rfl
    · change occurs s (lcRequest _ _ q v s) = _
      rw [lcRequest_judged h hs hdens hjobs hscrub ⟨hzero, hlen.ge, fun _ => hlen, by omega⟩ htarget rfl
        ((lcVerdict_allowed _ (by simp [lcAllowed, hfrom, hto])).trans (if_pos (by rw [hconfirm]; rfl)))]
      rfl
  · rw [State.cis, changeLife_cisterns]
    exact dropReservoirKeys_keyless s c
  · rintro rfl
    exact changeLife_udsGone s
  · rintro s _ q v h rfl
    rw [exec_svnCommit h]
    refine ⟨fun hv => ?_, fun hv hle => ?_, fun hv hlt hused => ?_, fun hv hlt hfits => ?_⟩
    · rw [if_pos hv, finish_refuse]
    · rw [if_neg (by omega), if_pos hle, finish_done]
    · rw [if_neg (by omega), if_neg hlt.not_ge, if_pos (by omega), finish_refuse]
    · rw [if_neg (by omega), if_neg hlt.not_ge, if_neg (by omega), finish_done]
      refine ⟨_, rfl, ?_⟩
      have hfuse := (reply_svnFuse _ s.dict.nextId q []).trans (setReg_reg_same ({ s.beginReq q v with trust := { (s.beginReq q v).trust with
        svnUsed := (s.beginReq q v).trust.svnUsed + ((s.beginReq q v).reg 0x1801 3 - (s.beginReq q v).reg 0x1801 4) } } : State)
          ((s.beginReq q v).reg 0x1801 3) (by decide))
      exact ⟨hfuse, fun b hb => bankOk_of_svn_lt (hb.trans_eq hfuse.symm)⟩

end Sys2Proof.Proofs
end

section
/-! PROOFS. The Meter as commands (R624 to R642). -/

namespace Sys2Proof.Proofs

open Sys2Proof Sys2Proof.Machine Sys2Proof.Laws

/-! ### STATE and receipts (R633, R634, R637) -/

/-- STATE follows the Meter (R637). -/
theorem settleMeter_state (s : State) : s.settleMeter.reg 0x1C00 0 = s.meter.stateCode := by
  have hset : (s.setReg 0x1C00 0 s.meter.stateCode).reg 0x1C00 0 = s.meter.stateCode := setReg_reg_same s _ (by decide)
  exact hset

/-- The Meter once one part of a receipt is issued: a number is used, and the newest receipts are kept (R634). -/
theorem issuePart_meter (s : State) (kind part parts start end_ flags unm : Nat) (entries : List (List Byte)) :
    ∃ rs, (s.issuePart kind part parts start end_ flags unm entries).meter = { s.meter with rnum := s.meter.rnum + 1, receipts := rs } := by
  unfold State.issuePart
  dsimp only
  split <;> exact ⟨_, rfl⟩

/-- At most 48 entries make one part (R633). -/
theorem parts48_single {l : List (List Byte)} (h : l.length ≤ 48) : parts48 l = [l] := by
  unfold parts48
  obtain rfl | hpos := l.length.eq_zero_or_pos.imp_left List.eq_nil_of_length_eq_zero
  · rfl
  · have hceil : ceilDiv l.length 48 = 1 := by unfold ceilDiv; omega
    have hne : l.isEmpty = false := List.isEmpty_eq_false_iff.mpr (List.ne_nil_of_length_pos hpos)
    rw [hne, hceil]
    simp [h]

/-- The Meter once a receipt of at most 48 entries is issued. -/
theorem issue_meter (s : State) (kind start end_ flags unm : Nat) {entries : List (List Byte)} (h : entries.length ≤ 48) :
    ∃ rs, (s.issue kind start end_ flags unm entries).meter = { s.meter with rnum := s.meter.rnum + 1, receipts := rs } := by
  unfold State.issue
  rw [parts48_single h]
  exact issuePart_meter s kind 1 1 start end_ flags unm entries

/-! ### Frames (R627, R629, R631, R636, R640) -/

section
variable {s : State}

theorem exec_meterFrame_forged (k : MeterKind) (hpowered : s.meter.powered = true) (haon : s.aonRuns = true) :
    exec (.meterFrame { toMeter := true, kind := k, macOk := false }) s = .next (s.bump 0x1C00 9) := by
  change execMeterFrame _ s = _
  unfold execMeterFrame
  dsimp only
  rw [need_true _ _ _ (by rw [hpowered, haon]; rfl), need_true _ (true || _) _ rfl]
  rfl

/-- What a good frame does to a Meter that has noted it, by its kind (R629 to R631, R640). -/
def meterTakes (s : State) : MeterKind → Out State
  | .heartbeat => .next s
  | .change => match s.meter.frames with
    | c :: rest => need .noSuch (!s.meter.resetDue) <| .next (({ s with meter := { s.meter with frames := rest } } : State).stampChange c)
    | [] => .off .noSuch
  | .reset => need .noSuch s.meter.resetDue <| .next ({ s with meter := { s.meter with resetDue := false } } : State).closeAll

theorem exec_meterFrame_toMeter (k : MeterKind) (hpowered : s.meter.powered = true) (haon : s.aonRuns = true)
    (hkey : s.meter.keyMeter.isSome = true) :
    exec (.meterFrame { toMeter := true, kind := k, macOk := true }) s =
      occurs s (meterTakes { s with meter := { s.meter with lastFrame := s.meter.ticks } } k) := by
  change execMeterFrame _ s = _
  unfold execMeterFrame
  dsimp only
  rw [need_true _ _ _ (by rw [hpowered, haon]; rfl), need_true _ (true || _) _ rfl,
    if_neg (by simpa [Option.isSome_iff_ne_none] using hkey), if_pos rfl]
  cases k <;> rfl

theorem exec_meterFrame_change {c : Change} {rest : List Change} (hpowered : s.meter.powered = true) (haon : s.aonRuns = true)
    (hkey : s.meter.keyMeter.isSome = true) (hreset : s.meter.resetDue = false) (hframes : s.meter.frames = c :: rest) :
    exec (.meterFrame { toMeter := true, kind := .change, macOk := true }) s =
      .next (({ s with meter := { s.meter with lastFrame := s.meter.ticks, frames := rest } } : State).stampChange c) := by
  rw [exec_meterFrame_toMeter _ hpowered haon hkey, meterTakes]
  dsimp only
  rw [hframes]
  dsimp only
  rw [need_true _ _ _ (by rw [hreset]; rfl), occurs_next]

theorem exec_meterFrame_reset (hpowered : s.meter.powered = true) (haon : s.aonRuns = true) (hkey : s.meter.keyMeter.isSome = true)
    (hreset : s.meter.resetDue = true) : exec (.meterFrame { toMeter := true, kind := .reset, macOk := true }) s =
      .next ({ s with meter := { s.meter with lastFrame := s.meter.ticks, resetDue := false } } : State).closeAll := by
  rw [exec_meterFrame_toMeter _ hpowered haon hkey, meterTakes]
  dsimp only
  rw [need_true _ _ _ hreset, occurs_next]

theorem exec_meterFrame_toPackage (hpowered : s.meter.powered = true) (haon : s.aonRuns = true) (hkey : s.meter.keyPkg.isSome = true) :
    exec (.meterFrame { toMeter := false, kind := .heartbeat, macOk := true }) s =
      .next ({ s with meter := { s.meter with heard := true } } : State).mirror.settleMeter := by
  change execMeterFrame _ s = _
  unfold execMeterFrame
  dsimp only
  rw [need_true _ _ _ (by rw [hpowered, haon]; rfl), need_true _ (false || MeterKind.heartbeat == .heartbeat) _ rfl, if_neg (by simpa [Option.isSome_iff_ne_none] using hkey), if_neg Bool.false_ne_true,
    occurs_next]

/-! ### The link is lost (R629, R637, R639) -/

theorem exec_meterLinkLost_meter (ms : BitVec 64) (hpowered : s.meter.powered = true) (hlive : s.meter.lostSince = none)
    (hkey : s.meter.keyMeter.isSome = true) :
    Completes (exec (.meterLinkLost true ms) s) fun r => r.meter.lostSince = some s.meter.lastFrame ∧ r.meter.keyMeter = none ∧
      ∀ t ∈ r.meter.tenures, t.unmetered = true := by
  change Completes (execMeterLinkLost true ms s) _
  unfold execMeterLinkLost
  dsimp only
  rw [if_pos rfl, need_true _ _ _ (by rw [hpowered, hlive, hkey]; rfl)]
  refine ⟨_, rfl, rfl, rfl, fun t ht => ?_⟩
  obtain ⟨_, -, rfl⟩ := List.mem_map.mp ht
  rfl

/-- The Meter's package side in a gap that starts at `ms`. -/
def meterInGap (m : Meter) (ms : BitVec 64) : Meter :=
  { m with up := false, resync := false, keyPkg := none, frames := [], resetDue := false, gapOpen := true,
           gapStart := ms.toNat, gapChanges := 0 }

theorem exec_meterLinkLost_package (ms : BitVec 64) (hup : s.meter.up = true) (haon : s.aonRuns = true) (hgap : s.meter.gapOpen = false) :
    exec (.meterLinkLost false ms) s = .next ({ s with meter := meterInGap s.meter ms } : State).settleMeter := by
  change execMeterLinkLost false ms s = _
  unfold execMeterLinkLost
  dsimp only
  rw [if_neg Bool.false_ne_true, need_true _ _ _ (by rw [hup, haon]; rfl), occurs_next, hgap]
  rfl

/-- In a gap STATE is 3, unless the seal is seen open (R637). -/
theorem stateCode_meterInGap {m : Meter} (ms : BitVec 64) (h : m.powered = false ∨ m.sealOpen = false) :
    (meterInGap m ms).stateCode = 3 := by
  have hseal : (m.powered && m.sealOpen) = false := by rcases h with h | h <;> simp [h]
  unfold Meter.stateCode
  rw [if_neg (by rw [Bool.not_eq_true]; exact hseal)]
  simp [meterInGap]

/-! ### Pairing (R628, R637, R639, R641) -/

theorem exec_meterPairing_failed {d c : Bool} (hpowered : s.meter.powered = true) (hvault : s.trust.vault.isSome = true)
    (hup : s.meter.up = false) (hd : d = (sha s.modulus == recordedDevid)) (hbad : c = false ∨ d = false) :
    exec (.meterPairing d c) s = .next ({ s with meter := { s.meter with pairFailed := true } } : State).settleMeter := by
  change execMeterPairing d c s = _
  unfold execMeterPairing
  dsimp only
  rw [need_true _ _ _ (by rw [hpowered, hvault, hup]; rfl), need_true _ _ _ (by rw [hd, beq_self_eq_true]),
    if_pos (by rcases hbad with rfl | rfl <;> simp), occurs_next]

/-- The DeviceID modulus of a module whose UDS is not gone is the one that the Meter has recorded (R595, R628). -/
theorem modulus_recorded (h : s.trust.udsGone = false) : sha s.modulus = recordedDevid := by
  unfold State.modulus Trust.deviceSeed Trust.uds
  rw [h]
  rfl

/-- STATE of a Meter that is up, with its seal shut (R637). -/
theorem stateCode_up {m : Meter} (hup : m.up = true) (hseal : m.sealOpen = false) : m.stateCode = if m.resync then 1 else 2 := by
  unfold Meter.stateCode
  rw [hseal, hup, Bool.and_false]
  cases m.resync <;> rfl

/-- The Meter that a pairing leaves, with its session key (R628, R639). -/
def meterPaired (s : State) (key : BitVec 256) : Meter :=
  let m := s.meter
  let slots := (kkeys s.dens).filter fun n => (s.den n).phase != .free
  { m with tenures := if m.gapOpen && m.counts then m.tenures.map fun t => { t.accrue (max t.since m.lastFrame) with unmetered := true }
             else m.tenures
           keyMeter := some key, keyPkg := some key, pairFailed := false, heard := true, up := true, resync := m.gapOpen,
           frames := slots.map s.changeOf, noted := slots.foldl (fun n i => kput {} n i (s.den i).vector) [], lastFrame := m.ticks,
           lostSince := if m.gapOpen then some (m.lostSince.getD m.lastFrame) else m.lostSince }

theorem exec_meterPairing_done (hpowered : s.meter.powered = true) (hvault : s.trust.vault.isSome = true)
    (huds : s.trust.udsGone = false) (hup : s.meter.up = false) :
    exec (.meterPairing true true) s =
      .next ({ s with fresh := s.fresh + 32, meter := meterPaired s s.freeKey.1 } : State).settleMeter := by
  change execMeterPairing true true s = _
  unfold execMeterPairing
  dsimp only
  rw [need_true _ _ _ (by rw [hpowered, hvault, hup]; rfl), need_true _ _ _ (by rw [modulus_recorded huds, beq_self_eq_true]; rfl)]
  rfl

/-! ### Receipts (R633, R635, R639) -/

theorem exec_periodReceipt (hpowered : s.meter.powered = true) (hspan : 1500000000 ≤ s.meter.ticks - s.meter.periodStart)
    (hfew : s.meter.tenures.length ≤ 48) :
    Completes (exec .periodReceipt s) fun r => r.meter.periodStart = s.meter.ticks ∧ r.meter.rnum = s.meter.rnum + 1 ∧
      r.meter.unmetered = 0 ∧ (∀ t ∈ r.meter.tenures, t.ints = {}) ∧ r.meter.tenures.length = s.meter.tenures.length := by
  change Completes (execPeriodReceipt s) _
  unfold execPeriodReceipt
  dsimp only
  rw [need_true _ _ _ hpowered, need_true _ _ _ (decide_eq_true hspan), occurs_next]
  have hlength : (if s.meter.counts then s.meter.tenures.map fun t => t.accrue s.meter.ticks else s.meter.tenures).length =
      s.meter.tenures.length := by split <;> simp
  obtain ⟨rs, hmeter⟩ := issue_meter s 1 s.meter.periodStart s.meter.ticks (if s.meter.unmeteredTicks = 0 then 0 else 2)
    (ticksToMs s.meter.unmeteredTicks) (entries := (if s.meter.counts then s.meter.tenures.map fun t => t.accrue s.meter.ticks
      else s.meter.tenures).map fun t => t.entry true) (by rw [List.length_map, hlength]; exact hfew)
  refine ⟨_, rfl, rfl, congrArg Meter.rnum hmeter, rfl, fun t ht => ?_, ?_⟩
  · obtain ⟨_, -, rfl⟩ := List.mem_map.mp ht
    rfl
  · exact (List.length_map _).trans hlength

/-- The gap record of the package (R634, R639). -/
def gapEntry (s : State) (ms : BitVec 64) : List Byte :=
  toLE 8 s.incarnation ++ toLE 8 s.meter.gapStart ++ toLE 8 ms.toNat ++ toLE 4 s.meter.gapChanges ++ List.replicate 36 0

/-- The Meter that counts again after a gap of `n` ticks since `t0` (R639). -/
def meterRejoined (m : Meter) (n t0 : Nat) : Meter :=
  { m with lostSince := none, resync := false, gapOpen := false, gapChanges := 0,
           tenures := m.tenures.map fun t => { t with since := m.ticks, unmetered := true },
           unmetered := m.unmetered + (n - (max t0 m.periodStart - t0)) }

/-- The receipt of a gap in which no tenure stands (R635, R639). -/
def gapReceipt (s : State) (n t0 : Nat) (ms : BitVec 64) : State :=
  s.issue 3 t0 s.meter.ticks 2 (ticksToMs n) [gapEntry s ms]

theorem exec_unmeteredReceipt {n t0 : Nat} (ms : BitVec 64) (hlost : s.meter.lostSince = some t0) (hup : s.meter.up = true)
    (hresync : s.meter.resync = true) (hframes : s.meter.frames = []) (hgap : s.meter.ticks - t0 ≤ n) (hnone : s.meter.tenures = []) :
    exec (.unmeteredReceipt n ms) s = .next ({ gapReceipt s n t0 ms with meter := meterRejoined (gapReceipt s n t0 ms).meter n t0 } :
      State).settleMeter := by
  change execUnmeteredReceipt n ms s = _
  unfold execUnmeteredReceipt
  dsimp only
  rw [needSome_some hlost, need_true _ _ _ (by rw [hup, hresync, hframes]; rfl), need_true _ _ _ (decide_eq_true hgap), occurs_next,
    hnone]
  rfl

end

/-- Settles O51: frames by their direction and kind, a lost link and a pairing by their side, and the receipts. -/
theorem meterCommands : Obligations.MeterCommands := by
  refine ⟨fun s k hpowered haon => ⟨exec_meterFrame_forged k hpowered haon, exec_meterFrame_toMeter .heartbeat hpowered haon,
      fun hkey hreset c rest => exec_meterFrame_change hpowered haon hkey hreset, exec_meterFrame_reset hpowered haon,
      exec_meterFrame_toPackage hpowered haon⟩,
    fun s ms => exec_meterLinkLost_meter ms, fun s ms hup haon hgap => ?_, fun s d c hpowered hvault hup hd hbad => ?_, ?_,
    fun s hseal => ?_, fun s => exec_periodReceipt, ?_, fun s mJ ticks hpowered => ?_⟩
  · exact ⟨_, exec_meterLinkLost_package ms hup haon hgap, rfl, rfl, rfl, rfl, rfl,
      fun h => (settleMeter_state _).trans (stateCode_meterInGap ms h)⟩
  · exact ⟨_, exec_meterPairing_failed hpowered hvault hup hd hbad, by simp, by simpa using hup⟩
  · rintro s _ rfl hpowered hvault huds hup
    exact ⟨_, exec_meterPairing_done hpowered hvault huds hup, ⟨_, rfl, rfl⟩, rfl, rfl, rfl, rfl,
      fun hseal => (settleMeter_state _).trans (stateCode_up rfl hseal)⟩
  · change Completes (execMeterSealOpen s) _
    unfold execMeterSealOpen
    rw [need_true _ _ _ (by rw [hseal]; rfl), occurs_next]
    refine ⟨_, rfl, by simp, fun hpowered => (settleMeter_state _).trans ?_⟩
    exact if_pos (by rw [hpowered]; rfl)
  · intro s n t0 ms hlost hup hresync hframes hgap hnone
    obtain ⟨rs, hmeter⟩ := issue_meter s 3 t0 s.meter.ticks 2 (ticksToMs n) (entries := [gapEntry s ms]) (by simp)
    exact ⟨_, exec_unmeteredReceipt ms hlost hup hresync hframes hgap hnone, rfl, rfl, rfl, congrArg Meter.rnum hmeter,
      fun hseal => (settleMeter_state _).trans (stateCode_up (m := meterRejoined (gapReceipt s n t0 ms).meter n t0)
        ((congrArg Meter.up hmeter).trans hup) ((congrArg Meter.sealOpen hmeter).trans hseal))⟩
  · change execEnergySample mJ ticks s = _
    unfold execEnergySample
    rw [need_true _ _ _ hpowered, occurs_next]

end Sys2Proof.Proofs
end

section
/-! PROOFS. The power manager of chapter 17: a trip of the droop sensors is not free of the dictionary's store (R648, R671). -/

namespace Sys2Proof.Proofs

open Sys2Proof Sys2Proof.Machine Sys2Proof.Laws

/-- A module in service whose register store lists the count of deep trips of the west half at its default, so that the store is not in its
canonical form. -/
def listedDroopCount : State :=
  { ({} : State) with chip := { phase := .ready }, dict := { regs := [(elemKey 0x0200 4, 0)] } }

/-- A rail of the west half that reads 810 mV, 4.7 % below the 850 mV of step 0: a trip that is not deep. -/
def shallowSag : RailSample := { block := 0, uV := 810000 }

/-- The trip adds 0 to DROOP_DEEP, and that write takes the entry at its default out of the store. -/
theorem exec_droopTrip_listedDroopCount : ∃ t,
    exec (.droopTrip .west [shallowSag] false) listedDroopCount = .next t ∧ t.dict.regs = [] :=
  ⟨_, rfl, rfl⟩

/-- Refutes O52: DROOP_TRIP adds the number of new deep trips to its counter even where it is 0, and a store that lists the counter at its
default then loses that entry, so the state is not that which the droop stretch alone gives. -/
theorem not_powerLevels : ¬ Obligations.PowerLevels := by
  unfold Obligations.PowerLevels
  rintro ⟨-, -, -, hdroop, -⟩
  have htrip := (hdroop listedDroopCount .west [shallowSag] rfl (by decide)).1 (by decide) (by decide)
  obtain ⟨t, ht, hregs⟩ := exec_droopTrip_listedDroopCount
  rw [ht] at htrip
  cases htrip
  cases hregs

end Sys2Proof.Proofs
end

section
/-! PROOFS. The brake, the input, the rails and temperature as commands (R660 to R666, R725, R729). -/

namespace Sys2Proof.Proofs

open Sys2Proof Sys2Proof.Machine Sys2Proof.Laws

/-! ### The brake and the input (R660, R661, R725, R729, R730) -/

/-- The level follows with its step, and no more of the power state changes (R655, R661). -/
theorem applyLevel_power (s : State) : s.applyLevel.power = { s.power with
    level := s.effLevel, step := max s.power.step (levelStep s.effLevel),
    rising := if levelStep s.effLevel < s.power.step then some (levelStep s.effLevel) else none } := by
  unfold State.applyLevel
  exact foldl_keeps State.power _ _ _ fun s n => by simp

theorem applyLevel_inputs (s : State) : s.applyLevel.power.brake = s.power.brake ∧ s.applyLevel.power.pinLow = s.power.pinLow ∧
    s.applyLevel.power.sag = s.power.sag := by
  rw [applyLevel_power]
  exact ⟨rfl, rfl, rfl⟩

theorem brakeOn_inputs (s : State) : s.brakeOn.power.pinLow = s.power.pinLow ∧ s.brakeOn.power.sag = s.power.sag := by
  unfold State.brakeOn
  dsimp only
  (repeat' split) <;> simp [applyLevel_inputs]

/-- The brake begins at once where the dictionary serves and no trip stands (R661, R665, R725). -/
theorem brakeOn_brake {s : State} (htrip : s.power.trip = false) (hready : s.chip.phase = .ready) : s.brakeOn.power.brake = true := by
  unfold State.brakeOn
  dsimp only
  rw [if_neg (by simpa using htrip), if_pos (by simpa using hready)]
  exact (applyLevel_inputs _).1

section
variable {s : State}

theorem exec_pwrBrake_low (haon : s.aonRuns = true) (hpin : s.power.pinLow = false) :
    exec (.pwrBrake true) s = .next ({ s with power := { s.power with pinLow := true } } : State).brakeOn := by
  change execPwrBrake true s = _
  unfold execPwrBrake
  rw [need_true _ _ _ (by rw [haon, hpin]; rfl), occurs_next]
  rfl

theorem exec_pwrBrake_high (haon : s.aonRuns = true) (hpin : s.power.pinLow = true) :
    exec (.pwrBrake false) s = .next (({ s with power := { s.power with pinLow := false } } : State).level 1879 s.power.sag) := by
  change execPwrBrake false s = _
  unfold execPwrBrake
  rw [need_true _ _ _ (by rw [haon, hpin]; rfl), occurs_next]
  rfl

theorem exec_inputSag (haon : s.aonRuns = true) (hsag : s.power.sag = false) :
    exec .inputSag s = .next ({ s with power := { s.power with sag := true } } : State).brakeOn := by
  change execInputSag s = _
  unfold execInputSag
  rw [need_true _ _ _ (by rw [haon, hsag]; rfl), occurs_next]

theorem exec_brakeEnd (hbrake : s.power.brake = true) (hpin : s.power.pinLow = false) (hsag : s.power.sag = false) :
    exec .brakeEnd s = .next { s with power := { s.power with brake := false } } := by
  change execBrakeEnd s = _
  unfold execBrakeEnd
  rw [need_true _ _ _ (by rw [hbrake, hpin, hsag]; rfl), occurs_next]

theorem exec_sagEnd (hsag : s.power.sag = true) :
    Completes (exec .sagEnd s) fun r => r.power.sag = false ∧ r.power.brake = (s.power.brake && s.power.pinLow) := by
  change Completes (execSagEnd s) _
  unfold execSagEnd
  rw [need_true _ _ _ hsag]
  exact ⟨_, rfl, rfl, rfl⟩

/-- The loss of 54 V leaves nothing of the logic, the keys and the power state (R666, R730). -/
theorem exec_inputLoss (haon : s.aonRuns = true) :
    Completes (exec .inputLoss s) fun r => r.chip.phase = .dark ∧ r.dict.ready = false ∧ r.dens = [] ∧
      r.trust.vault = none ∧ r.trust.alias_ = none ∧ r.meter.powered = false ∧ r.power = {} ∧ r.repair.resets = [] := by
  change Completes (execInputLoss s) _
  unfold execInputLoss
  rw [need_true _ _ _ haon]
  exact ⟨_, rfl, rfl, rfl, rfl, rfl, rfl, rfl, rfl, rfl⟩

/-! ### Rails (R666) -/

/-- What a rail fault does to a chip whose rails are under supervision, by what the rail feeds. -/
theorem exec_railFault (n : Fin 16) (haon : s.aonRuns = true) (hrails : s.chip.phase ≠ .rail13) :
    exec (.railFault n) s = occurs s (
      if n.val < 8 then .next (((s.bump 0x0250 2).raise (1886 + n.val)).beginHalf (if n.val < 4 then .west else .east) 0x1102 0x1102)
      else if n.val < 15 then .next (({ (kkeys s.dens).foldl (fun (s : State) k => s.faultAny k 0x1102)
        ((s.bump 0x0250 2).raise (1886 + n.val)) with chip := { s.chip with resequence := true } } : State).beginReset .chip 0x1102)
      else .next ((s.bump 0x0250 2).raise (1886 + n.val)).loseInput) := by
  change execRailFault n s = _
  unfold execRailFault
  dsimp only
  rw [need_true _ _ _ (by simp [haon, hrails])]
  have hchip : ((kkeys ((s.bump 0x0250 2).raise (1886 + n.val)).dens).foldl (fun (s : State) k => s.faultAny k 0x1102)
    ((s.bump 0x0250 2).raise (1886 + n.val))).chip = s.chip := foldl_keeps State.chip _ _ _ fun s k => by simp
  rw [hchip]
  rfl

/-! ### Temperature (R662 to R665) -/

theorem exec_tripCooldown (htrip : s.power.trip = true) (hchip : s.resetRuns .chip = false) (hjunctions : ∀ t ∈ s.power.junctions, t ≤ 90)
    (hwells : ∀ t ∈ s.power.wellTemps, t ≤ 85) : exec .tripCooldown s = .next (s.beginReset .chip 0x1101) := by
  change execTripCooldown s = _
  unfold execTripCooldown
  dsimp only
  rw [need_true _ _ _ (by rw [htrip, hchip]; rfl), need_true _ _ _ (by simpa [List.all_eq_true] using ⟨hjunctions, hwells⟩), occurs_next]

theorem exec_thermalLevelTick_rise {i : Nat} (hruns : s.powerRuns = true) (hi : i < 512)
    (hhot : s.f32 0x0230 0 < ((kget 0 s.power.die i : Int) : Rat) / 64) :
    exec (.thermalLevelTick true) s = .next (s.setLt (min 26 (s.power.lt + 1))) := by
  change execThermalLevelTick true s = _
  unfold execThermalLevelTick
  dsimp only
  have hany : (s.power.junctions.any fun t => decide (s.f32 0x0230 0 < t)) = true :=
    List.any_eq_true.mpr ⟨_, List.mem_append_left _ (List.mem_map.mpr ⟨i, List.mem_range.mpr hi, rfl⟩), decide_eq_true hhot⟩
  rw [need_true _ _ _ hruns, if_pos rfl, need_true _ _ _ (by rw [hany]; rfl), occurs_next]

theorem exec_thermalLevelTick_fall (hruns : s.powerRuns = true) (hjunctions : ∀ t ∈ s.power.junctions, t ≤ s.f32 0x0230 0 - 3)
    (hwells : ∀ t ∈ s.power.wellTemps, t ≤ s.f32 0x0230 1 - 3) :
    exec (.thermalLevelTick false) s = .next (s.setLt (s.power.lt - 1)) := by
  change execThermalLevelTick false s = _
  unfold execThermalLevelTick
  dsimp only
  rw [need_true _ _ _ hruns, if_neg Bool.false_ne_true,
    need_true _ _ _ (by simpa [List.all_eq_true] using ⟨hjunctions, hwells⟩), occurs_next]

theorem setLt_lt (s : State) (n : Nat) : (s.setLt n).power.lt = n := rfl

end

/-! ### Readings (R473, R662, R663) -/

theorem readings_length (s : State) (g : SensorGroup) (raw : List (BitVec 16)) : (s.readings g raw).length = raw.length := by
  simp [State.readings]

/-- The water sensors have no offsets (R662). -/
theorem readings_water (s : State) {raw : List (BitVec 16)} {i : Nat} (h : i < raw.length) :
    (s.readings .water raw).getD i 0 = (raw.getD i 0).toInt := by
  have hoffset : sextNat 16 (natAt [] (2 * i) 2) = 0 := rfl
  simp [State.readings, h, List.getD_eq_getElem?_getD, hoffset]

theorem le_hottest {l : List Int} {x : Int} (h : x ∈ l) : x ≤ hottest l := by
  induction l with
  | nil => cases h
  | cons y l ih =>
    cases l with
    | nil => rw [List.mem_singleton.mp h]; exact le_refl y
    | cons z l =>
      change x ≤ max y (hottest (z :: l))
      rcases List.mem_cons.mp h with rfl | h
      · exact le_max_left ..
      · exact (ih h).trans (le_max_right ..)

/-- Readings below 110 °C make no run of hot readings (R663). -/
theorem hotRuns_cool {l : List Int} (base : Nat) (h : hottest l < 7040) : hotRuns [] base l = [] := by
  unfold hotRuns
  have hnil (n : Nat) (hn : n ≤ l.length) : (List.range n).foldl (fun m i =>
      kput 0 m (base + i) (if 7040 ≤ l.getD i 0 then kget 0 m (base + i) + 1 else 0)) ([] : KMap Nat) = [] := by
    induction n with
    | zero => rfl
    | succ n ih =>
      have hcool : ¬7040 ≤ l.getD n 0 := by
        rw [List.getD_eq_getElem _ _ (by omega)]
        exact not_le.mpr ((le_hottest (List.getElem_mem _)).trans_lt h)
      rw [List.range_succ, List.foldl_append, ih (by omega), List.foldl_cons, List.foldl_nil, if_neg hcool]
      rfl
  exact hnil l.length (le_refl _)

/-- A cistern's reading changes nothing of the power state but the list of halved cisterns (R314, R663). -/
theorem cisTemp_power (s : State) (c : Nat) (h : Int) : ∃ l, (s.cisTemp c h).power = { s.power with halved := l } := ⟨_, rfl⟩

theorem cisTemp_hot (s : State) (c : Nat) {h : Int} (hhot : 6080 ≤ h) : (s.cisTemp c h).power.halved.contains c = true := by
  change (if _ then _ else _ : List Nat).contains c = true
  rw [if_pos hhot]
  split
  · assumption
  · simp

/-- The reading of another cistern leaves a halved one halved. -/
theorem cisTemp_other (s : State) {c d : Nat} (h : Int) (hne : d ≠ c) (hd : s.power.halved.contains d = true) :
    (s.cisTemp c h).power.halved.contains d = true := by
  change (if _ then _ else _ : List Nat).contains d = true
  rw [List.contains_iff_mem] at hd ⊢
  (repeat' split) <;> simp_all

/-- The cisterns' readings in turn. -/
def cisTemps (s : State) (l : List Int) (n : Nat) : State := (List.range n).foldl (fun s c => s.cisTemp c (l.getD c 0)) s

theorem cisTemps_succ (s : State) (l : List Int) (n : Nat) : cisTemps s l (n + 1) = (cisTemps s l n).cisTemp n (l.getD n 0) := by
  rw [cisTemps, List.range_succ, List.foldl_append]
  rfl

theorem cisTemps_power (s : State) (l : List Int) (n : Nat) : ∃ h, (cisTemps s l n).power = { s.power with halved := h } := by
  induction n with
  | zero => exact ⟨_, rfl⟩
  | succ n ih =>
    obtain ⟨h, hpower⟩ := ih
    obtain ⟨h', hlast⟩ := cisTemp_power (cisTemps s l n) n (l.getD n 0)
    exact ⟨h', by rw [cisTemps_succ, hlast, hpower]⟩

/-- Every cistern that reads 95 °C or more is halved (R314). -/
theorem cisTemps_halved (s : State) (l : List Int) {c n : Nat} (hc : c < n) (hhot : 6080 ≤ l.getD c 0) :
    (cisTemps s l n).power.halved.contains c = true := by
  induction n with
  | zero => omega
  | succ n ih =>
    rw [cisTemps_succ]
    obtain rfl | hne := eq_or_ne c n
    · exact cisTemp_hot _ c hhot
    · exact cisTemp_other _ _ hne (ih (by omega))

section
variable {s : State} {raw : List (BitVec 16)}

theorem exec_sensorSample_water (haon : s.aonRuns = true) (hrails : s.chip.phase ≠ .rail13) (hraw : raw.length = 2) :
    Completes (exec (.sensorSample .water raw) s) fun r => r.power.inlet = (raw.getD 0 0).toInt ∧
      r.power.outlet = (raw.getD 1 0).toInt := by
  change Completes (execSensorSample .water raw s) _
  unfold execSensorSample
  rw [need_true _ _ _ (by simp [haon, hrails])]
  dsimp only
  rw [need_true _ _ _ (by rw [hraw]; rfl)]
  exact ⟨_, rfl, readings_water s (by omega), readings_water s (by omega)⟩

theorem exec_sensorSample_cistern (haon : s.aonRuns = true) (hrails : s.chip.phase ≠ .rail13) (hraw : raw.length = 32) :
    exec (.sensorSample .cistern raw) s =
      .next (cisTemps { s with power := { s.power with cistern := storeOf (s.readings .cistern raw) } } (s.readings .cistern raw) 32) := by
  change execSensorSample .cistern raw s = _
  unfold execSensorSample
  rw [need_true _ _ _ (by simp [haon, hrails])]
  dsimp only
  rw [need_true _ _ _ (by rw [hraw]; rfl)]
  rfl

theorem exec_sensorSample_die (haon : s.aonRuns = true) (hrails : s.chip.phase ≠ .rail13) (hraw : raw.length = 512)
    (hcool : hottest (s.readings .die raw) < 6720) (hruns : s.power.hotRuns = []) :
    Completes (exec (.sensorSample .die raw) s) fun r =>
      r.power.die = storeOf (s.readings .die raw) ∧ r.power.lt = s.power.lt := by
  change Completes (execSensorSample .die raw s) _
  unfold execSensorSample
  rw [need_true _ _ _ (by simp [haon, hrails])]
  dsimp only
  rw [need_true _ _ _ (by rw [hraw]; rfl), hruns, hotRuns_cool 0 (hcool.trans (by decide)), if_neg hcool.not_ge]
  exact ⟨_, rfl, rfl, rfl⟩

end

/-- Settles O53: each clause by the command's own equation. -/
theorem inputsAndTemperature : Obligations.InputsAndTemperature := by
  refine ⟨fun s haon => ⟨fun hpin => ?_, exec_pwrBrake_high haon, fun hsag => ?_⟩, fun s => exec_brakeEnd, fun s => exec_sagEnd,
    fun s => exec_inputLoss, fun s n haon hrails => ⟨fun h4 => ?_, fun h4 h8 => ?_, fun h8 h15 => ?_⟩,
    fun s raw haon hrails => ⟨exec_sensorSample_water haon hrails, fun hraw => ?_, exec_sensorSample_die haon hrails⟩,
    fun s i hruns hi hhot => ⟨_, exec_thermalLevelTick_rise hruns hi hhot, setLt_lt ..⟩,
    fun s hruns hjunctions hwells => ⟨_, exec_thermalLevelTick_fall hruns hjunctions hwells, setLt_lt ..⟩, fun s => exec_tripCooldown⟩
  · exact ⟨_, exec_pwrBrake_low haon hpin, (brakeOn_inputs _).1, fun htrip hready => brakeOn_brake htrip hready⟩
  · exact ⟨_, exec_inputSag haon hsag, (brakeOn_inputs _).2, fun htrip hready => brakeOn_brake htrip hready⟩
  · rw [exec_railFault n haon hrails, if_pos (by omega), if_pos h4, occurs_next]
  · rw [exec_railFault n haon hrails, if_pos h8, if_neg (by omega), occurs_next]
  · rw [exec_railFault n haon hrails, if_neg (by omega), if_pos h15]
    exact ⟨_, rfl, by simp⟩
  · obtain ⟨h, hpower⟩ := cisTemps_power { s with power := { s.power with cistern := storeOf (s.readings .cistern raw) } }
      (s.readings .cistern raw) 32
    exact ⟨_, exec_sensorSample_cistern haon hrails hraw, by rw [hpower], by rw [hpower],
      fun c hc hhot => cisTemps_halved _ _ hc hhot⟩

end Sys2Proof.Proofs
end

section
/-! PROOFS. Fenced tiles, repairs, the march engines and the dump extent as commands (R679 to R686, R694). -/

namespace Sys2Proof.Proofs

open Sys2Proof Sys2Proof.Machine Sys2Proof.Laws

/-! ### Fences (R679, R681) -/

section
variable {s : State} {q : Req} {v : List Byte}

theorem exec_fenceTile {t : Nat} (h : s.serves q 0x0401 0 v) (ht : tileOfCoord (leNat v) = some t) :
    exec (.fenceTile q v) s = .next (finishReq s.dict.nextId q
      (if (s.beginReq q v).repair.hostFenced.contains t then done (s.beginReq q v)
       else persist s.dict.nextId [(s.beginReq q v).repair.fenceOld t] true ((s.beginReq q v).fenceTile t 0x1201 true {}))) := by
  change execFenceTile q v s = _
  unfold execFenceTile
  rw [requestOf_serves h rfl, ht, occurs_next]

theorem exec_unfenceTile {t : Nat} (h : s.serves q 0x0401 1 v) (ht : tileOfCoord (leNat v) = some t)
    (hfenced : (s.beginReq q v).repair.hostFenced.contains t = true)
    (hfree : ((s.beginReq q v).dens.any fun (p : Nat × Den) => p.2.phase != .free && p.2.rect.has t) = false) :
    exec (.unfenceTile q v) s = .next (finishReq s.dict.nextId q (persist s.dict.nextId [(s.beginReq q v).repair.fenceOld t] true
      ((s.beginReq q v).setHostFences ((s.beginReq q v).repair.hostFenced.filter (· != t))))) := by
  change execUnfenceTile q v s = _
  unfold execUnfenceTile
  rw [requestOf_serves h rfl, ht]
  dsimp only
  rw [hfenced, hfree, if_neg (by decide), occurs_next]

end

/-- A tile that no slot holds is fenced, and no den is FAULTED for it (R679). -/
theorem fenceTile_fenced {s : State} {t : Nat} (c : Code) (i : FaultInfo) (host : Bool) (h : s.slotOf t = none) :
    ((s.fenceTile t c host i).tile t).fenced = true := by
  unfold State.fenceTile
  extract_lets s₁ r s₂ s₃
  have hdens : s₃.dens = s.dens := by simp [s₃, s₂, s₁]
  have hslot : s₃.slotOf t = none := by rw [State.slotOf, hdens]; exact h
  have htile : s₃.tile t = s₁.tile t := tile_of_tiles_eq (by simp [s₃, s₂]) t
  rw [hslot]
  dsimp only
  rw [htile, modTile_tile, if_pos rfl]

theorem exec_parityError {s : State} {t : TileIx} (hready : s.chip.phase = .ready) (hopen : (s.tile t.val).fenced = false) :
    exec (.parityError t) s = .next (s.fenceTile t.val 0x1201 false {}) := by
  change execParityError t s = _
  unfold execParityError
  rw [need_true _ _ _ (by rw [hready, hopen]; rfl), occurs_next]

/-! ### REPAIR_APPLY (R682) -/

section
variable {s : State} {q : Req} {v : List Byte} {key : Nat}

theorem exec_repairApply_none (f : MarchFacts) (h : s.serves q 0x0401 3 v) (hbit : bitsOf (leNat v) 6 1 = 0)
    (hkey : key = 2 * bitsOf (leNat v) 0 6 + bitsOf (leNat v) 7 1) (hnone : (s.beginReq q v).repair.firstPending key = none) :
    exec (.repairApply q v f) s = .next ((s.beginReq q v).reply s.dict.nextId q kOk []) := by
  subst hkey
  change execRepairApply q v f s = _
  unfold execRepairApply
  rw [requestOf_serves h rfl]
  dsimp only
  rw [if_neg (not_not.mpr hbit), hnone, finish_done, occurs_next]

theorem exec_repairApply_some {p : Nat} (f : MarchFacts) (h : s.serves q 0x0401 3 v) (hbit : bitsOf (leNat v) 6 1 = 0)
    (hkey : key = 2 * bitsOf (leNat v) 0 6 + bitsOf (leNat v) 7 1) (hsome : (s.beginReq q v).repair.firstPending key = some p)
    (hfree : (((s.beginReq q v).repair.tilesOutward key p).map blockOf).eraseDups.any (s.beginReq q v).blockHeld = false) :
    exec (.repairApply q v f) s = .next (((((s.beginReq q v).marchPlaces (f.needs.filter fun n =>
      n.row.val == key / 2 && (n.col.val < 66) == (key % 2 == 0))).applyRow key).settleWarn).reply s.dict.nextId q kOk []) := by
  subst hkey
  change execRepairApply q v f s = _
  unfold execRepairApply
  rw [requestOf_serves h rfl]
  dsimp only
  rw [if_neg (not_not.mpr hbit), hsome]
  dsimp only
  rw [hfree, if_neg Bool.false_ne_true, finish_done, occurs_next]

end

/-! ### The march engines (R685, R686) -/

/-- The object of a half's march engine (log entry 87). -/
def marchIndex : Half → Nat
  | .west => 0x0420
  | .east => 0x0421

/-- A run of MCH_RUN over blocks that nothing keeps from it, on an engine that is free. -/
theorem marchRun_starts {s : State} {q : Req} {v : List Byte} {h : Half} {r : Rect} {mine : Nat → Bool} {mode : Nat}
    (hserves : s.serves q (marchIndex h) 0 v) (hmode : natAt v 0 1 = mode) (hmine : mine mode = true) (hlow : mode ≤ 1)
    (hsecure : natAt v 1 1 = 0) (hzero : natAt v 6 2 = 0) (hrect : parseRect (natAt v 2 4) = some r)
    (hw : r.w ≠ 0) (hh : r.h ≠ 0) (hrow : r.br + r.h ≤ 16) (hhalf : r.inHalf h = true)
    (hfree : r.blocks.any ((s.beginReq q v).marchBlocked (mode == 1)) = false) (hidle : (s.beginReq q v).repair.march h = none) :
    marchRun mine q v s = .next (State.reply
      (if mode = 1 then ((s.beginReq q v).setMarch h (some { preserving := mode == 1, blocks := r.blocks, secure := false })).holdPhase
       else (s.beginReq q v).setMarch h (some { preserving := mode == 1, blocks := r.blocks, secure := false }))
      s.dict.nextId q kOk []) := by
  subst hmode
  have hindex : (if q.index = 0x0420 then Half.west else Half.east) = h := by
    have hq := (takes_at (serves_takes hserves).1).1
    cases h with
    | west => exact if_pos (BitVec.eq_of_toNat_eq hq)
    | east => exact if_neg fun hwest => absurd (hq.symm.trans (congrArg BitVec.toNat hwest)) (by decide)
  unfold marchRun
  rw [need_true _ _ _ hmine, requestOf_serves hserves (by cases h <;> rfl)]
  dsimp only
  rw [hindex, hrect, hsecure, hidle]
  dsimp only
  rw [if_neg (by simp [hzero, hw, hh, hhalf]; omega), if_neg (by simpa using hfree), if_neg (by decide)]
  rfl

theorem exec_marchDestructive (q : Req) (v : List Byte) (s : State) : exec (.marchDestructive q v) s = occurs s (marchRun (· != 1) q v s) := rfl

theorem exec_marchPreserving (q : Req) (v : List Byte) (s : State) : exec (.marchPreserving q v) s = occurs s (marchRun (· == 1) q v s) := rfl

theorem setMarch_march (s : State) (h : Half) (m : Option March) : (s.setMarch h m).repair.march h = m := by cases h <;> rfl

/-- A march of the secure SRAM that finds nothing changes nothing but what the dictionary says of it (R680). -/
theorem marchSett_nil (s : State) (h : Half) : s.marchSett h [] = s.setReg 0x0102 4 s.repair.settRetired.length := rfl

theorem freePhase_march (s : State) (h : Half) : s.freePhase.repair.march h = s.repair.march h := by
  unfold State.freePhase
  dsimp only
  cases h <;> (repeat' split) <;> rfl

theorem freePhase_blob (s : State) (ix el : Nat) : s.freePhase.dict.blob ix el = s.dict.blob ix el := by
  unfold State.freePhase
  dsimp only
  (repeat' split) <;> rfl

theorem setBlob_blob_same (d : Dict) (ix el : Nat) (v : List Byte) : (d.setBlob ix el v).blob ix el = v := kget_kput_same ..

/-- A run that found nothing ends: the engine is free, and MCH_RESULT says how it ended (R685). -/
theorem exec_marchEnd_clean {s : State} {h : Half} {m : March} {f : MarchFacts} (hrun : s.repair.march h = some m) (hneeds : f.needs = [])
    (hsett : f.sett = []) :
    Completes (exec (.marchEnd h f) s) fun r => r.repair.march h = none ∧ r.dict.blob (marchIndex h) 2 =
      toLE 2 (if m.stopped then kCmdCancelled else kOk).toNat ++ List.replicate 14 0 := by
  change Completes (execMarchEnd h f s) _
  unfold execMarchEnd
  rw [needSome_some hrun, need_true _ _ _ (by simp [hneeds, hsett]), hneeds, hsett]
  refine ⟨_, rfl, ?_, ?_⟩
  · refine (freePhase_march _ h).trans ?_
    cases m.secure <;> exact setMarch_march s h none
  · refine (freePhase_blob _ _ 2).trans ((setBlob_blob_same _ _ 2 _).trans ?_)
    simp only [List.filter_nil, List.filterMap_nil, List.eraseDups_nil, List.length_nil, List.append_assoc]
    rfl

/-! ### The dump extent (R694) -/

/-- Settles O55: each request by its own conditions, a fence of a tile, and the runs of the march engines. -/
theorem fencesAndRepair : Obligations.FencesAndRepair := by
  refine ⟨?_, fun s t c i host h => fenceTile_fenced c i host h, ?_, ?_, fun s t => exec_parityError, ?_,
    fun s h m f => ?_, ?_⟩
  · rintro s _ q v t h rfl ht
    rw [exec_fenceTile h ht]
    exact ⟨fun hopen => by rw [hopen, if_neg Bool.false_ne_true], fun hfenced => by rw [if_pos hfenced, finish_done]⟩
  · rintro s _ q v t h rfl ht hfenced hfree
    exact exec_unfenceTile h ht hfenced hfree
  · rintro s _ q v key f h rfl hbit hkey
    exact ⟨exec_repairApply_none f h hbit hkey, fun p => exec_repairApply_some f h hbit hkey⟩
  · rintro s _ q v h r hserves rfl hsecure hzero hrect hw hh hrow hhalf hidle
    have hindex : s.serves q (marchIndex h) 0 v = true := by cases h <;> exact hserves
    refine ⟨fun hmode hfree => ?_, fun hmode hfree => ?_⟩
    · rw [exec_marchDestructive, marchRun_starts hindex hmode rfl (by decide) hsecure hzero hrect hw hh hrow hhalf hfree hidle]
      rfl
    · rw [exec_marchPreserving, marchRun_starts hindex hmode rfl (by decide) hsecure hzero hrect hw hh hrow hhalf hfree hidle]
      rfl
  · intro hrun hneeds hsett
    have hclean := exec_marchEnd_clean hrun hneeds hsett
    cases h <;> exact hclean
  · rintro s _ q v h rfl hstart hlen hmax hpasid hstride hstrideMax hkind hzero
    change execDumpCfg q v s = _
    unfold execDumpCfg
    rw [requestOf_serves h rfl]
    dsimp only
    rw [if_neg (by omega), finish_done, occurs_next]

end Sys2Proof.Proofs
end

section
/-! PROOFS. Resets and leases as commands (R676, R687 to R693, R697 to R702, R717). -/

namespace Sys2Proof.Proofs

open Sys2Proof Sys2Proof.Machine Sys2Proof.Laws

/-! ### RESET_REQ (R691 to R693) -/

section
variable {s : State} {q : Req} {v : List Byte} {d : ResetDom}

/-- A request for a reset that does not run, or of a den, is that reset's own work. -/
theorem resetReq_runs {mine : Nat → Bool} {run : ResetDom → State → Ans × State} {level : Nat} (h : s.serves q 0x3000 7 v)
    (hparse : (s.beginReq q v).parseReset v = .ok d) (hlevel : natAt v 0 1 = level) (hmine : mine level = true)
    (hidle : ((s.beginReq q v).resetRuns d && d.level != 1) = false) :
    resetReq mine q v run s = .next (finishReq s.dict.nextId q (run d (s.beginReq q v))) := by
  subst hlevel
  unfold resetReq
  rw [need_true _ _ _ hmine, requestOf_serves h rfl, hparse]
  dsimp only
  rw [hidle, if_neg Bool.false_ne_true]

theorem exec_denReset_stands {n : Nat} (h : s.serves q 0x3000 7 v) (hparse : (s.beginReq q v).parseReset v = .ok (.den n))
    (hlevel : natAt v 0 1 = 1) (hphase : ((s.beginReq q v).den n).phase = .running ∨ ((s.beginReq q v).den n).phase = .frozen) :
    exec (.denReset q v) s = .next (((s.beginReq q v).denFault n 0x120A).reply s.dict.nextId q kOk []) := by
  change execDenReset q v s = _
  unfold execDenReset
  rw [resetReq_runs h hparse hlevel rfl (Bool.and_false _)]
  dsimp only
  rcases hphase with hphase | hphase <;> rw [hphase, finish_done, occurs_next]

theorem exec_denReset_faulted {n : Nat} (h : s.serves q 0x3000 7 v) (hparse : (s.beginReq q v).parseReset v = .ok (.den n))
    (hlevel : natAt v 0 1 = 1) (hphase : ((s.beginReq q v).den n).phase = .faulted) :
    exec (.denReset q v) s = .next (((s.beginReq q v).resetDenEngines n 0x120A).reply s.dict.nextId q kOk []) := by
  change execDenReset q v s = _
  unfold execDenReset
  rw [resetReq_runs h hparse hlevel rfl (Bool.and_false _)]
  dsimp only
  rw [hphase, finish_done, occurs_next]

section
variable (h : s.serves q 0x3000 7 v) (hparse : (s.beginReq q v).parseReset v = .ok d) (hidle : (s.beginReq q v).resetRuns d = false)
include h hparse hidle

theorem exec_engineReset (hlevel : natAt v 0 1 = 2) :
    exec (.engineReset q v) s = .next (((s.beginReq q v).beginReset d 0).reply s.dict.nextId q kOk []) := by
  change execEngineReset q v s = _
  unfold execEngineReset
  rw [resetReq_runs h hparse hlevel rfl (by rw [hidle, Bool.false_and]), finish_done, occurs_next]

theorem exec_halfReset (hlevel : natAt v 0 1 = 3) {half : Half} (hd : d = .half half) :
    exec (.halfReset q v) s = .next (((s.beginReq q v).beginHalf half 0 0x1202).reply s.dict.nextId q kOk []) := by
  subst hd
  change execHalfReset q v s = _
  unfold execHalfReset
  rw [resetReq_runs h hparse hlevel rfl (by rw [hidle, Bool.false_and]), finish_done, occurs_next]

theorem exec_chipReset_request (hlevel : natAt v 0 1 = 4) :
    exec (.chipReset (.request q v)) s = .next (((s.beginReq q v).beginReset .chip 0).reply s.dict.nextId q kOk []) := by
  change execChipReset (.request q v) s = _
  unfold execChipReset
  dsimp only
  rw [resetReq_runs h hparse hlevel rfl (by rw [hidle, Bool.false_and]), finish_done, occurs_next]

theorem exec_moduleReset (hlevel : natAt v 0 1 = 5) :
    exec (.moduleReset q v) s = .next (((s.beginReq q v).beginReset d 0).reply s.dict.nextId q kOk []) := by
  change execModuleReset q v s = _
  unfold execModuleReset
  rw [resetReq_runs h hparse hlevel rfl (by rw [hidle, Bool.false_and]), finish_done, occurs_next]

end

end

/-! ### Resets that no request asks for (R676, R687, R698, R702) -/

section
variable {s : State}

theorem exec_chipReset_owed {c : Code} (hdue : s.chip.due = some c) (hidle : s.resetRuns .chip = false) :
    exec (.chipReset (.chip c)) s = .next (({ s with chip := { s.chip with due := none } } : State).beginReset .chip c) := by
  change execChipReset (.chip c) s = _
  unfold execChipReset
  dsimp only
  rw [need_true _ _ _ (by rw [hdue, hidle, beq_self_eq_true]; rfl), occurs_next]

theorem exec_linkOwlExpiry {l : LinkIx} (hup : s.linkUp l.val = true) (hheld : (s.link l.val).held ≠ []) :
    exec (.linkOwlExpiry l) s = .next (s.beginReset (.engine (.link l.val)) kTimeout) := by
  change execLinkOwlExpiry l s = _
  unfold execLinkOwlExpiry
  rw [need_true _ _ _ (by simp [hup, hheld]), occurs_next]

theorem exec_routerFault {p : Fin 132} {r : Fin 64} (hready : s.chip.phase = .ready)
    (hlive : s.repair.dead.contains (p.val, r.val) = false) : exec (.routerFault p r) s = .next (s.beginReset .chip 0) := by
  change execRouterFault p r s = _
  unfold execRouterFault
  rw [need_true _ _ _ (by rw [hready]; rfl), need_true _ _ _ (by rw [hlive]; rfl), occurs_next]

/-- A reset that begins runs, whether it ran before or not (R689). -/
theorem beginReset_runs (s : State) (d : ResetDom) (c : Code) : (s.beginReset d c).resetRuns d = true := by
  unfold State.beginReset
  split
  · assumption
  · simp [State.resetRuns]

/-- A secondary core halts, and its reset begins (R687, R702). -/
theorem exec_settHeartbeatExpiry_secondary {c : Fin 4} (hbooted : s.settBooted = true) (hruns : s.repair.halted.contains c.val = false)
    (hhalf : coreHalf c.val ≠ s.primaryHalf) :
    Completes (exec (.settHeartbeatExpiry c) s) fun r => r.resetRuns (.engine (.sett c.val)) := by
  change Completes (execSettHeartbeatExpiry c s) _
  unfold execSettHeartbeatExpiry
  dsimp only
  rw [need_true _ _ _ (by rw [hbooted, hruns]; rfl)]
  split
  next hprimary => exact absurd hprimary hhalf
  next => exact ⟨_, rfl, beginReset_runs _ _ _⟩

/-- A primary core halts, and no reset begins (R698). -/
theorem exec_settHeartbeatExpiry_primary {c : Fin 4} (hbooted : s.settBooted = true) (hruns : s.repair.halted.contains c.val = false)
    (hhalf : coreHalf c.val = s.primaryHalf) :
    Completes (exec (.settHeartbeatExpiry c) s) fun r =>
      r.repair.halted = s.repair.halted ++ [c.val] ∧ r.repair.resets = s.repair.resets := by
  change Completes (execSettHeartbeatExpiry c s) _
  unfold execSettHeartbeatExpiry
  dsimp only
  rw [need_true _ _ _ (by rw [hbooted, hruns]; rfl)]
  split
  next =>
    refine ⟨_, rfl, ?_⟩
    split <;> exact ⟨rfl, rfl⟩
  next hsecondary => exact absurd hhalf hsecondary

end

/-- Settles O56: each request by its level, and the resets that the chip itself begins. -/
theorem resetRequests : Obligations.ResetRequests := by
  refine ⟨?_, fun s c => exec_chipReset_owed, fun s l => exec_linkOwlExpiry, fun s p r => exec_routerFault,
    fun s c hbooted hruns => ⟨exec_settHeartbeatExpiry_secondary hbooted hruns, exec_settHeartbeatExpiry_primary hbooted hruns⟩⟩
  · rintro s _ q v d h rfl hparse
    refine ⟨?_, fun hidle => ⟨exec_engineReset h hparse hidle, fun hlevel half => exec_halfReset h hparse hidle hlevel,
      exec_chipReset_request h hparse hidle, exec_moduleReset h hparse hidle⟩⟩
    rintro hlevel n rfl
    exact ⟨exec_denReset_stands h hparse hlevel, exec_denReset_faulted h hparse hlevel⟩

end Sys2Proof.Proofs
end

section
/-! PROOFS. The end of resets, and the leases, as commands (R688 to R690, R695 to R701, R717). -/

namespace Sys2Proof.Proofs

open Sys2Proof Sys2Proof.Machine Sys2Proof.Laws

/-! ### What a sample leaves (R695, R696) -/

section
variable {β : Type} {F : State → β} (hfree : ∀ s n, F (s.freeBytes n).2 = F s)
  (hread : ∀ s ms kind n a m, F (s.areaRead ms kind n a m).2.2 = F s)
include hfree hread

/-- What neither a free value nor a read of an area changes, a tile's record does not. -/
theorem recordParts_keeps (s : State) (ms : List LineMeet) (t shaft : Nat) (full : Bool) :
    F (s.recordParts ms t shaft full).2.2 = F s := by
  have hparts : ∀ (l : List (Nat × Nat)) (acc : List (Nat × List Byte) × State),
      F (l.foldl (fun (acc : List (Nat × List Byte) × State) p => (acc.1 ++ [(p.1, (acc.2.freeBytes p.2).1)], (acc.2.freeBytes p.2).2))
        acc).2 = F acc.2 := fun l acc =>
    foldl_keeps_of (fun acc : List (Nat × List Byte) × State => F acc.2) _ l acc fun acc p => hfree ..
  unfold State.recordParts
  dsimp only
  exact (hread ..).trans ((hparts _ _).trans (hfree ..))

/-- What besides no write to the host and no source changes, a sample does not. -/
theorem sample_keeps (hemit : ∀ s x, F (State.emit s x) = F s) (hraise : ∀ s n, F (State.raise s n) = F s) (s : State) (d : ResetDom)
    (refused : Option Nat) : F (s.sample d refused) = F s := by
  have hlast : ∀ u : State, F (if refused.isNone then u.raise 1953 else u) = F u := fun u => by
    split
    · exact hraise u 1953
    · rfl
  unfold State.sample
  obtain ⟨control, hcontrol⟩ : ∃ n, n = 4096 := ⟨_, rfl⟩
  rw [← hcontrol]
  extract_lets cfg len bit tiles addr pasid coords record
  have hrecord : ∀ acc p, F (record acc p).2 = F acc.2 := fun acc p => recordParts_keeps hfree hread acc.2 [] p.2 0 true
  split
  · rfl
  · dsimp only
    rw [hlast, foldl_keeps F _ _ _ fun u w => hemit u _,
      foldl_keeps_of (fun acc : List (Nat × List Byte) × State => F acc.2) record _ _ hrecord, hfree, hfree]

end

theorem sample_chip (s : State) (d : ResetDom) (refused : Option Nat) : (s.sample d refused).chip = s.chip :=
  sample_keeps (fun _ _ => by simp) (fun _ _ _ _ _ _ => by simp) (fun _ _ => rfl) (fun _ _ => rfl) s d refused

/-- Commits that are cut short put back values of the dictionary (R446). -/
theorem cutCommits_chip (s : State) : s.cutCommits.chip = s.chip := by
  refine (foldl_keeps State.chip _ _ _ fun u (c : Commit) => ?_).trans (by simp)
  exact foldl_keeps State.chip _ _ _ fun _ _ => by simp

theorem clearLogic_chip (s : State) : s.clearLogic.chip = s.chip := cutCommits_chip s

/-- The logic that a chip reset leaves: no dictionary, no den, and bring-up begun where neither the rails nor PERST# stand in its way
(R716, R717). -/
theorem resetChip_boots {s : State} {times : List Nat} (hrails : s.chip.resequence = false) (hperst : s.chip.perst = false)
    (htimes : s.chip.resetTimes = times) :
    s.resetChip.chip.phase = .boot 0 ∧ s.resetChip.dict.ready = false ∧ s.resetChip.dens = [] ∧
      s.resetChip.chip.resetTimes = times := by
  refine ⟨?_, rfl, rfl, ((congrArg Chip.resetTimes (clearLogic_chip s)).trans htimes :)⟩
  change (if s.clearLogic.chip.resequence then ChipPhase.sequencing 0 else if s.clearLogic.chip.perst then .held else .boot 0) = _
  rw [clearLogic_chip, hrails, hperst]
  rfl

/-- PERST# holds a chip that is reset while it is asserted (R717). -/
theorem resetChip_held {s : State} (hrails : s.chip.resequence = false) (hperst : s.chip.perst = true) :
    s.resetChip.chip.perst = true ∧ s.resetChip.chip.phase = .held := by
  refine ⟨((congrArg Chip.perst (clearLogic_chip s)).trans hperst :), ?_⟩
  change (if s.clearLogic.chip.resequence then ChipPhase.sequencing 0 else if s.clearLogic.chip.perst then .held else .boot 0) = _
  rw [clearLogic_chip, hrails, hperst]
  rfl

/-! ### The end of the drain (R689, R690, R717) -/

section
variable {s : State} {i : Nat} {x : Reset} (ms : BitVec 32)

section
variable (refused : Option Nat) (hreset : s.repair.resets[i]? = some x) (hdrain : x.draining = true)
include hreset hdrain

theorem exec_drainLimitExpiry_engine {e : EngineIx} (hdom : x.dom = .engine e) : exec (.drainLimitExpiry i ms refused) s =
    .next ((s.resetEngine e).setReset i { x with draining := false }) := by
  change execDrainLimitExpiry i ms refused s = _
  unfold execDrainLimitExpiry
  rw [needSome_some hreset, need_true _ _ _ hdrain, hdom]
  rfl

theorem exec_drainLimitExpiry_half {h : Half} (hdom : x.dom = .half h) : exec (.drainLimitExpiry i ms refused) s =
    .next (((s.sample x.dom refused).resetHalf h).setReset i { x with draining := false }) := by
  change execDrainLimitExpiry i ms refused s = _
  unfold execDrainLimitExpiry
  rw [needSome_some hreset, need_true _ _ _ hdrain, hdom]
  rfl

theorem exec_drainLimitExpiry_den {n : Nat} (hdom : x.dom = .den n) : exec (.drainLimitExpiry i ms refused) s =
    .next (((s.resetDen n x.cause).sample x.dom refused).setReset i { x with draining := false }) := by
  have hcode : x.code = x.cause := by rw [Reset.code, hdom]
  change execDrainLimitExpiry i ms refused s = _
  unfold execDrainLimitExpiry
  rw [needSome_some hreset, need_true _ _ _ hdrain, hcode, hdom]
  rfl

theorem exec_drainLimitExpiry_module (hdom : x.dom = .module) : exec (.drainLimitExpiry i ms refused) s =
    .next ((s.dropReset i).cycleTray x.cause ms.toNat) := by
  change execDrainLimitExpiry i ms refused s = _
  unfold execDrainLimitExpiry
  rw [needSome_some hreset, need_true _ _ _ hdrain, hdom]
  rfl

/-- A third counted chip reset within 60 s is a reset of the module. -/
theorem exec_drainLimitExpiry_tray (hdom : x.dom = .chip) (hcounted : x.counted = true)
    (hnear : 2 ≤ (s.chip.resetTimes.filter fun t => decide (ms.toNat ≤ t + 60000)).length) :
    Completes (exec (.drainLimitExpiry i ms refused) s) fun r => r.chip.trayReq = true := by
  change Completes (execDrainLimitExpiry i ms refused s) _
  unfold execDrainLimitExpiry
  rw [needSome_some hreset, need_true _ _ _ hdrain, hdom]
  dsimp only
  rw [if_pos (by rw [hcounted, decide_eq_true hnear]; rfl)]
  exact ⟨_, rfl, rfl⟩

/-- The first counted chip reset resets the logic and keeps its time. -/
theorem exec_drainLimitExpiry_chip (hdom : x.dom = .chip) (hcounted : x.counted = true) (htimes : s.chip.resetTimes = [])
    (hrails : s.chip.resequence = false) (hperst : s.chip.perst = false) :
    Completes (exec (.drainLimitExpiry i ms refused) s) fun r => r.chip.phase = .boot 0 ∧ r.dict.ready = false ∧ r.dens = [] ∧
      r.chip.resetTimes = [ms.toNat] := by
  change Completes (execDrainLimitExpiry i ms refused s) _
  unfold execDrainLimitExpiry
  rw [needSome_some hreset, need_true _ _ _ hdrain, hdom]
  dsimp only
  rw [if_neg (by rw [htimes]; simp), hcounted, sample_chip, htimes]
  exact ⟨_, rfl, resetChip_boots hrails hperst rfl⟩

end

/-! ### Return and escalation (R688, R689) -/

section
variable (f : HalfFacts) (hreset : s.repair.resets[i]? = some x) (hdone : x.draining = false)
include hreset hdone

theorem exec_returnToService_den {n : Nat} (hdom : x.dom = .den n) : exec (.returnToService i ms f) s =
    .next (((s.dropReset i).logReset x.dom x.cause 0 ms.toNat).raise 1947).freePhase := by
  change execReturnToService i ms f s = _
  unfold execReturnToService
  rw [needSome_some hreset, need_true _ _ _ (by rw [hdone]; rfl), hdom]
  rfl

theorem exec_returnToService_engine {e : EngineIx} (hdom : x.dom = .engine e) : exec (.returnToService i ms f) s =
    .next (((s.dropReset i).logReset x.dom x.cause 0 ms.toNat).raise 1948).freePhase := by
  change execReturnToService i ms f s = _
  unfold execReturnToService
  rw [needSome_some hreset, need_true _ _ _ (by rw [hdone]; rfl), hdom]
  rfl

theorem exec_returnToService_half {h : Half} (hdom : x.dom = .half h) (harrays : (s.returnHalf h f).settShort h = false) :
    exec (.returnToService i ms f) s =
      .next ((((s.returnHalf h f).dropReset i).logReset x.dom x.cause 0 ms.toNat).raise 1949).freePhase := by
  change execReturnToService i ms f s = _
  unfold execReturnToService
  rw [needSome_some hreset, need_true _ _ _ (by rw [hdone]; rfl), hdom]
  dsimp only
  rw [harrays, need_true _ (!(false && _)) _ rfl, if_neg Bool.false_ne_true]
  rfl

end

section
variable (hreset : s.repair.resets[i]? = some x) (hready : s.chip.phase = .ready)
include hreset hready

theorem exec_escalationOwlExpiry_half {h : Half} (hdom : x.dom = .half h) : exec (.escalationOwlExpiry (some i) ms) s =
    .next ((((s.dropReset i).logReset x.dom x.cause 1 ms.toNat).raise 1954).beginReset .chip x.cause) := by
  change execEscalationOwlExpiry (some i) ms s = _
  unfold execEscalationOwlExpiry
  dsimp only
  rw [needSome_some hreset, need_true _ _ _ (by rw [hready]; rfl), hdom]
  rfl

theorem exec_escalationOwlExpiry_chip (hdom : x.dom = .chip) : exec (.escalationOwlExpiry (some i) ms) s =
    .next ((((s.dropReset i).logReset x.dom x.cause 1 ms.toNat).raise 1954).cycleTray x.cause ms.toNat) := by
  change execEscalationOwlExpiry (some i) ms s = _
  unfold execEscalationOwlExpiry
  dsimp only
  rw [needSome_some hreset, need_true _ _ _ (by rw [hready]; rfl), hdom]
  rfl

end

theorem exec_escalationOwlExpiry_bringUp {n : Nat} (hboot : s.chip.phase = .boot n) (hidle : s.resetRuns .chip = false) :
    exec (.escalationOwlExpiry none ms) s = .next ((s.raise 1954).cycleTray 0 ms.toNat) := by
  change execEscalationOwlExpiry none ms s = _
  unfold execEscalationOwlExpiry
  dsimp only
  rw [need_true _ _ _ (by rw [hboot, hidle]; rfl), occurs_next]

end

/-- Settles O57: the end of a drain, a return and an escalation, each by the domain of its reset. -/
theorem resetEnds : Obligations.ResetEnds := by
  exact ⟨fun s i x ms refused hreset hdrain => ⟨fun e => exec_drainLimitExpiry_engine ms refused hreset hdrain,
      fun h => exec_drainLimitExpiry_half ms refused hreset hdrain, fun n => exec_drainLimitExpiry_den ms refused hreset hdrain,
      exec_drainLimitExpiry_module ms refused hreset hdrain, exec_drainLimitExpiry_tray ms refused hreset hdrain,
      exec_drainLimitExpiry_chip ms refused hreset hdrain⟩,
    fun s i x ms f hreset hdone => ⟨fun n => exec_returnToService_den ms f hreset hdone,
      fun e => exec_returnToService_engine ms f hreset hdone, fun h => exec_returnToService_half ms f hreset hdone⟩,
    fun s i x ms hreset hready => ⟨fun h => exec_escalationOwlExpiry_half ms hreset hready,
      exec_escalationOwlExpiry_chip ms hreset hready⟩,
    fun s n ms => exec_escalationOwlExpiry_bringUp ms⟩

/-! ### The leases (R697 to R701) -/

theorem level_cond {s : State} {n : Nat} (cond : Bool) (hn : n ≠ 0) (hmax : n ≤ 2004) (hlevel : levelSource n = true) :
    ((s.level n cond).ic.src n).cond = cond := occur_cond hn hmax hlevel

theorem level_other {s : State} {n m : Nat} (cond : Bool) (h : m ≠ n) : (s.level n cond).ic.src m = s.ic.src m := occur_other h

section
variable {s : State}

/-- A renewal keeps the paths live on which it arrives (R698, R700). -/
theorem exec_leaseRenewal (seam aon : Bool) (hbooted : s.settBooted = true)
    (hcores : (coresOf s.primaryHalf).any s.repair.halted.contains = false) (hidle : s.resetRuns (.half s.primaryHalf) = false) :
    Completes (exec (.leaseRenewal seam aon) s) fun r =>
      r.repair.leaseCount = s.repair.leaseCount + 1 ∧ r.repair.seamLive = (s.repair.seamLive || seam) ∧
      r.repair.aonLive = (s.repair.aonLive || (aon && !s.repair.fenced)) ∧ (seam = true → (r.ic.src 1950).cond = false) := by
  change Completes (execLeaseRenewal seam aon s) _
  unfold execLeaseRenewal
  rw [need_true _ _ _ (by rw [hbooted, hcores, hidle]; rfl)]
  extract_lets a r' t core t₁ t₂
  have hrepair : (if a then t₂.level 1951 false else t₂).repair = r' := by
    have ht₁ : t₁.repair = r' := by unfold t₁; split <;> simp [t]
    have ht₂ : t₂.repair = t₁.repair := by unfold t₂; split <;> rfl
    split
    · exact ht₂.trans ht₁
    · exact ht₂.trans ht₁
  refine ⟨_, rfl, by rw [hrepair], by rw [hrepair], by rw [hrepair], fun hseam => ?_⟩
  have hsrc : (t₂.ic.src 1950).cond = false := by
    unfold t₂
    rw [if_pos hseam]
    exact level_cond false (by decide) (by decide) rfl
  split
  · exact (congrArg Src.cond (level_other false (by decide))).trans hsrc
  · exact hsrc

/-- The check of a secondary half that may act (R699, R701). -/
def leaseActs (s : State) : Prop := s.settBooted = true ∧ s.repair.fenced = false ∧
  (coresOf s.secondaryHalf).all s.repair.halted.contains = false ∧ s.resetRuns (.half s.secondaryHalf) = false

theorem leaseActs_guard (h : leaseActs s) : (s.settBooted && !s.repair.fenced && !(coresOf s.secondaryHalf).all s.repair.halted.contains &&
    !s.resetRuns (.half s.secondaryHalf)) = true := by
  obtain ⟨hbooted, hfenced, hcores, hidle⟩ := h
  rw [hbooted, hfenced, hcores, hidle]
  rfl

/-- While RESETTING is set the secondary waits (R701). -/
theorem exec_leaseCheck_resetting (a b : Bool) (h : leaseActs s) (hresetting : s.repair.resetting = true) :
    exec (.leaseCheck a b false) s = .next s := by
  change execLeaseCheck a b false s = _
  unfold execLeaseCheck
  dsimp only
  rw [need_true _ _ _ (leaseActs_guard h), if_pos (by rw [hresetting]; rfl), occurs_next]

theorem exec_leaseCheck_live (late : Bool) (h : leaseActs s) (hresetting : s.repair.resetting = false) :
    exec (.leaseCheck false false late) s = .next s := by
  change execLeaseCheck false false late s = _
  unfold execLeaseCheck
  dsimp only
  rw [need_true _ _ _ (leaseActs_guard h), hresetting, if_neg (by simp), if_neg (by decide), if_neg (by decide), if_neg (by decide),
    occurs_next]

/-- With both paths lapsed the secondary fences the primary, and a chip reset is owed (R699). -/
theorem exec_leaseCheck_both (late : Bool) (h : leaseActs s) (hresetting : s.repair.resetting = false) :
    Completes (exec (.leaseCheck true true late) s) fun r => r.repair.fenced = true ∧ r.chip.due = some 0x1205 := by
  change Completes (execLeaseCheck true true late s) _
  unfold execLeaseCheck
  dsimp only
  rw [need_true _ _ _ (leaseActs_guard h), hresetting, if_neg (by simp), if_pos (by decide)]
  exact ⟨_, rfl, rfl, rfl⟩

theorem exec_leaseCheck_aon (late : Bool) (h : leaseActs s) (hresetting : s.repair.resetting = false) :
    exec (.leaseCheck false true late) s = .next (s.lapse false) := by
  change execLeaseCheck false true late s = _
  unfold execLeaseCheck
  dsimp only
  rw [need_true _ _ _ (leaseActs_guard h), hresetting, if_neg (by simp), if_neg (by decide), if_neg (by decide), if_pos rfl, occurs_next]

/-- With the seam's path lapsed the slots astride the seam are FAULTED (R699). -/
theorem exec_leaseCheck_seam (late : Bool) (h : leaseActs s) (hresetting : s.repair.resetting = false) (hdens : s.dens = []) :
    exec (.leaseCheck true false late) s = .next (s.lapse true) := by
  change execLeaseCheck true false late s = _
  unfold execLeaseCheck
  dsimp only
  rw [need_true _ _ _ (leaseActs_guard h), hresetting, hdens, if_neg (by simp), if_neg (by decide), if_pos rfl]
  cases s.repair.seamLive <;> rfl

end

/-- Settles O58: a renewal, and the check by what has lapsed. -/
theorem leases : Obligations.Leases := by
  refine ⟨fun s seam aon => exec_leaseRenewal seam aon, fun s a b late hbooted hfenced hcores hidle => ?_⟩
  have h : leaseActs s := ⟨hbooted, hfenced, hcores, hidle⟩
  refine ⟨?_, ?_, ?_, ?_, ?_⟩
  · rintro hresetting rfl
    exact exec_leaseCheck_resetting a b h hresetting
  · rintro hresetting rfl rfl
    exact exec_leaseCheck_live late h hresetting
  · rintro hresetting rfl rfl
    exact exec_leaseCheck_both late h hresetting
  · rintro hresetting rfl rfl
    exact ⟨_, exec_leaseCheck_aon late h hresetting, rfl, level_cond true (by decide) (by decide) rfl, rfl⟩
  · rintro hresetting rfl rfl hdens
    exact ⟨_, exec_leaseCheck_seam late h hresetting hdens, rfl, level_cond true (by decide) (by decide) rfl⟩

end Sys2Proof.Proofs
end

section
/-! PROOFS. Bring-up as commands, from the supply to a dictionary that answers (R707 to R717, R724). -/

namespace Sys2Proof.Proofs

open Sys2Proof Sys2Proof.Machine Sys2Proof.Laws

/-! ### The supply (R624, R640, R707, R708) -/

/-- Receipts and the end of tenures leave the Meter's supply as it is (R624, R640). -/
def meterSupply (s : State) : Bool × Nat := (s.meter.powered, s.meter.powerCycles)

theorem issuePart_meterSupply (s : State) (kind part parts start end_ flags unm : Nat) (entries : List (List Byte)) :
    meterSupply (s.issuePart kind part parts start end_ flags unm entries) = meterSupply s := by
  obtain ⟨rs, hmeter⟩ := issuePart_meter s kind part parts start end_ flags unm entries
  rw [meterSupply, hmeter]
  rfl

theorem closeTenure_meterSupply (s : State) (t : Tenure) : meterSupply (s.closeTenure t) = meterSupply s :=
  foldl_keeps meterSupply _ _ _ fun s _ => issuePart_meterSupply s ..

theorem closeAll_meterSupply (s : State) : meterSupply s.closeAll = meterSupply s :=
  foldl_keeps meterSupply _ _ _ fun s t => closeTenure_meterSupply s t

theorem settleMeter_reg_other (s : State) {ix el : Nat} (hel : el < 256) (hix : ix ≠ 0x1C00) :
    s.settleMeter.reg ix el = s.reg ix el :=
  setReg_reg_other s s.meter.stateCode (by decide) hel (by omega)

/-- The Meter starts on its own supply, which it counts (R624, R640). -/
theorem meterOn_supply (s : State) (off : Nat) :
    (s.meterOn off).meter.powered = true ∧ (s.meterOn off).meter.powerCycles = s.meter.powerCycles + 1 := by
  have hclosed := closeAll_meterSupply { s with meter := { s.meter with powered := true, powerCycles := s.meter.powerCycles + 1 } }
  exact ⟨congrArg Prod.fst hclosed, congrArg Prod.snd hclosed⟩

theorem meterOn_reg (s : State) (off : Nat) {ix el : Nat} (hel : el < 256) (hix : ix ≠ 0x1C00) :
    (s.meterOn off).reg ix el = s.reg ix el := by
  refine (settleMeter_reg_other _ hel hix).trans (reg_of_dict_eq ?_ ix el)
  simp

theorem exec_powerOn {s : State} (sel : Half) (off : Nat) (hdark : s.chip.phase = .dark) :
    Completes (exec (.powerOn sel off) s) fun r =>
      r.chip.phase = .sequencing 0 ∧ r.chip.primary = (match sel with | .west => 0 | .east => 1) ∧
      r.reg 0x0000 9 = (s.reg 0x0000 9 + 1) % 2 ^ 64 ∧ r.meter.powered = true ∧ r.meter.powerCycles = s.meter.powerCycles + 1 := by
  change Completes (execPowerOn sel off s) _
  unfold execPowerOn
  rw [need_true _ _ _ (by rw [hdark]; rfl)]
  obtain ⟨hpowered, hcycles⟩ := meterOn_supply (State.advanceIncarnation { s with chip :=
    { phase := .sequencing 0, primary := match sel with | .west => 0 | .east => 1, ended5 := s.chip.ended5, perst := s.chip.perst } }) off
  refine ⟨_, rfl, by simp [State.advanceIncarnation], by cases sel <;> simp [State.advanceIncarnation], ?_, hpowered, hcycles⟩
  exact (meterOn_reg _ off (by decide) (by decide)).trans (setReg_reg_same _ _ (by decide))

theorem exec_regulatorTimeout {s : State} (rail : Fin 15) :
    (s.chip.phase = .sequencing 0 → exec (.regulatorTimeout rail) s = .next ((s.setPhase (.sequencing 1)).bump 0x0250 2)) ∧
    (s.chip.phase = .sequencing 1 → exec (.regulatorTimeout rail) s = .next ((s.setPhase .rail13).bump 0x0250 2)) := by
  change (_ → execRegulatorTimeout rail s = _) ∧ (_ → execRegulatorTimeout rail s = _)
  unfold execRegulatorTimeout
  exact ⟨fun h => by rw [h]; rfl, fun h => by rw [h]; rfl⟩

theorem exec_perstDeassert {s : State} {n : Nat} (h : s.chip.phase = .sequencing n ∨ s.chip.phase = .held) :
    exec .perstDeassert s = .next (({ s with chip := { s.chip with perst := false } } : State).setPhase (.boot 0)) := by
  change execPerstDeassert s = _
  unfold execPerstDeassert
  rcases h with h | h <;> rw [h] <;> rfl

/-! ### PERST# (R505, R709, R717) -/

theorem exec_perstAssert_ready {s : State} (cold : Bool) (hready : s.chip.phase = .ready) (hidle : s.resetRuns .chip = false) :
    Completes (exec (.perstAssert cold) s) fun r => r.chip.perst = true ∧
      r.repair.resets = s.repair.resets ++ [{ dom := .chip, cause := 0, counted := false }] := by
  change Completes (execPerstAssert cold s) _
  unfold execPerstAssert
  dsimp only
  rw [hready]
  dsimp only
  rw [if_neg (by rw [Bool.not_eq_true]; exact hidle)]
  exact ⟨_, rfl, rfl, rfl⟩

theorem exec_perstAssert_boot {s : State} {n : Nat} (cold : Bool) (hboot : s.chip.phase = .boot n) (hrails : s.chip.resequence = false) :
    Completes (exec (.perstAssert cold) s) fun r => r.chip.perst = true ∧ r.chip.phase = .held := by
  change Completes (execPerstAssert cold s) _
  unfold execPerstAssert
  dsimp only
  rw [hboot]
  exact ⟨_, rfl, resetChip_held hrails rfl⟩

/-! ### The steps of R710 -/

section
variable {s : State}

theorem bootStep_runs {n : Nat} {k : Out State} (hphase : s.chip.phase = .boot n) (htrip : s.power.trip = false) :
    bootStep n s k = k := by
  unfold bootStep
  exact need_true _ _ _ (by rw [hphase, htrip, beq_self_eq_true]; rfl)

/-! #### The ROM (R593, R597, R680) -/

theorem marchSett_reg (s : State) (h : Half) (l : List SettNeed) {ix el : Nat} (hel : el < 256) (hne : ¬(ix = 0x0102 ∧ el = 4)) :
    (s.marchSett h l).reg ix el = s.reg ix el := by
  unfold State.marchSett
  dsimp only
  rw [setReg_reg_other _ _ (by decide) hel hne]
  refine foldl_keeps (fun s => s.reg ix el) _ _ _ fun s n => ?_
  split <;> rfl

/-- The state in which the ROM has marched the secure SRAM of both halves (R680). -/
def romMarched (s : State) (needs : Half → List SettNeed) : State := (s.marchSett .west (needs .west)).marchSett .east (needs .east)

theorem romMarched_reg (s : State) (needs : Half → List SettNeed) {ix el : Nat} (hel : el < 256) (hne : ¬(ix = 0x0102 ∧ el = 4)) :
    (romMarched s needs).reg ix el = s.reg ix el := by
  rw [romMarched, marchSett_reg _ _ _ hel hne, marchSett_reg _ _ _ hel hne]

theorem romMarched_trust (s : State) (needs : Half → List SettNeed) : (romMarched s needs).trust = s.trust := by simp [romMarched]

theorem romMarched_chip (s : State) (needs : Half → List SettNeed) : (romMarched s needs).chip = s.chip := by simp [romMarched]

/-- What ROM_BOOT derives rests on the fuses and the banks alone (R593, R597). -/
theorem deriveVault_of_eq {u : State} (htrust : u.trust = s.trust) (hlife : u.reg 0x0001 0 = s.reg 0x0001 0)
    (hrom : u.reg 0x0000 6 = s.reg 0x0000 6) (b : FwBank) : u.deriveVault b = s.deriveVault b := by
  unfold State.deriveVault
  rw [htrust, hlife, hrom]

theorem bootBank_of_eq {u : State} (htrust : u.trust = s.trust) (hfuse : u.reg 0x1801 4 = s.reg 0x1801 4) : u.bootBank = s.bootBank := by
  unfold State.bootBank State.bankOk
  rw [htrust, hfuse]

/-- The module once the ROM has seen which halves have arrays enough (R680). -/
def romReady (s : State) : State :=
  { s.settleWarn with power := { s.power with gain := 11 / 10 }
                      repair := { s.repair with halted := if s.settShort s.secondaryHalf then coresOf s.secondaryHalf else [] } }

/-- The bytes of the certificate that the ROM issues at boot (R593). -/
def romCert (s : State) : List Byte := ((s.freeBytes 2).2.freeBytes (1 + leNat (s.freeBytes 2).1 % 2048)).1

/-- The module with its keys, its certificate and a fresh nonce (R593, R607). -/
def romKeyed (s : State) : State :=
  let u := ({ s with fresh := s.fresh + 2 + (1 + leNat (s.freeBytes 2).1 % 2048) } : State).deriveKeys
    (s.trust.bank (s.bootBank.getD s.trust.activeB))
  State.freshNonce { u with dict := u.dict.setBlob 0x1800 2 (romCert s) }

theorem exec_romBoot {needs : List (Half × SettNeed)} {of_ : Half → List SettNeed} (hphase : s.chip.phase = .boot 0)
    (htrip : s.power.trip = false) (hof : of_ = fun h => (needs.filter fun p => p.1 == h).map (·.2)) :
    exec (.romBoot needs) s = occurs s (
      if (romReady (romMarched s of_)).settShort (romReady (romMarched s of_)).primaryHalf then
        .next ((romReady (romMarched s of_)).setPhase .recovery)
      else .next ((romKeyed (romReady (romMarched s of_))).setPhase (.boot 1))) := by
  change execRomBoot needs s = _
  unfold execRomBoot
  rw [bootStep_runs hphase htrip]
  extract_lets of u power v halted r w
  have hw : w = romReady (romMarched s of_) := by rw [hof]; rfl
  rw [hw]
  generalize romReady (romMarched s of_) = t
  unfold romKeyed
  rfl

/-- What ROM_BOOT leaves, by the state in which it has marched the arrays. -/
theorem romReady_settShort (s : State) (h : Half) : (romReady s).settShort h = s.settShort h := rfl

theorem romKeyed_vault (s : State) :
    (romKeyed (romReady s)).trust.vault = some (s.deriveVault (s.trust.bank (s.bootBank.getD s.trust.activeB))) ∧
      (romKeyed (romReady s)).trust.alias_.isSome := ⟨rfl, rfl⟩

theorem romKeyed_halted (s : State) : (romKeyed (romReady s)).power.gain = 11 / 10 ∧
    (romKeyed (romReady s)).repair.halted = if s.settShort s.secondaryHalf then coresOf s.secondaryHalf else [] := ⟨rfl, rfl⟩

theorem exec_romBoot_keyed {needs : List (Half × SettNeed)} {of_ : Half → List SettNeed} (hphase : s.chip.phase = .boot 0)
    (htrip : s.power.trip = false) (hof : of_ = fun h => (needs.filter fun p => p.1 == h).map (·.2))
    (harrays : (romMarched s of_).settShort s.primaryHalf = false) :
    Completes (exec (.romBoot needs) s) fun r => r.chip.phase = .boot 1 ∧ r.power.gain = 11 / 10 ∧
      r.repair.halted = (if (romMarched s of_).settShort s.secondaryHalf then coresOf s.secondaryHalf else []) ∧
      r.trust.vault = some (s.deriveVault (s.trust.bank (s.bootBank.getD s.trust.activeB))) ∧ r.trust.alias_.isSome := by
  have hchip := romMarched_chip s of_
  have htrust := romMarched_trust s of_
  have hlife := romMarched_reg s of_ (ix := 0x0001) (el := 0) (by decide) (by decide)
  have hrom := romMarched_reg s of_ (ix := 0x0000) (el := 6) (by decide) (by decide)
  have hfuse := romMarched_reg s of_ (ix := 0x1801) (el := 4) (by decide) (by decide)
  have hprimary : (romReady (romMarched s of_)).primaryHalf = s.primaryHalf := by
    change (romMarched s of_).primaryHalf = _
    rw [State.primaryHalf, State.primaryHalf, hchip]
  have hsecondary : (romMarched s of_).secondaryHalf = s.secondaryHalf := by rw [State.secondaryHalf, State.secondaryHalf, hchip]
  obtain ⟨hgain, hhalted⟩ := romKeyed_halted (romMarched s of_)
  obtain ⟨hvault, halias⟩ := romKeyed_vault (romMarched s of_)
  rw [hsecondary] at hhalted
  rw [bootBank_of_eq htrust hfuse, deriveVault_of_eq htrust hlife hrom, htrust] at hvault
  rw [exec_romBoot hphase htrip hof, hprimary, romReady_settShort, harrays, if_neg Bool.false_ne_true]
  exact ⟨_, rfl, rfl, hgain, hhalted, hvault, halias⟩

theorem exec_romBoot_recovery {needs : List (Half × SettNeed)} {of_ : Half → List SettNeed} (hphase : s.chip.phase = .boot 0)
    (htrip : s.power.trip = false) (hof : of_ = fun h => (needs.filter fun p => p.1 == h).map (·.2))
    (hshort : (romMarched s of_).settShort s.primaryHalf = true) :
    Completes (exec (.romBoot needs) s) fun r => r.chip.phase = .recovery := by
  have hprimary : (romReady (romMarched s of_)).primaryHalf = s.primaryHalf := by
    change (romMarched s of_).primaryHalf = _
    rw [State.primaryHalf, State.primaryHalf, romMarched_chip]
  rw [exec_romBoot hphase htrip hof, hprimary, romReady_settShort, if_pos hshort]
  exact ⟨_, rfl, rfl⟩

/-! #### Firmware, wells and cisterns (R287, R293, R597, R713) -/

theorem exec_firmwareRelease_none (hphase : s.chip.phase = .boot 1) (htrip : s.power.trip = false)
    (ha : s.trust.bankA.sigOk = false) (hb : s.trust.bankB.sigOk = false) :
    Completes (exec (.firmwareRelease [] []) s) fun r => r.chip.phase = .recovery := by
  have hbank : s.bootBank = none := by cases hactive : s.trust.activeB <;> simp [State.bootBank, State.bankOk, Trust.bank, hactive, ha, hb]
  change Completes (execFirmwareRelease [] [] s) _
  unfold execFirmwareRelease
  rw [bootStep_runs hphase htrip, hbank]
  exact ⟨_, rfl, rfl⟩

/-- The first wells are trained and zeroed, all but some of them well (R390, R713). -/
def trainWells (s : State) (bad : List Nat) (n : Nat) : State :=
  (List.range n).foldl (fun (s : State) w =>
    (s.setWell w { s.well w with data := [], bad := [], corrected := [], failed := [] }).setReg (0x300 + w) 0
      (if bad.contains w then 0 else 1)) s

theorem trainWells_succ (s : State) (bad : List Nat) (n : Nat) : trainWells s bad (n + 1) =
    ((trainWells s bad n).setWell n { (trainWells s bad n).well n with data := [], bad := [], corrected := [], failed := [] }).setReg
      (0x300 + n) 0 (if bad.contains n then 0 else 1) := by
  rw [trainWells, List.range_succ, List.foldl_append]
  rfl

theorem trainWells_well (s : State) (bad : List Nat) {w n : Nat} (h : w < n) :
    (trainWells s bad n).reg (0x300 + w) 0 = (if bad.contains w then 0 else 1) ∧ ((trainWells s bad n).well w).data = [] := by
  induction n with
  | zero => omega
  | succ n ih =>
    rw [trainWells_succ]
    obtain rfl | hne := eq_or_ne w n
    · exact ⟨setReg_reg_same _ _ (by decide), by rw [setReg_well, setWell_well_same]⟩
    · obtain ⟨hreg, hdata⟩ := ih (by omega)
      refine ⟨(setReg_reg_other _ _ (by decide) (by decide) (by omega)).trans hreg, ?_⟩
      rw [setReg_well, setWell_well, if_neg hne, hdata]

/-- The list of the numbers of some wells or cisterns has just these. -/
theorem contains_map_val {n : Nat} (l : List (Fin n)) (i : Fin n) : (l.map (·.val)).contains i.val = l.contains i := by
  rw [Bool.eq_iff_iff, List.contains_iff_mem, List.contains_iff_mem, List.mem_map]
  exact ⟨fun ⟨j, hj, hji⟩ => Fin.ext hji ▸ hj, fun hi => ⟨i, hi, rfl⟩⟩

theorem exec_wellTraining {failed : List WellIx} (hphase : s.chip.phase = .boot 2) (htrip : s.power.trip = false) :
    exec (.wellTraining failed []) s = .next ((trainWells s (failed.map (·.val)) 16).setPhase (.boot 3)) := by
  change execWellTraining failed [] s = _
  unfold execWellTraining
  rw [bootStep_runs hphase htrip]
  unfold trainWells
  generalize List.range 16 = wells
  rfl

/-- The first cisterns have a fresh key in slot 0 and read as zeros (R293, R297, R713). -/
def trainCisterns (s : State) (bad : List Nat) (key : BitVec 256) (n : Nat) : State :=
  (List.range n).foldl (fun (s : State) c =>
    (s.setCis c ({ retired := (s.cis c).retired, key0 := some key } : Cistern).writeTree).setReg (0x320 + c) 0
      (if bad.contains c then 2 else 1)) s

theorem trainCisterns_succ (s : State) (bad : List Nat) (key : BitVec 256) (n : Nat) : trainCisterns s bad key (n + 1) =
    ((trainCisterns s bad key n).setCis n ({ retired := ((trainCisterns s bad key n).cis n).retired, key0 := some key } :
      Cistern).writeTree).setReg (0x320 + n) 0 (if bad.contains n then 2 else 1) := by
  rw [trainCisterns, List.range_succ, List.foldl_append]
  rfl

theorem trainCisterns_cis (s : State) (bad : List Nat) (key : BitVec 256) {c n : Nat} (h : c < n) :
    (trainCisterns s bad key n).reg (0x320 + c) 0 = (if bad.contains c then 2 else 1) ∧
      ((trainCisterns s bad key n).cis c).key0 = some key ∧ ((trainCisterns s bad key n).cis c).key1 = none := by
  induction n with
  | zero => omega
  | succ n ih =>
    rw [trainCisterns_succ]
    obtain rfl | hne := eq_or_ne c n
    · exact ⟨setReg_reg_same _ _ (by decide), congrArg Cistern.key0 (setCis_cis_same ..), congrArg Cistern.key1 (setCis_cis_same ..)⟩
    · obtain ⟨hreg, hkeys⟩ := ih (by omega)
      refine ⟨(setReg_reg_other _ _ (by decide) (by decide) (by omega)).trans hreg, ?_⟩
      have hcis : (((trainCisterns s bad key n).setCis n ({ retired := ((trainCisterns s bad key n).cis n).retired, key0 := some key } :
        Cistern).writeTree).setReg (0x320 + n) 0 (if bad.contains n then 2 else 1)).cis c = (trainCisterns s bad key n).cis c :=
        (setCis_cis ..).trans (if_neg hne)
      rw [hcis]
      exact hkeys

theorem exec_cisternTraining {failed : List CisIx} (hphase : s.chip.phase = .boot 3) (htrip : s.power.trip = false)
    (hseam : s.seam.trained = true) : exec (.cisternTraining failed) s = .next ((trainCisterns (s.freeBytes 32).2 (failed.map (·.val))
      (BitVec.ofNat 256 (leNat (s.freeBytes 32).1)) 32).setPhase (.boot 4)) := by
  change execCisternTraining failed s = _
  unfold execCisternTraining
  rw [bootStep_runs hphase htrip, need_true _ _ _ hseam]
  rfl

/-! #### The repair map and the links (R363, R364, R673 to R677, R713) -/

theorem addPlace_dead (r : Repair) (p y : Nat) : (r.addPlace p y).dead = r.dead := rfl

theorem marchPlaces_dead (s : State) (l : List SramNeed) : (s.marchPlaces l).repair.dead = s.repair.dead := by
  have htiles : (s.marchTiles l).2.repair.dead = s.repair.dead := by
    unfold State.marchTiles
    refine foldl_keeps_of (fun acc : List SramNeed × State => acc.2.repair.dead) _ _ _ fun acc n => ?_
    dsimp only
    split <;> rfl
  unfold State.marchPlaces
  exact (foldl_keeps_of Repair.dead _ _ _ fun r n => addPlace_dead ..).trans htiles

theorem applyRow_dead (s : State) (key : Nat) : (s.applyRow key).repair.dead = s.repair.dead := by
  unfold State.applyRow
  split
  · change (State.repair (List.foldl _ _ _)).dead = _
    exact congrArg Repair.dead (foldl_keeps State.repair _ _ _ fun s t => by simp)
  · rfl

/-- The routes leave out what they cannot reach with the routers that are dead (R363, R364). -/
theorem computeRoutes_repair (s : State) : s.computeRoutes.repair.dead = s.repair.dead ∧ s.computeRoutes.repair.routesStale = false ∧
    s.computeRoutes.repair.unreachable = s.computeRoutes.repair.lostRouters := ⟨rfl, rfl, rfl⟩

/-- A step that ends has its own phase and the repair state of its work. -/
theorem completes_setPhase {u : State} {p : ChipPhase} {P : Repair → Prop} (h : P u.repair) :
    Completes (occurs s (.next (u.setPhase p))) fun r => r.chip.phase = p ∧ P r.repair := ⟨_, rfl, rfl, h⟩

theorem exec_repairMapBuild {dead faulty : List (Fin 132 × Fin 64)} {f : MarchFacts} (hphase : s.chip.phase = .boot 4)
    (htrip : s.power.trip = false) (hsett : f.sett = []) :
    Completes (exec (.repairMapBuild dead faulty f) s) fun r => r.chip.phase = .boot 5 ∧
      r.repair.dead = (s.repair.dead ++ dead.map fun p => (p.1.val, p.2.val)).eraseDups ∧ r.repair.routesStale = false ∧
      r.repair.unreachable = r.repair.lostRouters := by
  change Completes (execRepairMapBuild dead faulty f s) _
  unfold execRepairMapBuild
  rw [bootStep_runs hphase htrip, need_true _ _ _ (by rw [hsett]; rfl)]
  generalize List.range 128 = rows
  generalize List.range 32 = places
  extract_lets t r₁ r₂ u v w floorOfCis x link
  have hr₁ : r₁.dead = s.repair.dead := (foldl_keeps_of Repair.dead _ _ _ fun r p => addPlace_dead ..).trans (marchPlaces_dead s f.needs)
  have hv : v.repair.dead = (s.repair.dead ++ dead.map fun p => (p.1.val, p.2.val)).eraseDups := by
    have hu : u.repair.dead = (r₁.dead ++ dead.map fun p => (p.1.val, p.2.val)).eraseDups := rfl
    rw [← hr₁, ← hu]
    exact foldl_keeps (fun s => s.repair.dead) State.applyRow rows u applyRow_dead
  have hx : x.repair = w.repair := foldl_keeps State.repair _ places w fun s c => by split <;> simp
  have hlinks : (places.foldl link x).repair = w.repair :=
    (foldl_keeps State.repair _ _ _ fun s l => by unfold link; (repeat' split) <;> simp).trans hx
  obtain ⟨hdead, hstale, hlost⟩ := computeRoutes_repair v.settleWarn
  exact completes_setPhase (P := fun r => r.dead = (s.repair.dead ++ dead.map fun p => (p.1.val, p.2.val)).eraseDups ∧
    r.routesStale = false ∧ r.unreachable = r.lostRouters) (hlinks ▸ ⟨hdead.trans hv, hstale, hlost⟩)

theorem exec_linkTrainingEnd {limit : Bool} (hphase : s.chip.phase = .boot 5) (htrip : s.power.trip = false)
    (hup : limit = true ∨ ∀ l < 32, s.reg (0x1000 + l) 0 ≠ 1) : exec (.linkTrainingEnd limit) s = .next (s.setPhase (.boot 6)) := by
  change execLinkTrainingEnd limit s = _
  unfold execLinkTrainingEnd
  rw [bootStep_runs hphase htrip]
  dsimp only
  rw [need_true _ _ _ (by simpa using hup), occurs_next]

/-! #### The dictionary answers (R465, R689, R713, R715) -/

/-- What tells that the dictionary answers: the phase, READY, the Sett, BRINGUP_MS and REG_PHASE. -/
def readyView (s : State) : ChipPhase × Bool × Bool × Nat × Nat :=
  (s.chip.phase, s.dict.ready, s.repair.settServes, s.reg 0x0000 0x0A, s.reg 0x2300 0)

theorem raise_readyView (s : State) (n : Nat) : readyView (s.raise n) = readyView s := rfl

theorem level_readyView (s : State) (n : Nat) (cond : Bool) : readyView (s.level n cond) = readyView s := rfl

/-- Registers of other objects do not show in it. -/
theorem setReg_readyView (s : State) {ix el : Nat} (v : Nat) (hel : el < 256) (hix : ix ≠ 0x0000 ∧ ix ≠ 0x2300) :
    readyView (s.setReg ix el v) = readyView s := by
  obtain ⟨hchip, hphase⟩ := hix
  have hms := setReg_reg_other s (jx := 0x0000) (fl := 0x0A) v hel (by decide) fun h => hchip h.1.symm
  have hphase := setReg_reg_other s (jx := 0x2300) (fl := 0) v hel (by decide) fun h => hphase h.1.symm
  rw [readyView, hms, hphase]
  rfl

theorem settleMeter_readyView (s : State) : readyView s.settleMeter = readyView s :=
  setReg_readyView s s.meter.stateCode (by decide) (by decide)

theorem settleWarn_readyView (s : State) : readyView s.settleWarn = readyView s := rfl

theorem logReset_readyView (s : State) (d : ResetDom) (cause : Code) (outcome ms : Nat) :
    readyView (s.logReset d cause outcome ms) = readyView s := by
  have hlevel : d.level - 1 < 256 := by cases d <;> simp [ResetDom.level]
  exact Eq.trans (setReg_readyView _ _ hlevel (by decide)) rfl

theorem endChipReset_readyView (s : State) (ms : Nat) : readyView (s.endChipReset ms) = readyView s := by
  unfold State.endChipReset
  split
  · exact Eq.trans (raise_readyView _ _) (Eq.trans (logReset_readyView _ _ _ _ _) rfl)
  · rfl

theorem applyLevel_readyView (s : State) : readyView s.applyLevel = readyView s := by
  unfold State.applyLevel
  extract_lets l p k u p' v
  have hu : readyView u = readyView s := by
    unfold u
    split
    · exact setReg_readyView s _ (by decide) (by decide)
    · rfl
  exact Eq.trans (foldl_keeps readyView _ _ v fun s n => rfl) hu

theorem trainPcie_reg (s : State) {ix el : Nat} (hel : el < 256) (hix : ix ≠ 0x1200) : s.trainPcie.reg ix el = s.reg ix el :=
  setReg_reg_other _ _ (by decide) hel (by omega)

theorem exec_dictReady {ms aon : BitVec 32} (hphase : s.chip.phase = .boot 6) (htrip : s.power.trip = false) :
    Completes (exec (.dictReady ms aon) s) fun r => r.chip.phase = .ready ∧ r.dict.ready = true ∧ r.repair.settServes = true ∧
      r.reg 0x0000 0x0A = ms.toNat ∧ r.reg 0x2300 0 = 1 := by
  change Completes (execDictReady ms aon s) _
  unfold execDictReady
  rw [bootStep_runs hphase htrip]
  extract_lets t owed five dict repair chip u v w x y z
  have hms : u.reg 0x0000 0x0A = ms.toNat :=
    (trainPcie_reg _ (by decide) (by decide)).trans
      ((setReg_reg_other _ 1 (by decide) (by decide) (by decide)).trans (setReg_reg_same _ _ (by decide)))
  have hphase : u.reg 0x2300 0 = 1 := (trainPcie_reg _ (by decide) (by decide)).trans (setReg_reg_same _ 1 (by decide))
  have hu : readyView u = (.ready, true, true, ms.toNat, 1) := by rw [readyView, hms, hphase]
  clear_value u
  have hv : readyView v = readyView u := foldl_keeps readyView _ owed u raise_readyView
  clear_value v
  have hw : readyView w = readyView v := endChipReset_readyView v _
  clear_value w
  have hx : readyView x = readyView w := by unfold x; split <;> rfl
  clear_value x
  have hy : readyView y = readyView x :=
    (level_readyView _ _ _).trans ((settleWarn_readyView _).trans ((level_readyView _ _ _).trans (settleMeter_readyView x)))
  have hlast (r : State) (h : readyView r = readyView y) : r.chip.phase = .ready ∧ r.dict.ready = true ∧ r.repair.settServes = true ∧
      r.reg 0x0000 0x0A = ms.toNat ∧ r.reg 0x2300 0 = 1 := by
    have hr := h.trans (hy.trans (hx.trans (hw.trans (hv.trans hu))))
    simpa [readyView] using hr
  split
  · exact ⟨_, rfl, hlast _ (applyLevel_readyView _)⟩
  · exact ⟨_, rfl, hlast _ rfl⟩

end

theorem setPhase_reg (s : State) (p : ChipPhase) (ix el : Nat) : (s.setPhase p).reg ix el = s.reg ix el := rfl

theorem setPhase_well (s : State) (p : ChipPhase) (w : Nat) : (s.setPhase p).well w = s.well w := rfl

theorem setPhase_cis (s : State) (p : ChipPhase) (c : Nat) : (s.setPhase p).cis c = s.cis c := rfl

/-- Settles O54: the supply, PERST#, and each step of R710. -/
theorem bringUp : Obligations.BringUp := by
  refine ⟨fun s sel off => exec_powerOn sel off, fun s rail => exec_regulatorTimeout rail, fun s n => exec_perstDeassert,
    fun s cold => ⟨exec_perstAssert_ready cold, fun n => exec_perstAssert_boot cold⟩, ?_,
    fun s hphase htrip => ⟨fun hactive hsig hsvn => ?_, exec_firmwareRelease_none hphase htrip⟩,
    fun s failed hphase htrip => ⟨_, exec_wellTraining hphase htrip, rfl, fun w => ?_⟩,
    fun s failed hphase htrip hseam => ⟨_, exec_cisternTraining hphase htrip hseam, rfl, fun c => ?_⟩,
    fun s dead faulty f => exec_repairMapBuild,
    fun s hphase htrip => ⟨exec_linkTrainingEnd hphase htrip (.inl rfl), fun hup => exec_linkTrainingEnd hphase htrip (.inr hup)⟩,
    fun s ms aon => exec_dictReady⟩
  · rintro s _ needs of_ hphase htrip hof rfl
    exact ⟨exec_romBoot_keyed hphase htrip hof, exec_romBoot_recovery hphase htrip hof⟩
  · refine completes_mono (exec_firmwareRelease [] hphase htrip hactive hsig hsvn) fun r hr => ?_
    obtain ⟨hboot, hruns, hversion, hsvn', -, -⟩ := hr
    exact ⟨hboot, hruns, hversion, hsvn'⟩
  · rw [setPhase_reg, setPhase_well, ← contains_map_val]
    exact trainWells_well s _ w.isLt
  · obtain ⟨hreg, hkey0, hkey1⟩ := trainCisterns_cis (s.freeBytes 32).2 (failed.map (·.val))
      (BitVec.ofNat 256 (leNat (s.freeBytes 32).1)) c.isLt
    rw [setPhase_reg, setPhase_cis, ← contains_map_val]
    exact ⟨hreg, Option.isSome_iff_exists.mpr ⟨_, hkey0⟩, hkey1⟩

end Sys2Proof.Proofs
end

section
/-! PROOFS. The frame of the units (O5): the answer to an RMW through a window raises the source of a well. -/

namespace Sys2Proof.Proofs
open Sys2Proof Sys2Proof.Machine Sys2Proof.Laws

/-- The den of `awaitsOld`, whose own shaft has two bad symbols in the line that the old value goes to (R225). -/
def awaitsOldAtBadLine : State := { awaitsOld with wells := [(0, { bad := [(0, 2)] })] }

/-- Whether the source of well 0 is pending, in the state that a command answers (R225, R280). -/
def wellPending : Act → Bool
  | .next t => (t.ic.src 1538).pend
  | _ => false

theorem wellPending_takesOld : wellPending (exec takesOld awaitsOldAtBadLine) = true := by decide +kernel

theorem wellPending_next {t : State} (h : t.ic = awaitsOldAtBadLine.ic) : wellPending (.next t) = false := by
  change (t.ic.src 1538).pend = false
  rw [h]
  rfl

/-- Refutes O5: the old value of one byte is written in part of a line, so the line is read first (R246); with two bad symbols
the read fails, and the well's controller raises its source (R225, R280). So PUMP_LINE_RESPONSE may change the interrupt controller,
and it is not among the commands listed for it. -/
theorem not_frameOfUnits : ¬ Obligations.FrameOfUnits := by
  unfold Obligations.FrameOfUnits
  intro h
  have hpend := wellPending_takesOld
  cases he : exec takesOld awaitsOldAtBadLine with
  | next t =>
    obtain ⟨-, -, -, -, -, -, hic, -⟩ := h takesOld awaitsOldAtBadLine t he
    rw [he, wellPending_next (hic rfl)] at hpend
    exact absurd hpend (by decide)
  | fault f => simp [he, wellPending] at hpend
  | refused r => simp [he, wellPending] at hpend

end Sys2Proof.Proofs
end
